-- ==== Sys2Proof/Word.lean ====
section
/-! DEFINITION. The word types of the model: bit vectors for what the spec treats as bits (register
contents, Prepolet registers, bytes of a structure in memory). Counts, indices and milestones are Nat. -/

namespace Sys2Proof

/-- A byte is 8 bits (R2). -/
abbrev Byte := BitVec 8

/-- A 32-bit word: vector lanes, 32-bit registers. -/
abbrev W32 := BitVec 32

/-- A 64-bit word: scalar registers, 64-bit registers. -/
abbrev W64 := BitVec 64

end Sys2Proof
end

