-- ==== Sys2Proof/Syntax.lean ====
section
/-! DEFINITION. The commands of the block: one constructor of `Instr` for each row of the operation and
event table, with the operands that say what arrives from outside the device (a register access, a command
descriptor, light on a fibre, a frame, a conversion, a record of the peer). -/

namespace Sys2Proof

/-- Kinds of object that drain (R55). -/
inductive ObjKind where
  | subch | term | unit | flow | domain
  deriving DecidableEq, Repr

/-- A plan context of a grant core (R129): core 0 to 103, context 0 to 3. -/
structure Site where
  core : Nat
  ctx : Nat
  deriving DecidableEq, Repr

/-- Fields of an instruction of format O (R163): fn is the whole field; an instruction whose fn bits do not
select it is not well formed. -/
structure FmtO where
  d : BitVec 5
  a : BitVec 5
  b : BitVec 5
  pr : BitVec 3
  fn : BitVec 8
  deriving DecidableEq, Repr

/-- Fields of an instruction of format I (R163). -/
structure FmtI where
  d : BitVec 5
  a : BitVec 5
  imm : BitVec 16
  deriving DecidableEq, Repr

/-- Fields of an instruction of format M (R163). -/
structure FmtM where
  d : BitVec 5
  base : BitVec 5
  pr : BitVec 3
  off : BitVec 13
  deriving DecidableEq, Repr

/-- Fields of an instruction of format B (R163). -/
structure FmtB where
  cond : BitVec 4
  pr : BitVec 3
  n : BitVec 19
  deriving DecidableEq, Repr

/-- A command as the device holds it: the descriptor of R237 with the ring it came on, its acceptance number
(R247) and the input bytes copied at acceptance (R239). -/
structure Desc where
  /-- ring 0 to 1,023 (R230) -/
  ring : Nat
  /-- acceptance number; 0 in a descriptor not yet accepted -/
  acc : Nat
  opcode : Nat
  /-- FLAGS byte: [0] FENCE, [1] QUIET, [7:2] zero -/
  flags : Nat
  /-- DOMAIN byte: [5:0] acting domain, [7:6] zero -/
  domain : Nat
  seq : W32
  keyClass : Nat
  keyIndex : Nat
  bufLen : Nat
  /-- EFFECT; 0 = earliest -/
  effect : Nat
  cookie : W64
  /-- BUF -/
  buf : Nat
  p0 : W32
  p1 : W32
  p2 : W32
  p3 : W32
  p4 : W32
  p5 : W32
  /-- input bytes: copied at acceptance (R239); for UPD_PIECE the bytes read when it executes (R472) -/
  inp : List Nat
  /-- the input buffer failed its check or is longer than 128 KiB (R239), or could not be read (R472) -/
  inpBad : Bool
  /-- upsets that the execution of the command meets: it is retried once (R258) -/
  upsets : Nat := 0
  deriving DecidableEq, Repr

/-- A register access (R225): function 0 (PF) or 1 to 63 (VF), BAR 0 or 2, byte offset and width. -/
structure Access where
  fn : Nat
  bar : Nat
  off : Nat
  width : Nat
  deriving DecidableEq, Repr

/-- What the receive side observes of one granted burst (R61, R79 to R92). -/
structure BurstRx where
  /-- the signal-detect input stood high at some time in the granted slot, or low (R81) -/
  sdHigh : Bool
  sdLow : Bool
  /-- its level at the end: true is high -/
  sdNow : Bool
  /-- the DSP saw amplitude above its threshold (R81) -/
  amp : Bool
  /-- light of another terminal overlapped the burst -/
  overlap : Bool
  /-- the receiver locked -/
  lock : Bool
  /-- the delimiter was found -/
  delim : Bool
  /-- offset of the delimiter from its granted position, upstream bits -/
  offset : Int
  /-- the burst's checks passed (FEC, header errors) -/
  clean : Bool
  /-- the receive side was out of service, or the channel unit failed during the burst -/
  lost : Bool
  /-- words of the record refined from the lock (R87): WORD0 and WORD1 -/
  word0 : W64
  word1 : W64
  /-- status reports that pass their check: allocation index and occupancy in grant units (R138) -/
  reports : List (Nat × Nat)
  /-- status reports that fail their check (R138) -/
  rptBad : Nat
  /-- codewords decoded, corrected and uncorrectable, headers uncorrectable (R95 RX_CNT), and FEC symbols corrected
  (R510 CODE_ERR) -/
  fec : List Nat
  deriving DecidableEq, Repr

/-- A serial-number response (R102, R119): serial number, arrival after the window's milestone in 1/16 ns, and
whether it overlapped another one so that neither is decoded. -/
structure SnRsp where
  serial : Nat
  t : Nat
  collided : Bool
  deriving DecidableEq, Repr

/-- A registration response in a ranging window (R106): arrival in 1/16 ns, registration ID, record words. -/
structure RegRsp where
  t : Nat
  regId : List Nat
  word0 : W64
  word1 : W64
  deriving DecidableEq, Repr

/-- A cipher request of one chunk (R350, R355): tree die 0 to 3, or trunk die 0 and 1, the unit that serves
it, the slot, the direction, the packet number of a MACsec frame (the counter of a PON frame follows from the milestone),
the chunk's first block and its bytes. -/
structure ChunkReq where
  trunk : Bool
  die : Nat
  unit : Nat
  slot : Nat
  up : Bool
  ctr : Nat
  block : Nat
  bytes : List Nat
  /-- round parity failed: the unit that computes the chunk once more, and whether it fails there too -/
  retry : Option (Nat × Bool)
  deriving DecidableEq, Repr

/-- Light seen at a sub-channel's receiver (R121): from `a` to `b`, in 1/16 ns after the milestone. -/
structure LightSpan where
  a : Nat
  b : Nat
  deriving DecidableEq, Repr

/-- One direction of a die-to-die module (R25): module `m` of its die, direction `r` (0 or 1). -/
structure ModuleDir where
  m : Nat
  r : Nat
  deriving DecidableEq, Repr

/-- What an uncorrectable HBM read was for (R343): a frame's data in a buffer, the header of a free list's head, each
with whether its region is already copied to the spare (R344); or the system region. -/
inductive HbmRead where
  | frame (pool buf : Nat) (copied : Bool)
  | header (pool : Nat) (copied : Bool)
  | system
  deriving DecidableEq, Repr

/-- A VLAN tag of a frame: TPID, PCP, DEI and VID. -/
structure VlanTag where
  tpid : Nat
  pcp : Nat
  dei : Bool
  vid : Nat
  deriving DecidableEq, Repr

/-- What the SecTAG of a received frame says and how its ICV checks (R361): association number, SCI where it is included,
packet number recovered to 64 bits, E and C bits set (the data is enciphered), and whether the ICV is right. -/
structure SecTag where
  an : Nat
  sci : Option W64
  pn : Nat
  enc : Bool
  icv : Bool
  deriving DecidableEq, Repr

/-- A frame from an uplink port (R304, R308). -/
structure UpFrame where
  u : Nat
  len : Nat
  fcsOk : Bool
  ctrl : Bool
  /-- none without a SecTAG -/
  sec : Option SecTag
  /-- its VLAN tags, outer tag first -/
  tags : List VlanTag
  da : Nat
  sa : Nat
  etype : Nat
  /-- a PTP message in a mapping of R380 (false) or an ESMC frame, EtherType 0x8809 and subtype 0x0A (true) -/
  timing : Option Bool
  /-- codewords corrected and uncorrectable on the port since its previous frame (R507 PORT_CNT) -/
  codewords : Nat × Nat
  /-- FEC symbols corrected and codewords uncorrectable since then, lane by lane (R510 LANE_CNT) -/
  lanes : List (Nat × Nat)
  deriving DecidableEq, Repr

/-- A frame from a flow's upstream (R310). -/
structure DnFrame where
  sc : Nat
  /-- the burst that carried it: roadbook, burst and allocation -/
  m : Nat
  burst : Nat
  alloc : Nat
  xgem : Nat
  /-- key index of the XGEM header, 0 to 2 (R359) -/
  key : Nat
  len : Nat
  /-- its VLAN tags, outer tag first -/
  tags : List VlanTag
  da : Nat
  sa : Nat
  /-- its last XGEM fragment: the bytes of one that is not wait for the rest (R69, R70) -/
  last : Bool := true
  deriving DecidableEq, Repr

/-- A hint record (R222, R396): acting domain, unit, DEMAND, PRIO, target milestone. -/
structure HintRec where
  dom : Nat
  unit : Nat
  demand : Nat
  prio : Nat
  target : Nat
  deriving DecidableEq, Repr

/-- A PTP or ESMC frame on an uplink port (R381, R382). -/
structure PtpFrame where
  esmc : Bool
  /-- where the edge falls within its hub cycle, in 2⁻¹⁶ ns (R371, R381) -/
  ts : Nat
  bytes : List Nat
  deriving DecidableEq, Repr

/-- A frame on the out-of-band port (R429). -/
structure OobIn where
  toUs : Bool
  etype : Nat
  src : Nat
  off : Nat
  frags : Nat
  bytes : List Nat
  deriving DecidableEq, Repr

/-- A TOKEN of the arbiter (R408). -/
structure TokenIn where
  pairId : Nat
  epoch : Nat
  serial : Nat
  sig : List Nat
  deriving DecidableEq, Repr

/-- An interval record of the peer (R400); `tests` are the results of known-answer tests: group and pass (R404). -/
inductive IntervalRec where
  | partA (m : Nat) (digests : List W64)
  | partB (m : Nat) (seq role : Nat) (digests : List W64) (carried : List Nat) (unsync : List Nat)
      (tests : List (Nat × Bool))
  deriving DecidableEq, Repr

/-- A row copy (R402): batch key 1,408 q + b, the context row's words 4 to 15 of each lane, and by lane the report
entry (OCC, stamp) and the hint entry (DEMAND, PRIO, target milestone), where they are VALID. -/
structure RowCopy where
  key : Nat
  words : List W32
  reports : List (Option (Nat × Nat))
  hints : List (Option (Nat × Nat × Nat))
  deriving DecidableEq, Repr

/-- A mirrored execution record (R264, R398): status, milestone and results. -/
structure MirrorExec where
  status : Nat
  e : Nat
  r0 : Nat
  r1 : Nat
  deriving DecidableEq, Repr

/-- What a burst carries (R61, R145). -/
inductive BurstKind where
  | data
  | ploamOnly
  | serial
  | ranging
  deriving DecidableEq, Repr

/-- One allocation of a burst (R149). -/
structure Alloc where
  /-- the unit, or none for the terminal's default allocation -/
  unit : Option Nat
  /-- ALLOC_ID -/
  alloc : Nat
  /-- size in grant units after shrinking -/
  size : Nat
  /-- start time; 0xFFFF for a continuation (R146) -/
  start : Nat
  dbru : Bool
  ploamu : Bool
  deriving DecidableEq, Repr

/-- A burst of a forwarded roadbook (R403). -/
structure FwdBurst where
  kind : BurstKind
  term : Nat
  prof : Nat
  start : Nat
  len : Nat
  allocs : List Alloc
  deriving DecidableEq, Repr

/-- A forwarded roadbook, whole (R403). -/
structure FwdBook where
  msc : Nat
  bursts : List FwdBurst
  deriving DecidableEq, Repr

/-- Where a decision stands in the order of deferred changes (R46, R47): its effective milestone, the acceptance number
of the latest command, and its moment. -/
structure DecAt where
  e : Nat
  acc : Nat
  moment : Nat
  deriving DecidableEq, Repr

/-- A terminal after an activation, ranging, equalisation-delay, loss or rogue decision (R97, R108, R120, R398): `act` is
its state's code, `after` that of what its drain leads to, `rtt` and `rogue` its retained entry. -/
structure TermRec where
  act : Nat
  after : Nat
  serial : Nat
  dom : Nat
  ta : Nat
  assignFrame : Nat
  measured : Nat
  eqd : Int
  driftF : Int
  operE : Option Nat
  rtFrame : Option Nat
  rtDelta : Int
  misses : Nat
  lost : Nat
  updates : Nat
  rogueIso : Bool
  rtt : Option Nat
  rogue : Bool
  deriving DecidableEq, Repr

/-- A decision record of the ACTIVE device (R398): a terminal as decided, a unicast key that it accepted and the
milestone of its switch, and the changes of R46 that it decides by itself. -/
inductive Decision where
  | term (sc t : Nat) (r : TermRec)
  | key (sc t idx s : Nat) (bytes : List Nat)
  | loss (sc t : Nat) (w : DecAt)
  | rerange (sc t : Nat) (w : DecAt)
  | demote (sc t reason : Nat) (w : DecAt)
  | rogue (sc t : Nat) (w : DecAt)
  /-- the rogue isolation of a sub-channel: it runs, windows are suspended, it ended unresolved, the terminal under
  test with its E (R122) -/
  | walk (sc : Nat) (running suspended unresolved : Bool) (test : Option (Nat × Nat))
  | core (g spare : Nat) (w : DecAt)
  | unit (sc kind spare : Nat) (w : DecAt)
  deriving DecidableEq, Repr

/-- Straps at the release of POR_N (R520), whether the retained domain kept its supply (R513), and which
inputs are present. -/
structure Straps where
  smbAddr : Nat
  resumeHold : Bool
  testModeN : Bool
  retained : Bool
  flashOwnLow : Bool
  deriving DecidableEq, Repr

/-- Results of stage 0 (R521, R524). -/
structure RomRes where
  romOk : Bool
  /-- OTP row with a correctable error; row with an uncorrectable one and whether it holds a critical item -/
  otpCorr : Option Nat
  otpUncorr : Option (Nat × Bool)
  loader0 : Bool
  loader1 : Bool
  deriving DecidableEq, Repr

/-- Results of stage 1 (R521, R524). -/
structure LoaderRes where
  image0 : Bool
  image1 : Bool
  staging : Bool
  cert : Bool
  deriving DecidableEq, Repr

/-- Results of stage 2 (R521, R524): failing units (class, unit), failing dies 0 to 3 trees, 4 and 5 trunks,
6 hub; lost lanes that fail again. -/
structure PostRes where
  units : List (Nat × Nat)
  dies : List Nat
  mramBoth : Bool
  mgmtAll : Bool
  lanes : List Nat
  deriving DecidableEq, Repr


/-- The commands of the block, one constructor per row of spec/opcode_table.json. -/
inductive Instr where
  /-- MILESTONE (R40): The 125 µs frame tick: report cut-off, frame M starts downstream carrying roadbook M, and milestone-timed changes take effect. -/
  | milestone
  /-- SNAPSHOT (R40): At 2 µs deferred changes for M + 1 are applied, the planned batch list and views are fixed and plan contexts start. -/
  | snapshot
  /-- PLAN_DEADLINE (R48): At 98 µs unfinished batches are carried forward and their pending grants withdrawn. -/
  | planDeadline
  /-- COMMIT_POINT (R43): At 116 µs roadbook M + 1 becomes immutable and delivery to framers begins. -/
  | commitPoint
  /-- ROADBOOK_DELIVERY (R33): A roadbook reaches its framer; one not received by 121 µs is treated as not received. -/
  | roadbookDelivery (sc : Nat)
  /-- DELIVERY_DEADLINE (R63): At 121 µs roadbook acceptance closes and the ledger record of every sub-channel is taken. -/
  | deliveryDeadline
  /-- LEDGER_RECORD_DURABLE (R63): The interval's ledger record becomes durable in both MRAM banks. -/
  | ledgerRecordDurable
  /-- BURST_RECEPTION (R79): A granted upstream burst is received: preload loaded, lock, delimiter search. -/
  | burstReception (sc : Nat) (m : Nat) (i : Nat) (rx : BurstRx)
  /-- BURST_OUTCOME (R61): The burst's single ledger outcome is written. -/
  | burstOutcome (sc : Nat) (m : Nat) (i : Nat) (rx : BurstRx)
  /-- DRAIN_DONE (R55): A drain ends when all outcomes of roadbook E − 1 are written; the object becomes DISABLED or stays RESUMING. -/
  | drainDone (k : ObjKind) (i : Nat)
  /-- MAINT_WINDOW (R132): Maintenance window W(E) runs INSTALL and RETIRE entries and detour loading. -/
  | maintWindow (q : Nat)
  /-- REPORT_SWEEP (R138): The hardware sweep clears VALID on report entries 8,192 or more intervals old. -/
  | reportSweep
  /-- ADD (R168): Scalar add. -/
  | iadd (st : Site) (f : FmtO)
  /-- SUB (R168): Scalar subtract. -/
  | isub (st : Site) (f : FmtO)
  /-- AND (R168): Scalar AND. -/
  | iand (st : Site) (f : FmtO)
  /-- OR (R168): Scalar OR. -/
  | ior (st : Site) (f : FmtO)
  /-- XOR (R168): Scalar XOR. -/
  | ixor (st : Site) (f : FmtO)
  /-- ANDN (R168): Scalar AND with complement. -/
  | andn (st : Site) (f : FmtO)
  /-- SHL (R168): Scalar shift left. -/
  | shl (st : Site) (f : FmtO)
  /-- SHR (R168): Scalar logical shift right. -/
  | shr (st : Site) (f : FmtO)
  /-- SRA (R168): Scalar arithmetic shift right. -/
  | sra (st : Site) (f : FmtO)
  /-- MUL (R168): Low 64 bits of the unsigned product. -/
  | mul (st : Site) (f : FmtO)
  /-- MULHU (R168): High 64 bits of the unsigned product. -/
  | mulhu (st : Site) (f : FmtO)
  /-- MINU (R168): Scalar unsigned minimum. -/
  | minu (st : Site) (f : FmtO)
  /-- MAXU (R168): Scalar unsigned maximum. -/
  | maxu (st : Site) (f : FmtO)
  /-- MINS (R168): Scalar signed minimum. -/
  | mins (st : Site) (f : FmtO)
  /-- MAXS (R168): Scalar signed maximum. -/
  | maxs (st : Site) (f : FmtO)
  /-- CMP_EQ (R169): Scalar compare equal into a predicate. -/
  | cmpEq (st : Site) (f : FmtO)
  /-- CMP_NE (R169): Scalar compare not equal into a predicate. -/
  | cmpNe (st : Site) (f : FmtO)
  /-- CMP_LTU (R169): Scalar unsigned less-than into a predicate. -/
  | cmpLtu (st : Site) (f : FmtO)
  /-- CMP_LEU (R169): Scalar unsigned less-or-equal into a predicate. -/
  | cmpLeu (st : Site) (f : FmtO)
  /-- CMP_LTS (R169): Scalar signed less-than into a predicate. -/
  | cmpLts (st : Site) (f : FmtO)
  /-- CMP_LES (R169): Scalar signed less-or-equal into a predicate. -/
  | cmpLes (st : Site) (f : FmtO)
  /-- SPC (R170): Reads a special value into a scalar register. -/
  | spc (st : Site) (f : FmtO)
  /-- ADDI (R171): Scalar add of a sign-extended immediate. -/
  | addi (st : Site) (f : FmtI)
  /-- ANDI (R171): Scalar AND with an immediate. -/
  | andi (st : Site) (f : FmtI)
  /-- ORI (R171): Scalar OR with an immediate. -/
  | ori (st : Site) (f : FmtI)
  /-- XORI (R171): Scalar XOR with an immediate. -/
  | xori (st : Site) (f : FmtI)
  /-- SHLI (R171): Scalar shift left by an immediate. -/
  | shli (st : Site) (f : FmtI)
  /-- SHRI (R171): Scalar shift right by an immediate. -/
  | shri (st : Site) (f : FmtI)
  /-- LDH0 (R171): Loads the immediate into halfword 0. -/
  | ldh0 (st : Site) (f : FmtI)
  /-- LDH1 (R171): Loads the immediate into halfword 1. -/
  | ldh1 (st : Site) (f : FmtI)
  /-- LDH2 (R171): Loads the immediate into halfword 2. -/
  | ldh2 (st : Site) (f : FmtI)
  /-- LDH3 (R171): Loads the immediate into halfword 3. -/
  | ldh3 (st : Site) (f : FmtI)
  /-- KLD (R172): Loads a 64-bit word from the constant store. -/
  | kld (st : Site) (f : FmtI)
  /-- VADD (R173): Vector add under predicate merge. -/
  | vadd (st : Site) (f : FmtO)
  /-- VSUB (R173): Vector subtract. -/
  | vsub (st : Site) (f : FmtO)
  /-- VAND (R173): Vector AND. -/
  | vand (st : Site) (f : FmtO)
  /-- VOR (R173): Vector OR. -/
  | vor (st : Site) (f : FmtO)
  /-- VXOR (R173): Vector XOR. -/
  | vxor (st : Site) (f : FmtO)
  /-- VANDN (R173): Vector AND with complement. -/
  | vandn (st : Site) (f : FmtO)
  /-- VSHL (R173): Vector shift left. -/
  | vshl (st : Site) (f : FmtO)
  /-- VSHR (R173): Vector logical shift right. -/
  | vshr (st : Site) (f : FmtO)
  /-- VSRA (R173): Vector arithmetic shift right. -/
  | vsra (st : Site) (f : FmtO)
  /-- VMUL (R173): Vector low 32-bit product. -/
  | vmul (st : Site) (f : FmtO)
  /-- VMULHU (R173): Vector high 32-bit unsigned product. -/
  | vmulhu (st : Site) (f : FmtO)
  /-- VMOV (R173): Vector move. -/
  | vmov (st : Site) (f : FmtO)
  /-- VCMP_EQ (R174): Vector compare equal into a zeroing predicate. -/
  | vcmpEq (st : Site) (f : FmtO)
  /-- VCMP_NE (R174): Vector compare not equal. -/
  | vcmpNe (st : Site) (f : FmtO)
  /-- VCMP_LTU (R174): Vector unsigned less-than. -/
  | vcmpLtu (st : Site) (f : FmtO)
  /-- VCMP_LEU (R174): Vector unsigned less-or-equal. -/
  | vcmpLeu (st : Site) (f : FmtO)
  /-- VCMP_LTS (R174): Vector signed less-than. -/
  | vcmpLts (st : Site) (f : FmtO)
  /-- VCMP_LES (R174): Vector signed less-or-equal. -/
  | vcmpLes (st : Site) (f : FmtO)
  /-- VSATU_ADD (R175): Vector unsigned saturating add. -/
  | vsatuAdd (st : Site) (f : FmtO)
  /-- VSATU_SUB (R175): Vector unsigned saturating subtract. -/
  | vsatuSub (st : Site) (f : FmtO)
  /-- VSATS_ADD (R175): Vector signed saturating add. -/
  | vsatsAdd (st : Site) (f : FmtO)
  /-- VSATS_SUB (R175): Vector signed saturating subtract. -/
  | vsatsSub (st : Site) (f : FmtO)
  /-- VMINU (R176): Vector unsigned minimum. -/
  | vminu (st : Site) (f : FmtO)
  /-- VMINS (R176): Vector signed minimum. -/
  | vmins (st : Site) (f : FmtO)
  /-- VMAXU (R176): Vector unsigned maximum. -/
  | vmaxu (st : Site) (f : FmtO)
  /-- VMAXS (R176): Vector signed maximum. -/
  | vmaxs (st : Site) (f : FmtO)
  /-- VSEL (R177): Selects lanes of two vectors by predicate. -/
  | vsel (st : Site) (f : FmtO)
  /-- VBCAST (R178): Broadcasts a scalar into predicated lanes. -/
  | vbcast (st : Site) (f : FmtO)
  /-- VEXT (R178): Extracts one lane into a scalar. -/
  | vext (st : Site) (f : FmtO)
  /-- VINS (R178): Inserts a scalar into one lane. -/
  | vins (st : Site) (f : FmtO)
  /-- VIOTA (R178): Writes each lane's index. -/
  | viota (st : Site) (f : FmtO)
  /-- VSUM (R179): Sums predicated lanes into a scalar. -/
  | vsum (st : Site) (f : FmtO)
  /-- VRMINU (R179): Unsigned minimum of predicated lanes. -/
  | vrminu (st : Site) (f : FmtO)
  /-- VRMAXU (R179): Unsigned maximum of predicated lanes. -/
  | vrmaxu (st : Site) (f : FmtO)
  /-- VROR (R179): OR of predicated lanes. -/
  | vror (st : Site) (f : FmtO)
  /-- PPOPC (R179): Counts set bits of a predicate. -/
  | ppopc (st : Site) (f : FmtO)
  /-- PFIRST (R179): Index of the lowest set predicate bit. -/
  | pfirst (st : Site) (f : FmtO)
  /-- VADDI (R180): Vector add of an immediate. -/
  | vaddi (st : Site) (f : FmtI)
  /-- VLI (R180): Loads an immediate into all lanes. -/
  | vli (st : Site) (f : FmtI)
  /-- VSHLI (R180): Vector shift left by an immediate. -/
  | vshli (st : Site) (f : FmtI)
  /-- VSHRI (R180): Vector shift right by an immediate. -/
  | vshri (st : Site) (f : FmtI)
  /-- VANDI (R180): Vector AND with an immediate. -/
  | vandi (st : Site) (f : FmtI)
  /-- PAND (R181): Predicate AND. -/
  | pand (st : Site) (f : FmtO)
  /-- POR (R181): Predicate OR. -/
  | por (st : Site) (f : FmtO)
  /-- PXOR (R181): Predicate XOR. -/
  | pxor (st : Site) (f : FmtO)
  /-- PANDN (R181): Predicate AND with complement. -/
  | pandn (st : Site) (f : FmtO)
  /-- PNOT (R181): Predicate NOT. -/
  | pnot (st : Site) (f : FmtO)
  /-- PTOS (R181): Copies a predicate into a scalar. -/
  | ptos (st : Site) (f : FmtO)
  /-- PFROMS (R181): Loads a predicate from a scalar. -/
  | pfroms (st : Site) (f : FmtO)
  /-- BKT (R182): Two-bucket credit debit and refill per lane. -/
  | bkt (st : Site) (f : FmtO)
  /-- SLD (R184): Loads a word from a tag's staging slot. -/
  | sld (st : Site) (f : FmtO)
  /-- SST (R185): Stores a word into a completed CLD staging slot. -/
  | sst (st : Site) (f : FmtO)
  /-- CLD (R186): Starts a read of the batch's context row under a new tag. -/
  | cld (st : Site) (f : FmtM)
  /-- CST (R187): Starts a store of program bytes of the row into the store buffer. -/
  | cst (st : Site) (f : FmtM)
  /-- RPT (R188): Starts a read of a report view row. -/
  | rpt (st : Site) (f : FmtM)
  /-- HNT (R188): Starts a read of a hint view row. -/
  | hnt (st : Site) (f : FmtM)
  /-- TBL (R189): Starts per-lane reads of the shared table bank. -/
  | tbl (st : Site) (f : FmtM)
  /-- MEMORY_OP_COMPLETE (R136): A memory operation completes, fills its staging slot and completes its tag. -/
  | memoryOpComplete (g : Nat) (k : Nat) (t : Nat)
  /-- WAIT (R190): Blocks the context until a tag completes. -/
  | wait (st : Site) (f : FmtO)
  /-- FENCE (R191): Blocks until every memory operation of the batch completes. -/
  | fenceI (st : Site) (f : FmtO)
  /-- GEMIT (R192): Places pending grants for predicated lanes. -/
  | gemit (st : Site) (f : FmtO)
  /-- BR (R193): Unconditional forward branch. -/
  | br (st : Site) (f : FmtB)
  /-- BR_ANY (R193): Branch when any predicate bit is set. -/
  | brAny (st : Site) (f : FmtB)
  /-- BR_NONE (R193): Branch when no predicate bit is set. -/
  | brNone (st : Site) (f : FmtB)
  /-- BR_ALL (R193): Branch when all predicate bits are set. -/
  | brAll (st : Site) (f : FmtB)
  /-- BR_NALL (R193): Branch when not all predicate bits are set. -/
  | brNall (st : Site) (f : FmtB)
  /-- LOOP (R194): Pushes a loop entry onto the loop stack. -/
  | loopI (st : Site) (f : FmtB)
  /-- ENDL (R194): Ends one loop iteration, taking the back edge or popping. -/
  | endl (st : Site) (f : FmtB)
  /-- HALT (R195): Ends the batch or entry and releases its grants and rows. -/
  | halt (st : Site) (f : FmtB)
  /-- CORE_UPSET (R151): A detected error in a batch stops it and retries it or carries it forward. -/
  | coreUpset (st : Site)
  /-- CORE_LOST (R154): A core stops responding; its batches are carried forward until a spare is loaded. -/
  | coreLost (g : Nat)
  /-- CORE_SPARE_LOADED (R154): A spare finishes loading for a lost core and plans from the next snapshot. -/
  | coreSpareLoaded (g : Nat)
  /-- UNIT_FAULT (R414): A unit's error count reaches K within W; it is retired and detoured. -/
  | unitFault (cls : Nat) (u : Nat)
  /-- FAULT_WINDOW_EXPIRY (R414): Window W ends before K errors and the count returns to zero. -/
  | faultWindowExpiry (cls : Nat) (u : Nat)
  /-- CHANNEL_UNIT_LOST (R74): An engine or DSP unit stops responding and a spare is bound within 10 µs. -/
  | channelUnitLost (kind : Nat) (die : Nat) (u : Nat)
  /-- SN_RESPONSE (R102): A serial-number response is matched, listed, admitted or ignored. -/
  | snResponse (sc : Nat) (r : SnRsp)
  /-- REGISTRATION_RESPONSE (R106): A Registration response arrives in a ranging window and its RTT is measured. -/
  | registrationResponse (sc : Nat) (t : Nat) (r : RegRsp)
  /-- RANGING_PROCESS (R108): Firmware processes a ranging response: refuse, mismatch, or send Ranging_Time and grant. -/
  | rangingProcess (sc : Nat) (t : Nat)
  /-- RANGING_WINDOW_CLOSE (R107): A ranging window closes without a response; one retry, then REGISTERED. -/
  | rangingWindowClose (sc : Nat) (t : Nat)
  /-- RANGING_TIME_PERIOD_END (R111): The two-roadbook Ranging_Time period ends and held corrections are made. -/
  | rangingTimePeriodEnd (sc : Nat) (t : Nat)
  /-- TERMINAL_LOST (R113): LOST_LIMIT consecutive EMPTY bursts make the terminal lost and drain it. -/
  | terminalLost (sc : Nat) (t : Nat)
  /-- UPSTREAM_PLOAM (R114): An upstream PLOAM message is consumed by firmware or passed to the host. -/
  | upstreamPloam (sc : Nat) (t : Nat) (msg : List Nat)
  /-- UPSTREAM_OMCI (R116): An upstream OMCI message has its MIC checked and goes to the host pool. -/
  | upstreamOmci (sc : Nat) (t : Nat) (msg : List Nat) (mic : List Nat)
  /-- RECOVERY_PERIOD_END (R118): The post-restart discovery recovery period ends and PERIOD resumes. -/
  | recoveryPeriodEnd (sc : Nat)
  /-- ROGUE_LIGHT (R121): Rogue light in 4 of 8 intervals raises ROGUE_LIGHT and may start isolation. The span of the
  light and whether a delimiter was found in it. -/
  | rogueLight (sc : Nat) (w : LightSpan) (delim : Bool)
  /-- ROGUE_OBSERVE_END (R122): A candidate's observation intervals end and it is judged source, cleared or re-enabled. -/
  | rogueObserveEnd (sc : Nat)
  /-- KEY_REPORT (R358): A terminal's Key_Report supplies a new unicast key. -/
  | keyReport (sc : Nat) (t : Nat) (key : List Nat)
  /-- REKEY_TIMER (R358): REKEY_S expiry starts a key exchange for a terminal. -/
  | rekeyTimer (sc : Nat) (t : Nat)
  /-- KEY_REQUEST_TIMEOUT (R358): An unanswered key request is repeated, and after three misses fails. -/
  | keyRequestTimeout (sc : Nat) (t : Nat)
  /-- CIPHER_CHUNK (R350): A unit serves one chunk of a cipher request with the slot's key. -/
  | cipherChunk (q : ChunkReq)
  /-- KAT_TEST (R355): Spare and idle cipher units run known-answer tests every KAT_MS. -/
  | katTest (cls : Nat) (u : Nat) (pass : Bool)
  /-- UPLINK_FRAME_INGRESS (R304): A frame arrives on an uplink port and is steered to a pipeline. -/
  | uplinkFrameIngress (f : UpFrame)
  /-- HINT_FRAME (R222): A hint frame is taken before steering and its records posted. -/
  | hintFrame (u : Nat) (vid : Nat) (bytes : List Nat)
  /-- PTP_FRAME_TRAP (R382): A PTP or ESMC frame is trapped with its timestamp to the host. -/
  | ptpFrameTrap (u : Nat) (f : PtpFrame)
  /-- UPSTREAM_FRAME (R310): An upstream frame from a flow is policed, learned and bridged. -/
  | upstreamFrame (f : DnFrame)
  /-- LEARN (R313): The learn engine applies a learn: refresh, move, refuse or insert. -/
  | learn (p : Nat)
  /-- LEARN_NOTICE (R316): A cross-pipeline learn notice deletes an older dynamic entry. -/
  | learnNotice (p : Nat)
  /-- STASH_RETURN (R315): Between learns the engine moves stash entries back into buckets. -/
  | stashReturn (p : Nat)
  /-- AGEING_SWEEP (R319): The sweep removes dynamic entries without HIT and clears HIT on others. -/
  | ageingSweep (p : Nat) (b : Nat)
  /-- FREEZE_EXPIRY (R318): At its next pass after FREEZE_MS the engine clears FROZEN and MOVES. -/
  | freezeExpiry (p : Nat) (mac : Nat) (vid : Nat) (dom : Nat)
  /-- WALK_TIMEOUT (R322): A stable walk ends 10 ms after it opened. -/
  | walkTimeout (p : Nat)
  /-- FLUSH_DONE (R323): A background flush finishes in every named pipeline. -/
  | flushDone (p : Nat) (acc : Nat)
  /-- REHASH_DONE (R324): A rebuild ends: switch to the shadow or abandon it. -/
  | rehashDone (p : Nat)
  /-- FRAME_DEQUEUE (R282): A port selects down its hierarchy and dequeues a head frame. -/
  | frameDequeue (pt : Nat)
  /-- GATE_ENTRY_EXPIRY (R288): A gate control entry's interval ends and the next entry takes force. -/
  | gateEntryExpiry (pt : Nat)
  /-- GATE_LIST_ACTIVE (R291): A pending gate list switches in at T_s. -/
  | gateListActive (pt : Nat)
  /-- QUEUE_SAMPLE (R296): The sampler takes depth and head delay of one queue. -/
  | queueSample
  /-- CACHE_REFILL (R332): A client cache below REFILL takes buffers from its pool. -/
  | cacheRefill (pool : Nat) (client : Nat)
  /-- DATA_WRITE_TIMEOUT (R35): A frame whose data write cannot start within 2 µs is dropped. -/
  | dataWriteTimeout (pool : Nat) (buf : Nat)
  /-- HBM_UNCORRECTABLE (R343): An uncorrectable HBM read drops the frame or withholds a free list. -/
  | hbmUncorrectable (stack : Nat) (pc : Nat) (r : HbmRead)
  /-- HBM_PC_DETOUR (R344): A pseudo-channel copy to its spare ends and the address map switches. -/
  | hbmPcDetour (stack : Nat) (pc : Nat)
  /-- TABLE_COPY_DONE (R220): The written table entries are copied into the other bank and waiting writes execute. -/
  | tableCopyDone
  /-- TAIL (R233): A doorbell write of TAIL makes descriptors available or faults the ring. -/
  | tail (r : Nat) (v : W32)
  /-- DESCRIPTOR_ACCEPTANCE (R247): A fetched group is journalled in both banks and DHEAD advances. -/
  | descriptorAcceptance (r : Nat) (ds : List Desc) (err : Bool)
  /-- ACCEPT_UNPAIRED (R250): No standby acknowledgement in 500 µs; the group is accepted alone. -/
  | acceptUnpaired
  /-- COMPLETION_POST (R234): A completion is marked posted and written when the array has room. -/
  | completionPost (r : Nat) (refused : Bool)
  /-- RING_ENABLE (R236): Setting RING_CFG.ENABLE starts a DISABLED or RESTORED ring. -/
  | ringEnable (r : Nat)
  /-- RING_DISABLE (R236): Clearing ENABLE stops fetching and the ring becomes STOPPING. -/
  | ringDisable (r : Nat)
  /-- RING_STOP_DONE (R236): CDONE reaches DHEAD and the ring becomes DISABLED, or RUNNING if enable was held. -/
  | ringStopDone (r : Nat)
  /-- CPL_HEAD (R234): The host consumes completions, or faults the ring with CPL_RANGE. -/
  | cplHead (r : Nat) (v : W32)
  /-- EVQ_ENABLE (R270): Setting EVQ_CFG.ENABLE zeroes head and tail and writes held records. -/
  | evqEnable
  /-- VECTOR_SIGNAL (R269): A moderated vector is signalled when its MIN_GAP ends. -/
  | vectorSignal (fn : Nat) (v : Nat)
  /-- LEDGER_SEL (R62): A write of SUBCH starts or restarts an atomic ledger snapshot. -/
  | ledgerSel (sc : Nat)
  /-- LEDGER_SNAPSHOT_DONE (R62): The ledger snapshot completes and BUSY clears. -/
  | ledgerSnapshotDone
  /-- PL_SEL (R95): A write starts a read of a preload record. -/
  | plSel (c : Nat) (w : W32)
  /-- PL_READ_DONE (R95): PL_WORD0 and PL_WORD1 hold the record and BUSY clears. -/
  | plReadDone (c : Nat)
  /-- HEALTH_SEL (R424): A write starts a read of a unit's health word. -/
  | healthSel (w : W32)
  /-- HEALTH_READ_DONE (R424): HEALTH holds the selected unit and BUSY clears. -/
  | healthReadDone
  /-- TIME_NSF_READ (R374): A read of TIME_NSF latches TIME_SEC for the next read. -/
  | timeNsfRead
  /-- OFFSET_IN (R375): A written offset is refused or applied to the servo. -/
  | offsetIn (w : W64)
  /-- HOLDOVER_TIMEOUT (R376): No offset for HOLD_TIMEOUT puts the servo in HOLDOVER. -/
  | holdoverTimeout
  /-- START_WAIT_EXPIRY (R373): START_WAIT ends and device time is taken from a valid keeper. -/
  | startWaitExpiry
  /-- PPS_OUT (R388): PPS_OUT pulses at each whole second of device time. -/
  | ppsOut
  /-- PPS_IN (R388): A rising edge on PPS_IN is timestamped. -/
  | ppsIn
  /-- RCLK_RESUME (R387): An output resumes 10 ms after its lane holds lock. -/
  | rclkResume (k : Nat)
  /-- CTL_LOCK (R11): Setting a block's LOCK freezes its RWL fields until reset. -/
  | ctlLock (a : Nat)
  /-- WARM_REQ (R533): A keyed write requests a software warm reset 1 ms later, or is refused. -/
  | warmReq (fn : Nat) (w : W32)
  /-- TEST_CTL (R498): A write starts or stops a lane test, or is refused. -/
  | testCtl (l : Nat) (w : W32)
  /-- INJECT (R500): A write starts injecting single-bit errors into the generator. -/
  | injectW (l : Nat) (w : W32)
  /-- REGISTER_WRITE (R10): A write to a register without behaviour of its own, under its access code. -/
  | registerWrite (x : Access) (d : W64)
  /-- WRONG_WIDTH_ACCESS (R225): An access of wrong width or alignment has no effect and is counted. -/
  | wrongWidthAccess (x : Access) (wr : Bool)
  /-- ENABLE (R243): Enables a sub-channel or tree at E, reserving cipher credits. -/
  | enable (c : Desc)
  /-- DISABLE (R243): Disables a sub-channel or tree at E in DELIVER or DISCARD mode. -/
  | disable (c : Desc)
  /-- SET_ROAD_LENGTH (R54): Sets L of a DISABLED sub-channel. -/
  | setRoadLength (c : Desc)
  /-- SET_SUBCH_PARAMS (R84): Sets rate, guard, tolerance and profiles of a DISABLED sub-channel. -/
  | setSubchParams (c : Desc)
  /-- SET_DISCOVERY (R102): Sets discovery period, RTT_MIN, DIFF and ADMIT. -/
  | setDiscovery (c : Desc)
  /-- RESET_TREE (R93): Resets a tree whose sub-channels are both DISABLED. -/
  | resetTree (c : Desc)
  /-- ADD_TERMINAL (R100): Creates a terminal object in REGISTERED. -/
  | addTerminal (c : Desc)
  /-- REMOVE_TERMINAL (R100): Removes a REGISTERED or DISABLED terminal object. -/
  | removeTerminal (c : Desc)
  /-- DEACTIVATE_TERMINAL (R101): Deactivates a terminal at E with drain as needed. -/
  | deactivateTerminal (c : Desc)
  /-- DISABLE_SERIAL (R98): Disables a terminal's serial number. -/
  | disableSerial (c : Desc)
  /-- ENABLE_SERIAL (R98): Returns a DISABLED terminal to REGISTERED. -/
  | enableSerial (c : Desc)
  /-- SET_BURST_PROFILE (R85): Assigns a terminal's burst profile at E. -/
  | setBurstProfile (c : Desc)
  /-- SET_RANGING (R109): Sets EQD_THR, LOST_LIMIT and ROGUE_AUTO. -/
  | setRanging (c : Desc)
  /-- RANGE_TERMINAL (R99): Commands a re-range of a terminal in OPERATION at E. -/
  | rangeTerminal (c : Desc)
  /-- ISOLATE_ROGUE (R122): Starts or aborts rogue isolation on a sub-channel. -/
  | isolateRogue (c : Desc)
  /-- READ_UNKNOWN (R103): Returns and empties the unknown serial-number list. -/
  | readUnknown (c : Desc)
  /-- READ_TERMINAL (R123): Writes a terminal's 64-byte record. -/
  | readTerminal (c : Desc)
  /-- READ_SUBCH_ACT (R123): Returns per-sub-channel activation counters. -/
  | readSubchAct (c : Desc)
  /-- SEND_PLOAM (R114): Sends a host-built PLOAM message to a terminal or broadcast. -/
  | sendPloam (c : Desc)
  /-- SEND_OMCI (R115): Sends an OMCI message with its integrity check. -/
  | sendOmci (c : Desc)
  /-- BIND_TERMINAL_RX (R117): Binds a domain's upstream OMCI and PLOAM to a ring and pool. -/
  | bindTerminalRx (c : Desc)
  /-- INSTALL_UNIT (R126): Installs an allocation unit into a batch and lane at E. -/
  | installUnit (c : Desc)
  /-- RETIRE_UNIT (R55): Retires an allocation unit at E with drain. -/
  | retireUnit (c : Desc)
  /-- MODIFY_UNIT (R203): Overwrites selected program words of a context at E. -/
  | modifyUnit (c : Desc)
  /-- POST_HINT (R221): Posts a hint for a unit and target milestone. -/
  | postHint (c : Desc)
  /-- SET_HINT_VLAN (R222): Binds or removes a hint VLAN on an uplink port. -/
  | setHintVlan (c : Desc)
  /-- READ_UNIT_LEDGER (R65): Returns a unit's ledger row. -/
  | readUnitLedger (c : Desc)
  /-- CREATE_FLOW (R306): Creates a flow with its flow block. -/
  | createFlow (c : Desc)
  /-- DESTROY_FLOW (R307): Destroys a flow at E with drain. -/
  | destroyFlow (c : Desc)
  /-- MODIFY_FLOW (R307): Rewrites the modifiable fields of a flow block. -/
  | modifyFlow (c : Desc)
  /-- READ_FLOW (R325): Returns the flow block in force. -/
  | readFlow (c : Desc)
  /-- JOIN_FLOOD (R309): Adds a flow to its flood list. -/
  | joinFlood (c : Desc)
  /-- LEAVE_FLOOD (R309): Removes a flow from its flood list. -/
  | leaveFlood (c : Desc)
  /-- SET_FLOW_SCHED (R299): Sets a service queue's scheduling block. -/
  | setFlowSched (c : Desc)
  /-- SET_NODE_SCHED (R299): Sets a node's or class queue's scheduling block. -/
  | setNodeSched (c : Desc)
  /-- SET_POLICER (R294): Sets or enables a flow's policer. -/
  | setPolicer (c : Desc)
  /-- SET_PORT_SCHED (R298): Sets a port's overhead adjustment. -/
  | setPortSched (c : Desc)
  /-- SET_GATE_LIST (R291): Schedules a new gate control list for switch time T_s. -/
  | setGateList (c : Desc)
  /-- READ_QUEUE (R301): Returns a queue or node record, optionally clearing maxima. -/
  | readQueue (c : Desc)
  /-- SET_STEER (R305): Writes one steering entry. -/
  | setSteer (c : Desc)
  /-- ADD_ENTRY (R321): Adds a static MAC entry. -/
  | addEntry (c : Desc)
  /-- DELETE_ENTRY (R321): Deletes a MAC entry. -/
  | deleteEntry (c : Desc)
  /-- SEARCH (R321): Returns a MAC entry. -/
  | searchEntry (c : Desc)
  /-- NEXT (R322): Returns the next entries of a table walk. -/
  | nextEntry (c : Desc)
  /-- WALK_END (R322): Ends a pipeline's stable walk. -/
  | walkEnd (c : Desc)
  /-- FLUSH_BY_PORT (R323): Starts removal of entries learned on a port. -/
  | flushByPort (c : Desc)
  /-- REHASH (R324): Starts a table rebuild under a new seed. -/
  | rehash (c : Desc)
  /-- CONFIG_PORT (R502): Configures or removes an uplink port. -/
  | configPort (c : Desc)
  /-- PORT_UP (R503): Enables an uplink port or resumes a draining one. -/
  | portUp (c : Desc)
  /-- PORT_DOWN (R504): Drains and disables an uplink port. -/
  | portDown (c : Desc)
  /-- PORT_DRAIN_END (R504): A port's drain ends, its lanes idle and it becomes DISABLED or ENABLED. -/
  | portDrainEnd (u : Nat)
  /-- SET_CIPHER (R353): Selects AES or SM4 for a DISABLED sub-channel. -/
  | setCipher (c : Desc)
  /-- SET_KEY_POLICY (R358): Sets a sub-channel's rekey period. -/
  | setKeyPolicy (c : Desc)
  /-- INSTALL_PON_KEY (R357): Writes a broadcast PON key slot. -/
  | installPonKey (c : Desc)
  /-- SWITCH_PON_KEY (R367): Switches the broadcast key 16 milestones later. -/
  | switchPonKey (c : Desc)
  /-- CONFIG_SECY (R362): Sets a port's SecY parameters and owner. -/
  | configSecy (c : Desc)
  /-- INSTALL_SA (R362): Installs a MACsec SA record. -/
  | installSa (c : Desc)
  /-- ENABLE_SA (R362): Makes an SA transmitting or accepting. -/
  | enableSa (c : Desc)
  /-- REMOVE_SA (R362): Zeroes an SA slot. -/
  | removeSa (c : Desc)
  /-- READ_SA (R362): Returns an SA's next PN, state and counters. -/
  | readSa (c : Desc)
  /-- REKEY_TERMINAL (R367): Starts a key exchange for one terminal. -/
  | rekeyTerminal (c : Desc)
  /-- LOAD_PROGRAM (R212): Loads and verifies an image into named groups' shadow slots. -/
  | loadProgram (c : Desc)
  /-- ACTIVATE_PROGRAM (R215): Arms named shadows for a swap at E. -/
  | activateProgram (c : Desc)
  /-- ACTIVATE_PROGRAM_CANCEL (R217): Disarms an armed program swap. -/
  | activateProgramCancel (c : Desc)
  /-- WRITE_TABLE (R220): Writes shared-table entries to the bank not read. -/
  | writeTable (c : Desc)
  /-- READ_TABLE (R220): Returns shared-table entries. -/
  | readTable (c : Desc)
  /-- READ_CORE_DIAG (R198): Returns a core's last exception record and clears COUNT. -/
  | readCoreDiag (c : Desc)
  /-- TAKE_WAYPOINT (R462): Requests a waypoint capture. -/
  | takeWaypoint (c : Desc)
  /-- RETURN_WAYPOINT (R465): Returns the configuration to a waypoint at E. -/
  | returnWaypoint (c : Desc)
  /-- PIN_WAYPOINT (R464): Pins or unpins a waypoint. -/
  | pinWaypoint (c : Desc)
  /-- LIST_WAYPOINTS (R483): Returns the retained waypoints. -/
  | listWaypoints (c : Desc)
  /-- RELEASE_HOLD (R467): Releases the resume hold at frame E. -/
  | releaseHold (c : Desc)
  /-- FACTORY_CLEAN (R468): Checks the token, erases retained state and warm-resets to defaults. -/
  | factoryClean (c : Desc)
  /-- UPD_BEGIN (R470): Starts a firmware download from its manifest. -/
  | updBegin (c : Desc)
  /-- UPD_PIECE (R471): Accepts and programs one image piece. -/
  | updPiece (c : Desc)
  /-- UPD_VERIFY (R473): Verifies the whole download slot. -/
  | updVerify (c : Desc)
  /-- ACTIVATE (R474): Starts the swap of the verified image. -/
  | activate (c : Desc)
  /-- ACTIVATE_AT (R476): Starts a swap whose pause begins at device time T. -/
  | activateAt (c : Desc)
  /-- CONFIRM (R477): Confirms the firmware in trial. -/
  | confirm (c : Desc)
  /-- UPD_FALLBACK (R478): Commands fallback from a trial. -/
  | updFallback (c : Desc)
  /-- UPD_ABORT (R470): Abandons a download. -/
  | updAbort (c : Desc)
  /-- UPD_STATUS (R483): Returns the update status record. -/
  | updStatus (c : Desc)
  /-- REC_BIND (R441): Binds a recorder record to a source. -/
  | recBind (c : Desc)
  /-- REC_UNBIND (R441): Stops sampling of a record. -/
  | recUnbind (c : Desc)
  /-- REC_READ (R452): Returns consistent recorder records. -/
  | recRead (c : Desc)
  /-- GET_CLEAR_NONCE (R442): Issues the outstanding clear nonce. -/
  | getClearNonce (c : Desc)
  /-- CLEAR_RECORDS (R444): Clears records under a signed token. -/
  | clearRecords (c : Desc)
  /-- READ_CLEAR_LEDGER (R445): Returns clear-ledger entries. -/
  | readClearLedger (c : Desc)
  /-- SET_CLEAR_KEY (R442): Writes the clear-key hash once. -/
  | setClearKey (c : Desc)
  /-- SET_TIME (R379): Steps device time and re-bases the milestone count. -/
  | setTime (c : Desc)
  /-- SET_PTP_PORT (R382): Sets PTP and ESMC trapping on a port. -/
  | setPtpPort (c : Desc)
  /-- BIND_PTP_RX (R382): Binds trapped time frames to a ring and pool. -/
  | bindPtpRx (c : Desc)
  /-- SEND_PTP (R383): Transmits a PTP frame with optional one-step timestamp. -/
  | sendPtp (c : Desc)
  /-- COMPUTE_TOD (R384): Returns T_SEND and TEQD for a superframe. -/
  | computeTod (c : Desc)
  /-- PAIR_CONFIG (R420): Configures the device pair. -/
  | pairConfig (c : Desc)
  /-- PAIR_JOIN (R407): Starts joining as the standby. -/
  | pairJoin (c : Desc)
  /-- PAIR_JOINED (R407): All batches SYNC and 16 agreeing roadbook sets put both devices in PAIRED. -/
  | pairJoined (ok : Bool)
  /-- PAIR_LEAVE (R420): Leaves the pair into UNPAIRED. -/
  | pairLeave (c : Desc)
  /-- SWITCH_OVER (R412): Swaps active and standby roles at E. -/
  | switchOver (c : Desc)
  /-- FORCE_ACTIVE (R412): Takes over without a token on a broken standby. -/
  | forceActive (c : Desc)
  /-- TREE_PAIR (R395): Binds a working and protect tree. -/
  | treePair (c : Desc)
  /-- TREE_UNPAIR (R420): Dissolves a tree pair. -/
  | treeUnpair (c : Desc)
  /-- SWITCH_TREE (R413): Switches a tree pair to w or p at E. -/
  | switchTree (c : Desc)
  /-- READ_PAIR (R420): Returns the pair state and counters. -/
  | readPair (c : Desc)
  /-- OPEN_DOMAIN (R261): Opens a domain with its quotas or reopens a draining one. -/
  | openDomain (c : Desc)
  /-- TEARDOWN_DOMAIN (R262): Shuts down a domain's objects at E. -/
  | teardownDomain (c : Desc)
  /-- REGISTER_WINDOW (R337): Registers a host window for a domain. -/
  | registerWindow (c : Desc)
  /-- REMOVE_WINDOW (R337): Removes a host window. -/
  | removeWindow (c : Desc)
  /-- SET_HOST_POOL (R339): Sets a host pool's buffer size. -/
  | setHostPool (c : Desc)
  /-- POST_BUFFERS (R339): Posts host buffers to a pool. -/
  | postBuffers (c : Desc)
  /-- RECLAIM_BUFFERS (R339): Removes and returns a pool's postings. -/
  | reclaimBuffers (c : Desc)
  /-- SET_POOL_LAYOUT (R342): Records a data-pool layout for the next restart. -/
  | setPoolLayout (c : Desc)
  /-- GROW_POOL (R342): Adds unassigned HBM to a pool in service. -/
  | growPool (c : Desc)
  /-- READ_POOLS (R346): Returns host pools and windows. -/
  | readPools (c : Desc)
  /-- RETIRE_HW (R417): Retires a named unit with a detour. -/
  | retireHw (c : Desc)
  /-- RETURN_HW (R417): Self-tests a retired unit and frees it as a spare. -/
  | returnHw (c : Desc)
  /-- RUN_SELF_TEST (R421): Runs a self-test on a non-active unit. -/
  | runSelfTest (c : Desc)
  /-- READ_HEALTH (R421): Returns a unit's health word. -/
  | readHealth (c : Desc)
  /-- SELF_TEST_ROTATION (R418): A free spare or idle unit is tested in rotation. -/
  | selfTestRotation (cls : Nat) (u : Nat) (pass : Bool)
  /-- READ_SENSORS (R427): Mailbox request returning sensor words. -/
  | readSensors (m : Nat)
  /-- READ_RECORD (R427): Mailbox request returning recorder records. -/
  | readRecord (m : Nat)
  /-- GET_CERT (R448): Mailbox request returning the certificate or public key. -/
  | getCert (m : Nat)
  /-- ATTEST (R449): Mailbox request returning a signed attestation report. -/
  | attest (m : Nat)
  /-- MBX_GET_CLEAR_NONCE (R427): Mailbox request issuing the clear nonce. -/
  | mbxGetClearNonce (m : Nat)
  /-- MBX_CLEAR_RECORDS (R427): Mailbox request clearing records under a token. -/
  | mbxClearRecords (m : Nat)
  /-- READ_LR (R427): Mailbox request returning last-resort entries. -/
  | readLr (m : Nat)
  /-- MBX_READ_CLEAR_LEDGER (R427): Mailbox request returning clear-ledger entries. -/
  | mbxReadClearLedger (m : Nat)
  /-- MODULE_IO (R430): Mailbox request for a module-management SMBus transfer. -/
  | moduleIo (m : Nat) (ans : Option (List Nat))
  /-- UPD_FRAG (R484): Mailbox fragment of a manifest or update piece. -/
  | updFrag (m : Nat)
  /-- MBX_UPD_STATUS (R484): Mailbox request returning the update status record. -/
  | mbxUpdStatus (m : Nat)
  /-- BLOCK_WRITE (R428): SMBus Block Write of request bytes. -/
  | blockWrite (cmd : Nat) (bytes : List Nat) (pecOk : Bool)
  /-- SEND_BYTE (R428): SMBus Send Byte 0x12 submits the request. -/
  | sendByte (cmd : Nat) (pecOk : Bool)
  /-- READ_BYTE (R428): SMBus Read Byte 0x13 returns request progress. -/
  | readByte
  /-- BLOCK_READ (R428): SMBus Block Read 0x14 returns response bytes. -/
  | blockRead
  /-- ALERT_RESPONSE (R428): The device answers the Alert Response Address while ALERT_N is asserted. -/
  | alertResponse
  /-- OOB_FRAME (R429): An out-of-band frame carrying a mailbox request is served or answered again. -/
  | oobFrame (f : OobIn)
  /-- NONCE_EXPIRY (R442): The outstanding clear nonce expires after 60 s. -/
  | nonceExpiry
  /-- DBG_CHALLENGE (R450): JTAG instruction shifting out a debug challenge. -/
  | dbgChallenge
  /-- DBG_RESPONSE (R450): JTAG instruction checking a debug signature to unlock. -/
  | dbgResponse (sig : List Nat)
  /-- THERMAL_CONVERSION (R432): A thermal sensor conversion is compared against limits. -/
  | thermalConversion (n : Nat) (t : Int)
  /-- VOLTAGE_CONVERSION (R432): A voltage monitor conversion is checked against its window. -/
  | voltageConversion (n : Nat) (mv : Nat)
  /-- HBM_TEMP_READ (R431): A stack temperature is read and HBM_HOT judged. -/
  | hbmTempRead (k : Nat) (t : Nat)
  /-- RECORDER_COMMIT (R438): A record's accumulator is exchanged and merged into both SRAM banks. -/
  | recorderCommit (r : Nat)
  /-- RECORDER_MRAM_COMMIT (R440): Every record is written to its alternate MRAM copy. -/
  | recorderMramCommit (fail : Option Nat)
  /-- REC_MEM_FAIL (R446): A recorder SRAM bank fails; both failing degrade the recorder. -/
  | recMemFail (bank : Nat)
  /-- WAYPOINT_TRIGGER (R463): Journal growth triggers an automatic waypoint. -/
  | waypointTrigger
  /-- WAYPOINT_CAPTURE (R462): A capture begins at a snapshot and waits for executing commands. -/
  | waypointCapture
  /-- WAYPOINT_COPY (R462): Executing commands have completed and the configuration is copied. -/
  | waypointCopy
  /-- WAYPOINT_DONE (R462): The flash write ends, the waypoint is confirmed and the journal truncated. -/
  | waypointDone (ok : Bool) (kib : Nat)
  /-- SWAP_BLOCK (R474): The loader saves and replaces one running image block. -/
  | swapBlock (i : Nat)
  /-- ACTIVATION_PAUSE (R475): The pause begins and the new firmware starts in trial. -/
  | activationPause
  /-- ACTIVATE_AT_TIME (R476): Device time T arrives and the pause begins. -/
  | activateAtTime
  /-- BOOT_IN_TRIAL (R477): The loader decrements the trial counter or falls back. -/
  | bootInTrial
  /-- TRIAL_START (R475): The new firmware's restored configuration matches the hardware and TRIAL begins. -/
  | trialStart (agree : Bool) (format : Bool)
  /-- LOADER_RESTART (R477): An image not in service within 5 s is restarted by the loader. -/
  | loaderRestart
  /-- FALLBACK (R478): The old image restarts, replays the journal and reverting begins. -/
  | fallback
  /-- REVERT_BLOCK (R478): The loader copies one staging block back over the running image. -/
  | revertBlock (i : Nat)
  /-- HEARTBEAT_SEND (R397): Each device sends a witness HEARTBEAT every 8 milestones. -/
  | heartbeatSend
  /-- HEARTBEAT (R397): An arbiter HEARTBEAT is received. -/
  | heartbeat
  /-- ARBITER_LOST (R397): No arbiter HEARTBEAT for ARB_MISS ms. -/
  | arbiterLost
  /-- TOKEN (R408): A signed takeover token is checked and acted on. -/
  | token (k : TokenIn)
  /-- DENY (R397): An arbiter DENY frame is received. -/
  | deny
  /-- VERDICT (R404): An arbiter VERDICT after a divergence is received. -/
  | verdict (k : Option TokenIn)
  /-- FENCE_N (R410): The FENCE_N input fences the device. -/
  | fenceN
  /-- FENCE_TIMEOUT (R410): No heartbeat of either kind for FENCE_MS fences the ACTIVE device. -/
  | fenceTimeout
  /-- INTERVAL_RECORD_A (R400): Part A with report digests is sent at 1.6 µs. -/
  | intervalRecordA
  /-- INTERVAL_RECORD_B (R400): Part B with roadbook digests and carry bitmaps is sent at 117 µs. -/
  | intervalRecordB
  /-- INTERVAL_RECORD_RECEIVE (R401): A peer's interval record is compared and batches marked UNSYNC. -/
  | intervalRecordReceive (r : IntervalRec)
  /-- HB_MISSED (R400): A Part B not received by 120 µs counts a missed heartbeat. -/
  | hbMissed
  /-- HEARTBEAT_LOST (R409): HB_MISS missed heartbeats or both sync lanes lost enter BROKEN. -/
  | heartbeatLost
  /-- BATCH_DIGEST_REQUEST (R401): The standby asks for a mismatched group's batch digests. -/
  | batchDigestRequest (q : Nat) (ds : List Nat)
  /-- ROW_COPY (R402): An UNSYNC batch row is copied and installed at the next snapshot. -/
  | rowCopy (c : RowCopy)
  /-- ROADBOOK_FORWARD (R403): An excluded roadbook is forwarded whole to the standby. -/
  | roadbookForward (sc : Nat) (b : FwdBook)
  /-- JOURNAL_ENTRY_RECORD (R398): The standby applies a mirrored journal or execution record and acknowledges. -/
  | journalEntryRecord (c : Desc) (x : Option MirrorExec)
  /-- DECISION_RECORD (R398): The standby applies a device-decided change from the active. -/
  | decisionRecord (d : Decision)
  /-- HINT_RECORD (R398): The standby writes a mirrored hint record. -/
  | hintRecord (h : HintRec)
  /-- SYNC_LANE_RESTORE (R491): 1,000 markers within tolerance return the sync link to both lanes. -/
  | syncLaneRestore (l : Nat)
  /-- D2D_FLIT_RETRY (R25): A flit CRC error is retried by link-level retry. -/
  | d2dFlitRetry (die : Nat) (m : Nat)
  /-- D2D_LANE_REPAIR (R25): A failed die-to-die lane is replaced from redundant lanes. -/
  | d2dLaneRepair (die : Nat) (l : ModuleDir) (n : Nat) (x32 : Bool)
  /-- LANE_IDLE_EXIT (R493): A lane leaves idle with training burst and stored coefficients. -/
  | laneIdleExit (l : Nat)
  /-- LANE_TRAINING_DONE (R493): A full training ends, STORED_COEF is set and the lane is UP. -/
  | laneTrainingDone (l : Nat) (coef : W64)
  /-- MARGIN_MEASUREMENT (R495): The margin monitor measures an UP lane and saves coefficients. -/
  | marginMeasurement (l : Nat) (v : Nat) (h : Nat)
  /-- LANE_DOWN (R495): Loss of lock or alignment starts a full training. -/
  | laneDown (l : Nat)
  /-- LANE_LOST (R496): A monitor out of range for 1 ms makes the lane LOST. -/
  | laneLost (l : Nat)
  /-- COMMA_ALIGNED (R490): Three commas align a witness or management lane. -/
  | commaAligned (l : Nat)
  /-- COLD_START (R517): POR_N release starts a cold start and samples straps. -/
  | coldStart (p : Straps)
  /-- WARM_RESET (R517): WARM_RST_N or a requested reset restarts the core logic. -/
  | warmReset (cause : Nat) (hold : Bool)
  /-- PERST (R523): PERST# resets PCIe and behaves as a function reset on every function. -/
  | perst
  /-- FUNCTION_LEVEL_RESET (R263): An FLR resets a VF's registers, rings and vectors. -/
  | functionLevelReset (v : Nat)
  /-- POWER_FAIL_WARNING (R515): PWR_FAIL_N stops fetching, completes journal writes and reaches SAFE. -/
  | powerFailWarning
  /-- WARNING_RELEASE (R515): A released warning with rails in tolerance is followed by a warm reset. -/
  | warningRelease
  /-- BROWNOUT (R516): A rail below 92 % starts the power-fail sequence. -/
  | brownout
  /-- VAO_SWITCHED (R513): The always-on domain switches between its inputs. -/
  | vaoSwitched (toBkp : Bool)
  /-- VAO_SINGLE (R513): An always-on input absent for 1 s. -/
  | vaoSingle (inp : Nat)
  /-- VAO_LOSS (R15): Loss of both inputs resets the retained domain. -/
  | vaoLoss
  /-- FLASH_OWN_N (R526): FLASH_OWN_N low tristates the xSPI interfaces or is ignored. -/
  | flashOwnN (low : Bool)
  /-- ROM (R521): Start-up stage 0: ROM self-check, OTP read and loader verification. -/
  | rom (r : RomRes)
  /-- LOADER (R521): Stage 1: image verification and completion of any swap. -/
  | loader (r : LoaderRes)
  /-- POST (R521): Stage 2: BIST, HBM training and free-list rebuild. -/
  | postStage (r : PostRes)
  /-- RESTORE (R521): Stage 3: time, milestone generator, waypoint restore and program verification. -/
  | restore
  /-- REPLAY (R265): Stage 4: journal replay and closing of the road. -/
  | replay
  /-- LINKS (R521): Stage 5: lanes leave idle and trees transmit. -/
  | links
  /-- PROGRAM_VERIFICATION_DONE (R212): The verification of a loaded image ends, leaving SHADOW at 2 or emptying it, and LOAD_PROGRAM completes. -/
  | programVerificationDone (acc : Nat)
  /-- UPD_VERIFY_DONE (R473): The check of the whole download slot ends, writing VERIFIED or returning to RECEIVING, and UPD_VERIFY completes. -/
  | updVerifyDone (acc : Nat)
  /-- GROW_POOL_DONE (R342): All new buffers of a grown pool are on the free lists and GROW_POOL completes with OK. -/
  | growPoolDone (acc : Nat)
  /-- PTP_FRAME_EGRESS (R383): A SEND_PTP frame leaves the lane, is timestamped (one-step insertion) and the command completes. -/
  | ptpFrameEgress (acc : Nat) (ts : Nat)
  /-- LANE_SIGNAL_DETECT (R493): A waking lane's receiver first sees signal above its detect threshold and loads STORED_COEF or trains. -/
  | laneSignalDetect (l : Nat)
  /-- VECTOR_UNMASK (R269): A host write unmasking an MSI-X table entry signals a vector whose pending bit is set. -/
  | vectorUnmask (fn : Nat) (v : Nat)
  /-- REGISTER_READ (R14): A register read with side effects: an RC field is cleared, or a low-half read latches the high half of a 64-bit register. -/
  | registerRead (x : Access)
  /-- CHECKER_LOCK (R499): The pattern checker locks after 64 consecutive matching bits and starts counting. -/
  | checkerLock (l : Nat)
  /-- CHECKER_LOCK_LOSS (R499): The pattern checker drops lock at more than 1 bit in 8 in error over 1,024 bits and counts CHK_RELOCK. -/
  | checkerLockLoss (l : Nat)
  /-- PERST_DEASSERTION (R523): PERST# deasserts, the link trains and after re-enumeration rings with accepted commands become RESTORED and the rest DISABLED. -/
  | perstDeassertion
  deriving DecidableEq, Repr

end Sys2Proof
end

