-- ==== Sys2Proof/Decode.lean ====
section
/-! DEFINITION. The command that a word spells. The table of this block gives no row any bits (every row's list of
fields is empty): a command is not an encoded word, so no word spells one by the table. The words of a grant program
have an encoding of their own (R163, R164, R167): `progInstr` reads the row that a word in the instruction store asks
for. -/

namespace Sys2Proof

/-- The command spelled by a word of `nbits` bits: none, since no row of the table has bits. -/
def decodeTableWord (nbits w : Nat) : Option Instr :=
  match nbits, w with
  | _, _ => none

/-! Words of a grant program. -/

/-- Fields of the four formats (R163). -/
def FmtO.ofWord (w : W32) : FmtO :=
  ⟨w.extractLsb' 21 5, w.extractLsb' 16 5, w.extractLsb' 11 5, w.extractLsb' 8 3, w.extractLsb' 0 8⟩
def FmtI.ofWord (w : W32) : FmtI := ⟨w.extractLsb' 21 5, w.extractLsb' 16 5, w.extractLsb' 0 16⟩
def FmtM.ofWord (w : W32) : FmtM := ⟨w.extractLsb' 21 5, w.extractLsb' 16 5, w.extractLsb' 13 3, w.extractLsb' 0 13⟩
def FmtB.ofWord (w : W32) : FmtB := ⟨w.extractLsb' 22 4, w.extractLsb' 19 3, w.extractLsb' 0 19⟩

/-- Mnemonics of opcode 0x00 by fn (R168). -/
def scalarFn (n : Nat) : Option (Site → FmtO → Instr) :=
  match n with
  | 0x00 => some .iadd
  | 0x01 => some .isub
  | 0x02 => some .iand
  | 0x03 => some .ior
  | 0x04 => some .ixor
  | 0x05 => some .andn
  | 0x06 => some .shl
  | 0x07 => some .shr
  | 0x08 => some .sra
  | 0x09 => some .mul
  | 0x0A => some .mulhu
  | 0x0C => some .minu
  | 0x0D => some .maxu
  | 0x0E => some .mins
  | 0x0F => some .maxs
  | _ => none

/-- Mnemonics of opcode 0x10 by fn[3:0] (R173). -/
def vectorFn (n : Nat) : Option (Site → FmtO → Instr) :=
  match n with
  | 0x0 => some .vadd
  | 0x1 => some .vsub
  | 0x2 => some .vand
  | 0x3 => some .vor
  | 0x4 => some .vxor
  | 0x5 => some .vandn
  | 0x6 => some .vshl
  | 0x7 => some .vshr
  | 0x8 => some .vsra
  | 0x9 => some .vmul
  | 0xA => some .vmulhu
  | 0xB => some .vmov
  | _ => none

/-- Mnemonics of opcode 0x17 by fn (R179). -/
def reduceFn (n : Nat) : Option (Site → FmtO → Instr) :=
  match n with
  | 0 => some .vsum
  | 1 => some .vrminu
  | 2 => some .vrmaxu
  | 3 => some .vror
  | 4 => some .ppopc
  | 5 => some .pfirst
  | _ => none

/-- Mnemonics of opcode 0x20 by fn (R181). -/
def predFn (n : Nat) : Option (Site → FmtO → Instr) :=
  match n with
  | 0 => some .pand
  | 1 => some .por
  | 2 => some .pxor
  | 3 => some .pandn
  | 4 => some .pnot
  | 5 => some .ptos
  | 6 => some .pfroms
  | _ => none

/-- A vector instruction with SCALAR in fn[4] and the mnemonic in fn[3:0] (R173 to R176). -/
def withScalar (n : Nat) (f : Nat → Option (Site → FmtO → Instr)) : Option (Site → FmtO → Instr) :=
  if n < 32 then f (n % 16) else none

/-- The mnemonic of an opcode of format O and an fn (R167). -/
def formO (op n : Nat) : Option (Site → FmtO → Instr) :=
  match op with
  | 0x00 => scalarFn n
  | 0x01 => [Instr.cmpEq, .cmpNe, .cmpLtu, .cmpLeu, .cmpLts, .cmpLes][n]?
  | 0x02 => if n < 9 then some .spc else none
  | 0x10 => withScalar n vectorFn
  | 0x11 => withScalar n (fun m => [Instr.vcmpEq, .vcmpNe, .vcmpLtu, .vcmpLeu, .vcmpLts, .vcmpLes][m]?)
  | 0x12 => withScalar n (fun m => [Instr.vsatuAdd, .vsatuSub, .vsatsAdd, .vsatsSub][m]?)
  | 0x13 => withScalar n (fun m => [Instr.vminu, .vmins][m]?)
  | 0x14 => withScalar n (fun m => [Instr.vmaxu, .vmaxs][m]?)
  | 0x15 => if n = 0 then some .vsel else none
  | 0x16 => [Instr.vbcast, .vext, .vins, .viota][n]?
  | 0x17 => reduceFn n
  | 0x20 => predFn n
  | 0x22 => if n < 32 then some .bkt else none
  | 0x24 => some .sld
  | 0x25 => some .sst
  | 0x35 => some .wait
  | 0x36 => some .fenceI
  | 0x37 => some .gemit
  | _ => none

/-- The mnemonic of an opcode of format I (R167). -/
def formI (op : Nat) : Option (Site → FmtI → Instr) :=
  match op with
  | 0x04 => some .addi
  | 0x05 => some .andi
  | 0x06 => some .ori
  | 0x07 => some .xori
  | 0x08 => some .shli
  | 0x09 => some .shri
  | 0x0A => some .ldh0
  | 0x0B => some .ldh1
  | 0x0C => some .ldh2
  | 0x0D => some .ldh3
  | 0x0E => some .kld
  | 0x18 => some .vaddi
  | 0x19 => some .vli
  | 0x1A => some .vshli
  | 0x1B => some .vshri
  | 0x1C => some .vandi
  | _ => none

/-- The mnemonic of an opcode of format M (R167). -/
def formM (op : Nat) : Option (Site → FmtM → Instr) :=
  match op with
  | 0x30 => some .cld
  | 0x31 => some .cst
  | 0x32 => some .rpt
  | 0x33 => some .hnt
  | 0x34 => some .tbl
  | _ => none

/-- The mnemonic of an opcode of format B and its cond (R167, R193). -/
def formB (op cond : Nat) : Option (Site → FmtB → Instr) :=
  match op with
  | 0x38 => [Instr.br, .brAny, .brNone, .brAll, .brNall][cond]?
  | 0x39 => some .loopI
  | 0x3A => some .endl
  | 0x3B => some .halt
  | _ => none

/-- The row of the table that a word of a grant program asks for in a context: none for a reserved opcode and a
reserved selector, which raise ILLEGAL (R164, R167). A row's own meaning checks its remaining fields. -/
def progInstr (st : Site) (w : W32) : Option Instr :=
  let op := (w >>> 26).toNat
  let o := FmtO.ofWord w
  let b := FmtB.ofWord w
  match formO op o.fn.toNat with
  | some k => some (k st o)
  | none =>
    match formI op with
    | some k => some (k st (FmtI.ofWord w))
    | none =>
      match formM op with
      | some k => some (k st (FmtM.ofWord w))
      | none => (formB op b.cond.toNat).map (fun k => k st b)

end Sys2Proof
end

