-- ==== Sys2Proof/Config.lean ====
section
/-! DEFINITION. Free values: what the spec leaves open (a cipher or hash of another standard, a random
number, a value fixed in fuses or in an image, an unstated result). Each is an opaque constant without a
body, so no proof can see its value; every one is named in the assumption log. -/

namespace Sys2Proof.Config

/-- SM3 hash of a byte string, 32 bytes (GB/T 32905, named in R199, R400, R443; its tables are not in the spec). -/
opaque sm3 : List Nat → List Nat

/-- First 64 bits of the SM3 hash of the words given (R150, R400). -/
opaque sm3Word : List Nat → BitVec 64

/-- An SM2 signature check (R408, R443, R450, R468, R470): public-key hash, message, signature. -/
opaque sm2Check : List Nat → List Nat → List Nat → Bool

/-- The SM2 signature of the identity key over a message (R449), 64 bytes. -/
opaque sm2Sign : List Nat → List Nat

/-- Message integrity check of a PLOAM or OMCI message (R76, R115, R116): key material, message. -/
opaque mic : List Nat → List Nat → List Nat

/-- Public-key hashes in OTP: 0 the debug key (R450), 1 the firmware key (R469). -/
opaque otpKeyHash : Nat → List Nat

/-- Device serial number in OTP, 64 bits (R443, R449), as a number, and the out-of-band MAC address (R429). -/
opaque serialWord : BitVec 64
def serial : Nat := serialWord.toNat
opaque oobMac : Nat

/-- Public identity key and certificate bytes (R448). -/
opaque identityKey : List Nat
opaque certificate : List Nat

/-- SM3 measurements of the running loader and of the image as shipped (R449). -/
opaque loaderDigest : List Nat
opaque imageDigest : List Nat

/-- FW_VER, SVN, WPF_WRITE and WPF_READ_MIN of the image as shipped, and the OTP minimum SVN (R486, R487). -/
opaque imageVer : Nat
opaque imageSvn : Nat
opaque imageWpfWrite : Nat
opaque imageWpfReadMin : Nat
opaque otpMinSvn : Nat

/-- SM3 digest of the waypoint of a version (R449, R462; the waypoint's bytes are not laid out in the spec). -/
opaque waypointDigest : Nat → List Nat

/-- A random 64-bit value (R442, R450, R358 keys, R311 seeds): the n-th draw. -/
opaque random : Nat → BitVec 64

/-- A value the spec leaves open: the n-th one taken. -/
opaque freeValue : Nat → BitVec 64

/-- Window limits of voltage monitor n, rail nominal ± 5 % in mV: high, then low (R454; which rail a monitor
watches is not in the spec). -/
opaque voltHigh : Nat → Nat
opaque voltLow : Nat → Nat

/-- Byte i of the key stream of one block (R351, R360, R363): cipher (0 AES, 1 SM4, 2 AES-GCM), key, frame
counter or packet number, block, i. The ciphers are of other standards. -/
opaque keyStream : Nat → List Nat → Nat → Nat → Nat → Nat

/-- Whether a quotient that is no whole number is rounded up and not down (R106, R109; the spec does not say
which way). -/
opaque roundUp : Int → Int → Bool

/-- CDR phase of the fixed seed a DSP unit starts from when the record of a terminal on LONG is not VALID (R79). -/
opaque seedPhase : BitVec 12

/-- Equalisation delay in the field and the unit of the Ranging_Time message of a standard (R106): 0 H, 1 X; upstream
bits. -/
opaque eqdField : Nat → Int → List Nat

/-- ALLOC_ID of a serial-number grant (R149): 0 H, 1 X. -/
opaque serialAlloc : Nat → Nat

/-- Hub cycles from a record to its acknowledgement by the STANDBY device, by the hub cycle at which it is sent (R399). -/
opaque ackDelay : Nat → Nat

/-- The OMCI integrity key that a terminal's master session key gives, and the standard's default (R115). -/
opaque omciKey : List Nat → List Nat
opaque omciDefaultKey : List Nat

/-- Start offset of a serial-number or ranging grant in its frame, in 1/16 ns (R105, R106): by terminal, 512
for a serial-number grant. The spec leaves it to the device. -/
opaque grantOffset : Nat → Nat

/-- Time from its first byte to its last byte, in 2⁻¹⁶ ns, that the framer of a sub-channel needs for a frame
(R289): sub-channel, charged length, device time of the first byte. The framing is of other standards. -/
opaque framerTime : Nat → Int → Nat → Nat

/-- A key wrapped under the device's key-wrapping key, which OTP holds, or under a session key (R365, R398). -/
opaque wrap : List Nat → List Nat

/-- A key unwrapped under a terminal's or management key (R358, R364). -/
opaque unwrap : List Nat → List Nat → List Nat

/-- Milestones by which the first rekey of a terminal comes before REKEY_S, by 512 × sub-channel + terminal (R358: the
exchanges are staggered across terminals). -/
opaque rekeyStagger : Nat → Nat

end Sys2Proof.Config
end

