-- ==== Sys2Proof/Machine/Events.lean ====
section
/-! DEFINITION. Event sources (R17, R267) with their severities, from the event tables R25, R66, R94, R124,
R156, R219, R271, R302, R326, R347, R368, R391, R422, R453, R485, R506, R509 and R532. -/

namespace Sys2Proof.Machine

abbrev evPlanOverrun : Nat := 0x010
abbrev evCarryLimit : Nat := 0x011
abbrev evDrainDone : Nat := 0x012
abbrev evLedgerRestart : Nat := 0x013
abbrev evLedgerStoreFail : Nat := 0x014
abbrev evRingFault : Nat := 0x030
abbrev evJournalFull : Nat := 0x031
abbrev evJournalDegraded : Nat := 0x032
abbrev evAcceptUnpaired : Nat := 0x033
abbrev evReplayDone : Nat := 0x034
abbrev evD2dLaneRepair : Nat := 0x0C0
abbrev evD2dWidthDegraded : Nat := 0x0C1
abbrev evD2dModuleLost : Nat := 0x0C2
abbrev evPreloadDemote : Nat := 0x100
abbrev evPreloadFault : Nat := 0x101
abbrev evChannelUnitLost : Nat := 0x102
abbrev evSubchOutOfService : Nat := 0x103
abbrev evUnknownSn : Nat := 0x110
abbrev evTerminalActive : Nat := 0x111
abbrev evTerminalLost : Nat := 0x112
abbrev evRangeRefused : Nat := 0x113
abbrev evSnDuplicate : Nat := 0x114
abbrev evRegMismatch : Nat := 0x115
abbrev evOmciMicFail : Nat := 0x116
abbrev evRogueLight : Nat := 0x117
abbrev evRogueIsolated : Nat := 0x118
abbrev evRogueUnresolved : Nat := 0x119
abbrev evRogueCleared : Nat := 0x11A
abbrev evCoreUpset : Nat := 0x120
abbrev evCoreLost : Nat := 0x121
abbrev evCoreDetour : Nat := 0x122
abbrev evNoSpareCore : Nat := 0x123
abbrev evEntryFail : Nat := 0x124
abbrev evProgException : Nat := 0x125
abbrev evGrantDropped : Nat := 0x126
abbrev evProgramSwapped : Nat := 0x130
abbrev evProgramRestoreFail : Nat := 0x131
abbrev evGateListActive : Nat := 0x140
abbrev evGateOversize : Nat := 0x141
abbrev evMacFlap : Nat := 0x150
abbrev evRehashRequest : Nat := 0x151
abbrev evRehashDone : Nat := 0x152
abbrev evFreeViolation : Nat := 0x160
abbrev evHbmPcDetour : Nat := 0x161
abbrev evHbmPcLost : Nat := 0x162
abbrev evKeyExchangeFail : Nat := 0x170
abbrev evRekeyRequest : Nat := 0x171
abbrev evSaExhausted : Nat := 0x172
abbrev evCipherUpset : Nat := 0x173
abbrev evCipherUnitDetour : Nat := 0x174
abbrev evCipherCapacityLost : Nat := 0x175
abbrev evKeysDropped : Nat := 0x176
abbrev evTimeJumpRefused : Nat := 0x180
abbrev evTimeLocked : Nat := 0x181
abbrev evTimeHoldover : Nat := 0x182
abbrev evTimeStepped : Nat := 0x183
abbrev evTimeInvalid : Nat := 0x184
abbrev evRclkSquelch : Nat := 0x185
abbrev evPairStateChange : Nat := 0x190
abbrev evDivergence : Nat := 0x191
abbrev evHeartbeatLost : Nat := 0x192
abbrev evArbiterLost : Nat := 0x193
abbrev evTakeover : Nat := 0x194
abbrev evFenced : Nat := 0x195
abbrev evTokenRefused : Nat := 0x196
abbrev evSyncLaneDegraded : Nat := 0x197
abbrev evResyncBacklog : Nat := 0x198
abbrev evPairSkew : Nat := 0x199
abbrev evTreeSwitch : Nat := 0x19A
abbrev evUnitFault : Nat := 0x1A0
abbrev evSelfTestFail : Nat := 0x1A1
abbrev evMgmtLost : Nat := 0x1A2
abbrev evFlashDegraded : Nat := 0x1A3
abbrev evThermWarn : Nat := 0x1B0
abbrev evThermCrit : Nat := 0x1B1
abbrev evThermTrip : Nat := 0x1B2
abbrev evVoltWarn : Nat := 0x1B3
abbrev evHbmHot : Nat := 0x1B4
abbrev evRecMemFail : Nat := 0x1B5
abbrev evRecDegraded : Nat := 0x1B6
abbrev evRecordsCleared : Nat := 0x1B7
abbrev evDebugUnlocked : Nat := 0x1B8
abbrev evDebugLockout : Nat := 0x1B9
abbrev evBootIntegrity : Nat := 0x1BA
abbrev evCertMissing : Nat := 0x1BB
abbrev evWaypointDone : Nat := 0x1C0
abbrev evWaypointFail : Nat := 0x1C1
abbrev evResumeHeld : Nat := 0x1C2
abbrev evUpdateReady : Nat := 0x1C3
abbrev evUpdateVerified : Nat := 0x1C4
abbrev evUpdateTrial : Nat := 0x1C5
abbrev evUpdateConfirmed : Nat := 0x1C6
abbrev evUpdateFallback : Nat := 0x1C7
abbrev evFactoryCleaned : Nat := 0x1C8
abbrev evLaneRetrain : Nat := 0x1D0
abbrev evLaneMargin : Nat := 0x1D1
abbrev evLaneDown : Nat := 0x1D2
abbrev evLaneLost : Nat := 0x1D3
abbrev evPortLink : Nat := 0x1D4
abbrev evVaoSwitched : Nat := 0x1E0
abbrev evVaoSingle : Nat := 0x1E1
abbrev evRestarted : Nat := 0x1E2
abbrev evBrownout : Nat := 0x1E3

/-- Severity of an assigned source: 0 INFO, 1 WARN, 2 FAULT, 3 CRIT; none for an unassigned one (R267). -/
def evSev (n : Nat) : Option Nat :=
  match n with
  | 0x010 => some 1
  | 0x011 => some 2
  | 0x012 => some 0
  | 0x013 => some 0
  | 0x014 => some 3
  | 0x030 => some 1
  | 0x031 => some 1
  | 0x032 => some 2
  | 0x033 => some 1
  | 0x034 => some 0
  | 0x0C0 => some 0
  | 0x0C1 => some 1
  | 0x0C2 => some 2
  | 0x100 => some 0
  | 0x101 => some 1
  | 0x102 => some 2
  | 0x103 => some 3
  | 0x110 => some 0
  | 0x111 => some 0
  | 0x112 => some 1
  | 0x113 => some 1
  | 0x114 => some 1
  | 0x115 => some 1
  | 0x116 => some 1
  | 0x117 => some 1
  | 0x118 => some 1
  | 0x119 => some 2
  | 0x11A => some 0
  | 0x120 => some 0
  | 0x121 => some 2
  | 0x122 => some 0
  | 0x123 => some 3
  | 0x124 => some 1
  | 0x125 => some 1
  | 0x126 => some 0
  | 0x130 => some 0
  | 0x131 => some 3
  | 0x140 => some 0
  | 0x141 => some 1
  | 0x150 => some 1
  | 0x151 => some 1
  | 0x152 => some 0
  | 0x160 => some 1
  | 0x161 => some 0
  | 0x162 => some 2
  | 0x170 => some 1
  | 0x171 => some 0
  | 0x172 => some 1
  | 0x173 => some 0
  | 0x174 => some 0
  | 0x175 => some 3
  | 0x176 => some 1
  | 0x180 => some 1
  | 0x181 => some 0
  | 0x182 => some 1
  | 0x183 => some 0
  | 0x184 => some 3
  | 0x185 => some 1
  | 0x190 => some 0
  | 0x191 => some 1
  | 0x192 => some 1
  | 0x193 => some 1
  | 0x194 => some 3
  | 0x195 => some 3
  | 0x196 => some 1
  | 0x197 => some 1
  | 0x198 => some 1
  | 0x199 => some 1
  | 0x19A => some 1
  | 0x1A0 => some 1
  | 0x1A1 => some 1
  | 0x1A2 => some 3
  | 0x1A3 => some 2
  | 0x1B0 => some 1
  | 0x1B1 => some 3
  | 0x1B2 => some 3
  | 0x1B3 => some 1
  | 0x1B4 => some 1
  | 0x1B5 => some 2
  | 0x1B6 => some 3
  | 0x1B7 => some 0
  | 0x1B8 => some 1
  | 0x1B9 => some 1
  | 0x1BA => some 3
  | 0x1BB => some 1
  | 0x1C0 => some 0
  | 0x1C1 => some 2
  | 0x1C2 => some 0
  | 0x1C3 => some 0
  | 0x1C4 => some 0
  | 0x1C5 => some 1
  | 0x1C6 => some 0
  | 0x1C7 => some 3
  | 0x1C8 => some 1
  | 0x1D0 => some 1
  | 0x1D1 => some 1
  | 0x1D2 => some 1
  | 0x1D3 => some 2
  | 0x1D4 => some 0
  | 0x1E0 => some 0
  | 0x1E1 => some 1
  | 0x1E2 => some 0
  | 0x1E3 => some 1
  | _ => none

end Sys2Proof.Machine
end

