-- ==== Sys2Proof/Machine/RegTable.lean ====
section
/-! DEFINITION. The register tables of the spec as data: for each block of the BAR map (R226, R229) its
base, stride and registers with their fields, access codes and reset values (R9 to R12). Reserved fields are
not listed: they read zero (R12). A reset value that the spec does not give as a number stands as 0 here and
is supplied by `regResetSpecial` or by the live view of the register. -/

namespace Sys2Proof.Machine

/-- Access codes of R10. -/
inductive Acc where
  | rw | ro | rc | w1c | w1s | wo | rwl
  deriving DecidableEq, Repr

/-- Reset domains of R15, with `ring` (warm on PF pages, function on VF pages, R232), `lane` (tree for lanes
0 to 383, warm above, R510) and `live`. -/
inductive RDom where
  | cold | warm | retained | tree | func | ring | lane | live
  deriving DecidableEq, Repr

/-- Register blocks. -/
inductive Blk where
  | glb | evc | mst | tim | cmd | bpm | cph | fwd | tmg | prt | mgt | rcd | wpt | upd | spr | pwr
  | gcr | lne | chn | subH | subX | pl | upl | ringPf | ringVf | vfPage | store
  deriving DecidableEq, Repr

/-- One field of a register. -/
structure Fld where
  hi : Nat
  lo : Nat
  acc : Acc
  rst : Nat
  deriving DecidableEq, Repr

/-- One register table row group: offset in its block, strides with counts (largest stride first). -/
structure RegDesc where
  off : Nat
  dims : List (Nat × Nat)
  w64 : Bool
  dom : RDom
  flds : List Fld
  deriving DecidableEq, Repr

/-- Registers of R67. -/
def regsMst : List RegDesc :=
  [
    -- MSC
    ⟨0x0, [], true, .cold, [⟨63, 0, .ro, 0x0⟩]⟩,
    -- CYCLE
    ⟨0x8, [], false, .cold, [⟨17, 0, .ro, 0x0⟩]⟩,
    -- HORIZON
    ⟨0x10, [], true, .cold, [⟨63, 0, .ro, 0x0⟩]⟩,
    -- EARLIEST
    ⟨0x18, [], true, .cold, [⟨63, 0, .ro, 0x0⟩]⟩,
    -- PLAN_CTL
    ⟨0x20, [], false, .warm, [⟨27, 24, .rwl, 0x8⟩, ⟨23, 16, .ro, 0x74⟩, ⟨15, 8, .ro, 0x62⟩, ⟨7, 0, .ro, 0x2⟩]⟩,
    -- CTL_LOCK
    ⟨0x24, [], false, .warm, [⟨0, 0, .w1s, 0x0⟩]⟩,
    -- LATE_ROADBOOK
    ⟨0x28, [], false, .warm, [⟨31, 0, .rc, 0x0⟩]⟩,
    -- HINT_LATE
    ⟨0x2C, [], false, .warm, [⟨31, 0, .rc, 0x0⟩]⟩,
    -- CF_TOTAL
    ⟨0x30, [], true, .warm, [⟨63, 0, .rc, 0x0⟩]⟩,
    -- OVR_INTERVALS
    ⟨0x38, [], true, .warm, [⟨63, 0, .rc, 0x0⟩]⟩,
    -- LAST_OVR
    ⟨0x40, [], true, .warm, [⟨63, 0, .ro, 0x0⟩]⟩,
    -- RESTART_DISCARD
    ⟨0x48, [], true, .warm, [⟨63, 0, .ro, 0x0⟩]⟩,
    -- LEDGER_SEL
    ⟨0x50, [], false, .warm, [⟨31, 31, .ro, 0x0⟩, ⟨8, 0, .rw, 0x0⟩]⟩,
    -- SNAP_MSC
    ⟨0x58, [], true, .warm, [⟨63, 0, .ro, 0x0⟩]⟩,
    -- LEDGER_CNT
    ⟨0x60, [(8, 9)], true, .retained, [⟨63, 0, .ro, 0x0⟩]⟩,
    -- DRAIN_COUNT
    ⟨0xA8, [], false, .warm, [⟨20, 0, .ro, 0x0⟩]⟩]

/-- Registers of R95. -/
def regsChn : List RegDesc :=
  [
    -- TREE_ID
    ⟨0x0, [], false, .tree, [⟨18, 16, .ro, 0x0⟩, ⟨9, 8, .ro, 0x0⟩, ⟨7, 0, .ro, 0x0⟩]⟩,
    -- TREE_STATE
    ⟨0x4, [], false, .tree, [⟨2, 2, .ro, 0x0⟩, ⟨1, 0, .ro, 0x0⟩]⟩,
    -- BRST_CFG
    ⟨0x8, [], false, .tree, [⟨19, 19, .rwl, 0x0⟩, ⟨18, 18, .rwl, 0x0⟩, ⟨17, 17, .rwl, 0x0⟩, ⟨16, 16, .rwl, 0x0⟩, ⟨15, 8, .rwl, 0x8⟩, ⟨7, 0, .rwl, 0x8⟩]⟩,
    -- SD_STATUS
    ⟨0xC, [], false, .tree, [⟨1, 1, .ro, 0x0⟩, ⟨0, 0, .ro, 0x0⟩]⟩,
    -- CTL_LOCK
    ⟨0x10, [], false, .tree, [⟨0, 0, .w1s, 0x0⟩]⟩]

/-- Registers of R95. -/
def regsSub : List RegDesc :=
  [
    -- SC_STATUS
    ⟨0x0, [], false, .tree, [⟨22, 22, .ro, 0x0⟩, ⟨21, 15, .ro, 0x0⟩, ⟨14, 8, .ro, 0x0⟩, ⟨7, 6, .ro, 0x0⟩, ⟨5, 5, .ro, 0x0⟩, ⟨4, 2, .ro, 0x5⟩, ⟨1, 0, .ro, 0x0⟩]⟩,
    -- GUARD_CFG
    ⟨0x4, [], false, .tree, [⟨31, 16, .ro, 0x0⟩, ⟨15, 0, .ro, 0x0⟩]⟩,
    -- PRELOAD_CFG
    ⟨0x8, [], false, .tree, [⟨24, 16, .rwl, 0x100⟩, ⟨15, 0, .rwl, 0x3E80⟩]⟩,
    -- DISC_CTL
    ⟨0xC, [], false, .tree, [⟨27, 16, .ro, 0x0⟩, ⟨15, 0, .ro, 0x0⟩]⟩,
    -- TERM_COUNT
    ⟨0x10, [], false, .tree, [⟨25, 16, .ro, 0x0⟩, ⟨9, 0, .ro, 0x0⟩]⟩,
    -- RX_CNT
    ⟨0x18, [(8, 4)], true, .tree, [⟨63, 0, .rc, 0x0⟩]⟩,
    -- KEY_MISS
    ⟨0x38, [], false, .tree, [⟨31, 0, .rc, 0x0⟩]⟩,
    -- DEM_CNT
    ⟨0x40, [(4, 5)], false, .tree, [⟨31, 0, .rc, 0x0⟩]⟩,
    -- PROFILE_A
    ⟨0x100, [(16, 4)], true, .tree, [⟨63, 32, .ro, 0xAAAAAAAA⟩, ⟨24, 24, .ro, 0x1⟩, ⟨23, 16, .ro, 0x0⟩, ⟨15, 0, .ro, 0x0⟩]⟩,
    -- PROFILE_B
    ⟨0x108, [(16, 4)], true, .tree, [⟨63, 0, .ro, 0x0⟩]⟩,
    -- DEMOTED
    ⟨0x200, [(4, 16)], false, .tree, [⟨31, 0, .w1c, 0x0⟩]⟩]

/-- Registers of R95. -/
def regsPl : List RegDesc :=
  [
    -- PL_SEL
    ⟨0x0, [], false, .tree, [⟨31, 31, .ro, 0x0⟩, ⟨9, 9, .rw, 0x0⟩, ⟨8, 0, .rw, 0x0⟩]⟩,
    -- PL_WORD0
    ⟨0x8, [], true, .tree, [⟨63, 56, .ro, 0x0⟩, ⟨55, 0, .ro, 0x0⟩]⟩,
    -- PL_WORD1
    ⟨0x10, [], true, .tree, [⟨63, 40, .ro, 0x0⟩, ⟨39, 39, .ro, 0x0⟩, ⟨38, 36, .ro, 0x0⟩, ⟨35, 34, .ro, 0x0⟩, ⟨33, 32, .ro, 0x0⟩, ⟨31, 31, .ro, 0x0⟩, ⟨30, 30, .ro, 0x0⟩, ⟨29, 20, .ro, 0x0⟩, ⟨19, 8, .ro, 0x0⟩, ⟨7, 0, .ro, 0x0⟩]⟩]

/-- Registers of R157. -/
def regsGcr : List RegDesc :=
  [
    -- CORE_ID
    ⟨0x0, [], false, .cold, [⟨7, 7, .ro, 0x0⟩, ⟨6, 0, .ro, 0x0⟩]⟩,
    -- CORE_STATE
    ⟨0x4, [], false, .warm, [⟨25, 24, .ro, 0x0⟩, ⟨23, 16, .ro, 0x0⟩, ⟨15, 8, .ro, 0x0⟩, ⟨2, 0, .ro, 0x0⟩]⟩,
    -- MAP_MSC
    ⟨0x8, [], true, .warm, [⟨63, 0, .ro, 0x0⟩]⟩,
    -- PROG_STATE
    ⟨0x10, [], false, .warm, [⟨5, 4, .ro, 0x0⟩, ⟨0, 0, .ro, 0x0⟩]⟩,
    -- SWAP_MSC
    ⟨0x18, [], true, .warm, [⟨63, 0, .ro, 0x0⟩]⟩,
    -- CAPACITY
    ⟨0x20, [], false, .warm, [⟨26, 16, .ro, 0x580⟩, ⟨10, 0, .ro, 0x0⟩]⟩,
    -- UNITS
    ⟨0x24, [], false, .warm, [⟨13, 0, .ro, 0x0⟩]⟩,
    -- BOUNDS
    ⟨0x28, [], false, .warm, [⟨31, 16, .ro, 0x0⟩, ⟨15, 0, .ro, 0x0⟩]⟩,
    -- MAINT
    ⟨0x2C, [], false, .warm, [⟨31, 16, .ro, 0x0⟩, ⟨15, 0, .ro, 0x0⟩]⟩,
    -- PLAN_LAST
    ⟨0x30, [], false, .warm, [⟨17, 0, .ro, 0x0⟩]⟩,
    -- PLAN_MAX
    ⟨0x34, [], false, .warm, [⟨17, 0, .rc, 0x0⟩]⟩,
    -- IDLE_LAST
    ⟨0x38, [], false, .warm, [⟨17, 0, .ro, 0x0⟩]⟩,
    -- CORE_CNT
    ⟨0x3C, [(4, 11)], false, .warm, [⟨31, 0, .rc, 0x0⟩]⟩,
    -- ERR_WIN
    ⟨0x68, [], false, .warm, [⟨7, 0, .ro, 0x0⟩]⟩,
    -- ASM_CNT
    ⟨0x80, [(16, 4), (4, 3)], false, .warm, [⟨31, 0, .rc, 0x0⟩]⟩,
    -- ASM_LAST
    ⟨0x8C, [(16, 4)], false, .warm, [⟨25, 16, .ro, 0x0⟩, ⟨10, 0, .ro, 0x0⟩]⟩]

/-- Registers of R228. -/
def regsGlb : List RegDesc :=
  [
    -- ID
    ⟨0x0, [], false, .cold, [⟨31, 16, .ro, 0x192⟩, ⟨15, 8, .ro, 0x1⟩, ⟨7, 0, .ro, 0xA1⟩]⟩,
    -- BAD_ACCESS
    ⟨0x8, [], false, .warm, [⟨31, 0, .rc, 0x0⟩]⟩]

/-- Registers of R231. -/
def regsVfPage : List RegDesc :=
  [
    -- DOM_STATE
    ⟨0x0, [], false, .func, [⟨7, 2, .ro, 0x0⟩, ⟨1, 0, .ro, 0x0⟩]⟩,
    -- NOTICE
    ⟨0x4, [], false, .func, [⟨16, 16, .w1c, 0x0⟩, ⟨14, 0, .w1c, 0x0⟩]⟩,
    -- NOTICE_CFG
    ⟨0x8, [], false, .func, [⟨19, 16, .rw, 0xF⟩]⟩,
    -- VEC_MOD
    ⟨0x10, [(4, 16)], false, .func, [⟨9, 0, .rw, 0x0⟩]⟩,
    -- QUOTA_USE
    ⟨0x80, [(4, 6)], false, .live, [⟨31, 0, .ro, 0x0⟩]⟩]

/-- Registers of R232. -/
def regsRing : List RegDesc :=
  [
    -- DESC_BASE
    ⟨0x0, [], true, .ring, [⟨63, 12, .rw, 0x0⟩]⟩,
    -- CPL_BASE
    ⟨0x8, [], true, .ring, [⟨63, 12, .rw, 0x0⟩]⟩,
    -- RING_CFG
    ⟨0x10, [], false, .ring, [⟨31, 31, .rw, 0x0⟩, ⟨24, 16, .rw, 0x0⟩, ⟨8, 8, .rw, 0x0⟩, ⟨4, 0, .rw, 0x4⟩]⟩,
    -- RING_STATE
    ⟨0x14, [], false, .ring, [⟨15, 8, .ro, 0x0⟩, ⟨2, 0, .ro, 0x0⟩]⟩,
    -- TAIL
    ⟨0x18, [], false, .ring, [⟨31, 0, .rw, 0x0⟩]⟩,
    -- DHEAD
    ⟨0x1C, [], false, .retained, [⟨31, 0, .ro, 0x0⟩]⟩,
    -- CDONE
    ⟨0x20, [], false, .retained, [⟨31, 0, .ro, 0x0⟩]⟩,
    -- CPL_HEAD
    ⟨0x24, [], false, .ring, [⟨31, 0, .rw, 0x0⟩]⟩,
    -- CPL_TAIL
    ⟨0x28, [], false, .ring, [⟨31, 0, .ro, 0x0⟩]⟩,
    -- START_SEQ
    ⟨0x2C, [], false, .ring, [⟨31, 0, .rw, 0x0⟩]⟩,
    -- INFLIGHT
    ⟨0x30, [], false, .ring, [⟨16, 0, .ro, 0x0⟩]⟩]

/-- Registers of R270. -/
def regsEvc : List RegDesc :=
  [
    -- EVQ_BASE
    ⟨0x0, [], true, .warm, [⟨63, 12, .rw, 0x0⟩]⟩,
    -- EVQ_CFG
    ⟨0x8, [], false, .warm, [⟨31, 31, .rw, 0x0⟩, ⟨4, 0, .rw, 0x8⟩]⟩,
    -- EVQ_HEAD
    ⟨0xC, [], false, .warm, [⟨31, 0, .rw, 0x0⟩]⟩,
    -- EVQ_TAIL
    ⟨0x10, [], false, .warm, [⟨31, 0, .ro, 0x0⟩]⟩,
    -- EVQ_LOST
    ⟨0x14, [], false, .warm, [⟨31, 0, .rc, 0x0⟩]⟩,
    -- EV_CFG
    ⟨0x4000, [(4, 2048)], false, .warm, [⟨31, 31, .rw, 0x1⟩, ⟨30, 30, .rw, 0x1⟩, ⟨13, 12, .ro, 0x0⟩, ⟨8, 0, .rw, 0x0⟩]⟩,
    -- EV_CNT
    ⟨0x6000, [(4, 2048)], false, .warm, [⟨31, 0, .rc, 0x0⟩]⟩,
    -- PENDING
    ⟨0x8000, [(4, 64)], false, .warm, [⟨31, 0, .w1c, 0x0⟩]⟩,
    -- VEC_MOD
    ⟨0x9000, [(4, 512)], false, .warm, [⟨9, 0, .rw, 0x0⟩]⟩]

/-- Registers of R272. -/
def regsCmd : List RegDesc :=
  [
    -- JRN_STATE
    ⟨0x0, [], false, .warm, [⟨3, 3, .ro, 0x0⟩, ⟨2, 2, .ro, 0x0⟩, ⟨1, 1, .ro, 0x1⟩, ⟨0, 0, .ro, 0x1⟩]⟩,
    -- ACCEPT_NUM
    ⟨0x8, [], true, .retained, [⟨63, 0, .ro, 0x0⟩]⟩,
    -- EXECUTING
    ⟨0x10, [], false, .warm, [⟨12, 0, .ro, 0x0⟩]⟩,
    -- CMD_CNT
    ⟨0x14, [(4, 3)], false, .warm, [⟨31, 0, .rc, 0x0⟩]⟩,
    -- RETAIN
    ⟨0x1000, [(8, 1024)], true, .retained, [⟨63, 32, .ro, 0x0⟩, ⟨31, 0, .ro, 0x0⟩]⟩]

/-- Registers of R303. -/
def regsTmg : List RegDesc :=
  [
    -- TM_CFG
    ⟨0x0, [], false, .warm, [⟨0, 0, .rwl, 0x1⟩]⟩,
    -- DS_QLIMIT_DEF
    ⟨0x4, [], false, .warm, [⟨31, 0, .rwl, 0x200000⟩]⟩,
    -- US_QLIMIT_DEF
    ⟨0x8, [], false, .warm, [⟨31, 0, .rwl, 0x4000000⟩]⟩,
    -- CTL_LOCK
    ⟨0xC, [], false, .warm, [⟨0, 0, .w1s, 0x0⟩]⟩,
    -- DROP_CNT
    ⟨0x10, [(8, 7)], true, .warm, [⟨63, 0, .rc, 0x0⟩]⟩,
    -- SWEEP_MSC
    ⟨0x48, [], true, .warm, [⟨63, 0, .ro, 0x0⟩]⟩,
    -- GATE_SEL
    ⟨0x50, [], false, .warm, [⟨9, 9, .rw, 0x0⟩, ⟨8, 0, .rw, 0x0⟩]⟩,
    -- GATE_STATUS
    ⟨0x54, [], false, .warm, [⟨31, 31, .ro, 0x0⟩, ⟨30, 30, .ro, 0x0⟩, ⟨23, 16, .ro, 0xFF⟩, ⟨7, 0, .ro, 0x0⟩]⟩,
    -- GATE_CYCLES
    ⟨0x58, [], true, .warm, [⟨63, 0, .ro, 0x0⟩]⟩,
    -- GATE_SWITCH
    ⟨0x60, [], true, .warm, [⟨63, 0, .ro, 0x0⟩]⟩]

/-- Registers of R327. -/
def regsFwd : List RegDesc :=
  [
    -- LEARN_CFG
    ⟨0x0, [], false, .warm, [⟨23, 16, .rwl, 0x3C⟩, ⟨15, 12, .rwl, 0x4⟩, ⟨11, 0, .rwl, 0x3E8⟩]⟩,
    -- AGE_TIME
    ⟨0x4, [], false, .warm, [⟨31, 0, .rwl, 0x12C⟩]⟩,
    -- CTL_LOCK
    ⟨0x8, [], false, .warm, [⟨0, 0, .w1s, 0x0⟩]⟩,
    -- DEV_CNT
    ⟨0x10, [(8, 2)], true, .warm, [⟨63, 0, .rc, 0x0⟩]⟩,
    -- PIPE_STATE
    ⟨0x1000, [(256, 8)], false, .warm, [⟨31, 31, .ro, 0x0⟩, ⟨30, 30, .ro, 0x0⟩, ⟨25, 19, .ro, 0x0⟩, ⟨18, 0, .ro, 0x0⟩]⟩,
    -- SEED
    ⟨0x1004, [(256, 8)], false, .warm, [⟨31, 0, .ro, 0x0⟩]⟩,
    -- PIPE_CNT
    ⟨0x1008, [(256, 8), (8, 13)], true, .warm, [⟨63, 0, .rc, 0x0⟩]⟩,
    -- PIPE_CTL
    ⟨0x1070, [(256, 8)], false, .warm, [⟨0, 0, .rwl, 0x1⟩]⟩]

/-- Registers of R348. -/
def regsBpm : List RegDesc :=
  [
    -- POOL_CFG
    ⟨0x0, [(32, 4)], false, .warm, [⟨7, 0, .ro, 0x0⟩]⟩,
    -- BUFFERS
    ⟨0x4, [(32, 4)], false, .warm, [⟨31, 0, .ro, 0x0⟩]⟩,
    -- FREE
    ⟨0x8, [(32, 4)], false, .warm, [⟨31, 0, .ro, 0x0⟩]⟩,
    -- MIN_FREE
    ⟨0xC, [(32, 4)], false, .warm, [⟨31, 0, .rc, 0x0⟩]⟩,
    -- POOL_CNT
    ⟨0x10, [(32, 4), (4, 4)], false, .warm, [⟨31, 0, .rc, 0x0⟩]⟩,
    -- DEV_CNT
    ⟨0x100, [(8, 7)], true, .warm, [⟨63, 0, .rc, 0x0⟩]⟩,
    -- CACHE_CFG
    ⟨0x140, [], false, .warm, [⟨13, 8, .rwl, 0x10⟩, ⟨6, 0, .rwl, 0x40⟩]⟩,
    -- CTL_LOCK
    ⟨0x144, [], false, .warm, [⟨0, 0, .w1s, 0x0⟩]⟩,
    -- HBM_FREE
    ⟨0x148, [], false, .warm, [⟨7, 0, .ro, 0x0⟩]⟩,
    -- LAYOUT_PEND
    ⟨0x14C, [], false, .warm, [⟨0, 0, .ro, 0x0⟩]⟩,
    -- PC_ACTIVE
    ⟨0x150, [(4, 8)], false, .cold, [⟨31, 0, .ro, 0x0⟩]⟩]

/-- Registers of R369. -/
def regsCph : List RegDesc :=
  [
    -- PON_CAP
    ⟨0x0, [(64, 4)], false, .warm, [⟨31, 16, .ro, 0x8340⟩, ⟨15, 0, .ro, 0x0⟩]⟩,
    -- PON_UNITS
    ⟨0x4, [(64, 4)], false, .warm, [⟨24, 16, .ro, 0x150⟩, ⟨4, 0, .ro, 0x10⟩]⟩,
    -- PON_CNT
    ⟨0x8, [(64, 4), (8, 5)], true, .warm, [⟨63, 0, .rc, 0x0⟩]⟩,
    -- MACSEC_UNITS
    ⟨0x100, [(64, 2)], false, .warm, [⟨26, 16, .ro, 0x3E0⟩, ⟨5, 0, .ro, 0x20⟩]⟩,
    -- MACSEC_NEED
    ⟨0x104, [(64, 2)], false, .warm, [⟨10, 0, .ro, 0x0⟩]⟩,
    -- MACSEC_CNT
    ⟨0x108, [(64, 2), (8, 4)], true, .warm, [⟨63, 0, .rc, 0x0⟩]⟩,
    -- CPH_CFG
    ⟨0x200, [], false, .warm, [⟨15, 0, .rwl, 0x3E8⟩]⟩,
    -- CTL_LOCK
    ⟨0x204, [], false, .warm, [⟨0, 0, .w1s, 0x0⟩]⟩]

/-- Registers of R392. -/
def regsTim : List RegDesc :=
  [
    -- TIME_NSF
    ⟨0x0, [], true, .retained, [⟨63, 32, .ro, 0x0⟩, ⟨31, 16, .ro, 0x0⟩]⟩,
    -- TIME_SEC
    ⟨0x8, [], true, .retained, [⟨47, 0, .ro, 0x0⟩]⟩,
    -- TIME_STATE
    ⟨0x10, [], false, .retained, [⟨31, 31, .ro, 0x0⟩, ⟨30, 30, .ro, 0x0⟩, ⟨2, 0, .ro, 0x0⟩]⟩,
    -- OFFSET_IN
    ⟨0x18, [], true, .warm, [⟨63, 0, .wo, 0x0⟩]⟩,
    -- SERVO_CFG
    ⟨0x20, [], false, .retained, [⟨31, 16, .rwl, 0xB3⟩, ⟨15, 0, .rwl, 0xCD⟩]⟩,
    -- JUMP_LIMIT
    ⟨0x24, [], false, .retained, [⟨23, 0, .rwl, 0x3E8⟩]⟩,
    -- HOLD_CFG
    ⟨0x28, [], false, .retained, [⟨31, 16, .rwl, 0x7D0⟩, ⟨15, 8, .rwl, 0x10⟩, ⟨7, 0, .rwl, 0x14⟩]⟩,
    -- START_CFG
    ⟨0x2C, [], false, .retained, [⟨15, 0, .rwl, 0x0⟩]⟩,
    -- FREQ
    ⟨0x30, [], false, .retained, [⟨31, 0, .ro, 0x0⟩]⟩,
    -- FREQ_HOLD
    ⟨0x34, [], false, .retained, [⟨31, 0, .ro, 0x0⟩]⟩,
    -- LAST_OFFSET
    ⟨0x38, [], false, .warm, [⟨31, 0, .ro, 0x0⟩]⟩,
    -- TIM_CNT
    ⟨0x3C, [(4, 5)], false, .warm, [⟨31, 0, .rc, 0x0⟩]⟩,
    -- CTL_LOCK
    ⟨0x50, [], false, .warm, [⟨0, 0, .w1s, 0x0⟩]⟩,
    -- DS_LAT
    ⟨0x54, [], false, .cold, [⟨31, 16, .ro, 0xD48⟩, ⟨15, 0, .ro, 0xF28⟩]⟩,
    -- PPS_CFG
    ⟨0x58, [], false, .warm, [⟨1, 1, .rw, 0x0⟩, ⟨0, 0, .rw, 0x0⟩]⟩,
    -- PPS_IN_TS
    ⟨0x60, [], true, .warm, [⟨63, 32, .ro, 0x0⟩, ⟨31, 16, .ro, 0x0⟩, ⟨15, 0, .ro, 0x0⟩]⟩,
    -- RCLK_CFG
    ⟨0x70, [(4, 2)], false, .warm, [⟨31, 31, .rw, 0x0⟩, ⟨30, 30, .rw, 0x0⟩, ⟨29, 29, .ro, 0x1⟩, ⟨9, 0, .rw, 0x180⟩]⟩]

/-- Registers of R423. -/
def regsPrt : List RegDesc :=
  [
    -- PAIR_CFG
    ⟨0x0, [], false, .retained, [⟨31, 16, .ro, 0x0⟩, ⟨10, 10, .ro, 0x0⟩, ⟨9, 9, .ro, 0x1⟩, ⟨7, 0, .ro, 0x4⟩]⟩,
    -- PAIR_STATE
    ⟨0x4, [], false, .warm, [⟨10, 8, .ro, 0x0⟩, ⟨7, 7, .ro, 0x0⟩, ⟨6, 6, .ro, 0x0⟩, ⟨5, 4, .ro, 0x0⟩, ⟨1, 0, .ro, 0x0⟩]⟩,
    -- EPOCH
    ⟨0x8, [], false, .retained, [⟨31, 0, .ro, 0x0⟩]⟩,
    -- FENCE_CFG
    ⟨0xC, [], false, .retained, [⟨15, 0, .rwl, 0x0⟩]⟩,
    -- CTL_LOCK
    ⟨0x10, [], false, .warm, [⟨0, 0, .w1s, 0x0⟩]⟩,
    -- UNSYNC
    ⟨0x14, [], false, .warm, [⟨17, 0, .ro, 0x0⟩]⟩,
    -- LAST_SYNC_MSC
    ⟨0x18, [], true, .warm, [⟨63, 0, .ro, 0x0⟩]⟩,
    -- PAIR_CNT
    ⟨0x20, [(4, 8)], false, .warm, [⟨31, 0, .rc, 0x0⟩]⟩,
    -- RX_SKEW
    ⟨0x100, [(4, 384)], false, .warm, [⟨31, 0, .ro, 0x0⟩]⟩,
    -- TREE_PAIR_STATE
    ⟨0x800, [(4, 192)], false, .retained, [⟨31, 31, .ro, 0x0⟩, ⟨30, 30, .ro, 0x0⟩, ⟨29, 29, .ro, 0x0⟩, ⟨9, 9, .ro, 0x0⟩, ⟨8, 8, .ro, 0x0⟩, ⟨7, 0, .ro, 0x0⟩]⟩]

/-- Registers of R424. -/
def regsSpr : List RegDesc :=
  [
    -- INV_A
    ⟨0x0, [(16, 11)], false, .retained, [⟨31, 16, .ro, 0x0⟩, ⟨15, 0, .ro, 0x0⟩]⟩,
    -- INV_B
    ⟨0x4, [(16, 11)], false, .retained, [⟨31, 16, .ro, 0x0⟩, ⟨15, 0, .ro, 0x0⟩]⟩,
    -- FAULT_POLICY
    ⟨0x8, [(16, 11)], false, .retained, [⟨31, 24, .rwl, 0x0⟩, ⟨23, 0, .rwl, 0x3E8⟩]⟩,
    -- FAULTS
    ⟨0xC, [(16, 11)], false, .warm, [⟨31, 0, .rc, 0x0⟩]⟩,
    -- CTL_LOCK
    ⟨0x100, [], false, .warm, [⟨0, 0, .w1s, 0x0⟩]⟩,
    -- D2D_RETRY
    ⟨0x110, [(8, 6)], true, .warm, [⟨63, 0, .rc, 0x0⟩]⟩,
    -- D2D_DROP
    ⟨0x140, [(8, 12)], true, .warm, [⟨63, 0, .rc, 0x0⟩]⟩,
    -- HEALTH_SEL
    ⟨0x200, [], false, .warm, [⟨31, 31, .ro, 0x0⟩, ⟨27, 24, .rw, 0x0⟩, ⟨11, 0, .rw, 0x0⟩]⟩,
    -- HEALTH
    ⟨0x208, [], true, .warm, [⟨63, 32, .ro, 0x0⟩, ⟨31, 16, .ro, 0x0⟩, ⟨15, 8, .ro, 0x0⟩, ⟨3, 3, .ro, 0x0⟩, ⟨2, 0, .ro, 0x0⟩]⟩]

/-- Registers of R454. -/
def regsMgt : List RegDesc :=
  [
    -- MGT_STATE
    ⟨0x0, [], false, .warm, [⟨11, 8, .ro, 0x3⟩, ⟨7, 4, .ro, 0xC⟩, ⟨0, 0, .ro, 0x0⟩]⟩,
    -- MGT_CFG
    ⟨0x4, [], false, .warm, [⟨1, 1, .rwl, 0x1⟩, ⟨0, 0, .rwl, 0x1⟩]⟩,
    -- OOB_MAC
    ⟨0x8, [], true, .cold, [⟨47, 0, .ro, 0x0⟩]⟩,
    -- MBX_CTL
    ⟨0x10, [], false, .warm, [⟨31, 31, .w1s, 0x0⟩, ⟨30, 30, .w1c, 0x0⟩, ⟨27, 16, .rw, 0x0⟩, ⟨12, 0, .ro, 0x0⟩]⟩,
    -- ALERT
    ⟨0x18, [], false, .retained, [⟨3, 3, .ro, 0x0⟩, ⟨2, 2, .ro, 0x0⟩, ⟨1, 1, .ro, 0x0⟩, ⟨0, 0, .ro, 0x0⟩]⟩,
    -- THERM
    ⟨0x4000, [(4, 96)], false, .warm, [⟨31, 31, .ro, 0x0⟩, ⟨30, 30, .ro, 0x0⟩, ⟨15, 0, .ro, 0x0⟩]⟩,
    -- THERM_STATUS
    ⟨0x4180, [], false, .warm, [⟨23, 18, .ro, 0x0⟩, ⟨17, 17, .ro, 0x0⟩, ⟨16, 16, .ro, 0x0⟩, ⟨15, 0, .ro, 0x0⟩]⟩,
    -- VOLT
    ⟨0x4200, [(4, 48)], false, .warm, [⟨31, 31, .ro, 0x0⟩, ⟨30, 30, .ro, 0x0⟩, ⟨15, 0, .ro, 0x0⟩]⟩,
    -- VOLT_LIMIT
    ⟨0x4300, [(4, 48)], false, .warm, [⟨31, 16, .rwl, 0x0⟩, ⟨15, 0, .rwl, 0x0⟩]⟩,
    -- HBM_TEMP
    ⟨0x4400, [(4, 8)], false, .warm, [⟨7, 0, .ro, 0x0⟩]⟩,
    -- CTL_LOCK
    ⟨0x4420, [], false, .warm, [⟨0, 0, .w1s, 0x0⟩]⟩,
    -- LR_A
    ⟨0x8000, [(16, 16)], true, .retained, [⟨63, 32, .ro, 0x0⟩, ⟨23, 16, .ro, 0x0⟩, ⟨0, 0, .ro, 0x0⟩]⟩,
    -- LR_B
    ⟨0x8008, [(16, 16)], true, .retained, [⟨63, 0, .ro, 0x0⟩]⟩,
    -- LR_STATE
    ⟨0x8100, [], false, .retained, [⟨31, 16, .ro, 0x0⟩, ⟨3, 0, .ro, 0xF⟩]⟩,
    -- mailbox request bytes
    ⟨0x1000, [(4, 256)], false, .warm, [⟨31, 0, .rw, 0x0⟩]⟩,
    -- mailbox response bytes
    ⟨0x2000, [(4, 1024)], false, .live, [⟨31, 0, .ro, 0x0⟩]⟩]

/-- Registers of R455. -/
def regsRcd : List RegDesc :=
  [
    -- REC_STATUS
    ⟨0x0, [], false, .warm, [⟨31, 31, .ro, 0x0⟩, ⟨30, 30, .ro, 0x1⟩, ⟨29, 29, .ro, 0x1⟩, ⟨28, 28, .ro, 0x1⟩, ⟨12, 0, .ro, 0x0⟩]⟩,
    -- COMMIT_MSC
    ⟨0x8, [], true, .warm, [⟨63, 0, .ro, 0x0⟩]⟩,
    -- MRAM_MSC
    ⟨0x10, [], true, .retained, [⟨63, 0, .ro, 0x0⟩]⟩,
    -- REC_SEL
    ⟨0x18, [], false, .warm, [⟨11, 0, .rw, 0x0⟩]⟩,
    -- LEDGER_NEXT
    ⟨0x20, [], true, .retained, [⟨63, 0, .ro, 0x0⟩]⟩,
    -- REC_WIN
    ⟨0x100, [(4, 48)], false, .live, [⟨31, 0, .ro, 0x0⟩]⟩]

/-- Registers of R486. -/
def regsWpt : List RegDesc :=
  [
    -- WP_STATE
    ⟨0x0, [], false, .warm, [⟨31, 31, .ro, 0x0⟩, ⟨30, 30, .ro, 0x0⟩, ⟨29, 29, .ro, 0x0⟩, ⟨28, 28, .ro, 0x0⟩, ⟨18, 16, .ro, 0x0⟩, ⟨15, 12, .ro, 0x0⟩, ⟨2, 0, .ro, 0x0⟩]⟩,
    -- LATEST_VER
    ⟨0x8, [], true, .retained, [⟨63, 0, .ro, 0x0⟩]⟩,
    -- LATEST_A
    ⟨0x10, [], true, .retained, [⟨63, 0, .ro, 0x0⟩]⟩,
    -- JRN_BLOCKS
    ⟨0x18, [], false, .warm, [⟨18, 0, .ro, 0x0⟩]⟩,
    -- SLOT_VER
    ⟨0x20, [(16, 8)], true, .retained, [⟨63, 0, .ro, 0x0⟩]⟩,
    -- SLOT_INFO
    ⟨0x28, [(16, 8)], true, .retained, [⟨63, 48, .ro, 0x0⟩, ⟨47, 47, .ro, 0x0⟩, ⟨46, 46, .ro, 0x0⟩, ⟨45, 45, .ro, 0x0⟩, ⟨44, 44, .ro, 0x0⟩, ⟨16, 0, .ro, 0x0⟩]⟩,
    -- WP_CNT
    ⟨0xA0, [(4, 4)], false, .warm, [⟨31, 0, .rc, 0x0⟩]⟩,
    -- WPF_RUN
    ⟨0xB0, [], false, .warm, [⟨31, 16, .ro, 0x0⟩, ⟨15, 0, .ro, 0x0⟩]⟩]

/-- Registers of R487. -/
def regsUpd : List RegDesc :=
  [
    -- UPD_STATE
    ⟨0x0, [], false, .retained, [⟨31, 24, .ro, 0x0⟩, ⟨18, 16, .ro, 0x0⟩, ⟨2, 0, .ro, 0x0⟩]⟩,
    -- PIECES
    ⟨0x4, [], false, .retained, [⟨25, 16, .ro, 0x0⟩, ⟨9, 0, .ro, 0x0⟩]⟩,
    -- RUN_VER
    ⟨0x8, [], true, .retained, [⟨63, 0, .ro, 0x0⟩]⟩,
    -- NEW_VER
    ⟨0x10, [], true, .retained, [⟨63, 0, .ro, 0x0⟩]⟩,
    -- SVN
    ⟨0x18, [], false, .retained, [⟨31, 16, .ro, 0x0⟩, ⟨15, 0, .ro, 0x0⟩]⟩,
    -- MARKER
    ⟨0x1C, [], false, .retained, [⟨31, 31, .ro, 0x0⟩, ⟨30, 30, .ro, 0x0⟩, ⟨8, 0, .ro, 0x0⟩]⟩,
    -- BITMAP
    ⟨0x20, [(4, 16)], false, .retained, [⟨31, 0, .ro, 0x0⟩]⟩,
    -- UPD_CNT
    ⟨0x60, [(4, 4)], false, .warm, [⟨31, 0, .rc, 0x0⟩]⟩]

/-- Registers of R507. -/
def regsUpl : List RegDesc :=
  [
    -- PORT_CFG
    ⟨0x0, [], false, .warm, [⟨31, 31, .ro, 0x0⟩, ⟨17, 16, .ro, 0x0⟩, ⟨15, 15, .ro, 0x0⟩, ⟨13, 0, .ro, 0x0⟩]⟩,
    -- PORT_STATE
    ⟨0x4, [], false, .warm, [⟨4, 4, .ro, 0x0⟩, ⟨3, 3, .ro, 0x0⟩, ⟨1, 0, .ro, 0x0⟩]⟩,
    -- PORT_CNT
    ⟨0x10, [(8, 12)], true, .warm, [⟨63, 0, .rc, 0x0⟩]⟩]

/-- Registers of R510. -/
def regsLne : List RegDesc :=
  [
    -- LANE_ID
    ⟨0x0, [], false, .cold, [⟨19, 16, .ro, 0x0⟩, ⟨12, 10, .ro, 0x0⟩, ⟨9, 0, .ro, 0x0⟩]⟩,
    -- LANE_STATE
    ⟨0x4, [], false, .lane, [⟨5, 5, .ro, 0x0⟩, ⟨4, 4, .ro, 0x0⟩, ⟨3, 3, .ro, 0x0⟩, ⟨2, 0, .ro, 0x1⟩]⟩,
    -- LANE_CFG
    ⟨0x8, [], false, .lane, [⟨6, 6, .rwl, 0x0⟩, ⟨5, 5, .rwl, 0x0⟩, ⟨4, 4, .rwl, 0x0⟩, ⟨3, 0, .rwl, 0x4⟩]⟩,
    -- MARGIN_CFG
    ⟨0xC, [], false, .lane, [⟨23, 16, .rwl, 0x0⟩, ⟨15, 8, .rwl, 0x0⟩, ⟨7, 0, .rwl, 0x8⟩]⟩,
    -- MARGIN
    ⟨0x10, [], false, .lane, [⟨31, 16, .ro, 0x0⟩, ⟨15, 0, .ro, 0x0⟩]⟩,
    -- MARGIN_MIN
    ⟨0x14, [], false, .lane, [⟨31, 16, .rc, 0xFFFF⟩, ⟨15, 0, .rc, 0xFFFF⟩]⟩,
    -- RX_COEF
    ⟨0x18, [], true, .lane, [⟨63, 16, .ro, 0x0⟩, ⟨15, 8, .ro, 0x0⟩, ⟨7, 0, .ro, 0x0⟩]⟩,
    -- STORED_COEF
    ⟨0x20, [], true, .lane, [⟨63, 0, .ro, 0x0⟩]⟩,
    -- SKEW
    ⟨0x28, [], false, .lane, [⟨15, 0, .ro, 0x0⟩]⟩,
    -- LANE_CNT
    ⟨0x30, [(4, 6)], false, .lane, [⟨31, 0, .rc, 0x0⟩]⟩,
    -- TEST_CTL
    ⟨0x50, [], false, .lane, [⟨8, 8, .ro, 0x0⟩, ⟨7, 7, .rw, 0x0⟩, ⟨6, 6, .rw, 0x0⟩, ⟨5, 4, .rw, 0x0⟩, ⟨2, 0, .rw, 0x0⟩]⟩,
    -- INJECT
    ⟨0x54, [], false, .lane, [⟨23, 16, .wo, 0x0⟩, ⟨15, 0, .wo, 0x0⟩]⟩,
    -- CHK_STATE
    ⟨0x58, [], false, .lane, [⟨16, 16, .ro, 0x0⟩, ⟨15, 0, .rc, 0x0⟩]⟩,
    -- CHK_BITS
    ⟨0x60, [], true, .lane, [⟨63, 0, .rc, 0x0⟩]⟩,
    -- CHK_ERRORS
    ⟨0x68, [], true, .lane, [⟨63, 0, .rc, 0x0⟩]⟩,
    -- EMU_CFG
    ⟨0x70, [], false, .lane, [⟨31, 16, .rw, 0x40⟩, ⟨15, 8, .rw, 0x10⟩, ⟨1, 0, .rw, 0x0⟩]⟩,
    -- BURST_FAIL
    ⟨0x78, [], false, .lane, [⟨31, 0, .rc, 0x0⟩]⟩,
    -- CTL_LOCK
    ⟨0x7C, [], false, .lane, [⟨0, 0, .w1s, 0x0⟩]⟩]

/-- Registers of R533. -/
def regsPwr : List RegDesc :=
  [
    -- BOOT_STATE
    ⟨0x0, [], false, .cold, [⟨31, 16, .ro, 0x0⟩, ⟨2, 0, .ro, 0x0⟩]⟩,
    -- RST_CAUSE
    ⟨0x4, [], false, .retained, [⟨7, 4, .ro, 0x0⟩, ⟨3, 0, .ro, 0x1⟩]⟩,
    -- VAO_STATE
    ⟨0x8, [], false, .retained, [⟨31, 16, .rc, 0x0⟩, ⟨2, 2, .ro, 0x0⟩, ⟨1, 1, .ro, 0x0⟩, ⟨0, 0, .ro, 0x0⟩]⟩,
    -- PF_STATE
    ⟨0xC, [], false, .retained, [⟨31, 16, .rc, 0x0⟩, ⟨15, 8, .rc, 0x0⟩, ⟨2, 2, .ro, 0x0⟩, ⟨1, 1, .ro, 0x0⟩, ⟨0, 0, .ro, 0x0⟩]⟩,
    -- STRAPS
    ⟨0x10, [], false, .cold, [⟨4, 4, .ro, 0x0⟩, ⟨3, 3, .ro, 0x0⟩, ⟨2, 0, .ro, 0x0⟩]⟩,
    -- RST_CTL
    ⟨0x14, [], false, .warm, [⟨16, 16, .ro, 0x0⟩, ⟨15, 8, .wo, 0x0⟩, ⟨0, 0, .wo, 0x0⟩]⟩,
    -- CTL_LOCK
    ⟨0x18, [], false, .warm, [⟨0, 0, .w1s, 0x0⟩]⟩]

/-- The program store window of a core (R227): 16,384 instruction words, then 2,048 constants. -/
def regsStore : List RegDesc :=
  [⟨0x0, [(4, 16384)], false, .live, [⟨31, 0, .ro, 0⟩]⟩,
   ⟨0x1_0000, [(8, 2048)], true, .live, [⟨63, 0, .ro, 0⟩]⟩]

/-- A family of equal blocks: kind, base in the model's one register address space, strides with counts,
size of one block, its registers and the offset of its CTL_LOCK if it has RWL fields (R11). -/
structure BlkDesc where
  blk : Blk
  base : Nat
  dims : List (Nat × Nat)
  size : Nat
  regs : List RegDesc
  lock : Option Nat
  deriving DecidableEq, Repr

/-- Base of the addresses the model gives VF BAR0 pages: VF v at this plus v × 0x1_0000. -/
abbrev vfBase : Nat := 0x1_0000_0000

/-- Base of the addresses the model gives PF BAR2. -/
abbrev bar2Base : Nat := 0x2_0000_0000

/-- The BAR map of R226 and R229. -/
def blkMap : List BlkDesc :=
  [⟨.glb, 0x0, [], 0x1_0000, regsGlb, none⟩,
   ⟨.evc, 0x1_0000, [], 0x1_0000, regsEvc, none⟩,
   ⟨.mst, 0x2_0000, [], 0x1_0000, regsMst, some 0x24⟩,
   ⟨.tim, 0x3_0000, [], 0x1_0000, regsTim, some 0x50⟩,
   ⟨.cmd, 0x4_0000, [], 0x1_0000, regsCmd, none⟩,
   ⟨.bpm, 0x5_0000, [], 0x1_0000, regsBpm, some 0x144⟩,
   ⟨.cph, 0x6_0000, [], 0x1_0000, regsCph, some 0x204⟩,
   ⟨.fwd, 0x7_0000, [], 0x1_0000, regsFwd, some 0x8⟩,
   ⟨.tmg, 0x8_0000, [], 0x1_0000, regsTmg, some 0xC⟩,
   ⟨.prt, 0x9_0000, [], 0x1_0000, regsPrt, some 0x10⟩,
   ⟨.mgt, 0xA_0000, [], 0x1_0000, regsMgt, some 0x4420⟩,
   ⟨.rcd, 0xB_0000, [], 0x1_0000, regsRcd, none⟩,
   ⟨.wpt, 0xC_0000, [], 0x1_0000, regsWpt, none⟩,
   ⟨.upd, 0xD_0000, [], 0x1_0000, regsUpd, none⟩,
   ⟨.spr, 0xE_0000, [], 0x1_0000, regsSpr, some 0x100⟩,
   ⟨.pwr, 0xF_0000, [], 0x1_0000, regsPwr, some 0x18⟩,
   ⟨.gcr, 0x40_0000, [(0x1000, 104)], 0x1000, regsGcr, none⟩,
   ⟨.lne, 0x80_0000, [(0x800, 516)], 0x800, regsLne, some 0x7C⟩,
   ⟨.chn, 0x100_0000, [(0x4000, 192)], 0x1000, regsChn, some 0x10⟩,
   ⟨.subH, 0x100_1000, [(0x4000, 192)], 0x1000, regsSub, none⟩,
   ⟨.subX, 0x100_2000, [(0x4000, 192)], 0x1000, regsSub, none⟩,
   ⟨.pl, 0x100_3000, [(0x4000, 192)], 0x1000, regsPl, none⟩,
   ⟨.upl, 0x140_0000, [(0x1000, 128)], 0x1000, regsUpl, none⟩,
   ⟨.store, 0x200_0000, [(0x2_0000, 104)], 0x2_0000, regsStore, none⟩,
   ⟨.ringVf, vfBase + 0x1_0000, [(0x1_0000, 63), (0x1000, 15)], 0x1000, regsRing, none⟩,
   ⟨.vfPage, vfBase + 0x1_F000, [(0x1_0000, 63)], 0x800, regsVfPage, none⟩,
   ⟨.ringPf, bar2Base, [(0x1000, 64)], 0x1000, regsRing, none⟩]

/-- Index of `o` along strides `dims`, with what remains below the last stride. -/
def dimIdx (dims : List (Nat × Nat)) (o : Nat) : Option (List Nat × Nat) :=
  match dims with
  | [] => some ([], o)
  | (st, n) :: r =>
    if o / st < n then
      match dimIdx r (o % st) with
      | some (l, rem) => some (o / st :: l, rem)
      | none => none
    else none

/-- Bytes of a register. -/
def RegDesc.bytes (r : RegDesc) : Nat := if r.w64 then 8 else 4

/-- The register of `rs` that holds block offset `o`: its row group, index list and the byte within it. -/
def findReg (rs : List RegDesc) (o : Nat) : Option (RegDesc × List Nat × Nat) :=
  match rs with
  | [] => none
  | r :: t =>
    if r.off ≤ o then
      match dimIdx r.dims (o - r.off) with
      | some (ix, rem) => if rem < r.bytes then some (r, ix, rem) else findReg t o
      | none => findReg t o
    else findReg t o

/-- The block that holds address `a`: descriptor, index list and offset within it. -/
def findBlk (bs : List BlkDesc) (a : Nat) : Option (BlkDesc × List Nat × Nat) :=
  match bs with
  | [] => none
  | b :: t =>
    if b.base ≤ a then
      match dimIdx b.dims (a - b.base) with
      | some (ix, rem) => if rem < b.size then some (b, ix, rem) else findBlk t a
      | none => findBlk t a
    else findBlk t a

/-- A register of the device as found from an address. -/
structure RegAt where
  blk : BlkDesc
  bix : List Nat
  reg : RegDesc
  rix : List Nat
  /-- address of the register's first byte -/
  start : Nat
  /-- byte of the register that the address names -/
  byte : Nat
  deriving DecidableEq, Repr

/-- The register that holds address `a`, if `a` is not reserved. -/
def regAt (a : Nat) : Option RegAt :=
  match findBlk blkMap a with
  | none => none
  | some (b, bix, o) =>
    match findReg b.regs o with
    | none => none
    | some (r, rix, rem) => some ⟨b, bix, r, rix, a - rem, rem⟩

/-- First element of an index list, 0 if there is none. -/
def ix0 (l : List Nat) : Nat := l.headD 0

/-- A field's reset value placed in a word. -/
def fldsReset (fs : List Fld) : Nat :=
  match fs with
  | [] => 0
  | f :: r => f.rst * 2 ^ f.lo + fldsReset r

end Sys2Proof.Machine
end

