-- ==== Sys2Proof/Machine/SMap.lean ====
section
/-! DEFINITION. Sparse maps as plain data: the model's form for every replicated object of the device
(registers, sub-channels, terminals, units, flows, lanes, memory rows). A map is a list of key and value
pairs with keys strictly rising, and it lists no entry equal to what an unlisted key reads as, so equal
maps are equal data. -/

namespace Sys2Proof.Machine

/-- A sparse map from natural keys, as a list of pairs in one canonical form (`SMap.wf`). -/
abbrev SMap (α : Type) := List (Nat × α)

/-- What key `k` holds, where `d` is what an unlisted key reads as. -/
def SMap.get {α : Type} (m : SMap α) (d : α) (k : Nat) : α :=
  match m with
  | [] => d
  | (j, v) :: r => if j = k then v else if k < j then d else SMap.get r d k

/-- The entry listed for key `k`, if one is listed. -/
def SMap.find {α : Type} (m : SMap α) (k : Nat) : Option α :=
  match m with
  | [] => none
  | (j, v) :: r => if j = k then some v else if k < j then none else SMap.find r k

/-- Insert or replace the entry of key `k`. -/
def SMap.put {α : Type} (m : SMap α) (k : Nat) (v : α) : SMap α :=
  match m with
  | [] => [(k, v)]
  | (j, w) :: r =>
    if j = k then (k, v) :: r else if k < j then (k, v) :: (j, w) :: r else (j, w) :: SMap.put r k v

/-- Remove the entry of key `k`. -/
def SMap.del {α : Type} (m : SMap α) (k : Nat) : SMap α :=
  match m with
  | [] => []
  | (j, w) :: r => if j = k then r else if k < j then (j, w) :: r else (j, w) :: SMap.del r k

/-- Write `v` at key `k`; writing what an unlisted key reads as removes the entry. -/
def SMap.set {α : Type} [DecidableEq α] (m : SMap α) (d : α) (k : Nat) (v : α) : SMap α :=
  if v = d then m.del k else m.put k v

/-- Every key of `m` is above `b`, the keys rise strictly, and no entry equals its default. -/
def SMap.wfFrom {α : Type} [DecidableEq α] (d : Nat → α) (b : Option Nat) (m : SMap α) : Bool :=
  match m with
  | [] => true
  | (k, v) :: r =>
    (match b with
     | none => true
     | some j => decide (j < k)) && decide (v ≠ d k) && SMap.wfFrom d (some k) r

/-- The canonical form: keys strictly rising and no entry equal to what an unlisted key reads as. -/
def SMap.wf {α : Type} [DecidableEq α] (d : Nat → α) (m : SMap α) : Bool := SMap.wfFrom d none m

/-- Keep the entries whose key satisfies `p`; the others read their default again. -/
def SMap.keep {α : Type} (m : SMap α) (p : Nat → Bool) : SMap α := m.filter (fun e => p e.1)

/-- Replace every entry by `f` of it, dropping those that become the default. -/
def SMap.mapAll {α : Type} [DecidableEq α] (d : Nat → α) (m : SMap α) (f : Nat → α → α) : SMap α :=
  (m.map (fun e => (e.1, f e.1 e.2))).filter (fun e => decide (e.2 ≠ d e.1))

/-- A map of another type: every entry becomes `f` of it, dropping those that become the default. -/
def SMap.mapTo {α β : Type} [DecidableEq β] (d : Nat → β) (m : SMap α) (f : Nat → α → β) : SMap β :=
  (m.map (fun e => (e.1, f e.1 e.2))).filter (fun e => decide (e.2 ≠ d e.1))

/-- How many listed entries satisfy `p`. -/
def SMap.countWhere {α : Type} (m : SMap α) (p : Nat → α → Bool) : Nat :=
  (m.filter (fun e => p e.1 e.2)).length

/-- The keys, in rising order, of the listed entries that satisfy `p`. -/
def SMap.keysWhere {α : Type} (m : SMap α) (p : Nat → α → Bool) : List Nat :=
  (m.filter (fun e => p e.1 e.2)).map (fun e => e.1)

end Sys2Proof.Machine
end

