-- ==== Sys2Proof/Machine/StGrant.lean ====
section
/-! DEFINITION. State of the grant engines (chapters 05 to 07): plan contexts with the Prepolet
registers, cores and their program slots, allocation units, reports, hints, shared tables. -/

namespace Sys2Proof.Machine

/-- Road state of an object (R55), encoded as TREE_STATE.STATE: 0, 1, 2, 3. -/
inductive RoadSt where
  | disabled | enabled | draining | resuming
  deriving DecidableEq, Repr

/-- The two-bit code of a road state (R95 TREE_STATE.STATE). -/
def RoadSt.code (r : RoadSt) : Nat :=
  match r with
  | .disabled => 0
  | .enabled => 1
  | .draining => 2
  | .resuming => 3

/-- Kinds of memory operation of R135. -/
inductive MemKind where
  | cld | cst | rpt | hnt | tbl
  deriving DecidableEq, Repr

/-- One allocated tag of a plan context with its staging slot (R134, R183). -/
structure Tag where
  /-- the operation's kind (R135) -/
  kind : MemKind
  /-- the predicate under which it was issued (R186 to R189) -/
  mask : BitVec 8
  /-- row or, for TBL, unused (R188) -/
  row : Nat
  /-- TBL: the entry index of each lane, eight entries (R189) -/
  idx : List Nat
  /-- the operation has completed (R136) -/
  done : Bool
  /-- the 512-byte staging slot as 128 words; for a CST the words it captured (R183, R187) -/
  slot : SMap W32
  deriving DecidableEq, Repr

/-- An entry of the loop stack (R194). -/
structure LoopEnt where
  ret : Nat
  left : Nat
  idx : Nat
  deriving DecidableEq, Repr

/-- What a context runs (R160 ENTRY): PLAN, INSTALL or RETIRE. -/
inductive EntryKind where
  | plan | install | retire
  deriving DecidableEq, Repr

/-- ENTRY code of R160. -/
def EntryKind.code (e : EntryKind) : Nat :=
  match e with
  | .plan => 0
  | .install => 1
  | .retire => 2

/-- Whether a context can issue (R129): idle, ready, waiting under WAIT on a tag, or under FENCE. -/
inductive CtxRun where
  | idle
  | ready
  | waitTag (tag : Nat)
  | fence
  deriving DecidableEq, Repr

/-- A grant placed by GEMIT (R143, R192). -/
structure Grant where
  /-- size in grant units after clamping -/
  size : Nat
  /-- priority in [2:0] and flags in [6:3], as LAST_PF (R128) -/
  pf : Nat
  deriving DecidableEq, Repr

/-- One plan context (R129, R158). -/
structure Ctx where
  /-- issue state (R129) -/
  run : CtxRun := .idle
  /-- what runs (R160) -/
  entry : EntryKind := .plan
  /-- unit of an INSTALL or RETIRE entry (R132) -/
  unit : Nat := 0
  /-- batch index 0 to 1,407 (R160 BATCH) -/
  batch : Nat := 0
  /-- planned-lane mask (R127) -/
  lanes : BitVec 8 := 0
  /-- S1 to S31, 64 bits; S0 is never listed and reads zero (R158) -/
  s : SMap W64 := []
  /-- V0 to V15: key 8 × register + lane, 32 bits (R158) -/
  v : SMap W32 := []
  /-- P1 to P7, 8 bits; P0 is never listed and reads 0xFF (R158) -/
  p : SMap (BitVec 8) := []
  /-- loop stack, innermost first, at most four (R158, R194) -/
  loops : List LoopEnt := []
  /-- program counter, instruction index (R162) -/
  pc : Nat := 0
  /-- allocated tags in order: local tag i is tag 64k + i of context k (R134) -/
  tags : List Tag := []
  /-- pending grants by lane (R130) -/
  pend : SMap (Option Grant) := []
  /-- MSC special of R160 -/
  msc : W32 := 0
  /-- NOWNS special of R160 -/
  nowns : W32 := 0
  /-- word of the memory instruction that the in-flight cap holds, counted in STALLS (R135): it keeps its context -/
  stalled : Option W32 := none
  /-- upsets of this batch in the interval (R151) -/
  upsets : Nat := 0
  /-- hub-cycle count at which the batch or entry started -/
  start : Nat := 0
  /-- program slot that runs the batch or entry (R131, R133) -/
  slot : Nat := 0
  deriving DecidableEq, Repr

/-- A loaded program image in one slot of a planning group (R199 to R201). `none` fields do not occur: the
null program is the default: PLAN is one HALT at index 0 and there are no entries. -/
structure Prog where
  /-- a LOAD_PROGRAM has written this slot (R201) -/
  loaded : Bool := false
  /-- instruction words, key instruction index (R200) -/
  insn : SMap W32 := [(0, 0xEC000000#32)]
  /-- constant words, key index (R200) -/
  const : SMap W64 := []
  planStart : Nat := 0
  planLen : Nat := 1
  instStart : Nat := 0
  instLen : Nat := 0
  retStart : Nat := 0
  retLen : Nat := 0
  /-- verified PLAN bound B (R208); 0 for the null program (R201) -/
  planBound : Nat := 0
  /-- verified INSTALL bound (R209) -/
  instBound : Nat := 0
  /-- verified RETIRE bound (R209) -/
  retBound : Nat := 0
  /-- SM3 digest, 32 bytes (R199) -/
  digest : List Nat := []
  /-- REDUCED flag of its LOAD_PROGRAM (R213) -/
  reduced : Bool := false
  /-- the image's bytes, verified again after a restart (R214, R218) -/
  image : List Nat := []
  deriving DecidableEq, Repr

/-- PROG_STATE.SHADOW (R157): 0 empty, 1 loaded, 2 admitted, 3 armed. -/
inductive Shadow where
  | empty | loaded | admitted | armed
  deriving DecidableEq, Repr

def Shadow.code (s : Shadow) : Nat :=
  match s with
  | .empty => 0
  | .loaded => 1
  | .admitted => 2
  | .armed => 3

/-- What happened to a planned batch in the current interval (R48, R129). -/
inductive BatchSt where
  | notStarted | running | halted | missed
  deriving DecidableEq, Repr

/-- A planning group q: trees 2q and 2q + 1 (R211, R212). Program slots, bindings and bookings move with the
group when a spare takes its core's work. -/
structure Group where
  /-- slot active for the current plan, 0 or 1 (R157 ACTIVE_SLOT) -/
  active : Nat := 0
  /-- program slot 0 (R199) -/
  slot0 : Prog := {}
  /-- program slot 1 (R199) -/
  slot1 : Prog := {}
  /-- shadow state (R157) -/
  shadow : Shadow := .empty
  /-- effective milestone of the armed swap, 0 if none (R157 SWAP_MSC) -/
  swapMsc : Nat := 0
  /-- batches of the current plan with their state, rising batch index (R127, R129) -/
  planned : List (Nat × BatchSt) := []
  /-- consecutive carry-forwards per batch (R52) -/
  carry : SMap Nat := []
  /-- cycles used in the latest window (R157 USED_LAST) -/
  usedLast : Nat := 0
  /-- entries of the running maintenance window not yet started, in acceptance order: unit and kind (R132) -/
  entries : List (Nat × EntryKind) := []
  deriving DecidableEq, Repr

/-- Core states of R157 CORE_STATE.STATE. -/
inductive CoreSt where
  | active | spare | loading | retiring | retired | lost
  deriving DecidableEq, Repr

def CoreSt.code (s : CoreSt) : Nat :=
  match s with
  | .active => 0
  | .spare => 1
  | .loading => 2
  | .retiring => 3
  | .retired => 4
  | .lost => 5

/-- One grant core (R21, R157). -/
structure Core where
  /-- CORE_STATE.STATE -/
  st : CoreSt := .active
  /-- the planning group it plans, if any (R21, R157 TREE_A, TREE_B) -/
  group : Option Nat := none
  /-- first roadbook under the current mapping (R157 MAP_MSC) -/
  mapMsc : Nat := 0
  /-- spare named by a detour and the detour's milestone (R153, R154) -/
  detour : Option (Nat × Nat) := none
  /-- hub cycle of the last HALT in the latest plan (R157 FINISH) -/
  finish : Nat := 0
  /-- instructions issued in the current plan window (R157 IDLE_LAST) -/
  issued : Nat := 0
  /-- IDLE_LAST of the latest finished plan window (R157) -/
  idleLast : Nat := 0
  /-- operations abandoned at HALT that still hold their place against the caps (R195) -/
  abandoned : List MemKind := []
  /-- diagnostic record: CAUSE, WHERE, PC, BATCH, COUNT, INSN, MSC (R198) -/
  diagCause : Nat := 0
  diagWhere : Nat := 0
  diagPc : Nat := 0
  diagBatch : Nat := 0
  diagCount : Nat := 0
  diagInsn : W32 := 0
  diagMsc : W32 := 0
  deriving DecidableEq, Repr

/-- The core mapping of a cold start (R21). -/
def Core.dflt (g : Nat) : Core :=
  if g < 96 then { st := .active, group := some g } else { st := .spare }

/-- A report entry (R138). -/
structure Report where
  occ : Nat := 0
  prev : Nat := 0
  stamp : Nat := 0
  prevAdj : Bool := false
  prevValid : Bool := false
  valid : Bool := false
  deriving DecidableEq, Repr

/-- A hint entry (R140). -/
structure Hint where
  demand : Nat := 0
  prio : Nat := 0
  valid : Bool := false
  /-- low 16 bits of the target milestone -/
  target : Nat := 0
  deriving DecidableEq, Repr

/-- A hint posting waiting for the commit point (R141). -/
structure HintPost where
  slot : Nat
  group : Nat
  demand : Nat
  prio : Nat
  target : Nat
  deriving DecidableEq, Repr

/-- The eight counters of a unit's ledger row: GRANTED and the seven outcomes (R65). -/
structure LedgerRow where
  granted : W32 := 0
  arrived : W32 := 0
  empty : W32 := 0
  early : W32 := 0
  late : W32 := 0
  corrupt : W32 := 0
  collided : W32 := 0
  discarded : W32 := 0
  deriving DecidableEq, Repr

/-- An allocation unit (R125 to R128, R202). -/
structure AUnit where
  /-- the unit is installed, or its installation is pending (R246) -/
  inst : Bool := false
  /-- ALLOC_ID (R128) -/
  alloc : Nat := 0
  /-- sub-channel index (R68) -/
  sc : Nat := 0
  /-- terminal (R128 WHERE) -/
  term : Nat := 0
  /-- domain (R259) -/
  dom : Nat := 0
  /-- road state (R55, R128 STATE [1:0]) -/
  road : RoadSt := .disabled
  /-- effective milestone of a pending INSTALL (R46) -/
  installE : Option Nat := none
  /-- effective milestone of a pending RETIRE (R46) -/
  retireE : Option Nat := none
  /-- the drain's effective milestone while the drain runs (R55) -/
  drainE : Option Nat := none
  /-- DISCARD mode of the shut-down (R57) -/
  discard : Bool := false
  /-- roadbook R of a resume (R59) -/
  resumeR : Option Nat := none
  /-- the command waiting to complete under R59 -/
  resumeAcc : Option Nat := none
  /-- planning group, batch and lane (R126) -/
  group : Nat := 0
  batch : Nat := 0
  lane : Nat := 0
  /-- the 48-byte parameter block as twelve words (R202) -/
  params : List W32 := []
  /-- the entry of the pending install or retirement has been started, or there is none (R132) -/
  entryRun : Bool := false
  /-- STATE [4]: first plan since INSTALL (R128) -/
  firstPlan : Bool := false
  /-- STATE [3]: last contribution carried forward (R128) -/
  carried : Bool := false
  /-- LAST_SIZE and LAST_PF (R128) -/
  lastSize : Nat := 0
  lastPf : Nat := 0
  deriving DecidableEq, Repr

/-- A WRITE_TABLE waiting for its interval (R220). -/
structure TableWait where
  acc : Nat
  first : Nat
  data : List Nat
  /-- interval in which it began to wait -/
  since : Nat
  deriving DecidableEq, Repr

/-- Everything the grant engines hold. -/
structure GrantSt where
  /-- cores 0 to 103 (R21) -/
  cores : SMap Core := []
  /-- plan contexts: key 4 × core + context (R129) -/
  ctxs : SMap Ctx := []
  /-- planning groups 0 to 95 (R212) -/
  groups : SMap Group := []
  /-- allocation units 0 to 1,048,575 (R126) -/
  units : SMap AUnit := []
  /-- batches carried forward in this interval, until PLAN_OVERRUN reports them (R51, R66) -/
  overrunN : Nat := 0
  /-- unit in each lane: key 8 × (1408 q + b) + lane (R125) -/
  laneUnit : SMap (Option Nat) := []
  /-- context SRAM, program words 4 to 15: key 16 × (8 × (1408 q + b) + lane) + word (R125) -/
  ctxMem : SMap W32 := []
  /-- report SRAM: key 8 × (1408 q + b) + lane (R138) -/
  reports : SMap Report := []
  /-- hint SRAM: key 8 × (1408 q + b) + lane (R140) -/
  hints : SMap Hint := []
  /-- hint postings queued between snapshot and commit point, oldest first (R141) -/
  hintQ : List HintPost := []
  /-- report view fixed at the snapshot (R139, R131) -/
  reportView : SMap Report := []
  /-- hint view fixed at the snapshot (R141, R131) -/
  hintView : SMap Hint := []
  /-- ledger rows (R65) -/
  rows : SMap LedgerRow := []
  /-- table SRAM bank 0: key 8 × entry + word (R142) -/
  table0 : SMap W32 := []
  /-- table SRAM bank 1 (R142) -/
  table1 : SMap W32 := []
  /-- bank read by the current plan, 0 or 1 (R142, R220) -/
  tableBank : Nat := 0
  /-- the entries written to the other bank since the last exchange, still to be copied (R220) -/
  tableDirty : List (Nat × Nat) := []
  /-- entries exchanged at the snapshot and not yet copied into the other bank (R220) -/
  tableCopy : List (Nat × Nat) := []
  /-- writes that wait for the next interval, in acceptance order (R220) -/
  tableWaits : List TableWait := []
  /-- entries written in this interval, at most 4,096 (R220) -/
  tableCount : Nat := 0
  /-- hint VLAN bindings: uplink port, VID, domain (R222) -/
  hintVlans : List (Nat × Nat × Nat) := []
  /-- grants released in this interval: key lane slot 8 × (1408 q + b) + lane (R130) -/
  released : SMap (Option Grant) := []
  /-- grants carried forward into this interval's assembly (R48) -/
  carriedG : SMap (Option Grant) := []
  /-- hardware-managed: LOAD_PROGRAM verifications in progress: acceptance number and group list (R212) -/
  verifying : List (Nat × List Nat) := []
  deriving DecidableEq, Repr

end Sys2Proof.Machine
end

