-- ==== Sys2Proof/Machine/StData.lean ====
section
/-! DEFINITION. State of the data path (chapters 09 to 13): queues, shapers, gates, policers, flows, MAC
tables, buffer pools, cipher units and key slots, device time. -/

namespace Sys2Proof.Machine

/-- One credit bucket (R276). `rate` 0xFFFFFFFF is unlimited. -/
structure Bucket where
  /-- kb/s -/
  rate : Nat := 0xFFFFFFFF
  /-- burst size in bytes -/
  burst : Nat := 16777215
  /-- credit in microbits -/
  credit : Int := 16777215 * 8000000
  /-- hub nanosecond count of the latest refill -/
  last : Nat := 0
  deriving DecidableEq, Repr

/-- A stored frame (R330): length n, buffer, time of enqueue, yellow mark. -/
structure Frame where
  n : Nat
  /-- allocating domain of the buffer header (R330) -/
  dom : Nat
  pool : Nat
  /-- buffer number within its pool -/
  buf : Nat
  /-- reference-table entry when SHARED (R334) -/
  ref : Option Nat
  enqNs : Nat
  /-- DEI that the policer gives the frame: some true YELLOW, some false GREEN, none where it is disabled (R293) -/
  mark : Option Bool
  /-- its VLAN tags after the tag operations, outer tag first (R306) -/
  tags : List VlanTag
  /-- flow of an upstream frame, for YELLOW_UNMARKED (R293) -/
  flow : Nat := 0
  /-- what the internal header of the frame's path carries (R330): the lane or uplink port it came from, and the device
  time of its arrival -/
  origin : Nat := 0
  stamp : Nat := 0
  deriving DecidableEq, Repr

/-- Scheduling parameters and tags of a child (R276 to R282, R299). -/
structure Sched where
  cir : Bucket := {}
  pir : Bucket := {}
  weight : Nat := 1
  strict : Bool := false
  gateClass : Nat := 0
  usClass : Nat := 0
  qlimit : Nat := 0
  /-- start and finish tags (R281) -/
  s : Nat := 0
  f : Nat := 0
  /-- was selectable at the previous look (R281) -/
  awake : Bool := false
  /-- the head frame did not fit: end of the open span in which it waits, in ns of device time (R289) -/
  wait : Option Nat := none
  /-- virtual time of this object as a parent (R281) -/
  v : Nat := 0
  deriving DecidableEq, Repr

/-- A queue with its counters (R297, R301). -/
structure Queue where
  frames : List Frame := []
  enqFrames : W64 := 0
  txFrames : W64 := 0
  txBytes : W64 := 0
  dropTail : W32 := 0
  dropState : W32 := 0
  dropGate : W32 := 0
  maxDepth : Nat := 0
  maxDelay : Nat := 0
  maxDelayMsc : W32 := 0
  deriving DecidableEq, Repr

/-- A policer (R292 to R294). -/
structure Policer where
  enabled : Bool := false
  tc : Bucket := {}
  tp : Bucket := {}
  green : W64 := 0
  yellow : W64 := 0
  red : W64 := 0
  unmarked : W32 := 0
  deriving DecidableEq, Repr

/-- A gate control list (R286, R287). -/
structure GateList where
  align : Bool
  base : Nat
  /-- intervals in ns with their masks -/
  entries : List (Nat × Nat)
  deriving DecidableEq, Repr

/-- One scheduling port: key 512 × kind + index (R273, R286). -/
structure Port where
  /-- overhead adjustment ADJ; none = the kind's default (R275) -/
  adj : Option Int := none
  list : Option GateList := none
  /-- pending switch: T_s and the new list (R291) -/
  pend : Option (Nat × Option GateList) := none
  pendAcc : Nat := 0
  /-- T_s of the latest switch (R303 GATE_SWITCH) -/
  lastSwitch : Nat := 0
  /-- virtual time of the port (R281) -/
  v : Nat := 0
  deriving DecidableEq, Repr

/-- The block of a flow that bursts of earlier roadbooks are under, after a resume with another block (R44, R59). -/
structure FlowPast where
  /-- first roadbook under the present block -/
  before : Nat
  kind : Nat
  encrypt : Bool
  usTag : Nat
  usVid : Nat
  uPort : Nat
  macLimit : Nat
  deriving DecidableEq, Repr

/-- A flow (R306). -/
structure Flow where
  inst : Bool := false
  dom : Nat := 0
  sc : Nat := 0
  term : Nat := 0
  xgem : Nat := 0
  /-- 0 1:1, 1 N:1, 2 broadcast -/
  kind : Nat := 0
  encrypt : Bool := false
  outerVid : Nat := 0
  innerVid : Nat := 0
  innerNone : Bool := false
  dsTag : Nat := 0
  usTag : Nat := 0
  usVid : Nat := 0
  uPort : Nat := 0
  macLimit : Nat := 0
  road : RoadSt := .disabled
  destroyE : Option Nat := none
  drainE : Option Nat := none
  discard : Bool := false
  /-- roadbook R of a resume and the command that waits for it (R59) -/
  resumeR : Option Nat := none
  resumeAcc : Option Nat := none
  /-- the 1:1 key is held (R307 removes it at E) -/
  keyHeld : Bool := false
  /-- the block before the latest resume (R44, R59) -/
  past : Option FlowPast := none
  deriving DecidableEq, Repr

/-- A steering entry: key 4096 × port + VID (R304). -/
structure Steer where
  valid : Bool := false
  pipe : Nat := 0
  mode : Nat := 0
  dom : Nat := 0
  deriving DecidableEq, Repr

/-- A MAC table entry (R312). -/
structure MacEnt where
  mac : Nat
  vid : Nat
  dom : Nat
  stat : Bool
  frozen : Bool
  hit : Bool
  /-- PORT_KIND: uplink port -/
  uplink : Bool
  port : Nat
  moves : Nat
  /-- FIRST_PORT with PORT_KIND in bit 31 -/
  firstPort : Nat
  learnSec : Nat
  winMs : Nat
  freezeMs : Nat
  /-- hub cycle count of the learn, carried by learn notices (R316) -/
  learnCycle : Nat
  /-- flushes executed before the latest learn or refresh (R323) -/
  epoch : Nat
  deriving DecidableEq, Repr

/-- A learn notice in flight to the other pipelines (R316). -/
structure Notice where
  /-- receiving pipeline and learning pipeline -/
  pipe : Nat
  src : Nat
  mac : Nat
  vid : Nat
  dom : Nat
  cycle : Nat
  deriving DecidableEq, Repr

/-- A learn waiting for the engine (R313). -/
structure LearnReq where
  mac : Nat
  vid : Nat
  dom : Nat
  uplink : Bool
  port : Nat
  deriving DecidableEq, Repr

/-- A background flush (R323). -/
structure Flush where
  acc : Nat
  /-- acting domain; 0 acts on all (R320) -/
  dom : Nat
  uplink : Bool
  port : Nat
  stat : Bool
  /-- number of the flush: it takes entries last learned before it executed -/
  before : Nat
  removed : Nat
  deriving DecidableEq, Repr

/-- One forwarding pipeline (R304 to R324). -/
structure Pipe where
  /-- slots: key 4 × bucket + slot (R311) -/
  table : SMap (Option MacEnt) := []
  /-- stash entries 0 to 63 (R311, R322) -/
  stash : SMap (Option MacEnt) := []
  /-- hash seed (R311, R327) -/
  seed : W32 := 0
  learnQ : List LearnReq := []
  /-- stable walk: the hub-cycle count at which it opened (R322) -/
  walk : Option Nat := none
  /-- rebuild under way: acceptance number and new seed (R324) -/
  rehash : Option (Nat × W32) := none
  flushes : List Flush := []
  /-- hub nanoseconds of the sweep's latest visit to a bucket, 65,536 for the stash (R319) -/
  swept : SMap (Option Nat) := []
  /-- flood lists: domain × 4096 + VID and members (R309) -/
  floods : List (Nat × List Nat) := []
  deriving DecidableEq, Repr

/-- One data-class pool (R328 to R335). -/
structure Pool where
  /-- buffer size in units of 64 B (R348 BUF_UNITS) -/
  units : Nat := 4
  /-- buffers that the free lists were built over -/
  base : Nat := 0
  /-- buffers with those that GROW_POOL has added (R342) -/
  size : Nat := 0
  /-- buffers lost with retired pseudo-channels (R345) -/
  lost : Nat := 0
  /-- buffers on free lists (R332, R348 FREE) -/
  free : Nat := 0
  /-- lowest `free` since the last read (R348 MIN_FREE) -/
  minFree : Nat := 0
  /-- free lists by pseudo-channel place, head first, as runs (first, count) of places within the list; none:
  as built (R331) -/
  lists : SMap (Option (List (Nat × Nat))) := []
  /-- place of the next list in rotation (R331) -/
  next : Nat := 0
  /-- buffer-state bitmap: the buffer is allocated (R335) -/
  bits : SMap Bool := []
  /-- pointers in the caches of clients 0 to 16, next to be taken first (R332) -/
  caches : SMap (List Nat) := []
  /-- the client that won the last take, and the hub-cycle count of it (R333) -/
  won : Option (Nat × Nat) := none
  deriving DecidableEq, Repr

/-- Buffer manager (chapter 11). -/
structure BufSt where
  pools : SMap Pool := []
  /-- reference table: count per entry (R334) -/
  refs : SMap Nat := []
  /-- unassigned HBM in GiB (R342, R36) -/
  unassigned : Nat := 16
  /-- layout recorded for the next restart: size code and GiB per pool (R342) -/
  layoutPend : Option (List (Nat × Nat)) := none
  /-- layout in force, grown pools included: size code and GiB per pool (R328, R342) -/
  layout : List (Nat × Nat) := [(0, 16), (2, 24), (3, 32), (5, 30)]
  /-- GROW_POOL in progress: acceptance number, pool, GiB -/
  grow : List (Nat × Nat × Nat) := []
  /-- free lists of each pool: pseudo-channels active when the layout was applied (R330, R345) -/
  nlists : Nat := 240
  /-- pseudo-channel 32 × stack + i of a list, in the order fixed when the layout was applied; none: the
  active ones in rising order (R330, R344) -/
  order : SMap (Option Nat) := []
  /-- lists whose pseudo-channel was retired without a spare (R345) -/
  gone : SMap Bool := []
  /-- running copies: pseudo-channel 32 × stack + i and its spare (R344) -/
  copies : List (Nat × Nat) := []
  /-- the retained domain was lost: the layout is the waypoint's (R15, R461) -/
  lost : Bool := false
  deriving DecidableEq, Repr

/-- A key under the device's key-wrapping key (R365). What lies in MRAM and flash are the wrapped bytes; the key itself
is what the device alone can take out of them. -/
structure WrappedKey where
  plain : List Nat
  deriving DecidableEq, Repr

/-- A key slot (R357, R364). -/
structure KeySlot where
  /-- the 16 bytes of the key, if the slot is not empty -/
  key : Option (List Nat) := none
  /-- truncated SM3 fingerprints of the last four keys, newest first -/
  prints : List (List Nat) := []
  deriving DecidableEq, Repr

/-- A broadcast key slot in the wrapped store (R364, R365). -/
structure StoredSlot where
  key : Option WrappedKey := none
  prints : List (List Nat) := []
  deriving DecidableEq, Repr

/-- Key-exchange state of a terminal (R358). -/
structure KeyEx where
  /-- key index in force downstream, 0 = none -/
  inForce : Nat := 0
  /-- an exchange is open: request misses so far -/
  openMiss : Option Nat := none
  /-- milestone of the latest key request -/
  started : Nat := 0
  /-- a switch: milestone S and new index (R358) -/
  switch : Option (Nat × Nat) := none
  /-- old slot index to zero at milestone -/
  zeroAt : Option (Nat × Nat) := none
  /-- firmware has written a key of this terminal: its two slots count against the quota (R357) -/
  used : Bool := false
  /-- milestones by which the current period of REKEY_S is shortened, so that terminals are staggered -/
  stag : Nat := 0
  deriving DecidableEq, Repr

/-- A MACsec SA slot (R362, R363): key 2048 × die + slot. -/
structure Sa where
  inst : Bool := false
  dom : Nat := 0
  port : Nat := 0
  rx : Bool := false
  an : Nat := 0
  ssci : W32 := 0
  sci : W64 := 0
  salt : List Nat := []
  key : List Nat := []
  pn : Nat := 0
  /-- 0 installed, 1 enabled, 2 stopped, 3 exhausted -/
  st : Nat := 0
  rekeyRaised : Bool := false
  protect : W32 := 0
  validated : W32 := 0
  noSa : W32 := 0
  exhDrop : W32 := 0
  /-- last durable packet-number mark (R365) -/
  mark : Nat := 0
  /-- receive: lowest acceptable packet number (R361, R362) -/
  low : Nat := 0
  prints : List (List Nat) := []
  deriving DecidableEq, Repr

/-- An SA in the wrapped store: its fields without the key, and the key wrapped (R365). -/
structure StoredSa where
  sa : Sa := {}
  key : WrappedKey := ⟨[]⟩
  deriving DecidableEq, Repr

/-- A port's SecY (R362). -/
structure SecY where
  owner : Nat := 0
  offset : Nat := 0
  validate : Nat := 0
  sciInc : Bool := false
  window : Nat := 0
  configured : Bool := false
  noSa : W32 := 0
  /-- the exhausted transmit SA, until another one is enabled (R363) -/
  exh : Option Nat := none
  deriving DecidableEq, Repr

/-- Per-sub-channel cipher settings (R353, R358, R367). -/
structure SubCipher where
  sm4 : Bool := false
  /-- credits reserved (R354) -/
  credits : Nat := 0
  rekeyS : Nat := 3600
  /-- broadcast key index in force, 0 = none (R359) -/
  bcast : Nat := 0
  /-- SWITCH_PON_KEY pending: milestone, index, acceptance number (R367) -/
  switch : List (Nat × Nat × Nat) := []
  deriving DecidableEq, Repr

structure CphSt where
  subs : SMap SubCipher := []
  /-- PON key slots: key 131,072 × die + slot -/
  slots : SMap KeySlot := []
  kex : SMap KeyEx := []
  sas : SMap Sa := []
  secys : SMap SecY := []
  /-- wrapped key store as it stood at the latest restart: SA slots and broadcast key slots (R364, R365) -/
  storeSa : SMap StoredSa := []
  /-- its broadcast key slots (R364, R365) -/
  storeKeys : SMap StoredSlot := []
  /-- the frame of the latest request of a slot and direction has been dropped (R350): key 2 × request key + 1 upstream -/
  cut : SMap Bool := []
  /-- blocks that each trunk die has been asked for in the current interval (R356) -/
  macLoad : SMap Nat := []
  deriving DecidableEq, Repr

/-- Servo states (R376). -/
inductive Servo where
  | freerun | acquiring | locked | holdover
  deriving DecidableEq, Repr

def Servo.code (s : Servo) : Nat :=
  match s with
  | .freerun => 0
  | .acquiring => 1
  | .locked => 2
  | .holdover => 3

/-- A PTP port's trapping (R382). -/
structure PtpPort where
  trap : Bool := false
  esmc : Bool := false
  deriving DecidableEq, Repr

/-- Time state (chapters 02 and 13). -/
structure TimeSt where
  /-- device time in 2⁻¹⁶ ns since the epoch (R370) -/
  dev : Nat := 0
  /-- TIME_STATE.VALID -/
  valid : Bool := false
  /-- TIME_STATE.KEPT -/
  kept : Bool := false
  servo : Servo := .freerun
  /-- FREQ, its target, the integral term and FREQ_HOLD in 2⁻²⁸ ppb (R371, R375, R377) -/
  freq : Int := 0
  target : Int := 0
  integ : Int := 0
  freqHold : Int := 0
  everLocked : Bool := false
  /-- consecutive small offsets (R376) -/
  good : Nat := 0
  lastOffset : Int := 0
  /-- hub-cycle count of the latest TIME_JUMP_REFUSED (R375) -/
  lastRefused : Option Nat := none
  /-- hub-cycle count from which the holdover timer runs (R376) -/
  lastApplied : Nat := 0
  /-- TIME_SEC latched by a read of TIME_NSF (R374) -/
  secLatch : Option W64 := none
  /-- START_WAIT runs after a cold start (R373) -/
  startWait : Bool := false
  ptpPorts : SMap PtpPort := []
  /-- BIND_PTP_RX: ring and pool (R382) -/
  ptpRx : Option (Nat × Nat) := none
  /-- SEND_PTP frames waiting for egress: acceptance number, port, one-step, offset, bytes (R383) -/
  ptpTx : List (Nat × Nat × Bool × Nat × List Nat) := []
  deriving DecidableEq, Repr

/-- Traffic manager and forwarding. -/
structure DataSt where
  flows : SMap Flow := []
  /-- service queues by flow (R273) -/
  flowQ : SMap Queue := []
  flowS : SMap Sched := []
  /-- class queues (R273) -/
  classQ : SMap Queue := []
  classS : SMap Sched := []
  /-- terminal nodes 512 s + t, and domain nodes 64 u + d -/
  termN : SMap Sched := []
  domN : SMap Sched := []
  /-- frame and byte counters of the terminal nodes; they hold no frames (R301) -/
  termC : SMap Queue := []
  /-- those of the domain nodes (R301) -/
  domC : SMap Queue := []
  polS : SMap Policer := []
  ports : SMap Port := []
  sweepMsc : Nat := 0
  samplerOn : Bool := true
  steer : SMap Steer := []
  pipes : SMap Pipe := []
  /-- flushes executed (R323) -/
  flushNo : Nat := 0
  notices : List Notice := []
  /-- frames that each pipeline has accepted in the current interval: key 2 × pipeline, + 1 upstream (R304) -/
  pipeLoad : SMap Nat := []
  /-- bytes of the upstream fragments of a flow that wait for the rest of their frame (R69, R70) -/
  frags : SMap Nat := []
  deriving DecidableEq, Repr

end Sys2Proof.Machine
end

