-- ==== Sys2Proof/Machine/StHost.lean ====
section
/-! DEFINITION. State of the host interface (chapter 08): rings, journal, completions, domains, deferred
changes, events and vectors; and the list of what the device has sent to the outside. -/

namespace Sys2Proof.Machine

/-- RING_STATE.STATE (R232). -/
inductive RingSt where
  | disabled | running | stopping | faulted | restored
  deriving DecidableEq, Repr

def RingSt.code (r : RingSt) : Nat :=
  match r with
  | .disabled => 0
  | .running => 1
  | .stopping => 2
  | .faulted => 3
  | .restored => 4

/-- One command ring (R232 to R236, R266). -/
structure Ring where
  descBase : W64 := 0
  cplBase : W64 := 0
  /-- RING_CFG.ENABLE as last written (R236) -/
  enable : Bool := false
  vector : Nat := 0
  irqEn : Bool := false
  /-- LOG2_SIZE, 4 to 16 -/
  log2 : Nat := 4
  st : RingSt := .disabled
  cause : Nat := 0
  tail : W32 := 0
  /-- retained (R266) -/
  dhead : W32 := 0
  /-- retained (R266) -/
  cdone : W32 := 0
  cplHead : W32 := 0
  cplTail : W32 := 0
  startSeq : W32 := 0
  /-- an enable written while STOPPING is held (R236) -/
  heldEnable : Bool := false
  /-- completions are discarded: CPL_WRITE_ERROR or a function reset (R235, R263) -/
  discard : Bool := false
  /-- sequences at or beyond CDONE whose completion has been posted or discarded (R232 CDONE) -/
  doneSeqs : List W32 := []
  /-- a group was fetched before fetching stopped and may still be accepted (R236, R251) -/
  lateGroup : Bool := false
  deriving DecidableEq, Repr

/-- A completion record waiting to be posted (R240, R241, R257). -/
structure Cpl where
  ring : Nat
  opcode : Nat
  status : Nat
  seq : W32
  cookie : W64
  msc : Nat
  r0 : Nat
  r1 : Nat
  quiet : Bool
  replayed : Bool
  /-- R241: a receive completion; then seq holds WHERE, cookie BUF, r0 LENGTH, r1 POOL -/
  receive : Bool
  /-- acceptance number of the command; 0 for a receive completion -/
  acc : Nat
  deriving DecidableEq, Repr

/-- The execution record of a command (R264). -/
structure ExecRec where
  status : Nat
  /-- effective milestone -/
  e : Nat
  r0 : Nat
  r1 : Nat
  deriving DecidableEq, Repr

/-- A signal vector of one function, with its MSI-X table entry (R229, R269). -/
structure Vec where
  addrLo : W32 := 0
  addrHi : W32 := 0
  data : W32 := 0
  /-- MSI-X mask bit -/
  masked : Bool := true
  /-- MSI-X pending bit -/
  pba : Bool := false
  /-- hub-cycle count of the previous signal -/
  last : Option Nat := none
  /-- a signal waits for the end of MIN_GAP -/
  waiting : Bool := false
  deriving DecidableEq, Repr

/-- An event record (R268). -/
structure EvRec where
  src : Nat
  arg : Nat
  msc : Nat
  deriving DecidableEq, Repr

/-- Quotas of R261: units, flows, PON key slots, forwarding entries, SA slots, rings. -/
structure Quota where
  units : Nat := 0
  flows : Nat := 0
  keys : Nat := 0
  entries : Nat := 0
  sas : Nat := 0
  rings : Nat := 0
  deriving DecidableEq, Repr

/-- A host-class pool of a domain, 4 to 7 (R117, R339). -/
structure HostPool where
  size : Nat := 0
  /-- postings, oldest first: buffer addresses -/
  posts : List Nat := []
  deriving DecidableEq, Repr

/-- One operator domain (R224, R261, R262). -/
structure Dom where
  road : RoadSt := .disabled
  quota : Quota := {}
  /-- teardown pending for E -/
  teardownE : Option Nat := none
  drainE : Option Nat := none
  discard : Bool := false
  resumeAcc : Option Nat := none
  /-- roadbook from which a reopened domain may be ENABLED again (R59, R262) -/
  resumeR : Option Nat := none
  /-- new quotas of a reopening OPEN_DOMAIN, taken at the end of the drain (R262) -/
  newQuota : Option Quota := none
  /-- BIND_TERMINAL_RX: ring and pool (R117) -/
  rx : Option (Nat × Nat) := none
  pool4 : HostPool := {}
  pool5 : HostPool := {}
  pool6 : HostPool := {}
  pool7 : HostPool := {}
  /-- registered windows: slot, base, length (R337) -/
  windows : List (Nat × Nat × Nat) := []
  deriving DecidableEq, Repr

/-- A deferred change of R46. -/
inductive Change where
  | subEnable (sc : Nat)
  | subDisable (sc : Nat) (discard : Bool)
  | treeDrain (c : Nat)
  | termDeact (sc t : Nat) (discard disableSerial : Bool)
  | termRange (sc t : Nat)
  | burstProfile (sc t p : Nat)
  | unitInstall (u : Nat)
  | unitModify (u mask : Nat) (words : List W32)
  | unitRetire (u : Nat) (discard : Bool)
  | flowDestroy (f : Nat) (discard : Bool)
  | progActivate (groups : List Nat)
  | waypointReturn (ver : Nat) (discard : Bool)
  | releaseHold
  | switchOver
  | treeSwitch (c : Nat) (toProtect : Bool)
  | domainTeardown (d : Nat) (discard : Bool)
  | retireHw (cls idx spare : Nat)
  | coreDetour (g spare : Nat)
  | chDetour (sc kind spare : Nat)
  | demote (sc t reason : Nat)
  | rerange (sc t : Nat)
  | termLoss (sc t : Nat)
  | rogueStop (sc t : Nat)
  deriving DecidableEq, Repr

/-- A pending deferred change with its effective milestone and its place in the order of R47. -/
structure Pend where
  e : Nat
  /-- acceptance number, or that of the latest accepted command for a device-decided change -/
  acc : Nat
  /-- 0 for a command; for the device 1 + the position of its kind in R46 -/
  dev : Nat
  /-- object index, for device changes decided at one moment -/
  idx : Nat
  /-- moment of the device's decision in hub cycles, 0 for a command -/
  moment : Nat := 0
  /-- ring and ordering key of the command, if its key class is not 0 (R254, R256) -/
  okey : Option (Nat × Nat × Nat) := none
  change : Change
  deriving DecidableEq, Repr

/-- A latched high half of a 64-bit register read, or a pending low half of a write (R14). -/
structure Half where
  addr : Nat
  val : W32
  deriving DecidableEq, Repr

/-- An allocation structure of a bandwidth map (R76, R149). -/
structure MapAlloc where
  alloc : Nat
  start : Nat
  size : Nat
  dbru : Bool
  ploamu : Bool
  prof : Nat
  deriving DecidableEq, Repr

/-- What the device sends to the outside. -/
inductive Out where
  /-- a register read returns data -/
  | readData (fn addr : Nat) (data : W64)
  /-- bytes written to host memory (completions, event records, output and receive buffers) -/
  | hostWrite (addr : Nat) (bytes : List Nat)
  /-- a vector signalled by function and number (R269) -/
  | msix (fn vec : Nat) (addr : W64) (data : W32)
  /-- downstream frame on a sub-channel: milestone, superframe counter, number of bursts in the map, its allocation
  structures, messages sent (R76) -/
  | frame (sc msc superframe bursts : Nat) (map : List MapAlloc) (msgs : List (Nat × List Nat))
  /-- the frame in progress is lost from this point on (R74) -/
  | frameCut (sc msc : Nat)
  /-- a frame leaves in XGEM framing: XGEM port, key index, length (R69, R70, R76) -/
  | xgem (sc port key len : Nat)
  /-- roadbook sent to a framer: milestone (R33) -/
  | roadbook (sc msc : Nat)
  /-- burst-reset pulse: sub-channel, width in ns, and whether the active level is low (R80) -/
  | burstReset (sc ns : Nat) (low : Bool)
  /-- a frame leaves a port: port kind and index, queue, length, VLAN tags (R282, R293) -/
  | egress (kind port queue len : Nat) (tags : List VlanTag)
  /-- the SecTAG of the next frame of an uplink port: AN, the SCI where it is included, packet number (R361, R362) -/
  | secTag (port an : Nat) (sci : Option W64) (pn : Nat)
  /-- a chunk leaves a cipher unit: die (4 and 5 trunk), slot, bytes (R350) -/
  | chunk (die slot : Nat) (bytes : List Nat)
  /-- bytes on an out-of-band, SMBus or JTAG interface: interface code, bytes -/
  | side (iface : Nat) (bytes : List Nat)
  /-- a pin changes or pulses: name code, value -/
  | pin (code val : Nat)
  /-- a record sent on the witness link or sync link: kind, words -/
  | link (kind : Nat) (words : List Nat)
  deriving DecidableEq, Repr

end Sys2Proof.Machine
end

