-- ==== Sys2Proof/Machine/StPon.lean ====
section
/-! DEFINITION. State of trees, sub-channels, terminals, the road and the road ledger (chapters 02 to 04). -/

namespace Sys2Proof.Machine

/-- The seven outcomes of R61. -/
inductive Outc where
  | arrived | empty | early | late | corrupt | collided | discarded
  deriving DecidableEq, Repr

/-- Outcome codes of R61. -/
def Outc.code (o : Outc) : Nat :=
  match o with
  | .arrived => 0
  | .empty => 1
  | .early => 2
  | .late => 3
  | .corrupt => 4
  | .collided => 5
  | .discarded => 6

/-- The nine totals of a sub-channel (R62). -/
structure Ledger where
  granted : Nat := 0
  arrived : Nat := 0
  empty : Nat := 0
  early : Nat := 0
  late : Nat := 0
  corrupt : Nat := 0
  collided : Nat := 0
  discarded : Nat := 0
  onRoad : Nat := 0
  deriving DecidableEq, Repr

/-- One granted burst (R144 to R149). -/
structure Burst where
  kind : BurstKind
  term : Nat
  /-- burst-profile index (R83) -/
  prof : Nat
  /-- lowest position in grant units -/
  start : Nat
  /-- length in grant units (R146) -/
  len : Nat
  allocs : List Alloc
  /-- the single outcome, once written (R61) -/
  outcome : Option Outc := none
  /-- the burst has been received (R79) -/
  received : Bool := false
  /-- CDR phase that the DSP unit loaded for the burst (R79) -/
  loaded : Option (BitVec 12) := none
  deriving DecidableEq, Repr

/-- A roadbook on the road (R43). -/
structure Book where
  msc : Nat
  bursts : List Burst
  /-- its ledger record is durable: its bursts count as GRANTED (R62) -/
  counted : Bool := false
  deriving DecidableEq, Repr

/-- A burst profile (R83, R244). -/
structure Profile where
  pre : Nat
  del : Nat
  fec : Bool
  prePat : W32
  delPat : W64
  deriving DecidableEq, Repr

/-- A discovery or ranging window (R105, R106). Positions in 1/16 ns after milestone `book`. -/
structure Window where
  /-- roadbook that carries the grant -/
  book : Nat
  /-- none: discovery; some t: ranging of terminal t -/
  term : Option Nat
  /-- narrow ranging window (R106) -/
  narrow : Bool
  /-- quiet span start and length, 1/16 ns -/
  start : Nat
  len : Nat
  /-- a response has been taken or the window has closed -/
  closed : Bool := false
  deriving DecidableEq, Repr

/-- A downstream PLOAM or OMCI message waiting for a frame (R76, R114, R115). -/
structure DsMsg where
  /-- terminal, or 512 for a broadcast -/
  term : Nat
  /-- 0 PLOAM, 1 OMCI (R241) -/
  kind : Nat
  /-- message bytes with the appended check -/
  bytes : List Nat
  /-- acceptance number of the command that waits for the transmission, if a host command sent it -/
  acc : Option Nat
  /-- earliest frame that may carry it -/
  frame : Nat
  /-- data-class buffer of the copied message: pool, buffer, domain (R333) -/
  buf : Option (Nat × Nat × Nat) := none
  deriving DecidableEq, Repr

/-- Rogue-light state of a sub-channel (R121, R122). -/
structure Rogue where
  /-- rogue verdicts of the latest intervals, newest first, at most eight -/
  hist : List Bool := []
  /-- rogue light seen so far in the current interval, in 1/16 ns times the bits of a frame -/
  light : Int := 0
  /-- ROGUE_LIGHT was raised and eight clean intervals have not yet passed -/
  raised : Bool := false
  /-- consecutive clean intervals -/
  clean : Nat := 0
  /-- suspicion points by terminal -/
  points : SMap Nat := []
  /-- an isolation runs -/
  running : Bool := false
  /-- windows suspended -/
  suspended : Bool := false
  /-- candidates still to be tested, in order -/
  cands : List Nat := []
  /-- candidate under test and its E -/
  test : Option (Nat × Nat) := none
  /-- some interval from E to E + L had rogue light -/
  seenBefore : Bool := false
  /-- some interval from E + L + 1 to E + L + 8 had rogue light -/
  seenAfter : Bool := false
  /-- the walk ended at ROGUE_UNRESOLVED -/
  unresolved : Bool := false
  deriving DecidableEq, Repr

/-- Discovery settings and state of a sub-channel (R102 to R105, R118). -/
structure Disc where
  period : Nat := 0
  rttMin : Nat := 0
  diff : Nat := 0
  admitNew : Bool := false
  /-- domain of the command that set ADMIT -/
  admitDom : Nat := 0
  /-- what DISC_CTL shows (R102: from the next window it fixes) -/
  showPeriod : Nat := 0
  showQuiet : Nat := 0
  /-- milestone at which the next window falls due -/
  nextDue : Nat := 0
  windows : List Window := []
  skipped : Nat := 0
  unknown : List Nat := []
  unknownDropped : Nat := 0
  snDup : Nat := 0
  omciRxDrop : Nat := 0
  /-- end of the recovery period of R118, if it runs -/
  recovery : Option Nat := none
  deriving DecidableEq, Repr

/-- One sub-channel (R68 to R84). -/
structure Sub where
  /-- SC_STATUS.STATE (R55) -/
  road : RoadSt := .disabled
  /-- out of service (R75) -/
  oos : Bool := false
  /-- roadbooks from this one on carry no grant while out of service (R75) -/
  oosFrom : Nat := 0
  /-- effective milestone of a pending ENABLE or DISABLE (R243) -/
  pendE : Option Nat := none
  drainE : Option Nat := none
  discard : Bool := false
  resumeR : Option Nat := none
  resumeAcc : Option Nat := none
  /-- first frame of the current enable (R76) -/
  enableE : Nat := 0
  /-- road length L (R53) -/
  len : Nat := 5
  /-- upstream rate code (R95 US_RATE) -/
  rate : Nat := 2
  guardBits : Nat := 1280
  phaseTol : Nat := 320
  profiles : List Profile := []
  /-- SET_SUBCH_PARAMS has set values since the last tree reset (R83) -/
  paramsSet : Bool := false
  /-- bound channel engine and DSP unit (R72) -/
  engine : Nat := 0
  dsp : Nat := 0
  /-- planned detours from their snapshot on: kind 0 engine 1 DSP, retired unit, spare, E (R73) -/
  chDetour : List (Nat × Nat × Nat × Nat) := []
  /-- milestone with which the latest detour of a lost unit was reported (R74) -/
  detourE : Nat := 0
  /-- instants of losses of its units, in 1/16 ns of device time (R74) -/
  lossAt : List Nat := []
  /-- L has been set since the sub-channel was last enabled: every terminal is ranged again (R54) -/
  reLen : Bool := false
  disc : Disc := {}
  rogue : Rogue := {}
  /-- EQD_THR as set, 0 = default (R109) -/
  eqdThr : Nat := 0
  /-- LOST_LIMIT (R113) -/
  lostLimit : Nat := 8
  /-- ROGUE_AUTO (R122) -/
  rogueAuto : Bool := true
  /-- the laser is lit (R58, R76) -/
  lit : Bool := false
  /-- superframe counter (R76) -/
  superframe : Nat := 0
  dsq : List DsMsg := []
  /-- PLOAM sequence numbers used downstream -/
  ploamSeq : Nat := 0
  books : List Book := []
  /-- roadbook built by the assembler and not yet committed (R148) -/
  built : Option Book := none
  /-- roadbook committed in this interval and accepted by the framer (R41) -/
  accepted : Bool := false
  /-- PLOAM requests of firmware by terminal, and those fixed at the latest snapshot (R145, R150) -/
  ploamReq : List Nat := []
  ploamNow : List Nat := []
  /-- digest of the latest committed roadbook (R150) -/
  digest : W64 := 0
  led : Ledger := {}
  /-- live level of the signal-detect input, before polarity: true is high (R81, R95 SD_STATUS) -/
  sd : Bool := false
  deriving DecidableEq, Repr

/-- A burst-preload record (R86 to R93, R95 PL_WORD0 and PL_WORD1). -/
structure Preload where
  gain : BitVec 8 := 0
  cdr : BitVec 12 := 0
  ffe : BitVec 56 := 0
  dfe1 : BitVec 8 := 0
  drift : BitVec 10 := 0
  stamp : BitVec 24 := 0
  valid : Bool := false
  fault : Bool := false
  fails : Nat := 0
  reason : Nat := 0
  pend : Bool := false
  /-- E of the pending demotion (R88) -/
  pendE : Nat := 0
  deriving DecidableEq, Repr

/-- Activation states of R97. -/
inductive ActSt where
  | free | registered | discovered | ranging | operation | draining | disabled
  deriving DecidableEq, Repr

def ActSt.code (a : ActSt) : Nat :=
  match a with
  | .free => 0
  | .registered => 1
  | .discovered => 2
  | .ranging => 3
  | .operation => 4
  | .draining => 5
  | .disabled => 6

/-- What becomes of a terminal when its drain ends (R98, R101, R112, R113, R262). -/
inductive AfterDrain where
  | registered | disabled | refused | removed
  /-- REGISTERED by DEACTIVATE_TERMINAL, which clears its entry of the retained ranging table (R108) -/
  | deactivated
  deriving DecidableEq, Repr

/-- One terminal object (R96 to R123). -/
structure Term where
  act : ActSt := .free
  /-- disabled by command (R123 FLAGS [0]) -/
  cmdDis : Bool := false
  /-- rogue-isolated (R123 FLAGS [1]) -/
  rogueIso : Bool := false
  /-- registration ID, 36 bytes, if set (R96) -/
  regId : Option (List Nat) := none
  /-- serial number: vendor ID and vendor-specific number, 8 bytes (R96) -/
  serial : Nat := 0
  dom : Nat := 0
  /-- measured round trip in 1/16 ns (R106) -/
  rtt : Nat := 0
  /-- equalisation delay in upstream bits (R106) -/
  eqd : Int := 0
  /-- filtered drift in 1/16 upstream bit (R109) -/
  driftF : Int := 0
  eqdUpdates : W32 := 0
  activeMsc : Nat := 0
  lostCount : W32 := 0
  activations : W32 := 0
  omciTx : W32 := 0
  omciRx : W32 := 0
  omciMic : W32 := 0
  /-- master session key, if one is established (R115) -/
  msk : Option (List Nat) := none
  /-- discovery arrival t_a in 1/16 ns (R106) -/
  ta : Nat := 0
  /-- frame that carries Assign_ONU-ID: no ranging window is fixed before its snapshot (R107) -/
  assignFrame : Nat := 0
  /-- ranging windows missed (R107) -/
  misses : Nat := 0
  /-- a ranging response waits for firmware: RTT, registration ID and the record of its lock (R87, R108) -/
  resp : Option (Nat × List Nat × Preload) := none
  /-- ranging is a re-range under R99 -/
  rerange : Bool := false
  /-- roadbook from which the terminal is granted and OPERATION begins at its commit (R108) -/
  operE : Option Nat := none
  /-- waiting for the first ARRIVED burst (R108) -/
  first : Bool := false
  /-- consecutive EMPTY bursts (R113) -/
  emptyRun : Nat := 0
  /-- consecutive EARLY or LATE bursts, 0 to 2 (R110) -/
  mistimed : Nat := 0
  /-- first frame F of the Ranging_Time in its period (R111) -/
  rtFrame : Option Nat := none
  /-- offset of the latest EARLY or LATE burst in the period (R111) -/
  held : Option Int := none
  /-- road state (R97) -/
  road : RoadSt := .disabled
  drainE : Option Nat := none
  discard : Bool := false
  after : AfterDrain := .registered
  /-- effective milestone of a pending deactivation or serial-number disable -/
  deactE : Option Nat := none
  /-- profile in force at the committed horizon (R95 PROFILE) -/
  prof : Nat := 0
  /-- profile of the roadbook being planned; `prof` follows it at the commit point (R88) -/
  profP : Nat := 0
  /-- correction sent in the Ranging_Time whose period runs (R111) -/
  rtDelta : Int := 0
  /-- burst-preload record (R86) -/
  pre : Preload := {}
  deriving DecidableEq, Repr

/-- An entry of the retained ranging table (R108, R122). -/
structure Retained where
  rtt : Option Nat := none
  rogue : Bool := false
  deriving DecidableEq, Repr

/-- A ledger record in MRAM (R63). -/
structure LedgerRec where
  msc : Nat
  valid : Bool
  totals : SMap Ledger
  deriving DecidableEq, Repr

/-- Preload read port of a tree (R95 PL_SEL). -/
structure PlPort where
  busy : Bool := false
  sel : Nat := 0
  word0 : W64 := 0
  word1 : W64 := 0
  deriving DecidableEq, Repr

/-- Everything of chapters 02 to 04. -/
structure PonSt where
  /-- sub-channels 0 to 383 (R68) -/
  subs : SMap Sub := []
  /-- terminals: key 512 × sub-channel + t (R68) -/
  terms : SMap Term := []
  /-- retained ranging table: key 512 × sub-channel + t (R108) -/
  retained : SMap Retained := []
  /-- preload read ports by tree (R95) -/
  plPorts : SMap PlPort := []
  /-- ledger record being written at 121 µs (R63) -/
  recPending : Option LedgerRec := none
  /-- two alternating slots, the same in both banks (R63) -/
  recSlot0 : Option LedgerRec := none
  recSlot1 : Option LedgerRec := none
  /-- which slot is written next -/
  recNext : Nat := 0
  /-- trees draining as objects of their own, with E and mode (R55, R243) -/
  treeDrain : List (Nat × Nat) := []
  deriving DecidableEq, Repr

end Sys2Proof.Machine
end

