-- ==== Sys2Proof/Machine/StMgmt.lean ====
section
/-! DEFINITION. State of protection, faults, management, recorder, retained state, firmware update, lanes,
uplink ports and power (chapters 14 to 18). Register fields that are plain stored values live in the
register file of State; the types here hold what no register shows whole. -/

namespace Sys2Proof.Machine

/-- SPR.HEALTH.STATE (R424). -/
inductive UnitSt where
  | active | spare | retiring | retired | lost | testing
  deriving DecidableEq, Repr

/-- Codes of SPR.HEALTH.STATE (R424). -/
def UnitSt.code (u : UnitSt) : Nat :=
  match u with
  | .active => 0
  | .spare => 1
  | .retiring => 2
  | .retired => 3
  | .lost => 4
  | .testing => 5

/-- Health of one unit of a class of R415 (R414, R424). -/
structure Health where
  st : UnitSt := .active
  /-- errors in the current window (R414) -/
  win : Nat := 0
  /-- milestone at which the window opened, if one is open (R414) -/
  openMsc : Option Nat := none
  /-- errors since cold start, held at 65,535 (R424) -/
  total : Nat := 0
  /-- milestone count of the last self-test (R424) -/
  testMsc : Nat := 0
  /-- last self-test passed (R424) -/
  testPass : Bool := false
  deriving DecidableEq, Repr

/-- One die-to-die module (R25). -/
structure Module where
  /-- redundant lanes used by repair, to the hub and from the hub (R25) -/
  repaired0 : Nat := 0
  repaired1 : Nat := 0
  /-- the module runs at x32 (R25) -/
  half : Bool := false
  /-- the module is lost (R25) -/
  lost : Bool := false
  /-- flits retried in the current second (R415) -/
  retries : Nat := 0
  deriving DecidableEq, Repr

/-- PRT.PAIR_STATE.STATE (R406). -/
inductive PairSt where
  | unpaired | alone | joining | paired | broken
  deriving DecidableEq, Repr

def PairSt.code (p : PairSt) : Nat :=
  match p with
  | .unpaired => 0
  | .alone => 1
  | .joining => 2
  | .paired => 3
  | .broken => 4

/-- PRT.PAIR_STATE.ROLE (R423). -/
inductive Role where
  | none | active | standby | fenced
  deriving DecidableEq, Repr

def Role.code (r : Role) : Nat :=
  match r with
  | .none => 0
  | .active => 1
  | .standby => 2
  | .fenced => 3

/-- A tree pair by its working tree (R395, R413). -/
structure TreePair where
  /-- protect tree -/
  p : Nat
  /-- the pair serves from p -/
  onProtect : Bool := false
  /-- first frame from the new side of the latest automatic switch (R413) -/
  fromMsc : Nat := 0
  /-- the lanes or channel units of p that serve H, and X, are out of service -/
  lostH : Bool := false
  lostX : Bool := false
  /-- TREE_UNPAIR waits for the drain of w (R420) -/
  unpair : Bool := false
  deriving DecidableEq, Repr

/-- The device pair (R393 to R412). -/
structure Pair where
  st : PairSt := .unpaired
  role : Role := .none
  /-- arbiter public-key hash, 32 bytes (R420) -/
  arbKey : List Nat := []
  /-- ARB_MISS in ms (R397) -/
  arbMiss : Nat := 3
  /-- arbiter HEARTBEAT current (R397) -/
  arbOk : Bool := false
  /-- sync heartbeat current (R423) -/
  peerHb : Bool := false
  /-- sync lanes in use, bit 0 lane 512 and bit 1 lane 513 (R396) -/
  lanes : BitVec 2 := 0
  /-- milestone of the latest arbiter HEARTBEAT (R397) -/
  arbMsc : Nat := 0
  /-- milestone of the latest sync heartbeat (R410) -/
  hbMsc : Nat := 0
  /-- consecutive missed heartbeats (R409) -/
  missed : Nat := 0
  /-- hub-cycle count at which the sync lanes went down (R412) -/
  downAt : Option Nat := none
  /-- milestone at which every batch became UNSYNC, if the device is joining or has joined (R401) -/
  base : Option Nat := none
  /-- batches by key 1408 q + b: 1 + the milestone at which the batch became UNSYNC, 0 = SYNC (R401); an
  unlisted batch is as `base` says -/
  unsync : SMap Nat := []
  /-- milestone of the latest RESYNC_BACKLOG (R402) -/
  backlogMsc : Option Nat := none
  /-- row copies received and not yet installed (R402) -/
  copies : List RowCopy := []
  /-- heartbeat sequence (R400) -/
  hbSeq : Nat := 0
  /-- interval of the latest missed heartbeat (R400) -/
  missMsc : Option Nat := none
  /-- switch-over: milestone E at which the roles change (R412) -/
  swapE : Option Nat := none
  /-- mirrored DHEAD and CDONE of the ACTIVE device's rings (R266, R411) -/
  mirror : SMap (W32 × W32) := []
  /-- excluded roadbooks of this interval, not yet forwarded: sub-channel and milestone (R403) -/
  excluded : List (Nat × Nat) := []
  /-- consecutive compared roadbook sets that agree (R407) -/
  agree : Nat := 0
  /-- acceptance number of the PAIR_JOIN in progress (R407) -/
  joinAcc : Option Nat := none
  /-- a takeover token was accepted: first frame C + 2 (R411) -/
  takeover : Option Nat := none
  /-- hub-cycle count since which a VERDICT is awaited, and the group (R404) -/
  verdict : Option (Nat × Nat) := none
  /-- known-answer tests due: group and sub-channel (R404) -/
  kat : List (Nat × Nat) := []
  /-- forwarded roadbooks: sub-channel and milestone (R403) -/
  forwarded : List (Nat × Nat) := []
  /-- tree pairs by working tree (R395) -/
  trees : SMap (Option TreePair) := []
  /-- sub-channels marked UNPROTECTED (R405) -/
  unprot : SMap Bool := []
  /-- hint records sent in this interval (R396) -/
  hintCount : Nat := 0
  /-- groups whose batch digests have been asked for (R401) -/
  asked : List Nat := []
  /-- digest requests that the ACTIVE device has served in this interval (R401) -/
  served : Nat := 0
  /-- UNSYNC batches of the STANDBY device by key, as the ACTIVE device knows them: 1 + the milestone since which it
  knows the batch as waiting, 0 = not listed (R400, R402) -/
  peerUnsync : SMap Nat := []
  /-- batches that the ACTIVE device has copied in this interval (R402) -/
  copied : List Nat := []
  /-- report and hint memory as they stood when the copies of this interval began (R402) -/
  copyImg : Option (SMap Report × SMap Hint) := none
  /-- known-answer tests done: group, pass, and whether Part B has carried the result (R404) -/
  katOwn : List (Nat × Bool × Bool) := []
  /-- results that the peer's Part B carried: group and pass (R404) -/
  katPeer : List (Nat × Bool) := []
  deriving DecidableEq, Repr

/-- A mailbox (R426). -/
structure Mbx where
  /-- request bytes being written or held (R427) -/
  req : List Nat := []
  /-- a request is in progress (R426) -/
  busy : Bool := false
  /-- place of the request among those in progress, in order of arrival (R430) -/
  turn : Nat := 0
  /-- response bytes (R427) -/
  rsp : List Nat := []
  /-- next response byte of Block Read (R428) -/
  pos : Nat := 0
  /-- TAG of the previous request and sender (R429) -/
  lastTag : Option Nat := none
  /-- sender's address (R429) -/
  sender : Nat := 0
  /-- UPD_FRAG: piece, its check value and the bytes received so far (R484) -/
  frag : Option (Nat × List Nat × List Nat) := none
  deriving DecidableEq, Repr

/-- Histogram part shared by a record and its accumulator (R435, R437). -/
structure Hist where
  count : Nat := 0
  overflow : Nat := 0
  min : Nat := 0xFFFFFFFF
  max : Nat := 0
  minMsc : Nat := 0
  maxMsc : Nat := 0
  binSat : Bool := false
  /-- BIN[i], i = 0 to 31 -/
  bins : SMap Nat := []
  deriving DecidableEq, Repr

/-- A recorder record (R435). -/
structure Rec where
  gen : Nat := 0
  bound : Bool := false
  /-- REC_UNBIND executed: BOUND clears at the next commit (R441) -/
  unbind : Bool := false
  gap : Bool := false
  kind : Nat := 0
  dom : Nat := 0
  log : Bool := false
  source : Nat := 0
  width : Nat := 1
  base : Nat := 0
  clearMsc : Nat := 0
  h : Hist := {}
  deriving DecidableEq, Repr

/-- A clear-ledger entry (R445). -/
structure ClearEnt where
  msc : Nat
  nonce : Nat
  first : Nat
  count : Nat
  flags : Nat
  keyFp : List Nat
  deriving DecidableEq, Repr

/-- The recorder with its clear state (R435 to R446). -/
structure RecSt where
  /-- records 0 to 4,095 in recorder SRAM (R435) -/
  recs : SMap Rec := []
  /-- accumulators (R437) -/
  accs : SMap Hist := []
  /-- MRAM copy 0 and copy 1 of the records, with the interval of the copy, once written (R440) -/
  mram0 : Option (Nat × SMap Rec) := none
  mram1 : Option (Nat × SMap Rec) := none
  bank0 : Bool := true
  bank1 : Bool := true
  mramOk : Bool := true
  /-- SM3 hash of the clear key (R442) -/
  clearKey : Option (List Nat) := none
  /-- outstanding nonce and expiry milestone (R442) -/
  nonce : Option (Nat × Nat) := none
  /-- clear ledger, oldest first (R445) -/
  ledger : List ClearEnt := []
  /-- raises of each event source in this interval (R436 kind 7) -/
  raises : SMap Nat := []
  deriving DecidableEq, Repr

/-- Sensors (R431 to R433). -/
structure Sens where
  /-- the latest conversion of this sensor was at or above 125 °C (R432) -/
  hot : SMap Bool := []
  /-- hotspots warned, and hotspots critical (R432) -/
  warn : SMap Bool := []
  crit : SMap Bool := []
  /-- monitors outside their window; stacks hot (R432) -/
  volt : SMap Bool := []
  hbm : SMap Bool := []
  /-- thermal trip latched in the always-on domain (R433) -/
  trip : Bool := false
  /-- the core logic has left reset after a trip, and the first milestone is still to come (R433) -/
  rearm : Bool := false
  deriving DecidableEq, Repr

/-- JTAG port (R450). -/
structure Debug where
  /-- the outstanding challenge, 48 bytes -/
  challenge : Option (List Nat) := none
  fails : Nat := 0
  unlocked : Bool := false
  locked : Bool := false
  deriving DecidableEq, Repr

/-- One uplink port, by its first lane 0 to 127 (R502 to R504). -/
structure UPort where
  /-- configured width in lanes, interface and largest frame (R502) -/
  cfg : Option (Nat × Nat × Nat) := none
  road : RoadSt := .disabled
  link : Bool := false
  /-- open PORT_DOWN and the PORT_UP of a resume (R504) -/
  downAcc : Option Nat := none
  upAcc : Option Nat := none
  deriving DecidableEq, Repr

/-- The configuration a waypoint holds (R461). Only the fields of R461 are kept in it; `capture` resets
the learned ones. -/
structure WpCfg where
  pon : PonSt := {}
  grant : GrantSt := {}
  data : DataSt := {}
  buf : BufSt := {}
  cph : CphSt := {}
  doms : SMap Dom := []
  recs : SMap Rec := []
  ptpPorts : SMap PtpPort := []
  ptpRx : Option (Nat × Nat) := none
  uports : SMap UPort := []
  deferred : List Pend := []
  deriving DecidableEq, Repr

/-- A confirmed waypoint (R462, R464, R486). -/
structure Waypoint where
  ver : Nat
  wpf : Nat
  a : Nat
  msc : Nat
  /-- size in KiB -/
  size : Nat
  pinned : Bool
  auto : Bool
  /-- commands numbered up to A that had not been executed when the copy was made: they are replayed (R265) -/
  late : List Nat
  cfg : WpCfg
  deriving DecidableEq, Repr

/-- Where a waypoint capture stands (R462). -/
inductive CapSt where
  | idle
  /-- waiting for the next snapshot -/
  | armed
  /-- from the snapshot: waiting for executing commands -/
  | waiting
  /-- copied, and being written to flash: A, milestone and commands up to A not yet executed -/
  | writing (a msc : Nat) (late : List Nat)
  deriving DecidableEq, Repr

/-- A firmware manifest (R469). -/
structure Manifest where
  pieces : Nat
  stepping : Nat
  raiseSvn : Bool
  imageLen : Nat
  svn : Nat
  wpfWrite : Nat
  wpfReadMin : Nat
  fwVer : Nat
  imageDigest : List Nat
  pieceDigests : List (List Nat)
  /-- the manifest's bytes, signature included -/
  bytes : List Nat
  deriving DecidableEq, Repr

/-- UPD_STATE.STATE (chapter 16, "Firmware update"). -/
inductive UpdSt where
  | idle | receiving | received | verifying | verified | swapping | trial | reverting
  deriving DecidableEq, Repr

def UpdSt.code (u : UpdSt) : Nat :=
  match u with
  | .idle => 0
  | .receiving => 1
  | .received => 2
  | .verifying => 3
  | .verified => 4
  | .swapping => 5
  | .trial => 6
  | .reverting => 7

/-- Firmware update (R469 to R481). -/
structure Upd where
  st : UpdSt := .idle
  /-- manifest in force (R470) -/
  man : Option Manifest := none
  /-- manifest of the old image while the swap, the trial or the reverting runs (R474) -/
  old : Option Manifest := none
  /-- manifest of the running image; none is the image shipped (R457) -/
  run : Option Manifest := none
  /-- download slot of flash 0 and flash 1, by piece: bytes (R471) -/
  down0 : SMap (List Nat) := []
  down1 : SMap (List Nat) := []
  /-- running image and staging slot by block, the same in both flash devices (R457, R474) -/
  image : SMap (List Nat) := []
  staging : SMap (List Nat) := []
  /-- trial count named by ACTIVATE (R474) -/
  trials : Nat := 0
  /-- the swap has ended and the pause has not begun (R475) -/
  swapped : Bool := false
  /-- ACTIVATE or ACTIVATE_AT open: acceptance number, and the device time T of ACTIVATE_AT in s and ns (R476) -/
  openAcc : Option Nat := none
  openAt : Option (Nat × Nat) := none
  /-- ACTIVATE_AT began late (R476) -/
  late : Bool := false
  /-- UPD_VERIFY in progress: acceptance number (R473) -/
  verAcc : Option Nat := none
  /-- UPD_FALLBACK decided: LAST_RESULT code to record (R478) -/
  cause : Nat := 0
  /-- blocks of the running image already replaced (R474) -/
  blk : Nat := 0
  /-- the new image is to be started: a boot in trial is due (R477) -/
  bootDue : Bool := false
  /-- the new image has been started and has not reported itself in service (R475, R477) -/
  started : Bool := false
  deriving DecidableEq, Repr

/-- Hidden state of a lane (R492 to R501). -/
structure Lane where
  /-- consecutive low and consecutive recovered measurements (R495) -/
  low : Nat := 0
  good : Nat := 0
  /-- STORED_COEF has been loaded and the margin is still to be judged (R493) -/
  fromExit : Bool := false
  /-- MARGIN_MIN has been read and no measurement has been taken since: it reads zero (R10, R510) -/
  minRead : Bool := false
  /-- hub-cycle count of the latest entry to UP (R387) -/
  upAt : Nat := 0
  /-- errors still to be injected and their spacing (R500) -/
  inject : Nat := 0
  spacing : Nat := 0
  deriving DecidableEq, Repr

/-- Supplies, straps, reset and start-up (R511 to R527). -/
structure Pwr where
  /-- input in use is VAO_BKP (R513) -/
  onBkp : Bool := false
  mainOk : Bool := true
  bkpOk : Bool := true
  /-- sampled straps (R520) -/
  smbAddr : Nat := 7
  resumeHold : Bool := false
  testModeN : Bool := true
  /-- a warning or brownout sequence is in progress (R515) -/
  warning : Bool := false
  /-- it followed a brownout: BROWNOUT is raised after the restart (R516) -/
  brown : Bool := false
  /-- cause of a warm reset that is due, 0 = none: 4 requested, 5 after a released warning, 8 FACTORY_CLEAN
  (R468, R515, R533) -/
  resetDue : Nat := 0
  /-- the latest start is a cold start (R521) -/
  cold : Bool := true
  /-- in stage 4: the journal has been replayed (R265) -/
  stageDone : Bool := false
  /-- factory-clean erase marker (R468) -/
  erase : Bool := false
  /-- the hold of R467 is in force -/
  held : Bool := false
  /-- PERST# is asserted (R517) -/
  perst : Bool := false
  /-- a boot integrity fault of this boot (R451) -/
  bootFault : Bool := false
  /-- the certificate is readable (R448) -/
  certOk : Bool := true
  /-- OTP minimum SVN (R470) -/
  minSvn : Nat := 0
  /-- FLASH_OWN_N is low and honoured (R526) -/
  flashOwn : Bool := false
  deriving DecidableEq, Repr

/-- Everything of chapters 14 to 18 that no register holds. -/
structure MgmtSt where
  /-- units of the classes of R415: key 4096 × class + unit -/
  units : SMap Health := []
  /-- die-to-die modules: key 4 × die + module (R25) -/
  mods : SMap Module := []
  /-- bytes of the data class that each die has carried in the current interval: key 2 × die, + 1 from the hub (R26) -/
  d2dLoad : SMap Nat := []
  pair : Pair := {}
  /-- mailboxes 0 PF, 1 SMBus, 2 out-of-band (R426) -/
  mbx0 : Mbx := {}
  mbx1 : Mbx := {}
  mbx2 : Mbx := {}
  rcd : RecSt := {}
  sens : Sens := {}
  dbg : Debug := {}
  /-- waypoint slots 0 to 7 and conversion slots 0 to 7 (R457) -/
  wps : SMap (Option Waypoint) := []
  conv : SMap (Option Waypoint) := []
  /-- slot of the latest confirmed waypoint (R486) -/
  wpLatest : Nat := 0
  /-- version of the latest waypoint ever taken (R462) -/
  wpVer : Nat := 0
  cap : CapSt := .idle
  /-- the capture's flags: automatic, pin, acceptance number of TAKE_WAYPOINT -/
  capAuto : Bool := false
  capPin : Bool := false
  capAcc : Option Nat := none
  /-- configuration captured in the HBM system region (R462) -/
  capCfg : WpCfg := {}
  /-- a trigger held while a capture, a write or a pause is in progress (R463) -/
  capHeld : Bool := false
  /-- command records and journal blocks added since the latest confirmed waypoint (R463) -/
  jrnSince : Nat := 0
  blkSince : Nat := 0
  /-- pending RETURN_WAYPOINT contents by version (R465) -/
  returns : List (Nat × Bool × WpCfg) := []
  upd : Upd := {}
  lanes : SMap Lane := []
  uports : SMap UPort := []
  pwr : Pwr := {}
  deriving DecidableEq, Repr

end Sys2Proof.Machine
end

