-- ==== Sys2Proof/Machine/State.lean ====
section
/-! DEFINITION. The state of the block: everything the spec gives the machine, as plain data, with the state
right after reset, and the faults and refusals. -/

namespace Sys2Proof.Machine

/-- Where the interval stands (R40): the latest phase point passed. -/
inductive Phase where
  | afterMilestone | afterSnapshot | afterDeadline | afterCommit | afterDelivery
  deriving DecidableEq, Repr

/-- The milestone generator and the hub clock (R37, R38, R40). -/
structure Clk where
  /-- the generator runs (R373) -/
  running : Bool := false
  /-- milestone count M (R37, MST.MSC) -/
  msc : Nat := 0
  /-- hub cycle within the interval, 0 to 249,999 (R38, MST.CYCLE) -/
  cycle : Nat := 0
  phase : Phase := .afterDelivery
  /-- hub cycles since the core logic left reset -/
  hubc : Nat := 0
  deriving DecidableEq, Repr

/-- A journal entry (R247, R264, R459). -/
structure Jrn where
  desc : Desc
  /-- the command has started and its execution has not ended (R257) -/
  started : Bool := false
  /-- the execution record, once written (R264) -/
  exec : Option ExecRec := none
  /-- the posting mark (R264) -/
  posted : Bool := false
  /-- accepted before the latest restart: its completion carries REPLAYED (R240, R266) -/
  replayed : Bool := false
  /-- seed that the command drew (R265, R324) -/
  drawn : Option W32 := none
  /-- the key field of the command's input, which `desc` holds wrapped (R365) -/
  key : Option WrappedKey := none
  deriving DecidableEq, Repr

/-- The host interface (chapter 08). -/
structure HostSt where
  /-- rings 0 to 1,023 (R230, R232) -/
  rings : SMap Ring := []
  /-- journal entries in acceptance order (R247, R459) -/
  jrn : List Jrn := []
  /-- acceptance number of the latest accepted command, retained (R247, R272) -/
  acceptNum : Nat := 0
  /-- ring whose command was given the latest context (R257) -/
  rrRing : Nat := 0
  /-- journal blocks in use beyond those of the entries held: markers and pads (R459) -/
  jrnExtra : Nat := 0
  /-- completions waiting to be posted (R240, R257) -/
  cpls : List Cpl := []
  /-- signal vectors: key 512 × function + vector (R229, R269) -/
  vecs : SMap Vec := []
  /-- VFs 1 to this number are enabled in the SR-IOV capability of PF0 (R224) -/
  numVfs : Nat := 0
  /-- held event records, oldest first (R268) -/
  held : List EvRec := []
  /-- sources already raised in this interval that are raised at most once per interval: source and argument -/
  once : List (Nat × Nat) := []
  deriving DecidableEq, Repr

/-- The state of the N192. -/
structure State where
  /-- generator and clocks -/
  clk : Clk := {}
  /-- register file: stored register values by address (R9 to R12, R226) -/
  regs : SMap W64 := []
  /-- latched high halves by block instance (R14) -/
  latch : SMap (Option Half) := []
  /-- pending low halves by block instance (R14) -/
  pendLow : SMap (Option Half) := []
  host : HostSt := {}
  /-- operator domains 0 to 63 (R224, R259) -/
  doms : SMap Dom := []
  /-- pending deferred changes (R46, R47) -/
  deferred : List Pend := []
  pon : PonSt := {}
  grant : GrantSt := {}
  data : DataSt := {}
  buf : BufSt := {}
  cph : CphSt := {}
  time : TimeSt := {}
  mgmt : MgmtSt := {}
  /-- what the device has sent to the outside, oldest first (the model's own field) -/
  out : List Out := []
  /-- number of free values taken so far (the model's own field) -/
  freeCtr : Nat := 0
  /-- commands waiting, first in, first out (the model's own field) -/
  pending : List Instr := []
  deriving DecidableEq, Repr

/-- Reasons a step faults. -/
inductive Fault where
  /-- Raised by a register access that names a function or BAR the device does not have, or a VF that is not
  enabled: no function claims the access (R224, R225). Safe: the machine stops where the link would answer
  the access without the device. -/
  | noSuchFunction
  deriving DecidableEq, Repr

/-- Reasons a step refuses. -/
inductive Refusal where
  /-- Raised by exec for a row that has no meaning yet. Safe: nothing runs. -/
  | notModelled (mnemonic : String)
  deriving DecidableEq, Repr

/-- The machine right after reset (R15, R521): POR_N has been released with the retained domain lost, the
device is at start-up stage 0, the milestone generator has not started. -/
def State.reset : State := {}

end Sys2Proof.Machine
end

