-- ==== Sys2Proof/Machine/Ops.lean ====
section
/-! DEFINITION. The named operations that every command uses: the register file, fields of registers,
counters, vectors and events, free values, and what the device sends out. -/

namespace Sys2Proof.Machine

/-! Base addresses of the hub blocks of R226 and of the replicated blocks. -/

abbrev evcA (o : Nat) : Nat := 0x1_0000 + o
abbrev mstA (o : Nat) : Nat := 0x2_0000 + o
abbrev timA (o : Nat) : Nat := 0x3_0000 + o
abbrev cmdA (o : Nat) : Nat := 0x4_0000 + o
abbrev bpmA (o : Nat) : Nat := 0x5_0000 + o
abbrev cphA (o : Nat) : Nat := 0x6_0000 + o
abbrev fwdA (o : Nat) : Nat := 0x7_0000 + o
abbrev tmgA (o : Nat) : Nat := 0x8_0000 + o
abbrev prtA (o : Nat) : Nat := 0x9_0000 + o
abbrev mgtA (o : Nat) : Nat := 0xA_0000 + o
abbrev rcdA (o : Nat) : Nat := 0xB_0000 + o
abbrev wptA (o : Nat) : Nat := 0xC_0000 + o
abbrev updA (o : Nat) : Nat := 0xD_0000 + o
abbrev sprA (o : Nat) : Nat := 0xE_0000 + o
abbrev pwrA (o : Nat) : Nat := 0xF_0000 + o
/-- GCR block of core g. -/
abbrev gcrA (g o : Nat) : Nat := 0x40_0000 + g * 0x1000 + o
/-- LNE block of lane l. -/
abbrev lneA (l o : Nat) : Nat := 0x80_0000 + l * 0x800 + o
/-- CHN block of tree c. -/
abbrev chnA (c o : Nat) : Nat := 0x100_0000 + c * 0x4000 + o
/-- CHN sub-block of sub-channel sc = 2c (H) or 2c + 1 (X). -/
abbrev subA (sc o : Nat) : Nat := 0x100_0000 + (sc / 2) * 0x4000 + 0x1000 * (1 + sc % 2) + o
/-- UPL block of port u. -/
abbrev uplA (u o : Nat) : Nat := 0x140_0000 + u * 0x1000 + o
/-- Domain page of VF v (R229, R231). -/
abbrev vfA (v o : Nat) : Nat := vfBase + v * 0x1_0000 + 0xF000 + o

/-- Page of ring r: rings 0 to 63 lie in PF BAR2, the fifteen of VF v in its BAR0 (R229, R230). -/
abbrev ringA (r : Nat) : Nat :=
  if r < 64 then bar2Base + r * 0x1000
  else vfBase + ((r - 64) / 15 + 1) * 0x1_0000 + (r - 64) % 15 * 0x1000

/-- Entry of vector v in the MSI-X table of function fn (R229). -/
abbrev msixA (fn v : Nat) : Nat :=
  if fn = 0 then bar2Base + 0x8_0000 + 16 * v else vfBase + fn * 0x1_0000 + 0xF800 + 16 * v

/-- Bits [hi:lo] of a number. -/
def bitsOf (x hi lo : Nat) : Nat := x / 2 ^ lo % 2 ^ (hi - lo + 1)

/-- `x` with bits [hi:lo] replaced by `v`, reduced to the field's width. -/
def withBits (x hi lo v : Nat) : Nat :=
  x / 2 ^ (hi + 1) * 2 ^ (hi + 1) + v % 2 ^ (hi - lo + 1) * 2 ^ lo + x % 2 ^ lo

/-- 1 for true. -/
def b2n (b : Bool) : Nat := if b then 1 else 0

/-- A quotient held to whole numbers: itself where it is one, and a neighbour where it is not (R106, R109). -/
def roundDiv (a b : Int) : Int := a / b + (if a % b = 0 then 0 else b2n (Config.roundUp a b))

/-- Units of a class built (R415). -/
def clsUnits (k : Nat) : Nat :=
  match k with
  | 0 => 104
  | 1 => 416
  | 2 => 416
  | 3 => 1408
  | 4 => 2048
  | 5 => 256
  | 6 => 24
  | 7 => 4
  | 8 => 2
  | 9 => 2
  | 10 => 96
  | _ => 0

/-- Die of a lane: 0 to 3 T0 to T3, 4 and 5 K0 and K1, 6 hub (R19, R510). -/
def laneDie (l : Nat) : Nat := if l < 384 then l / 96 else if l < 448 then 4 else if l < 512 then 5 else 6

/-- LANE_ID.KIND of a lane (R488, R510). -/
def laneKind (l : Nat) : Nat :=
  if l < 384 then l % 2 else if l < 512 then 2 else if l < 514 then 3 else if l = 514 then 4 else 5

/-- Reset values that the tables give in words: identities, severities, R415 and R495 defaults, and the
values of fuses and rails, which are free. -/
def regResetSpecial (ra : RegAt) : Option Nat :=
  match ra.blk.blk, ra.reg.off with
  | .chn, 0x0 => some (ix0 ra.bix / 24 * 2 ^ 16 + ix0 ra.bix / 48 * 2 ^ 8 + ix0 ra.bix)
  | .gcr, 0x0 => some (ix0 ra.bix + 128 * (if ix0 ra.bix < 96 then 0 else 1))
  | .evc, 0x4000 => some (0xC000_0000 + (evSev (ix0 ra.rix)).getD 0 * 2 ^ 12)
  | .spr, 0x8 =>
    some ((if ix0 ra.rix = 8 ∨ ix0 ra.rix = 9 then 1 else 3) * 2 ^ 24 + 0x3E8)
  | .mgt, 0x8 => some (Config.oobMac % 2 ^ 48)
  | .mgt, 0x4300 =>
    some (Config.voltHigh (ix0 ra.rix) % 2 ^ 16 * 2 ^ 16 + Config.voltLow (ix0 ra.rix) % 2 ^ 16)
  | .lne, 0x0 =>
    some (laneKind (ix0 ra.bix) * 2 ^ 16 + laneDie (ix0 ra.bix) * 2 ^ 10 + ix0 ra.bix)
  | .lne, 0xC =>
    some (if ix0 ra.bix < 384 then 8
      else if ix0 ra.bix < 514 then 20 * 2 ^ 16 + 12 * 2 ^ 8 + 8
      else 48 * 2 ^ 16 + 40 * 2 ^ 8 + 8)
  | _, _ => none

/-- Reset value of the register at address `a` (R9); 0 for a reserved address. -/
def regReset (a : Nat) : W64 :=
  match regAt a with
  | none => 0
  | some ra =>
    match regResetSpecial ra with
    | some v => BitVec.ofNat 64 v
    | none => BitVec.ofNat 64 (fldsReset ra.reg.flds)

/-- Stored value of the register at address `a`. -/
def State.reg (s : State) (a : Nat) : W64 := s.regs.get (regReset a) a

/-- Store a register value. -/
def State.setReg (s : State) (a : Nat) (v : W64) : State :=
  { s with regs := s.regs.set (regReset a) a v }

/-- Field [hi:lo] of the register at `a`. -/
def State.fld (s : State) (a hi lo : Nat) : Nat := bitsOf (s.reg a).toNat hi lo

/-- Store a field. -/
def State.setFld (s : State) (a hi lo v : Nat) : State :=
  s.setReg a (BitVec.ofNat 64 (withBits (s.reg a).toNat hi lo v))

/-- One bit of a register. -/
def State.bit (s : State) (a i : Nat) : Bool := s.fld a i i == 1

/-- Store one bit. -/
def State.setBit (s : State) (a i : Nat) (b : Bool) : State := s.setFld a i i (b2n b)

/-- Add to a 32-bit counter, modulo 2³². -/
def State.add32 (s : State) (a n : Nat) : State :=
  s.setReg a (BitVec.ofNat 64 (((s.reg a).toNat + n) % 2 ^ 32))

/-- Add to a 64-bit counter, modulo 2⁶⁴. -/
def State.add64 (s : State) (a n : Nat) : State := s.setReg a (s.reg a + BitVec.ofNat 64 n)

/-- Add to a field held at its largest value. -/
def State.addHeld (s : State) (a hi lo n : Nat) : State :=
  s.setFld a hi lo (min (s.fld a hi lo + n) (2 ^ (hi - lo + 1) - 1))

/-! Latches (R14, R374). -/

/-- First address of the block instance that holds an address: the unit of the latches of R14. -/
def blockOf (a : Nat) : Nat :=
  if a < 0x10_0000 then a / 0x1_0000 * 0x1_0000
  else if a < 0x80_0000 then a / 0x1000 * 0x1000
  else if a < 0x100_0000 then a / 0x800 * 0x800
  else if a < 0x140_0000 then a / 0x4000 * 0x4000
  else if a < 0x200_0000 then a / 0x1000 * 0x1000
  else if a < 0x400_0000 then a / 0x2_0000 * 0x2_0000
  else a / 0x1000 * 0x1000

/-- The latched high half and the pending low half of a block. -/
def State.latchAt (s : State) (a : Nat) : Option Half := s.latch.get none (blockOf a)
def State.pendAt (s : State) (a : Nat) : Option Half := s.pendLow.get none (blockOf a)

/-- Discard the latch and the pending low half of the block of an address; an access to TIM also discards the
latched seconds, unless it is the second half of the read that latched them (R374). -/
def State.unlatch (s : State) (a : Nat) : State :=
  let keep := blockOf a != timA 0 || (a == timA 4 && (s.latchAt a).isSome)
  let s := { s with latch := s.latch.set none (blockOf a) none, pendLow := s.pendLow.set none (blockOf a) none }
  if keep then s else { s with time := { s.time with secLatch := none } }

/-- Append to what the device has sent. -/
def State.emit (s : State) (o : Out) : State := { s with out := s.out ++ [o] }

/-- Take a free value: a number of which nothing is known (the spec leaves it open). -/
def State.draw (s : State) : W64 × State :=
  (Config.freeValue s.freeCtr, { s with freeCtr := s.freeCtr + 1 })

/-- Draw a random number of the device's own entropy (R442, R450). -/
def State.random (s : State) : W64 × State :=
  (Config.random s.freeCtr, { s with freeCtr := s.freeCtr + 1 })

/-- `n` bytes of `x`, least significant first (R4). -/
def leBytes (n x : Nat) : List Nat :=
  match n with
  | 0 => []
  | k + 1 => x % 256 :: leBytes k (x / 256)

/-- The number that bytes spell, least significant first (R4). -/
def ofLe (l : List Nat) : Nat :=
  match l with
  | [] => 0
  | b :: r => b % 256 + 256 * ofLe r

/-- `n` bytes of `l` from byte `o`. -/
def sliceB (l : List Nat) (o n : Nat) : List Nat := (l.drop o).take n

/-- The little-endian number of `n` bytes of `l` from byte `o`. -/
def leAt (l : List Nat) (o n : Nat) : Nat := ofLe (sliceB l o n)

/-- `l` cut or padded with zeros to `n` bytes. -/
def padTo (n : Nat) (l : List Nat) : List Nat := l.take n ++ List.replicate (n - l.length) 0

/-- The SM3 digest, 32 bytes (R199, R469). -/
def sm3 (l : List Nat) : List Nat := padTo 32 (Config.sm3 l)

/-- Later than, for n-bit sequence numbers (R8). -/
def later32 (a b : W32) : Bool := decide (0 < (a - b).toInt)

/-- A vector of function `fn`. -/
def State.vec (s : State) (fn v : Nat) : Vec := s.host.vecs.get {} (512 * fn + v)

/-- Store a vector. -/
def State.setVec (s : State) (fn v : Nat) (x : Vec) : State :=
  { s with host := { s.host with vecs := s.host.vecs.set {} (512 * fn + v) x } }

/-- MIN_GAP of a vector in hub cycles (R269, R270, R231). -/
def State.minGap (s : State) (fn v : Nat) : Nat :=
  2000 * (if fn = 0 then s.fld (evcA (0x9000 + 4 * v)) 9 0 else s.fld (vfA fn (0x10 + 4 * v)) 9 0)

/-- Send the message of a vector now. -/
def State.sendVec (s : State) (fn v : Nat) : State :=
  let x := s.vec fn v
  (s.setVec fn v { x with last := some s.clk.hubc, waiting := false, pba := false }).emit
    (.msix fn v (BitVec.ofNat 64 (x.addrHi.toNat * 2 ^ 32 + x.addrLo.toNat)) x.data)

/-- Signal a vector (R269): a masked one sets its pending bit; one signalled less than MIN_GAP after its
previous signal waits for the end of the gap. -/
def State.signal (s : State) (fn v : Nat) : State :=
  let x := s.vec fn v
  if x.masked then s.setVec fn v { x with pba := true }
  else
    match x.last with
    | none => s.sendVec fn v
    | some l =>
      if s.clk.hubc < l + s.minGap fn v then s.setVec fn v { x with waiting := true } else s.sendVec fn v

/-- Bytes of an event record (R268). -/
def evBytes (e : EvRec) (phase : Nat) : List Nat :=
  leBytes 2 (e.src % 2048 + (evSev e.src).getD 0 * 2 ^ 12 + phase * 2 ^ 15) ++ [0, 0] ++ leBytes 4 e.arg ++ leBytes 8 e.msc

/-- Event-queue size: n clamped to 8 to 16 (R270). -/
def State.evqLog (s : State) : Nat := max 8 (min 16 (s.fld (evcA 0x8) 4 0))

/-- Write one record to the event queue, or count it lost when the queue is full (R268). The answer says
whether a record was written. -/
def State.evqWrite (s : State) (e : EvRec) : Bool × State :=
  let head := BitVec.ofNat 32 (s.reg (evcA 0xC)).toNat
  let tail := BitVec.ofNat 32 (s.reg (evcA 0x10)).toNat
  let n := s.evqLog
  if (tail - head).toNat < 2 ^ n then
    let phase := 1 - tail.toNat / 2 ^ n % 2
    let base := (s.reg (evcA 0x0)).toNat / 4096 * 4096
    (true, (s.setReg (evcA 0x10) (BitVec.ofNat 64 (tail + 1#32).toNat)).emit
      (.hostWrite (base + 16 * (tail.toNat % 2 ^ n)) (evBytes e phase)))
  else (false, s.add32 (evcA 0x14) 1)

/-- Signal EV_CFG[n].VECTOR if EV_CFG[n].IRQ is set (R267). -/
def State.evSignal (s : State) (n : Nat) : State :=
  if s.bit (evcA (0x4000 + 4 * n)) 30 then s.signal 0 (s.fld (evcA (0x4000 + 4 * n)) 8 0) else s

/-- Raise event source `n` with an argument (R267, R268). An unassigned source is never raised. -/
def State.raise (s : State) (n arg : Nat) : State :=
  match evSev n with
  | none => s
  | some _ =>
    let s := (s.add32 (evcA (0x6000 + 4 * n)) 1).setBit (evcA (0x8000 + 4 * (n / 32))) (n % 32) true
    let s := { s with mgmt := { s.mgmt with rcd := { s.mgmt.rcd with
      raises := s.mgmt.rcd.raises.set 0 n (s.mgmt.rcd.raises.get 0 n + 1) } } }
    if s.bit (evcA (0x4000 + 4 * n)) 31 then
      let e : EvRec := ⟨n, arg % 2 ^ 32, s.clk.msc⟩
      if s.bit (evcA 0x8) 31 then
        match s.evqWrite e with
        | (true, s) => s.evSignal n
        | (false, s) => s
      else if s.host.held.length < 8192 then
        { s with host := { s.host with held := s.host.held ++ [e] } }
      else s.add32 (evcA 0x14) 1
    else s

/-- Raise a source at most once per interval for one argument. -/
def State.raiseOnce (s : State) (n key arg : Nat) : State :=
  if s.host.once.contains (n, key) then s
  else ({ s with host := { s.host with once := s.host.once ++ [(n, key)] } }).raise n arg

/-- Signal the NOTICE vector of VF v (R231). -/
def State.notice (s : State) (v bit : Nat) : State :=
  (s.setBit (vfA v 0x4) bit true).signal v (s.fld (vfA v 0x8) 19 16)

/-- Hub cycles per interval (R38). -/
abbrev cyclesPerInterval : Nat := 250000

/-- PWR.BOOT_STATE.STAGE (R521, R533). -/
def State.stage (s : State) : Nat := s.fld (pwrA 0x0) 2 0

/-! What a command answers. -/

/-- The answer of a command. -/
abbrev Answer : Type := Host.Outcome State Fault Refusal

/-- A command's effect is on everything but the queue: the next state is `t` with the queue of `s`. -/
def kept (s t : State) : Answer := .next { t with pending := s.pending }

end Sys2Proof.Machine
end

