-- ==== Sys2Proof/Machine/Cmd.lean ====
section
/-! DEFINITION. Execution of a host command (R238, R239, R242 to R265): the order of the checks of R258, the
waits of R254, R255 and R257, effective milestones (R45, R256), the execution record and the completion. -/

namespace Sys2Proof.Machine

/-! Status codes of R258. -/

abbrev stOk : Nat := 0x00
abbrev stDeferred : Nat := 0x01
abbrev stNotFound : Nat := 0x10
abbrev stExists : Nat := 0x11
abbrev stNoRoom : Nat := 0x12
abbrev stRehash : Nat := 0x13
abbrev stBadArg : Nat := 0x20
abbrev stDomain : Nat := 0x21
abbrev stState : Nat := 0x22
abbrev stHorizon : Nat := 0x23
abbrev stKeyReuse : Nat := 0x30
abbrev stCounter : Nat := 0x31
abbrev stAuthFail : Nat := 0x32
abbrev stRejected : Nat := 0x40
abbrev stAdmission : Nat := 0x41
abbrev stFormat : Nat := 0x50
abbrev stImageCheck : Nat := 0x51
abbrev stRetired : Nat := 0x60
abbrev stInternal : Nat := 0x7F

/-- The buffer a command's definition takes (R238, R239). -/
inductive BufSpec where
  /-- no buffer -/
  | none
  /-- an input whose length satisfies the predicate -/
  | inp (len : Nat → Bool)
  /-- an input, or none with BUF_LEN 0 -/
  | inpOpt (len : Nat → Bool)
  /-- an output of this many bytes -/
  | out (need : Desc → Nat)

/-- What R238 to R260 need to know of a command's definition. -/
structure CmdInfo where
  op : Nat
  /-- a deferred change under R46 -/
  defer : Bool := false
  /-- a query (R246) -/
  query : Bool := false
  /-- a transmission, not executed again at replay (R246, R265) -/
  tx : Bool := false
  buf : BufSpec := .none
  /-- every reserved bit of the parameters is zero and every value is in range -/
  args : Desc → Bool := fun _ => true

/-- Family of an opcode (R31). -/
def famOf (op : Nat) : Nat := op / 256

/-- Families executed by firmware (R31). -/
def isFw (op : Nat) : Bool := [0x02, 0x07, 0x08, 0x09, 0x0A, 0x0C, 0x0E].contains (famOf op)

/-- Commands that only domain 0 may issue (R260). -/
def isDom0 (op : Nat) : Bool :=
  [0x01, 0x07, 0x08, 0x09, 0x0B, 0x0C, 0x0E].contains (famOf op) || op == 0x0D01 || op == 0x0D02

end Sys2Proof.Machine

namespace Sys2Proof

/-- The acting domain of a descriptor (R237). -/
def Desc.dom (c : Desc) : Nat := c.domain % 64

/-- FENCE and QUIET flags (R237). -/
def Desc.fence (c : Desc) : Bool := c.flags % 2 == 1
def Desc.quiet (c : Desc) : Bool := c.flags / 2 % 2 == 1

/-- A parameter as a number. -/
def Desc.n0 (c : Desc) : Nat := c.p0.toNat
def Desc.n1 (c : Desc) : Nat := c.p1.toNat
def Desc.n2 (c : Desc) : Nat := c.p2.toNat
def Desc.n3 (c : Desc) : Nat := c.p3.toNat
def Desc.n4 (c : Desc) : Nat := c.p4.toNat
def Desc.n5 (c : Desc) : Nat := c.p5.toNat

/-- Parameters from number `k` on are all zero. -/
def Desc.zeroFrom (c : Desc) (k : Nat) : Bool :=
  ([c.n0, c.n1, c.n2, c.n3, c.n4, c.n5].drop k).all (· == 0)

end Sys2Proof

namespace Sys2Proof.Machine

/-- The VF whose ring this is, 0 for a PF ring (R230). -/
def ringFn (r : Nat) : Nat := if r < 64 then 0 else (r - 64) / 15 + 1

/-- Ring of ring page j of function fn (R230). -/
def ringOf (fn j : Nat) : Nat := if fn = 0 then j else 64 + 15 * (fn - 1) + j

/-- Number of a VF ring within its function (R230). -/
def ringJ (r : Nat) : Nat := if r < 64 then r else (r - 64) % 15

/-- A domain's entry (R224). -/
def State.domE (s : State) (d : Nat) : Dom := s.doms.get {} d

/-- Store a domain; a change of its state is notified to its VF (R231). -/
def State.setDom (s : State) (d : Nat) (x : Dom) : State :=
  let t := { s with doms := s.doms.set {} d x }
  if d != 0 && (s.domE d).road != x.road then t.notice d 16 else t

/-- The SR-IOV capability of PF0 (R224): TotalVFs, First VF Offset and VF Stride. -/
abbrev totalVfs : Nat := 63
abbrev firstVfOffset : Nat := 1
abbrev vfStride : Nat := 1

/-- Function number of VF v, that of PF0 being 0 (R224). -/
def vfFn (v : Nat) : Nat := firstVfOffset + (v - 1) * vfStride

/-- State of a domain (R224): domain 0 always exists, and another one only while its VF is enabled. -/
def State.domRoad (s : State) (d : Nat) : RoadSt :=
  if d = 0 then .enabled else if s.host.numVfs < d then .disabled else (s.domE d).road

/-- A ring. -/
def State.ring (s : State) (r : Nat) : Ring := s.host.rings.get {} r

/-- Store a ring. -/
def State.setRing (s : State) (r : Nat) (x : Ring) : State :=
  { s with host := { s.host with rings := s.host.rings.set {} r x } }

/-- The journal entry of an acceptance number. -/
def State.jrnFind (s : State) (acc : Nat) : Option Jrn := s.host.jrn.find? (fun j => j.desc.acc == acc)

/-- Change the journal entry of an acceptance number. -/
def State.jrnMod (s : State) (acc : Nat) (f : Jrn → Jrn) : State :=
  { s with host := { s.host with jrn := s.host.jrn.map (fun j => if j.desc.acc = acc then f j else j) } }

/-- Place and length of the key in the input of a command of family 0x06 that carries one (R362, R365, R367). -/
def keyField (c : Desc) : Option (Nat × Nat) :=
  match c.opcode with
  | 0x0603 => some (0, 16)
  | 0x0606 => some (0x20, 32)
  | _ => none

/-- The bytes that memory holds of a wrapped key (R365). -/
def WrappedKey.bytes (k : WrappedKey) : List Nat := Config.wrap k.plain

/-- Bytes o on of a list replaced. -/
def putBytes (l : List Nat) (o : Nat) (bs : List Nat) : List Nat := l.take o ++ bs ++ l.drop (o + bs.length)

/-- The journal entry of a command (R247): its key field is wrapped before it is written (R365). -/
def Jrn.of (c : Desc) : Jrn :=
  match keyField c with
  | none => { desc := c }
  | some (o, n) =>
    if c.inp.length < o + n then { desc := c }
    else
      let k : WrappedKey := ⟨sliceB c.inp o n⟩
      { desc := { c with inp := putBytes c.inp o (padTo n k.bytes) }, key := some k }

/-- The command of a journal entry, its key taken out of the wrapped field (R365). -/
def Jrn.cmd (j : Jrn) : Desc :=
  match keyField j.desc, j.key with
  | some (o, _), some k => { j.desc with inp := putBytes j.desc.inp o k.plain }
  | _, _ => j.desc

/-- Insert a journal entry in acceptance order. -/
def jrnInsert (l : List Jrn) (j : Jrn) : List Jrn :=
  match l with
  | [] => [j]
  | a :: r => if a.desc.acc < j.desc.acc then a :: jrnInsert r j else j :: a :: r

/-- The entry of an executing command: marked started, made first if the journal lists none. -/
def State.jrnStart (s : State) (c : Desc) : State :=
  match s.jrnFind c.acc with
  | some _ =>
    let t := s.jrnMod c.acc (fun j => { j with started := true })
    { t with host := { t.host with rrRing := c.ring } }
  | none =>
    { s with host := { s.host with
        jrn := jrnInsert s.host.jrn { Jrn.of c with started := true }
        acceptNum := max s.host.acceptNum c.acc
        rrRing := c.ring } }

/-- Commands in execution contexts (R257, R272). -/
def State.executing (s : State) : Nat := (s.host.jrn.filter (fun j => j.started)).length

/-- Those of them that hardware executes (R31, R32). -/
def State.executingHw (s : State) : Nat := (s.host.jrn.filter (fun j => j.started && !isFw j.desc.opcode)).length

/-- The earliest effective milestone (R45). In an interval that a step or the start of the generator cut into
(R379), no snapshot and no commit point is still to come. -/
def State.earliest (s : State) : Nat :=
  if s.clk.cycle < 4000 && s.clk.phase == .afterMilestone then s.clk.msc + 1 else s.clk.msc + 2

/-- The earliest milestone at hub cycle t of interval c (R45). -/
def earliestAt (c t : Nat) : Nat := if t < 4000 then c + 1 else c + 2

/-- The earliest milestone of a command, a decision or a hint (R45, R399): on the ACTIVE device of a PAIRED pair, that at
the hub cycle at which the STANDBY device acknowledges the record, which comes within the 500 µs of R250. -/
def State.earliestAck (s : State) : Nat :=
  if s.mgmt.pair.role == .active && s.mgmt.pair.st == .paired then
    let t := s.clk.cycle + Config.ackDelay s.clk.hubc % 1000000
    max s.earliest (earliestAt (s.clk.msc + t / 250000) (t % 250000))
  else s.earliest

/-- The committed horizon (R43). -/
def State.horizon (s : State) : Nat :=
  if s.clk.cycle < 232000 && s.clk.phase != .afterDelivery then s.clk.msc else s.clk.msc + 1

/-- Ordering key of a command for R254 and R256. -/
def okeyOf (c : Desc) : Option (Nat × Nat × Nat) :=
  if c.keyClass = 0 then none else some (c.ring, c.keyClass, c.keyIndex)

/-- The latest E of a pending deferred change ordered before the command (R256). -/
def State.priorE (s : State) (c : Desc) : Nat :=
  (s.deferred.filter (fun p => p.okey.isSome && p.okey == okeyOf c)).foldl (fun m p => max m p.e) 0

/-- The effective milestone of a command (R45, R256), or the status it completes with. At replay it is the
recorded one (R265). -/
def State.resolveE (s : State) (rp : Option ExecRec) (c : Desc) : Except Nat Nat :=
  match rp with
  | some r => .ok r.e
  | none =>
    let e0 := s.earliestAck
    if c.effect = 0 then .ok (max e0 (s.priorE c))
    else if c.effect < e0 then .error stHorizon
    else if c.effect > e0 + 16777215 then .error stBadArg
    else .ok (max c.effect (s.priorE c))

/-- Lists of numbers in dictionary order. -/
def lexLt (a b : List Nat) : Bool :=
  match a, b with
  | x :: r, y :: q => decide (x < y) || (x == y && lexLt r q)
  | _, _ => false

/-- Order of deferred changes: by milestone, then in the order of R47: by acceptance number, the device's own changes
after the command of that number, by the moment of their decision, their kind and their object. -/
def Pend.before (a b : Pend) : Bool :=
  lexLt [a.e, a.acc, min 1 a.dev, a.moment, a.dev, a.idx] [b.e, b.acc, min 1 b.dev, b.moment, b.dev, b.idx]

/-- Insert a deferred change after those ordered before it. -/
def pendInsert (l : List Pend) (p : Pend) : List Pend :=
  match l with
  | [] => [p]
  | a :: r => if p.before a then p :: a :: r else a :: pendInsert r p

/-- Whether another deferred change has room (R47). -/
def State.pendRoom (s : State) : Bool := s.deferred.length < 65536

/-- Whether n further deferred changes have room (R47). -/
def State.pendFits (s : State) (n : Nat) : Bool := s.deferred.length + n ≤ 65536

/-- Add a deferred change of a command. -/
def State.defer (s : State) (c : Desc) (e : Nat) (x : Change) : State :=
  { s with deferred := pendInsert s.deferred ⟨e, c.acc, 0, 0, 0, okeyOf c, x⟩ }

/-- The device is the ACTIVE one of a pair that is joined or being joined: it sends its decisions (R398). -/
def State.tells (s : State) : Bool :=
  s.mgmt.pair.role == .active && (s.mgmt.pair.st == .paired || s.mgmt.pair.st == .joining)

/-- A decision record goes to the STANDBY device (R396, R398): code 3 of `Out.link`. -/
def State.tell (s : State) (words : List Nat) : State := if s.tells then s.emit (.link 3 words) else s

/-- The decision record of a change that the device decides itself (R46, R398): its kind, its object, then E, the
acceptance number and the moment. -/
def Change.record (x : Change) (at' : List Nat) : List Nat :=
  match x with
  | .termLoss sc t => [2, sc, t] ++ at'
  | .rerange sc t => [3, sc, t] ++ at'
  | .demote sc t reason => [4, sc, t, reason] ++ at'
  | .rogueStop sc t => [5, sc, t] ++ at'
  | .coreDetour g spare => [6, g, spare] ++ at'
  | .chDetour sc kind spare => [7, sc, kind, spare] ++ at'
  | _ => []

/-- Add a deferred change the device decides itself at its earliest milestone (R46, R47), and tell the STANDBY device
(R398); `kind` is the place of its kind in R46. The answer gives E. -/
def State.deferDev (s : State) (kind idx : Nat) (x : Change) : Nat × State :=
  let e := s.earliestAck
  (e, ({ s with deferred := pendInsert s.deferred ⟨e, s.host.acceptNum, 1 + kind, idx, s.clk.hubc, none, x⟩ }).tell
    (x.record [e, s.host.acceptNum, s.clk.hubc]))

/-- How a command ends: status, results, and the milestone it reports if it is not the current one (R240). -/
structure Fin where
  status : Nat
  r0 : Nat := 0
  r1 : Nat := 0
  msc : Option Nat := none
  deriving DecidableEq, Repr

/-- What the body of a command answers. -/
inductive Res where
  /-- completed -/
  | fin (f : Fin)
  /-- executing: it completes at a later step -/
  | opened
  /-- not started; nothing has changed -/
  | wait
  deriving DecidableEq, Repr

/-- The body of a command: the recorded execution at replay (R265), the descriptor, the state. -/
abbrev Body : Type := Option ExecRec → Desc → State → Res × State

/-- Complete with a status and no effect (R258). -/
def bad (st : Nat) (s : State) : Res × State := (.fin { status := st }, s)

/-- Complete with OK. -/
def ok (s : State) : Res × State := (.fin { status := stOk }, s)

/-- Complete with OK and a result. -/
def okR (r0 r1 : Nat) (s : State) : Res × State := (.fin { status := stOk, r0 := r0, r1 := r1 }, s)

/-- Complete with DEFERRED, giving E. -/
def deferred (e : Nat) (s : State) : Res × State := (.fin { status := stDeferred, msc := some e }, s)

/-- Whole range of a host buffer within one registered window of the domain (R337, R338). Domain 0 with no
window accepts every address. -/
def State.inWindow (s : State) (d addr len : Nat) : Bool :=
  let ws := (s.domE d).windows
  (d == 0 && ws.isEmpty) || ws.any (fun w => decide (w.2.1 ≤ addr ∧ addr + len ≤ w.2.1 + w.2.2))

/-- The check of a descriptor buffer (R338). -/
def State.bufCheck (s : State) (d addr len : Nat) : Bool :=
  addr % 8 == 0 && len != 0 && s.inWindow d addr len

/-- Descriptor errors (R238, R254): step 1 of R258. -/
def CmdInfo.descErr (i : CmdInfo) (c : Desc) : Bool :=
  decide (4 ≤ c.flags) || decide (64 ≤ c.domain) || decide (0x0C ≤ c.keyClass) ||
  decide (2 ^ 24 ≤ c.keyIndex) ||
  (decide (64 ≤ c.ring) && c.domain != ringFn c.ring) ||
  (!i.defer && c.effect != 0) ||
  (c.bufLen == 0 && c.buf != 0) ||
  (match i.buf with
   | .none => c.bufLen != 0
   | _ => false) ||
  !i.args c

/-- The status of the first failing check of steps 1 and 2 of R258, if one fails, and the state with a failed
buffer check counted (R338). -/
def CmdInfo.check (i : CmdInfo) (c : Desc) (s : State) : Option Nat × State :=
  if i.descErr c then (some stBadArg, s)
  else if isDom0 i.op && c.dom != 0 then (some stDomain, s)
  else if !i.query && s.domRoad c.dom != .enabled then (some stState, s)
  else if s.mgmt.pair.role == .standby && !i.query && famOf i.op != 0x0C then (some stState, s)
  else
    match i.buf with
    | .none => (none, s)
    | .inp len =>
      if c.bufLen = 0 then (some stBadArg, s.add64 (bpmA 0x128) 1)
      else if c.inpBad || !len c.bufLen then (some stBadArg, s) else (none, s)
    | .inpOpt len =>
      if c.bufLen = 0 then (none, s)
      else if c.inpBad || !len c.bufLen then (some stBadArg, s) else (none, s)
    | .out need =>
      if s.bufCheck c.dom c.buf c.bufLen && decide (need c ≤ c.bufLen) then (none, s)
      else (some stBadArg, s.add64 (bpmA 0x128) 1)

/-- A firmware activation pause is in progress (R32, R454). -/
def State.paused (s : State) : Bool := s.bit (mgtA 0x0) 0

/-- No management core runs or stands by (R415, class 7). -/
def State.mgmtLost (s : State) : Bool := s.fld (mgtA 0x0) 11 4 == 0

/-- A waypoint capture holds commands back (R462). -/
def State.capturing (s : State) : Bool :=
  match s.mgmt.cap with
  | .waiting => true
  | _ => false

/-- Completions posted and not consumed reach the size of the ring's array (R234, R257), by the signed difference of
R8. -/
def State.cplFull (s : State) (r : Nat) : Bool :=
  let x := s.ring r
  decide (((2 ^ x.log2 : Nat) : Int) ≤ (x.cplTail - x.cplHead).toInt)

/-- Opcodes of queries (R246). -/
def isQuery (op : Nat) : Bool :=
  [0x020A, 0x020B, 0x020C, 0x0306, 0x0404, 0x0504, 0x0505, 0x0609, 0x0704, 0x0705, 0x0804, 0x0909, 0x0A03, 0x0A06, 0x0B05,
   0x0C09, 0x0D0A, 0x0E04].contains op

/-- An earlier command of its ring holds a command back: FENCE, or one KEY (R254, R255). -/
def State.ordered (s : State) (c : Desc) : Bool :=
  s.host.jrn.any (fun j => j.exec.isNone && decide (j.desc.acc < c.acc) && j.desc.ring == c.ring &&
    (c.fence || (c.keyClass != 0 && j.desc.keyClass == c.keyClass && j.desc.keyIndex == c.keyIndex)))

/-- A command is not ready: it waits for an earlier one, for room in its completion array, for the end of a pause or for a
capture (R32, R254, R255, R257, R415, R462). -/
def State.notReady (s : State) (c : Desc) : Bool :=
  s.ordered c || (isFw c.opcode && (s.paused || s.mgmtLost)) ||
  (s.capturing && !isQuery c.opcode && famOf c.opcode != 0x09) || s.cplFull c.ring

/-- Ready commands of the journal that hold no context. -/
def State.readyCmds (s : State) : List Desc :=
  (s.host.jrn.filter (fun j => !j.started && j.exec.isNone && !s.notReady j.desc)).map (fun j => j.desc)

/-- Contexts that a command may take (R257): the 4,096 of the device; hardware never waits on firmware, so that a command
of hardware only counts its own kind (R32). -/
def State.freeContexts (s : State) (c : Desc) : Nat := 4096 - (if isFw c.opcode then s.executing else s.executingHw)

/-- Rings in the order of the round-robin after the ring that was given the latest context (R257). -/
def ringTurn (last r : Nat) : Nat := (r + 1024 - (last + 1) % 1024) % 1024

/-- A free context goes to another command first (R257): to an earlier ready one of the same ring, and to the ring whose
turn it is where there are fewer contexts than ready commands. -/
def State.outOfTurn (s : State) (c : Desc) : Bool :=
  let l := s.readyCmds
  l.any (fun d => d.ring == c.ring && decide (d.acc < c.acc)) ||
  (decide (s.freeContexts c < l.length) &&
    l.any (fun d => isFw d.opcode == isFw c.opcode && decide (ringTurn s.host.rrRing d.ring < ringTurn s.host.rrRing c.ring)))

/-- The command may not start yet: R254, R255, R257, R32, R415, R462. -/
def State.mustWait (s : State) (c : Desc) : Bool :=
  s.notReady c || s.outOfTurn c || s.freeContexts c == 0

/-- Waypoint in a slot: the slots' roles are exchanged at a confirmation (R477). -/
def State.wp (s : State) (w : Nat) : Option Waypoint := s.mgmt.wps.get none w

/-- The latest confirmed waypoint (R462). -/
def State.wpLast (s : State) : Option Waypoint := s.wp s.mgmt.wpLatest

/-- Journal entries that the latest confirmed waypoint lets go: executed, posted, and numbered at most its A
(R460). The tail stops at the first entry that stays. -/
def jrnDrop (a : Nat) (late : List Nat) (l : List Jrn) : List Jrn :=
  l.dropWhile (fun j => j.exec.isSome && j.posted && decide (j.desc.acc ≤ a) && !late.contains j.desc.acc)

/-- Advance the journal's tail (R460). -/
def State.jrnTrim (s : State) : State :=
  match s.wpLast with
  | none => s
  | some w => { s with host := { s.host with jrn := jrnDrop w.a w.late s.host.jrn } }

/-- Advance CDONE over the sequences that are done (R232). -/
def cdoneAdvance (fuel : Nat) (x : Ring) : Ring :=
  match fuel with
  | 0 => x
  | n + 1 =>
    if x.doneSeqs.contains x.cdone then
      cdoneAdvance n { x with doneSeqs := x.doneSeqs.filter (· != x.cdone), cdone := x.cdone + 1#32 }
    else x

/-- A completion of the ring has been posted or discarded (R232 CDONE). -/
def State.seqDone (s : State) (r : Nat) (seq : W32) : State :=
  let x := s.ring r
  let x := { x with doneSeqs := x.doneSeqs ++ [seq] }
  s.setRing r (cdoneAdvance x.doneSeqs.length x)

/-- Write the execution record of a command and hand its completion to its ring (R240, R264). -/
def State.finish (s : State) (acc : Nat) (f : Fin) : State :=
  match s.jrnFind acc with
  | none => s
  | some j =>
    if j.exec.isSome then s
    else
      let m := f.msc.getD s.clk.msc
      let s := s.jrnMod acc (fun j => { j with started := false, exec := some ⟨f.status, m, f.r0, f.r1⟩ })
      let s := if f.status = stInternal then s.add32 (cmdA 0x1C) 1 else s
      -- the execution record goes to the standby (R398)
      let s := if s.bit (cmdA 0x0) 3 then s.emit (.link 2 [acc, f.status, m, f.r0, f.r1]) else s
      let x := s.ring j.desc.ring
      if x.discard then
        ((s.jrnMod acc (fun j => { j with posted := true })).seqDone j.desc.ring j.desc.seq).jrnTrim
      else
        { s with host := { s.host with cpls := s.host.cpls ++
          [⟨j.desc.ring, j.desc.opcode, f.status, j.desc.seq, j.desc.cookie, m, f.r0, f.r1, j.desc.quiet,
            x.st == .restored || j.replayed, false, acc⟩] } }

/-- The checks of R258, then the command's own body. An execution that meets an upset again in its retry has no effect
and ends with INTERNAL. -/
def runChecked (i : CmdInfo) (b : Body) (rp : Option ExecRec) (c : Desc) (s : State) : Res × State :=
  if rp.isNone && 2 ≤ c.upsets then bad stInternal s
  else
    match i.check c s with
    | (some st, s) => bad st s
    | (none, s) => b rp c s

/-- Opcodes of the catalogue (R242 and the command tables of the later chapters). -/
def knownOp (op : Nat) : Bool :=
  let o := op % 256
  match op / 256 with
  | 0x01 => decide (1 ≤ o ∧ o ≤ 6)
  | 0x02 => decide (1 ≤ o ∧ o ≤ 15)
  | 0x03 => decide (1 ≤ o ∧ o ≤ 6)
  | 0x04 => decide (1 ≤ o ∧ o ≤ 6) || decide (0x10 ≤ o ∧ o ≤ 0x15)
  | 0x05 => decide (1 ≤ o ∧ o ≤ 11)
  | 0x06 => decide (1 ≤ o ∧ o ≤ 10)
  | 0x07 => decide (1 ≤ o ∧ o ≤ 5)
  | 0x08 => decide (1 ≤ o ∧ o ≤ 6)
  | 0x09 => decide (1 ≤ o ∧ o ≤ 9)
  | 0x0A => decide (1 ≤ o ∧ o ≤ 7)
  | 0x0B => decide (1 ≤ o ∧ o ≤ 5)
  | 0x0C => decide (1 ≤ o ∧ o ≤ 9)
  | 0x0D => decide (1 ≤ o ∧ o ≤ 10)
  | 0x0E => decide (1 ≤ o ∧ o ≤ 4)
  | _ => false

/-- Commands of ring r with an unknown opcode end with BAD_ARG as soon as nothing orders them after an earlier one (R238,
R254, R255). -/
def State.endUnknown (s : State) (r : Nat) : State :=
  (s.host.jrn.filter (fun j => j.desc.ring == r && j.exec.isNone && !knownOp j.desc.opcode)).foldl (fun s j =>
    if s.ordered j.desc || s.cplFull r then s else s.finish j.desc.acc { status := stBadArg }) s

/-- Complete a command: its record, its completion, and the commands of its ring with an unknown opcode that waited for
it (R240, R254, R255, R264). -/
def State.complete (s : State) (acc : Nat) (f : Fin) : State :=
  match s.jrnFind acc with
  | none => s
  | some j => (s.finish acc f).endUnknown j.desc.ring

/-- Commands execute: from the replay of the journal on (R265, R521). -/
def State.serving (s : State) : Bool :=
  decide (5 ≤ s.stage ∧ s.stage < 7) || (s.stage == 4 && s.mgmt.pwr.stageDone)

/-- The journal says that a command executes or has been executed (R264), or the latest confirmed waypoint has let
its entry go (R460). -/
def State.jrnDone (s : State) (c : Desc) : Bool :=
  match s.jrnFind c.acc with
  | some j => j.started || j.exec.isSome
  | none =>
    match s.wpLast with
    | some w => c.acc != 0 && decide (c.acc ≤ w.a)
    | none => false

/-- Execute a host command (R254 to R258, R264). A command that may not start yet, or has already been
executed, changes nothing. -/
def runCmd (i : CmdInfo) (b : Body) (c : Desc) (s : State) : State :=
  if !s.serving then s
  else if s.jrnDone c then s
  else if s.mustWait c then s
  else
    match runChecked i b none c (s.jrnStart c) with
    | (.wait, _) => s
    | (.opened, t) => t
    | (.fin f, t) => t.complete c.acc f

/-- Write an output buffer (R239). -/
def State.outBuf (s : State) (c : Desc) (bytes : List Nat) : State := s.emit (.hostWrite c.buf bytes)

/-- The two parameters of a 64-bit value, low word first. -/
def pair64 (lo hi : W32) : Nat := hi.toNat * 2 ^ 32 + lo.toNat

end Sys2Proof.Machine
end

