-- ==== Sys2Proof/Machine/Rings.lean ====
section
/-! DEFINITION. Rings, acceptance, completions, the event queue and vectors (R229 to R236, R247 to R251,
R257, R263, R266, R268, R269), and function-level reset. -/

namespace Sys2Proof.Machine

/-- A ring enters FAULTED and stops fetching (R235). -/
def State.faultRing (s : State) (r cause : Nat) : State :=
  let x := s.ring r
  let s := s.setRing r { x with st := .faulted, cause := cause, lateGroup := false }
  if ringFn r = 0 then s.raise evRingFault (r + cause * 2 ^ 24) else s.notice (ringFn r) (ringJ r)

/-- Discard every completion of a ring: CDONE advances over it and it is never written (R235, R263). -/
def State.discardCpls (s : State) (r : Nat) : State :=
  let mine := s.host.cpls.filter (fun c => c.ring == r && !c.receive)
  let s := { s with host := { s.host with cpls := s.host.cpls.filter (fun c => c.ring != r) } }
  (mine.foldl (fun s c => (s.jrnMod c.acc (fun j => { j with posted := true })).seqDone r c.seq) s).jrnTrim

/-- A write of TAIL (R233, R235). -/
def State.writeTail (s : State) (r : Nat) (v : W32) : State :=
  let x := s.ring r
  let s1 := s.setRing r { x with tail := v }
  if x.st == .running && decide (2 ^ x.log2 < (v - x.dhead).toNat) then s1.faultRing r 2 else s1

/-- A write of CPL_HEAD (R234, R235). -/
def State.writeCplHead (s : State) (r : Nat) (v : W32) : State :=
  let x := s.ring r
  let s1 := s.setRing r { x with cplHead := v }
  if (x.st == .running || x.st == .stopping) && decide (2 ^ x.log2 < (x.cplTail - v).toNat) then
    s1.faultRing r 5
  else s1.endUnknown r

/-- The ring runs from START_SEQ (R236). -/
def Ring.start (x : Ring) : Ring :=
  { x with enable := true, st := .running, cause := 0, dhead := x.startSeq, cdone := x.startSeq,
           tail := x.startSeq, cplHead := 0, cplTail := 0, heldEnable := false, discard := false,
           doneSeqs := [], lateGroup := false }

/-- A write of 1 to RING_CFG.ENABLE (R230, R236, R266, R522). -/
def State.ringEnable (s : State) (r : Nat) : State :=
  let x := s.ring r
  if s.stage != 6 || decide (1009 ≤ r) then s
  else if ringFn r != 0 && decide ((s.domE (ringFn r)).quota.rings ≤ ringJ r) then s
  else
    match x.st with
    | .disabled => s.setRing r x.start
    | .stopping => s.setRing r { x with heldEnable := true, enable := true }
    | .restored =>
      s.setRing r { x with enable := true, st := .running, tail := x.dhead, cplHead := 0, cplTail := 0,
                           discard := false }
    | .running => s
    | .faulted => s

/-- A write of 0 to RING_CFG.ENABLE (R236). -/
def State.ringDisable (s : State) (r : Nat) : State :=
  let x := s.ring r
  match x.st with
  | .running => s.setRing r { x with enable := false, st := .stopping, lateGroup := x.tail != x.dhead }
  | .faulted => s.setRing r { x with enable := false, st := .stopping }
  | .stopping => s.setRing r { x with enable := false, heldEnable := false }
  | .disabled => s
  | .restored => s

/-- The stop of a ring ends when CDONE equals DHEAD (R236). -/
def State.ringStopDone (s : State) (r : Nat) : State :=
  let x := s.ring r
  if x.st == .stopping && x.cdone == x.dhead then
    let s := { s with host := { s.host with cpls := s.host.cpls.filter (fun c => c.ring != r) } }
    if x.heldEnable then s.setRing r x.start
    else s.setRing r { x with st := .disabled, cause := 0, discard := false, lateGroup := false }
  else s

/-- Journal blocks of a command record with its execution record, if there is one (R459). -/
def Jrn.blocks (j : Jrn) : Nat := 2 + (j.desc.inp.length + 63) / 64 + (if j.exec.isSome then 1 else 0)

/-- Journal blocks in use (R486). -/
def State.jrnBlocks (s : State) : Nat :=
  s.host.jrn.foldl (fun n j => n + j.blocks) s.host.jrnExtra

/-- Opcodes whose definition has an input buffer copied at acceptance (R239). UPD_PIECE is read when it
executes (R472). -/
def inputOp (op : Nat) : Bool :=
  [0x0104, 0x0201, 0x020D, 0x020E, 0x0301, 0x0303, 0x0401, 0x0403, 0x0410, 0x0411, 0x0414, 0x0502, 0x0603,
   0x0606, 0x0701, 0x0703, 0x0806, 0x0901, 0x0A05, 0x0A07, 0x0B04, 0x0C01, 0x0D06].contains op

/-- Copy a fetched descriptor's input into the entry, or mark it failed (R239, R338). -/
def State.copyInput (s : State) (c : Desc) : Desc × State :=
  if inputOp c.opcode && c.bufLen != 0 then
    if c.inpBad || !s.bufCheck c.dom c.buf c.bufLen then
      ({ c with inp := [], inpBad := true }, s.add64 (bpmA 0x128) 1)
    else if 131072 < c.bufLen then ({ c with inp := [], inpBad := true }, s)
    else ({ c with inp := padTo c.bufLen c.inp, inpBad := false }, s)
  else if c.opcode = 0x0902 then (c, s)
  else ({ c with inp := [], inpBad := false }, s)

/-- The input of a descriptor is copied into the journal (R239, R338). -/
def State.copies (s : State) (c : Desc) : Bool :=
  inputOp c.opcode && c.bufLen != 0 && !c.inpBad && s.bufCheck c.dom c.buf c.bufLen && decide (c.bufLen ≤ 131072)

/-- The descriptors of a fetched group up to the first whose SEQ differs, and whether one differs (R235). -/
def seqPrefix (seq : W32) (ds : List Desc) : List Desc × Bool :=
  match ds with
  | [] => ([], false)
  | d :: r =>
    if d.seq = seq then
      match seqPrefix (seq + 1#32) r with
      | (l, b) => (d :: l, b)
    else ([], true)

/-- Journal one descriptor of the group and advance DHEAD over it (R247). -/
def State.acceptOne (s : State) (r : Nat) (d : Desc) : State :=
  match s.copyInput { d with ring := r, acc := s.host.acceptNum + 1 } with
  | (c, s) =>
    let x := s.ring r
    let s := s.setRing r { x with dhead := x.dhead + 1#32 }
    let j := Jrn.of c
    let s := { s with
      host := { s.host with jrn := s.host.jrn ++ [j], acceptNum := s.host.acceptNum + 1 }
      mgmt := { s.mgmt with jrnSince := s.mgmt.jrnSince + 1, blkSince := s.mgmt.blkSince + j.blocks + 1 } }
    let s := if s.bit (cmdA 0x0) 3 then s.emit (.link 2 [c.acc, c.opcode]) else s
    if knownOp c.opcode then s else s.endUnknown r

/-- CMD_CNT k = 0 counts an interval with FULL set, once (R272). -/
def State.fullInterval (s : State) : State :=
  if s.clk.running && s.bit (cmdA 0x0) 2 && !s.host.once.contains (evJournalFull, 0) then
    ({ s with host := { s.host with once := s.host.once ++ [(evJournalFull, 0)] } }).add32 (cmdA 0x14) 1
  else s

/-- Acceptance of a fetched group (R233, R235, R236, R247, R249, R251): `err` says that the read of the
descriptor after these, or of its input, returned an error completion. -/
def State.acceptGroup (s : State) (r : Nat) (ds : List Desc) (err : Bool) : State :=
  let x := s.ring r
  let late := x.lateGroup && (x.st == .stopping || x.st == .running)
  let run := x.st == .running && !s.bit (pwrA 0xC) 0
  if !(run || late) then s
  else if !s.bit (cmdA 0x0) 0 && !s.bit (cmdA 0x0) 1 then s
  else
    let avail := (x.tail - x.dhead).toNat
    let grp := ds.take (min 64 avail)
    match seqPrefix x.dhead grp with
    | (good, mismatch) =>
      let need := good.foldl (fun n d => n + 3 + (if s.copies d then (d.bufLen + 63) / 64 else 0)) 0
      if 262144 < s.jrnBlocks + need then
        if s.bit (cmdA 0x0) 2 then s else ((s.setBit (cmdA 0x0) 2 true).raise evJournalFull 0).fullInterval
      else
        let s := s.setBit (cmdA 0x0) 2 false
        let s := good.foldl (fun s d => s.acceptOne r d) s
        let s := s.setRing r { s.ring r with lateGroup := false }
        if mismatch then s.faultRing r 1
        else if err then s.faultRing r 3
        else s

/-- Bytes of a completion record (R240, R241). -/
def Cpl.bytes (c : Cpl) (phase : Nat) : List Nat :=
  if c.receive then
    [0, 0, 0, phase + 2] ++ leBytes 4 c.seq.toNat ++ leBytes 8 c.cookie.toNat ++ leBytes 8 c.msc ++ leBytes 4 c.r0 ++ leBytes 4 c.r1
  else
    leBytes 2 c.opcode ++ [c.status, phase + (if c.replayed then 4 else 0)] ++ leBytes 4 c.seq.toNat
      ++ leBytes 8 c.cookie.toNat ++ leBytes 8 c.msc ++ leBytes 4 c.r0 ++ leBytes 4 c.r1

/-- Post the oldest waiting completion of a ring (R234, R235, R264, R269); `refused`: the link refuses the
write. -/
def State.postCpl (s : State) (r : Nat) (refused : Bool) : State :=
  let x := s.ring r
  if !(x.st == .running || x.st == .stopping || x.st == .faulted) || s.cplFull r then s
  else
    match s.host.cpls.find? (fun c => c.ring == r) with
    | none => s
    | some c =>
      if refused then
        let s := s.faultRing r 4
        (s.setRing r { s.ring r with discard := true }).discardCpls r
      else
        let s := { s with host := { s.host with cpls := s.host.cpls.erase c } }
        let s := if c.receive then s else s.jrnMod c.acc (fun j => { j with posted := true })
        let phase := 1 - x.cplTail.toNat / 2 ^ x.log2 % 2
        let s := s.emit (.hostWrite (x.cplBase.toNat / 4096 * 4096 + 32 * (x.cplTail.toNat % 2 ^ x.log2)) (c.bytes phase))
        let s := s.setRing r { s.ring r with cplTail := x.cplTail + 1#32 }
        let s := if c.receive then s else s.seqDone r c.seq
        let s := if c.receive then s else s.jrnTrim
        if x.irqEn && !c.quiet then s.signal (ringFn r) x.vector else s

/-- Queue a receive completion for a ring, if it has room (R241). The answer says whether it had. -/
def State.receiveCpl (s : State) (r : Nat) (wher : Nat) (buf len pool : Nat) : State :=
  { s with host := { s.host with cpls := s.host.cpls ++
    [⟨r, 0, 0, BitVec.ofNat 32 wher, BitVec.ofNat 64 buf, s.clk.msc, len, pool, false, false, true, 0⟩] } }

/-- A ring has room for a receive completion, beside those posted and those that wait to be posted (R234, R241). -/
def State.recvRoom (s : State) (r : Nat) : Bool :=
  let x := s.ring r
  x.st == .running && decide ((x.cplTail - x.cplHead).toInt + (s.host.cpls.filter (fun c => c.ring == r)).length < ((2 ^ x.log2 : Nat) : Int))

/-- EVQ_CFG.ENABLE changes from 0 to 1: the held records are written first (R268, R270). -/
def State.evqEnable (s : State) : State :=
  if s.bit (evcA 0x8) 31 then s
  else
    let s := ((s.setBit (evcA 0x8) 31 true).setReg (evcA 0xC) 0).setReg (evcA 0x10) 0
    let held := s.host.held
    let s := { s with host := { s.host with held := [] } }
    held.foldl (fun s e =>
      match s.evqWrite e with
      | (true, s) => s.evSignal e.src
      | (false, s) => s) s

/-- MIN_GAP of a vector has ended: the waiting signal is sent once (R269). -/
def State.vectorSignal (s : State) (fn v : Nat) : State :=
  let x := s.vec fn v
  if x.waiting && decide (x.last.getD 0 + s.minGap fn v ≤ s.clk.hubc) then
    if x.masked then s.setVec fn v { x with waiting := false, pba := true } else s.sendVec fn v
  else s

/-- The mask bit of a vector is cleared: a pending signal is sent (R269). -/
def State.vectorUnmask (s : State) (fn v : Nat) : State :=
  let x := s.vec fn v
  let s1 := s.setVec fn v { x with masked := false, pba := false }
  if x.pba then s1.signal fn v else s1

/-- Reset the registers of a ring page other than DHEAD and CDONE; accepted commands finish and their
completions are discarded (R263). -/
def State.resetRing (s : State) (r : Nat) : State :=
  let x := s.ring r
  let x1 : Ring := { dhead := x.dhead, cdone := x.cdone, doneSeqs := x.doneSeqs }
  match x.st with
  | .disabled => s.setRing r { x1 with st := .disabled }
  | _ => (s.setRing r { x1 with st := .stopping, discard := true }).discardCpls r

/-- Rings of a function (R230). -/
def fnRings (fn : Nat) : List Nat :=
  if fn = 0 then List.range 64 else (List.range 15).map (fun j => ringOf fn j)

/-- The rings of a function that hold something other than their reset state. -/
def State.usedRings (s : State) (fn : Nat) : List Nat :=
  (fnRings fn).filter (fun r => (s.host.rings.find r).isSome)

/-- Function-level reset of VF v (R263): its registers, rings and vectors. -/
def State.flr (s : State) (v : Nat) : State :=
  let s := { s with
    regs := s.regs.keep (fun a => decide (a < vfBase + v * 0x1_0000 ∨ vfBase + (v + 1) * 0x1_0000 ≤ a))
    host := { s.host with vecs := s.host.vecs.keep (fun k => k / 512 != v) } }
  (s.usedRings v).foldl (fun s r => s.resetRing r) s

/-- Functions whose link is down behave as after a function-level reset; the event queue is disabled (R523). -/
def State.linkDown (s : State) : State :=
  let s := (List.range 63).foldl (fun s v => s.flr (v + 1)) s
  let s := { s with host := { s.host with vecs := [], numVfs := 0 } }
  let s := (s.usedRings 0).foldl (fun s r => s.resetRing r) s
  s.setBit (evcA 0x8) 31 false

/-- After deassertion of PERST#: a ring that still holds accepted commands past CDONE is RESTORED, every
other ring is DISABLED (R523). -/
def State.relink (s : State) : State :=
  { s with host := { s.host with rings := s.host.rings.mapAll (fun _ => {}) (fun _ x =>
    if x.cdone = x.dhead then { x with st := .disabled, discard := false, heldEnable := false }
    else { x with st := .restored, discard := false, heldEnable := false }) } }

/-! Meanings. -/

/-- TAIL (R233, R235). -/
def execTail (r : Nat) (v : W32) (s : State) : Answer := kept s ((s.unlatch (ringA r)).writeTail r v)

/-- DESCRIPTOR_ACCEPTANCE (R247). -/
def execDescriptorAcceptance (r : Nat) (ds : List Desc) (err : Bool) (s : State) : Answer :=
  kept s (s.acceptGroup r ds err)

/-- ACCEPT_UNPAIRED (R250): no acknowledgement within 500 µs; acceptance goes on without the standby. -/
def execAcceptUnpaired (s : State) : Answer :=
  kept s (if s.bit (cmdA 0x0) 3 then
    ((s.setBit (cmdA 0x0) 3 false).add32 (cmdA 0x18) 1).raise evAcceptUnpaired 0
  else s)

/-- COMPLETION_POST (R234). -/
def execCompletionPost (r : Nat) (refused : Bool) (s : State) : Answer := kept s (s.postCpl r refused)

/-- RING_ENABLE (R236). -/
def execRingEnable (r : Nat) (s : State) : Answer := kept s ((s.unlatch (ringA r)).ringEnable r)

/-- RING_DISABLE (R236). -/
def execRingDisable (r : Nat) (s : State) : Answer := kept s ((s.unlatch (ringA r)).ringDisable r)

/-- RING_STOP_DONE (R236). -/
def execRingStopDone (r : Nat) (s : State) : Answer := kept s (s.ringStopDone r)

/-- CPL_HEAD (R234, R235). -/
def execCplHead (r : Nat) (v : W32) (s : State) : Answer := kept s ((s.unlatch (ringA r)).writeCplHead r v)

/-- EVQ_ENABLE (R268, R270, R522). -/
def execEvqEnable (s : State) : Answer :=
  kept s (if s.stage < 3 || s.stage == 7 then s.unlatch (evcA 0x8) else (s.unlatch (evcA 0x8)).evqEnable)

/-- VECTOR_SIGNAL (R269). -/
def execVectorSignal (fn v : Nat) (s : State) : Answer := kept s (s.vectorSignal fn v)

/-- VECTOR_UNMASK (R269). -/
def execVectorUnmask (fn v : Nat) (s : State) : Answer := kept s ((s.unlatch (msixA fn v)).vectorUnmask fn v)

/-- FUNCTION_LEVEL_RESET (R263): of a VF; the PF does not advertise it (R224). -/
def execFunctionLevelReset (v : Nat) (s : State) : Answer :=
  kept s (if 1 ≤ v ∧ v ≤ s.host.numVfs then s.flr v else s)

/-- PERST (R517, R523). -/
def execPerst (s : State) : Answer :=
  kept s { s.linkDown with mgmt := { s.linkDown.mgmt with pwr := { s.linkDown.mgmt.pwr with perst := true } } }

/-- PERST_DEASSERTION (R522, R523). -/
def execPerstDeassertion (s : State) : Answer :=
  kept s (if s.mgmt.pwr.perst then
    { s.relink with mgmt := { s.relink.mgmt with pwr := { s.relink.mgmt.pwr with perst := false } } }
  else s)

end Sys2Proof.Machine
end

