-- ==== Sys2Proof/Machine/RegView.lean ====
section
/-! DEFINITION. What a register reads: the stored value, or the value computed from the rest of the state
where the register shows it (identity, live counts, states of objects). -/

namespace Sys2Proof.Machine

/-- Default preamble of profile p at an upstream rate, in bits (R83). -/
def defaultPre (rate p : Nat) : Nat :=
  let h := match p with
    | 0 => 8000
    | 1 => 4000
    | 2 => 1600
    | _ => 640
  match rate with
  | 0 => h / 4
  | 1 => h / 2
  | 2 => h
  | _ => h / 5

/-- Default profiles at an upstream rate (R83). -/
def defaultProfiles (rate : Nat) : List Profile :=
  (List.range 4).map (fun p =>
    { pre := defaultPre rate p, del := if p < 2 then 64 else 32, fec := true, prePat := 0xAAAAAAAA#32
      delPat := if p < 2 then 0xB2C50FA1D3E49C71#64 else 0x00000000B2C50FA1#64 })

/-- Default guard time and phase tolerance at an upstream rate, in bits (R83). -/
def defaultGuard (rate : Nat) : Nat :=
  match rate with
  | 0 => 320
  | 1 => 640
  | 2 => 1280
  | _ => 256
def defaultTol (rate : Nat) : Nat :=
  match rate with
  | 0 => 80
  | 1 => 160
  | 2 => 320
  | _ => 64

/-- A sub-channel at tree reset (R72, R83, R95): H is even, X odd. -/
def Sub.dflt (sc : Nat) : Sub :=
  let rate := if sc % 2 = 0 then 2 else 3
  { rate := rate, guardBits := defaultGuard rate, phaseTol := defaultTol rate, profiles := defaultProfiles rate
    engine := sc % 96, dsp := sc % 96 }

/-- A sub-channel. -/
def State.sub (s : State) (sc : Nat) : Sub := s.pon.subs.get (Sub.dflt sc) sc

/-- Store a sub-channel. -/
def State.setSub (s : State) (sc : Nat) (x : Sub) : State :=
  { s with pon := { s.pon with subs := s.pon.subs.set (Sub.dflt sc) sc x } }

/-- Change a sub-channel. -/
def State.modSub (s : State) (sc : Nat) (f : Sub → Sub) : State := s.setSub sc (f (s.sub sc))

/-- A terminal. -/
def State.term (s : State) (sc t : Nat) : Term := s.pon.terms.get {} (512 * sc + t)

/-- Store a terminal. -/
def State.setTerm (s : State) (sc t : Nat) (x : Term) : State :=
  { s with pon := { s.pon with terms := s.pon.terms.set {} (512 * sc + t) x } }

/-- Change a terminal. -/
def State.modTerm (s : State) (sc t : Nat) (f : Term → Term) : State := s.setTerm sc t (f (s.term sc t))

/-- A core. -/
def State.core (s : State) (g : Nat) : Core := s.grant.cores.get (Core.dflt g) g

/-- Store a core. -/
def State.setCore (s : State) (g : Nat) (x : Core) : State :=
  { s with grant := { s.grant with cores := s.grant.cores.set (Core.dflt g) g x } }

/-- A planning group. -/
def State.group (s : State) (q : Nat) : Group := s.grant.groups.get {} q

/-- Store a planning group. -/
def State.setGroup (s : State) (q : Nat) (x : Group) : State :=
  { s with grant := { s.grant with groups := s.grant.groups.set {} q x } }

/-- An allocation unit. -/
def State.unit (s : State) (u : Nat) : AUnit := s.grant.units.get {} u

/-- Store an allocation unit. -/
def State.setUnit (s : State) (u : Nat) (x : AUnit) : State :=
  { s with grant := { s.grant with units := s.grant.units.set {} u x } }

/-- A flow. -/
def State.flow (s : State) (f : Nat) : Flow := s.data.flows.get {} f

/-- Store a flow. -/
def State.setFlow (s : State) (f : Nat) (x : Flow) : State :=
  { s with data := { s.data with flows := s.data.flows.set {} f x } }

/-- An uplink port. -/
def State.uport (s : State) (u : Nat) : UPort := s.mgmt.uports.get {} u

/-- Store an uplink port. -/
def State.setUport (s : State) (u : Nat) (x : UPort) : State :=
  { s with mgmt := { s.mgmt with uports := s.mgmt.uports.set {} u x } }

/-- Spares of each class in a device as built: the units beyond those in service at a cold start (R21, R72,
R349, R415; two pseudo-channels of a stack, two management cores). -/
def builtSpare (cls u : Nat) : Bool :=
  match cls with
  | 0 => decide (96 ≤ u)
  | 1 => decide (96 ≤ u % 104)
  | 2 => decide (96 ≤ u % 104)
  | 3 => decide (336 ≤ u % 352)
  | 4 => decide (992 ≤ u % 1024)
  | 5 => decide (30 ≤ u % 32)
  | 7 => decide (2 ≤ u)
  | _ => false

/-- Health of a unit as built. -/
def Health.dflt (cls u : Nat) : Health := { st := if builtSpare cls u then .spare else .active }

/-- Health of a unit. -/
def State.health (s : State) (cls u : Nat) : Health := s.mgmt.units.get (Health.dflt cls u) (4096 * cls + u)

/-- Store the health of a unit. -/
def State.setHealth (s : State) (cls u : Nat) (x : Health) : State :=
  { s with mgmt := { s.mgmt with units := s.mgmt.units.set (Health.dflt cls u) (4096 * cls + u) x } }

/-- Units of a class in a given set of states. -/
def State.countUnits (s : State) (cls : Nat) (p : UnitSt → Bool) : Nat :=
  ((List.range (clsUnits cls)).filter (fun u => p (s.health cls u).st)).length

/-- A recorder record in SRAM. -/
def State.recd (s : State) (r : Nat) : Rec := s.mgmt.rcd.recs.get {} r

/-- 192 bytes of a record (R435); with both banks failed only the extremes are kept (R446). -/
def State.recBytes (s : State) (r : Nat) : List Nat :=
  let x := s.recd r
  let ext := !s.mgmt.rcd.bank0 && !s.mgmt.rcd.bank1
  leBytes 4 x.gen
    ++ leBytes 4 (b2n x.bound + 2 * b2n x.gap + 4 * b2n ext + 8 * b2n x.h.binSat + 16 * x.kind + 256 * x.dom + 16384 * b2n x.log)
    ++ leBytes 4 x.source ++ leBytes 4 x.width ++ leBytes 4 x.base ++ leBytes 4 x.h.overflow ++ leBytes 8 x.h.count
    ++ leBytes 4 x.h.min ++ leBytes 4 x.h.max ++ leBytes 8 x.h.minMsc ++ leBytes 8 x.h.maxMsc ++ leBytes 8 x.clearMsc
    ++ ((List.range 32).map (fun i => leBytes 4 (x.h.bins.get 0 i))).flatten

/-- Objects in DRAINING or RESUMING (R60). -/
def RoadSt.busy (r : RoadSt) : Bool := r == .draining || r == .resuming

/-- TREE_STATE.STATE of R71, from the states of the two sub-channels. -/
def treeRoad (h x : RoadSt) : RoadSt :=
  if h == .enabled || x == .enabled then .enabled
  else if h == .resuming || x == .resuming then .resuming
  else if h == .draining || x == .draining then .draining
  else .disabled

/-- Trees whose state of R71 reads DRAINING or RESUMING. -/
def State.busyTrees (s : State) : Nat :=
  ((List.range 192).filter (fun c => (treeRoad (s.sub (2 * c)).road (s.sub (2 * c + 1)).road).busy)).length

/-- MST.DRAIN_COUNT (R60, R67): objects in DRAINING or RESUMING. -/
def State.drainCount (s : State) : Nat :=
  s.pon.subs.countWhere (fun _ x => x.road.busy) + s.pon.terms.countWhere (fun _ x => x.road.busy)
    + s.grant.units.countWhere (fun _ x => x.road.busy) + s.data.flows.countWhere (fun _ x => x.road.busy)
    + s.doms.countWhere (fun _ x => x.road.busy) + s.busyTrees

/-- Views of GLB, EVC, MST, CMD, rings and VF pages. -/
def viewHost (s : State) (ra : RegAt) : Option Nat :=
  match ra.blk.blk, ra.reg.off with
  | .mst, 0x0 => some s.clk.msc
  | .mst, 0x8 => some s.clk.cycle
  | .mst, 0x10 => some (if s.clk.running then s.horizon else 0)
  | .mst, 0x18 => some (if s.clk.running then s.earliest else 0)
  | .mst, 0xA8 => some s.drainCount
  | .cmd, 0x8 => some s.host.acceptNum
  | .cmd, 0x10 => some s.executing
  | .cmd, 0x1000 =>
    some ((s.ring (ix0 ra.rix)).cdone.toNat * 2 ^ 32 + (s.ring (ix0 ra.rix)).dhead.toNat)
  | .vfPage, 0x0 => some (4 * (ix0 ra.bix + 1) + (s.domRoad (ix0 ra.bix + 1)).code)
  | _, _ => none

/-- The ring of a ring page. -/
def pageRing (ra : RegAt) : Nat :=
  match ra.blk.blk with
  | .ringPf => ix0 ra.bix
  | _ => ringOf (ix0 ra.bix + 1) (ix0 ra.bix.tail)

/-- View of a ring page (R232). -/
def viewRing (s : State) (ra : RegAt) : Option Nat :=
  let x := s.ring (pageRing ra)
  match ra.reg.off with
  | 0x0 => some x.descBase.toNat
  | 0x8 => some x.cplBase.toNat
  | 0x10 => some (b2n x.enable * 2 ^ 31 + x.vector * 2 ^ 16 + b2n x.irqEn * 2 ^ 8 + x.log2)
  | 0x14 => some (x.cause * 2 ^ 8 + x.st.code)
  | 0x18 => some x.tail.toNat
  | 0x1C => some x.dhead.toNat
  | 0x20 => some x.cdone.toNat
  | 0x24 => some x.cplHead.toNat
  | 0x28 => some x.cplTail.toNat
  | 0x2C => some (if x.st = .restored then x.dhead.toNat else x.startSeq.toNat)
  | 0x30 => some ((x.dhead - x.cdone).toNat % 2 ^ 17)
  | _ => none

/-- The tree pair that tree c belongs to: working tree and pair. -/
def State.pairOf (s : State) (c : Nat) : Option (Nat × TreePair) :=
  match s.mgmt.pair.trees.get none c with
  | some p => some (c, p)
  | none =>
    (s.mgmt.pair.trees.filterMap (fun e => match e.2 with
      | some p => if p.p = c then some (e.1, p) else none
      | none => none)).head?

/-- ALERT of R454 (R434). -/
def State.lrCrit (s : State) : Bool :=
  (List.range 16).any (fun i =>
    let v := (s.reg (mgtA (0x8000 + 16 * i))).toNat
    let cause := bitsOf v 23 16
    v % 2 == 1 && (cause == 2 || cause == 4 || cause == 5 || cause == 7 || (cause == 6 && bitsOf v 63 63 == 1)))

/-- A hotspot has lost both sensors (R434). -/
def State.sensorPairLost (s : State) : Bool :=
  (List.range 48).any (fun h =>
    let p := fun u => (s.health 10 u).st == .retired || (s.health 10 u).st == .lost
    p (2 * h) && p (2 * h + 1))

/-- MGT.ALERT (R434, R454). -/
def State.alert (s : State) : Nat :=
  b2n (!s.mgmt.rcd.bank0 && !s.mgmt.rcd.bank1) + 2 * b2n s.lrCrit + 4 * b2n s.sensorPairLost + 8 * b2n s.mgmt.pwr.bootFault

/-- Pieces received (R471). -/
def State.pieceBit (s : State) (p : Nat) : Bool := s.bit (updA (0x20 + 4 * (p / 32))) (p % 32)

/-- FW_VER, SVN and formats of the running image (R486, R487). -/
def State.runVer (s : State) : Nat := match s.mgmt.upd.run with
  | some m => m.fwVer
  | none => Config.imageVer
def State.runSvn (s : State) : Nat := match s.mgmt.upd.run with
  | some m => m.svn
  | none => Config.imageSvn
def State.runWpf (s : State) : Nat := match s.mgmt.upd.run with
  | some m => m.wpfWrite
  | none => Config.imageWpfWrite
def State.runWpfMin (s : State) : Nat := match s.mgmt.upd.run with
  | some m => m.wpfReadMin
  | none => Config.imageWpfReadMin

/-- Minimum SVN in OTP: as built, or as raised by a confirmation (R477). -/
def State.minSvn (s : State) : Nat := max (Config.otpMinSvn % 2 ^ 16) s.mgmt.pwr.minSvn

/-- UPD_STATE, PIECES and NEW_VER (R487). -/
def State.updState (s : State) : Nat :=
  s.fld (updA 0x0) 31 24 * 2 ^ 24 + s.fld (updA 0x0) 18 16 * 2 ^ 16 + s.mgmt.upd.st.code
def State.updPieces (s : State) : Nat :=
  ((List.range 512).filter (fun p => s.pieceBit p)).length * 2 ^ 16 + (match s.mgmt.upd.man with
    | some m => m.pieces
    | none => 0)
def State.newVer (s : State) : Nat := match s.mgmt.upd.man with
  | some m => m.fwVer
  | none => 0

/-- An SA of a port is enabled (R507 MACSEC). -/
def State.portSecured (s : State) (u : Nat) : Bool :=
  s.cph.sas.any (fun e => e.2.inst && e.2.port == u && e.2.st == 1)

/-- UNSYNC batches of the device (R401, R423). -/
def Pair.unsyncCount (p : Pair) : Nat :=
  match p.base with
  | none => p.unsync.countWhere (fun _ v => v != 0)
  | some _ => 135168 - p.unsync.countWhere (fun _ v => v == 0)

/-- Views of PRT, SPR, MGT, REC, WPT, UPD, UPL and PWR. -/
def viewMgmt (s : State) (ra : RegAt) : Option Nat :=
  let k := ix0 ra.rix
  let u := ix0 ra.bix
  match ra.blk.blk, ra.reg.off with
  | .prt, 0x4 =>
    let p := s.mgmt.pair
    some (p.st.code * 2 ^ 8 + b2n p.arbOk * 2 ^ 7 + b2n p.peerHb * 2 ^ 6
      + (p.lanes.toNat % 2 + p.lanes.toNat / 2) * 2 ^ 4 + p.role.code)
  | .prt, 0x14 =>
    some (if s.mgmt.pair.role = .standby then s.mgmt.pair.unsyncCount else 0)
  | .prt, 0x800 =>
    match s.pairOf k with
    | none => some 0
    | some (w, p) =>
      some (2 ^ 31 + b2n p.onProtect * 2 ^ 30 + b2n (p.p == k) * 2 ^ 29
        + b2n (s.mgmt.pair.unprot.get false (2 * k + 1)) * 2 ^ 9 + b2n (s.mgmt.pair.unprot.get false (2 * k)) * 2 ^ 8
        + (if p.p = k then w else p.p))
  | .spr, 0x0 => some (clsUnits k * 2 ^ 16 + s.countUnits k (fun x => x == .active || x == .retiring))
  | .spr, 0x4 =>
    some (s.countUnits k (fun x => x == .spare || x == .testing) * 2 ^ 16
      + s.countUnits k (fun x => x == .retired || x == .lost))
  | .mgt, 0x18 => some s.alert
  | .mgt, 0x2000 => some (leAt s.mgmt.mbx0.rsp (4 * k) 4)
  | .rcd, 0x0 =>
    let r := s.mgmt.rcd
    some (b2n (!r.bank0 && !r.bank1) * 2 ^ 31 + b2n r.bank1 * 2 ^ 30 + b2n r.bank0 * 2 ^ 29 + b2n r.mramOk * 2 ^ 28
      + r.recs.countWhere (fun _ x => x.bound))
  | .rcd, 0x20 => some s.mgmt.rcd.ledger.length
  | .rcd, 0x100 => some (leAt (s.recBytes (s.fld (rcdA 0x18) 11 0)) (4 * k) 4)
  | .wpt, 0x0 =>
    let cap := match s.mgmt.cap with
      | .idle => 0
      | .armed => 2 ^ 31
      | .waiting => 2 ^ 31
      | .writing _ _ _ => 2 ^ 30
    some (cap + b2n (!s.mgmt.returns.isEmpty) * 2 ^ 29 + b2n s.mgmt.pwr.held * 2 ^ 28
      + s.mgmt.wps.countWhere (fun _ w => match w with
          | some x => x.pinned
          | none => false) * 2 ^ 16
      + s.mgmt.wps.countWhere (fun _ w => w.isSome) * 2 ^ 12 + s.mgmt.wpLatest)
  | .wpt, 0x8 => some (match s.wpLast with
      | some w => w.ver
      | none => 0)
  | .wpt, 0x10 => some (match s.wpLast with
      | some w => w.a
      | none => 0)
  | .wpt, 0x18 => some s.jrnBlocks
  | .wpt, 0x20 => some (match s.wp k with
      | some w => w.ver
      | none => 0)
  | .wpt, 0x28 => some (match s.wp k with
      | some w => w.wpf % 2 ^ 16 * 2 ^ 48 + 2 ^ 47 + b2n w.pinned * 2 ^ 46 + b2n w.auto * 2 ^ 45
          + b2n (s.mgmt.conv.get none k).isSome * 2 ^ 44 + w.size % 2 ^ 17
      | none => 0)
  | .wpt, 0xB0 => some (s.runWpf % 2 ^ 16 * 2 ^ 16 + s.runWpfMin % 2 ^ 16)
  | .upd, 0x0 => some s.updState
  | .upd, 0x4 => some s.updPieces
  | .upd, 0x8 => some (s.runVer % 2 ^ 64)
  | .upd, 0x10 => some s.newVer
  | .upd, 0x18 => some (s.runSvn % 2 ^ 16 * 2 ^ 16 + s.minSvn % 2 ^ 16)
  | .upl, 0x0 =>
    match (s.uport u).cfg with
    | some (w, f, m) => some (2 ^ 31 + (if w = 1 then 0 else if w = 2 then 1 else if w = 4 then 2 else 3) * 2 ^ 16 + f * 2 ^ 15 + m)
    | none => some 0
  | .upl, 0x4 =>
    match (s.uport u).cfg with
    | some _ => some (b2n (s.uport u).link * 2 ^ 4 + b2n (s.portSecured u) * 2 ^ 3 + (s.uport u).road.code)
    | none => some 0
  | .upl, 0x10 => if (s.uport u).cfg.isSome then none else some 0
  | .pwr, 0x8 =>
    let p := s.mgmt.pwr
    some (s.fld (pwrA 0x8) 31 16 * 2 ^ 16 + b2n p.onBkp * 4 + b2n p.bkpOk * 2 + b2n p.mainOk)
  | .pwr, 0x10 =>
    let p := s.mgmt.pwr
    some (b2n p.testModeN * 16 + b2n p.resumeHold * 8 + p.smbAddr % 8)
  | _, _ => none

end Sys2Proof.Machine
end

