-- ==== Sys2Proof/Machine/Units.lean ====
section
/-! DEFINITION. Units, lanes and rows of the grant engines (R125 to R128, R137 to R141), grant units (R77) and
the counting of errors toward a fault threshold (R414). -/

namespace Sys2Proof.Machine

/-- Grant units per frame of a sub-channel at its upstream rate (R77). -/
def frameUnits (x : Sub) : Nat :=
  match x.rate with
  | 0 => 12150
  | 1 => 24300
  | 2 => 48600
  | _ => 38880

/-- Bits of one grant unit of sub-channel `sc` (R77): H 16 B, X 4 B. -/
def guBits (sc : Nat) : Nat := if sc % 2 = 0 then 128 else 32

/-- Key of lane k of batch b of planning group q. -/
def laneKey (q b k : Nat) : Nat := 8 * (1408 * q + b) + k

/-- Unit in lane k of batch b (R125, R126). -/
def State.laneUnit (s : State) (q b k : Nat) : Option Nat := s.grant.laneUnit.get none (laneKey q b k)

/-- A batch is bound to a row while it holds at least one unit (R125). -/
def State.isBound (s : State) (q b : Nat) : Bool := (List.range 8).any (fun k => (s.laneUnit q b k).isSome)

/-- Batches of a group bound to rows, in rising order (R125). -/
def State.boundBatches (s : State) (q : Nat) : List Nat :=
  (s.grant.laneUnit.filter (fun e => decide (e.1 / 8 / 1408 = q))).foldl
    (fun l e => if l.contains (e.1 / 8 % 1408) then l else l ++ [e.1 / 8 % 1408]) []

/-- A bound that holds when no milestone is set, or `r` lies before it. -/
def before (e : Option Nat) (r : Nat) : Bool := match e with
  | none => true
  | some x => decide (r < x)

/-- A milestone is set and `r` has reached it. -/
def reached (e : Option Nat) (r : Nat) : Bool := match e with
  | none => false
  | some x => decide (x ≤ r)

/-- An object on the road carries grants in roadbook `r` (R55, R59): ENABLED and not shut down by then, or
RESUMING from R on. -/
def grantedAt (road : RoadSt) (drainE resumeR : Option Nat) (r : Nat) : Bool :=
  match road with
  | .enabled => before drainE r
  | .resuming => reached resumeR r
  | .draining => false
  | .disabled => false

/-- A unit is planned for roadbook `r` (R127). -/
def AUnit.plannedAt (u : AUnit) (r : Nat) : Bool := u.inst && grantedAt u.road u.drainE u.resumeR r

/-- A mask from a test of each lane. -/
def mask8 (f : Nat → Bool) : BitVec 8 :=
  (List.range 8).foldl (fun m k => if f k then m ||| (1#8 <<< k) else m) 0#8

/-- Planned-lane mask of a batch for roadbook `r` (R127). -/
def State.plannedMask (s : State) (q b r : Nat) : BitVec 8 :=
  mask8 (fun k => match s.laneUnit q b k with
    | some u => (s.unit u).plannedAt r
    | none => false)

/-- A terminal is in OPERATION at roadbook `r` (R97, R101, R108, R128). -/
def Term.operAt (t : Term) (r : Nat) : Bool :=
  (t.act == .operation && before t.drainE r) || (t.act == .ranging && reached t.operE r && before t.deactE r)

/-- Hardware-owned words 0 to 3 of a unit's context (R128). -/
def State.hwWord (s : State) (u w : Nat) : W32 :=
  let x := s.unit u
  match w with
  | 0 => BitVec.ofNat 32 (x.alloc % 2 ^ 14 + 2 ^ 16 * (x.term % 512 + 512 * (x.sc % 2) + 1024 * (x.sc / 2 % 2)))
  | 1 =>
    let oper := (s.term x.sc x.term).operAt (s.clk.msc + 1)
    BitVec.ofNat 32 (x.dom % 64 + 2 ^ 8 * (x.road.code + 4 * b2n oper + 8 * b2n x.carried + 16 * b2n x.firstPlan)
      + 2 ^ 16 * (x.lastSize % 2 ^ 16))
  | 2 => BitVec.ofNat 32 (x.lastPf % 256 + 2 ^ 8 * (u % 2 ^ 20))
  | _ => BitVec.ofNat 32 (u % 2 ^ 20)

/-- Word w of lane k of a batch's row as the context SRAM holds it (R125, R128). -/
def State.rowWord (s : State) (q b k w : Nat) : W32 :=
  if w < 4 then
    match s.laneUnit q b k with
    | some u => s.hwWord u w
    | none => s.grant.ctxMem.get 0 (16 * laneKey q b k + w)
  else s.grant.ctxMem.get 0 (16 * laneKey q b k + w)

/-- Write a word of a row. -/
def State.setRowWord (s : State) (q b k w : Nat) (x : W32) : State :=
  { s with grant := { s.grant with ctxMem := s.grant.ctxMem.set 0 (16 * laneKey q b k + w) x } }

/-- Bytes 16 to 63 of a lane's context set to zero (R133, R197). -/
def State.zeroLane (s : State) (q b k : Nat) : State :=
  (List.range 12).foldl (fun s i => s.setRowWord q b k (4 + i) 0) s

/-- Milestone of the interval whose snapshot fixed the views in force (R139, R141). DESIGN CHOICE: an INSTALL or
RETIRE entry, which belongs to no plan, reads the views of the latest snapshot. -/
def State.viewMsc (s : State) : Nat := if s.clk.cycle < 4000 then s.clk.msc - 1 else s.clk.msc

/-- The word RPT returns for a report entry in the plan of interval m (R139). -/
def rptWord (e : Report) (m : Nat) : W32 :=
  if e.stamp = m % 32768 then
    BitVec.ofNat 32 (e.prev % 2 ^ 23 + 2 ^ 23 * b2n e.prevAdj + 2 ^ 24 * b2n e.prevValid)
  else
    BitVec.ofNat 32 (e.occ % 2 ^ 23 + 2 ^ 23 * b2n (e.stamp = (m + 32767) % 32768) + 2 ^ 24 * b2n e.valid)

/-- The word HNT returns for a hint entry in the plan of interval m (R141). -/
def hntWord (e : Hint) (m : Nat) : W32 :=
  BitVec.ofNat 32 (e.demand % 2 ^ 23 + 2 ^ 23 * (e.prio % 8)
    + 2 ^ 26 * b2n (e.valid && decide (e.target = (m + 1) % 65536)))

/-- Word w of entry i of the table bank the plan reads (R142). -/
def State.tableWord (s : State) (i w : Nat) : W32 :=
  if s.grant.tableBank = 0 then s.grant.table0.get 0 (8 * i + w) else s.grant.table1.get 0 (8 * i + w)

/-- One error toward the fault threshold of a unit (R414): the first one opens the window. -/
def State.countError (s : State) (cls u : Nat) : State :=
  let h := s.health cls u
  s.setHealth cls u { h with
    win := h.win + 1
    openMsc := some (h.openMsc.getD s.clk.msc)
    total := min (h.total + 1) 65535 }

/-- Planning group that plans tree c (R211), and the core that plans it now (R21). -/
def groupOf (c : Nat) : Nat := c / 2

/-- The core that plans group q, lowest number first. -/
def State.coreOf (s : State) (q : Nat) : Option Nat :=
  (List.range 104).find? (fun g => (s.core g).group == some q &&
    ((s.core g).st == .active || (s.core g).st == .retiring || (s.core g).st == .lost))

/-- GCR counter k (R157 CORE_CNT). -/
def State.gcrCount (s : State) (g k : Nat) : State := s.add32 (gcrA g (0x3C + 4 * k)) 1

/-! Die-to-die modules and their load (R23 to R26). -/

/-- A module of a die: 0 to 3 tree dies, 4 and 5 trunk dies. -/
def State.module (s : State) (die m : Nat) : Module := s.mgmt.mods.get {} (4 * die + m)

/-- Store a module. -/
def State.setModule (s : State) (die m : Nat) (x : Module) : State :=
  { s with mgmt := { s.mgmt with mods := s.mgmt.mods.set {} (4 * die + m) x } }

/-- A die has lost all its modules (R26). -/
def State.dieLost (s : State) (die : Nat) : Bool := (List.range 4).all (fun m => (s.module die m).lost)

/-- Redundant lanes of direction r that repair has used, and their use (R25). -/
def Module.repaired (x : Module) (r : Nat) : Nat := if r = 0 then x.repaired0 else x.repaired1
def Module.repair (x : Module) (r n : Nat) : Module :=
  if r = 0 then { x with repaired0 := x.repaired0 + n } else { x with repaired1 := x.repaired1 + n }

/-- Bytes that the data class of a die carries in one direction in an interval: 1.92 Tb/s for a module, 0.96 Tb/s at x32,
less the reservations of the scheduling and control classes (R23 to R26). -/
def State.d2dCap (s : State) (die : Nat) : Nat :=
  (List.range 4).foldl (fun n m =>
    let x := s.module die m
    n + (if x.lost then 0 else if x.half then 15000000 else 30000000)) 0 - (if die < 4 then 16875000 else 1250000)

/-- A data frame of n bytes crosses between a die and the hub with its 16-byte internal header: r 0 to the hub, 1 from the
hub. A frame that does not fit is dropped at the sending side's queue and counted (R26). -/
def State.d2dTake (s : State) (die r n : Nat) : Bool × State :=
  let k := 2 * die + r
  let x := s.mgmt.d2dLoad.get 0 k + n + 16
  if x ≤ s.d2dCap die then (true, { s with mgmt := { s.mgmt with d2dLoad := s.mgmt.d2dLoad.set 0 k x } })
  else (false, s.add64 (sprA (0x140 + 8 * k)) 1)

end Sys2Proof.Machine
end

