-- ==== Sys2Proof/Machine/Buffers.lean ====
section
/-! DEFINITION. Buffer pools (chapter 11, R328 to R348): free lists, client caches, reference counts, returns
and free violations, pseudo-channel errors, and operations 0x03 to 0x0A of family 0x0D. -/

namespace Sys2Proof.Machine

/-- Change the buffer manager. -/
def State.modBuf (s : State) (f : BufSt → BufSt) : State := { s with buf := f s.buf }

/-- Bytes of a size code of R346. -/
def sizeOfCode (c : Nat) : Nat :=
  match c with
  | 0 => 256
  | 1 => 512
  | 2 => 1024
  | 3 => 2048
  | 4 => 4096
  | _ => 10240

/-- A pool built over `gib` GiB of buffers of a size code (R328, R330). -/
def Pool.built (code gib : Nat) : Pool :=
  let n := gib * 2 ^ 30 / sizeOfCode code
  { units := sizeOfCode code / 64, base := n, size := n, free := n, minFree := n }

/-- Pools of the default layout (R328). -/
def Pool.dflt (p : Nat) : Pool :=
  match p with
  | 0 => Pool.built 0 16
  | 1 => Pool.built 2 24
  | 2 => Pool.built 3 32
  | _ => Pool.built 5 30

/-- A pool. -/
def State.pool (s : State) (p : Nat) : Pool := s.buf.pools.get (Pool.dflt p) p

/-- Store a pool. -/
def State.setPool (s : State) (p : Nat) (x : Pool) : State :=
  s.modBuf (fun b => { b with pools := b.pools.set (Pool.dflt p) p x })

/-- Counters of a pool and of the device (R348). -/
def State.poolCnt (s : State) (p k n : Nat) : State := s.add32 (bpmA (0x20 * p + 0x10 + 4 * k)) n
def State.bpmCnt (s : State) (k : Nat) : State := s.add64 (bpmA (0x100 + 8 * k)) 1

/-- Members of list j when n buffers lie on m lists in rotation (R330). -/
def listLen (n m j : Nat) : Nat := (n + m - 1 - j) / m

/-- Free list j, head first, as runs of places (R331). -/
def Pool.list (x : Pool) (m j : Nat) : List (Nat × Nat) :=
  match x.lists.get none j with
  | some l => l
  | none => if listLen x.base m j = 0 then [] else [(0, listLen x.base m j)]

/-- Buffers on a free list. -/
def runsLen (l : List (Nat × Nat)) : Nat := l.foldl (fun n r => n + r.2) 0

/-- First list at or after place j in rotation that is not empty (R331). -/
def Pool.findList (x : Pool) (m j fuel : Nat) : Option Nat :=
  match fuel with
  | 0 => none
  | n + 1 => if (x.list m (j % m)).isEmpty then x.findList m (j + 1) n else some (j % m)

/-- Take the head buffer of the next list in rotation; none when the pool is empty (R331, R335). -/
def Pool.take (x : Pool) (m : Nat) : Option (Nat × Pool) :=
  match x.findList m x.next m with
  | none => none
  | some j =>
    match x.list m j with
    | [] => none
    | (k, c) :: r =>
      let b := j + m * k
      let l := if c ≤ 1 then r else (k + 1, c - 1) :: r
      some (b, { x with lists := x.lists.set none j (some l), next := (j + 1) % m, free := x.free - 1
                        minFree := min x.minFree (x.free - 1), bits := x.bits.set false b true })

/-- The buffer after b on its free list: NEXT of its header while it is free (R330). -/
def Pool.nextFree (x : Pool) (m b : Nat) : Option Nat :=
  let places := (x.list m (b % m)).map (fun r => (List.range r.2).map (r.1 + ·))
  ((places.flatten.dropWhile (fun k => k != b / m)).drop 1).head?.map (fun k => b % m + m * k)

/-- Queues that hold the frame of a buffer, with the frame as each holds it. -/
def State.framesIn (s : State) (p b : Nat) : List (Nat × Frame) :=
  (s.data.flowQ ++ s.data.classQ).foldl (fun l e =>
    l ++ (e.2.frames.filter (fun f => f.pool == p && f.buf == b)).map (fun f => (e.1, f))) []

/-- Header of a buffer that holds a frame (R330), from the first queue that holds it. -/
def State.header (s : State) (p b : Nat) : Option (List Nat) :=
  (s.framesIn p b).head?.map (fun e =>
    leBytes 2 e.2.n ++ leBytes 1 e.2.dom ++ leBytes 1 (b2n e.2.ref.isSome) ++ leBytes 4 (e.2.ref.getD 0) ++
    leBytes 4 e.1 ++ leBytes 4 e.2.enqNs ++ leBytes 8 e.2.origin ++ leBytes 8 e.2.stamp)

/-- Cache depth and refill threshold (R332, R348). -/
def State.cacheDepth (s : State) : Nat := max 2 (min 64 (s.fld (bpmA 0x140) 6 0))
def State.cacheRefill (s : State) : Nat :=
  let r := max 1 (s.fld (bpmA 0x140) 13 8)
  if s.cacheDepth ≤ r then s.cacheDepth - 1 else r

/-- Fill a cache up to the depth (R332). -/
def Pool.fill (x : Pool) (m client fuel : Nat) : Pool :=
  match fuel with
  | 0 => x
  | n + 1 =>
    match x.take m with
    | none => x
    | some (b, y) => Pool.fill { y with caches := y.caches.set [] client (y.caches.get [] client ++ [b]) } m client n

/-- A client won a take of a pool (R333). -/
def Pool.wonBy (x : Pool) (client cycle : Nat) : Pool := { x with won := some (client, cycle) }

/-- Another client took from this pool in this cycle: a request that finds it empty has lost the arbitration (R333).
DESIGN CHOICE: the requests of one cycle reach the arbiter in the order of their rows. -/
def Pool.lostTo (x : Pool) (client cycle : Nat) : Bool :=
  match x.won with
  | some (k, t) => k != client && t == cycle
  | none => false

/-- A take by a client from one pool: its cache first, then the pool, which counts EMPTY if it has none, and ARB_LOSS
if another client has won the last buffer in this cycle (R329, R332, R333). -/
def State.takeFrom (s : State) (p client : Nat) : Option Nat × State :=
  let x := s.pool p
  match x.caches.get [] client with
  | b :: r => (some b, s.setPool p { x with caches := x.caches.set [] client r })
  | [] =>
    match x.take s.buf.nlists with
    | some (b, y) => (some b, s.setPool p (y.wonBy client s.clk.hubc))
    | none => (none, if x.lostTo client s.clk.hubc then (s.poolCnt p 1 1).poolCnt p 2 1 else s.poolCnt p 1 1)

/-- Try the pools of a list in ascending order; `spill` marks those that are larger than the frame needs. -/
def State.takeAny (s : State) (client : Nat) (ps : List Nat) (spill : Bool) : Option (Nat × Nat) × State :=
  match ps with
  | [] => (none, s)
  | p :: r =>
    match s.takeFrom p client with
    | (some b, s) => (some (p, b), if spill then s.poolCnt p 0 1 else s)
    | (none, s) => s.takeAny client r true

/-- Pools whose buffers hold n + 32 bytes, ascending (R328, R329). -/
def State.poolsFor (s : State) (n : Nat) : List Nat :=
  (List.range 4).filter (fun p => decide (n + 32 ≤ 64 * (s.pool p).units))

/-- A buffer for a frame of n bytes (R329): pool and number. -/
def State.takeBuf (s : State) (client n : Nat) : Option (Nat × Nat) × State := s.takeAny client (s.poolsFor n) false

/-- A free violation (R335, R336): kind 0 double return, 1 zero count, 2 foreign domain. -/
def State.freeViolation (s : State) (p kind : Nat) : State :=
  (s.bpmCnt (if kind = 2 then 3 else 2)).raise evFreeViolation (p + kind * 2 ^ 8)

/-- Return a buffer on behalf of a domain (R331, R335, R336): `own` is the header's domain. -/
def State.bufReturn (s : State) (p b own dom : Nat) : State :=
  let x := s.pool p
  let m := s.buf.nlists
  if !x.bits.get false b then s.freeViolation p 0
  else if own != dom then s.freeViolation p 2
  else
    let y : Pool := { x with bits := x.bits.set false b false }
    if s.buf.gone.get false (b % m) then s.setPool p y
    else s.setPool p { y with lists := y.lists.set none (b % m) (some ((b / m, 1) :: y.list m (b % m))), free := y.free + 1 }

/-- Lowest free entry of the reference table at or after i. -/
def refFree (m : SMap Nat) (i : Nat) : Nat :=
  match m with
  | [] => i
  | (k, _) :: r => if k = i then refFree r (i + 1) else i

/-- An entry of the reference table for `n` copies, if one is free (R334). -/
def State.takeRef (s : State) (n : Nat) : Option (Nat × State) :=
  let e := refFree s.buf.refs 0
  if 262144 ≤ e then none else some (e, s.modBuf (fun b => { b with refs := b.refs.set 0 e n }))

/-- A copy of a frame is done with, on behalf of a domain (R334 to R336). -/
def State.dropFrame (s : State) (f : Frame) (dom : Nat) : State :=
  match f.ref with
  | none => s.bufReturn f.pool f.buf f.dom dom
  | some e =>
    let n := s.buf.refs.get 0 e
    if n = 0 then s.freeViolation f.pool 1
    else if f.dom != dom then s.freeViolation f.pool 2
    else
      let s := s.modBuf (fun b => { b with refs := b.refs.set 0 e (n - 1) })
      if n = 1 then s.bufReturn f.pool f.buf f.dom dom else s

/-- Release the buffer of a downstream message (R333). -/
def State.dropMsg (s : State) (m : DsMsg) : State :=
  match m.buf with
  | none => s
  | some (p, b, d) => s.bufReturn p b d d

/-- The frames of every queue that satisfy p leave it; each buffer is returned and counts once in DEV_CNT k
(R35, R343, R345). -/
def State.loseFrames (s : State) (p : Frame → Bool) (k : Nat) : State :=
  let fs := (s.data.flowQ ++ s.data.classQ).foldl (fun l e => l ++ e.2.frames.filter p) []
  let strip := fun (_ : Nat) (q : Queue) => ({ q with frames := q.frames.filter (fun f => !p f) } : Queue)
  let s := { s with data := { s.data with flowQ := s.data.flowQ.mapAll (fun _ => {}) strip
                                          classQ := s.data.classQ.mapAll (fun _ => {}) strip } }
  (fs.foldl (fun a f => if a.2.contains (f.pool, f.buf) then a else
    let s := match f.ref with
      | some e => a.1.modBuf (fun b => { b with refs := b.refs.set 0 e 0 })
      | none => a.1
    ((s.bufReturn f.pool f.buf f.dom f.dom).bpmCnt k, a.2 ++ [(f.pool, f.buf)])) (s, ([] : List (Nat × Nat)))).1

/-! Pseudo-channels (R330, R343 to R345). Pseudo-channel i of stack s is unit 32 s + i of class 5 (R415). -/

/-- Pseudo-channels that hold buffers when a layout is applied, in order (R330). -/
def State.pcsActive (s : State) : List Nat :=
  (List.range 256).filter (fun u => (s.health 5 u).st == .active || (s.health 5 u).st == .retiring)

/-- Pseudo-channel of list j: as built, the active ones without the spares 30 and 31 of each stack. -/
def State.pcOfList (s : State) (j : Nat) : Nat :=
  match s.buf.order.get none j with
  | some u => u
  | none => j / 30 * 32 + j % 30

/-- List that lies in a pseudo-channel, if one does. -/
def State.listOfPc (s : State) (u : Nat) : Option Nat :=
  (List.range s.buf.nlists).find? (fun j => s.pcOfList j == u && !s.buf.gone.get false j)

/-- A free spare of the stack of pseudo-channel u (R344). -/
def State.pcSpare (s : State) (u : Nat) : Option Nat :=
  ((List.range 32).map (fun i => u / 32 * 32 + i)).find? (fun v =>
    (s.health 5 v).st == .spare && !s.buf.copies.any (fun c => c.2 == v))

/-- A pseudo-channel without spare is retired (R345). -/
def State.pcLost (s : State) (u : Nat) : State :=
  let s := s.setHealth 5 u { s.health 5 u with st := .retired }
  let s := match s.listOfPc u with
    | none => s
    | some j =>
      let m := s.buf.nlists
      let s := s.loseFrames (fun f => f.buf % m == j) 4
      let s := (List.range 4).foldl (fun (s : State) (p : Nat) =>
        let x := s.pool p
        s.setPool p { x with
          lost := x.lost + listLen x.size m j
          free := x.free - runsLen (x.list m j)
          minFree := min x.minFree (x.free - runsLen (x.list m j))
          lists := x.lists.set none j (some [])
          caches := x.caches.mapAll (fun _ => []) (fun _ l => l.filter (fun b => b % m != j)) }) s
      s.modBuf (fun b => { b with gone := b.gone.set false j true })
  s.raise evHbmPcLost (u / 32 * 2 ^ 8 + u % 32)

/-- A pseudo-channel passes its fault threshold or is retired by command: a copy to a spare starts, or it is
lost (R344, R345). -/
def State.pcOut (s : State) (u : Nat) : State :=
  if s.buf.copies.any (fun c => c.1 == u) then s
  else
    match s.pcSpare u with
    | some v =>
      (s.setHealth 5 u { s.health 5 u with st := .retiring }).modBuf (fun b => { b with copies := b.copies ++ [(u, v)] })
    | none => s.pcLost u

/-- A spare pseudo-channel is retired: a copy to it starts again to another spare, or its pseudo-channel is lost
(R344, R345). -/
def State.pcSpareOut (s : State) (v : Nat) : State :=
  let s := s.setHealth 5 v { s.health 5 v with st := .retired }
  match s.buf.copies.find? (fun c => c.2 == v) with
  | none => s
  | some (u, _) => (s.modBuf (fun b => { b with copies := b.copies.filter (fun c => c.1 != u) })).pcOut u

/-- The copy of a pseudo-channel ends and the address map switches (R344). -/
def State.pcDetour (s : State) (u : Nat) : State :=
  match s.buf.copies.find? (fun c => c.1 == u) with
  | none => s
  | some (_, v) =>
    let s := match s.listOfPc u with
      | some j => s.modBuf (fun b => { b with order := b.order.set none j (some v) })
      | none => s
    let s := s.modBuf (fun b => { b with copies := b.copies.filter (fun c => c.1 != u) })
    let s := (s.setHealth 5 u { s.health 5 u with st := .retired }).setHealth 5 v { s.health 5 v with st := .active }
    s.raise evHbmPcDetour (u / 32 * 2 ^ 8 + u % 32)

/-- An uncorrectable HBM read in a pseudo-channel (R343, R344). -/
def State.hbmError (s : State) (u : Nat) (r : HbmRead) : State :=
  if 256 ≤ u then s
  else
    let m := s.buf.nlists
    let s := s.countError 5 u
    match r with
    | .frame p b copied =>
      if s.listOfPc u != some (b % m) then s
      else if copied && s.buf.copies.any (fun c => c.1 == u) then s
      else s.loseFrames (fun f => f.pool == p && f.buf == b) 4
    | .header p copied =>
      if 4 ≤ p || copied && s.buf.copies.any (fun c => c.1 == u) then s
      else
        match s.listOfPc u with
        | none => s
        | some j =>
          let x := s.pool p
          let n := runsLen (x.list m j)
          (s.setPool p { x with free := x.free - n, minFree := min x.minFree (x.free - n), lists := x.lists.set none j (some []) }).poolCnt p 3 n
    | .system => s

/-- Build the free lists again over a layout and the pseudo-channels still active (R336, R342, R345): the
grown share of a pool stays with the layout. A pseudo-channel holds 512 MiB, and 2 GiB are the system's (R36). DESIGN
CHOICE: where the active ones cannot hold the layout, each pool is built without the share of those that are gone. -/
def State.rebuildPools (s : State) (lay : List (Nat × Nat)) : State :=
  let act := s.pcsActive
  let sum := lay.foldl (fun n l => n + l.2) 0
  let order := if act.length = 240 && act == (List.range 240).map (fun j => j / 30 * 32 + j % 30) then []
    else (List.range act.length).map (fun j => (j, act[j]?))
  let n := max 1 act.length
  let s := s.modBuf (fun b => { b with
    pools := [], refs := [], layoutPend := none, layout := lay, grow := [], unassigned := 118 - sum
    nlists := n, order := order, gone := [], copies := [] })
  let s := (List.range 4).foldl (fun s p =>
    let l := lay.getD p (0, 1)
    let x := Pool.built l.1 l.2
    let k := if n < 2 * sum + 4 then (240 - n) * (x.size / 240) else 0
    s.setPool p { x with base := x.size - k, size := x.size - k, free := x.size - k, minFree := x.size - k }) s
  s

/-! Operations of family 0x0D. -/

/-- A domain's host pool 4 to 7. -/
def Dom.hpool (d : Dom) (p : Nat) : HostPool :=
  match p with
  | 4 => d.pool4
  | 5 => d.pool5
  | 6 => d.pool6
  | _ => d.pool7

/-- Store a domain's host pool. -/
def Dom.setHpool (d : Dom) (p : Nat) (x : HostPool) : Dom :=
  match p with
  | 4 => { d with pool4 := x }
  | 5 => { d with pool5 := x }
  | 6 => { d with pool6 := x }
  | _ => { d with pool7 := x }

/-- REGISTER_WINDOW (R337, R346). -/
def infoRegisterWindow : CmdInfo :=
  { op := 0x0D03, args := fun c =>
      let a := pair64 c.p0 c.p1
      let n := pair64 c.p2 c.p3
      decide (a % 4096 = 0) && decide (n % 4096 = 0) && decide (4096 ≤ n ∧ n ≤ 2 ^ 48) && decide (a + n ≤ 2 ^ 64) && c.zeroFrom 4 }

def bodyRegisterWindow : Body := fun _ c s =>
  let a := pair64 c.p0 c.p1
  let n := pair64 c.p2 c.p3
  let x := s.domE c.dom
  match (List.range 16).find? (fun i => !x.windows.any (fun w => w.1 == i)) with
  | none => bad stNoRoom s
  | some i =>
    if x.windows.any (fun w => decide (a < w.2.1 + w.2.2 ∧ w.2.1 < a + n)) then bad stBadArg s
    else
      let ws := x.windows.filter (fun w => decide (w.1 < i)) ++ [(i, a, n)] ++ x.windows.filter (fun w => decide (i < w.1))
      ok (s.setDom c.dom { x with windows := ws })

/-- REMOVE_WINDOW (R337, R346). -/
def infoRemoveWindow : CmdInfo :=
  { op := 0x0D04, args := fun c => decide (pair64 c.p0 c.p1 % 4096 = 0) && c.zeroFrom 2 }

def bodyRemoveWindow : Body := fun _ c s =>
  let x := s.domE c.dom
  match x.windows.find? (fun w => w.2.1 == pair64 c.p0 c.p1) with
  | none => bad stNotFound s
  | some w =>
    if [4, 5, 6, 7].any (fun p => (x.hpool p).posts.any (fun a => decide (w.2.1 ≤ a ∧ a < w.2.1 + w.2.2))) then bad stState s
    else ok (s.setDom c.dom { x with windows := x.windows.filter (fun v => v.1 != w.1) })

/-- SET_HOST_POOL (R339, R346). -/
def infoSetHostPool : CmdInfo :=
  { op := 0x0D05, args := fun c =>
      decide (4 ≤ c.n0 ∧ c.n0 ≤ 7) && decide (64 ≤ c.n1 ∧ c.n1 ≤ 65536 ∧ c.n1 % 64 = 0) && c.zeroFrom 2 }

def bodySetHostPool : Body := fun _ c s =>
  let x := s.domE c.dom
  let h := x.hpool c.n0
  if h.posts.isEmpty then ok (s.setDom c.dom (x.setHpool c.n0 { h with size := c.n1 })) else bad stState s

/-- The addresses of an input list. -/
def addrsOf (c : Desc) : List Nat := (List.range (c.bufLen / 8)).map (fun i => leAt c.inp (8 * i) 8)

/-- POST_BUFFERS (R338, R339, R346). -/
def infoPostBuffers : CmdInfo :=
  { op := 0x0D06, buf := .inp (fun n => n % 8 == 0 && decide (8 ≤ n ∧ n ≤ 8192))
    args := fun c => decide (4 ≤ c.n0 ∧ c.n0 ≤ 7) && c.zeroFrom 1 }

/-- Postings are not configuration, so replay posts nothing (R339). -/
def bodyPostBuffers : Body := fun rp c s =>
  let x := s.domE c.dom
  let h := x.hpool c.n0
  if rp.isSome then ok s
  else
    match (addrsOf c).findIdx? (fun a => !(a % 64 == 0 && h.size != 0 && s.inWindow c.dom a h.size)) with
    | some i => (.fin { status := stBadArg, r0 := i }, s.bpmCnt 5)
    | none =>
      if 4096 < h.posts.length + (addrsOf c).length then bad stNoRoom s
      else ok (s.setDom c.dom (x.setHpool c.n0 { h with posts := h.posts ++ (addrsOf c) }))

/-- RECLAIM_BUFFERS (R339, R340, R346). -/
def infoReclaimBuffers : CmdInfo :=
  { op := 0x0D07, buf := .out (fun _ => 32768), args := fun c => decide (4 ≤ c.n0 ∧ c.n0 ≤ 7) && c.zeroFrom 1 }

def bodyReclaimBuffers : Body := fun rp c s =>
  let x := s.domE c.dom
  let h := x.hpool c.n0
  if rp.isSome then ok s
  else okR h.posts.length 0 ((s.setDom c.dom (x.setHpool c.n0 { h with posts := [] })).outBuf c
    (h.posts.foldl (fun l a => l ++ leBytes 8 a) []))

/-- Layout of SET_POOL_LAYOUT: size code and GiB per pool. -/
def layoutOf (c : Desc) : List (Nat × Nat) := [c.n0, c.n1, c.n2, c.n3].map (fun v => (v / 2 ^ 28, v % 128))

/-- SET_POOL_LAYOUT (R342, R346). -/
def infoSetPoolLayout : CmdInfo :=
  { op := 0x0D08, args := fun c =>
      let l := layoutOf c
      [c.n0, c.n1, c.n2, c.n3].all (fun v => decide (v % 2 ^ 28 < 128)) && c.zeroFrom 4 &&
      l.all (fun e => decide (e.1 ≤ 5) && decide (1 ≤ e.2)) &&
      decide ((l.getD 0 (0, 0)).1 < (l.getD 1 (0, 0)).1 ∧ (l.getD 1 (0, 0)).1 < (l.getD 2 (0, 0)).1 ∧
        (l.getD 2 (0, 0)).1 < (l.getD 3 (0, 0)).1 ∧ (l.getD 3 (0, 0)).1 = 5) &&
      decide (l.foldl (fun n e => n + e.2) 0 ≤ 118) }

/-- A recorded command applied again at a restart, and not on the standby of a pair (R265, R398). -/
def State.atRestart (s : State) (rp : Option ExecRec) : Bool := rp.isSome && decide (s.stage < 5)

/-- The layout recorded before a restart has been taken by then: nothing is recorded again. -/
def bodySetPoolLayout : Body := fun rp c s =>
  if c.dom != 0 then bad stDomain s
  else if s.atRestart rp then ok s
  else ok (s.modBuf (fun b => { b with layoutPend := some (layoutOf c) }))

/-- The new buffers of a grown pool go onto the free lists (R330, R342). -/
def State.growPool (s : State) (p g : Nat) : State :=
  let x := s.pool p
  let m := s.buf.nlists
  let n := g * 2 ^ 30 / (64 * x.units)
  let lists := (List.range m).foldl (fun ls j =>
    let a := listLen x.size m j
    let c := listLen (x.size + n) m j - a
    if c = 0 || s.buf.gone.get false j then ls else ls.set none j (some ((a, c) :: x.list m j))) x.lists
  let got := ((List.range m).filter (fun j => s.buf.gone.get false j)).foldl
    (fun t j => t - (listLen (x.size + n) m j - listLen x.size m j)) n
  (s.setPool p { x with size := x.size + n, lost := x.lost + (n - got), free := x.free + got, lists := lists }).modBuf (fun b =>
    { b with layout := b.layout.mapIdx (fun i l => if i = p then (l.1, l.2 + g) else l) })

/-- GROW_POOL (R342, R346). -/
def infoGrowPool : CmdInfo :=
  { op := 0x0D09, args := fun c => decide (c.n0 < 4) && decide (c.n1 < 128) && c.zeroFrom 2 }

/-- The layout in force keeps a growth over a restart: the pool does not grow again at replay. -/
def bodyGrowPool : Body := fun rp c s =>
  if c.dom != 0 then bad stDomain s
  else if s.atRestart rp then ok s
  else if s.buf.unassigned < c.n1 then bad stNoRoom s
  else
    let s := s.modBuf (fun b => { b with unassigned := b.unassigned - c.n1 })
    if rp.isSome then ok (s.growPool c.n0 c.n1)
    else (.opened, s.modBuf (fun b => { b with grow := b.grow ++ [(c.acc, c.n0, c.n1)] }))

/-- READ_POOLS (R346). -/
def infoReadPools : CmdInfo := { op := 0x0D0A, query := true, buf := .out (fun _ => 64), args := fun c => c.zeroFrom 0 }

def bodyReadPools : Body := fun _ c s =>
  let x := s.domE c.dom
  let hp := [4, 5, 6, 7].foldl (fun l p => l ++ leBytes 4 (x.hpool p).size ++ leBytes 4 (x.hpool p).posts.length) []
  let ws := (List.range 4).foldl (fun l i => l ++ leBytes 8 (match x.windows.find? (fun w => w.1 == i) with
    | some w => w.2.1
    | none => 0)) []
  ok (s.outBuf c (hp ++ ws))

/-! Meanings. -/

/-- REGISTER_WINDOW. -/
def execRegisterWindow (c : Desc) (s : State) : Answer := kept s (runCmd infoRegisterWindow bodyRegisterWindow c s)
/-- REMOVE_WINDOW. -/
def execRemoveWindow (c : Desc) (s : State) : Answer := kept s (runCmd infoRemoveWindow bodyRemoveWindow c s)
/-- SET_HOST_POOL. -/
def execSetHostPool (c : Desc) (s : State) : Answer := kept s (runCmd infoSetHostPool bodySetHostPool c s)
/-- POST_BUFFERS. -/
def execPostBuffers (c : Desc) (s : State) : Answer := kept s (runCmd infoPostBuffers bodyPostBuffers c s)
/-- RECLAIM_BUFFERS. -/
def execReclaimBuffers (c : Desc) (s : State) : Answer := kept s (runCmd infoReclaimBuffers bodyReclaimBuffers c s)
/-- SET_POOL_LAYOUT. -/
def execSetPoolLayout (c : Desc) (s : State) : Answer := kept s (runCmd infoSetPoolLayout bodySetPoolLayout c s)
/-- GROW_POOL. -/
def execGrowPool (c : Desc) (s : State) : Answer := kept s (runCmd infoGrowPool bodyGrowPool c s)
/-- READ_POOLS. -/
def execReadPools (c : Desc) (s : State) : Answer := kept s (runCmd infoReadPools bodyReadPools c s)

/-- GROW_POOL_DONE (R342): all buffers of the oldest matching growth are on the lists. -/
def execGrowPoolDone (acc : Nat) (s : State) : Answer :=
  kept s (match s.buf.grow.find? (fun g => g.1 == acc) with
    | none => s
    | some (_, p, g) =>
      let s := s.growPool p g
      (s.modBuf (fun b => { b with grow := b.grow.filter (fun x => x.1 != acc) })).complete acc { status := stOk })

/-- CACHE_REFILL (R332): of a client whose cache is below the threshold. -/
def execCacheRefill (pool client : Nat) (s : State) : Answer :=
  kept s (if 4 ≤ pool ∨ 17 ≤ client then s
  else
    let x := s.pool pool
    let n := (x.caches.get [] client).length
    let y := x.fill s.buf.nlists client (s.cacheDepth - n)
    if s.cacheRefill ≤ n then s
    else s.setPool pool (if y.free < x.free then y.wonBy client s.clk.hubc else y))

/-- DATA_WRITE_TIMEOUT (R35): only a pool 0 beyond the on-die bitmap delays data writes so. -/
def execDataWriteTimeout (pool buf : Nat) (s : State) : Answer :=
  kept s (if (s.pool 0).size ≤ 134217728 then s
  else s.loseFrames (fun f => f.pool == pool && f.buf == buf && decide (f.enqNs + 2000 ≤ s.clk.hubc / 2)) 0)

/-- HBM_UNCORRECTABLE (R343). -/
def execHbmUncorrectable (stack pc : Nat) (r : HbmRead) (s : State) : Answer :=
  kept s (if 8 ≤ stack ∨ 32 ≤ pc then s else s.hbmError (32 * stack + pc) r)

/-- HBM_PC_DETOUR (R344). -/
def execHbmPcDetour (stack pc : Nat) (s : State) : Answer :=
  kept s (if 8 ≤ stack ∨ 32 ≤ pc then s else s.pcDetour (32 * stack + pc))

end Sys2Proof.Machine
end

