-- ==== Sys2Proof/Machine/Operands.lean ====
section
/-! DEFINITION. Prepolet operands (R158 to R166, R183): register files of a plan context, instruction fields
and words, staging slots, and the lanes that take part. -/

namespace Sys2Proof

/-- Instruction words of the four formats (R163). -/
def FmtO.word (op : Nat) (f : FmtO) : W32 :=
  BitVec.ofNat 32 (op * 2 ^ 26 + f.d.toNat * 2 ^ 21 + f.a.toNat * 2 ^ 16 + f.b.toNat * 2 ^ 11 + f.pr.toNat * 2 ^ 8 + f.fn.toNat)
def FmtI.word (op : Nat) (f : FmtI) : W32 :=
  BitVec.ofNat 32 (op * 2 ^ 26 + f.d.toNat * 2 ^ 21 + f.a.toNat * 2 ^ 16 + f.imm.toNat)
def FmtM.word (op : Nat) (f : FmtM) : W32 :=
  BitVec.ofNat 32 (op * 2 ^ 26 + f.d.toNat * 2 ^ 21 + f.base.toNat * 2 ^ 16 + f.pr.toNat * 2 ^ 13 + f.off.toNat)
def FmtB.word (op : Nat) (f : FmtB) : W32 :=
  BitVec.ofNat 32 (op * 2 ^ 26 + f.cond.toNat * 2 ^ 22 + f.pr.toNat * 2 ^ 19 + f.n.toNat)

/-- Without SCALAR, b names a V register (R164, R173). -/
def FmtO.ybad (f : FmtO) : Bool := !f.fn.getLsbD 4 && f.b.getLsbD 4

end Sys2Proof

namespace Sys2Proof.Machine

/-- Read Sr; S0 reads zero (R158). -/
def Ctx.rs (c : Ctx) (r : BitVec 5) : W64 := if r = 0 then 0 else c.s.get 0 r.toNat

/-- Write Sr; a write to S0 is discarded (R159). -/
def Ctx.ws (c : Ctx) (r : BitVec 5) (x : W64) : Ctx :=
  if r = 0 then c else { c with s := c.s.set 0 r.toNat x }

/-- Read lane k of Vr (R158). -/
def Ctx.rv (c : Ctx) (r k : Nat) : W32 := c.v.get 0 (8 * r + k)

/-- Write lane k of Vr. -/
def Ctx.wv (c : Ctx) (r k : Nat) (x : W32) : Ctx := { c with v := c.v.set 0 (8 * r + k) x }

/-- Read Pr; P0 reads 0xFF (R158). -/
def Ctx.rp (c : Ctx) (r : Nat) : BitVec 8 := if r = 0 then 0xFF#8 else c.p.get 0 r

/-- Write Pr; a write to P0 is discarded (R159). -/
def Ctx.wp (c : Ctx) (r : Nat) (x : BitVec 8) : Ctx :=
  if r = 0 then c else { c with p := c.p.set 0 r x }

/-- Lane k takes part under mask m. -/
def maskBit (m : BitVec 8) (k : Nat) : Bool := m.getLsbD k

/-- Write the lanes of Vd that take part under m; the others keep their value (chapter 06, merge rule). -/
def Ctx.merge (c : Ctx) (d : Nat) (m : BitVec 8) (f : Nat → W32) : Ctx :=
  (List.range 8).foldl (fun x k => if maskBit m k then x.wv d k (f k) else x) c

/-- A 5-bit field that names a V register is bad when bit 4 is set (R164). -/
def vbad (r : BitVec 5) : Bool := r.getLsbD 4

/-- A 5-bit field that names a P register is bad when bits 4:3 are not zero (R164). -/
def pbad (r : BitVec 5) : Bool := decide (8 ≤ r.toNat)

/-- Immediates: zero-extended and sign-extended (R171, R180). -/
def zext64 (x : BitVec 16) : W64 := x.setWidth 64
def sext64 (x : BitVec 16) : W64 := x.signExtend 64
def zext32 (x : BitVec 16) : W32 := x.setWidth 32
def sext32 (x : BitVec 16) : W32 := x.signExtend 32

/-- Second operand of a vector instruction: lane k of Vb, or Sb[31:0] with SCALAR (R173). -/
def Ctx.yop (c : Ctx) (f : FmtO) (k : Nat) : W32 :=
  if f.fn.getLsbD 4 then (c.rs f.b).setWidth 32 else c.rv f.b.toNat k

/-- A scalar that holds a tag of this batch in context k: the local tag (R134, R190). -/
def Ctx.tagOf (c : Ctx) (k : Nat) (x : W64) : Option Nat :=
  if 64 * k ≤ x.toNat ∧ x.toNat < 64 * k + c.tags.length then some (x.toNat - 64 * k) else none

/-- Words of one lane in a slot of this kind (R183). -/
def MemKind.words (m : MemKind) : Nat :=
  match m with
  | .cld => 16
  | .cst => 0
  | .rpt => 1
  | .hnt => 1
  | .tbl => 8

/-- Index of word w of lane k in a slot of this kind (R183). -/
def MemKind.at (m : MemKind) (k w : Nat) : Nat := m.words * k + w

/-- In-flight cap of a kind; CLD and CST share one (R135). -/
def MemKind.cap (m : MemKind) : Nat :=
  match m with
  | .cld => 32
  | .cst => 32
  | .rpt => 64
  | .hnt => 64
  | .tbl => 96

/-- Two kinds share a cap (R135). -/
def MemKind.same (a b : MemKind) : Bool :=
  match a with
  | .cld => b == .cld || b == .cst
  | .cst => b == .cld || b == .cst
  | .rpt => b == .rpt
  | .hnt => b == .hnt
  | .tbl => b == .tbl

/-- A plan context. -/
def State.ctx (s : State) (st : Site) : Ctx := s.grant.ctxs.get {} (4 * st.core + st.ctx)

/-- Store a plan context. -/
def State.setCtx (s : State) (st : Site) (c : Ctx) : State :=
  { s with grant := { s.grant with ctxs := s.grant.ctxs.set {} (4 * st.core + st.ctx) c } }

/-- The planning group a context works for. -/
def State.groupAt (s : State) (st : Site) : Nat := (s.core st.core).group.getD 0

/-- Program slot of a group. -/
def Group.prog (x : Group) (slot : Nat) : Prog := if slot = 0 then x.slot0 else x.slot1

/-- The program that runs in a context (R131, R133). -/
def State.progAt (s : State) (st : Site) : Prog := (s.group (s.groupAt st)).prog (s.ctx st).slot

/-- First instruction index beyond the extent of an entry (R162). -/
def Prog.stop (p : Prog) (e : EntryKind) : Nat :=
  match e with
  | .plan => p.planStart + p.planLen
  | .install => p.instStart + p.instLen
  | .retire => p.retStart + p.retLen

/-- First instruction of an entry (R162). -/
def Prog.first (p : Prog) (e : EntryKind) : Nat :=
  match e with
  | .plan => p.planStart
  | .install => p.instStart
  | .retire => p.retStart

end Sys2Proof.Machine
end

