-- ==== Sys2Proof/Machine/Flags.lean ====
section
/-! DEFINITION. Every condition and predicate computation of Prepolet (R169, R174, R179, R181, R193) and the
saturating arithmetic of R175 and R182. The predicate registers are the machine's flags. -/

namespace Sys2Proof.Machine

/-- Conditions of R169 and R174. -/
inductive Cond where
  | eq | ne | ltu | leu | lts | les
  deriving DecidableEq, Repr

/-- Code of a condition in fn[2:0] (R169). -/
def Cond.code (c : Cond) : Nat :=
  match c with
  | .eq => 0
  | .ne => 1
  | .ltu => 2
  | .leu => 3
  | .lts => 4
  | .les => 5

/-- A condition on two values of one width. -/
def Cond.holds {w : Nat} (c : Cond) (x y : BitVec w) : Bool :=
  match c with
  | .eq => x == y
  | .ne => x != y
  | .ltu => x.ult y
  | .leu => x.ule y
  | .lts => x.slt y
  | .les => x.sle y

/-- All lanes or none (R169). -/
def allOrNone (b : Bool) : BitVec 8 := if b then 0xFF#8 else 0x00#8

/-- Number of set bits (R179 PPOPC). -/
def popc (m : BitVec 8) : Nat := ((List.range 8).filter (fun k => maskBit m k)).length

/-- Index of the lowest set bit, 8 if there is none (R179 PFIRST). -/
def pfirstOf (m : BitVec 8) : Nat := ((List.range 8).find? (fun k => maskBit m k)).getD 8

/-- Branch conditions of R193. -/
def branchTaken (cond : Nat) (m : BitVec 8) : Bool :=
  match cond with
  | 0 => true
  | 1 => m != 0#8
  | 2 => m == 0#8
  | 3 => m == 0xFF#8
  | _ => m != 0xFF#8

/-- Hold an integer within the signed 32-bit range (R175, R182). -/
def sat32 (x : Int) : Int :=
  if 2147483647 < x then 2147483647 else if x < -2147483648 then -2147483648 else x

/-- Hold a natural at the largest unsigned 32-bit value (R175). -/
def satU32 (x : Nat) : W32 := BitVec.ofNat 32 (min x 4294967295)

/-- One lane of a two-bucket update (R182): credits c and q, parameters a and b, debit t. -/
def bktLane (c q a b : W32) (t : Option W32) : W32 × W32 :=
  let d : Int := match t with
    | some x => x.toNat
    | none => 0
  let c1 := if t.isSome then sat32 (c.toInt - d) else c.toInt
  let q1 := if t.isSome then sat32 (q.toInt - d) else q.toInt
  let capc : Int := 16 * (a.toNat / 65536 : Nat)
  let capq : Int := 16 * (b.toNat / 65536 : Nat)
  let c2 := sat32 (c1 + (a.toNat % 65536 : Nat))
  let q2 := sat32 (q1 + (b.toNat % 65536 : Nat))
  (BitVec.ofInt 32 (min c2 capc), BitVec.ofInt 32 (min q2 capq))

end Sys2Proof.Machine
end

