-- ==== Sys2Proof/Machine/Issue.lean ====
section
/-! DEFINITION. Plan contexts at work (R129 to R136, R151, R152, R165, R195 to R197): starting and ending a
batch or an entry, issuing one instruction, instruction exceptions. -/

namespace Sys2Proof.Machine

/-- Change a core. -/
def State.modCore (s : State) (g : Nat) (f : Core → Core) : State := s.setCore g (f (s.core g))

/-- Change a planning group. -/
def State.modGroup (s : State) (q : Nat) (f : Group → Group) : State := s.setGroup q (f (s.group q))

/-- Change an allocation unit. -/
def State.modUnit (s : State) (u : Nat) (f : AUnit → AUnit) : State := s.setUnit u (f (s.unit u))

/-- Record what became of a planned batch. -/
def State.markBatch (s : State) (q b : Nat) (x : BatchSt) : State :=
  s.modGroup q (fun y => { y with planned := y.planned.map (fun e => if e.1 = b then (b, x) else e) })

/-- NOWNS of the plan of interval m, or of an entry in W(m + 1) (R160). -/
def nownsOf (m : Nat) : W32 := BitVec.ofNat 32 (m * 125000 + 2000)

/-- Registers and specials at the start of a batch of group q (R129, R160). -/
def State.planCtx (s : State) (q b upsets : Nat) : Ctx :=
  let m := s.plannedMask q b (s.clk.msc + 1)
  let first := mask8 (fun k => match s.laneUnit q b k with
    | some u => (s.unit u).firstPlan
    | none => false)
  { run := .ready, entry := .plan, batch := b, lanes := m
    p := ((SMap.set [] 0#8 1 m).set 0#8 2 first)
    pc := ((s.group q).prog (s.group q).active).planStart
    msc := BitVec.ofNat 32 (s.clk.msc + 1), nowns := nownsOf s.clk.msc
    upsets := upsets, start := s.clk.hubc, slot := (s.group q).active }

/-- A context takes the next unstarted planned batch of its core, or goes idle (R129). -/
def State.takeBatch (s : State) (st : Site) : State :=
  let q := s.groupAt st
  match (s.group q).planned.find? (fun e => e.2 == .notStarted) with
  | none => s.setCtx st {}
  | some (b, _) => (s.setCtx st (s.planCtx q b 0)).markBatch q b .running

/-- Effective milestone of the maintenance window that is open (R131). -/
def State.winE (s : State) : Nat := if s.clk.cycle < 4000 then s.clk.msc + 1 else s.clk.msc + 2

/-- Hub cycles left in the open maintenance window (R131). -/
def State.winLeft (s : State) : Nat := if s.clk.cycle < 4000 then 4000 - s.clk.cycle else 254000 - s.clk.cycle

/-- Slot whose program runs an entry (R133). -/
def State.entrySlot (s : State) (q : Nat) (e : EntryKind) : Nat :=
  let x := s.group q
  if e == .install && x.shadow == .armed && decide (x.swapMsc ≤ s.winE) then 1 - x.active else x.active

/-- Registers and specials at the start of an entry (R160, R161). -/
def State.entryCtx (s : State) (q u : Nat) (e : EntryKind) (upsets : Nat) : Ctx :=
  let x := s.unit u
  let bit := 1#8 <<< x.lane
  let slot := s.entrySlot q e
  { run := .ready, entry := e, unit := u, batch := x.batch, lanes := bit
    p := ((SMap.set [] 0#8 1 bit).set 0#8 2 (if e == .install then bit else 0#8))
    pc := ((s.group q).prog slot).first e
    msc := BitVec.ofNat 32 s.winE, nowns := nownsOf (s.winE - 1)
    upsets := upsets, start := s.clk.hubc, slot := slot }

/-- Bytes 16 to 63 of a new unit's context as its parameter block sets them (R202), and the hardware-owned
bytes' STATE bit 4 (R128). -/
def State.installBytes (s : State) (u : Nat) : State :=
  let x := s.unit u
  let s := s.modUnit u (fun y => { y with firstPlan := true })
  (List.range 12).foldl (fun s i => s.setRowWord x.group x.batch x.lane (4 + i) (x.params.getD i 0)) s

/-- Instructions of an entry; 0 where the program has none (R200). -/
def Prog.entryLen (p : Prog) (e : EntryKind) : Nat :=
  match e with
  | .plan => p.planLen
  | .install => p.instLen
  | .retire => p.retLen

/-- Start the next entry of the open window in plan context 0 (R132): the hardware-owned bytes of an INSTALL
are written first. A program without the entry has nothing to run. -/
def State.takeEntry (s : State) (g : Nat) : State :=
  let st : Site := ⟨g, 0⟩
  let q := s.groupAt st
  match (s.group q).entries with
  | [] => s.setCtx st {}
  | (u, e) :: r =>
    let s := s.modGroup q (fun x => { x with entries := r })
    let s := s.modUnit u (fun x => { x with entryRun := true })
    let s := if e == .install then s.installBytes u else s
    s.setCtx st (s.entryCtx q u e 0)

/-- Run entries of group q in order (R132): an INSTALL without an entry only sets the context bytes, and so does
every INSTALL where no core plans the group. -/
def State.runEntries (s : State) (q : Nat) (l : List (Nat × EntryKind)) : State :=
  let core := s.coreOf q
  let has := fun (e : EntryKind) => core.isSome && ((s.group q).prog (s.entrySlot q e)).entryLen e != 0
  let s := (l.filter (fun x => x.2 == .install && !has x.2)).foldl (fun s x =>
    (s.installBytes x.1).modUnit x.1 (fun y => { y with entryRun := true })) s
  let s := s.modGroup q (fun x => { x with entries := x.entries ++ l.filter (fun y => has y.2) })
  match core with
  | none => s
  | some g => if (s.ctx ⟨g, 0⟩).run == .idle then s.takeEntry g else s

/-- Operations of a batch that has ended: outstanding ones keep their place against the caps (R195). -/
def State.abandon (s : State) (st : Site) : State :=
  s.modCore st.core (fun x => { x with
    abandoned := x.abandoned ++ ((s.ctx st).tags.filter (fun t => !t.done)).map (fun t => t.kind) })

/-- Cycles that the run of an entry has used in the window (R157 USED_LAST). -/
def State.countUsed (s : State) (st : Site) : State :=
  let used := s.clk.hubc - (s.ctx st).start
  s.modGroup (s.groupAt st) (fun x => { x with usedLast := x.usedLast + used })

/-- The context goes on to its next batch or entry, in the following cycle (R129, R132). -/
def State.nextWork (s : State) (st : Site) : State :=
  let e := (s.ctx st).entry
  let s := s.abandon st
  if e == .plan then s.takeBatch st else (s.countUsed st).takeEntry st.core

/-- An entry that failed (R133, R197): INSTALL leaves the program's bytes zero; RETIRE stores nothing. -/
def State.entryFailed (s : State) (st : Site) : State :=
  let c := s.ctx st
  let s := (s.gcrCount st.core 8).raise evEntryFail c.unit
  if c.entry == .install then s.zeroLane (s.groupAt st) c.batch (s.unit c.unit).lane else s

/-- An instruction exception (R152, R196 to R198). -/
def State.progExc (s : State) (st : Site) (w : W32) (code : Nat) : State :=
  let c := s.ctx st
  let s := s.modCore st.core (fun x => { x with
    diagCause := code, diagWhere := st.ctx % 4 + 4 * c.entry.code, diagPc := c.pc, diagBatch := c.batch
    diagCount := min (x.diagCount + 1) 65535, diagInsn := w, diagMsc := c.msc })
  let s := (s.gcrCount st.core 3).raiseOnce evProgException st.core st.core
  if c.entry == .plan then (s.markBatch (s.groupAt st) c.batch .missed).nextWork st
  else (s.entryFailed st).nextWork st

/-- The context at a site that can issue, if there is one (R129). -/
def State.canIssue (s : State) (st : Site) : Option Ctx :=
  if 104 ≤ st.core ∨ 4 ≤ st.ctx then none
  else if (s.ctx st).run == .ready then some (s.ctx st) else none

/-- A held memory instruction occupies its context until it issues (R135, R165): no other one issues before it. -/
def Ctx.heldBy (c : Ctx) (w : W32) : Bool := c.stalled.any (fun v => v != w)

/-- What an instruction does to its context. -/
inductive Eff where
  /-- an exception of R196 -/
  | exc (code : Nat)
  /-- complete and go on at PC + 1 -/
  | go (c : Ctx)
  /-- a taken branch -/
  | jump (pc : Nat)
  /-- an ENDL that takes its back edge -/
  | back (c : Ctx) (pc : Nat)
  /-- the in-flight cap of its kind is held (R135) -/
  | stall

/-- Instructions issued count while a batch runs (R157 IDLE_LAST). -/
def State.issuedOne (s : State) (st : Site) : State :=
  if (s.ctx st).entry == .plan then s.modCore st.core (fun x => { x with issued := x.issued + 1 }) else s

/-- Issue one instruction (R162, R165, R196): the lowest exception code is reported, RUNOFF (7) among them. -/
def State.instr (s : State) (st : Site) (w : W32) (f : Ctx → Eff) : State :=
  match s.canIssue st with
  | none => s
  | some c =>
    if c.heldBy w then s
    else
    let stop := (s.progAt st).stop c.entry
    match f c with
    | .exc n =>
      if n < 7 then s.progExc st w n
      else if stop ≤ c.pc + 1 then s.progExc st w 7
      else s.progExc st w n
    | .stall =>
      if stop ≤ c.pc + 1 then s.progExc st w 7
      else if c.stalled.isSome then s
      else (s.setCtx st { c with stalled := some w }).gcrCount st.core 7
    | .go c' =>
      if stop ≤ c.pc + 1 then s.progExc st w 7
      else (s.issuedOne st).setCtx st { c' with pc := c.pc + 1, stalled := none }
    | .jump pc =>
      if stop ≤ pc then s.progExc st w 7
      else (s.issuedOne st).setCtx st { c with pc := pc }
    | .back c' pc => (s.issuedOne st).setCtx st { c' with pc := pc }

/-- ILLEGAL if `ill` holds, else complete with `c`. -/
def legal (ill : Bool) (c : Ctx) : Eff := if ill then .exc 1 else .go c

/-- An upset in the batch or entry that a context runs (R133, R151). A context that runs nothing has none. -/
def State.upset (s : State) (st : Site) : State :=
  let c := s.ctx st
  if 104 ≤ st.core ∨ 4 ≤ st.ctx then s
  else if c.run == .idle then s
  else
    let q := s.groupAt st
    let p := s.progAt st
    let s := ((s.gcrCount st.core 1).countError 0 st.core).raiseOnce evCoreUpset st.core st.core
    match c.entry with
    | .plan =>
      if c.upsets = 0 && decide (s.clk.cycle + p.planBound ≤ 196000) then
        (s.abandon st).setCtx st (s.planCtx q c.batch 1)
      else (s.markBatch q c.batch .missed).nextWork st
    | .install => again (max p.instBound p.retBound) c q s
    | .retire => again (max p.instBound p.retBound) c q s
where
  /-- An entry is run once more if its booked cycles still fit; else it has failed and counts one error. -/
  again (bound : Nat) (c : Ctx) (q : Nat) (s : State) : State :=
    if c.upsets = 0 && decide (bound + 32 ≤ s.winLeft) then
      ((s.abandon st).countUsed st).setCtx st (s.entryCtx q c.unit c.entry 1)
    else ((s.entryFailed st).countError 0 st.core).nextWork st

end Sys2Proof.Machine
end

