-- ==== Sys2Proof/Machine/Recorder.lean ====
section
/-! DEFINITION. The event recorder, its clears and its memory, and the last-resort file (R434 to R447, R452). -/

namespace Sys2Proof.Machine

/-- Change the recorder. -/
def State.modRec (s : State) (f : RecSt → RecSt) : State :=
  { s with mgmt := { s.mgmt with rcd := f s.mgmt.rcd } }

/-- Floor of the binary logarithm. -/
def log2Floor (n : Nat) : Nat := Nat.log2 n

/-- Bin of a value (R437). -/
def binOf (x : Rec) (v : Nat) : Nat :=
  if v < x.base then 0
  else
    let q := (v - x.base) / x.width
    if x.log then (if q = 0 then 0 else 1 + log2Floor q) else q

/-- `take` of R437: one sample enters an accumulator. -/
def Hist.take (a : Hist) (x : Rec) (v msc : Nat) : Hist :=
  let a := { a with count := (a.count + 1) % 2 ^ 64 }
  let a := if v < a.min then { a with min := v, minMsc := msc } else a
  let a := if a.max < v then { a with max := v, maxMsc := msc } else a
  let i := binOf x v
  if 31 < i then { a with overflow := (a.overflow + 1) % 2 ^ 32 }
  else if a.bins.get 0 i != 0xFFFFFFFF then { a with bins := a.bins.set 0 i (a.bins.get 0 i + 1) }
  else { a with binSat := true }

/-- A record takes samples of this source. -/
def Rec.takes (x : Rec) (kind src : Nat) : Bool := x.bound && !x.unbind && x.kind == kind && x.source == src

/-- A sample of a source enters every record bound to it (R436, R437). -/
def State.sample (s : State) (kind src v : Nat) : State :=
  let v := min v 0xFFFFFFFF
  let ks := s.mgmt.rcd.recs.keysWhere (fun _ x => x.takes kind src)
  s.modRec (fun r => { r with accs := ks.foldl (fun m k => m.set {} k ((m.get {} k).take (s.recd k) v s.clk.msc)) r.accs })

/-- Add accumulated counts to a record's, bins held at 2³² − 1 (R435, R437). -/
def Hist.merge (h a : Hist) : Hist :=
  let h1 := { h with count := (h.count + a.count) % 2 ^ 64, overflow := (h.overflow + a.overflow) % 2 ^ 32,
                     binSat := h.binSat || a.binSat }
  let h2 := if a.min < h.min then { h1 with min := a.min, minMsc := a.minMsc } else h1
  let h3 := if h.max < a.max then { h2 with max := a.max, maxMsc := a.maxMsc } else h2
  a.bins.foldl (fun h e =>
    let n := h.bins.get 0 e.1 + e.2
    if 0xFFFFFFFF < n then { h with bins := h.bins.set 0 e.1 0xFFFFFFFF, binSat := true }
    else { h with bins := h.bins.set 0 e.1 n }) h3

/-- Only the extremes are kept once both banks have failed (R446). -/
def Hist.extremes (h : Hist) : Hist :=
  { min := h.min, max := h.max, minMsc := h.minMsc, maxMsc := h.maxMsc }

/-- Every record keeps its extremes alone: bins and counts are dropped (R446). -/
def RecSt.dropBins (r : RecSt) : RecSt :=
  { r with recs := r.recs.mapAll (fun _ => {}) (fun _ x => { x with h := x.h.extremes }) }

/-- Both recorder SRAM banks have failed (R446). -/
def RecSt.degraded (r : RecSt) : Bool := !r.bank0 && !r.bank1

/-- Commit of record k (R438, R441): exchange the accumulator, GEN to odd, write, GEN to even. -/
def State.recCommit (s : State) (k : Nat) : State :=
  s.modRec (fun r =>
    let x := r.recs.get {} k
    let h := x.h.merge (r.accs.get {} k)
    let x := { x with gen := (x.gen + 2) % 2 ^ 32, h := if r.degraded then h.extremes else h,
                      bound := x.bound && !x.unbind, unbind := false }
    { r with recs := r.recs.set {} k x, accs := r.accs.del k })

/-- Write a last-resort entry (R447): into the slot after the newest, VALID last. -/
def State.lrWrite (s : State) (cause arg : Nat) : State :=
  let i := (s.fld (mgtA 0x8100) 3 0 + 1) % 16
  let s := if s.bit (mgtA (0x8000 + 16 * i)) 0 then s.addHeld (mgtA 0x8100) 31 16 1 else s
  let s := s.setReg (mgtA (0x8008 + 16 * i)) (BitVec.ofNat 64 s.clk.msc)
  let s := s.setReg (mgtA (0x8000 + 16 * i)) (BitVec.ofNat 64 (arg % 2 ^ 32 * 2 ^ 32 + cause * 2 ^ 16 + 1))
  s.setFld (mgtA 0x8100) 3 0 i

/-- Newer valid MRAM copy of the records (R440). -/
def RecSt.newest (r : RecSt) : Option (Nat × SMap Rec) :=
  match r.mram0, r.mram1 with
  | none, y => y
  | x, none => x
  | some x, some y => if x.1 < y.1 then some y else some x

/-- Load the records from MRAM at a restart (R440): GAP set, GEN plus 2, accumulation since the copy lost. -/
def RecSt.load (r : RecSt) : RecSt :=
  let base := match r.newest with
    | none => []
    | some (_, m) =>
      (List.range 4096).foldl (fun acc k =>
        let x := m.get {} k
        acc.set {} k { x with gap := true, gen := (x.gen + 2) % 2 ^ 32 }) []
  { r with recs := base, accs := [], raises := [] }

/-- Domain of a record's source (R436): a queue's domain for kinds 1 and 2, else 0; none if there is no such
queue. Class queue i = 512 u + 8 d + class (R273). -/
def State.srcDomain (s : State) (kind src : Nat) : Option Nat :=
  if kind = 1 ∨ kind = 2 then
    if src / 2 ^ 20 % 2 = 0 then
      let f := s.flow (src % 2 ^ 20)
      if f.inst then some f.dom else none
    else some (src % 2 ^ 20 / 8 % 64)
  else some 0

/-- Range of a SOURCE index by KIND (R436). -/
def srcOk (kind src : Nat) : Bool :=
  match kind with
  | 0 => decide (src < 384)
  | 1 => decide (src < 2 ^ 20) || decide (2 ^ 20 ≤ src ∧ src < 2 ^ 20 + 65536)
  | 2 => decide (src < 2 ^ 20) || decide (2 ^ 20 ≤ src ∧ src < 2 ^ 20 + 65536)
  | 3 => decide (src < 96)
  | 4 => decide (src < 48)
  | 5 => decide (src = 0)
  | 6 => decide (src < 104)
  | 7 => decide (src < 2048)
  | _ => false

/-- REC_BIND (R441, R452). -/
def infoRecBind : CmdInfo :=
  { op := 0x0A01
    args := fun c => decide (c.n0 < 4096) && decide (c.n1 < 32) && decide (c.n2 < 2 ^ 24) && c.n4 != 0 && c.zeroFrom 5
      && srcOk (c.n1 % 16) c.n2 }

def bodyRecBind : Body := fun rp c s =>
  let x := s.recd c.n0
  match s.srcDomain (c.n1 % 16) c.n2 with
  | none => bad stNotFound s
  | some d =>
    if (c.dom != 0 && decide (c.n0 < 1024)) || (c.dom != 0 && d != c.dom) then bad stDomain s
    else if rp.isNone && (x.bound || x.h.count != 0) then bad stState s
    else if c.dom != 0 && decide (64 ≤ s.mgmt.rcd.recs.countWhere (fun _ y => y.bound && y.dom == c.dom)) then bad stNoRoom s
    else
      let y : Rec := { x with bound := true, unbind := false, kind := c.n1 % 16, log := c.n1 / 16 % 2 == 1,
                              source := c.n2, base := c.n3, width := c.n4, dom := d }
      ok (s.modRec (fun r => { r with recs := r.recs.set {} c.n0 y }))

/-- REC_UNBIND (R441, R452). -/
def infoRecUnbind : CmdInfo := { op := 0x0A02, args := fun c => decide (c.n0 < 4096) && c.zeroFrom 1 }

def bodyRecUnbind : Body := fun _ c s =>
  let x := s.recd c.n0
  if c.dom != 0 && x.dom != c.dom then bad stDomain s
  else if x.bound then
    let y : Rec := { x with unbind := true }
    ok (s.modRec (fun r => { r with recs := r.recs.set {} c.n0 y }))
  else ok s

/-- REC_READ (R439, R452). -/
def infoRecRead : CmdInfo :=
  { op := 0x0A03, query := true, buf := .out (fun c => 192 * c.n1)
    args := fun c => decide (c.n0 < 4096) && decide (1 ≤ c.n1 ∧ c.n1 ≤ 16) && decide (c.n0 + c.n1 ≤ 4096) && c.zeroFrom 2 }

/-- Consecutive records as bytes. -/
def State.recsBytes (s : State) (first n : Nat) : List Nat :=
  ((List.range n).map (fun i => s.recBytes (first + i))).flatten

def bodyRecRead : Body := fun _ c s =>
  if c.dom != 0 && (List.range c.n1).any (fun i => (s.recd (c.n0 + i)).dom != c.dom) then bad stDomain s
  else ok (s.outBuf c (s.recsBytes c.n0 c.n1))

/-- Issue a clear nonce: it supersedes the outstanding one (R442). -/
def State.issueNonce (s : State) : Nat × State :=
  match s.random with
  | (w, s) => (w.toNat, s.modRec (fun r => { r with nonce := some (w.toNat, s.clk.msc + 480000) }))

/-- GET_CLEAR_NONCE (R442, R452). At replay nothing is issued again. -/
def infoGetClearNonce : CmdInfo := { op := 0x0A04, buf := .out (fun _ => 16), args := fun c => c.zeroFrom 0 }

def bodyGetClearNonce : Body := fun rp c s =>
  match rp with
  | some _ => ok s
  | none =>
    match s.issueNonce with
    | (n, s) => ok (s.outBuf c (leBytes 8 n ++ leBytes 8 (s.clk.msc + 480000)))

/-- Fields of a 96-byte token (R443, R468). -/
structure Token96 where
  magic : Nat
  first : Nat
  count : Nat
  flags : Nat
  zero : Nat
  serial : Nat
  nonce : Nat
  body : List Nat
  sig : List Nat

/-- Read a token's fields. -/
def readToken (l : List Nat) : Token96 :=
  ⟨leAt l 0 4, leAt l 4 2, leAt l 6 2, leAt l 8 4, leAt l 12 4, leAt l 16 8, leAt l 24 8, l.take 32, sliceB l 32 64⟩

/-- The nonce is outstanding and has not expired (R442, R443). -/
def State.nonceOk (s : State) (n : Nat) : Bool :=
  match s.mgmt.rcd.nonce with
  | none => false
  | some (m, e) => m == n && decide (s.clk.msc < e)

/-- The status of the token check of R443, OK if it passes. -/
def State.tokenStatus (s : State) (t : Token96) : Nat :=
  if t.magic != 0x434C0001 || decide (2 ≤ t.flags) || t.zero != 0 || decide (4095 < t.first)
      || decide (4096 < t.first + t.count) then stBadArg
  else
    match s.mgmt.rcd.clearKey with
    | none => stState
    | some k =>
      if t.serial != Config.serial || !s.nonceOk t.nonce || !Config.sm2Check k t.body t.sig then stAuthFail
      else stOk

/-- A record after a clear (R444). -/
def Rec.clear (x : Rec) (msc : Nat) : Rec :=
  { x with h := {}, gap := false, clearMsc := msc, gen := (x.gen + 2) % 2 ^ 32 }

/-- Clear records [first, first + n) in a map. -/
def clearRange (m : SMap Rec) (first n msc : Nat) : SMap Rec :=
  (List.range n).foldl (fun m i => m.set {} (first + i) ((m.get {} (first + i)).clear msc)) m

/-- Entries the clear ledger can hold: the newest 4,096 in MRAM and 262,144 in the archive (R445). -/
abbrev clearLedgerMax : Nat := 4096 + 262144

/-- Append a clear-ledger entry (R445). -/
def State.ledgerAppend (s : State) (t : Token96) : State :=
  s.modRec (fun r => { r with ledger := r.ledger ++
    [⟨s.clk.msc, t.nonce, t.first, t.count, t.flags, ((sm3 (r.clearKey.getD [])).take 8)⟩] })

/-- The effect of a clear that passes (R444). -/
def State.clearRecords (s : State) (t : Token96) : State :=
  let s := s.modRec (fun r => { r with
    recs := clearRange r.recs t.first t.count s.clk.msc
    accs := r.accs.keep (fun k => decide (k < t.first ∨ t.first + t.count ≤ k))
    mram0 := r.mram0.map (fun p => (p.1, clearRange p.2 t.first t.count s.clk.msc))
    mram1 := r.mram1.map (fun p => (p.1, clearRange p.2 t.first t.count s.clk.msc)) })
  if t.flags % 2 = 1 then
    (List.range 16).foldl (fun s i => s.setBit (mgtA (0x8000 + 16 * i)) 0 false) s
  else s

/-- CLEAR_RECORDS with a token (R443 to R445): the check consumes the nonce whatever its result. -/
def State.clearWith (s : State) (bytes : List Nat) : Nat × State :=
  let t := readToken bytes
  let st := s.tokenStatus t
  let s := s.modRec (fun r => { r with nonce := none })
  if st != stOk then (st, s)
  else if clearLedgerMax ≤ s.mgmt.rcd.ledger.length then (stNoRoom, s)
  else
    let n := s.mgmt.rcd.ledger.length
    (stOk, ((s.clearRecords t).ledgerAppend t).raise evRecordsCleared n)

/-- CLEAR_RECORDS (R443, R444, R452). At replay it is applied again and adds no second entry for its nonce. -/
def infoClearRecords : CmdInfo :=
  { op := 0x0A05, buf := .inp (fun n => n == 96), args := fun c => c.zeroFrom 0 }

def bodyClearRecords : Body := fun rp c s =>
  match rp with
  | none => match s.clearWith c.inp with
    | (st, s) => bad st s
  | some r =>
    if r.status = stOk then
      let t := readToken c.inp
      let s1 := s.clearRecords t
      ok (if s.mgmt.rcd.ledger.any (fun e => e.nonce == t.nonce) then s1 else s1.ledgerAppend t)
    else ok s

/-- Bytes of a clear-ledger entry (R445). -/
def ClearEnt.bytes (e : ClearEnt) : List Nat :=
  leBytes 8 e.msc ++ leBytes 8 e.nonce ++ leBytes 2 e.first ++ leBytes 2 e.count ++ leBytes 4 e.flags ++ padTo 8 e.keyFp

/-- Bytes of consecutive clear-ledger entries; entries not yet written read as zeros. -/
def State.ledgerBytes (s : State) (first n : Nat) : List Nat :=
  padTo (32 * n) (((s.mgmt.rcd.ledger.drop first).take n).map ClearEnt.bytes).flatten

/-- READ_CLEAR_LEDGER (R445, R452). -/
def infoReadClearLedger : CmdInfo :=
  { op := 0x0A06, query := true, buf := .out (fun c => 32 * c.n1)
    args := fun c => decide (1 ≤ c.n1 ∧ c.n1 ≤ 64) && c.zeroFrom 2 }

def bodyReadClearLedger : Body := fun _ c s =>
  if s.mgmt.rcd.ledger.length ≤ c.n0 then bad stNotFound s
  else ok (s.outBuf c (s.ledgerBytes c.n0 c.n1))

/-- SET_CLEAR_KEY (R442, R452). -/
def infoSetClearKey : CmdInfo :=
  { op := 0x0A07, buf := .inp (fun n => n == 32), args := fun c => c.zeroFrom 0 }

def bodySetClearKey : Body := fun _ c s =>
  if c.dom != 0 then bad stDomain s
  else if s.mgmt.rcd.clearKey.isSome then bad stState s
  else ok (s.modRec (fun r => { r with clearKey := some c.inp }))

/-! Meanings. -/

/-- REC_BIND. -/
def execRecBind (c : Desc) (s : State) : Answer := kept s (runCmd infoRecBind bodyRecBind c s)

/-- REC_UNBIND. -/
def execRecUnbind (c : Desc) (s : State) : Answer := kept s (runCmd infoRecUnbind bodyRecUnbind c s)

/-- REC_READ. -/
def execRecRead (c : Desc) (s : State) : Answer := kept s (runCmd infoRecRead bodyRecRead c s)

/-- GET_CLEAR_NONCE. -/
def execGetClearNonce (c : Desc) (s : State) : Answer := kept s (runCmd infoGetClearNonce bodyGetClearNonce c s)

/-- CLEAR_RECORDS. -/
def execClearRecords (c : Desc) (s : State) : Answer := kept s (runCmd infoClearRecords bodyClearRecords c s)

/-- READ_CLEAR_LEDGER. -/
def execReadClearLedger (c : Desc) (s : State) : Answer :=
  kept s (runCmd infoReadClearLedger bodyReadClearLedger c s)

/-- SET_CLEAR_KEY. -/
def execSetClearKey (c : Desc) (s : State) : Answer := kept s (runCmd infoSetClearKey bodySetClearKey c s)

/-- NONCE_EXPIRY (R442). -/
def execNonceExpiry (s : State) : Answer :=
  kept s (match s.mgmt.rcd.nonce with
    | none => s
    | some (_, e) => if e ≤ s.clk.msc then s.modRec (fun r => { r with nonce := none }) else s)

/-- RECORDER_COMMIT of record r (R438): in an interval M with M mod 8 = 0, from hub cycle 4,000. -/
def execRecorderCommit (r : Nat) (s : State) : Answer :=
  kept s (if s.clk.running && decide (s.clk.msc % 8 = 0) && decide (r < 4096) then
    let s := s.recCommit r
    if r = 4095 then s.setReg (rcdA 0x8) (BitVec.ofNat 64 s.clk.msc) else s
  else s)

/-- RECORDER_MRAM_COMMIT (R440, R446): in an interval M with M mod 8,000 = 0; `fail` names the MRAM bank
whose copies cannot be written. -/
def execRecorderMramCommit (fail : Option Nat) (s : State) : Answer :=
  kept s (if s.clk.running && decide (s.clk.msc % 8000 = 0) then
    match fail with
    | some b => (s.modRec (fun r => { r with mramOk := false })).lrWrite 0x03 b
    | none =>
      let m := s.clk.msc
      let s := s.modRec (fun r =>
        if m / 8000 % 2 = 0 then { r with mram0 := some (m, r.recs), mramOk := true }
        else { r with mram1 := some (m, r.recs), mramOk := true })
      s.setReg (rcdA 0x10) (BitVec.ofNat 64 m)
  else s)

/-- REC_MEM_FAIL of a recorder SRAM bank (R446). -/
def execRecMemFail (bank : Nat) (s : State) : Answer :=
  kept s (
    let r := s.mgmt.rcd
    if 1 < bank || (bank == 0 && !r.bank0) || (bank == 1 && !r.bank1) then s
    else
      let s := s.modRec (fun r => if bank = 0 then { r with bank0 := false } else { r with bank1 := false })
      if s.mgmt.rcd.degraded then
        ((s.modRec RecSt.dropBins).lrWrite 0x02 0).raise evRecDegraded 0
      else (s.lrWrite 0x01 bank).raise evRecMemFail 0)

end Sys2Proof.Machine
end

