-- ==== Sys2Proof/Machine/Road.lean ====
section
/-! DEFINITION. The road (R43 to R66), burst reception and outcomes (R61, R79 to R92), drift tracking (R109 to
R112), downstream messages (R76, R114, R115), out of service (R74, R75) and tree switches (R413). -/

namespace Sys2Proof.Machine

/-- Road length L of a sub-channel (R53). -/
def State.len (s : State) (sc : Nat) : Nat := (s.sub sc).len

/-- Event argument of sub-channel and terminal (R124). -/
def stArg (sc t : Nat) : Nat := sc + t * 2 ^ 16

/-! Downstream messages. -/

/-- First frame whose roadbook is committed after now (R102, R111). -/
def State.nextFrame (s : State) : Nat := s.horizon + 1

/-- Message types of the device's own downstream PLOAM messages. -/
abbrev plBurstProfile : Nat := 0x01
abbrev plAssign : Nat := 0x03
abbrev plRanging : Nat := 0x04
abbrev plDeactivate : Nat := 0x05
abbrev plDisable : Nat := 0x06
abbrev plReqReg : Nat := 0x09
abbrev plAck : Nat := 0x0B
abbrev plKeyControl : Nat := 0x0D
abbrev plSleepAllow : Nat := 0x12

/-- Message types that the device handles itself (R114); PRESUMED codes of the ITU-T standards. -/
def plHandled (ty : Nat) : Bool :=
  [plBurstProfile, plAssign, plRanging, plDeactivate, plDisable, plReqReg, plAck, plKeyControl, plSleepAllow].contains ty

/-- Queue a downstream PLOAM message of 40 bytes with its check (R76, R114, R245): terminal t, or 512 for a
broadcast. The device writes the ONU-ID and the sequence number. -/
def State.queuePloam (s : State) (sc t : Nat) (body : List Nat) (frame : Nat) (acc : Option Nat)
    (buf : Option (Nat × Nat × Nat)) : State :=
  let x := s.sub sc
  let id := if t = 512 then 1023 else t
  let m := [id / 256, id % 256, body.getD 0 0, x.ploamSeq % 256] ++ padTo 36 (body.drop 1)
  let full := m ++ padTo 8 (Config.mic [0, sc, t] m)
  s.setSub sc { x with ploamSeq := x.ploamSeq + 1, dsq := x.dsq ++ [⟨t, 0, full, acc, frame, buf⟩] }

/-- A message that firmware originates; it is not sent while the laser is dark (R76). -/
def State.ploam (s : State) (sc t ty : Nat) (content : List Nat) (frame : Nat) : State :=
  if (s.sub sc).lit then s.queuePloam sc t (ty :: content) frame none none else s

/-- Ranging_Time with the terminal's equalisation delay in the unit of the sub-channel's standard (R106, R108,
R109). -/
def State.sendRangingTime (s : State) (sc t frame : Nat) : State :=
  s.ploam sc t plRanging (Config.eqdField (sc % 2) (s.term sc t).eqd) frame

/-- The OMCI integrity key of a terminal: from its master session key when one is established, and otherwise the
standard's default (R115). -/
def Term.omciKey (x : Term) : List Nat :=
  match x.msk with
  | some k => Config.omciKey k
  | none => Config.omciDefaultKey

/-- The OMCI check of a message in direction `dir`: 1 downstream, 0 upstream (R115, R116; DESIGN CHOICE, the spec leaves
the direction byte to the standard). -/
def Term.omciCheck (x : Term) (dir : Nat) (body : List Nat) : List Nat := padTo 4 (Config.mic x.omciKey (dir :: body))

/-- Queue the OMCI message of a command, with its check appended (R115). -/
def State.queueOmci (s : State) (sc t : Nat) (body : List Nat) (acc : Nat) (buf : Option (Nat × Nat × Nat)) : State :=
  s.modSub sc (fun x => { x with dsq := x.dsq ++
    [⟨t, 1, body ++ (s.term sc t).omciCheck 1 body, some acc, s.nextFrame, buf⟩] })

/-! Pending burst profiles (R85, R91). -/

/-- A deferred change is a SET_BURST_PROFILE of a terminal. -/
def Change.isProf (c : Change) (sc t : Nat) : Bool :=
  match c with
  | .burstProfile a b _ => a == sc && b == t
  | _ => false

/-- A deferred change is a SET_BURST_PROFILE of a terminal off LONG. -/
def Change.isOff (c : Change) (sc t : Nat) : Bool :=
  match c with
  | .burstProfile a b x => a == sc && b == t && x != 0
  | _ => false

/-- Drop the pending changes that satisfy `p`, each counted in DEM_CNT k = 4 (R91). -/
def State.cancelWhere (s : State) (sc : Nat) (p : Change → Bool) : State :=
  if s.deferred.all (fun d => !p d.change) then s
  else
    let n := (s.deferred.filter (fun d => p d.change)).length
    { s with deferred := s.deferred.filter (fun (d : Pend) => !p d.change) }.add32 (subA sc 0x50) n

/-- Cancel the pending SET_BURST_PROFILEs of a terminal off LONG, at a demotion (R91). -/
def State.cancelOff (s : State) (sc t : Nat) : State := s.cancelWhere sc (fun c => c.isOff sc t)

/-- Cancel every pending SET_BURST_PROFILE of a terminal that is deactivated, lost, disabled or removed, or that leaves
OPERATION for a re-range (R91). -/
def State.cancelProf (s : State) (sc t : Nat) : State := s.cancelWhere sc (fun c => c.isProf sc t)

/-- The laser goes dark (R58, R76): queued messages are dropped, and terminals must activate again. -/
def State.laserDark (s : State) (sc : Nat) : State :=
  let x := s.sub sc
  let s := s.setSub sc { x with lit := false, dsq := [] }
  let s := x.dsq.foldl (fun s m => match m.acc with
    | some a => (s.dropMsg m).complete a { status := stState }
    | none => s.dropMsg m) s
  (List.range 512).foldl (fun s t =>
    let y := s.term sc t
    match y.act with
    | .discovered => (s.cancelProf sc t).setTerm sc t { y with act := .registered, pre := {}, resp := none }
    | .ranging => (s.cancelProf sc t).setTerm sc t { y with
        act := .registered, pre := {}, resp := none, road := .disabled, drainE := none, operE := none }
    | .operation => (s.cancelProf sc t).setTerm sc t { y with
        act := .registered, pre := {}, road := .disabled, drainE := none, operE := none, prof := 0, profP := 0 }
    | _ => s) s

/-- A terminal is under test: commands for it complete with STATE (R122). -/
def State.underTest (s : State) (sc t : Nat) : Bool :=
  match (s.sub sc).rogue.test with
  | some (k, _) => k == t
  | none => false

/-! Tree switches and service. -/

/-- A tree is the protect tree of a tree pair: commands that name it complete with STATE (R395). -/
def State.isProtect (s : State) (c : Nat) : Bool :=
  s.mgmt.pair.trees.any (fun e => match e.2 with
    | some p => p.p == c
    | none => false)

/-- The protect side of a tree pair can serve a sub-channel. -/
def TreePair.good (p : TreePair) (sc : Nat) : Bool := !(if sc % 2 = 0 then p.lostH else p.lostX)

/-- Sub-channel sc of a working tree is served from the protect tree. -/
def State.onProtect (s : State) (sc : Nat) : Bool :=
  match s.mgmt.pair.trees.get none (sc / 2) with
  | some p => p.onProtect && p.good sc
  | none => false

/-- Store the tree pair of working tree w. -/
def State.setTreePair (s : State) (w : Nat) (p : Option TreePair) : State :=
  { s with mgmt := { s.mgmt with pair := { s.mgmt.pair with trees := s.mgmt.pair.trees.set none w p } } }

/-- An automatic switch of the pair whose working tree is c (R413): p transmits from frame C + 2. -/
def State.treeSwitch (s : State) (c : Nat) : State :=
  match s.mgmt.pair.trees.get none c with
  | none => s
  | some p =>
    if p.onProtect then s
    else (s.setTreePair c (some { p with onProtect := true, fromMsc := s.clk.msc + 2 })).raise evTreeSwitch (c + 256)

/-- Change one burst of a roadbook. -/
def Book.modBurst (k : Book) (i : Nat) (f : Burst → Burst) : Book :=
  { k with bursts := k.bursts.mapIdx (fun j b => if j = i then f b else b) }

/-- Change a burst of roadbook m of a sub-channel. -/
def State.modBurst (s : State) (sc m i : Nat) (f : Burst → Burst) : State :=
  s.modSub sc (fun x => { x with books := x.books.map (fun k => if k.msc = m then k.modBurst i f else k) })

/-- One outcome enters the totals (R62). -/
def Ledger.count (l : Ledger) (o : Outc) : Ledger :=
  let l := { l with onRoad := l.onRoad - 1 }
  match o with
  | .arrived => { l with arrived := l.arrived + 1 }
  | .empty => { l with empty := l.empty + 1 }
  | .early => { l with early := l.early + 1 }
  | .late => { l with late := l.late + 1 }
  | .corrupt => { l with corrupt := l.corrupt + 1 }
  | .collided => { l with collided := l.collided + 1 }
  | .discarded => { l with discarded := l.discarded + 1 }

/-- One outcome enters a unit's ledger row (R65). -/
def LedgerRow.count (l : LedgerRow) (o : Outc) : LedgerRow :=
  match o with
  | .arrived => { l with arrived := l.arrived + 1 }
  | .empty => { l with empty := l.empty + 1 }
  | .early => { l with early := l.early + 1 }
  | .late => { l with late := l.late + 1 }
  | .corrupt => { l with corrupt := l.corrupt + 1 }
  | .collided => { l with collided := l.collided + 1 }
  | .discarded => { l with discarded := l.discarded + 1 }

/-- Totals with further bursts granted (R62). -/
def Ledger.grant (l : Ledger) (n : Nat) : Ledger := { l with granted := l.granted + n, onRoad := l.onRoad + n }

/-- n bursts that counted as GRANTED and on the road no longer do (R403). -/
def Ledger.ungrant (l : Ledger) (n : Nat) : Ledger := { l with granted := l.granted - n, onRoad := l.onRoad - n }

/-- The units of bursts count their grants (R62, R65). -/
def State.grantRows (s : State) (bursts : List Burst) (f : W32 → W32) : State :=
  bursts.foldl (fun s b => b.allocs.foldl (fun s a => match a.unit with
    | none => s
    | some u =>
      let r := s.grant.rows.get {} u
      { s with grant := { s.grant with rows := s.grant.rows.set {} u { r with granted := f r.granted } } }) s) s

/-- Write the single outcome of a burst (R61, R62, R65, R436 kind 0). A burst that has one keeps it, and a burst that
does not count as GRANTED yet takes none. -/
def State.writeOutcome (s : State) (sc m i : Nat) (o : Outc) : State :=
  match (s.sub sc).books.find? (fun k => k.msc == m && k.counted) with
  | none => s
  | some k =>
    match k.bursts[i]? with
    | none => s
    | some b =>
      if b.outcome.isSome then s
      else
        let s := s.modBurst sc m i (fun b => { b with outcome := some o, received := true })
        let s := s.modSub sc (fun x => { x with led := x.led.count o })
        let s := b.allocs.foldl (fun s a => match a.unit with
          | none => s
          | some u => { s with grant := { s.grant with rows := s.grant.rows.set {} u ((s.grant.rows.get {} u).count o) } }) s
        s.sample 0 sc o.code

/-- Every burst on the road of a sub-channel without an outcome records DISCARDED (R64, R75). -/
def State.discardRoad (s : State) (sc : Nat) : State :=
  (s.sub sc).books.foldl (fun s k =>
    (List.range k.bursts.length).foldl (fun s i => s.writeOutcome sc k.msc i .discarded) s) s

/-- The bursts of a sub-channel that arrive before interval m record DISCARDED (R413). -/
def State.discardBefore (s : State) (sc m : Nat) : State :=
  (s.sub sc).books.foldl (fun s k =>
    if m ≤ k.msc + (s.sub sc).len - 1 then s
    else (List.range k.bursts.length).foldl (fun s i => s.writeOutcome sc k.msc i .discarded) s) s

/-- A sub-channel is out of service with no partner (R75). -/
def State.oosAlone (s : State) (sc : Nat) : State :=
  let s := s.modSub sc (fun x => { x with oos := true, oosFrom := s.earliestAck })
  (s.discardRoad sc).raise evSubchOutOfService sc

/-- A sub-channel goes out of service (R75, R413): a paired tree moves to its partner, whose receive side
records the outcomes from interval C + 2. On a protect tree, the working tree's sub-channel is affected if the
pair serves from it. -/
def State.outOfService (s : State) (sc : Nat) : State :=
  match s.pairOf (sc / 2) with
  | none => if (s.sub sc).oos then s else s.oosAlone sc
  | some (w, p) =>
    if p.p = sc / 2 then
      let q := if sc % 2 = 0 then { p with lostH := true } else { p with lostX := true }
      let s := s.setTreePair w (some q)
      if p.onProtect && p.good sc then s.oosAlone (2 * w + sc % 2) else s
    else if (s.sub sc).oos then s
    else if p.good sc then
      let s := s.modSub sc (fun x => { x with oos := true, oosFrom := s.earliestAck })
      let s := s.raise evSubchOutOfService sc
      ((if p.onProtect then s else s.discardBefore sc (s.clk.msc + 2))).treeSwitch (sc / 2)
    else s.oosAlone sc

/-- Roadbook r of a sub-channel may carry grants (R55, R58, R59, R75, R413). -/
def State.carries (s : State) (sc r : Nat) : Bool :=
  let x := s.sub sc
  grantedAt x.road x.drainE x.resumeR r && !(x.oos && decide (x.oosFrom ≤ r) && !s.onProtect sc)

/-- The sub-channel transmits frame m downstream (R58, R76): from its enable until E + L − 1 of its drain. -/
def State.transmits (s : State) (sc m : Nat) : Bool :=
  let x := s.sub sc
  let drains := match x.drainE with
    | some e => decide (m < e + x.len)
    | none => false
  match x.road with
  | .enabled => decide (x.enableE ≤ m)
  | .draining => drains
  | .resuming => drains || reached x.resumeR m
  | .disabled => false

/-! Channel engines and DSP units. -/

/-- Health class of a channel unit kind: 0 engine is class 1, 1 DSP unit is class 2 (R415). -/
def chClass (kind : Nat) : Nat := 1 + kind % 2

/-- Tree die of a sub-channel's lane (R19). -/
def scDie (sc : Nat) : Nat := sc / 96

/-- Lowest-numbered free spare of a kind on a die (R72, R73). -/
def State.freeChUnit (s : State) (kind die : Nat) : Option Nat :=
  (List.range 104).find? (fun k => (s.health (chClass kind) (die * 104 + k)).st == .spare)

/-- Device time in 1/16 ns at a hub cycle of the interval (R38). -/
def State.now16 (s : State) : Nat := s.clk.msc * 2000000 + 8 * s.clk.cycle

/-- Sub-channel served by unit k of a kind on a die, if one is. -/
def State.chServes (s : State) (kind die k : Nat) : Option Nat :=
  ((List.range 96).map (fun i => 96 * die + i)).find? (fun sc =>
    (if kind % 2 = 0 then (s.sub sc).engine else (s.sub sc).dsp) == k &&
    (s.health (chClass kind) (die * 104 + k)).st != .spare)

/-- Set the state of a unit of R415. -/
def State.setUnitSt (s : State) (cls u : Nat) (x : UnitSt) : State := s.setHealth cls u { s.health cls u with st := x }

/-- Bind a unit of a kind to a sub-channel (R72). -/
def State.bindCh (s : State) (sc kind k : Nat) : State :=
  let s := s.setUnitSt (chClass kind) (scDie sc * 104 + k) .active
  s.modSub sc (fun x => if kind % 2 = 0 then { x with engine := k } else { x with dsp := k })

/-- The spare of a planned detour of a sub-channel's unit that still waits for its snapshot (R73). -/
def State.chPending (s : State) (sc kind : Nat) : Option Nat :=
  (s.deferred.filterMap (fun p => match p.change with
    | .chDetour a b k => if a = sc ∧ b = kind then some k else none
    | _ => none)).head?

/-- Drop a planned detour that a loss has overtaken. -/
def State.dropChPending (s : State) (sc kind : Nat) : State :=
  { s with deferred := s.deferred.filter (fun p => match p.change with
    | .chDetour a b _ => !(a == sc && b == kind)
    | _ => true) }

/-- The units of a planned detour of a sub-channel that names spare u. -/
def Sub.names (x : Sub) (kind u : Nat) : Bool := x.chDetour.any (fun d => d.1 == kind && d.2.2.1 == u)

/-- A spare named by a planned detour of a sub-channel is lost: another is named, and with none left the unit retires and
the sub-channel goes out of service (R73, R75). -/
def State.renameSpare (s : State) (sc kind u : Nat) : State :=
  let k := s.freeChUnit kind (scDie sc)
  let s := s.modSub sc (fun x => { x with chDetour := x.chDetour.filterMap (fun d =>
    if d.1 = kind ∧ d.2.2.1 = u then k.map (fun k => (d.1, d.2.1, k, d.2.2.2)) else some d) })
  let s := { s with deferred := s.deferred.filterMap (fun (p : Pend) => match p.change with
    | .chDetour a b v => if a = sc ∧ b = kind ∧ v = u then k.map (fun k => { p with change := .chDetour a b k }) else some p
    | _ => some p) }
  match k with
  | some k => s.setUnitSt (chClass kind) (scDie sc * 104 + k) .active
  | none =>
    (s.setUnitSt (chClass kind) (scDie sc * 104 + (if kind = 0 then (s.sub sc).engine else (s.sub sc).dsp)) .retired).outOfService sc

/-- The instant of a loss on a sub-channel: the frame in progress is lost from here on, and the detour is reported with
the earliest milestone (R46, R74). -/
def State.chLossNow (s : State) (sc : Nat) : State :=
  let s := s.modSub sc (fun x => { x with lossAt := x.lossAt ++ [s.now16], detourE := s.earliestAck })
  let s := if (s.sub sc).lit then s.emit (.frameCut sc s.clk.msc) else s
  s.raise evChannelUnitLost sc

/-- CHANNEL_UNIT_LOST of unit u of a kind on a die (R74, R75): a spare is bound at once. -/
def State.chUnitLost (s : State) (kind die u : Nat) : State :=
  if 4 ≤ die ∨ 104 ≤ u ∨ 2 ≤ kind then s
  else if (s.health (chClass kind) (die * 104 + u)).st == .lost then s
  else
    let serves := s.chServes kind die u
    let t := s.setUnitSt (chClass kind) (die * 104 + u) .lost
    let lanes := (List.range 96).map (fun i => 96 * die + i)
    match serves with
    | none =>
      match lanes.find? (fun sc => (t.sub sc).names kind u || t.chPending sc kind == some u) with
      | some sc => t.renameSpare sc kind u
      | none =>
        match lanes.find? (fun sc => (t.sub sc).chDetour.any (fun d => d.1 == kind && d.2.1 == u)) with
        | none => t
        | some sc => (t.modSub sc (fun x => { x with chDetour := x.chDetour.filter (fun d => d.1 != kind) })).chLossNow sc
    | some sc =>
      let t := t.chLossNow sc
      match (t.sub sc).chDetour.find? (fun d => d.1 == kind && d.2.1 == u) with
      | some d => (t.bindCh sc kind d.2.2.1).modSub sc (fun x => { x with chDetour := x.chDetour.filter (fun e => e.1 != kind) })
      | none =>
        match t.chPending sc kind with
        | some k => (t.dropChPending sc kind).bindCh sc kind k
        | none =>
          match t.freeChUnit kind die with
          | some k => t.bindCh sc kind k
          | none => t.outOfService sc

/-- Planned detours at a milestone (R73): transmit moves at E, receive at E + L − 1, and the retired unit is
free of the lane from then on. -/
def State.chMilestone (s : State) (sc : Nat) : State :=
  (s.sub sc).chDetour.foldl (fun s d =>
    let m := s.clk.msc
    let done := decide (d.2.2.2 + (s.sub sc).len - 1 ≤ m)
    let s := if (d.1 = 0 ∧ d.2.2.2 ≤ m) ∨ done then s.bindCh sc d.1 d.2.2.1 else s
    if done then
      (s.setUnitSt (chClass d.1) (scDie sc * 104 + d.2.1) .retired).modSub sc (fun x => { x with
        chDetour := x.chDetour.filter (fun e => e != d) })
    else s) s

/-! Preload records (R86 to R93). -/

/-- Age of a record (R86). -/
def State.preAge (s : State) (p : Preload) : Nat := (s.clk.msc + 2 ^ 24 - p.stamp.toNat) % 2 ^ 24

/-- PRELOAD_AGE and DRIFT_THR (R86, R88); a write of 0 is taken as 1. -/
def State.preloadAge (s : State) (sc : Nat) : Nat := max 1 (s.fld (subA sc 0x8) 15 0)
def State.driftThr (s : State) (sc : Nat) : Nat := max 1 (s.fld (subA sc 0x8) 24 16)

/-- A demotion is decided only for a terminal that holds, or is to hold, a profile other than LONG, and while
none is pending (R88, R89, R91). A SET_BURST_PROFILE is pending until the snapshot that begins its roadbook (DESIGN
CHOICE: the spec does not say whether it still counts as pending from there to the commit point). -/
def State.demotable (s : State) (sc t : Nat) : Bool :=
  let x := s.term sc t
  !x.pre.pend && (x.prof != 0 || s.deferred.any (fun p => p.change.isOff sc t))

/-- The device is the STANDBY of a pair: it decides nothing from its own light (R398), forwards no data frame (R393). -/
def State.standby (s : State) : Bool := s.mgmt.pair.role == .standby

/-- A demotion at milestone e is named: PEND, REASON and DEMOTED (R88, R90, R95). -/
def State.nameDemote (s : State) (sc t reason e : Nat) : State :=
  let s := s.modTerm sc t (fun x => { x with pre := { x.pre with pend := true, pendE := e, reason := reason } })
  let s := (s.setBit (subA sc (0x200 + 4 * (t / 32))) (t % 32) true).add32 (subA sc (0x40 + 4 * (reason - 1))) 1
  s.raiseOnce evPreloadDemote sc sc

/-- Decide a demotion (R88, R89, R91): reason 1 age, 2 drift, 3 failure. A STANDBY device decides none (R398). -/
def State.demote (s : State) (sc t reason : Nat) : State :=
  if s.standby || !s.demotable sc t then s
  else
    match (s.cancelOff sc t).deferDev 1 (512 * sc + t) (.demote sc t reason) with
    | (e, s) => s.nameDemote sc t reason e

/-- Signed difference of two CDR phases, in 1/4,096 of a bit period (R87). -/
def phaseDiff (locked loaded : BitVec 12) : Int := (locked - loaded).toInt

/-- CDR phase that the DSP unit loads for a burst of profile p (R79): on LONG the fixed seed if the record is not
VALID. -/
def Preload.phase (x : Preload) (p : Nat) : BitVec 12 := if p = 0 && !x.valid then Config.seedPhase else x.cdr

/-- Refine a record from a burst that ARRIVED and was loaded with a phase (R87). -/
def Preload.refine (p : Preload) (rx : BurstRx) (loaded : BitVec 12) (stamp : Nat) : Preload :=
  let cdr : BitVec 12 := (rx.word1 >>> 8).setWidth 12
  let d := phaseDiff cdr loaded
  { p with gain := rx.word1.setWidth 8, cdr := cdr, ffe := rx.word0.setWidth 56, dfe1 := (rx.word0 >>> 56).setWidth 8
           drift := BitVec.ofInt 10 (max (-512) (min 511 d)), stamp := BitVec.ofNat 24 stamp, fails := 0 }

/-- Interval in which a burst of roadbook m arrives (R28, R44). -/
def State.arrives (s : State) (sc m : Nat) : Nat := m + s.len sc - 1

/-- A burst's slot takes in an instant at which a unit of its lane was lost (R74). -/
def State.hitByLoss (s : State) (sc m : Nat) (b : Burst) : Bool :=
  let x := s.sub sc
  let f := frameUnits x
  let base := s.arrives sc m * 2000000
  x.lossAt.any (fun t => decide (base * f + b.start * 2000000 ≤ t * f ∧ t * f ≤ base * f + (b.start + b.len) * 2000000))

/-- Consequences of an outcome for the preload record (R74, R87 to R92) of a burst of roadbook m. -/
def State.preloadOutcome (s : State) (sc m : Nat) (b : Burst) (o : Outc) (rx : BurstRx) : State :=
  let t := b.term
  let x := s.term sc t
  match o with
  | .arrived =>
    let loaded := b.loaded.getD (x.pre.phase b.prof)
    let d := phaseDiff ((rx.word1 >>> 8).setWidth 12) loaded
    let s := if s.driftThr sc < d.natAbs then s.demote sc t 2 else s
    s.modTerm sc t (fun x => { x with pre := x.pre.refine rx loaded (s.arrives sc m) })
  | .corrupt =>
    if rx.lost || s.hitByLoss sc m b then s
    else if b.prof != 0 then s.demote sc t 3
    else
      let f := min 3 (x.pre.fails + 1)
      let s := s.modTerm sc t (fun x => { x with pre := { x.pre with fails := f } })
      if f = 3 ∧ !x.pre.fault then
        let s := s.modTerm sc t (fun x => { x with pre := { x.pre with fault := true } })
        (s.add32 (subA sc 0x4C) 1).raiseOnce evPreloadFault sc sc
      else s
  | _ => s

/-! Decision records (R398). -/

/-- The retained entry of a terminal (R108). -/
def State.retd (s : State) (sc t : Nat) : Retained := s.pon.retained.get {} (512 * sc + t)

/-- Codes of what a drain leads to. -/
def AfterDrain.code (x : AfterDrain) : Nat :=
  match x with
  | .registered => 0
  | .deactivated => 1
  | .disabled => 2
  | .refused => 3
  | .removed => 4

/-- What a decision record says of a terminal (R398). -/
def State.termRec (s : State) (sc t : Nat) : TermRec :=
  let y := s.term sc t
  let r := s.retd sc t
  { act := y.act.code, after := y.after.code, serial := y.serial, dom := y.dom, ta := y.ta, assignFrame := y.assignFrame
    measured := y.rtt, eqd := y.eqd, driftF := y.driftF, operE := y.operE, rtFrame := y.rtFrame, rtDelta := y.rtDelta
    misses := y.misses, lost := y.lostCount.toNat, updates := y.eqdUpdates.toNat, rogueIso := y.rogueIso, rtt := r.rtt
    rogue := r.rogue }

/-- The words of a decision record of a terminal. -/
def termWords (r : TermRec) : List Nat :=
  let n := fun (x : Int) => (BitVec.ofInt 32 x).toNat
  let o := fun (x : Option Nat) => match x with
    | some v => v + 1
    | none => 0
  [r.act, r.after, r.serial, r.dom, r.ta, r.assignFrame, r.measured, n r.eqd, n r.driftF, o r.operE, o r.rtFrame,
    n r.rtDelta, r.misses, r.lost, r.updates, b2n r.rogueIso, o r.rtt, b2n r.rogue]

/-- The words of a decision record of a rogue isolation. -/
def Rogue.walk (r : Rogue) : List Nat :=
  [b2n r.running, b2n r.suspended, b2n r.unresolved] ++ (match r.test with
    | some (k, e) => [k, e]
    | none => [])

/-- A decision changed a terminal. The filtered drift moves with every burst and goes with the next decision only
(DESIGN CHOICE). -/
def termDiffers (a b : TermRec) : Bool := { a with driftF := 0 } != { b with driftF := 0 }

/-- The ACTIVE device tells the STANDBY device what a step from s to t decided for the terminals of a sub-channel
(R398). -/
def State.tellTerms (s t : State) (sc : Nat) : State :=
  if !t.tells then t
  else
    let w := (t.sub sc).rogue.walk
    let t := if (s.sub sc).rogue.walk = w then t else t.tell ([8, sc] ++ w)
    (List.range 512).foldl (fun u k =>
      if termDiffers (s.termRec sc k) (t.termRec sc k) then u.tell ([0, sc, k] ++ termWords (t.termRec sc k)) else u) t

/-- A decision that the device takes from its own light: none on a STANDBY device, and told to it (R398). -/
def State.byLight (s : State) (sc : Nat) (f : State → State) : State :=
  if s.standby then s else s.tellTerms (f s) sc

/-! Drift tracking (R109 to R113). -/

/-- EQD_THR in force, in 1/16 bit (R109). -/
def Sub.thr16 (x : Sub) : Int := 16 * (if x.eqdThr = 0 then defaultTol x.rate / 4 else x.eqdThr : Nat)

/-- A correction of d upstream bits (R109 to R112): sent in the next frame, or refused if it makes EqD negative;
the terminal then drains and is refused as in R108 step 1. -/
def State.correct (s : State) (sc t : Nat) (d : Int) : State :=
  let x := s.term sc t
  if x.eqd - d < 0 then
    if s.deferred.any (fun p => p.change == .termLoss sc t) then s
    else
      match s.deferDev 2 (512 * sc + t) (.termLoss sc t) with
      | (_, s) => s.modTerm sc t (fun x => { x with after := .refused, held := none, rtFrame := none })
  else
    let f := s.nextFrame
    (s.setTerm sc t { x with eqd := x.eqd - d, driftF := 0, eqdUpdates := x.eqdUpdates + 1
                             rtFrame := some f, rtDelta := d, held := none }).sendRangingTime sc t f

/-- A re-range of a terminal in OPERATION (R99, R110), decided by the device. -/
def State.deviceRerange (s : State) (sc t : Nat) : State :=
  if s.deferred.any (fun p => p.change == .rerange sc t) then s
  else (s.deferDev 2 (512 * sc + t) (.rerange sc t)).2

/-- A burst of roadbook m lies in the two-roadbook period of a Ranging_Time (R111). -/
def Term.inPeriod (x : Term) (m : Nat) : Bool :=
  match x.rtFrame with
  | some f => m == f || m == f + 1
  | none => false

/-- Consequences of the outcome of a burst of roadbook m for drift tracking (R109 to R111) and for the run of EMPTY
bursts (R113). -/
def State.driftOutcome (s : State) (sc m t : Nat) (o : Outc) (d : Int) : State :=
  let x := s.term sc t
  match o with
  | .arrived =>
    let f := x.driftF + roundDiv (16 * d - x.driftF) 16
    let s := s.setTerm sc t { x with driftF := f, mistimed := 0, emptyRun := 0 }
    if x.rtFrame.isNone && decide ((s.sub sc).thr16 < f.natAbs) then s.correct sc t (roundDiv f 16) else s
  | .early => mistimed x
  | .late => mistimed x
  | .corrupt => s.setTerm sc t { x with mistimed := 0, emptyRun := 0 }
  | .collided => s.setTerm sc t { x with emptyRun := 0 }
  | .empty => s.setTerm sc t { x with emptyRun := x.emptyRun + 1 }
  | .discarded => s
where
  /-- An EARLY or LATE burst (R110, R111). One of a roadbook before the period of a Ranging_Time that is already sent is
  neither corrected nor held (DEDUCED). -/
  mistimed (x : Term) : State :=
    let s := s.setTerm sc t { x with mistimed := x.mistimed + 1, emptyRun := 0 }
    let s := if x.inPeriod m then s.modTerm sc t (fun y => { y with held := some d })
      else if x.rtFrame.isSome then s else s.correct sc t d
    if 2 ≤ x.mistimed + 1 then (s.deviceRerange sc t).modTerm sc t (fun y => { y with mistimed := 0 }) else s

/-! Outcomes. -/

/-- The drain of an object in DISCARD mode runs (R57). -/
def discarding (road : RoadSt) (discard : Bool) (drainE : Option Nat) : Bool :=
  discard && drainE.isSome && (road == .draining || road == .resuming)

/-- The terminal or the sub-channel of a burst is shut down in DISCARD mode, as every burst of its drain then is
(R57). -/
def State.ownerDiscarded (s : State) (sc : Nat) (b : Burst) : Bool :=
  let x := s.sub sc
  let t := s.term sc b.term
  discarding x.road x.discard x.drainE || (b.kind != .serial && discarding t.road t.discard t.drainE)

/-- An allocation of a burst is discarded (R57). -/
def State.allocDiscarded (s : State) (sc : Nat) (b : Burst) (a : Alloc) : Bool :=
  s.ownerDiscarded sc b ||
  (match a.unit with
   | some u => discarding (s.unit u).road (s.unit u).discard (s.unit u).drainE
   | none => false)

/-- A burst is discarded: its owner is, or every allocation it carries is (R57, R61). -/
def State.burstDiscarded (s : State) (sc : Nat) (b : Burst) : Bool :=
  s.ownerDiscarded sc b || (!b.allocs.isEmpty && b.allocs.all (fun a => s.allocDiscarded sc b a))

/-- The signal-detect input of a sub-channel is active low (R81, R95 SDPOL). -/
def State.sdLow (s : State) (sc : Nat) : Bool := s.bit (chnA (sc / 2) 0x8) (18 + sc % 2)

/-- Light in a slot: the signal-detect input was active, or the DSP saw amplitude (R81). -/
def State.lightOf (s : State) (sc : Nat) (rx : BurstRx) : Bool :=
  rx.amp || (if s.sdLow sc then rx.sdLow else rx.sdHigh)

/-- An offset lies beyond the phase tolerance of the expected position, and in the period of a Ranging_Time of the old
one as well (R61, R111). -/
def Term.offBy (y : Term) (m : Nat) (tol d : Int) (out : Bool) : Bool :=
  out && (!y.inPeriod m || decide (d - y.rtDelta < -tol ∨ tol < d - y.rtDelta))

/-- The outcome of a burst of roadbook m (R61): the highest row whose condition holds. -/
def State.outcomeOf (s : State) (sc m : Nat) (b : Burst) (rx : BurstRx) : Outc :=
  let tol : Int := (s.sub sc).phaseTol
  let y := s.term sc b.term
  let d := rx.offset
  if (s.sub sc).oos && !s.onProtect sc then .discarded
  else if s.burstDiscarded sc b then .discarded
  else
    match b.kind with
    | .serial => window rx
    | .ranging => window rx
    | _ =>
      if rx.overlap then .collided
      else if !s.lightOf sc rx then .empty
      else if rx.delim && y.offBy m tol d (decide (d < -tol)) then .early
      else if rx.delim && y.offBy m tol d (decide (tol < d)) then .late
      else if !rx.lock || !rx.delim || !rx.clean || rx.lost || s.hitByLoss sc m b then .corrupt
      else .arrived
where
  /-- A serial-number or ranging grant is judged over its window (R61). -/
  window (rx : BurstRx) : Outc :=
    if rx.delim then .arrived else if rx.overlap then .collided else if s.lightOf sc rx then .corrupt else .empty

/-- A report entry after a write (R138). -/
def Report.write (e : Report) (occ stamp : Nat) : Report :=
  { occ := min occ (2 ^ 23 - 1), prev := e.occ, stamp := stamp % 32768
    prevAdj := decide ((e.stamp + 1) % 32768 = stamp % 32768), prevValid := e.valid, valid := true }

/-- Write a status report of a unit (R138). -/
def State.writeReport (s : State) (u occ stamp : Nat) : State :=
  let x := s.unit u
  let k := laneKey x.group x.batch x.lane
  { s with grant := { s.grant with reports := s.grant.reports.set {} k ((s.grant.reports.get {} k).write occ stamp) } }

/-- Reports of a burst that ARRIVED, for allocations that carried DBRU and are not discarded, stamped with the interval
of arrival (R28, R57, R138). -/
def State.burstReports (s : State) (sc m : Nat) (b : Burst) (rx : BurstRx) : State :=
  rx.reports.foldl (fun s r =>
    match b.allocs[r.1]? with
    | none => s
    | some a =>
      match a.unit with
      | none => s
      | some u => if a.dbru && !s.allocDiscarded sc b a then s.writeReport u r.2 (s.arrives sc m) else s) s

/-- The receive side of frame decoding counts (R79, R95, R510): codewords, headers, symbols of the lane. -/
def State.burstCounts (s : State) (sc : Nat) (rx : BurstRx) : State :=
  let s := (List.range 4).foldl (fun s k => s.add64 (subA sc (0x18 + 8 * k)) (rx.fec.getD k 0)) s
  let s := (s.add32 (lneA sc 0x3C) (rx.fec.getD 4 0)).add32 (lneA sc 0x40) (rx.fec.getD 2 0)
  match s.coreOf (groupOf (sc / 2)) with
  | some g => s.add32 (gcrA g 0x54) rx.rptBad
  | none => s

/-- RX_SKEW of the STANDBY device (R405): filtered with gain 1/16, in 1/16 ns; beyond 2 µs the sub-channel is
UNPROTECTED. -/
def State.rxSkew (s : State) (sc : Nat) (d : Int) : State :=
  if s.mgmt.pair.role != .standby then s
  else
    let old : Int := (BitVec.ofNat 32 (s.reg (prtA (0x100 + 4 * sc))).toNat).toInt
    let bits : Int := frameUnits (s.sub sc) * guBits sc
    let d16 := d * 2000000 / bits
    let v := old + roundDiv (d16 - old) 16
    let s := s.setReg (prtA (0x100 + 4 * sc)) (BitVec.ofNat 64 (BitVec.ofInt 32 v).toNat)
    if 32000 < v.natAbs ∧ s.mgmt.pair.unprot.get false sc = false then
      { s with mgmt := { s.mgmt with pair := { s.mgmt.pair with unprot := s.mgmt.pair.unprot.set false sc true } } }.raise
        evPairSkew sc
    else s

/-- The first burst of a terminal after ranging ARRIVED (R108). -/
def State.firstBurst (s : State) (sc t : Nat) : State :=
  if (s.term sc t).first then
    (s.modTerm sc t (fun x => { x with first := false })).raise evTerminalActive (stArg sc t)
  else s

/-- BURST_OUTCOME (R61, R79, R82, R87 to R92, R108 to R113, R138): burst i of roadbook m, once its interval
has come and while it has no outcome. -/
def State.burstOutcome (s : State) (sc m i : Nat) (rx : BurstRx) : State :=
  match (s.sub sc).books.find? (fun k => k.msc == m) with
  | none => s
  | some k =>
    match k.bursts[i]? with
    | none => s
    | some b =>
      if b.outcome.isSome || decide (s.clk.msc + 1 < m + (s.sub sc).len) then s
      else
        let o := s.outcomeOf sc m b rx
        let s := s.writeOutcome sc m i o
        match b.kind with
        | .serial => s
        | .ranging => s
        | _ =>
          let t := b.term
          let s := if o == .arrived then ((s.burstCounts sc rx).burstReports sc m b rx).rxSkew sc rx.offset else s
          let s := s.preloadOutcome sc m b o rx
          s.byLight sc (fun s =>
            let s := s.driftOutcome sc m t o rx.offset
            if o == .arrived then s.firstBurst sc t else s)

/-- Granted slots of a sub-channel on the road, in grant units from milestone 0 on: start and end. Windows are no slots
(R61, R80). -/
def Sub.slots (x : Sub) : List (Nat × Nat) :=
  (x.books.map (fun k => (k.bursts.filter (fun b => b.kind == .data || b.kind == .ploamOnly)).map (fun b =>
    (k.msc * frameUnits x + b.start, k.msc * frameUnits x + b.start + b.len)))).flatten

/-- The slot that starts at p follows another one within the next frame: the burst-reset pin pulses between them
(R80). -/
def Sub.follows (x : Sub) (p : Nat) : Bool :=
  x.slots.any (fun e => decide (e.1 < p ∧ p ≤ e.2 + frameUnits x))

/-- Burst-reset width of a sub-channel in ns, 2 to 64 (R80). -/
def State.brstWidth (s : State) (sc : Nat) : Nat :=
  if sc % 2 = 0 then s.fld (chnA (sc / 2) 0x8) 7 0 else s.fld (chnA (sc / 2) 0x8) 15 8

/-- BURST_RECEPTION (R79, R80, R81): the burst-reset pulse after the preceding slot, the load of the record, and the
level of the signal-detect input. -/
def State.burstReception (s : State) (sc m i : Nat) (rx : BurstRx) : State :=
  let x := s.sub sc
  match x.books.find? (fun k => k.msc == m) with
  | none => s
  | some k =>
    match k.bursts[i]? with
    | none => s
    | some b =>
      if b.received || decide (s.clk.msc + 1 < m + x.len) then s
      else
        let t := (s.modBurst sc m i (fun b => { b with
          received := true, loaded := some ((s.term sc b.term).pre.phase b.prof) })).modSub sc (fun x => { x with sd := rx.sdNow })
        if (b.kind == .data || b.kind == .ploamOnly) && x.follows (m * frameUnits x + b.start) then
          t.emit (.burstReset sc (s.brstWidth sc) (s.bit (chnA (sc / 2) 0x8) (16 + sc % 2)))
        else t

/-! Drains (R55 to R60). -/

/-- Argument of DRAIN_DONE (R66). -/
def drainArg (kind idx : Nat) : Nat := kind * 2 ^ 28 + idx % 2 ^ 24

/-- A shut-down of milestone `e` has come: its milestone has passed, or the device is at restore and it is due no
later than the first roadbook of the new run (R55, R265). -/
def State.come (s : State) (e : Option Nat) : Bool :=
  reached e s.clk.msc || (s.stage == 4 && s.clk.running && reached e (s.clk.msc + 1))

/-- Every outcome of the roadbooks before E of a sub-channel has been written, and milestone E + L − 1 has
come (R55). At restore the road is closed (R64). -/
def State.roadClear (s : State) (sc e : Nat) : Bool :=
  (decide (e + (s.sub sc).len ≤ s.clk.msc + 1) || (s.stage == 4 && s.come (some e))) &&
  (s.sub sc).books.all (fun k => decide (e ≤ k.msc) || k.bursts.all (fun b => b.outcome.isSome))

/-- A tree that drains as an object of its own ends when both sub-channels have ended (R55, R71). -/
def State.treeDrainEnd (s : State) (c : Nat) : State :=
  match s.pon.treeDrain.find? (fun e => e.1 == c) with
  | none => s
  | some (_, e) =>
    let l := max (s.len (2 * c)) (s.len (2 * c + 1))
    if (s.sub (2 * c)).drainE.isNone && (s.sub (2 * c + 1)).drainE.isNone &&
        (decide (e + l ≤ s.clk.msc + 1) || (s.stage == 4 && s.come (some e))) then
      { s with pon := { s.pon with treeDrain := s.pon.treeDrain.filter (fun x => x.1 != c) } }.raise evDrainDone (drainArg 0 c)
    else s

/-- End of a sub-channel's drain (R55, R75). -/
def State.subDrainEnd (s : State) (sc : Nat) : State :=
  let x := s.sub sc
  match x.drainE with
  | none => s
  | some e =>
    if !x.road.busy || !s.roadClear sc e then s
    else
      let y := if x.road == .draining then { x with road := .disabled, drainE := none, discard := false, oos := false }
        else { x with drainE := none, discard := false }
      ((s.setSub sc y).raise evDrainDone (drainArg 1 sc)).treeDrainEnd (sc / 2)

end Sys2Proof.Machine
end

