-- ==== Sys2Proof/Machine/Verify.lean ====
section
/-! DEFINITION. Program images and the firmware verifier (R199 to R210): decoding of instruction words, the
control, tag and bound rules, and the causes of PROGRAM_REJECTED. -/

namespace Sys2Proof.Machine

/-- Fields of an instruction word (R163). -/
def wOp (w : W32) : Nat := bitsOf w.toNat 31 26
def wD (w : W32) : Nat := bitsOf w.toNat 25 21
def wA (w : W32) : Nat := bitsOf w.toNat 20 16
def wB (w : W32) : Nat := bitsOf w.toNat 15 11
def wPr (w : W32) : Nat := bitsOf w.toNat 10 8
def wFn (w : W32) : Nat := bitsOf w.toNat 7 0

/-- The second operand of a vector instruction is legal: SCALAR, or a V register (R173). -/
def yLegal (w : W32) : Bool := wFn w / 16 % 2 == 1 || decide (wB w < 16)

/-- An instruction word raises ILLEGAL (R164, R168 to R195). -/
def illegalWord (w : W32) : Bool :=
  let d := wD w
  let a := wA w
  let b := wB w
  let pr := wPr w
  let fn := wFn w
  let imm := w.toNat % 65536
  !(match wOp w with
    | 0x00 => decide (fn ≤ 0x0F ∧ fn ≠ 0x0B) && pr == 0
    | 0x01 => decide (fn ≤ 5) && pr == 0 && decide (d < 8)
    | 0x02 => decide (fn ≤ 8) && a == 0 && b == 0 && pr == 0
    | 0x04 => true
    | 0x05 => true
    | 0x06 => true
    | 0x07 => true
    | 0x08 => decide (imm < 64)
    | 0x09 => decide (imm < 64)
    | 0x0A => true
    | 0x0B => true
    | 0x0C => true
    | 0x0D => true
    | 0x0E => true
    | 0x10 =>
      decide (fn < 32 ∧ d < 16 ∧ a < 16) && decide (fn % 16 ≤ 0xB) &&
        (if fn % 16 = 0xB then fn == 0xB && b == 0 else yLegal w)
    | 0x11 => decide (fn < 32 ∧ fn % 16 ≤ 5 ∧ d < 8 ∧ a < 16) && yLegal w
    | 0x12 => decide (fn < 32 ∧ fn % 16 ≤ 3 ∧ d < 16 ∧ a < 16) && yLegal w
    | 0x13 => decide (fn < 32 ∧ fn % 16 ≤ 1 ∧ d < 16 ∧ a < 16) && yLegal w
    | 0x14 => decide (fn < 32 ∧ fn % 16 ≤ 1 ∧ d < 16 ∧ a < 16) && yLegal w
    | 0x15 => decide (fn = 0 ∧ d < 16 ∧ a < 16 ∧ b < 16)
    | 0x16 =>
      match fn with
      | 0 => decide (b = 0 ∧ d < 16)
      | 1 => decide (pr = 0 ∧ b < 8 ∧ a < 16)
      | 2 => decide (pr = 0 ∧ b < 8 ∧ d < 16)
      | 3 => decide (a = 0 ∧ b = 0 ∧ d < 16)
      | _ => false
    | 0x17 => decide (fn ≤ 5 ∧ b = 0) && (if fn ≤ 3 then decide (a < 16) else a == 0)
    | 0x18 => decide (d < 16 ∧ a < 16)
    | 0x19 => decide (d < 16 ∧ a = 0)
    | 0x1A => decide (d < 16 ∧ a < 16 ∧ imm < 32)
    | 0x1B => decide (d < 16 ∧ a < 16 ∧ imm < 32)
    | 0x1C => decide (d < 16 ∧ a < 16)
    | 0x20 =>
      if fn ≤ 3 then decide (d < 8 ∧ a < 8 ∧ b < 8)
      else if fn = 4 then decide (d < 8 ∧ a < 8 ∧ b = 0)
      else if fn = 5 then decide (a < 8 ∧ b = 0 ∧ pr = 0)
      else decide (fn = 6 ∧ d < 8 ∧ b = 0)
    | 0x22 => decide (fn < 32 ∧ d % 2 = 0 ∧ d < 16 ∧ a < 16 ∧ b < 16)
    | 0x24 => decide (b = 0 ∧ d < 16)
    | 0x25 => decide (d = 0 ∧ b < 16)
    | 0x30 => decide (a = 0 ∧ w.toNat % 8192 = 0)
    | 0x31 => decide (w.toNat % 8192 = 0)
    | 0x32 => true
    | 0x33 => true
    | 0x34 => decide (a < 16)
    | 0x35 => decide (d = 0 ∧ b = 0 ∧ pr = 0 ∧ fn = 0)
    | 0x36 => decide (w.toNat % 2 ^ 26 = 0)
    | 0x37 => decide (d = 0 ∧ fn = 0 ∧ a < 16 ∧ b < 16)
    | 0x38 =>
      let c := bitsOf w.toNat 25 22
      let n := w.toNat % 2 ^ 19
      decide (c ≤ 4 ∧ 1 ≤ n ∧ n ≤ 16383) && (c != 0 || bitsOf w.toNat 21 19 == 0)
    | 0x39 => decide (bitsOf w.toNat 25 19 = 0 ∧ 1 ≤ w.toNat % 2 ^ 19 ∧ w.toNat % 2 ^ 19 ≤ 4096)
    | 0x3A => decide (w.toNat % 2 ^ 26 = 0)
    | 0x3B => decide (w.toNat % 2 ^ 26 = 0)
    | _ => false)

/-- What the verifier needs of an instruction. -/
inductive PAct where
  /-- writes scalar register d, or none -/
  | plain (d : Option Nat)
  | mem (k : MemKind) (d : Nat) (src : Option Nat)
  /-- SLD and SST: the tag register, and whether only a CLD tag is accepted -/
  | use (r : Nat) (cldOnly : Bool)
  | wait (r : Nat)
  | fence
  | emit
  | br (always : Bool) (n : Nat)
  | loop (n : Nat)
  | endl
  | halt

/-- Decode an instruction word for the verifier. -/
def pact (w : W32) : PAct :=
  match wOp w with
  | 0x16 => .plain (if wFn w = 1 then some (wD w) else none)
  | 0x17 => .plain (some (wD w))
  | 0x20 => .plain (if wFn w = 5 then some (wD w) else none)
  | 0x24 => .use (wA w) false
  | 0x25 => .use (wA w) true
  | 0x30 => .mem .cld (wD w) none
  | 0x31 => .mem .cst (wD w) (some (wA w))
  | 0x32 => .mem .rpt (wD w) none
  | 0x33 => .mem .hnt (wD w) none
  | 0x34 => .mem .tbl (wD w) none
  | 0x35 => .wait (wA w)
  | 0x36 => .fence
  | 0x37 => .emit
  | 0x38 => .br (bitsOf w.toNat 25 22 == 0) (w.toNat % 2 ^ 19)
  | 0x39 => .loop (w.toNat % 2 ^ 13)
  | 0x3A => .endl
  | 0x3B => .halt
  | op => .plain (if op ≤ 0x0E ∧ op ≠ 1 then some (wD w) else none)

/-- Cycles of R167 for an instruction that is no memory instruction, WAIT, FENCE or BR. -/
def plainCost (w : W32) : Nat :=
  match wOp w with
  | 0x00 => if wFn w = 9 ∨ wFn w = 10 then 3 else 1
  | 0x0E => 2
  | 0x10 => if wFn w % 16 = 9 ∨ wFn w % 16 = 10 then 3 else 1
  | 0x17 => if wFn w ≤ 3 then 3 else 1
  | 0x22 => if wFn w / 16 % 2 = 1 then 3 else 2
  | 0x24 => 2
  | 0x25 => 2
  | _ => 1

/-- Worst-case latency and pipeline delay of a kind (R135). -/
def MemKind.worst (m : MemKind) : Nat :=
  match m with
  | .cld => 180
  | .cst => 180
  | .rpt => 180
  | .hnt => 240
  | .tbl => 320
def MemKind.pipe (m : MemKind) : Nat :=
  match m with
  | .cld => 52
  | .cst => 52
  | .rpt => 116
  | .hnt => 176
  | .tbl => 32

/-- The four kinds of R210: CLD with CST, RPT, HNT, TBL. -/
def MemKind.idx (m : MemKind) : Nat :=
  match m with
  | .cld => 0
  | .cst => 0
  | .rpt => 1
  | .hnt => 2
  | .tbl => 3
def kindOf (i : Nat) : MemKind :=
  match i with
  | 0 => .cld
  | 1 => .rpt
  | 2 => .hnt
  | _ => .tbl

/-- The tag a register may hold: its instruction, kind, and whether it is complete (R206). -/
structure RTag where
  site : Nat
  kind : MemKind
  done : Bool
  deriving DecidableEq, Repr

/-- The verifier's state along a path (R206, R207). -/
structure Abs where
  /-- operations that may be outstanding: instruction index and largest remaining latency -/
  out : SMap Nat := []
  /-- what each scalar register may hold: a tag, or `none` for a value that is no tag -/
  regs : SMap (List (Option RTag)) := []
  /-- what a WAIT in a loop was charged at its first execution for a tag issued before the loop, plus 1; key
  2^20 × first instruction of the body + instruction of the WAIT -/
  first : SMap Nat := []
  deriving DecidableEq, Repr

def Abs.reg (a : Abs) (r : Nat) : List (Option RTag) := a.regs.get [none] r

/-- The worst of two states (R207). -/
def Abs.join (a b : Abs) : Abs :=
  { first := b.first.foldl (fun m e => m.set 0 e.1 (max (m.get 0 e.1) e.2)) a.first
    out := b.out.foldl (fun m e => m.set 0 e.1 (max (m.get 0 e.1) e.2)) a.out
    regs := (List.range 32).foldl (fun m r =>
      m.set [none] r ((b.reg r).foldl (fun l x => if l.contains x then l else l ++ [x]) (a.reg r))) [] }

/-- `n` cycles pass. -/
def Abs.pass (a : Abs) (n : Nat) : Abs := { a with out := a.out.mapAll (fun _ => 0) (fun _ x => x - n) }

/-- Another instruction writes a register. -/
def Abs.kill (a : Abs) (d : Nat) : Abs := { a with regs := a.regs.set [none] d [none] }

/-- What holds at a point: the state, the largest occupancy and context cost, the smallest occupancy, the
largest number of operations of each kind, and the numbers of memory instructions possible (bit n: n). -/
structure Pt where
  abs : Abs
  occ : Nat
  cost : Nat
  least : Nat
  n0 : Nat
  n1 : Nat
  n2 : Nat
  n3 : Nat
  cnt : Nat
  deriving DecidableEq, Repr

/-- Two paths meet. -/
def Pt.join (x y : Pt) : Pt :=
  ⟨x.abs.join y.abs, max x.occ y.occ, max x.cost y.cost, min x.least y.least,
   max x.n0 y.n0, max x.n1 y.n1, max x.n2 y.n2, max x.n3 y.n3, x.cnt ||| y.cnt⟩

def joinO (x y : Option Pt) : Option Pt :=
  match x, y with
  | none, b => b
  | a, none => a
  | some a, some b => some (a.join b)

/-- Sums of two sets of numbers, each a bit mask, kept below 65. -/
def sumset (a b : Nat) : Nat :=
  (List.range 65).foldl (fun m i => if a.testBit i then (m ||| b <<< i) % 2 ^ 65 else m) 0

/-- The n-fold sum of a set with itself. -/
def sumPow (fuel n a : Nat) : Nat :=
  match fuel with
  | 0 => 1
  | k + 1 =>
    if n = 0 then 1
    else
      let h := sumPow k (n / 2) a
      if n % 2 = 0 then sumset h h else sumset a (sumset h h)

/-- One instruction of `c` cycles passes on a path. -/
def Pt.step (p : Pt) (c : Nat) : Pt :=
  { p with abs := p.abs.pass c, occ := p.occ + c, cost := p.cost + c + 3, least := p.least + c }

/-- A memory instruction enters the counts. -/
def Pt.count (p : Pt) (k : MemKind) : Pt :=
  match k.idx with
  | 0 => { p with n0 := p.n0 + 1, cnt := p.cnt * 2 % 2 ^ 65 }
  | 1 => { p with n1 := p.n1 + 1, cnt := p.cnt * 2 % 2 ^ 65 }
  | 2 => { p with n2 := p.n2 + 1, cnt := p.cnt * 2 % 2 ^ 65 }
  | _ => { p with n3 := p.n3 + 1, cnt := p.cnt * 2 % 2 ^ 65 }

/-- What the analysis of a region gives: what holds at its end, what holds at its HALTs, offences against
R206, and the counts before each memory instruction. -/
structure Reg where
  fin : Option Pt := none
  halt : Option Pt := none
  tags : List Nat := []
  pre : List (Nat × Nat) := []

/-- Where the analysis looks: the words, the latency of each kind, the stall charged to each kind, and the bodies of
the loops around (first instruction and ENDL), outermost first. -/
structure Look where
  word : Nat → W32
  lat : MemKind → Nat
  stall : MemKind → Nat
  loops : List (Nat × Nat) := []

/-- Inside a loop body. -/
def Look.within (l : Look) (a e : Nat) : Look := { l with loops := l.loops ++ [(a, e)] }

/-- An instruction lies in a loop body. -/
def inBody (a e pc : Nat) : Bool := decide (a ≤ pc ∧ pc ≤ e)

/-- The tag of this instruction was issued before a loop around (R207): the key of its charge at the WAIT's first
execution, for the outermost such loop. -/
def Look.outside (l : Look) (pc site : Nat) : Option Nat :=
  (l.loops.find? (fun b => !inBody b.1 b.2 site)).map (fun b => b.1 * 2 ^ 20 + pc)

/-- The charges of first executions in a loop are forgotten, as it is entered and as it is left. -/
def Abs.fresh (a : Abs) (body : Nat) : Abs := { a with first := a.first.keep (fun k => k / 2 ^ 20 != body) }

/-- A tag register is good for SLD, SST or CST (R206). -/
def Abs.good (a : Abs) (r : Nat) (cldOnly : Bool) : Bool :=
  (a.reg r).all (fun x => match x with
    | none => false
    | some t => t.done && t.kind != .cst && (!cldOnly || t.kind == .cld))

/-- Remaining latency that a WAIT at `pc` is charged for one tag (R207): where the tag was issued before a loop around,
that of the WAIT's first execution. -/
def Look.remTag (l : Look) (pc : Nat) (a : Abs) (t : RTag) : Nat :=
  let now := if t.done then 0 else a.out.get 0 t.site
  match l.outside pc t.site with
  | none => now
  | some k => if a.first.get 0 k = 0 then now else a.first.get 0 k - 1

/-- Largest remaining latency of the tags a register may hold (R207). -/
def Look.remOf (l : Look) (pc : Nat) (a : Abs) (r : Nat) : Nat :=
  (a.reg r).foldl (fun n x => match x with
    | none => n
    | some t => max n (l.remTag pc a t)) 0

/-- The charges of a WAIT at its first execution are kept. -/
def Look.keepFirst (l : Look) (pc : Nat) (a : Abs) (r : Nat) : SMap Nat :=
  (a.reg r).foldl (fun m x => match x with
    | none => m
    | some t =>
      match l.outside pc t.site with
      | none => m
      | some k => if a.first.get 0 k = 0 then m.set 0 k (max (m.get 0 k) (l.remTag pc a t + 1)) else m) a.first

/-- Tags become complete in one register, or in every register. -/
def Abs.complete (a : Abs) (r : Nat) : Abs :=
  { a with regs := a.regs.set [none] r ((a.reg r).map (fun x => x.map (fun t => { t with done := true }))) }
def Abs.completeAll (a : Abs) : Abs := (List.range 32).foldl (fun a r => a.complete r) a

/-- The effect of one instruction that is no branch, loop or HALT. -/
def Look.plain (l : Look) (pc : Nat) (p : Pt) : Pt × List Nat :=
  let w := l.word pc
  match pact w with
  | .plain d =>
    let q := p.step (plainCost w)
    (match d with
     | some r => { q with abs := q.abs.kill r }
     | none => q, [])
  | .mem k d src =>
    let bad := match src with
      | some r => if p.abs.good r true then [] else [pc]
      | none => []
    let c := 1 + l.stall k
    let q := (p.step c).count k
    let abs := { q.abs with out := q.abs.out.set 0 pc (max (q.abs.out.get 0 pc) (l.lat k - c)) }
    let abs := if d = 0 then abs else { abs with regs := abs.regs.set [none] d [some ⟨pc, k, false⟩] }
    ({ q with abs := abs }, bad)
  | .use r cldOnly => (p.step (plainCost w), if p.abs.good r cldOnly then [] else [pc])
  | .wait r =>
    let q := p.step (1 + l.remOf pc p.abs r)
    ({ q with abs := { q.abs.complete r with first := l.keepFirst pc p.abs r } }, [])
  | .fence =>
    let q := p.step (1 + p.abs.out.foldl (fun n e => max n e.2) 0)
    ({ q with abs := q.abs.completeAll }, [])
  | _ => (p.step 1, [])

/-- Index of the ENDL that matches a LOOP whose body starts at `pc` (R205). -/
def matchEndl (word : Nat → W32) (fuel pc stop depth : Nat) : Option Nat :=
  match fuel with
  | 0 => none
  | n + 1 =>
    if stop ≤ pc then none
    else
      match pact (word pc) with
      | .loop _ => matchEndl word n (pc + 1) stop (depth + 1)
      | .endl => if depth = 0 then some pc else matchEndl word n (pc + 1) stop (depth - 1)
      | _ => matchEndl word n (pc + 1) stop depth

/-- Repeat a loop body until the state at its ENDL no longer changes (R207). -/
def settle (fuel : Nat) (body : Pt → Reg) (x : Pt) (a : Abs) : Abs :=
  match fuel with
  | 0 => a
  | n + 1 =>
    match (body { x with abs := a }).fin with
    | none => a
    | some y =>
      let b := a.join y.abs
      if b = a then a else settle n body x b

/-- Add the counts of a point to what leads to it. -/
def Pt.after (base : Pt) (x : Pt) : Pt :=
  { x with occ := base.occ + x.occ, cost := base.cost + x.cost, least := base.least + x.least
           n0 := base.n0 + x.n0, n1 := base.n1 + x.n1, n2 := base.n2 + x.n2, n3 := base.n3 + x.n3
           cnt := sumset base.cnt x.cnt }

/-- `k` further iterations with the costs of `x`. -/
def Pt.times (base x : Pt) (k : Nat) : Pt :=
  { x with occ := base.occ + k * x.occ, cost := base.cost + k * x.cost, least := base.least + k * x.least
           n0 := base.n0 + k * x.n0, n1 := base.n1 + k * x.n1, n2 := base.n2 + k * x.n2, n3 := base.n3 + k * x.n3
           cnt := sumset base.cnt (sumPow 13 k x.cnt) }

/-- A point with no cost yet and one state. -/
def Pt.zero (a : Abs) : Pt := ⟨a, 0, 0, 0, 0, 0, 0, 0, 1⟩

/-- What holds after n iterations of a loop, from what a later iteration leaves (R207): an operation issued before the
loop has had every iteration to complete in. -/
def Pt.leave (f2 : Pt) (a e n : Nat) : Abs :=
  { f2.abs with out := f2.abs.out.mapAll (fun _ => 0) (fun k x => if inBody a e k then x else x - (n - 2) * f2.least) }

/-- A loop of n iterations over the body from `a` to its ENDL at `e` (R206, R207): the first from the entry state, the
later ones from the worst state at its ENDL. -/
def loopReg (a e : Nat) (body : Pt → Reg) (n : Nat) (p : Pt) : Reg :=
  let r1 := body (Pt.zero p.abs)
  let one : Reg := { fin := r1.fin.map p.after, halt := r1.halt.map p.after, tags := r1.tags
                     pre := r1.pre.map (fun e => (e.1, sumset p.cnt e.2)) }
  match r1.fin with
  | none => one
  | some f1 =>
    let star := settle 100000 body (Pt.zero f1.abs) f1.abs
    let r2 := body (Pt.zero star)
    if n ≤ 1 then { one with tags := r1.tags ++ r2.tags }
    else
      match r2.fin with
      | none =>
        { one with fin := none, halt := joinO one.halt (r2.halt.map (p.after f1).after), tags := r1.tags ++ r2.tags
                   pre := one.pre ++ r2.pre.map (fun e => (e.1, sumset (sumset p.cnt f1.cnt) e.2)) }
      | some f2 =>
        let early := r2.halt.map (p.after f1).after
        let late := r2.halt.map (((p.after f1).times f2 (n - 2)).after)
        let reach := sumset (sumset p.cnt f1.cnt) (sumPow 13 (n - 2) (f2.cnt ||| 1))
        { fin := some { (p.after f1).times f2 (n - 1) with abs := f2.leave a e n }
          halt := joinO one.halt (joinO early late)
          tags := r1.tags ++ r2.tags
          pre := one.pre ++ r2.pre.map (fun e => (e.1, sumset reach e.2)) }

/-- Walk the instructions from `pc` to `stop`: `sub` analyses a loop body; `joins` holds what taken branches
bring to later instructions. -/
def walk (l : Look) (sub : Nat → Nat → Pt → Reg) (fuel pc stop : Nat) (cur : Option Pt) (joins : SMap (Option Pt))
    (acc : Reg) : Reg :=
  let cur := joinO cur (joins.get none pc)
  match fuel with
  | 0 => { acc with fin := cur }
  | k + 1 =>
    if stop ≤ pc then { acc with fin := cur }
    else
      match cur with
      | none => walk l sub k (pc + 1) stop none joins acc
      | some p =>
        match pact (l.word pc) with
        | .halt => walk l sub k (pc + 1) stop none joins { acc with halt := joinO acc.halt (some (p.step 1)) }
        | .br always n =>
          let joins := joins.set none (pc + n) (joinO (joins.get none (pc + n)) (some (p.step 2)))
          walk l sub k (pc + 1) stop (if always then none else some (p.step 1)) joins acc
        | .loop n =>
          match matchEndl l.word stop (pc + 1) stop 0 with
          | none => walk l sub k (pc + 1) stop none joins acc
          | some e =>
            let q := p.step 1
            let r := loopReg (pc + 1) e (sub (pc + 1) e) n { q with abs := q.abs.fresh (pc + 1) }
            let fin := r.fin.map (fun x => { x with abs := x.abs.fresh (pc + 1) })
            walk l sub k (pc + 1) stop none (joins.set none (e + 1) (joinO (joins.get none (e + 1)) fin))
              { acc with halt := joinO acc.halt r.halt, tags := acc.tags ++ r.tags, pre := acc.pre ++ r.pre }
        | .mem _ _ _ =>
          match l.plain pc p with
          | (q, bad) =>
            walk l sub k (pc + 1) stop (some q) joins
              { acc with tags := acc.tags ++ bad, pre := acc.pre ++ [(pc, p.cnt)] }
        | _ =>
          match l.plain pc p with
          | (q, bad) => walk l sub k (pc + 1) stop (some q) joins { acc with tags := acc.tags ++ bad }

/-- A loop body from `a` to its ENDL at `e`, the ENDL's cycle included; `d` loops may be nested in it. -/
def bodyReg (l : Look) (d : Nat) (a e : Nat) (p : Pt) : Reg :=
  match d with
  | 0 => {}
  | k + 1 =>
    let l := l.within a e
    let r := walk l (fun a e p => bodyReg l k a e p) (e - a + 1) a e (some p) [] {}
    { r with fin := r.fin.map (fun x => x.step 1) }

/-- The analysis of one extent. -/
def extentReg (l : Look) (a len : Nat) : Reg :=
  walk l (fun a e p => bodyReg l 4 a e p) (len + 1) a (a + len) (some (Pt.zero {})) [] {}

/-- Body of the innermost loop around each instruction, as the index of its LOOP plus 1, 0 outside (R205);
`err` lists offences of nesting. -/
def nest (word : Nat → W32) (fuel pc stop : Nat) (stack : List Nat) (m : SMap Nat) (err : List Nat) : SMap Nat × List Nat :=
  match fuel with
  | 0 => (m, err ++ stack.map (fun x => x - 1))
  | k + 1 =>
    if stop ≤ pc then (m, err ++ stack.map (fun x => x - 1))
    else
      let m := m.set 0 pc (stack.headD 0)
      match pact (word pc) with
      | .loop _ => nest word k (pc + 1) stop ((pc + 1) :: stack) m (if 4 ≤ stack.length then err ++ [pc] else err)
      | .endl =>
        match stack with
        | [] => nest word k (pc + 1) stop [] m (err ++ [pc])
        | _ :: r => nest word k (pc + 1) stop r m err
      | _ => nest word k (pc + 1) stop stack m err

/-- Instructions that a path can reach (R205). -/
def reach (word : Nat → W32) (fuel pc stop : Nat) (cur : Bool) (joins : SMap Bool) (acc : List Nat) : List Nat :=
  match fuel with
  | 0 => acc
  | k + 1 =>
    if stop ≤ pc then acc
    else
      let cur := cur || joins.get false pc
      if !cur then reach word k (pc + 1) stop false joins acc
      else
        match pact (word pc) with
        | .halt => reach word k (pc + 1) stop false joins (acc ++ [pc])
        | .br always n => reach word k (pc + 1) stop (!always) (joins.set false (pc + n) true) (acc ++ [pc])
        | _ => reach word k (pc + 1) stop true joins (acc ++ [pc])

/-- Offences of one extent against R205. -/
def controlBad (word : Nat → W32) (a len : Nat) : List Nat :=
  match nest word (len + 1) a (a + len) [] [] [] with
  | (m, err) =>
    let brs := (List.range len).filterMap (fun i =>
      let pc := a + i
      match pact (word pc) with
      | .br _ n =>
        if a + len ≤ pc + n || m.get 0 (pc + n) != m.get 0 pc then some pc else none
      | _ => none)
    let last := a + len - 1
    let off := match pact (word last) with
      | .halt => []
      | .br true _ => []
      | _ => if (reach word len a (a + len) true [] []).contains last then [last] else []
    err ++ brs ++ off

/-- Smallest number of a list. -/
def minOf (l : List Nat) : Option Nat :=
  match l with
  | [] => none
  | x :: r => some (r.foldl min x)

/-- A program image's header and sections (R199, R200). -/
structure Image where
  prog : Prog
  ctxBound : Nat
  planClaim : Nat
  entryClaim : Nat
  deriving DecidableEq, Repr

/-- Words of a section as a map. -/
def wordMap (n w off : Nat) (l : List Nat) : SMap Nat :=
  (List.range n).foldl (fun m i => m.set 0 i (leAt l (off + w * i) w)) []

/-- Start of the constant section (R200). -/
def constAt (insn : Nat) : Nat := 96 + 8 * ((insn + 1) / 2)

/-- Image length that the header's counts give (R200). -/
def imageLen (insn const : Nat) : Nat := if const = 0 then 96 + 4 * insn else constAt insn + 8 * const

/-- The image as loaded into a slot. -/
def readImage (l : List Nat) (reduced : Bool) : Image :=
  let insn := leAt l 8 2
  let const := leAt l 10 2
  { prog := { loaded := true
              insn := (List.range insn).foldl (fun m i => m.set 0#32 i (BitVec.ofNat 32 (leAt l (96 + 4 * i) 4))) []
              const := (List.range const).foldl (fun m i =>
                m.set 0#64 i (BitVec.ofNat 64 (leAt l (constAt insn + 8 * i) 8))) []
              planStart := leAt l 12 2, planLen := leAt l 14 2, instStart := leAt l 16 2, instLen := leAt l 18 2
              retStart := leAt l 20 2, retLen := leAt l 22 2
              digest := sliceB l 64 32, reduced := reduced }
    ctxBound := leAt l 24 4, planClaim := leAt l 28 2, entryClaim := leAt l 30 2 }

/-- Cause 0x01 HEADER (R204). -/
def headerBad (l : List Nat) : Bool :=
  let insn := leAt l 8 2
  let const := leAt l 10 2
  decide (l.length < 96) || leAt l 0 4 != 0x50504C31 || leAt l 4 2 != 1 || leAt l 6 2 != 0 ||
  decide (insn < 1 ∨ 16384 < insn ∨ 2048 < const) || leAt l 40 24 != 0 || l.length != imageLen insn const ||
  (const != 0 && insn % 2 == 1 && leAt l (96 + 4 * insn) 4 != 0)

/-- Cause 0x02 DIGEST (R199, R204). DESIGN CHOICE: the padding between the sections (R200) is part of what is
digested. -/
def digestBad (l : List Nat) : Bool := sm3 (l.take 64 ++ l.drop 96) != sliceB l 64 32

/-- The extents that are not empty. -/
def Prog.extents (p : Prog) : List (Nat × Nat) :=
  [(p.planStart, p.planLen), (p.instStart, p.instLen), (p.retStart, p.retLen)].filter (fun e => e.2 != 0)

/-- Two extents overlap. -/
def overlap (a b : Nat × Nat) : Bool := decide (a.1 < b.1 + b.2 ∧ b.1 < a.1 + a.2)

/-- Cause 0x03 EXTENT (R204). -/
def extentBad (p : Prog) (insn : Nat) : Bool :=
  p.planLen == 0 || (p.instLen == 0 && p.instStart != 0) || (p.retLen == 0 && p.retStart != 0) ||
  p.extents.any (fun e => decide (insn < e.1 + e.2)) ||
  overlap (p.planStart, p.planLen) (p.instStart, p.instLen) ||
  overlap (p.planStart, p.planLen) (p.retStart, p.retLen) ||
  overlap (p.instStart, p.instLen) (p.retStart, p.retLen)

/-- Instruction word i of a program. -/
def Prog.word (p : Prog) (i : Nat) : W32 := p.insn.get 0 i

/-- Largest number of operations of kind i on any path. -/
def Reg.kindMax (r : Reg) (i : Nat) : Nat :=
  match r.halt with
  | none => 0
  | some p => match i with
    | 0 => p.n0
    | 1 => p.n1
    | 2 => p.n2
    | _ => p.n3

def Reg.leastOcc (r : Reg) : Nat := match r.halt with
  | none => 0
  | some p => p.least
def Reg.maxOcc (r : Reg) : Nat := match r.halt with
  | none => 0
  | some p => p.occ
def Reg.maxCost (r : Reg) : Nat := match r.halt with
  | none => 0
  | some p => p.cost

/-- n ÷ d rounded up. -/
def ceilDiv (n d : Nat) : Nat := (n + d - 1) / d

/-- Kinds charged with stalls (R210). -/
def Prog.stalls (p : Prog) (i : Nat) : Bool :=
  let l : Look := { word := p.word, lat := MemKind.pipe, stall := fun _ => 0 }
  let rp := extentReg l p.planStart p.planLen
  let ents := [(p.instStart, p.instLen), (p.retStart, p.retLen)].filter (fun e => e.2 != 0)
  let res := ents.map (fun e => extentReg l e.1 e.2)
  let lat := (kindOf i).worst
  let nP := rp.kindMax i
  let nE := res.foldl (fun n r => max n (r.kindMax i)) 0
  let wP := 1 + ceilDiv lat rp.leastOcc
  let oE := match res with
    | [] => 1
    | r :: rest => rest.foldl (fun n x => min n x.leastOcc) r.leastOcc
  let wE := 1 + ceilDiv lat oE
  decide ((kindOf i).cap < 4 * nP * wP + nE * wE)

/-- The look with which bounds are computed (R207, R210). -/
def Prog.look (p : Prog) : Look :=
  let s0 := p.stalls 0
  let s1 := p.stalls 1
  let s2 := p.stalls 2
  let s3 := p.stalls 3
  { word := p.word
    lat := MemKind.worst
    stall := fun k =>
      if (match k.idx with
          | 0 => s0
          | 1 => s1
          | 2 => s2
          | _ => s3) then k.worst else 0 }

/-- Computed bounds (R208, R209): context bound, PLAN bound, INSTALL bound, RETIRE bound. -/
structure Bounds where
  ctx : Nat
  plan : Nat
  inst : Nat
  ret : Nat
  deriving DecidableEq, Repr

def Prog.bounds (p : Prog) : Bounds :=
  let l := p.look
  let c := (extentReg l p.planStart p.planLen).maxCost
  ⟨c, ceilDiv c 4, if p.instLen = 0 then 0 else (extentReg l p.instStart p.instLen).maxOcc,
   if p.retLen = 0 then 0 else (extentReg l p.retStart p.retLen).maxOcc⟩

/-- The first cause that rejects an image (R204), with its instruction index, or the program with its bounds.
DESIGN CHOICE: CTX_BOUND is not compared when B itself is above its limit, as PLAN_BOUND is not. -/
def verify (l : List Nat) (reduced : Bool) : Except (Nat × Nat) Prog :=
  let none32 := 0xFFFF_FFFF
  if headerBad l then .error (1, none32)
  else if digestBad l then .error (2, none32)
  else
    let im := readImage l reduced
    let p := im.prog
    if extentBad p (leAt l 8 2) then .error (3, none32)
    else
      let idx := (p.extents.map (fun e => (List.range e.2).map (fun i => e.1 + i))).flatten
      match minOf (idx.filter (fun i => illegalWord (p.word i))) with
      | some i => .error (4, i)
      | none =>
        match minOf ((p.extents.map (fun e => controlBad p.word e.1 e.2)).flatten) with
        | some i => .error (5, i)
        | none =>
          let regs := p.extents.map (fun e => extentReg p.look e.1 e.2)
          match minOf ((regs.map (fun r => r.tags)).flatten) with
          | some i => .error (6, i)
          | none =>
            match minOf (((regs.map (fun r => r.pre)).flatten.filter (fun e => e.2.testBit 64)).map (fun e => e.1)) with
            | some i => .error (7, i)
            | none =>
              match minOf (idx.filter (fun i => wOp (p.word i) == 0x37 &&
                  !decide (p.planStart ≤ i ∧ i < p.planStart + p.planLen))) with
              | some i => .error (8, i)
              | none =>
                let b := p.bounds
                let e := max b.inst b.ret
                let planBig := decide (48000 < b.plan) || (decide (136 < b.plan) && !reduced)
                if (!planBig && (im.ctxBound != b.ctx || im.planClaim != b.plan)) ||
                    (decide (e ≤ 8192) && im.entryClaim != e) then .error (9, none32)
                else if planBig then .error (0x0A, none32)
                else if 8192 < e then .error (0x0B, none32)
                else .ok { p with planBound := b.plan, instBound := b.inst, retBound := b.ret }

/-- BATCH_CAP under a PLAN bound (R211); the null program's bound of 0 holds 1,408. -/
def batchCap (b : Nat) : Nat := if b = 0 then 1408 else min 1408 (4 * (48000 / b))

end Sys2Proof.Machine
end

