-- ==== Sys2Proof/Machine/CmdUnit.lean ====
section
/-! DEFINITION. Families 0x03 and 0x07: allocation units, hints, ledger rows, programs and shared tables
(R126, R132, R140 to R142, R199 to R222, R246). -/

namespace Sys2Proof.Machine

/-! Maintenance windows (R132, R216). -/

/-- The program that runs entries of this kind in W(e) (R133, R216). -/
def State.entryProg (s : State) (q : Nat) (k : EntryKind) (e : Nat) : Prog :=
  let x := s.group q
  let new := x.shadow == .armed && (if k == .retire then decide (x.swapMsc < e) else decide (x.swapMsc ≤ e))
  x.prog (if new then 1 - x.active else x.active)

/-- Cycles that an entry books (R132, R209). -/
def Prog.entryCost (p : Prog) : Nat := max p.instBound p.retBound + 32

/-- Cycles booked by a pending change in W(e) of group q. -/
def State.changeCost (s : State) (q e : Nat) (p : Pend) : Nat :=
  if p.e != e then 0
  else
    match p.change with
    | .unitInstall u => if (s.unit u).group = q then (s.entryProg q .install e).entryCost else 0
    | .unitRetire u _ => if (s.unit u).group = q then (s.entryProg q .retire e).entryCost else 0
    | _ => 0

/-- Cycles booked in W(e) of group q (R132, R157). -/
def State.bookedAt (s : State) (q e : Nat) : Nat := s.deferred.foldl (fun n p => n + s.changeCost q e p) 0

/-- An entry fits into W(e). -/
def State.windowRoom (s : State) (q : Nat) (k : EntryKind) (e : Nat) : Bool :=
  decide (s.bookedAt q e + (s.entryProg q k e).entryCost ≤ 56000)

/-- The first milestone from e on whose window has room (R132). -/
def State.findRoom (s : State) (q : Nat) (k : EntryKind) (fuel e : Nat) : Option Nat :=
  match fuel with
  | 0 => none
  | n + 1 => if s.windowRoom q k e then some e else s.findRoom q k n (e + 1)

/-- The effective milestone of a command that books an entry, no earlier than `low` (R45, R132, R256), or the
status it completes with. -/
def State.resolveEntry (s : State) (rp : Option ExecRec) (c : Desc) (q : Nat) (k : EntryKind) (low : Nat) :
    Except Nat Nat :=
  match s.resolveE rp c with
  | .error n => .error n
  | .ok e =>
    if rp.isSome then .ok e
    else
      let e := max e low
      if c.effect = 0 then
        match s.findRoom q k 65536 e with
        | some x => .ok x
        | none => .error stNoRoom
      else if s.windowRoom q k e then .ok e else .error stNoRoom

/-- Every window from W(e) on holds its bookings (R215 to R217). -/
def State.windowsFit (s : State) (q e : Nat) : Bool :=
  s.deferred.all (fun p => decide (p.e < e) || decide (s.bookedAt q p.e ≤ 56000))

/-! Allocation units. -/

/-- Units that a domain holds (R261). -/
def State.unitsOf (s : State) (d : Nat) : Nat := s.grant.units.countWhere (fun _ x => x.inst && x.dom == d)

/-- BATCH_CAP of a group, the smaller one while a swap is armed (R211, R216). -/
def State.batchCapOf (s : State) (q : Nat) : Nat :=
  let x := s.group q
  let a := batchCap (x.prog x.active).planBound
  if x.shadow == .armed then min a (batchCap (x.prog (1 - x.active)).planBound) else a

/-- Rows of the context pool in use (R125). -/
def State.rowsUsed (s : State) : Nat :=
  (s.grant.laneUnit.foldl (fun (l : Nat × Option Nat) e =>
    if l.2 = some (e.1 / 8) then l else (l.1 + 1, some (e.1 / 8))) (0, none)).1

/-- A batch has a free lane. -/
def State.freeLane (s : State) (q b : Nat) : Option Nat := (List.range 8).find? (fun k => (s.laneUnit q b k).isNone)

/-- Place of a new unit (R126), or the status it completes with. -/
def State.placeUnit (s : State) (q : Nat) : Except Nat (Nat × Nat) :=
  let bound := s.boundBatches q
  match bound.find? (fun b => (s.freeLane q b).isSome) with
  | some b => .ok (b, (s.freeLane q b).getD 0)
  | none =>
    match (List.range (s.batchCapOf q)).find? (fun b => !bound.contains b) with
    | none => .error stAdmission
    | some b => if 131072 ≤ s.rowsUsed then .error stNoRoom else .ok (b, 0)

/-- Put a unit into a lane; its report and hint entries are cleared (R126). -/
def State.bindLane (s : State) (u q b k : Nat) : State :=
  { s with grant := { s.grant with
      laneUnit := s.grant.laneUnit.set none (laneKey q b k) (some u)
      reports := s.grant.reports.del (laneKey q b k)
      hints := s.grant.hints.del (laneKey q b k) } }

/-- Words of a buffer. -/
def wordsOf (l : List Nat) (n : Nat) : List W32 := (List.range n).map (fun i => BitVec.ofNat 32 (leAt l (4 * i) 4))

/-- RESULT0 of INSTALL_UNIT (R242). -/
def State.unitResult (s : State) (u : Nat) : Nat :=
  let x := s.unit u
  (s.coreOf x.group).getD 0 * 2 ^ 24 + x.lane * 2 ^ 16 + x.batch

/-- Place of a new unit: at replay the recorded batch and lane (R265, R398), else the lane rule of R126. -/
def State.placeAt (s : State) (rp : Option ExecRec) (q : Nat) : Except Nat (Nat × Nat) :=
  match rp with
  | some r =>
    let b := r.r0 % 2 ^ 11
    let k := r.r0 / 2 ^ 16 % 8
    if r.status = stDeferred && (s.laneUnit q b k).isNone then .ok (b, k) else s.placeUnit q
  | none => s.placeUnit q

/-- INSTALL_UNIT (R126, R132, R202, R246). -/
def infoInstallUnit : CmdInfo :=
  { op := 0x0301, defer := true, buf := .inpOpt (fun n => n == 48)
    args := fun c => decide (c.n0 < 2 ^ 20) && decide (1024 ≤ c.n1 ∧ c.n1 < 2 ^ 14) && decide (c.n2 % 2 ^ 16 < 384) &&
      decide (c.n2 / 2 ^ 16 < 512) && c.zeroFrom 3 }

def bodyInstallUnit : Body := fun rp c s =>
  let u := c.n0
  let sc := c.n2 % 2 ^ 16
  let t := c.n2 / 2 ^ 16
  let x := s.unit u
  let y := s.term sc t
  let q := groupOf (sc / 2)
  if y.act == .free then bad stNotFound s
  else if y.dom != c.dom || (x.inst && x.dom != c.dom) then bad stDomain s
  else if x.inst && !(x.road == .draining && x.sc == sc && x.term == t && x.alloc == c.n1) then bad stExists s
  else if s.grant.units.any (fun e => e.2.inst && e.1 != u && e.2.sc == sc && e.2.alloc == c.n1) then bad stExists s
  else if s.isProtect (sc / 2) || s.underTest sc t then bad stState s
  else
    match s.resolveEntry rp c q .install 0 with
    | .error n => bad n s
    | .ok e =>
      if !s.pendRoom then bad stNoRoom s
      else if x.inst then
        let r := max e (x.drainE.getD 0 + s.len sc)
        let s := s.setUnit u { x with road := .resuming, resumeR := some r, resumeAcc := some c.acc, installE := some e
                                      entryRun := false, params := wordsOf c.inp 12 }
        (.opened, s.defer c e (.unitInstall u))
      else if c.dom != 0 && decide ((s.domE c.dom).quota.units ≤ s.unitsOf c.dom) then bad stNoRoom s
      else
        match s.placeAt rp q with
        | .error n => bad n s
        | .ok (b, k) =>
          let s := s.setUnit u { inst := true, alloc := c.n1, sc := sc, term := t, dom := c.dom, installE := some e
                                 group := q, batch := b, lane := k, params := wordsOf c.inp 12 }
          let s := (s.bindLane u q b k).defer c e (.unitInstall u)
          (.fin { status := stDeferred, r0 := s.unitResult u, msc := some e }, s)

/-- RETIRE_UNIT (R55, R57, R132, R246). -/
def infoRetireUnit : CmdInfo :=
  { op := 0x0302, defer := true, args := fun c => decide (c.n0 < 2 ^ 20) && decide (c.n1 < 2) && c.zeroFrom 2 }

def bodyRetireUnit : Body := fun rp c s =>
  let x := s.unit c.n0
  if !x.inst then bad stNotFound s
  else if x.dom != c.dom then bad stDomain s
  else if x.retireE.isSome || x.road == .draining then bad stRetired s
  else if x.road == .resuming || s.isProtect (x.sc / 2) then bad stState s
  else
    match s.resolveEntry rp c x.group .retire (x.installE.getD 0) with
    | .error n => bad n s
    | .ok e =>
      if !s.pendRoom then bad stNoRoom s
      else
        let s := s.setUnit c.n0 { x with retireE := some e, discard := decide (c.n1 = 1), entryRun := if x.installE.isSome then x.entryRun else false }
        deferred e (s.defer c e (.unitRetire c.n0 (decide (c.n1 = 1))))

/-- MODIFY_UNIT (R203, R246). -/
def infoModifyUnit : CmdInfo :=
  { op := 0x0303, defer := true, buf := .inp (fun n => n == 48)
    args := fun c => decide (c.n0 < 2 ^ 20) && decide (c.n1 < 4096) && c.zeroFrom 2 }

def bodyModifyUnit : Body := fun rp c s =>
  let x := s.unit c.n0
  if !x.inst then bad stNotFound s
  else if x.dom != c.dom then bad stDomain s
  else if s.isProtect (x.sc / 2) then bad stState s
  else
    match s.resolveE rp c with
    | .error n => bad n s
    | .ok e =>
      if (match x.installE with
          | some i => decide (e < i)
          | none => false) || reached x.retireE e ||
          (reached x.drainE e && !(x.road == .resuming && reached x.resumeR e)) then bad stNotFound s
      else if !s.pendRoom then bad stNoRoom s
      else deferred e (s.defer c e (.unitModify c.n0 c.n1 (wordsOf c.inp 12)))

/-- Take a unit away: its lane is free, and its row is returned when the batch is empty (R125, R55). -/
def State.removeUnit (s : State) (u : Nat) : State :=
  let x := s.unit u
  let s := (List.range 4).foldl (fun s w => s.setRowWord x.group x.batch x.lane w (s.hwWord u w)) s
  { s with grant := { s.grant with
      units := s.grant.units.del u
      laneUnit := s.grant.laneUnit.del (laneKey x.group x.batch x.lane)
      reports := s.grant.reports.del (laneKey x.group x.batch x.lane)
      hints := s.grant.hints.del (laneKey x.group x.batch x.lane) } }

/-- End of a unit's drain (R55). -/
def State.unitDrainEnd (s : State) (u : Nat) : State :=
  let x := s.unit u
  match x.drainE with
  | none => s
  | some e =>
    if !x.road.busy || !s.roadClear x.sc e then s
    else
      let s := if x.road == .draining then s.removeUnit u else s.setUnit u { x with drainE := none, discard := false }
      s.raise evDrainDone (drainArg 3 u)

/-! Hints. -/

/-- Count on the core that plans a group (R157). -/
def State.groupCount (s : State) (q k : Nat) : State :=
  match s.coreOf q with
  | some g => s.gcrCount g k
  | none => s

/-- Write a posting to hint memory (R140). -/
def State.writeHint (s : State) (u demand prio target : Nat) : State :=
  let x := s.unit u
  let k := laneKey x.group x.batch x.lane
  let s := if (s.grant.hints.get {} k).valid then s.groupCount x.group 4 else s
  let h : Hint := { demand := demand, prio := prio, valid := true, target := target % 65536 }
  { s with grant := { s.grant with hints := s.grant.hints.set {} k h } }

/-- Write or queue a posting (R141); in a pair the ACTIVE device sends a hint record first (R396). The answer
says whether it was taken. -/
def State.takeHint (s : State) (u demand prio target : Nat) : Bool × State :=
  let q := (s.unit u).group
  let paired := s.mgmt.pair.role == .active && s.mgmt.pair.st == .paired
  if paired && decide (8192 ≤ s.mgmt.pair.hintCount) then (false, s.groupCount q 9)
  else
    let s := if paired then
        { s with mgmt := { s.mgmt with pair := { s.mgmt.pair with hintCount := s.mgmt.pair.hintCount + 1 } } }.emit
          (.link 4 [u, demand, prio, target])
      else s
    if decide (4000 ≤ s.clk.cycle) && decide (s.clk.cycle < 232000) then
      if 65536 ≤ s.grant.hintQ.length then (false, s.groupCount q 9)
      else (true, { s with grant := { s.grant with hintQ := s.grant.hintQ ++ [⟨u, q, demand, prio, target⟩] } })
    else (true, s.writeHint u demand prio target)

/-- POST_HINT (R42, R140, R221). -/
def infoPostHint : CmdInfo :=
  { op := 0x0304, args := fun c => decide (c.n0 < 2 ^ 20) && decide (c.n1 < 2 ^ 26) && c.zeroFrom 4 }

def bodyPostHint : Body := fun rp c s =>
  let x := s.unit c.n0
  let t := pair64 c.p2 c.p3
  if rp.isSome then ok s
  else if !x.inst then bad stNotFound s
  else if x.dom != c.dom then bad stDomain s
  else if s.clk.msc + 4096 < t then bad stBadArg (s.groupCount x.group 5)
  else if t < s.earliestAck then bad stHorizon (s.add32 (mstA 0x2C) 1)
  else
    match s.takeHint c.n0 (c.n1 % 2 ^ 23) (c.n1 / 2 ^ 23) t with
    | (true, s) => ok s
    | (false, s) => bad stNoRoom s

/-- SET_HINT_VLAN (R222, R246). -/
def infoSetHintVlan : CmdInfo :=
  { op := 0x0305
    args := fun c => decide (c.n0 % 2 ^ 16 < 128) && decide (c.n0 / 2 ^ 16 < 4096) &&
      decide (c.n1 % 2 ^ 8 < 64) && decide (c.n1 / 2 ^ 8 < 2) && c.zeroFrom 2 }

def bodySetHintVlan : Body := fun _ c s =>
  let port := c.n0 % 2 ^ 16
  let vid := c.n0 / 2 ^ 16
  let rest := s.grant.hintVlans.filter (fun e => !(e.1 == port && e.2.1 == vid))
  if c.dom != 0 then bad stDomain s
  else if c.n1 / 2 ^ 8 = 1 then
    if rest.length = s.grant.hintVlans.length then bad stNotFound s
    else ok { s with grant := { s.grant with hintVlans := rest } }
  else if 64 ≤ rest.length then bad stNoRoom s
  else ok { s with grant := { s.grant with hintVlans := rest ++ [(port, vid, c.n1 % 64)] } }

/-- Bytes of a ledger row (R65). -/
def LedgerRow.bytes (r : LedgerRow) : List Nat :=
  ([r.granted, r.arrived, r.empty, r.early, r.late, r.corrupt, r.collided, r.discarded].map
    (fun x => leBytes 4 x.toNat)).flatten

/-- READ_UNIT_LEDGER (R65, R246). -/
def infoReadUnitLedger : CmdInfo :=
  { op := 0x0306, query := true, buf := .out (fun _ => 32), args := fun c => decide (c.n0 < 2 ^ 20) && c.zeroFrom 1 }

def bodyReadUnitLedger : Body := fun _ c s =>
  let x := s.unit c.n0
  if !x.inst then bad stNotFound s
  else if x.dom != c.dom then bad stDomain s
  else ok (s.outBuf c (s.grant.rows.get {} c.n0).bytes)

/-! Programs. -/

end Sys2Proof.Machine

namespace Sys2Proof

/-- Groups of a mask (R246). -/
def Desc.groups (c : Desc) : List Nat :=
  (List.range 96).filter (fun q => (match q / 32 with
    | 0 => c.n0
    | 1 => c.n1
    | _ => c.n2).testBit (q % 32))

end Sys2Proof

namespace Sys2Proof.Machine

/-- Write a slot of a group. -/
def Group.setSlot (x : Group) (slot : Nat) (p : Prog) : Group :=
  if slot = 0 then { x with slot0 := p } else { x with slot1 := p }

/-- Set the shadow slot of every group named. -/
def State.setShadows (s : State) (qs : List Nat) (p : Prog) (h : Shadow) : State :=
  qs.foldl (fun s q => s.modGroup q (fun x => { x.setSlot (1 - x.active) p with shadow := h })) s

/-- LOAD_PROGRAM (R212). -/
def infoLoadProgram : CmdInfo :=
  { op := 0x0701, buf := .inp (fun n => decide (n ≤ 131072))
    args := fun c => !c.groups.isEmpty && decide (c.n3 < 2) && c.zeroFrom 4 }

def bodyLoadProgram : Body := fun _ c s =>
  let qs := c.groups
  if qs.any (fun q => (s.group q).shadow == .armed || (s.group q).shadow == .loaded) then bad stState s
  else
    let p := (readImage c.inp (decide (c.n3 = 1))).prog
    let s := s.setShadows qs p .loaded
    (.opened, { s with grant := { s.grant with verifying := s.grant.verifying ++ [(c.acc, qs)] } })

/-- Digests of the images that count against the limit of 32 (R214). -/
def State.digests (s : State) : List (List Nat) :=
  s.grant.groups.foldl (fun l e =>
    let x := e.2
    let ps := x.prog x.active :: (if x.shadow == .admitted || x.shadow == .armed then [x.prog (1 - x.active)] else [])
    ps.foldl (fun l p => if p.loaded && !l.contains p.digest then l ++ [p.digest] else l) l) []

/-- The verification of a LOAD_PROGRAM ends (R204, R212 to R214). -/
def State.verifyDone (s : State) (acc : Nat) : State :=
  match s.grant.verifying.find? (fun e => e.1 == acc), s.jrnFind acc with
  | some (_, qs), some j =>
    let s := { s with grant := { s.grant with verifying := s.grant.verifying.filter (fun e => e.1 != acc) } }
    match verify j.desc.inp (decide (j.desc.n3 = 1)) with
    | .error (cause, i) => (s.setShadows qs {} .empty).complete acc { status := stRejected, r0 := cause, r1 := i }
    | .ok p =>
      let ds := s.digests
      if !ds.contains p.digest && decide (32 ≤ ds.length) then
        (s.setShadows qs {} .empty).complete acc { status := stNoRoom }
      else (s.setShadows qs { p with image := j.desc.inp } .admitted).complete acc { status := stOk }
  | _, _ => s

/-- ACTIVATE_PROGRAM (R215, R216). -/
def infoActivateProgram : CmdInfo :=
  { op := 0x0702, defer := true, args := fun c => decide (c.n3 = 0) && c.zeroFrom 4 }

/-- Arm the swap of every named group. -/
def State.arm (s : State) (qs : List Nat) (e : Nat) : State :=
  qs.foldl (fun s q => s.modGroup q (fun x => { x with shadow := .armed, swapMsc := e })) s

def bodyActivateProgram : Body := fun rp c s =>
  match s.resolveE rp c with
  | .error n => bad n s
  | .ok e =>
    let qs := c.groups
    if qs.isEmpty then bad stBadArg s
    else if qs.any (fun q => (s.group q).shadow != .admitted) then bad stState s
    else if qs.any (fun q =>
        let x := s.group q
        decide (batchCap (x.prog (1 - x.active)).planBound < (s.boundBatches q).length)) then
      (.fin { status := stRejected, r0 := 0x0C, r1 := 0xFFFF_FFFF }, s)
    else if !s.pendRoom || !qs.all (fun q => (s.arm qs e).windowsFit q e) then bad stNoRoom s
    else deferred e ((s.arm qs e).defer c e (.progActivate qs))

/-- ACTIVATE_PROGRAM with CANCEL (R217). A recorded one disarms with no new check of the milestone or the windows
(R265). -/
def infoActivateProgramCancel : CmdInfo :=
  { op := 0x0702, args := fun c => decide (c.n3 = 1) && c.zeroFrom 4 }

/-- Disarm the swaps of the groups (R217). -/
def State.disarm (s : State) (qs : List Nat) : State :=
  let s := qs.foldl (fun s q => s.modGroup q (fun x => { x with shadow := .admitted, swapMsc := 0 })) s
  { s with deferred := s.deferred.filterMap (fun p => match p.change with
      | .progActivate l =>
        let rest := l.filter (fun q => !qs.contains q)
        if rest.isEmpty then none else some { p with change := .progActivate rest }
      | _ => some p) }

def bodyActivateProgramCancel : Body := fun rp c s =>
  let qs := c.groups
  let e := match qs with
    | q :: _ => (s.group q).swapMsc
    | [] => 0
  if qs.isEmpty then bad stBadArg s
  else if qs.any (fun q => (s.group q).shadow != .armed || (s.group q).swapMsc != e) then bad stState s
  else if rp.isNone && decide (e < s.earliestAck) then bad stHorizon s
  else
    let t := s.disarm qs
    if rp.isNone && !qs.all (fun q => t.windowsFit q e) then bad stNoRoom s else ok t

/-- The armed swaps of E take effect (R215). -/
def State.swapPrograms (s : State) (qs : List Nat) (e : Nat) : State :=
  let s := qs.foldl (fun s q => s.modGroup q (fun x =>
    if x.shadow == .armed && x.swapMsc == e then { x with active := 1 - x.active, shadow := .admitted, swapMsc := 0 }
    else x)) s
  s.raise evProgramSwapped (e % 2 ^ 32)

/-! Shared tables (R142, R220). -/

/-- Write entries to a bank. -/
def bankWrite (m : SMap W32) (first : Nat) (data : List Nat) : SMap W32 :=
  (List.range (data.length / 4)).foldl (fun m i => m.set 0#32 (8 * first + i) (BitVec.ofNat 32 (leAt data (4 * i) 4))) m

/-- Write entries to the bank that the current plan does not read. -/
def State.tableWrite (s : State) (first : Nat) (data : List Nat) : State :=
  let g := s.grant
  let g := if g.tableBank = 0 then { g with table1 := bankWrite g.table1 first data }
    else { g with table0 := bankWrite g.table0 first data }
  { s with grant := { g with tableDirty := g.tableDirty ++ [(first, data.length / 32)]
                             tableCount := g.tableCount + data.length / 32 } }

/-- Write entries to both banks, at replay (R220). -/
def State.tableBoth (s : State) (first : Nat) (data : List Nat) : State :=
  { s with grant := { s.grant with table0 := bankWrite s.grant.table0 first data
                                   table1 := bankWrite s.grant.table1 first data } }

/-- Writes that have waited for this interval execute, in acceptance order (R220). -/
def State.tableRun (fuel : Nat) (s : State) : State :=
  match fuel with
  | 0 => s
  | n + 1 =>
    match s.grant.tableWaits with
    | [] => s
    | w :: r =>
      if s.clk.msc ≤ w.since || 4096 < s.grant.tableCount + w.data.length / 32 then s
      else
        let s := { s with grant := { s.grant with tableWaits := r } }
        ((s.tableWrite w.first w.data).complete w.acc { status := stOk }).tableRun n

/-- WRITE_TABLE (R220). -/
def infoWriteTable : CmdInfo :=
  { op := 0x0703, buf := .inp (fun _ => true)
    args := fun c => decide (c.n0 < 65536) && decide (1 ≤ c.n1 ∧ c.n1 ≤ 128) && decide (c.n0 + c.n1 ≤ 65536) &&
      c.zeroFrom 2 && decide (c.bufLen = 32 * c.n1) }

def bodyWriteTable : Body := fun _ c s =>
  if decide (s.stage < 5) || !s.clk.running then ok (s.tableBoth c.n0 c.inp)
  else if s.grant.tableCopy.isEmpty && decide (s.grant.tableCount + c.n1 ≤ 4096) then
    ok (s.tableWrite c.n0 c.inp)
  else
    (.opened, { s with grant := { s.grant with tableWaits := s.grant.tableWaits ++ [⟨c.acc, c.n0, c.inp, s.clk.msc⟩] } })

/-- The banks exchange at the snapshot (R220): entries written since the last one become visible. -/
def State.tableExchange (s : State) : State :=
  if s.grant.tableDirty.isEmpty then s.tableRun s.grant.tableWaits.length
  else
    { s with grant := { s.grant with tableBank := 1 - s.grant.tableBank, tableCopy := s.grant.tableDirty, tableDirty := [] } }

/-- The copy of the exchanged entries into the other bank has ended (R220). -/
def State.tableCopyDone (s : State) : State :=
  if s.grant.tableCopy.isEmpty then s
  else
    let g := s.grant
    let src := if g.tableBank = 0 then g.table0 else g.table1
    let dst := if g.tableBank = 0 then g.table1 else g.table0
    let dst := g.tableCopy.foldl (fun m e =>
      (List.range (8 * e.2)).foldl (fun m i => m.set 0#32 (8 * e.1 + i) (src.get 0 (8 * e.1 + i))) m) dst
    let g := if g.tableBank = 0 then { g with table1 := dst, tableCopy := [] } else { g with table0 := dst, tableCopy := [] }
    let s := { s with grant := g }
    s.tableRun s.grant.tableWaits.length

/-- READ_TABLE (R220): entries of the bank read by the current plan. -/
def infoReadTable : CmdInfo :=
  { op := 0x0704, query := true, buf := .out (fun c => 32 * c.n1)
    args := fun c => decide (c.n0 < 65536) && decide (1 ≤ c.n1 ∧ c.n1 ≤ 128) && decide (c.n0 + c.n1 ≤ 65536) && c.zeroFrom 2 }

def bodyReadTable : Body := fun _ c s =>
  ok (s.outBuf c ((List.range (8 * c.n1)).map (fun i => leBytes 4 (s.tableWord c.n0 i).toNat)).flatten)

/-- Diagnostic record of a core (R198). -/
def Core.diagBytes (x : Core) : List Nat :=
  [x.diagCause, x.diagWhere] ++ leBytes 2 x.diagPc ++ leBytes 2 x.diagBatch ++ leBytes 2 x.diagCount
    ++ leBytes 4 x.diagInsn.toNat ++ leBytes 4 x.diagMsc.toNat

/-- READ_CORE_DIAG (R198): COUNT is cleared. -/
def infoReadCoreDiag : CmdInfo :=
  { op := 0x0705, query := true, buf := .out (fun _ => 16), args := fun c => decide (c.n0 < 104) && c.zeroFrom 1 }

def bodyReadCoreDiag : Body := fun _ c s =>
  ok ((s.outBuf c (s.core c.n0).diagBytes).modCore c.n0 (fun x => { x with diagCount := 0 }))

/-! Meanings. -/

/-- INSTALL_UNIT. -/
def execInstallUnit (c : Desc) (s : State) : Answer := kept s (runCmd infoInstallUnit bodyInstallUnit c s)
/-- RETIRE_UNIT. -/
def execRetireUnit (c : Desc) (s : State) : Answer := kept s (runCmd infoRetireUnit bodyRetireUnit c s)
/-- MODIFY_UNIT. -/
def execModifyUnit (c : Desc) (s : State) : Answer := kept s (runCmd infoModifyUnit bodyModifyUnit c s)
/-- POST_HINT. -/
def execPostHint (c : Desc) (s : State) : Answer := kept s (runCmd infoPostHint bodyPostHint c s)
/-- SET_HINT_VLAN. -/
def execSetHintVlan (c : Desc) (s : State) : Answer := kept s (runCmd infoSetHintVlan bodySetHintVlan c s)
/-- READ_UNIT_LEDGER. -/
def execReadUnitLedger (c : Desc) (s : State) : Answer := kept s (runCmd infoReadUnitLedger bodyReadUnitLedger c s)
/-- LOAD_PROGRAM. -/
def execLoadProgram (c : Desc) (s : State) : Answer := kept s (runCmd infoLoadProgram bodyLoadProgram c s)
/-- ACTIVATE_PROGRAM. -/
def execActivateProgram (c : Desc) (s : State) : Answer := kept s (runCmd infoActivateProgram bodyActivateProgram c s)
/-- ACTIVATE_PROGRAM with CANCEL. -/
def execActivateProgramCancel (c : Desc) (s : State) : Answer :=
  kept s (runCmd infoActivateProgramCancel bodyActivateProgramCancel c s)
/-- WRITE_TABLE. -/
def execWriteTable (c : Desc) (s : State) : Answer := kept s (runCmd infoWriteTable bodyWriteTable c s)
/-- READ_TABLE. -/
def execReadTable (c : Desc) (s : State) : Answer := kept s (runCmd infoReadTable bodyReadTable c s)
/-- READ_CORE_DIAG. -/
def execReadCoreDiag (c : Desc) (s : State) : Answer := kept s (runCmd infoReadCoreDiag bodyReadCoreDiag c s)
/-- PROGRAM_VERIFICATION_DONE (R212). -/
def execProgramVerificationDone (acc : Nat) (s : State) : Answer := kept s (s.verifyDone acc)
/-- TABLE_COPY_DONE (R220). -/
def execTableCopyDone (s : State) : Answer := kept s s.tableCopyDone

end Sys2Proof.Machine
end

