-- ==== Sys2Proof/Machine/Keys.lean ====
section
/-! DEFINITION. Cipher units, PON key slots, key exchange and MACsec (chapter 12, R349 to R369), and
family 0x06. -/

namespace Sys2Proof.Machine

/-- Change the cipher state. -/
def State.modCph (s : State) (f : CphSt → CphSt) : State := { s with cph := f s.cph }

/-- The SM3 fingerprint of a key, cut to 16 bytes (R364). -/
def keyPrint (key : List Nat) : List Nat := (sm3 key).take 16

/-! PON slots. -/

/-- Slot of the unicast key i (1 or 2) of a terminal (R357). -/
def uniSlot (sc t i : Nat) : Nat := 131072 * scDie sc + (512 * (sc % 96) + t) * 2 + (i - 1)

/-- Slot of the broadcast key i of a sub-channel (R357). -/
def bcastSlot (sc i : Nat) : Nat := 131072 * scDie sc + 98304 + 2 * (sc % 96) + (i - 1)

/-- A PON key slot. -/
def State.keySlot (s : State) (k : Nat) : KeySlot := s.cph.slots.get {} k

/-- Store a PON key slot. -/
def State.setKeySlot (s : State) (k : Nat) (x : KeySlot) : State :=
  s.modCph (fun c => { c with slots := c.slots.set {} k x })

/-- Write a key: the slot keeps the fingerprints of the last four keys (R364). -/
def KeySlot.write (x : KeySlot) (key : List Nat) : KeySlot :=
  { key := some (padTo 16 key), prints := (keyPrint key :: x.prints).take 4 }

/-- A key whose fingerprint matches one of the slot's is refused (R364). -/
def reused (prints : List (List Nat)) (key : List Nat) : Bool := prints.contains (keyPrint key)

/-- Zero a slot: its fingerprints stay (R364). -/
def State.zeroSlot (s : State) (k : Nat) : State := s.setKeySlot k { s.keySlot k with key := none }

/-- Key-exchange state of a terminal. -/
def State.kex (s : State) (sc t : Nat) : KeyEx := s.cph.kex.get {} (512 * sc + t)

/-- Store the key-exchange state of a terminal. -/
def State.setKex (s : State) (sc t : Nat) (x : KeyEx) : State :=
  s.modCph (fun c => { c with kex := c.kex.set {} (512 * sc + t) x })

/-- Free the key slots of a terminal (R99, R101, R107). -/
def State.freeKeys (s : State) (sc t : Nat) : State :=
  ((s.zeroSlot (uniSlot sc t 1)).zeroSlot (uniSlot sc t 2)).setKex sc t {}

/-- Argument of the cipher events: die and slot, sub-channel or unit (R368). -/
def cphArg (die i : Nat) : Nat := die * 2 ^ 30 + i % 2 ^ 20

/-- PON_CNT and MACSEC_CNT of a die (R369). -/
def State.ponCnt (s : State) (d k : Nat) : State := s.add64 (cphA (0x40 * d + 8 + 8 * k)) 1
def State.macCnt (s : State) (e k : Nat) : State := s.add64 (cphA (0x100 + 0x40 * e + 8 + 8 * k)) 1

/-- Cipher settings of a sub-channel. -/
def State.subCph (s : State) (sc : Nat) : SubCipher := s.cph.subs.get {} sc

/-- Store the cipher settings of a sub-channel. -/
def State.setSubCph (s : State) (sc : Nat) (x : SubCipher) : State :=
  s.modCph (fun c => { c with subs := c.subs.set {} sc x })

/-! Credits (R352 to R354). -/

/-- Credits of a sub-channel at its upstream rate and cipher (R352). -/
def cipherCost (rate : Nat) (sm4 : Bool) : Nat :=
  (match rate with
   | 0 => 337
   | 1 => 403
   | 2 => 537
   | _ => 109) * (if sm4 then 3 else 1)

/-- Active cipher units of a class on a die: 352 installed on a tree die, 1,024 on a trunk die (R349). -/
def State.cphUnits (s : State) (cls die : Nat) (p : UnitSt → Bool) : Nat :=
  let n := if cls = 3 then 352 else 1024
  ((List.range n).filter (fun i => p (s.health cls (n * die + i)).st)).length

/-- Units that count as active: those in service, retiring ones among them. -/
def UnitSt.inService (u : UnitSt) : Bool := u == .active || u == .retiring

/-- Budget of a tree die: 100 credits per active unit (R352). -/
def State.budget (s : State) (die : Nat) : Nat := 100 * s.cphUnits 3 die UnitSt.inService

/-- Credits reserved on a tree die (R354). -/
def State.reserved (s : State) (die : Nat) : Nat :=
  s.cph.subs.foldl (fun n e => if scDie e.1 = die then n + e.2.credits else n) 0

/-- Credits that an ENABLE of a sub-channel adds: a reservation it already holds is taken over (R354). -/
def State.creditNeed (s : State) (sc : Nat) : Nat :=
  let x := s.subCph sc
  if x.credits = 0 then cipherCost (s.sub sc).rate x.sm4 else 0

/-- Reserve the cost of a sub-channel (R354). -/
def State.reserve (s : State) (sc : Nat) : State :=
  let x := s.subCph sc
  s.setSubCph sc { x with credits := cipherCost (s.sub sc).rate x.sm4 }

/-- Release the reservation of a sub-channel (R354). -/
def State.release (s : State) (sc : Nat) : State := s.setSubCph sc { s.subCph sc with credits := 0 }

/-- Sub-channels of a die go out of service from the highest index down until the reservation fits (R356). -/
def State.shedCredits (s : State) (die fuel : Nat) : State :=
  match fuel with
  | 0 => s
  | n + 1 =>
    if s.reserved die ≤ s.budget die then s
    else
      let sc := 96 * die + n
      (if (s.subCph sc).credits = 0 then s else (s.release sc).outOfService sc).shedCredits die n

/-- MACSEC_NEED of a trunk die (R349, R369): port u lies on die u / 64. -/
def State.macsecNeed (s : State) (e : Nat) : Nat :=
  let lanes := ((List.range 64).map (fun i =>
    let u := 64 * e + i
    if s.portSecured u then (match (s.uport u).cfg with
      | some (w, _, _) => w
      | none => 0) else 0)).foldl (· + ·) 0
  (lanes * 200000 + 13652) / 13653

/-- A cipher unit leaves service: a free spare of its die joins the active units, or capacity is lost (R356). -/
def State.cipherUnitOut (s : State) (cls u : Nat) (st : UnitSt) : State :=
  let n := if cls = 3 then 352 else 1024
  let die := u / n
  let was := (s.health cls u).st
  let s := s.setUnitSt cls u st
  if !was.inService then s
  else
    match (List.range n).find? (fun i => (s.health cls (n * die + i)).st == .spare) with
    | some i => (s.setUnitSt cls (n * die + i) .active).raise evCipherUnitDetour (cphArg die (u % n))
    | none =>
      if cls = 3 then (s.shedCredits die 96).raise evCipherCapacityLost (cphArg die (u % n))
      else if s.cphUnits 4 die UnitSt.inService < s.macsecNeed die then s.raise evCipherCapacityLost (cphArg die (u % n))
      else s

/-! Key exchange (R358). -/

/-- Send a key request to a terminal (R114); firmware needs an upstream PLOAM for the answer (R145). -/
def State.keyRequest (s : State) (sc t : Nat) : State :=
  (s.ploam sc t plKeyControl [0] s.nextFrame).modSub sc (fun x => { x with
    ploamReq := if x.ploamReq.contains t then x.ploamReq else x.ploamReq ++ [t] })

/-- Start the exchange for a terminal in OPERATION, unless one is open (R358); a STANDBY device takes the keys that the
ACTIVE one accepts (R398). The period that follows the first one is
shortened by a free value, so that terminals are staggered. -/
def State.kexStart (s : State) (sc t : Nat) : State :=
  let x := s.kex sc t
  if s.standby || (s.term sc t).act != .operation || x.openMiss.isSome then s
  else
    let first := x.started = 0
    (s.setKex sc t { x with openMiss := some 0, started := s.clk.msc
                            stag := if first then Config.rekeyStagger (512 * sc + t) else 0 }).keyRequest sc t

/-- The exchange ends without a new key: the current one stays in force (R358). -/
def State.kexFail (s : State) (sc t : Nat) : State :=
  (s.setKex sc t { s.kex sc t with openMiss := none }).raise evKeyExchangeFail (cphArg (scDie sc) sc)

/-- One miss: the request is repeated, and after three the exchange fails (R358). -/
def State.kexMiss (s : State) (sc t : Nat) : State :=
  let x := s.kex sc t
  match x.openMiss with
  | none => s
  | some n =>
    if n + 1 < 3 then (s.setKex sc t { x with openMiss := some (n + 1), started := s.clk.msc }).keyRequest sc t
    else s.kexFail sc t

/-- PON key slots that a domain uses (R357, R261). -/
def State.keysOf (s : State) (d : Nat) : Nat :=
  2 * s.cph.kex.countWhere (fun k x => x.used && (s.term (k / 512) (k % 512)).dom == d)

/-- Index not in use: the one that is neither in force nor still to come. -/
def KeyEx.other (x : KeyEx) : Nat :=
  let cur := match x.switch with
    | some (_, i) => i
    | none => x.inForce
  if cur = 1 then 2 else 1

/-- Both slots of a terminal are in use: a switch is to come, or the old key still stands for the frames on the road
(R358, R366). -/
def KeyEx.full (x : KeyEx) : Bool := x.switch.isSome || x.zeroAt.isSome

/-- A unicast key is accepted: it is written to the slot of index i, and comes into force at milestone w (R358). -/
def State.takeKey (s : State) (sc t i w : Nat) (key : List Nat) : State :=
  let k := uniSlot sc t i
  (s.setKeySlot k ((s.keySlot k).write key)).setKex sc t { s.kex sc t with openMiss := none, used := true, switch := some (w, i) }

/-- A Key_Report (R358, R364): the key goes to the slot of the index not in use; downstream switches to it 16
milestones later, after the standard's switching notice. DEDUCED: while both slots are in use (R366) the report is discarded, and the request is repeated at its timeout. -/
def State.keyReport (s : State) (sc t : Nat) (key : List Nat) : State :=
  let x := s.kex sc t
  let y := s.term sc t
  if x.openMiss.isNone then s
  else if y.act != .operation then s.setKex sc t { x with openMiss := none }
  else if x.full then s
  else
    let i := x.other
    let k := uniSlot sc t i
    if reused (s.keySlot k).prints key then s.kexMiss sc t
    else if y.dom != 0 && !x.used && decide ((s.domE y.dom).quota.keys < s.keysOf y.dom + 2) then s.kexFail sc t
    else
      ((s.takeKey sc t i (s.clk.msc + 16) key).ploam sc t plKeyControl [1, i] s.nextFrame).tell
        ([1, sc, t, i, s.clk.msc + 16] ++ Config.wrap key)

/-- Key switches at milestone M (R358, R367): the new unicast key comes into force, an old slot is zeroed, a
broadcast switch completes. -/
def State.keyMilestone (s : State) : State :=
  let m := s.clk.msc
  let s := s.cph.kex.foldl (fun s e =>
    let sc := e.1 / 512
    let t := e.1 % 512
    let s := match (s.kex sc t).switch with
      | some (w, i) =>
        if w ≤ m then
          let x := s.kex sc t
          s.setKex sc t { x with inForce := i, switch := none
                                 zeroAt := if x.inForce = 0 then x.zeroAt else some (w + s.len sc + 16, x.inForce) }
        else s
      | none => s
    match (s.kex sc t).zeroAt with
    | some (w, i) => if w ≤ m then (s.zeroSlot (uniSlot sc t i)).setKex sc t { s.kex sc t with zeroAt := none } else s
    | none => s) s
  s.cph.subs.foldl (fun s e =>
    let x := s.subCph e.1
    let due := x.switch.filter (fun w => decide (w.1 ≤ m))
    let s := s.setSubCph e.1 { x with switch := x.switch.filter (fun w => !decide (w.1 ≤ m)), bcast := (due.getLast?.map (fun w => w.2.1)).getD x.bcast }
    due.foldl (fun s w => s.complete w.2.2 { status := stOk }) s) s

/-! MACsec (R361 to R363). -/

/-- Key of an SA slot on a trunk die. -/
def saKey (die slot : Nat) : Nat := 2048 * die + slot

/-- An SA slot. -/
def State.sa (s : State) (k : Nat) : Sa := s.cph.sas.get {} k

/-- Store an SA slot. -/
def State.setSa (s : State) (k : Nat) (x : Sa) : State := s.modCph (fun c => { c with sas := c.sas.set {} k x })

/-- SecY of a port. -/
def State.secy (s : State) (u : Nat) : SecY := s.cph.secys.get {} u

/-- Store the SecY of a port. -/
def State.setSecy (s : State) (u : Nat) (x : SecY) : State := s.modCph (fun c => { c with secys := c.secys.set {} u x })

/-- The exhausted SA of a port no longer keeps its frames back (R363). -/
def State.forgetExh (s : State) (u : Nat) (p : Nat → Bool) : State :=
  let y := s.secy u
  if y.exh.any p then s.setSecy u { y with exh := none } else s

/-- Zero an SA slot: its fingerprints stay (R362, R364). -/
def State.zeroSa (s : State) (k : Nat) : State :=
  (s.forgetExh (s.sa k).port (fun j => j == k)).setSa k { prints := (s.sa k).prints }

/-- Largest packet number (R363). -/
abbrev pnMax : Nat := 2 ^ 64 - 1

/-- SA states (READ_SA): installed, enabled, stopped, exhausted. -/
abbrev saInstalled : Nat := 0
abbrev saEnabled : Nat := 1
abbrev saStopped : Nat := 2
abbrev saExhausted : Nat := 3

/-- The transmitting SA of a port, if it has one. -/
def State.txSa (s : State) (u : Nat) : Option Nat :=
  (s.cph.sas.keysWhere (fun _ x => x.inst && !x.rx && x.port == u && x.st == saEnabled)).head?

/-- A transmit SA whose next number would exceed 2⁶⁴ − 1 stops transmitting (R363). -/
def State.saExhaust (s : State) (k : Nat) : State :=
  let x := s.sa k
  let s := s.setSa k { x with st := saExhausted }
  (s.setSecy x.port { s.secy x.port with exh := some k }).raise evSaExhausted (cphArg (k / 2048) (k % 2048))

/-- A dropped frame of an exhausted SA (R363). -/
def State.exhDrop (s : State) (k : Nat) : State := s.setSa k { s.sa k with exhDrop := (s.sa k).exhDrop + 1 }

/-- A frame for the transmit SA k, and whether it leaves (R361 to R363, R365): the packet number is used once, the request
to rekey is raised once, an exhausted SA stops; a mark is written at each multiple of 2³². -/
def State.saSend (s : State) (k : Nat) : Bool × State :=
  let x := s.sa k
  if pnMax < x.pn then (false, (s.saExhaust k).exhDrop k)
  else
    let pn := x.pn + 1
    let y := { x with pn := pn, protect := x.protect + 1, mark := pn / 2 ^ 32 * 2 ^ 32 }
    let s := (s.setSa k y).emit (.secTag x.port x.an (if (s.secy x.port).sciInc then some x.sci else none) x.pn)
    let s := if decide (2 ^ 64 - 2 ^ 32 < pn) && !x.rekeyRaised then
        (s.setSa k { y with rekeyRaised := true }).raise evRekeyRequest (cphArg (k / 2048) (k % 2048))
      else s
    (true, if pnMax < pn then s.saExhaust k else s)

/-- A frame that leaves port u, and whether MACsec lets it (R362, R363). Validate frames 0 is Strict. -/
def State.secSend (s : State) (u : Nat) : Bool × State :=
  match s.txSa u with
  | some k => s.saSend k
  | none =>
    let y := s.secy u
    match y.exh with
    | some k => (false, s.exhDrop k)
    | none => if y.configured && y.validate = 0 then (false, s.setSecy u { y with noSa := y.noSa + 1 }) else (true, s)

/-! Chunks (R350, R355). -/

/-- Sub-channel of a PON slot of a die (R357). -/
def slotSub (die slot : Nat) : Nat := 96 * die + (if slot < 98304 then slot / 1024 else (slot - 98304) / 2 % 96)

/-- One upset of a cipher unit (R355). -/
def State.cipherUpset (s : State) (q : ChunkReq) (u : Nat) : State :=
  let s := if q.trunk then s.macCnt q.die 1 else s.ponCnt q.die 1
  let n := if q.trunk then 1024 else 352
  let s := s.countError (if q.trunk then 4 else 3) (n * q.die + u)
  s.raiseOnce evCipherUpset (q.die + 4 * b2n q.trunk) (cphArg q.die u)

/-- Exclusive or of the bytes with the key stream; those before the confidentiality offset stay in clear (R361). -/
def cipherBytes (alg : Nat) (key : List Nat) (ctr block off : Nat) (bytes : List Nat) : List Nat :=
  bytes.mapIdx (fun i b =>
    let p := 16 * block + i
    if p < off then b else Nat.xor b (Config.keyStream alg key ctr ((p - off) / 16) ((p - off) % 16) % 256))

/-- Confidentiality offset of a SecY in bytes (R361, R367). -/
def SecY.offsetBytes (y : SecY) : Nat :=
  match y.offset with
  | 0 => 0
  | 1 => 30
  | _ => 50

/-- A unit of the request's die is in service (R349, R350). -/
def State.chunkUnit (s : State) (q : ChunkReq) (u : Nat) : Bool :=
  let n := if q.trunk then 1024 else 352
  decide (u < n) && (s.health (if q.trunk then 4 else 3) (n * q.die + u)).st.inService

/-- A chunk that its die can be given (R350): at most 64 blocks, on a unit in service, and computed once more on another
one (R355). A trunk die without one still takes the request, to drop it (R356). -/
def State.chunkOk (s : State) (q : ChunkReq) : Bool :=
  (if q.trunk then decide (q.die < 2) && decide (q.slot < 2048) else decide (q.die < 4) && decide (q.slot < 131072)) &&
  decide (q.block % 64 = 0) && decide (q.bytes.length ≤ 1024) &&
  (s.chunkUnit q q.unit || q.trunk && s.cphUnits 4 q.die UnitSt.inService == 0) &&
  (match q.retry with
   | none => true
   | some (u2, _) => u2 != q.unit && s.chunkUnit q u2)

/-- Key of a request: its slot and direction. -/
def chunkId (q : ChunkReq) : Nat :=
  2 * (if q.trunk then 2 ^ 19 + saKey q.die q.slot else 131072 * q.die + q.slot) + b2n q.up

/-- The key that the request's slot holds now (R350, R366). -/
def State.chunkKey (s : State) (q : ChunkReq) : Option (List Nat) :=
  if q.trunk then
    let x := s.sa (saKey q.die q.slot)
    if x.inst then some (x.key ++ x.salt ++ leBytes 4 x.ssci.toNat) else none
  else (s.keySlot (131072 * q.die + q.slot)).key

/-- Superframe counter of the frame that a PON request belongs to (R360): downstream that of the current interval,
upstream that of the roadbook whose bursts arrive in it. -/
def State.frameCtr (s : State) (q : ChunkReq) : Nat :=
  let sc := slotSub q.die q.slot
  (if q.up then s.clk.msc + 1 - s.len sc else s.clk.msc) % 2 ^ 51

/-- The result of a chunk under a key. -/
def State.chunkOut (s : State) (q : ChunkReq) (key : List Nat) : Out :=
  .chunk (q.die + 4 * b2n q.trunk) q.slot
    (if q.trunk then cipherBytes 2 key q.ctr q.block (s.secy (s.sa (saKey q.die q.slot)).port).offsetBytes q.bytes
     else cipherBytes (b2n (s.subCph (slotSub q.die q.slot)).sm4) key (s.frameCtr q) q.block 0 q.bytes)

/-- The frame of the latest request of this slot has been dropped, or is whole. -/
def State.setCut (s : State) (q : ChunkReq) (b : Bool) : State := s.modCph (fun c => { c with cut := c.cut.set false (chunkId q) b })

/-- The frame of a request whose slot is empty is dropped, and counts once (R350). -/
def State.chunkMiss (s : State) (q : ChunkReq) : State :=
  let s := s.setCut q true
  if q.trunk then
    let x := s.sa (saKey q.die q.slot)
    s.setSa (saKey q.die q.slot) { x with noSa := x.noSa + 1 }
  else if q.up then s.add32 (subA (slotSub q.die q.slot) 0x38) 1
  else s.ponCnt q.die 3

/-- Blocks that a chunk costs: the first one of a MACsec frame has the block of its tag with it (R349). -/
def chunkCost (q : ChunkReq) : Nat := (q.bytes.length + 15) / 16 + b2n (q.block == 0)

/-- A trunk die takes a chunk while the blocks of the interval stay within what its units in service compute in 125 µs, at
15 of 200,000 clocks a block (R349, R356). -/
def State.macTake (s : State) (q : ChunkReq) : Bool × State :=
  let n := s.cph.macLoad.get 0 q.die + chunkCost q
  if !q.trunk then (true, s)
  else if 200000 * s.cphUnits 4 q.die UnitSt.inService < 15 * n then (false, s)
  else (true, s.modCph (fun c => { c with macLoad := c.macLoad.set 0 q.die n }))

/-- A chunk is computed (R355, R366): an upset has it computed once more on another unit, with the slot's key as it stands
then; one that fails twice drops its frame. -/
def State.chunkServe (s : State) (q : ChunkReq) (key : List Nat) : State :=
  match q.retry with
  | none => s.emit (s.chunkOut q key)
  | some (u2, again) =>
    let s := s.cipherUpset q q.unit
    match s.chunkKey q with
    | none => s.chunkMiss q
    | some key =>
      if again then
        let s := (s.cipherUpset q u2).setCut q true
        if q.trunk then s.macCnt q.die 3 else s.ponCnt q.die 2
      else s.emit (s.chunkOut q key)

/-- A chunk of a request (R350, R355, R356, R360). The first chunk of a frame begins its request; the further chunks of a
frame that has been dropped are not served. -/
def State.cipherChunk (s : State) (q : ChunkReq) : State :=
  if !s.chunkOk q || q.block != 0 && s.cph.cut.get false (chunkId q) then s
  else
    match s.macTake q with
    | (false, s) => (s.setCut q true).macCnt q.die 2
    | (true, s) =>
      match s.chunkKey q with
      | none => s.chunkMiss q
      | some key =>
        let s := if q.block = 0 then (if q.trunk then s.macCnt q.die 0 else s.ponCnt q.die 0).setCut q false else s
        s.chunkServe q key

/-- Period of the known-answer tests in milestones (R355, R369). -/
def State.katPeriod (s : State) : Nat := 8 * max 10 (s.fld (cphA 0x200) 15 0)

/-- KAT_TEST of a spare or idle unit every KAT_MS milliseconds (R355): the self-test of its class (R418, R424). A failed
one is an error of the unit. -/
def State.katTest (s : State) (cls u : Nat) (pass : Bool) : State :=
  let h := s.health cls u
  if (cls != 3 && cls != 4) || decide (clsUnits cls ≤ u) || !(h.st == .spare || h.st.inService) ||
      (h.testMsc != 0 && decide (s.clk.msc < h.testMsc + s.katPeriod)) then s
  else
    let s := s.setHealth cls u { h with testMsc := s.clk.msc, testPass := pass }
    if pass then s else s.countError cls u

/-! Family 0x06. -/

/-- SET_CIPHER (R353, R367). -/
def infoSetCipher : CmdInfo :=
  { op := 0x0601, args := fun c => decide (c.n0 < 384) && decide (c.n1 < 2) && c.zeroFrom 2 }

def bodySetCipher : Body := fun _ c s =>
  if c.dom != 0 then bad stDomain s
  else if s.isProtect (c.n0 / 2) || (s.sub c.n0).road != .disabled then bad stState s
  else ok (s.setSubCph c.n0 { s.subCph c.n0 with sm4 := decide (c.n1 = 1) })

/-- SET_KEY_POLICY (R358, R367). -/
def infoSetKeyPolicy : CmdInfo :=
  { op := 0x0602, args := fun c => decide (c.n0 < 384) && decide (60 ≤ c.n1 ∧ c.n1 ≤ 86400) && c.zeroFrom 2 }

def bodySetKeyPolicy : Body := fun _ c s =>
  if c.dom != 0 then bad stDomain s
  else if s.isProtect (c.n0 / 2) then bad stState s
  else ok (s.setSubCph c.n0 { s.subCph c.n0 with rekeyS := c.n1 })

/-- INSTALL_PON_KEY (R357, R364, R367): only the broadcast slots are written by a command. -/
def infoInstallPonKey : CmdInfo :=
  { op := 0x0603, buf := .inp (fun n => n == 16)
    args := fun c => decide (98304 ≤ c.n0 / 4 ∧ c.n0 / 4 < 98496) && c.zeroFrom 1 }

def bodyInstallPonKey : Body := fun rp c s =>
  let k := 131072 * (c.n0 % 4) + c.n0 / 4
  if c.dom != 0 then bad stDomain s
  else if rp.isNone && reused (s.keySlot k).prints c.inp then bad stKeyReuse s
  else ok (s.setKeySlot k ((s.keySlot k).write c.inp))

/-- SWITCH_PON_KEY (R359, R367): 16 milestones after it executes. -/
def infoSwitchPonKey : CmdInfo :=
  { op := 0x0604, args := fun c => decide (c.n0 < 384) && decide (1 ≤ c.n1 ∧ c.n1 ≤ 2) && c.zeroFrom 2 }

def bodySwitchPonKey : Body := fun rp c s =>
  if c.dom != 0 then bad stDomain s
  else if s.isProtect (c.n0 / 2) then bad stState s
  else
    let x := s.subCph c.n0
    if rp.isSome then ok (s.setSubCph c.n0 { x with bcast := c.n1 })
    else if (s.keySlot (bcastSlot c.n0 c.n1)).key.isNone then bad stState s
    else (.opened, s.setSubCph c.n0 { x with switch := x.switch ++ [(s.clk.msc + 16, c.n1, c.acc)] })

/-- CONFIG_SECY (R362, R367). -/
def infoConfigSecy : CmdInfo :=
  { op := 0x0605
    args := fun c => decide (c.n0 < 128) && decide (c.n1 < 2 ^ 11) && decide (c.n1 / 64 % 4 < 3) &&
      decide (c.n1 / 256 % 4 < 3) && decide (c.n2 < 2 ^ 30) && c.zeroFrom 3 }

def bodyConfigSecy : Body := fun _ c s =>
  let x := s.secy c.n0
  if c.dom != 0 then bad stDomain s
  else if s.portSecured c.n0 then bad stState s
  else ok (s.setSecy c.n0 { x with configured := true, owner := c.n1 % 64, offset := c.n1 / 64 % 4
                                   validate := c.n1 / 256 % 4, sciInc := c.n1 / 1024 % 2 == 1, window := c.n2 })

/-- SA slots that a domain holds (R261). -/
def State.sasOf (s : State) (d : Nat) : Nat := s.cph.sas.countWhere (fun _ x => x.inst && x.dom == d)

/-- Receive channels of a port other than `sci` (R361). -/
def State.rxScs (s : State) (u : Nat) (sci : W64) : List W64 :=
  s.cph.sas.foldl (fun l e =>
    let x := e.2
    if x.inst && x.rx && x.port == u && x.sci != sci && !l.contains x.sci then x.sci :: l else l) []

/-- The SA that an INSTALL_SA record describes (R362). -/
def readSaBlock (l : List Nat) (dom : Nat) (prints : List (List Nat)) : Sa :=
  let w := leAt l 0 2
  let pn := leAt l 0x40 8
  { inst := true, dom := dom, port := w % 128, rx := w / 128 % 2 == 1, an := w / 256 % 4
    ssci := BitVec.ofNat 32 (leAt l 4 4), sci := BitVec.ofNat 64 (leAt l 8 8), salt := sliceB l 0x10 12
    key := sliceB l 0x20 32, pn := pn, mark := pn / 2 ^ 32 * 2 ^ 32
    low := if w / 128 % 2 = 1 then pn else 0
    prints := (keyPrint (sliceB l 0x20 32) :: prints).take 4 }

/-- Another slot of the die holds an SA of the same port and direction (R361). -/
def State.otherSa (s : State) (k : Nat) (x : Sa) (p : Sa → Bool) : Bool :=
  s.cph.sas.any (fun e => e.1 != k && e.2.inst && e.2.port == x.port && e.2.rx == x.rx && p e.2)

/-- INSTALL_SA (R362, R364, R367). DEDUCED: a second transmit SC of a port, like a 64th receive SC, is NO_ROOM, and a
second SA of one SC and AN is EXISTS (R361). -/
def infoInstallSa : CmdInfo := { op := 0x0606, buf := .inp (fun n => n == 80), args := fun c => c.zeroFrom 0 }

def bodyInstallSa : Body := fun rp c s =>
  let w := leAt c.inp 0 2
  let slot := leAt c.inp 2 2
  let u := w % 128
  let k := saKey (u / 64) slot
  let old := s.sa k
  let new := readSaBlock c.inp c.dom old.prints
  if 1024 ≤ w || 2048 ≤ slot || leAt c.inp 0x1C 4 != 0 || leAt c.inp 0x48 8 != 0 || (!new.rx && new.pn == 0) then bad stBadArg s
  else if (c.dom != 0 && (s.secy u).owner != c.dom) || (old.inst && old.dom != c.dom) then bad stDomain s
  else if rp.isNone && reused old.prints new.key then bad stKeyReuse s
  else if c.dom != 0 && !old.inst && decide ((s.domE c.dom).quota.sas ≤ s.sasOf c.dom) then bad stNoRoom s
  else if new.rx && decide (63 ≤ (s.rxScs u new.sci).length) then bad stNoRoom s
  else if !new.rx && s.otherSa k new (fun y => y.sci != new.sci) then bad stNoRoom s
  else if s.otherSa k new (fun y => y.sci == new.sci && y.an == new.an) then bad stExists s
  else ok (s.setSa k new)

/-- SA named by PARAM0 of ENABLE_SA, REMOVE_SA and READ_SA. -/
def saOf (c : Desc) : Nat := saKey (c.n0 % 2) (c.n0 / 2)

/-- ENABLE_SA (R362, R363, R367): the previous transmitting SA of the port stops. -/
def infoEnableSa : CmdInfo := { op := 0x0607, args := fun c => decide (c.n0 < 4096) && c.zeroFrom 1 }

def bodyEnableSa : Body := fun _ c s =>
  let k := saOf c
  let x := s.sa k
  if !x.inst then bad stNotFound s
  else if x.dom != c.dom then bad stDomain s
  else if !x.rx && (x.st == saExhausted || decide (pnMax < x.pn)) then bad stCounter s
  else
    let s := match (if x.rx then none else s.txSa x.port) with
      | some j => if j = k then s else s.setSa j { s.sa j with st := saStopped }
      | none => s
    let s := if x.rx then s else s.forgetExh x.port (fun _ => true)
    ok (s.setSa k { s.sa k with st := saEnabled })

/-- REMOVE_SA (R362, R367). -/
def infoRemoveSa : CmdInfo := { op := 0x0608, args := fun c => decide (c.n0 < 4096) && c.zeroFrom 1 }

def bodyRemoveSa : Body := fun _ c s =>
  let k := saOf c
  if !(s.sa k).inst then bad stNotFound s
  else if (s.sa k).dom != c.dom then bad stDomain s
  else ok (s.zeroSa k)

/-- READ_SA (R362, R367). -/
def infoReadSa : CmdInfo :=
  { op := 0x0609, query := true, buf := .out (fun _ => 32), args := fun c => decide (c.n0 < 4096) && c.zeroFrom 1 }

/-- The 32 bytes of READ_SA. -/
def Sa.bytes (x : Sa) : List Nat :=
  leBytes 8 x.pn ++ leBytes 4 x.st ++ leBytes 4 x.protect.toNat ++ leBytes 4 x.validated.toNat
    ++ leBytes 4 x.noSa.toNat ++ leBytes 4 x.exhDrop.toNat ++ leBytes 4 0

def bodyReadSa : Body := fun _ c s =>
  let x := s.sa (saOf c)
  if !x.inst then bad stNotFound s
  else if x.dom != c.dom then bad stDomain s
  else ok (s.outBuf c x.bytes)

/-- REKEY_TERMINAL (R358, R367). -/
def infoRekeyTerminal : CmdInfo :=
  { op := 0x060A, args := fun c => decide (c.n0 % 2 ^ 16 < 384) && decide (c.n0 / 2 ^ 16 < 512) && c.zeroFrom 1 }

def bodyRekeyTerminal : Body := fun rp c s =>
  let sc := c.n0 % 2 ^ 16
  let t := c.n0 / 2 ^ 16
  let y := s.term sc t
  if rp.isSome then ok s
  else if y.act == .free then bad stNotFound s
  else if y.dom != c.dom then bad stDomain s
  else if s.isProtect (sc / 2) || s.underTest sc t || y.act != .operation then bad stState s
  else ok (s.kexStart sc t)

/-! Meanings. -/

/-- SET_CIPHER. -/
def execSetCipher (c : Desc) (s : State) : Answer := kept s (runCmd infoSetCipher bodySetCipher c s)
/-- SET_KEY_POLICY. -/
def execSetKeyPolicy (c : Desc) (s : State) : Answer := kept s (runCmd infoSetKeyPolicy bodySetKeyPolicy c s)
/-- INSTALL_PON_KEY. -/
def execInstallPonKey (c : Desc) (s : State) : Answer := kept s (runCmd infoInstallPonKey bodyInstallPonKey c s)
/-- SWITCH_PON_KEY. -/
def execSwitchPonKey (c : Desc) (s : State) : Answer := kept s (runCmd infoSwitchPonKey bodySwitchPonKey c s)
/-- CONFIG_SECY. -/
def execConfigSecy (c : Desc) (s : State) : Answer := kept s (runCmd infoConfigSecy bodyConfigSecy c s)
/-- INSTALL_SA. -/
def execInstallSa (c : Desc) (s : State) : Answer := kept s (runCmd infoInstallSa bodyInstallSa c s)
/-- ENABLE_SA. -/
def execEnableSa (c : Desc) (s : State) : Answer := kept s (runCmd infoEnableSa bodyEnableSa c s)
/-- REMOVE_SA. -/
def execRemoveSa (c : Desc) (s : State) : Answer := kept s (runCmd infoRemoveSa bodyRemoveSa c s)
/-- READ_SA. -/
def execReadSa (c : Desc) (s : State) : Answer := kept s (runCmd infoReadSa bodyReadSa c s)
/-- REKEY_TERMINAL. -/
def execRekeyTerminal (c : Desc) (s : State) : Answer := kept s (runCmd infoRekeyTerminal bodyRekeyTerminal c s)

/-- KEY_REPORT (R358). -/
def execKeyReport (sc t : Nat) (key : List Nat) (s : State) : Answer := kept s (s.keyReport sc t key)

/-- REKEY_TIMER (R358): REKEY_S seconds of 8,000 milestones after the latest exchange, staggered across terminals. -/
def execRekeyTimer (sc t : Nat) (s : State) : Answer :=
  kept s (
    let x := s.kex sc t
    let n := 8000 * (s.subCph sc).rekeyS
    if x.started + n ≤ s.clk.msc + x.stag % n then s.kexStart sc t else s)

/-- KEY_REQUEST_TIMEOUT (R358): 800 milestones without an answer. An exchange of a draining terminal is
abandoned (R366). -/
def execKeyRequestTimeout (sc t : Nat) (s : State) : Answer :=
  kept s (
    let x := s.kex sc t
    if x.openMiss.isNone then s
    else if (s.term sc t).act != .operation then s.setKex sc t { x with openMiss := none }
    else if s.clk.msc < x.started + 800 then s
    else s.kexMiss sc t)

/-- CIPHER_CHUNK (R350). -/
def execCipherChunk (q : ChunkReq) (s : State) : Answer := kept s (s.cipherChunk q)

/-- KAT_TEST (R355). -/
def execKatTest (cls u : Nat) (pass : Bool) (s : State) : Answer := kept s (s.katTest cls u pass)

end Sys2Proof.Machine
end

