-- ==== Sys2Proof/Machine/Activation.lean ====
section
/-! DEFINITION. Terminal activation, ranging, loss and rogue light (chapter 04, R96 to R122), the receive path
of a domain (R117, R241, R340) and what a terminal does at a milestone, a snapshot and a commit point. -/

namespace Sys2Proof.Machine

/-- Time since milestone `book`, in 1/16 ns: one hub cycle is half a nanosecond (R38). -/
def State.since (s : State) (book : Nat) : Int := ((s.clk.msc : Int) - book) * 2000000 + 8 * s.clk.cycle

/-- Start offset of a grant in its frame (R105, R106). -/
def grantAt (t : Nat) : Nat := Config.grantOffset t % 2000000

/-- Terminals of a sub-channel that are objects, in rising order. -/
def State.termsOf (s : State) (sc : Nat) : List Nat :=
  (s.pon.terms.keysWhere (fun k x => k / 512 == sc && x.act != .free)).map (fun k => k % 512)

/-- Store a retained entry. -/
def State.setRetd (s : State) (sc t : Nat) (x : Retained) : State :=
  { s with pon := { s.pon with retained := s.pon.retained.set {} (512 * sc + t) x } }

/-- Clear the round trip of a retained entry (R108). -/
def State.clearRtt (s : State) (sc t : Nat) : State := s.setRetd sc t { s.retd sc t with rtt := none }

/-- A terminal that holds no grants: its road, its windows' results and its preload record are gone (R93). -/
def Term.leave (x : Term) (a : ActSt) : Term :=
  { x with act := a, road := .disabled, drainE := none, deactE := none, resp := none, operE := none, rerange := false
           first := false, emptyRun := 0, mistimed := 0, rtFrame := none, held := none, misses := 0, pre := {}
           prof := 0, profP := 0, discard := false, after := .registered }

/-- The open windows of a terminal stay reserved; a response in them is ignored (R101). -/
def State.closeWins (s : State) (sc t : Nat) : State :=
  s.modSub sc (fun x => { x with disc := { x.disc with
    windows := x.disc.windows.map (fun w => if w.term = some t then { w with closed := true } else w) } })

/-- A terminal returns to REGISTERED or DISABLED without holding grants; no pending profile outlives it (R91). -/
def State.leaveTerm (s : State) (sc t : Nat) (a : ActSt) : State :=
  ((s.closeWins sc t).cancelProf sc t).modTerm sc t (fun x => x.leave a)

/-- Deactivate_ONU-ID in frame `f` (R114). -/
def State.sendDeact (s : State) (sc t f : Nat) : State := s.ploam sc t plDeactivate [] f

/-- Disable_Serial_Number, with the enable option or without, in frame `f` (R98, R114, R122). -/
def State.sendDisable (s : State) (sc t f : Nat) (en : Bool) : State :=
  s.ploam sc 512 plDisable (b2n en :: leBytes 8 (s.term sc t).serial) f

/-- Remove a terminal object with its node and its entry of the ranging table (R98, R100, R108, R262, R273). -/
def State.freeTerm (s : State) (sc t : Nat) : State :=
  let s := (((s.closeWins sc t).cancelProf sc t).setRetd sc t {}).setTerm sc t {}
  { s with data := { s.data with termN := s.data.termN.del (512 * sc + t), termC := s.data.termC.del (512 * sc + t) } }

/-! Windows (R102 to R107, R119). -/

/-- Windows may be fixed on the sub-channel (R105, R118, R122, R467, R475). -/
def State.windowsOpen (s : State) (sc : Nat) : Bool :=
  let x := s.sub sc
  x.road == .enabled && !x.rogue.suspended && !s.paused && !s.mgmt.pwr.held
    && !(s.mgmt.upd.st == .swapping && s.mgmt.upd.swapped)

/-- Quiet window of a discovery grant in roadbook g (R102, R105). -/
def discWindow (x : Sub) (g : Nat) : Window :=
  { book := g, term := none, narrow := false, start := grantAt 512 + 16000 * x.disc.rttMin, len := 16000 * (x.disc.diff + 50) }

/-- Window of a ranging grant in roadbook g (R106, R119). -/
def State.rangeWindow (s : State) (sc t g : Nat) : Window :=
  let y := s.term sc t
  let known : Option Nat :=
    if y.rerange then some y.rtt
    else match (s.retd sc t).rtt with
      | some r => if r ≤ y.ta + 32000 ∧ y.ta ≤ r + 800000 then some r else none
      | none => none
  match known with
  | some r => { book := g, term := some t, narrow := true, start := grantAt t + r - 32000, len := 96000 }
  | none =>
    let e := grantAt t + y.ta
    { book := g, term := some t, narrow := false, start := e - 784000, len := e + 48000 - (e - 784000) }

/-- PERIOD in force: 8 during the recovery period (R118). -/
def Disc.per (d : Disc) : Nat := if d.recovery.isSome then 8 else d.period

/-- The discovery window that falls due at this snapshot is fixed or skipped (R105). -/
def State.fixDiscovery (s : State) (sc : Nat) : State :=
  let x := s.sub sc
  let g := s.clk.msc + x.len
  let p := x.disc.per
  if p = 0 || decide (g < x.disc.nextDue) then s
  else if s.windowsOpen sc then
    s.setSub sc { x with disc := { x.disc with
      nextDue := g + p, windows := x.disc.windows ++ [discWindow x g], showPeriod := x.disc.period
      showQuiet := x.disc.diff + 50 } }
  else s.setSub sc { x with disc := { x.disc with nextDue := g + p, skipped := x.disc.skipped + 1 } }

/-- A terminal waits for a ranging window (R99, R106, R107). -/
def State.wantsRange (s : State) (sc t : Nat) : Bool :=
  let y := s.term sc t
  let open' := (s.sub sc).disc.windows.any (fun w => w.term == some t && !w.closed)
  !open' && y.resp.isNone && y.operE.isNone &&
    ((y.act == .discovered && decide (y.assignFrame ≤ s.clk.msc)) || y.act == .ranging)

/-- Fix the ranging windows of one sub-channel, in rising terminal order: at most 2 wide and 16 narrow in a frame
(R106). -/
def State.fixRanging (s : State) (sc : Nat) : State :=
  if !s.windowsOpen sc then s
  else
    let g := s.clk.msc + s.len sc
    (s.termsOf sc).foldl (fun s t =>
      if s.wantsRange sc t then
        let w := s.rangeWindow sc t g
        let same := ((s.sub sc).disc.windows.filter (fun v => v.book == g && v.term.isSome && v.narrow == w.narrow)).length
        if same < (if w.narrow then 16 else 2) then
          (s.modSub sc (fun x => { x with disc := { x.disc with windows := x.disc.windows ++ [w] } })).modTerm sc t
            (fun y => { y with act := .ranging })
        else s
      else s) s

/-- Windows at the snapshot of interval M: those long past are dropped, those due are fixed. -/
def State.snapWindows (s : State) (sc : Nat) : State :=
  let s := s.modSub sc (fun x => { x with disc := { x.disc with
    windows := x.disc.windows.filter (fun w => decide (s.clk.msc < w.book + 8) || (w.term.isSome && !w.closed)) } })
  (s.fixDiscovery sc).fixRanging sc

/-- A time after milestone `book` lies inside a window. -/
def Window.holds (w : Window) (t : Nat) : Bool := decide (w.start ≤ t ∧ t ≤ w.start + w.len)

/-! Discovery responses. -/

/-- A REGISTERED terminal is discovered: Assign_ONU-ID goes in the next frame (R102). -/
def State.discovered (s : State) (sc t ta : Nat) : State :=
  let f := s.nextFrame
  (s.modTerm sc t (fun x => { x with act := .discovered, ta := ta, assignFrame := f, misses := 0, rerange := false })).ploam
    sc t plAssign (leBytes 2 t ++ leBytes 8 (s.term sc t).serial) f

/-- An unknown serial number goes on the list (R103). -/
def State.unknownSn (s : State) (sc sn : Nat) : State :=
  let x := s.sub sc
  if x.disc.unknown.contains sn then s
  else if 64 ≤ x.disc.unknown.length then
    s.setSub sc { x with disc := { x.disc with unknownDropped := x.disc.unknownDropped + 1 } }
  else (s.setSub sc { x with disc := { x.disc with unknown := x.disc.unknown ++ [sn] } }).raise evUnknownSn sc

/-- SN_RESPONSE (R102 to R105). -/
def State.snResponse (s : State) (sc : Nat) (r : SnRsp) : State :=
  let x := s.sub sc
  match x.disc.windows.find? (fun w => w.term.isNone && decide (w.book ≤ s.clk.msc) && w.holds r.t) with
  | none => s
  | some _ =>
    if r.collided then s
    else
      let ta := r.t - grantAt 512
      match (s.termsOf sc).find? (fun t => (s.term sc t).serial == r.serial) with
      | some t =>
        match (s.term sc t).act with
        | .registered => s.discovered sc t ta
        | .disabled => s
        | _ => (s.setSub sc { x with disc := { x.disc with snDup := x.disc.snDup + 1 } }).raise evSnDuplicate (stArg sc t)
      | none =>
        if x.disc.admitNew then
          match (List.range 512).find? (fun t => (s.term sc t).act == .free) with
          | some t =>
            (s.setTerm sc t { act := .registered, serial := r.serial, dom := x.disc.admitDom }).discovered sc t ta
          | none => s.unknownSn sc r.serial
        else s.unknownSn sc r.serial

/-! Ranging. -/

/-- The record that ranging writes (R87). -/
def rangedPre (r : RegRsp) (stamp : Nat) : Preload :=
  { gain := r.word1.setWidth 8, cdr := (r.word1 >>> 8).setWidth 12, ffe := r.word0.setWidth 56
    dfe1 := (r.word0 >>> 56).setWidth 8, stamp := BitVec.ofNat 24 stamp, valid := true }

/-- REGISTRATION_RESPONSE (R106, R107): only inside the terminal's open window. -/
def State.regResponse (s : State) (sc t : Nat) (r : RegRsp) : State :=
  let x := s.sub sc
  match x.disc.windows.find? (fun w => w.term == some t && !w.closed && decide (w.book ≤ s.clk.msc) && w.holds r.t) with
  | none => s
  | some w =>
    if (s.term sc t).act != .ranging then s
    else
      (s.closeWins sc t).modTerm sc t (fun y => { y with
        resp := some (r.t - grantAt t, r.regId, rangedPre r (w.book + r.t / 2000000)) })

/-- The STANDBY device writes the record of a ranging burst from the light that it hears itself (R120, R398). -/
def State.ownRecord (s : State) (sc t : Nat) (r : RegRsp) : State :=
  match (s.sub sc).disc.windows.find? (fun w => w.term == some t && !w.closed && decide (w.book ≤ s.clk.msc) && w.holds r.t) with
  | none => s
  | some w =>
    if (s.term sc t).act != .ranging then s
    else s.modTerm sc t (fun y => { y with pre := rangedPre r (w.book + r.t / 2000000) })

/-- A terminal is refused (R108 step 1, R112). -/
def State.refuse (s : State) (sc t : Nat) : State :=
  (((s.leaveTerm sc t .registered).freeKeys sc t).clearRtt sc t).raise evRangeRefused (stArg sc t)

/-- Equalisation delay in upstream bits of a round trip in 1/16 ns (R106), to one bit. -/
def eqdOf (x : Sub) (sc rtt : Nat) : Int :=
  roundDiv ((((x.len : Int) - 1) * 2000000 - rtt) * (frameUnits x * guBits sc)) 2000000

/-- RANGING_PROCESS (R108). -/
def State.rangingProcess (s : State) (sc t : Nat) : State :=
  let x := s.sub sc
  let y := s.term sc t
  match y.resp with
  | none => s
  | some (rtt, id, pre) =>
    if y.act != .ranging then s
    else
      let f := s.nextFrame
      if (x.len - 1) * 2000000 < rtt then (s.sendDeact sc t f).refuse sc t
      else if (match y.regId with
          | some i => i != padTo 36 id
          | none => false) then
        ((((s.sendDeact sc t f).leaveTerm sc t .registered).freeKeys sc t).clearRtt sc t).raise evRegMismatch (stArg sc t)
      else
        let s := s.setTerm sc t { y with resp := none, rtt := rtt, eqd := eqdOf x sc rtt, driftF := 0, operE := some (f + 1)
                                         pre := pre, prof := 0, profP := 0, misses := 0, first := false }
        (s.setRetd sc t { s.retd sc t with rtt := some rtt }).sendRangingTime sc t f

/-- RANGING_WINDOW_CLOSE without a response (R99, R107): the retry is an upset, which counts one error of the channel
engine (R18; DESIGN CHOICE: the spec does not name the unit, and R89 leaves DSP units to self-test). -/
def State.windowClose (s : State) (sc t : Nat) : State :=
  match (s.sub sc).disc.windows.find? (fun w => w.term == some t && !w.closed) with
  | none => s
  | some w =>
    if s.since w.book < (w.start : Int) + w.len then s
    else
      let y := s.term sc t
      let s := s.closeWins sc t
      if y.act != .ranging then s
      else if y.misses = 0 then
        (s.countError 1 (scDie sc * 104 + (s.sub sc).engine)).modTerm sc t (fun y => { y with misses := 1 })
      else
        let s := ((s.sendDeact sc t s.nextFrame).leaveTerm sc t .registered).freeKeys sc t
        if y.rerange then (s.modTerm sc t (fun y => { y with lostCount := y.lostCount + 1 })).raise evTerminalLost (stArg sc t)
        else s

/-- Every burst of a terminal in roadbook f + 1 and before has its outcome, and f + 1 carried one (R111). -/
def State.rtWritten (s : State) (sc t f : Nat) : Bool :=
  let bs := (s.sub sc).books.filter (fun k => decide (k.msc ≤ f + 1))
  bs.all (fun k => k.bursts.all (fun b => b.term != t || b.outcome.isSome)) &&
  bs.any (fun k => k.msc == f + 1 && k.bursts.any (fun b => b.term == t))

/-- RANGING_TIME_PERIOD_END (R111): the held correction is made at once. -/
def State.rtPeriodEnd (s : State) (sc t : Nat) : State :=
  let y := s.term sc t
  match y.rtFrame with
  | none => s
  | some f =>
    if f + s.len sc + 1 ≤ s.clk.msc || (decide (f + s.len sc ≤ s.clk.msc) && s.rtWritten sc t f) then
      let s := s.setTerm sc t { y with rtFrame := none, held := none }
      match y.held with
      | some d => s.correct sc t d
      | none => if (s.sub sc).thr16 < y.driftF.natAbs then s.correct sc t (roundDiv y.driftF 16) else s
    else s

/-- TERMINAL_LOST (R113). -/
def State.terminalLost (s : State) (sc t : Nat) : State :=
  let y := s.term sc t
  if y.act != .operation || y.road != .enabled || y.drainE.isSome || decide (y.emptyRun < (s.sub sc).lostLimit) ||
      s.deferred.any (fun p => p.change == .termLoss sc t) then s
  else
    match s.deferDev 2 (512 * sc + t) (.termLoss sc t) with
    | (_, s) =>
      (s.modTerm sc t (fun y => { y with lostCount := y.lostCount + 1, after := .registered })).raise evTerminalLost (stArg sc t)

/-! Receive path (R117, R241, R340). -/



/-- Deliver a received message to a ring and pool of a domain: the answer says whether it was delivered
(R117, R241, R340, R341). -/
def State.receive (s : State) (d : Nat) (bind : Option (Nat × Nat)) (wher : Nat) (bytes : List Nat) : Bool × State :=
  match bind with
  | none => (false, s)
  | some (r, k) =>
    let p := (s.domE d).hpool k
    match p.posts with
    | [] => (false, s)
    | a :: rest =>
      if p.size < bytes.length || !s.recvRoom r || s.domRoad d != .enabled then (false, s)
      else
        let s := s.setDom d ((s.domE d).setHpool k { p with posts := rest })
        (true, (s.emit (.hostWrite a bytes)).receiveCpl r wher a bytes.length k)

/-- Deliver a terminal's OMCI (kind 0) or PLOAM (kind 1) message, or count it dropped (R117). -/
def State.deliver (s : State) (sc t kind : Nat) (bytes : List Nat) : Bool × State :=
  let d := (s.term sc t).dom
  match s.receive d (s.domE d).rx (t + 512 * sc + 2 ^ 18 * kind) bytes with
  | (true, s) => (true, s)
  | (false, s) => (false, s.modSub sc (fun x => { x with disc := { x.disc with omciRxDrop := x.disc.omciRxDrop + 1 } }))

/-- Upstream message types that firmware consumes (R114); PRESUMED codes of the ITU-T standards: serial number,
registration, key report, acknowledgement, sleep request. -/
def upHandled (ty : Nat) : Bool := [0x01, 0x02, 0x05, 0x09, 0x10].contains ty

/-- UPSTREAM_PLOAM (R69, R70, R114). -/
def State.upPloam (s : State) (sc t : Nat) (msg : List Nat) : State :=
  let a := (s.term sc t).act
  let ty := msg.getD 2 0
  if upHandled ty then (if ty = 0x10 then s.ploam sc t plSleepAllow [0] s.nextFrame else s)
  else if a == .discovered || a == .ranging || a == .operation then (s.deliver sc t 1 msg).2
  else s

/-- UPSTREAM_OMCI (R116): the message without its check and the check. -/
def State.upOmci (s : State) (sc t : Nat) (msg check : List Nat) : State :=
  if (s.term sc t).act == .free then s
  else if (s.term sc t).omciCheck 0 msg == check then
    match s.deliver sc t 0 msg with
    | (true, s) => s.modTerm sc t (fun y => { y with omciRx := y.omciRx + 1 })
    | (false, s) => s
  else (s.modTerm sc t (fun y => { y with omciMic := y.omciMic + 1 })).raiseOnce evOmciMicFail sc (stArg sc t)

/-! Shut-downs of terminals (R98, R99, R101, R112, R113, R122, R262). -/

/-- A terminal's shut-down of effective milestone e is applied at its snapshot. One that drains keeps its own
drain (R101, R262). A pending move off LONG is cancelled (R91). -/
def State.shutTerm (s : State) (sc t e : Nat) (discard : Bool) (after : AfterDrain) : State :=
  (s.cancelProf sc t).modTerm sc t (fun y =>
    match y.act with
    | .free => y
    | .draining => if after == .removed then { y with after := .removed } else y
    | .operation => { y with deactE := some e, drainE := some (y.drainE.getD e), discard := discard, after := after }
    | _ => { y with deactE := some e, after := after })

/-- A re-range of effective milestone e is applied at its snapshot (R99). -/
def State.startRerange (s : State) (sc t e : Nat) : State :=
  let y := s.term sc t
  if y.act != .operation || y.drainE.isSome || y.deactE.isSome then s
  else (s.cancelProf sc t).modTerm sc t (fun y => { y with rerange := true, drainE := some e, profP := 0 })

/-- What a terminal becomes when it holds no more grants, or never held any (R98, R112, R122, R262). -/
def State.afterShut (s : State) (sc t : Nat) : State :=
  match (s.term sc t).after with
  | .registered => (s.leaveTerm sc t .registered).freeKeys sc t
  | .deactivated => ((s.leaveTerm sc t .registered).freeKeys sc t).clearRtt sc t
  | .disabled => (s.leaveTerm sc t .disabled).freeKeys sc t
  | .refused => s.refuse sc t
  | .removed => (s.freeKeys sc t).freeTerm sc t

/-- The shut-down of a terminal at milestone E (R55, R99, R101, R262): one in OPERATION drains, and its message
goes in frame E + L; another ends at once, and its message goes in the next frame that can be committed. -/
def State.termMilestone (s : State) (sc t : Nat) : State :=
  let y := s.term sc t
  let m := s.clk.msc
  let send := fun (s : State) (f : Nat) =>
    if y.after == .disabled then s.sendDisable sc t f false else s.sendDeact sc t f
  if s.come y.deactE then
    if y.act == .operation then
      let s := s.modTerm sc t (fun y => { y with
        act := .draining, road := .draining, deactE := none, drainE := some (y.drainE.getD (y.deactE.getD m)), rerange := false })
      send s (m + s.len sc)
    else
      -- the Disable_Serial_Number of a candidate under test goes in frame E + L (R122)
      let f := if s.underTest sc t then max s.nextFrame (m + s.len sc) else s.nextFrame
      let s := if y.act == .discovered || y.act == .ranging || y.after == .disabled then send s f else s
      s.afterShut sc t
  else if y.act == .operation && y.rerange && reached y.drainE m then
    s.modTerm sc t (fun y => { y with act := .ranging, road := .draining, misses := 0, resp := none, operE := none })
  else if y.act == .operation && y.road == .enabled && reached y.drainE m then
    let s := s.modTerm sc t (fun y => { y with act := .draining, road := .draining })
    send s (m + s.len sc)
  else s

/-- End of a terminal's drain (R55, R99, R101). -/
def State.termDrainEnd (s : State) (sc t : Nat) : State :=
  let y := s.term sc t
  match y.drainE with
  | none => s
  | some e =>
    if !y.road.busy || !s.roadClear sc e then s
    else
      let s := s.raise evDrainDone (drainArg 2 (512 * sc + t))
      if y.act == .draining then s.afterShut sc t
      else s.modTerm sc t (fun y => { y with road := .disabled, drainE := none, discard := false })

/-- Terminals whose first granted roadbook is committed enter OPERATION (R108), and their key exchange starts
(R358). -/
def State.termCommit (s : State) (sc t : Nat) : State :=
  let y := s.term sc t
  let s := s.modTerm sc t (fun y => { y with
    prof := y.profP
    pre := if y.pre.pend && decide (y.pre.pendE ≤ s.clk.msc + 1) then { y.pre with pend := false } else y.pre })
  if y.act == .ranging && y.operE == some (s.clk.msc + 1) then
    (s.modTerm sc t (fun y => { y with
      act := .operation, road := .enabled, drainE := none, operE := none, rerange := false, activeMsc := s.clk.msc
      activations := y.activations + 1, first := true, emptyRun := 0, mistimed := 0 })).kexStart sc t
  else s

/-- A demotion of effective milestone e is applied at its snapshot: roadbook e is built on LONG (R88). -/
def State.applyDemote (s : State) (sc t : Nat) : State :=
  let y := s.term sc t
  if y.pre.pend then s.setTerm sc t { y with profP := 0 } else s

/-- A SET_BURST_PROFILE is applied at roadbook e (R85). One whose terminal leaves OPERATION with this roadbook, and one off
LONG whose terminal has left it, is cancelled (R91). -/
def State.applyProfile (s : State) (sc t p e : Nat) : State :=
  let y := s.term sc t
  if y.act == .operation && y.drainE.isNone then s.setTerm sc t { y with profP := p }
  else if p = 0 && y.drainE != some e then s
  else s.add32 (subA sc 0x50) 1

/-- The age test of hub cycle 4,000 (R88): it names the milestone after next. -/
def State.ageCheck (s : State) (sc t : Nat) : State :=
  let y := s.term sc t
  if y.pre.valid && decide (s.preloadAge sc < s.preAge y.pre) then s.demote sc t 1 else s

/-! Rogue light (R121, R122). -/

/-- Change the rogue-light state of a sub-channel. -/
def State.modRogue (s : State) (sc : Nat) (f : Rogue → Rogue) : State :=
  s.modSub sc (fun x => { x with rogue := f x.rogue })

/-- The order of candidates: by descending suspicion, then by ascending index (R122). -/
def insertCand (pts : SMap Nat) (t : Nat) (l : List Nat) : List Nat :=
  match l with
  | [] => [t]
  | a :: r =>
    if pts.get 0 t > pts.get 0 a || (pts.get 0 t == pts.get 0 a && decide (t < a)) then t :: a :: r
    else a :: insertCand pts t r

/-- Step 8 of R122. -/
def Rogue.endWalk (r : Rogue) : Rogue :=
  { r with running := false, suspended := false, cands := [], test := none, seenBefore := false, seenAfter := false
           points := [], unresolved := false }

/-- Step 3 of R122: the next candidate is stopped, or the walk ends unresolved. -/
def State.nextCand (s : State) (sc fuel : Nat) : State :=
  match fuel with
  | 0 => s
  | n + 1 =>
    let r := (s.sub sc).rogue
    match r.cands with
    | [] =>
      (s.modRogue sc (fun r => { r with running := false, test := none, unresolved := true, clean := 0 })).raise evRogueUnresolved sc
    | k :: rest =>
      let s := s.modRogue sc (fun r => { r with cands := rest })
      let a := (s.term sc k).act
      if a == .discovered || a == .ranging || a == .operation then
        match s.deferDev 2 (512 * sc + k) (.rogueStop sc k) with
        | (e, s) => s.modRogue sc (fun r => { r with test := some (k, e), seenBefore := false, seenAfter := false })
      else s.nextCand sc n

/-- Start an isolation (R122): windows are suspended and the terminals are listed. -/
def State.isolate (s : State) (sc : Nat) : State :=
  let r := (s.sub sc).rogue
  let list := (s.termsOf sc).filter (fun t =>
    let a := (s.term sc t).act
    a == .discovered || a == .ranging || a == .operation)
  let cands := list.foldl (fun l t => insertCand r.points t l) []
  (s.modRogue sc (fun r => { r with running := true, suspended := true, unresolved := false, cands := cands, test := none })).nextCand
    sc (cands.length + 1)

/-- Re-enable the terminal under test: it returns to REGISTERED when its stop has run (R122 steps 6 and 7). -/
def State.reenable (s : State) (sc k : Nat) : State :=
  let y := s.term sc k
  let s := { s with deferred := s.deferred.filter (fun p => p.change != .rogueStop sc k) }
  if y.act == .disabled && !y.cmdDis && !y.rogueIso then
    (s.sendDisable sc k s.nextFrame true).modTerm sc k (fun y => { y with act := .registered })
  else if y.after == .disabled && !y.cmdDis then s.modTerm sc k (fun y => { y with after := .registered })
  else s

/-- What [a, b] of a line holds outside the intervals given. -/
def outside (l : List (Int × Int)) (a b : Int) : List (Int × Int) :=
  l.foldl (fun g e => (g.map (fun p =>
    if e.2 ≤ p.1 ∨ p.2 ≤ e.1 then [p]
    else (if p.1 < e.1 then [(p.1, e.1)] else []) ++ (if e.2 < p.2 then [(e.2, p.2)] else []))).flatten) [(a, b)]

/-- Length of what [a, b] shares with an interval. -/
def shared (e : Int × Int) (a b : Int) : Int := max 0 (min b e.2 - max a e.1)

/-- Granted slots that arrive in the current interval, with their terminals, and its windows: times after the milestone
in 1/16 ns times the bits of a frame, so that they are exact (R105, R106, R121). -/
def State.slotsNow (s : State) (sc : Nat) : List (Nat × Int × Int) :=
  let x := s.sub sc
  (x.books.filter (fun k => s.arrives sc k.msc == s.clk.msc)).foldl (fun l k => l ++
    (k.bursts.filter (fun b => b.kind == .data || b.kind == .ploamOnly)).map (fun b =>
      (b.term, ((b.start * guBits sc : Nat) : Int) * 2000000, (((b.start + b.len) * guBits sc : Nat) : Int) * 2000000))) []
def State.winsNow (s : State) (sc : Nat) : List (Int × Int) :=
  let x := s.sub sc
  let f : Int := (frameUnits x * guBits sc : Nat)
  x.disc.windows.map (fun w =>
    let a : Int := ((w.book : Int) - s.clk.msc) * 2000000 + w.start
    (a * f, (a + w.len) * f))

/-- Rogue part of light from a to b, in 1/16 ns after the milestone (R121): its length outside every slot widened by the
phase tolerance and outside every window, and its length in a quiet span if it lasts longer than 2 µs there and has
no delimiter. -/
def State.rogueLen (s : State) (sc a b : Nat) (delim : Bool) : Int :=
  let x := s.sub sc
  let f : Int := (frameUnits x * guBits sc : Nat)
  let tol : Int := (x.phaseTol : Int) * 2000000
  let lo := (a : Int) * f
  let hi := (b : Int) * f
  let wins := s.winsNow sc
  let free := outside ((s.slotsNow sc).map (fun e => (e.2.1 - tol, e.2.2 + tol)) ++ wins) lo hi
  free.foldl (fun n p => n + (p.2 - p.1)) 0 +
    (if delim then 0 else wins.foldl (fun n w => if 32000 * f < shared w lo hi then n + shared w lo hi else n) 0)

/-- The terminal whose granted slot ended most recently before a time after the milestone (R121): in this interval, or
else the last one of the interval before. -/
def State.lastSlot (s : State) (sc a : Nat) : Option Nat :=
  let x := s.sub sc
  let f := frameUnits x
  let at' := (x.books.map (fun k => (k.bursts.filter (fun b => b.kind == .data || b.kind == .ploamOnly)).map (fun b =>
    (b.term, s.arrives sc k.msc * f + b.start + b.len)))).flatten
  ((at'.filter (fun e => decide (e.2 * 2000000 ≤ s.clk.msc * f * 2000000 + a * f))).foldl (fun (r : Option (Nat × Nat)) e =>
    match r with
    | some q => if q.2 < e.2 then some e else r
    | none => some e) none).map (fun e => e.1)

/-- Rogue light seen (R121): more than 100 ns in an interval makes it one with rogue light; the fourth of eight
raises ROGUE_LIGHT. -/
def State.rogueLight (s : State) (sc a b : Nat) (delim : Bool) : State :=
  let x := s.sub sc
  let r := x.rogue
  let lim : Int := 1600 * (frameUnits x * guBits sc : Nat)
  let n := r.light + s.rogueLen sc a b delim
  let s := s.modRogue sc (fun r => { r with light := n })
  if r.light ≤ lim ∧ lim < n then
    let s := s.modRogue sc (fun r => { r with points := match s.lastSlot sc a with
      | some t => r.points.set 0 t (r.points.get 0 t + 1)
      | none => r.points })
    let hits := 1 + ((r.hist.take 7).filter (fun b => b)).length
    if 4 ≤ hits ∧ !r.raised then
      let s := (s.modRogue sc (fun r => { r with raised := true, clean := 0 })).raise evRogueLight sc
      if (s.sub sc).rogueAuto && !r.running then s.isolate sc else s
    else s
  else s

/-- The interval that ends at this milestone is judged (R121, R122). -/
def State.rogueMilestone (s : State) (sc : Nat) : State :=
  let x := s.sub sc
  let r := x.rogue
  let m := s.clk.msc - 1
  let bad := decide (1600 * ((frameUnits x * guBits sc : Nat) : Int) < r.light)
  let clean := if bad then 0 else min 8 (r.clean + 1)
  let r1 := { r with hist := (bad :: r.hist).take 8, light := 0, clean := clean, raised := r.raised && decide (clean < 8) }
  let r2 := match r.test with
    | some (_, e) =>
      { r1 with seenBefore := r.seenBefore || (bad && decide (e ≤ m ∧ m ≤ e + x.len))
                seenAfter := r.seenAfter || (bad && decide (e + x.len + 1 ≤ m ∧ m ≤ e + x.len + 8)) }
    | none => r1
  s.setSub sc { x with rogue := if r.unresolved && decide (8 ≤ clean) then r2.endWalk else r2 }

/-- ROGUE_OBSERVE_END (R122 steps 5 to 8). -/
def State.observeEnd (s : State) (sc : Nat) : State :=
  let r := (s.sub sc).rogue
  match r.test with
  | none => s
  | some (k, e) =>
    if s.clk.msc < e + s.len sc + 9 then s
    else if !r.seenAfter && r.seenBefore then
      let s := s.modTerm sc k (fun y => { y with rogueIso := true, after := if y.act == .draining then .disabled else y.after
                                                 act := if y.act == .draining then y.act else .disabled })
      let s := s.setRetd sc k { s.retd sc k with rogue := true }
      (s.modRogue sc Rogue.endWalk).raise evRogueIsolated (stArg sc k)
    else if !r.seenAfter && !r.seenBefore then
      ((s.reenable sc k).modRogue sc Rogue.endWalk).raise evRogueCleared sc
    else
      let s := s.reenable sc k
      (s.modRogue sc (fun r => { r with test := none })).nextCand sc (r.cands.length + 1)

/-! Recovery after a restart (R118). -/

/-- RECOVERY_PERIOD_END: every object with a retained round trip is in OPERATION, or 4,000 milestones have
passed. -/
def State.recoveryEnd (s : State) (sc : Nat) : State :=
  let x := s.sub sc
  match x.disc.recovery with
  | none => s
  | some e =>
    let all := (s.termsOf sc).all (fun t => (s.retd sc t).rtt.isNone || (s.term sc t).act == .operation)
    if all || decide (e ≤ s.clk.msc) then s.setSub sc { x with disc := { x.disc with recovery := none } } else s

/-- End of a sub-channel's drain, with the release of its credits (R354). -/
def State.subDone (s : State) (sc : Nat) : State :=
  let was := (s.sub sc).road
  let s := s.subDrainEnd sc
  if was == .draining && (s.sub sc).road == .disabled then s.release sc else s

/-! Meanings. -/

/-- BURST_RECEPTION (R79). -/
def execBurstReception (sc m i : Nat) (rx : BurstRx) (s : State) : Answer := kept s (s.burstReception sc m i rx)
/-- BURST_OUTCOME (R61). -/
def execBurstOutcome (sc m i : Nat) (rx : BurstRx) (s : State) : Answer := kept s (s.burstOutcome sc m i rx)
/-- CHANNEL_UNIT_LOST (R74). -/
def execChannelUnitLost (kind die u : Nat) (s : State) : Answer := kept s (s.chUnitLost kind die u)
/-- SN_RESPONSE (R102). -/
def execSnResponse (sc : Nat) (r : SnRsp) (s : State) : Answer := kept s (s.byLight sc (fun s => s.snResponse sc r))
/-- REGISTRATION_RESPONSE (R106). -/
def execRegistrationResponse (sc t : Nat) (r : RegRsp) (s : State) : Answer := 
  kept s (if s.standby then s.ownRecord sc t r else s.byLight sc (fun s => s.regResponse sc t r))
/-- RANGING_PROCESS (R108). -/
def execRangingProcess (sc t : Nat) (s : State) : Answer := kept s (s.byLight sc (fun s => s.rangingProcess sc t))
/-- RANGING_WINDOW_CLOSE (R107). -/
def execRangingWindowClose (sc t : Nat) (s : State) : Answer := kept s (s.byLight sc (fun s => s.windowClose sc t))
/-- RANGING_TIME_PERIOD_END (R111). -/
def execRangingTimePeriodEnd (sc t : Nat) (s : State) : Answer := kept s (s.byLight sc (fun s => s.rtPeriodEnd sc t))
/-- TERMINAL_LOST (R113). -/
def execTerminalLost (sc t : Nat) (s : State) : Answer := kept s (s.byLight sc (fun s => s.terminalLost sc t))
/-- UPSTREAM_PLOAM (R114). -/
def execUpstreamPloam (sc t : Nat) (msg : List Nat) (s : State) : Answer := kept s (if s.standby then s else s.upPloam sc t msg)
/-- UPSTREAM_OMCI (R116). -/
def execUpstreamOmci (sc t : Nat) (msg mic : List Nat) (s : State) : Answer := kept s (if s.standby then s else s.upOmci sc t msg mic)
/-- RECOVERY_PERIOD_END (R118). -/
def execRecoveryPeriodEnd (sc : Nat) (s : State) : Answer := kept s (s.recoveryEnd sc)
/-- ROGUE_LIGHT (R121). -/
def execRogueLight (sc : Nat) (w : LightSpan) (delim : Bool) (s : State) : Answer :=
  kept s (if (s.sub sc).road == .disabled then s else s.byLight sc (fun s => s.rogueLight sc w.a w.b delim))
/-- ROGUE_OBSERVE_END (R122). -/
def execRogueObserveEnd (sc : Nat) (s : State) : Answer := kept s (s.byLight sc (fun s => s.observeEnd sc))

end Sys2Proof.Machine
end

