-- ==== Sys2Proof/Machine/CmdPon.lean ====
section
/-! DEFINITION. Families 0x01 and 0x02: trees, sub-channels and terminals (R54, R84, R85, R93, R98 to R123,
R243 to R245). -/

namespace Sys2Proof.Machine

/-- Reset the stored registers of [lo, hi) whose reset domain satisfies `p` (R15). -/
def State.resetRegs (s : State) (lo hi : Nat) (p : RDom → Bool) : State :=
  { s with regs := s.regs.keep (fun a => !(decide (lo ≤ a ∧ a < hi) && (match regAt a with
      | some ra => p ra.reg.dom
      | none => false))) }

/-! Family 0x01. -/

end Sys2Proof.Machine

namespace Sys2Proof

/-- Sub-channels named by PARAM0 of ENABLE and DISABLE (R243). -/
def Desc.subs (c : Desc) : List Nat :=
  if 2 ^ 31 ≤ c.n0 then [2 * (c.n0 % 2 ^ 31), 2 * (c.n0 % 2 ^ 31) + 1] else [c.n0]

/-- PARAM0 of ENABLE and DISABLE is in range (R243). -/
def Desc.subsOk (c : Desc) : Bool :=
  if 2 ^ 31 ≤ c.n0 then decide (c.n0 % 2 ^ 31 < 192) else decide (c.n0 < 384)

/-- Sub-channel and terminal of PARAM0 (R245). -/
def Desc.psc (c : Desc) : Nat := c.n0 % 2 ^ 16
def Desc.pt (c : Desc) : Nat := c.n0 / 2 ^ 16

/-- PARAM0 names a sub-channel and a terminal (R245). -/
def Desc.termOk (c : Desc) : Bool := decide (c.psc < 384) && decide (c.pt < 512)

end Sys2Proof

namespace Sys2Proof.Machine

/-- A sub-channel is pending (R243): an ENABLE or DISABLE of it has not reached its E, or an ENABLE that names it
waits to complete. -/
def Sub.isPending (x : Sub) : Bool := x.pendE.isSome || x.resumeAcc.isSome

/-- A guard time in upstream bits is shorter than n ns. -/
def guardShort (x : Sub) (sc bits n : Nat) : Bool := decide (bits * 125000 < n * (frameUnits x * guBits sc))

/-- A unit bound to a sub-channel can serve it. -/
def State.chUsable (s : State) (sc kind : Nat) : Bool :=
  let k := if kind % 2 = 0 then (s.sub sc).engine else (s.sub sc).dsp
  let h := (s.health (chClass kind) (scDie sc * 104 + k)).st
  h == .active || h == .retiring

/-- A sub-channel has, or can be bound, an engine and a DSP unit (R75). -/
def State.chRoom (s : State) (sc : Nat) : Bool :=
  (s.chUsable sc 0 || (s.freeChUnit 0 (scDie sc)).isSome) && (s.chUsable sc 1 || (s.freeChUnit 1 (scDie sc)).isSome)

/-- Bind free units where the bound ones cannot serve (R72, R75). -/
def State.chBind (s : State) (sc : Nat) : State :=
  [0, 1].foldl (fun s kind =>
    if s.chUsable sc kind then s
    else match s.freeChUnit kind (scDie sc) with
      | some k => s.bindCh sc kind k
      | none => s) s

/-- ENABLE (R59, R75, R84, R243, R354). -/
def infoEnable : CmdInfo := { op := 0x0101, defer := true, args := fun c => c.subsOk && c.zeroFrom 1 }

/-- The latest roadbook in which a sub-channel of an ENABLE is first planned (R243). -/
def State.enableRoad (s : State) (subs : List Nat) (e : Nat) : Nat :=
  subs.foldl (fun m sc =>
    let x := s.sub sc
    max m (if x.road == .draining then max e (x.drainE.getD 0 + x.len) else e)) e

/-- A sub-channel that an ENABLE or DISABLE names and skips is pending like the one it acts on (R243). -/
def State.alsoPending (s : State) (subs acts : List Nat) (e : Nat) : State :=
  (subs.filter (fun sc => !acts.contains sc)).foldl (fun s sc => s.modSub sc (fun x => { x with pendE := some e })) s

/-- What an ENABLE finds once its E is known: units, credits and places in the list of deferred changes (R47, R75,
R354), then the guard time (R84). At replay it was found (R265). -/
def State.enableErr (s : State) (rp : Option ExecRec) (acts : List Nat) : Option Nat :=
  if rp.isSome then none
  else if acts.any (fun sc => !s.chRoom sc) then some stNoRoom
  else if decide (s.budget (scDie (acts.headD 0)) < s.reserved (scDie (acts.headD 0)) + (acts.map s.creditNeed).foldl (· + ·) 0) then
    some stNoRoom
  else if !s.pendFits (acts.filter (fun sc => (s.sub sc).road == .disabled)).length then some stNoRoom
  else if acts.any (fun sc => guardShort (s.sub sc) sc (s.sub sc).guardBits (s.brstWidth sc + 4)) then some stBadArg
  else none

/-- ENABLE of one sub-channel it acts on: a DRAINING one resumes, a DISABLED one is enabled at E (R59, R243). -/
def State.enableOne (s : State) (c : Desc) (e : Nat) (resumes : Bool) (sc : Nat) : State :=
  let s := (s.reserve sc).chBind sc
  if (s.sub sc).road == .draining then
    s.modSub sc (fun x => { x with road := .resuming, resumeR := some (max e (x.drainE.getD 0 + x.len)), resumeAcc := some c.acc })
  else
    (s.modSub sc (fun x => { x with pendE := some e, resumeAcc := if resumes then some c.acc else none })).defer c e (.subEnable sc)

def bodyEnable : Body := fun rp c s =>
  let subs := c.subs
  if s.isProtect ((c.subs.headD 0) / 2) then bad stState s
  else if subs.any (fun sc => (s.sub sc).isPending) then bad stState s
  else
    let acts := subs.filter (fun sc => (s.sub sc).road == .disabled || (s.sub sc).road == .draining)
    if acts.isEmpty then ok s
    else
      match s.resolveE rp c with
      | .error n => bad n s
      | .ok e =>
        match s.enableErr rp acts with
        | some n => bad n s
        | none =>
          let resumes := acts.any (fun sc => (s.sub sc).road == .draining)
          let t := (acts.foldl (fun s sc => s.enableOne c e resumes sc) s).alsoPending subs acts e
          if resumes then (.opened, t) else deferred e t

/-- DISABLE (R55, R57, R60, R71, R243). -/
def infoDisable : CmdInfo :=
  { op := 0x0102, defer := true, args := fun c => c.subsOk && decide (c.n1 < 2) && c.zeroFrom 2 }

def bodyDisable : Body := fun rp c s =>
  let subs := c.subs
  if s.isProtect ((subs.headD 0) / 2) then bad stState s
  else if subs.any (fun sc => (s.sub sc).isPending || (s.sub sc).road == .resuming) then bad stState s
  else
    let acts := subs.filter (fun sc => (s.sub sc).road == .enabled)
    if acts.isEmpty then ok s
    else
      match s.resolveE rp c with
      | .error n => bad n s
      | .ok e =>
        if !s.pendFits (acts.length + b2n (decide (2 ^ 31 ≤ c.n0))) then bad stNoRoom s
        else
          let t := (acts.foldl (fun s sc =>
            (s.modSub sc (fun x => { x with pendE := some e })).defer c e (.subDisable sc (decide (c.n1 = 1)))) s).alsoPending subs acts e
          deferred e (if 2 ^ 31 ≤ c.n0 then t.defer c e (.treeDrain (c.n0 % 2 ^ 31)) else t)

/-- SET_ROAD_LENGTH (R54, R243). -/
def infoSetRoadLength : CmdInfo :=
  { op := 0x0103, args := fun c => decide (c.n0 < 384) && decide (2 ≤ c.n1 ∧ c.n1 ≤ 6) && c.zeroFrom 2 }

def bodySetRoadLength : Body := fun _ c s =>
  if s.isProtect (c.n0 / 2) || (s.sub c.n0).road != .disabled then bad stState s
  else ok (s.modSub c.n0 (fun x => { x with len := c.n1, reLen := true }))

/-- A profile of the SET_SUBCH_PARAMS block (R244). -/
def readProfile (l : List Nat) (p : Nat) : Profile :=
  let o := 0x10 + 16 * p
  { pre := leAt l o 2, del := leAt l (o + 2) 1, fec := leAt l (o + 3) 1 % 2 == 1
    prePat := BitVec.ofNat 32 (leAt l (o + 4) 4), delPat := BitVec.ofNat 64 (leAt l (o + 8) 8) }

/-- Preambles decrease strictly from LONG to MIN (R84). -/
def strictlyDown (l : List Profile) : Bool :=
  match l with
  | a :: b :: r => decide (b.pre < a.pre) && strictlyDown (b :: r)
  | _ => true

/-- The block is well formed for the sub-channel (R84, R244). -/
def State.paramsOk (s : State) (sc : Nat) (l : List Nat) : Bool :=
  let rate := leAt l 0 1
  let ps := (List.range 4).map (readProfile l)
  let x : Sub := { rate := rate }
  let guard := leAt l 2 2
  (if sc % 2 = 0 then decide (rate < 3) else rate == 3) && leAt l 1 1 == 0 && leAt l 6 10 == 0 &&
  (List.range 4).all (fun p => decide (leAt l (0x13 + 16 * p) 1 < 2)) &&
  ps.all (fun p => (p.del == 32 || p.del == 64) && decide (64 ≤ p.pre) && (p.del == 64 || decide (p.delPat.toNat < 2 ^ 32))) &&
  strictlyDown ps && !guardShort x sc guard 20 && !guardShort x sc guard (s.brstWidth sc + 4) &&
  decide (2 * leAt l 4 2 ≤ guard)

/-- Broadcast the burst profiles (R83, R114). -/
def State.sendProfiles (s : State) (sc : Nat) : State :=
  ((s.sub sc).profiles.zipIdx).foldl (fun s p =>
    s.ploam sc 512 plBurstProfile ([p.2] ++ leBytes 2 p.1.pre ++ [p.1.del, b2n p.1.fec] ++ leBytes 4 p.1.prePat.toNat ++ leBytes 8 p.1.delPat.toNat)
      s.nextFrame) s

/-- SET_SUBCH_PARAMS (R84, R244). -/
def infoSetSubchParams : CmdInfo :=
  { op := 0x0104, buf := .inp (fun n => n == 80), args := fun c => decide (c.n0 < 384) && c.zeroFrom 1 }

def bodySetSubchParams : Body := fun rp c s =>
  if s.isProtect (c.n0 / 2) || (s.sub c.n0).road != .disabled then bad stState s
  else if rp.isNone && !s.paramsOk c.n0 c.inp then bad stBadArg s
  else
    let s := s.modSub c.n0 (fun x => { x with rate := leAt c.inp 0 1, guardBits := leAt c.inp 2 2, phaseTol := leAt c.inp 4 2
                                              profiles := (List.range 4).map (readProfile c.inp), paramsSet := true })
    ok (s.sendProfiles c.n0)

/-- SET_DISCOVERY (R102, R243): the first window falls due at the next snapshot. -/
def infoSetDiscovery : CmdInfo :=
  { op := 0x0105
    args := fun c => decide (c.n0 < 384) && (c.n1 == 0 || decide (8 ≤ c.n1 ∧ c.n1 < 2 ^ 16)) && decide (c.n3 < 2) && c.zeroFrom 4 }

def bodySetDiscovery : Body := fun rp c s =>
  let rtt := c.n2 % 2 ^ 16
  let diff := c.n2 / 2 ^ 16
  if s.isProtect (c.n0 / 2) then bad stState s
  else if rp.isNone && decide ((s.len c.n0 - 1) * 125 < rtt + diff) then bad stBadArg s
  else ok (s.modSub c.n0 (fun x => { x with disc := { x.disc with
    period := c.n1, rttMin := rtt, diff := diff, admitNew := decide (c.n3 = 1), admitDom := c.dom, nextDue := 0 } }))

/-- RESET_TREE (R15, R83, R93, R243, R353): both sub-channels at their defaults, preload records cleared. -/
def infoResetTree : CmdInfo := { op := 0x0106, args := fun c => decide (c.n0 < 192) && c.zeroFrom 1 }

/-- Reset one sub-channel; its ledger, unit bindings and firmware settings of family 0x02 stay. -/
def State.resetSub (s : State) (sc : Nat) : State :=
  let d := Sub.dflt sc
  let s := s.modSub sc (fun x => { x with
    len := d.len, rate := d.rate, guardBits := d.guardBits, phaseTol := d.phaseTol, profiles := d.profiles, paramsSet := false
    superframe := 0, ploamSeq := 0, dsq := [], sd := false
    disc := { x.disc with period := 0, rttMin := 0, diff := 0, admitNew := false, admitDom := 0, showPeriod := 0, showQuiet := 0 } })
  let s := s.setSubCph sc { s.subCph sc with sm4 := false }
  (s.termsOf sc).foldl (fun s t => s.modTerm sc t (fun y => { y with pre := {}, prof := 0, profP := 0 })) s

/-- A LOST lane stays LOST, held in idle, over a reset: only POST of a cold start tests it again (R496). -/
def State.keepLost (s t : State) (l : Nat) : State :=
  if s.fld (lneA l 4) 2 0 = 6 then t.setReg (lneA l 4) 6 else t

/-- Reset a tree: its CHN block, its engines and its lanes (R15). -/
def State.resetTree (s : State) (c : Nat) : State :=
  let tree := fun d => d == RDom.tree || d == RDom.lane
  let s := s.resetRegs (chnA c 0) (chnA (c + 1) 0) tree
  let t := (s.resetRegs (lneA (2 * c) 0) (lneA (2 * c + 2) 0) tree)
  let s := s.keepLost (s.keepLost t (2 * c)) (2 * c + 1)
  let s := { s with
    mgmt := { s.mgmt with lanes := s.mgmt.lanes.keep (fun l => l / 2 != c) }
    pon := { s.pon with plPorts := s.pon.plPorts.del c } }
  (s.resetSub (2 * c)).resetSub (2 * c + 1)

def bodyResetTree : Body := fun _ c s =>
  if s.isProtect c.n0 || (s.sub (2 * c.n0)).road != .disabled || (s.sub (2 * c.n0 + 1)).road != .disabled then bad stState s
  else ok (s.resetTree c.n0)

/-! Family 0x02. -/

/-- The checks of a command that names a terminal object (R258, R259, R122, R395), then its effect. -/
def State.onTerm (s : State) (c : Desc) (f : Term → State → Res × State) : Res × State :=
  let y := s.term c.psc c.pt
  if y.act == .free then bad stNotFound s
  else if y.dom != c.dom then bad stDomain s
  else if s.isProtect (c.psc / 2) || s.underTest c.psc c.pt then bad stState s
  else f y s

/-- Serial number of ADD_TERMINAL: eight bytes, vendor ID first (R96, R245). -/
def snOf (c : Desc) : Nat := c.n1 + 2 ^ 32 * c.n2

/-- ADD_TERMINAL (R98, R100, R101, R245). -/
def infoAddTerminal : CmdInfo :=
  { op := 0x0201, buf := .inpOpt (fun n => n == 36), args := fun c => c.termOk && c.zeroFrom 3 && (c.bufLen == 0 || c.bufLen == 36) }

def bodyAddTerminal : Body := fun _ c s =>
  let y := s.term c.psc c.pt
  if y.act != .free && y.dom != c.dom then bad stDomain s
  else if s.isProtect (c.psc / 2) || s.underTest c.psc c.pt || y.act == .draining then bad stState s
  else if y.act != .free || (s.termsOf c.psc).any (fun t => (s.term c.psc t).serial == snOf c) then bad stExists s
  else
    let y : Term := { act := .registered, serial := snOf c, dom := c.dom, regId := if c.bufLen = 36 then some c.inp else none }
    ok (s.setTerm c.psc c.pt y)

/-- A terminal has a unit or a flow installed (R100). -/
def State.termUsed (s : State) (sc t : Nat) : Bool :=
  s.grant.units.any (fun e => e.2.inst && e.2.sc == sc && e.2.term == t) ||
  s.data.flows.any (fun e => e.2.inst && e.2.sc == sc && e.2.term == t && e.2.kind != 2)

/-- REMOVE_TERMINAL (R98, R100). -/
def infoRemoveTerminal : CmdInfo := { op := 0x0202, args := fun c => c.termOk && c.zeroFrom 1 }

def bodyRemoveTerminal : Body := fun _ c s => s.onTerm c (fun y s =>
  if !(y.act == .registered || y.act == .disabled) || s.termUsed c.psc c.pt then bad stState s
  else ok (s.freeTerm c.psc c.pt))

/-- A deactivation, disable or other shut-down of the terminal is pending for a later E, or runs (R101). -/
def State.shutPending (s : State) (sc t : Nat) : Bool :=
  (s.term sc t).deactE.isSome || (s.term sc t).act == .draining ||
  s.deferred.any (fun p => match p.change with
    | .termDeact a b _ _ => a == sc && b == t
    | _ => false)

/-- DEACTIVATE_TERMINAL (R101). -/
def infoDeactivateTerminal : CmdInfo :=
  { op := 0x0203, defer := true, args := fun c => c.termOk && decide (c.n1 < 2) && c.zeroFrom 2 }

def bodyDeactivateTerminal : Body := fun rp c s => s.onTerm c (fun y s =>
  if y.act == .registered || y.act == .disabled then ok s
  else if s.shutPending c.psc c.pt then bad stState s
  else
    match s.resolveE rp c with
    | .error n => bad n s
    | .ok e => if !s.pendRoom then bad stNoRoom s else deferred e (s.defer c e (.termDeact c.psc c.pt (decide (c.n1 = 1)) false)))

/-- DISABLE_SERIAL (R98, R101). -/
def infoDisableSerial : CmdInfo :=
  { op := 0x0204, defer := true, args := fun c => c.termOk && decide (c.n1 < 2) && c.zeroFrom 2 }

def bodyDisableSerial : Body := fun rp c s => s.onTerm c (fun y s =>
  if y.act == .disabled then ok s
  else if s.shutPending c.psc c.pt then bad stState s
  else
    match s.resolveE rp c with
    | .error n => bad n s
    | .ok e => if !s.pendRoom then bad stNoRoom s else deferred e (s.defer c e (.termDeact c.psc c.pt (decide (c.n1 = 1)) true)))

/-- ENABLE_SERIAL (R98, R122): a rogue-isolated disable is lifted, also in the retained table. -/
def infoEnableSerial : CmdInfo := { op := 0x0205, args := fun c => c.termOk && c.zeroFrom 1 }

def bodyEnableSerial : Body := fun _ c s => s.onTerm c (fun y s =>
  if y.act != .disabled then bad stState s
  else
    let s := s.sendDisable c.psc c.pt s.nextFrame true
    let s := s.setTerm c.psc c.pt { y with act := .registered, cmdDis := false, rogueIso := false }
    ok (s.setRetd c.psc c.pt { s.retd c.psc c.pt with rogue := false }))

/-- SET_BURST_PROFILE (R85). -/
def infoSetBurstProfile : CmdInfo :=
  { op := 0x0206, defer := true, args := fun c => c.termOk && decide (c.n1 < 4) && c.zeroFrom 2 }

def bodySetBurstProfile : Body := fun rp c s => s.onTerm c (fun y s =>
  let p := y.pre
  if rp.isNone && c.n1 != 0 && (!p.valid || p.fault || p.pend || decide (s.preloadAge c.psc < s.preAge p)) then bad stState s
  else
    match s.resolveE rp c with
    | .error n => bad n s
    | .ok e =>
      if !s.pendRoom then bad stNoRoom s
      else
        let s := if c.n1 = 0 then s.setTerm c.psc c.pt { y with pre := { p with reason := 4 } } else s
        deferred e (s.defer c e (.burstProfile c.psc c.pt c.n1)))

/-- SET_RANGING (R109, R113, R122, R245). -/
def infoSetRanging : CmdInfo :=
  { op := 0x0207, args := fun c => decide (c.n0 < 384) && decide (c.n1 < 2 ^ 24) && decide (c.n2 < 2) && c.zeroFrom 3 }

def bodySetRanging : Body := fun _ c s =>
  if c.dom != 0 then bad stDomain s
  else if s.isProtect (c.n0 / 2) then bad stState s
  else if (s.sub c.n0).phaseTol < c.n1 % 2 ^ 16 then bad stBadArg s
  else ok (s.modSub c.n0 (fun x => { x with
    eqdThr := c.n1 % 2 ^ 16, lostLimit := if c.n1 / 2 ^ 16 = 0 then 8 else c.n1 / 2 ^ 16, rogueAuto := decide (c.n2 = 1) }))

/-- RANGE_TERMINAL (R99). -/
def infoRangeTerminal : CmdInfo := { op := 0x0208, defer := true, args := fun c => c.termOk && c.zeroFrom 1 }

def bodyRangeTerminal : Body := fun rp c s => s.onTerm c (fun y s =>
  if y.act != .operation then bad stState s
  else
    match s.resolveE rp c with
    | .error n => bad n s
    | .ok e => if !s.pendRoom then bad stNoRoom s else deferred e (s.defer c e (.termRange c.psc c.pt)))

/-- ISOLATE_ROGUE (R122, R245). -/
def infoIsolateRogue : CmdInfo :=
  { op := 0x0209, args := fun c => decide (c.n0 < 384) && decide (c.n1 < 2) && c.zeroFrom 2 }

def bodyIsolateRogue : Body := fun rp c s =>
  let r := (s.sub c.n0).rogue
  -- on the STANDBY device the walk is that of the decision records (R398)
  if rp.isSome && s.standby then ok s
  else if c.dom != 0 then bad stDomain s
  else if s.isProtect (c.n0 / 2) then bad stState s
  else if c.n1 = 1 then
    let s0 := s
    let s := match r.test with
      | some (k, _) => s.reenable c.n0 k
      | none => s
    ok (s0.tellTerms (s.modRogue c.n0 Rogue.endWalk) c.n0)
  else if r.running then bad stState s
  else ok (s.tellTerms (s.isolate c.n0) c.n0)

/-- READ_UNKNOWN (R103, R245): the list is emptied. -/
def infoReadUnknown : CmdInfo :=
  { op := 0x020A, query := true, buf := .out (fun _ => 512), args := fun c => decide (c.n0 < 384) && c.zeroFrom 1 }

def bodyReadUnknown : Body := fun _ c s =>
  let l := (s.sub c.n0).disc.unknown
  if c.dom != 0 then bad stDomain s
  else
    let s := s.outBuf c (padTo 512 (l.map (leBytes 8)).flatten)
    okR l.length 0 (s.modSub c.n0 (fun x => { x with disc := { x.disc with unknown := [] } }))

/-- The 64-byte record of a terminal (R123). -/
def State.termBytes (s : State) (sc t : Nat) : List Nat :=
  let y := s.term sc t
  let flags := b2n y.cmdDis + 2 * b2n y.rogueIso + 4 * b2n y.regId.isSome + 8 * b2n (s.retd sc t).rtt.isSome
  [y.act.code, y.road.code, y.dom, flags] ++ leBytes 2 sc ++ leBytes 2 t ++ leBytes 8 y.serial ++ leBytes 4 (y.rtt % 2 ^ 24)
    ++ leBytes 4 (BitVec.ofInt 32 y.eqd).toNat ++ leBytes 4 (BitVec.ofInt 32 y.driftF).toNat ++ leBytes 4 y.eqdUpdates.toNat
    ++ leBytes 8 y.activeMsc ++ leBytes 4 y.lostCount.toNat ++ leBytes 4 y.activations.toNat ++ leBytes 4 y.omciTx.toNat
    ++ leBytes 4 y.omciRx.toNat ++ leBytes 4 y.omciMic.toNat ++ leBytes 4 0

/-- READ_TERMINAL (R123). -/
def infoReadTerminal : CmdInfo :=
  { op := 0x020B, query := true, buf := .out (fun _ => 64), args := fun c => c.termOk && c.zeroFrom 1 }

def bodyReadTerminal : Body := fun _ c s => s.onTerm c (fun _ s => ok (s.outBuf c (s.termBytes c.psc c.pt)))

/-- READ_SUBCH_ACT (R123). -/
def infoReadSubchAct : CmdInfo :=
  { op := 0x020C, query := true, buf := .out (fun _ => 16), args := fun c => decide (c.n0 < 384) && c.zeroFrom 1 }

def bodyReadSubchAct : Body := fun _ c s =>
  let d := (s.sub c.n0).disc
  if c.dom != 0 then bad stDomain s
  else ok (s.outBuf c (leBytes 4 d.unknownDropped ++ leBytes 4 d.snDup ++ leBytes 4 d.omciRxDrop ++ leBytes 4 d.skipped))

/-- SEND_PLOAM (R76, R114, R245). -/
def infoSendPloam : CmdInfo :=
  { op := 0x020D, tx := true, buf := .inp (fun n => n == 40)
    args := fun c => decide (c.n0 % 2 ^ 16 < 384) && decide (c.n0 / 2 ^ 16 % 2 ^ 15 < 512) && c.zeroFrom 1 }

def bodySendPloam : Body := fun rp c s =>
  let t := c.n0 / 2 ^ 16 % 2 ^ 15
  let y := s.term c.psc t
  let all := decide (2 ^ 31 ≤ c.n0)
  if rp.isSome then ok s
  else if !all && y.act == .free then bad stNotFound s
  else if (if all then c.dom != 0 else y.dom != c.dom) then bad stDomain s
  else if s.isProtect (c.psc / 2) || (!all && s.underTest c.psc t) || !(s.sub c.psc).lit then bad stState s
  else
    match s.takeBuf 16 48 with
    | (none, s) => bad stNoRoom s
    | (some (p, b), t1) =>
      if plHandled (c.inp.getD 2 0) then bad stBadArg s
      else
        let s := t1
      (.opened, s.queuePloam c.psc (if all then 512 else t) (c.inp.getD 2 0 :: c.inp.drop 4) s.nextFrame (some c.acc)
        (some (p, b, if all then 0 else y.dom)))

/-- SEND_OMCI (R76, R115, R245). -/
def infoSendOmci : CmdInfo :=
  { op := 0x020E, tx := true, buf := .inp (fun _ => true)
    args := fun c => c.termOk && decide (c.n1 < 2) && c.zeroFrom 2 &&
      (if c.n1 = 0 then c.bufLen == 44 else decide (8 ≤ c.bufLen ∧ c.bufLen ≤ 1976)) }

def bodySendOmci : Body := fun rp c s => s.onTerm c (fun y s =>
  if rp.isSome then ok s
  else if y.act != .operation || !(s.sub c.psc).lit then bad stState s
  else if 16 ≤ ((s.sub c.psc).dsq.filter (fun m => m.kind == 1 && m.term == c.pt)).length then bad stNoRoom s
  else
    match s.takeBuf 16 (c.bufLen + 4) with
    | (none, s) => bad stNoRoom s
    | (some (p, b), s) => (.opened, s.queueOmci c.psc c.pt c.inp c.acc (some (p, b, y.dom))))

/-- BIND_TERMINAL_RX (R117, R245). -/
def infoBindTerminalRx : CmdInfo :=
  { op := 0x020F, args := fun c => decide (c.n0 < (if c.dom = 0 then 64 else 15)) && decide (4 ≤ c.n1 ∧ c.n1 ≤ 7) && c.zeroFrom 2 }

def bodyBindTerminalRx : Body := fun _ c s =>
  ok (s.setDom c.dom { s.domE c.dom with rx := some (ringOf c.dom c.n0, c.n1) })

/-! Meanings. -/

/-- ENABLE. -/
def execEnable (c : Desc) (s : State) : Answer := kept s (runCmd infoEnable bodyEnable c s)
/-- DISABLE. -/
def execDisable (c : Desc) (s : State) : Answer := kept s (runCmd infoDisable bodyDisable c s)
/-- SET_ROAD_LENGTH. -/
def execSetRoadLength (c : Desc) (s : State) : Answer := kept s (runCmd infoSetRoadLength bodySetRoadLength c s)
/-- SET_SUBCH_PARAMS. -/
def execSetSubchParams (c : Desc) (s : State) : Answer := kept s (runCmd infoSetSubchParams bodySetSubchParams c s)
/-- SET_DISCOVERY. -/
def execSetDiscovery (c : Desc) (s : State) : Answer := kept s (runCmd infoSetDiscovery bodySetDiscovery c s)
/-- RESET_TREE. -/
def execResetTree (c : Desc) (s : State) : Answer := kept s (runCmd infoResetTree bodyResetTree c s)
/-- ADD_TERMINAL. -/
def execAddTerminal (c : Desc) (s : State) : Answer := kept s (runCmd infoAddTerminal bodyAddTerminal c s)
/-- REMOVE_TERMINAL. -/
def execRemoveTerminal (c : Desc) (s : State) : Answer := kept s (runCmd infoRemoveTerminal bodyRemoveTerminal c s)
/-- DEACTIVATE_TERMINAL. -/
def execDeactivateTerminal (c : Desc) (s : State) : Answer :=
  kept s (runCmd infoDeactivateTerminal bodyDeactivateTerminal c s)
/-- DISABLE_SERIAL. -/
def execDisableSerial (c : Desc) (s : State) : Answer := kept s (runCmd infoDisableSerial bodyDisableSerial c s)
/-- ENABLE_SERIAL. -/
def execEnableSerial (c : Desc) (s : State) : Answer := kept s (runCmd infoEnableSerial bodyEnableSerial c s)
/-- SET_BURST_PROFILE. -/
def execSetBurstProfile (c : Desc) (s : State) : Answer := kept s (runCmd infoSetBurstProfile bodySetBurstProfile c s)
/-- SET_RANGING. -/
def execSetRanging (c : Desc) (s : State) : Answer := kept s (runCmd infoSetRanging bodySetRanging c s)
/-- RANGE_TERMINAL. -/
def execRangeTerminal (c : Desc) (s : State) : Answer := kept s (runCmd infoRangeTerminal bodyRangeTerminal c s)
/-- ISOLATE_ROGUE. -/
def execIsolateRogue (c : Desc) (s : State) : Answer := kept s (runCmd infoIsolateRogue bodyIsolateRogue c s)
/-- READ_UNKNOWN. -/
def execReadUnknown (c : Desc) (s : State) : Answer := kept s (runCmd infoReadUnknown bodyReadUnknown c s)
/-- READ_TERMINAL. -/
def execReadTerminal (c : Desc) (s : State) : Answer := kept s (runCmd infoReadTerminal bodyReadTerminal c s)
/-- READ_SUBCH_ACT. -/
def execReadSubchAct (c : Desc) (s : State) : Answer := kept s (runCmd infoReadSubchAct bodyReadSubchAct c s)
/-- SEND_PLOAM. -/
def execSendPloam (c : Desc) (s : State) : Answer := kept s (runCmd infoSendPloam bodySendPloam c s)
/-- SEND_OMCI. -/
def execSendOmci (c : Desc) (s : State) : Answer := kept s (runCmd infoSendOmci bodySendOmci c s)
/-- BIND_TERMINAL_RX. -/
def execBindTerminalRx (c : Desc) (s : State) : Answer := kept s (runCmd infoBindTerminalRx bodyBindTerminalRx c s)

end Sys2Proof.Machine
end

