-- ==== Sys2Proof/Machine/Traffic.lean ====
section
/-! DEFINITION. The traffic manager (chapter 09, R273 to R303): buckets and shapers, gates, enqueue, selection
by start-time fair queuing, dequeue, the sampler, and operations 0x10 to 0x15 of family 0x04. -/

namespace Sys2Proof.Machine

/-- Change the data state. -/
def State.modData (s : State) (f : DataSt → DataSt) : State := { s with data := f s.data }

/-- Hub nanosecond count (R276): two hub cycles each. -/
def State.ns (s : State) : Nat := s.clk.hubc / 2

/-- TMG.DROP_CNT k (R303). -/
def State.tmgDrop (s : State) (k n : Nat) : State := s.add64 (tmgA (0x10 + 8 * k)) n

/-! Buckets (R276 to R279). -/

/-- An unlimited rate (R276). -/
abbrev rateMax : Nat := 0xFFFFFFFF

/-- Cap of a bucket in microbits (R276). -/
def Bucket.cap (b : Bucket) : Int := b.burst * 8000000

/-- Credit after refill (R276); a committed bucket of rate 0 holds −1. -/
def Bucket.at (b : Bucket) (committed : Bool) (now : Nat) : Int :=
  if b.rate = rateMax then b.cap
  else if committed && b.rate = 0 then -1
  else min b.cap (b.credit + b.rate * ((now : Int) - b.last))

/-- Debit after refill (R278). -/
def Bucket.debit (b : Bucket) (committed : Bool) (now : Nat) (x : Int) : Bucket :=
  { b with credit := b.at committed now - x, last := now }

/-- New parameters (R279, R294): the credit is clamped to the new cap and not refilled. -/
def Bucket.change (b : Bucket) (committed : Bool) (now rate burst : Nat) : Bucket :=
  { rate := rate, burst := burst, credit := min (burst * 8000000) (b.at committed now), last := now }

/-- A full bucket (R278, R292). -/
def Bucket.full (rate burst now : Nat) : Bucket := { rate := rate, burst := burst, credit := burst * 8000000, last := now }

/-- Colours of R277. -/
inductive Colour where
  | green | yellow | held
  deriving DecidableEq, Repr

/-- Colour of a queue or node after refill (R277). -/
def Sched.colour (x : Sched) (now : Nat) : Colour :=
  if x.pir.at false now < 0 then .held else if x.cir.at true now < 0 then .yellow else .green

/-! Queues and nodes by key. Class queue i belongs to port i / 512, domain i / 8 mod 64, class i mod 8 (R273). -/

/-- A queue: `up` selects a class queue. -/
def State.queue (s : State) (up : Bool) (i : Nat) : Queue := if up then s.data.classQ.get {} i else s.data.flowQ.get {} i
def State.setQueue (s : State) (up : Bool) (i : Nat) (x : Queue) : State :=
  s.modData (fun d => if up then { d with classQ := d.classQ.set {} i x } else { d with flowQ := d.flowQ.set {} i x })
def State.sched (s : State) (up : Bool) (i : Nat) : Sched := if up then s.data.classS.get {} i else s.data.flowS.get {} i
def State.setSched (s : State) (up : Bool) (i : Nat) (x : Sched) : State :=
  s.modData (fun d => if up then { d with classS := d.classS.set {} i x } else { d with flowS := d.flowS.set {} i x })
/-- A node: terminal 512 s + t, or domain node 64 u + d. -/
def State.node (s : State) (up : Bool) (i : Nat) : Sched := if up then s.data.domN.get {} i else s.data.termN.get {} i
def State.setNode (s : State) (up : Bool) (i : Nat) (x : Sched) : State :=
  s.modData (fun d => if up then { d with domN := d.domN.set {} i x } else { d with termN := d.termN.set {} i x })

/-- Node of a queue (R273). -/
def State.nodeOf (s : State) (up : Bool) (i : Nat) : Nat := if up then i / 8 else 512 * (s.flow i).sc + (s.flow i).term

/-- Domain of a queue (R273). -/
def State.queueDom (s : State) (up : Bool) (i : Nat) : Nat := if up then i / 8 % 64 else (s.flow i).dom

/-- Counters of a node. -/
def State.nodeCount (s : State) (up : Bool) (n : Nat) : Queue :=
  if up then s.data.domC.get {} n else s.data.termC.get {} n
def State.setNodeCount (s : State) (up : Bool) (n : Nat) (x : Queue) : State :=
  s.modData (fun d => if up then { d with domC := d.domC.set {} n x } else { d with termC := d.termC.set {} n x })

/-- Count on a queue and on its node (R301). -/
def State.countQ (s : State) (up : Bool) (i : Nat) (f : Queue → Queue) : State :=
  let n := s.nodeOf up i
  (s.setQueue up i (f (s.queue up i))).setNodeCount up n (f (s.nodeCount up n))

/-- Depth of a queue in bytes (R283). -/
def Queue.depth (q : Queue) : Nat := q.frames.foldl (fun n f => n + f.n) 0

/-- A port: key 512 × kind + index. -/
def State.port (s : State) (pt : Nat) : Port := s.data.ports.get {} pt
def State.setPort (s : State) (pt : Nat) (x : Port) : State := s.modData (fun d => { d with ports := d.ports.set {} pt x })

/-- Port of a queue. -/
def State.portOf (s : State) (up : Bool) (i : Nat) : Nat := if up then 512 + i / 512 else (s.flow i).sc

/-- Overhead adjustment of a port (R275). -/
def State.adj (s : State) (pt : Nat) : Int := (s.port pt).adj.getD (if pt < 512 then 8 else 20)

/-- Charged length (R275); it can be negative. -/
def State.charged (s : State) (pt n : Nat) : Int := n + s.adj pt

/-! Service state (R285). -/

/-- A terminal is served downstream: in OPERATION, or in a re-range (R99, R285). -/
def State.termServed (s : State) (sc t : Nat) : Bool :=
  let x := s.sub sc
  let y := s.term sc t
  x.road == .enabled && decide (x.enableE ≤ s.clk.msc) &&
    ((y.act == .operation && y.road == .enabled) || (y.act == .ranging && y.rerange))

/-- A flow may be served: ENABLED, and from frame R after a resume (R59, R285). -/
def State.flowServed (s : State) (f : Nat) : Bool :=
  let x := s.flow f
  x.inst && x.road == .enabled && (match x.resumeR with
    | some r => decide (r ≤ s.clk.msc)
    | none => true) && s.termServed x.sc x.term

/-- A port is up (R503). -/
def State.portUp (s : State) (u : Nat) : Bool := (s.uport u).road == .enabled && (s.uport u).link

/-- A queue may be served (R285). -/
def State.served (s : State) (up : Bool) (i : Nat) : Bool :=
  if up then s.portUp (i / 512) && s.domRoad (i / 8 % 64) == .enabled else s.flowServed i

/-! Gates (R286 to R291). -/

/-- Device time in ns (R370). -/
def State.devNs (s : State) : Nat := s.time.dev / 65536

/-- CYCLE_NS (R287). -/
def GateList.cycle (g : GateList) : Nat := g.entries.foldl (fun n e => n + e.1) 0

/-- Position of a time within its cycle (R287). -/
def GateList.phase (g : GateList) (t : Nat) : Nat :=
  if g.cycle = 0 then 0
  else if g.align then t % g.cycle
  else (((t : Int) - g.base).emod g.cycle).toNat

/-- Entry at a position: its index, its mask and the time left in it. -/
def gateEntry (l : List (Nat × Nat)) (i ph : Nat) : Nat × Nat × Nat :=
  match l with
  | [] => (i, 255, 0)
  | (d, m) :: r => if ph < d then (i, m, d - ph) else gateEntry r (i + 1) (ph - d)

/-- The list in force at a time under the joined schedule (R291). -/
def Port.listAt (p : Port) (t : Nat) : Option GateList :=
  match p.pend with
  | some (ts, l) => if ts ≤ t then l else p.list
  | none => p.list

/-- Bit g of a gate mask. -/
def gateBit (m g : Nat) : Bool := m / 2 ^ g % 2 == 1

/-- Every entry opens class g. -/
def GateList.always (l : GateList) (g : Nat) : Bool := l.entries.all (fun e => gateBit e.2 g)

/-- End of the contiguous open span of class g that contains t, none if it does not end; t itself if the gate
is closed (R289, R291). -/
def Port.spanEnd (p : Port) (g t fuel : Nat) : Option Nat :=
  match fuel with
  | 0 => none
  | n + 1 =>
    let switch := match p.pend with
      | some (ts, _) => if t < ts then some ts else none
      | none => none
    match p.listAt t with
    | none =>
      match switch with
      | some ts => p.spanEnd g ts n
      | none => none
    | some l =>
      if l.always g then
        match switch with
        | some ts => p.spanEnd g ts n
        | none => none
      else
        match gateEntry l.entries 0 (l.phase t) with
        | (_, m, left) =>
          if !gateBit m g then some t
          else
            match switch with
            | some ts => p.spanEnd g (min ts (t + left)) n
            | none => p.spanEnd g (t + left) n

/-- Longest contiguous open span of class g over a full cycle, none if it is always open (R290). -/
def GateList.longest (l : GateList) (g : Nat) : Option Nat :=
  if l.always g then none
  else some ((l.entries ++ l.entries).foldl (fun (a : Nat × Nat) e =>
    let run := if gateBit e.2 g then a.1 + e.1 else 0
    (run, max a.2 run)) (0, 0)).2

/-- Transmission time of a charged length at a port, in 2⁻¹⁶ ns, as a fraction: numerator and denominator
(R289). A lane carries 100 bits per ns. -/
def State.sendTime (s : State) (pt : Nat) (len : Int) : Int × Nat :=
  if pt < 512 then (Config.framerTime pt len s.time.dev, 1)
  else (len * 8 * 65536, 100 * (match (s.uport (pt - 512)).cfg with
    | some (w, _, _) => w
    | none => 1))

/-- Gate class of a queue (R286). -/
def State.gateOf (s : State) (up : Bool) (i : Nat) : Nat := if up then i % 8 else (s.sched false i).gateClass

/-- The gate of a queue is open now. -/
def State.gateOpen (s : State) (up : Bool) (i : Nat) : Bool :=
  match (s.port (s.portOf up i)).listAt s.devNs with
  | none => true
  | some l => gateBit (gateEntry l.entries 0 (l.phase s.devNs)).2.1 (s.gateOf up i)

/-- End of the open span of a queue's gate class that contains the present time, none if it does not end (R289). -/
def State.openTill (s : State) (up : Bool) (i : Nat) : Option Nat :=
  (s.port (s.portOf up i)).spanEnd (s.gateOf up i) s.devNs 600

/-- A frame of n bytes fits at the head of a queue (R289). -/
def State.fits (s : State) (up : Bool) (i n : Nat) : Bool :=
  let pt := s.portOf up i
  match s.sendTime pt (s.charged pt n) with
  | (a, b) =>
    match s.openTill up i with
    | none => true
    | some e => decide (e > s.devNs) && decide ((s.time.dev * b : Nat) + a ≤ (e * 65536 * b : Nat))

/-- A queue whose head frame did not fit waits until its gate next opens (R289). -/
def State.waits (s : State) (up : Bool) (i : Nat) : Bool :=
  match (s.sched up i).wait with
  | some e => decide (s.devNs < e)
  | none => false

/-- Note that the head frame of a queue does not fit in the span that is open now; a wait whose span has ended is over
(R289). -/
def State.noteFit (s : State) (up : Bool) (i : Nat) : State :=
  if s.waits up i then s
  else
    let w := match (s.queue up i).frames with
      | [] => none
      | f :: _ => if s.gateOpen up i && !s.fits up i f.n then s.openTill up i else none
    if (s.sched up i).wait = w then s else s.setSched up i { s.sched up i with wait := w }

/-- A frame of n bytes can never fit (R290). -/
def State.neverFits (s : State) (up : Bool) (i n : Nat) : Bool :=
  let pt := s.portOf up i
  match (s.port pt).listAt s.devNs with
  | none => false
  | some l =>
    match l.longest (s.gateOf up i) with
    | none => false
    | some d =>
      match s.sendTime pt (s.charged pt n) with
      | (a, b) => decide (((d * 65536 * b : Nat) : Int) < a)

/-! Enqueue (R283, R285). -/

/-- Event argument of a port (R302). -/
def portArg (pt : Nat) : Nat := pt / 512 * 2 ^ 31 + pt % 512

/-- Limit of a queue (R283). -/
def State.qlimit (s : State) (up : Bool) (i : Nat) : Nat :=
  let l := (s.sched up i).qlimit
  if l = 0 then max 1 (min 268435456 (s.reg (tmgA (if up then 8 else 4))).toNat) else l

/-- Queues that hold a frame under a node, the queue's own node. -/
def State.nodeEmpty (s : State) (up : Bool) (n : Nat) : Bool :=
  (if up then s.data.classQ else s.data.flowQ).all (fun e => s.nodeOf up e.1 != n || e.2.frames.isEmpty)

/-- Enqueue one frame or copy (R283, R285, R334). -/
def State.enqueue (s : State) (up : Bool) (i : Nat) (f : Frame) : State :=
  let q := s.queue up i
  if !s.served up i then
    ((s.countQ up i (fun q => { q with dropState := q.dropState + 1 })).tmgDrop (2 + b2n up) 1).dropFrame f (s.queueDom up i)
  else if s.qlimit up i < q.depth + f.n then
    ((s.countQ up i (fun q => { q with dropTail := q.dropTail + 1 })).tmgDrop (b2n up) 1).dropFrame f (s.queueDom up i)
  else
    let n := s.nodeOf up i
    let s := if s.nodeEmpty up n then s.setNode up n { s.node up n with awake := false } else s
    let s := if q.frames.isEmpty then s.setSched up i { s.sched up i with awake := false } else s
    (s.setQueue up i { q with frames := q.frames ++ [{ f with enqNs := s.ns }] }).countQ up i (fun q =>
      { q with enqFrames := q.enqFrames + 1 })

/-- Every frame of the queues that satisfy p is freed and counted as a state drop (R285, R504). -/
def State.freeQueues (s : State) (up : Bool) (p : Nat → Bool) : State :=
  (if up then s.data.classQ else s.data.flowQ).foldl (fun s e =>
    if !p e.1 || e.2.frames.isEmpty then s
    else
      let n := e.2.frames.length
      let s := e.2.frames.foldl (fun s f => s.dropFrame f (s.queueDom up e.1)) s
      ((s.setQueue up e.1 { s.queue up e.1 with frames := [] }).countQ up e.1 (fun q =>
        { q with dropState := q.dropState + BitVec.ofNat 32 n })).tmgDrop (2 + b2n up) n) s

/-! Selection and dequeue (R278, R280 to R282, R290). -/

/-- Signed distance of two 64-bit tags (R8, R281). -/
def tagDiff (a b : Nat) : Int := (BitVec.ofNat 64 a - BitVec.ofNat 64 b).toInt

/-- The later of two tags (R8). -/
def tagLater (a b : Nat) : Nat := if 0 < tagDiff b a then b else a

/-- Queues of a port that hold a frame, rising. -/
def State.portQueues (s : State) (pt : Nat) : List Nat :=
  (if 512 ≤ pt then s.data.classQ else s.data.flowQ).keysWhere
    (fun i q => !q.frames.isEmpty && s.portOf (decide (512 ≤ pt)) i == pt)

/-- Drop the head frames of a queue that can never fit (R290). -/
def State.dropOversize (s : State) (up : Bool) (i fuel : Nat) : State :=
  match fuel with
  | 0 => s
  | n + 1 =>
    let q := s.queue up i
    match q.frames with
    | [] => s
    | f :: r =>
      if s.neverFits up i f.n then
        let pt := s.portOf up i
        let s := ((s.setQueue up i { q with frames := r }).countQ up i (fun q => { q with dropGate := q.dropGate + 1 })).tmgDrop 4 1
        ((s.dropFrame f (s.queueDom up i)).raiseOnce evGateOversize pt (portArg pt)).dropOversize up i n
      else s

/-- A queue is selectable under its node (R280). -/
def State.queueReady (s : State) (up : Bool) (i : Nat) : Bool :=
  match (s.queue up i).frames with
  | [] => false
  | f :: _ =>
    s.served up i && s.gateOpen up i && s.fits up i f.n && !s.waits up i && (s.sched up i).colour s.ns != .held

/-- A child that becomes selectable wakes at the later of its parent's virtual time and its finish (R281). -/
def Sched.wake (x : Sched) (ready : Bool) (v : Nat) : Sched :=
  if !ready then { x with awake := false }
  else if x.awake then x
  else { x with awake := true, s := tagLater v x.f }

/-- Look at every queue and node of a port: oversize heads are dropped and tags of waking children set. -/
def State.look (s : State) (pt : Nat) : State :=
  let up := decide (512 ≤ pt)
  let s := (s.portQueues pt).foldl (fun s i => s.dropOversize up i (s.queue up i).frames.length) s
  let qs := s.portQueues pt
  let s := qs.foldl (fun s i => s.noteFit up i) s
  let s := qs.foldl (fun s i =>
    s.setSched up i ((s.sched up i).wake (s.queueReady up i) (s.node up (s.nodeOf up i)).v)) s
  (qs.map (s.nodeOf up)).eraseDups.foldl (fun s n =>
    let x := s.node up n
    let ready := x.colour s.ns != .held && qs.any (fun i => s.nodeOf up i == n && (s.sched up i).awake)
    s.setNode up n (x.wake ready (s.port pt).v)) s

/-- The child with the smallest start tag, ties to the lowest index (R282). -/
def smallest (v : Nat) (l : List (Nat × Sched)) : Option (Nat × Sched) :=
  l.foldl (fun b c => match b with
    | none => some c
    | some x =>
      let d := tagDiff c.2.s v - tagDiff x.2.s v
      if d < 0 ∨ (d = 0 ∧ c.1 < x.1) then some c else b) none

/-- Selection of one child (R282): GREEN first, then YELLOW. -/
def choose (now v : Nat) (l : List (Nat × Sched)) : Option (Nat × Sched) :=
  match smallest v (l.filter (fun c => c.2.colour now == .green)) with
  | some c => some c
  | none => smallest v (l.filter (fun c => c.2.colour now == .yellow))

/-- The queue that a port serves next, after a look (R282). -/
def State.select (s : State) (pt : Nat) : Option Nat :=
  let up := decide (512 ≤ pt)
  let qs := (s.portQueues pt).filter (fun i => (s.sched up i).awake)
  let ns := (qs.map (s.nodeOf up)).eraseDups
  match choose s.ns (s.port pt).v ((ns.map (fun n => (n, s.node up n))).filter (fun c => c.2.awake)) with
  | none => none
  | some (n, x) =>
    let kids := (qs.filter (fun i => s.nodeOf up i == n)).map (fun i => (i, s.sched up i))
    match (kids.filter (fun c => up && c.2.strict)).getLast? with
    | some c => some c.1
    | none => (choose s.ns x.v kids).map (fun c => c.1)

/-- Finish tag of a child that sends a charged length (R281). -/
def Sched.finish (x : Sched) (len : Int) : Nat :=
  (((x.s : Int) - (-(len * 65536)) / (max 1 x.weight : Nat)) % 2 ^ 64).toNat

/-- A served child: debited, with its finish tag (R278, R281). -/
def Sched.serve (x : Sched) (now : Nat) (len : Int) : Sched :=
  let c : Int := len * 8000000
  { x with f := x.finish len, s := x.finish len, cir := x.cir.debit true now c, pir := x.pir.debit false now c }

/-- A frame leaves downstream in XGEM framing (R69, R70, R76, R293, R359): a flow with ENCRYPT needs a key in force, in a slot that is not empty (R350). -/
def State.sendDown (s : State) (i : Nat) (f : Frame) : State :=
  let x := s.flow i
  let inForce := if x.kind = 2 then (s.subCph x.sc).bcast else (s.kex x.sc x.term).inForce
  let slot := if x.kind = 2 then bcastSlot x.sc inForce else uniSlot x.sc x.term inForce
  match s.d2dTake (scDie x.sc) 1 f.n with
  | (false, s) => s
  | (true, s) =>
    if x.encrypt && (inForce = 0 || (s.keySlot slot).key.isNone) then s.ponCnt (scDie x.sc) 3
    else (s.emit (.egress 0 x.sc i f.n f.tags)).emit (.xgem x.sc x.xgem (if x.encrypt then inForce else 0) f.n)

/-- The tags of a frame with the policer's mark in the DEI of its outer tag (R293). -/
def Frame.marked (f : Frame) : List VlanTag :=
  match f.mark, f.tags with
  | some y, t :: r => { t with dei := y } :: r
  | _, l => l

/-- A frame leaves upstream through the port's SecY (R362, R363). -/
def State.sendUp (s : State) (i : Nat) (f : Frame) : State :=
  let u := i / 512
  let s := if f.mark == some true && f.tags.isEmpty then
      let p := s.data.polS.get {} f.flow
      (s.modData (fun d => { d with polS := d.polS.set {} f.flow { p with unmarked := p.unmarked + 1 } })).tmgDrop 6 1
    else s
  let sent := fun (s : State) =>
    ((s.add64 (uplA u (0x10 + 8 * 7)) 1).add64 (uplA u (0x10 + 8 * 8)) f.n).emit (.egress 1 u i f.n f.marked)
  match s.d2dTake (4 + u / 64) 1 f.n with
  | (false, s) => s
  | (true, s) =>
  match s.secSend u with
  | (false, s) => s
  | (true, s) => sent s

/-- The head frame of a queue is dequeued (R278, R281, R293, R335). -/
def State.dequeueFrom (s : State) (pt i : Nat) : State :=
  let up := decide (512 ≤ pt)
  let q := s.queue up i
  match q.frames with
  | [] => s
  | f :: r =>
    let n := s.nodeOf up i
    let len := s.charged pt f.n
    let now := s.ns
    let p := s.port pt
    let x := s.node up n
    let c := s.sched up i
    let s := s.setPort pt { p with v := x.s }
    let s := s.setNode up n { (x.serve now len) with v := c.s }
    let s := s.setSched up i (c.serve now len)
    let s := (s.setQueue up i { q with frames := r }).countQ up i (fun q =>
      { q with txFrames := q.txFrames + 1, txBytes := q.txBytes + BitVec.ofNat 64 f.n })
    let s := s.noteFit up i
    let s := if s.queueReady up i then s else s.setSched up i { s.sched up i with awake := false }
    let s := if up then s.sendUp i f else s.sendDown i f
    s.dropFrame f (s.queueDom up i)

/-- FRAME_DEQUEUE at a port: look, select and dequeue. -/
def State.frameDequeue (s : State) (pt : Nat) : State :=
  let s := s.look pt
  match s.select pt with
  | none => s
  | some i => s.dequeueFrom pt i

/-- A pending gate list switches in (R291). -/
def State.gateSwitch (s : State) (pt : Nat) : State :=
  let p := s.port pt
  match p.pend with
  | none => s
  | some (ts, l) =>
    if s.devNs < ts then s
    else
      let s := s.setPort pt { p with list := l, pend := none, pendAcc := 0, lastSwitch := ts }
      (s.complete p.pendAcc { status := stOk, msc := some (ts / 125000) }).raise evGateListActive (portArg pt)

/-! Sampler (R296, R297). -/

/-- One sample of a queue: depth and head delay. -/
def State.sampleQueue (s : State) (up : Bool) (i : Nat) : State :=
  let q := s.queue up i
  let delay := match q.frames with
    | [] => 0
    | f :: _ => s.ns - f.enqNs
  let q1 := { q with maxDepth := max q.maxDepth q.depth }
  let q2 := if q.maxDelay < delay then { q1 with maxDelay := min delay (2 ^ 32 - 1), maxDelayMsc := BitVec.ofNat 32 s.clk.msc } else q1
  let src := i + b2n up * 2 ^ 20
  ((s.setQueue up i q2).sample 1 src q.depth).sample 2 src (min delay (2 ^ 32 - 1))

/-- A class queue exists: port configured and domain there (R273). -/
def State.classThere (s : State) (i : Nat) : Bool := (s.uport (i / 512)).cfg.isSome && s.domRoad (i / 8 % 64) != .disabled

/-- The sample that falls at the current hub cycle, if one does (R296). -/
def State.queueSample (s : State) : State :=
  if !s.data.samplerOn || !s.clk.running || s.clk.cycle < 4000 then s
  else
    let k := s.clk.cycle - 4000
    let r := s.clk.msc % 64
    if k % 12 = 0 && decide (k / 12 < 16384) then
      let f := 16384 * r + k / 12
      if (s.flow f).inst then s.sampleQueue false f else s
    else if k % 12 = 6 && decide (k / 12 < 1024) then
      let q := 1024 * r + k / 12
      if s.classThere q then s.sampleQueue true q else s
    else s

/-! Operations 0x10 to 0x15 of family 0x04 (R298 to R301). -/

/-- Scheduling block of R299: CIR, PIR, CBS, PBS, weight, strict, gate class, upstream class, limit. -/
structure SchedBlk where
  cir : Nat
  pir : Nat
  cbs : Nat
  pbs : Nat
  weight : Nat
  strict : Bool
  gate : Nat
  us : Nat
  limit : Nat
  deriving DecidableEq, Repr

/-- Read a scheduling block. -/
def readSched (l : List Nat) : SchedBlk :=
  let w := leAt l 0x10 4
  ⟨leAt l 0 4, leAt l 4 4, leAt l 8 4, leAt l 12 4, w % 2 ^ 16, w / 2 ^ 16 % 2 == 1, w / 2 ^ 17 % 8, w / 2 ^ 20 % 8, leAt l 0x14 4⟩

/-- Rates and bursts of a shaper are acceptable (R276, R279): a burst is used unless its rate is unlimited, and
CBS also not with CIR 0. -/
def ratesOk (cir pir cbs pbs : Nat) : Bool :=
  decide (cir ≤ pir) && (cir = 0 || cir = rateMax || decide (64 ≤ cbs)) && (pir = rateMax || decide (64 ≤ pbs))

/-- A scheduling block is acceptable for a kind: 0 flow, 1 terminal node, 2 domain node, 3 class queue (R299). -/
def schedOk (kind : Nat) (l : List Nat) : Bool :=
  let b := readSched l
  decide (b.cbs < 2 ^ 24) && decide (b.pbs < 2 ^ 24) && decide (leAt l 0x10 4 < 2 ^ 23) && (l.drop 0x18).all (· == 0) &&
  decide (1 ≤ b.weight) && ratesOk b.cir b.pir b.cbs b.pbs &&
  (kind == 3 || !b.strict) && (kind == 0 || (b.gate == 0 && b.us == 0)) &&
  (if kind == 1 || kind == 2 then b.limit == 0 else decide (b.limit ≤ 268435456))

/-- New parameters of a queue or node (R279, R282, R283). -/
def Sched.change (x : Sched) (now : Nat) (b : SchedBlk) : Sched :=
  { x with
    cir := x.cir.change true now b.cir b.cbs, pir := x.pir.change false now b.pir b.pbs
    weight := b.weight, strict := b.strict, gateClass := b.gate, usClass := b.us, qlimit := b.limit }

/-- SET_FLOW_SCHED (R298). -/
def infoSetFlowSched : CmdInfo :=
  { op := 0x0410, buf := .inp (fun n => n == 64), args := fun c => decide (c.n0 < 2 ^ 20) && c.zeroFrom 1 && schedOk 0 c.inp }

def bodySetFlowSched : Body := fun _ c s =>
  let f := s.flow c.n0
  if !f.inst then bad stNotFound s
  else if f.dom != c.dom then bad stDomain s
  else ok (s.setSched false c.n0 ((s.sched false c.n0).change s.ns (readSched c.inp)))

/-- Kind and index of PARAM0 of SET_NODE_SCHED and READ_QUEUE. -/
def qKind (c : Desc) : Nat := c.n0 / 2 ^ 30
def qIdx (c : Desc) : Nat := c.n0 % 2 ^ 20

/-- Objects of a kind (R273). -/
def qCount (kind : Nat) : Nat :=
  match kind with
  | 0 => 2 ^ 20
  | 1 => 196608
  | 2 => 8192
  | _ => 65536

/-- The named queue or node: whether it exists, and its domain (R273, R298). -/
def State.qObj (s : State) (kind i : Nat) : Bool × Nat :=
  match kind with
  | 0 => ((s.flow i).inst, (s.flow i).dom)
  | 1 => ((s.term (i / 512) (i % 512)).act != .free, (s.term (i / 512) (i % 512)).dom)
  | 2 => ((s.uport (i / 64)).cfg.isSome && s.domRoad (i % 64) != .disabled, 0)
  | _ => (s.classThere i, i / 8 % 64)

/-- SET_NODE_SCHED (R298). -/
def infoSetNodeSched : CmdInfo :=
  { op := 0x0411, buf := .inp (fun n => n == 64), args := fun c =>
      qKind c != 0 && decide (c.n0 / 2 ^ 20 % 2 ^ 10 = 0) && decide (qIdx c < qCount (qKind c)) && c.zeroFrom 1 && schedOk (qKind c) c.inp }

def bodySetNodeSched : Body := fun _ c s =>
  let i := qIdx c
  match s.qObj (qKind c) i with
  | (there, d) =>
    if !there then bad stNotFound s
    else if d != c.dom then bad stDomain s
    else
      let b := readSched c.inp
      ok (match qKind c with
        | 1 => s.setNode false i ((s.node false i).change s.ns b)
        | 2 => s.setNode true i ((s.node true i).change s.ns b)
        | _ => s.setSched true i ((s.sched true i).change s.ns b))

/-- SET_POLICER (R294, R298). -/
def infoSetPolicer : CmdInfo :=
  { op := 0x0412, args := fun c =>
      decide (c.n0 / 2 ^ 20 % 2 ^ 11 = 0) && decide (c.n3 < 2 ^ 24) && decide (c.n4 < 2 ^ 24) && c.zeroFrom 5 &&
      decide (c.n1 ≤ c.n2) && decide (64 ≤ c.n3) && decide (64 ≤ c.n4) }

def bodySetPolicer : Body := fun _ c s =>
  let i := c.n0 % 2 ^ 20
  let f := s.flow i
  if !f.inst then bad stNotFound s
  else if f.dom != c.dom then bad stDomain s
  else
    let p := s.data.polS.get {} i
    let en := decide (2 ^ 31 ≤ c.n0)
    let x := if en && !p.enabled then
        { p with enabled := true, tc := Bucket.full c.n1 c.n3 s.ns, tp := Bucket.full c.n2 c.n4 s.ns }
      else { p with enabled := en, tc := p.tc.change true s.ns c.n1 c.n3, tp := p.tp.change false s.ns c.n2 c.n4 }
    ok (s.modData (fun d => { d with polS := d.polS.set {} i x }))

/-- Port of PARAM0 of SET_PORT_SCHED and SET_GATE_LIST. -/
def portOk (c : Desc) : Bool := decide (c.n0 < 1024) && (if c.n0 < 512 then decide (c.n0 < 384) else decide (c.n0 < 640))

/-- SET_PORT_SCHED (R275, R298). -/
def infoSetPortSched : CmdInfo :=
  { op := 0x0413, args := fun c => portOk c && decide (c.n1 < 256) && !decide (128 ≤ c.n1 ∧ c.n1 < 192) && c.zeroFrom 2 }

def bodySetPortSched : Body := fun _ c s =>
  if c.dom != 0 then bad stDomain s
  else ok (s.setPort c.n0 { s.port c.n0 with adj := some (BitVec.ofNat 8 c.n1).toInt })

/-- The gate list of an input buffer, none with COUNT 0 (R300). -/
def readGates (l : List Nat) : Option GateList :=
  let n := leAt l 0 2
  if n = 0 then none
  else some ⟨leAt l 2 1 % 2 == 1, leAt l 8 8, (List.range n).map (fun e => (leAt l (16 + 8 * e) 4, leAt l (20 + 8 * e) 4))⟩

/-- A gate list buffer is acceptable (R287, R300). -/
def gatesOk (l : List Nat) (len : Nat) : Bool :=
  let n := leAt l 0 2
  decide (n ≤ 256) && decide (len = 16 + 8 * n) && decide (leAt l 2 1 < 2) && leAt l 3 1 == 0 && leAt l 4 4 == 0 &&
  (leAt l 2 1 == 0 || leAt l 8 8 == 0) &&
  (match readGates l with
   | none => true
   | some g =>
     g.entries.all (fun e => decide (100 ≤ e.1) && decide (e.2 < 256)) && decide (1000 ≤ g.cycle ∧ g.cycle ≤ 1000000000) &&
     (!g.align || decide (125000 % g.cycle = 0) || decide (g.cycle % 125000 = 0)))

/-- T_s: the first cycle start of the new list at or after a time (R291); with no new list, that time. -/
def switchTime (l : Option GateList) (t : Nat) : Nat :=
  match l with
  | none => t
  | some g =>
    if g.align then (t + g.cycle - 1) / g.cycle * g.cycle
    else if t ≤ g.base then g.base
    else g.base + (t - g.base + g.cycle - 1) / g.cycle * g.cycle

/-- SET_GATE_LIST (R291, R298). -/
def infoSetGateList : CmdInfo :=
  { op := 0x0414, buf := .inp (fun _ => true), args := fun c => portOk c && c.zeroFrom 1 && gatesOk c.inp c.bufLen }

def bodySetGateList : Body := fun rp c s =>
  let p := s.port c.n0
  let l := readGates c.inp
  if c.dom != 0 then bad stDomain s
  else if p.pend.isSome then bad stState s
  else if rp.isSome && decide (s.stage < 5) then ok (s.setPort c.n0 { p with list := l })
  else (.opened, s.setPort c.n0 { p with pend := some (switchTime l ((s.time.dev + 65535) / 65536 + 250000), l), pendAcc := c.acc })

/-- READ_QUEUE (R298): a query without CLEAR_MAX. -/
def infoReadQueue (c : Desc) : CmdInfo :=
  { op := 0x0415, query := c.n1 == 0, buf := .out (fun _ => 96), args := fun c =>
      decide (c.n0 / 2 ^ 20 % 2 ^ 10 = 0) && decide (qIdx c < qCount (qKind c)) && decide (c.n1 < 2) && c.zeroFrom 2 }

/-- Queues of the named object (R273). -/
def State.qQueues (s : State) (kind i : Nat) : List Nat :=
  match kind with
  | 0 => [i]
  | 3 => [i]
  | 1 => s.data.flowQ.keysWhere (fun f _ => s.nodeOf false f == i)
  | _ => (List.range 8).map (fun k => 8 * i + k)

/-- Road state that READ_QUEUE shows. -/
def State.qRoad (s : State) (kind i : Nat) : RoadSt :=
  match kind with
  | 0 => (s.flow i).road
  | 1 => (s.term (i / 512) (i % 512)).road
  | 2 => (s.uport (i / 64)).road
  | _ => s.domRoad (i / 8 % 64)

/-- The 96-byte record of R301: a node has counters of its own, and its depth is the sum of its queues. -/
def State.queueBytes (s : State) (kind i : Nat) : List Nat :=
  let up := decide (2 ≤ kind)
  let leaf := kind == 0 || kind == 3
  let qs := (s.qQueues kind i).map (s.queue up)
  let sum := fun (f : Queue → Nat) => qs.foldl (fun n q => n + f q) 0
  let x := if leaf then s.sched up i else s.node up i
  let col := x.colour s.ns
  let now := b2n (leaf && !s.gateOpen up i) + 2 * b2n (col == .held) + 4 * b2n (col == .yellow)
    + 8 * b2n (leaf && (match (s.queue up i).frames with
      | [] => false
      | f :: _ => !s.fits up i f.n))
  let q := if leaf then s.queue up i else {}
  let k := if leaf then q else s.nodeCount up i
  let p := if kind = 0 then s.data.polS.get {} i else {}
  leBytes 1 kind ++ leBytes 1 (s.qRoad kind i).code ++ leBytes 2 now ++ leBytes 4 i ++
  leBytes 4 (sum Queue.depth) ++ leBytes 4 (sum (fun q => q.frames.length)) ++
  leBytes 8 k.enqFrames.toNat ++ leBytes 8 k.txFrames.toNat ++ leBytes 8 k.txBytes.toNat ++
  leBytes 4 k.dropTail.toNat ++ leBytes 4 k.dropState.toNat ++ leBytes 4 k.dropGate.toNat ++
  leBytes 4 q.maxDepth ++ leBytes 4 q.maxDelay ++ leBytes 4 q.maxDelayMsc.toNat ++
  leBytes 8 p.green.toNat ++ leBytes 8 p.yellow.toNat ++ leBytes 8 p.red.toNat ++ leBytes 4 p.unmarked.toNat ++ leBytes 4 0

def bodyReadQueue : Body := fun rp c s =>
  let i := qIdx c
  let k := qKind c
  match s.qObj k i with
  | (there, d) =>
    if !there then bad stNotFound s
    else if d != c.dom then bad stDomain s
    else
      let s := if rp.isSome then s else s.outBuf c (s.queueBytes k i)
      ok (if c.n1 = 1 then (s.qQueues k i).foldl (fun s j =>
            s.setQueue (decide (2 ≤ k)) j { s.queue (decide (2 ≤ k)) j with maxDepth := 0, maxDelay := 0, maxDelayMsc := 0 }) s
          else s)

/-! Meanings. -/

/-- SET_FLOW_SCHED. -/
def execSetFlowSched (c : Desc) (s : State) : Answer := kept s (runCmd infoSetFlowSched bodySetFlowSched c s)
/-- SET_NODE_SCHED. -/
def execSetNodeSched (c : Desc) (s : State) : Answer := kept s (runCmd infoSetNodeSched bodySetNodeSched c s)
/-- SET_POLICER. -/
def execSetPolicer (c : Desc) (s : State) : Answer := kept s (runCmd infoSetPolicer bodySetPolicer c s)
/-- SET_PORT_SCHED. -/
def execSetPortSched (c : Desc) (s : State) : Answer := kept s (runCmd infoSetPortSched bodySetPortSched c s)
/-- SET_GATE_LIST. -/
def execSetGateList (c : Desc) (s : State) : Answer := kept s (runCmd infoSetGateList bodySetGateList c s)
/-- READ_QUEUE. -/
def execReadQueue (c : Desc) (s : State) : Answer := kept s (runCmd (infoReadQueue c) bodyReadQueue c s)

/-- FRAME_DEQUEUE (R282): port key 512 × kind + index. -/
def execFrameDequeue (pt : Nat) (s : State) : Answer :=
  kept s (if pt < 384 ∨ (512 ≤ pt ∧ pt < 640) then (if s.standby then s else s.frameDequeue pt) else s)

/-- GATE_ENTRY_EXPIRY (R288): the entry in force follows from device time; the port's children are looked at. -/
def execGateEntryExpiry (pt : Nat) (s : State) : Answer :=
  kept s (if pt < 384 ∨ (512 ≤ pt ∧ pt < 640) then s.look pt else s)

/-- GATE_LIST_ACTIVE (R291). -/
def execGateListActive (pt : Nat) (s : State) : Answer := kept s (s.gateSwitch pt)

/-- QUEUE_SAMPLE (R296). -/
def execQueueSample (s : State) : Answer := kept s s.queueSample

end Sys2Proof.Machine
end

