-- ==== Sys2Proof/Machine/MacTable.lean ====
section
/-! DEFINITION. MAC tables (R311 to R324): hash, lookup, insertion with relocation, the learn engine, moves and
freezing, learn notices, ageing, walks, flushes and rebuilds. -/

namespace Sys2Proof.Machine

/-- A pipeline. -/
def State.pipe (s : State) (p : Nat) : Pipe := s.data.pipes.get {} p
def State.setPipe (s : State) (p : Nat) (x : Pipe) : State := s.modData (fun d => { d with pipes := d.pipes.set {} p x })

/-- FWD counters (R327). -/
def State.pipeCnt (s : State) (p k : Nat) : State := s.add64 (fwdA (0x1000 + 0x100 * p + 8 + 8 * k)) 1
def State.fwdCnt (s : State) (k : Nat) : State := s.add64 (fwdA (0x10 + 8 * k)) 1

/-! Hash (R311). -/

/-- One bit step of CRC-32C, reflected. -/
def crcBits (n : Nat) (r : BitVec 32) : BitVec 32 :=
  match n with
  | 0 => r
  | k + 1 => crcBits k (if r.getLsbD 0 then (r >>> 1) ^^^ 0x82F63B78#32 else r >>> 1)

/-- CRC-32C of bytes from a start value of the register. -/
def crc32c (seed : BitVec 32) (l : List Nat) : BitVec 32 :=
  ~~~ (l.foldl (fun r b => crcBits 8 (r ^^^ BitVec.ofNat 32 (b % 256))) seed)

/-- A key of the MAC table: domain, VID, MAC. The MAC is the number of R312: byte 0, the first in transmission
order, is the least significant. -/
structure MacKey where
  dom : Nat
  vid : Nat
  mac : Nat
  deriving DecidableEq, Repr

/-- The two candidate buckets of a key (R311). -/
def buckets (seed : W32) (k : MacKey) : Nat × Nat :=
  let h := (crc32c seed (leBytes 1 k.dom ++ [0] ++ leBytes 2 k.vid ++ leBytes 6 k.mac)).toNat
  let b0 := h % 65536
  let b1 := h / 65536
  (b0, if b0 = b1 then Nat.xor b0 1 else b1)

/-- Key of an entry. -/
def keyOf (e : MacEnt) : MacKey := ⟨e.dom, e.vid, e.mac⟩

/-- Slots of a bucket in order. -/
def slotsOf (b : Nat) : List Nat := [4 * b, 4 * b + 1, 4 * b + 2, 4 * b + 3]

/-- Entry of a slot: 4 × bucket + slot, or 262,144 + stash index. -/
def Pipe.at (x : Pipe) (i : Nat) : Option MacEnt := if i < 262144 then x.table.get none i else x.stash.get none (i - 262144)

/-- Write or clear a slot. -/
def Pipe.put (x : Pipe) (i : Nat) (e : Option MacEnt) : Pipe :=
  if i < 262144 then { x with table := x.table.set none i e } else { x with stash := x.stash.set none (i - 262144) e }

/-- The slot that holds a key: its buckets, then the stash (R311). -/
def Pipe.find (x : Pipe) (k : MacKey) : Option Nat :=
  match buckets x.seed k with
  | (b0, b1) =>
    (slotsOf b0 ++ slotsOf b1 ++ (List.range 64).map (262144 + ·)).find? (fun i => match x.at i with
      | some e => keyOf e == k
      | none => false)

/-- The listed entries in slot order: buckets, slots, then the stash (R322). -/
def Pipe.entries (x : Pipe) : List (Nat × MacEnt) :=
  x.table.filterMap (fun p => p.2.map (fun e => (p.1, e))) ++ x.stash.filterMap (fun p => p.2.map (fun e => (262144 + p.1, e)))

/-- Keep the entries that satisfy p. -/
def Pipe.keepIf (x : Pipe) (p : MacEnt → Bool) : Pipe :=
  let f := fun (e : Nat × Option MacEnt) => match e.2 with
    | some v => p v
    | none => true
  { x with table := x.table.filter f, stash := x.stash.filter f }

/-! Insertion (R314). -/

/-- The first free slot of a list. -/
def Pipe.firstFree (x : Pipe) (l : List Nat) : Option Nat := l.find? (fun i => (x.at i).isNone)

/-- The other bucket of the entry in a slot (R314). -/
def Pipe.otherBucket (x : Pipe) (i : Nat) : Option Nat :=
  match x.at i with
  | none => none
  | some e =>
    match buckets x.seed (keyOf e) with
    | (b0, b1) => some (if i / 4 = b0 then b1 else b0)

/-- Try the paths of one level: the first that reaches a free slot, or the paths of the next level and the
slots seen. A path lists its slots from the last back to the first. -/
def Pipe.level (x : Pipe) (paths : List (List Nat)) (seen : List Nat) (next : List (List Nat)) :
    Option (List Nat) × List (List Nat) × List Nat :=
  match paths with
  | [] => (none, next, seen)
  | p :: r =>
    match x.otherBucket (p.headD 0) with
    | none => x.level r seen next
    | some b =>
      match x.firstFree (slotsOf b) with
      | some i => (some (i :: p), [], [])
      | none =>
        let new := (slotsOf b).filter (fun i => !seen.contains i)
        x.level r (seen ++ new) (next ++ new.map (fun i => i :: p))

/-- Breadth-first search for a chain of at most `fuel` relocations (R314). -/
def Pipe.search (x : Pipe) (paths : List (List Nat)) (seen : List Nat) (fuel : Nat) : Option (List Nat) :=
  match fuel with
  | 0 => none
  | n + 1 =>
    match x.level paths seen [] with
    | (some p, _, _) => some p
    | (none, next, seen) => x.search next seen n

/-- Execute a chain from its free end backward, then write the new entry (R314). -/
def Pipe.shift (x : Pipe) (chain : List Nat) (e : MacEnt) : Pipe :=
  match chain with
  | [] => x
  | [i] => x.put i (some e)
  | i :: j :: r => Pipe.shift ((x.put i (x.at j)).put j none) (j :: r) e

/-- Place an entry in the buckets (R314); no relocation while a stable walk is open (R322). -/
def Pipe.place (x : Pipe) (e : MacEnt) : Option Pipe :=
  match buckets x.seed (keyOf e) with
  | (b0, b1) =>
    match x.firstFree (slotsOf b0 ++ slotsOf b1) with
    | some i => some (x.put i (some e))
    | none =>
      if x.walk.isSome then none
      else
        let roots := slotsOf b0 ++ slotsOf b1
        (x.search (roots.map (fun i => [i])) roots 8).map (fun c => x.shift c e)

/-- Insert an entry in the buckets or the stash (R314). -/
def Pipe.insert (x : Pipe) (e : MacEnt) : Option Pipe :=
  match x.place e with
  | some y => some y
  | none => (x.firstFree ((List.range 64).map (262144 + ·))).map (fun i => x.put i (some e))

/-! Learning (R313, R316 to R318). -/

/-- Milliseconds of the hub nanosecond count, 32 bits (R312). -/
def State.ms32 (s : State) : Nat := s.ns / 1000000 % 2 ^ 32

/-- Device-time seconds, low 32 bits (R312). -/
def State.sec32 (s : State) : Nat := s.devNs / 1000000000 % 2 ^ 32

/-- Forwarding entries of a domain (R261). -/
def State.entriesOf (s : State) (d : Nat) : Nat :=
  s.data.pipes.foldl (fun n p => n + (p.2.entries.filter (fun e => e.2.dom == d)).length) 0

/-- The quota of a domain is reached (R261); domain 0 has none. -/
def State.entryQuota (s : State) (d : Nat) : Bool := d != 0 && decide ((s.domE d).quota.entries ≤ s.entriesOf d)

/-- Send a learn notice to every other pipeline (R316). -/
def State.sendNotice (s : State) (p : Nat) (k : MacKey) (cycle : Nat) : State :=
  s.modData (fun d => { d with notices := d.notices ++
    ((List.range 8).filter (· != p)).map (fun q => ⟨q, p, k.mac, k.vid, k.dom, cycle⟩) })

/-- An insert failed: a rehash is requested at most once per interval (R314, R326). -/
def State.rehashRequest (s : State) (p : Nat) : State := s.raiseOnce evRehashRequest p p

/-- An entry learned now on a port. -/
def State.newEntry (s : State) (k : MacKey) (uplink : Bool) (port : Nat) : MacEnt :=
  { mac := k.mac, vid := k.vid, dom := k.dom, stat := false, frozen := false, hit := true, uplink := uplink, port := port
    moves := 0, firstPort := 0, learnSec := s.sec32, winMs := 0, freezeMs := 0
    learnCycle := s.clk.hubc, epoch := s.data.flushNo }

/-- FIRST_PORT of an entry's current port (R312). -/
def portWord (e : MacEnt) : Nat := e.port + b2n e.uplink * 2 ^ 31

/-- LEARN_CFG with 0 taken as 1 (R327). -/
def State.moveLimit (s : State) : Nat := max 1 (s.fld (fwdA 0) 15 12)
def State.moveWindow (s : State) : Nat := max 1 (s.fld (fwdA 0) 11 0)
def State.freezeHold (s : State) : Nat := max 1 (s.fld (fwdA 0) 23 16)

/-- A learn on another port of a dynamic entry that is not frozen (R317). -/
def State.moveEntry (s : State) (p i : Nat) (e : MacEnt) (uplink : Bool) (port : Nat) : State :=
  let now := s.ms32
  let fresh := e.moves = 0 || decide (s.moveWindow ≤ (now + 2 ^ 32 - e.winMs) % 2 ^ 32)
  let moved : MacEnt := { e with uplink := uplink, port := port, hit := true, learnSec := s.sec32
                                 learnCycle := s.clk.hubc, epoch := s.data.flushNo }
  let apply := fun (y : MacEnt) =>
    ((s.setPipe p ((s.pipe p).put i (some y))).pipeCnt p 6).sendNotice p (keyOf e) s.clk.hubc
  if fresh then apply { moved with winMs := now, firstPort := portWord e, moves := 1 }
  else if e.moves + 1 ≤ s.moveLimit then apply { moved with moves := e.moves + 1 }
  else
    let y : MacEnt := { e with uplink := decide (2 ^ 31 ≤ e.firstPort), port := e.firstPort % 2 ^ 31, frozen := true
                               moves := min 15 (e.moves + 1), freezeMs := (now + 1000 * s.freezeHold) % 2 ^ 32 }
    ((s.setPipe p ((s.pipe p).put i (some y))).pipeCnt p 7).raiseOnce evMacFlap p p

/-- The learn engine applies one learn (R313). -/
def State.learnOne (s : State) (p : Nat) (r : LearnReq) : State :=
  let k : MacKey := ⟨r.dom, r.vid, r.mac⟩
  let x := s.pipe p
  match x.find k with
  | some i =>
    match x.at i with
    | none => s
    | some e =>
      if e.uplink == r.uplink && e.port == r.port then
        s.setPipe p (x.put i (some { e with hit := true, learnSec := s.sec32, epoch := s.data.flushNo }))
      else if e.stat then s.pipeCnt p 12
      else if e.frozen then s.pipeCnt p 8
      else s.moveEntry p i e r.uplink r.port
  | none =>
    let lim := if r.uplink then 0 else (s.flow r.port).macLimit
    let used := (x.entries.filter (fun e => !e.2.stat && !e.2.uplink && e.2.port == r.port)).length
    if s.entryQuota r.dom then s.pipeCnt p 5
    else if lim != 0 && decide (lim ≤ used) then s.pipeCnt p 5
    else if !s.bit (fwdA (0x1070 + 0x100 * p)) 0 then s
    else
      match x.insert (s.newEntry k r.uplink r.port) with
      | some y => ((s.setPipe p y).pipeCnt p 2).sendNotice p k s.clk.hubc
      | none => (s.pipeCnt p 3).rehashRequest p

/-- Hand a learn to the engine (R313): it queues 4,096. -/
def State.queueLearn (s : State) (p : Nat) (r : LearnReq) : State :=
  let x := s.pipe p
  if 4096 ≤ x.learnQ.length then s.pipeCnt p 4 else s.setPipe p { x with learnQ := x.learnQ ++ [r] }

/-- The oldest waiting learn is applied. -/
def State.learnNext (s : State) (p : Nat) : State :=
  let x := s.pipe p
  match x.learnQ with
  | [] => s
  | r :: l => (s.setPipe p { x with learnQ := l }).learnOne p r

/-- Every waiting learn is applied before a command that reaches the engine after it (R313). -/
def State.learnAll (s : State) (p : Nat) : State :=
  (s.pipe p).learnQ.foldl (fun s _ => s.learnNext p) s

/-- A learn notice reaches pipeline p (R316). -/
def State.learnNotice (s : State) (p : Nat) : State :=
  match s.data.notices.find? (fun n => n.pipe == p) with
  | none => s
  | some n =>
    let s := s.modData (fun d => { d with notices := d.notices.erase n })
    let x := s.pipe p
    match x.find ⟨n.dom, n.vid, n.mac⟩ with
    | none => s
    | some i =>
      match x.at i with
      | none => s
      | some e =>
        if e.stat then s
        else if decide (e.learnCycle < n.cycle) || (e.learnCycle == n.cycle && decide (n.src < p)) then
          (s.setPipe p (x.put i none)).pipeCnt p 9
        else s

/-- Between learns, stash entries move back into buckets (R315, R322). -/
def State.stashReturn (s : State) (p : Nat) : State :=
  let x := s.pipe p
  if x.walk.isSome then s
  else
    s.setPipe p (x.stash.foldl (fun (y : Pipe) e =>
      match e.2 with
      | none => y
      | some m =>
        match (y.put (262144 + e.1) none).place m with
        | some z => z
        | none => y) x)

/-- AGE_TIME has passed since the sweep's latest visit to a bucket (R319). -/
def State.sweepDue (s : State) (p b : Nat) : Bool :=
  match (s.pipe p).swept.get none b with
  | none => true
  | some t => decide (t + 1000000000 * (s.reg (fwdA 4)).toNat ≤ s.ns)

/-- The sweep visits bucket b, or the stash for b = 65,536, once every AGE_TIME seconds (R319); its removals follow
the learns that reached the engine before them (R313). -/
def State.ageing (s : State) (p b : Nat) : State :=
  if (s.reg (fwdA 4)).toNat = 0 || !s.sweepDue p b then s
  else
    let s := s.learnAll p
    let s := s.setPipe p { s.pipe p with swept := (s.pipe p).swept.set none b (some s.ns) }
    (if b < 65536 then slotsOf b else (List.range 64).map (262144 + ·)).foldl (fun (s : State) (i : Nat) =>
      let x := s.pipe p
      match x.at i with
      | none => s
      | some e =>
        if e.stat then s
        else if e.hit then s.setPipe p (x.put i (some { e with hit := false }))
        else (s.setPipe p (x.put i none)).pipeCnt p 11) s

/-- The engine's pass over a frozen entry whose time has passed (R318). -/
def State.freezeExpiry (s : State) (p : Nat) (k : MacKey) : State :=
  let x := s.pipe p
  match x.find k with
  | none => s
  | some i =>
    match x.at i with
    | none => s
    | some e =>
      if e.frozen && decide ((s.ms32 + 2 ^ 32 - e.freezeMs) % 2 ^ 32 < 2 ^ 31) then
        s.setPipe p (x.put i (some { e with frozen := false, moves := 0, freezeMs := 0 }))
      else s

/-- A stable walk ends 10 ms after it opened (R322). -/
def State.walkExpire (s : State) (p : Nat) : State :=
  let x := s.pipe p
  match x.walk with
  | some t => if t + 20000000 ≤ s.clk.hubc then s.setPipe p { x with walk := none } else s
  | none => s

/-- Entries that a flush removes (R320, R323). -/
def Flush.takes (f : Flush) (e : MacEnt) : Bool :=
  (f.dom == 0 || e.dom == f.dom) && e.uplink == f.uplink && e.port == f.port && (f.stat || !e.stat) && decide (e.epoch < f.before)

/-- A pipeline has finished a flush (R323), its removals following the learns that reached the engine before them
(R313): the last one completes the command. -/
def State.flushDone (s : State) (p acc : Nat) : State :=
  let s := s.learnAll p
  let x := s.pipe p
  match x.flushes.find? (fun f => f.acc == acc) with
  | none => s
  | some f =>
    let n := f.removed + (x.entries.filter (fun e => f.takes e.2)).length
    let s := s.setPipe p { (x.keepIf (fun e => !f.takes e)) with flushes := x.flushes.filter (fun g => g.acc != acc) }
    match (List.range 8).find? (fun q => (s.pipe q).flushes.any (fun g => g.acc == acc)) with
    | some q =>
      let y := s.pipe q
      s.setPipe q { y with flushes := y.flushes.map (fun g => if g.acc = acc then { g with removed := g.removed + n } else g) }
    | none => s.complete acc { status := stOk, r0 := n }

/-- The table built again in the shadow under a new seed, and how many entries found no place (R324). -/
def Pipe.rebuild (x : Pipe) (seed : W32) : Pipe × Nat :=
  x.entries.foldl (fun (a : Pipe × Nat) e =>
    match a.1.insert e.2 with
    | some y => (y, a.2)
    | none => (a.1, a.2 + 1)) ({ x with table := [], stash := [], seed := seed, rehash := none, walk := none }, 0)

/-- A rebuild ends (R324); the switch, and nothing else, waits for an open stable walk. -/
def State.rehashDone (s : State) (p : Nat) : State :=
  let s := s.walkExpire p
  let x := s.pipe p
  match x.rehash with
  | none => s
  | some (acc, seed) =>
    match x.rebuild seed with
      | (y, 0) =>
        if x.walk.isSome then s
        else ((s.setPipe p y).raise evRehashDone p).complete acc { status := stOk }
      | (_, n) => (s.setPipe p { x with rehash := none }).complete acc { status := stRehash, r0 := n }

/-! Commands on the tables (R320 to R324). -/

/-- Bytes of an entry (R312). -/
def MacEnt.bytes (e : MacEnt) : List Nat :=
  leBytes 6 e.mac ++ leBytes 2 e.vid ++ leBytes 1 e.dom ++
  leBytes 1 (1 + 2 * b2n e.stat + 4 * b2n e.frozen + 8 * b2n e.hit + 16 * b2n e.uplink) ++ leBytes 2 e.moves ++
  leBytes 4 e.port ++ leBytes 4 e.firstPort ++ leBytes 4 e.learnSec ++ leBytes 4 e.winMs ++ leBytes 4 e.freezeMs

/-- An entry of ADD_ENTRY is acceptable (R312, R320). -/
def entryOk (l : List Nat) : Bool :=
  let fl := leAt l 9 1
  decide (leAt l 6 2 < 4096) && decide (leAt l 8 1 < 64) && decide (fl < 32) && fl / 2 % 2 == 1 && fl / 4 % 2 == 0 &&
  leAt l 10 2 == 0 && (if fl / 16 % 2 = 0 then decide (leAt l 12 4 < 2 ^ 20) else decide (leAt l 12 4 < 128)) &&
  (l.drop 16).all (· == 0)

/-- Read an entry of ADD_ENTRY. -/
def State.readEntry (s : State) (l : List Nat) : MacEnt :=
  let fl := leAt l 9 1
  { mac := leAt l 0 6, vid := leAt l 6 2, dom := leAt l 8 1, stat := true, frozen := false, hit := fl / 8 % 2 == 1
    uplink := fl / 16 % 2 == 1, port := leAt l 12 4, moves := 0, firstPort := 0, learnSec := 0, winMs := 0, freezeMs := 0
    learnCycle := s.clk.hubc, epoch := s.data.flushNo }

/-- Pipeline of a flow (R20, R306). -/
def pipeOfSub (sc : Nat) : Nat := sc / 48

/-- ADD_ENTRY (R320, R321). DEDUCED: a flow that is DRAINING, whose entries are deleted (R307), takes none: STATE. -/
def infoAddEntry : CmdInfo :=
  { op := 0x0502, buf := .inp (fun n => n == 32), args := fun c => decide (c.n0 < 8) && c.zeroFrom 1 && entryOk c.inp }

def bodyAddEntry : Body := fun _ c s =>
  let e := s.readEntry c.inp
  let f := s.flow e.port
  if !e.uplink && !f.inst then bad stNotFound s
  else if !e.uplink && f.road == .draining then bad stState s
  else if c.dom != 0 && (e.dom != c.dom || (!e.uplink && f.dom != c.dom)) then bad stDomain s
  else if !e.uplink && pipeOfSub f.sc != c.n0 then bad stBadArg s
  else
    let s := s.learnAll c.n0
    let x := s.pipe c.n0
    match x.find (keyOf e) with
    | some i => ok ((s.setPipe c.n0 (x.put i (some e))).sendNotice c.n0 (keyOf e) s.clk.hubc)
    | none =>
      if s.entryQuota e.dom then bad stNoRoom s
      else
        match x.insert e with
        | some y => ok ((s.setPipe c.n0 y).sendNotice c.n0 (keyOf e) s.clk.hubc)
        | none => bad stRehash (s.rehashRequest c.n0)

/-- The key that DELETE_ENTRY and SEARCH name. -/
def keyArg (c : Desc) : MacKey := ⟨c.n1 % 64, c.n1 / 2 ^ 16, pair64 c.p2 c.p3⟩

/-- Parameters of DELETE_ENTRY and SEARCH. -/
def keyArgOk (c : Desc) : Bool :=
  decide (c.n0 < 8) && decide (c.n1 % 2 ^ 16 < 64) && decide (c.n1 / 2 ^ 16 < 4096) && decide (c.n3 < 2 ^ 16) && c.zeroFrom 4

/-- DELETE_ENTRY (R320, R321). -/
def infoDeleteEntry : CmdInfo := { op := 0x0503, args := keyArgOk }

def bodyDeleteEntry : Body := fun _ c s =>
  let s := s.learnAll c.n0
  let x := s.pipe c.n0
  match x.find (keyArg c) with
  | none => bad stNotFound s
  | some i => if c.dom != 0 && (keyArg c).dom != c.dom then bad stDomain s else ok (s.setPipe c.n0 (x.put i none))

/-- SEARCH (R320, R321). -/
def infoSearch : CmdInfo := { op := 0x0504, query := true, buf := .out (fun _ => 32), args := keyArgOk }

def bodySearch : Body := fun _ c s =>
  let x := s.pipe c.n0
  match (x.find (keyArg c)).bind x.at with
  | none => bad stNotFound s
  | some e => if c.dom != 0 && e.dom != c.dom then bad stDomain s else ok (s.outBuf c e.bytes)

/-- Position of a cursor in slot order, and the cursor of a position (R322). -/
def cursorPos (v : Nat) : Nat := if v / 2 ^ 18 % 2 = 1 then 262144 + v % 64 else 4 * (v % 65536) + v / 65536 % 4
def posCursor (i : Nat) : Nat := if 262144 ≤ i then 2 ^ 18 + (i - 262144) % 64 else i / 4 + 65536 * (i % 4)

/-- NEXT (R320, R322). -/
def infoNext : CmdInfo :=
  { op := 0x0505, query := true, buf := .out (fun _ => 32), args := fun c =>
      decide (c.n0 % 2 ^ 8 < 8) && decide (c.n0 / 2 ^ 8 < 2) && decide (c.n1 < 2 ^ 19) &&
      (c.n1 < 2 ^ 18 || decide (c.n1 % 2 ^ 18 < 64)) && decide (c.bufLen ≤ 32768) && c.zeroFrom 2 }

def bodyNext : Body := fun _ c s =>
  let p := c.n0 % 8
  let s := s.walkExpire p
  let stable := decide (2 ^ 8 ≤ c.n0)
  let x := s.pipe p
  if stable && (c.n1 == 0 && x.walk.isSome || c.n1 != 0 && x.walk.isNone) then bad stState s
  else
    let all := x.entries.filter (fun e => decide (cursorPos c.n1 ≤ e.1) && (c.dom == 0 || e.2.dom == c.dom))
    let got := all.take (min 1024 (c.bufLen / 32))
    let last := decide (all.length = got.length)
    let cur := match got.getLast? with
      | some e => posCursor (e.1 + 1)
      | none => 0xFFFFFFFF
    let s := if stable then s.setPipe p { x with walk := if last then none else some (x.walk.getD s.clk.hubc) } else s
    okR (if last then 0xFFFFFFFF else cur) got.length (s.outBuf c (got.foldl (fun l e => l ++ e.2.bytes) []))

/-- WALK_END (R320, R322). -/
def infoWalkEnd : CmdInfo := { op := 0x0506, args := fun c => decide (c.n0 < 8) && c.zeroFrom 1 }

def bodyWalkEnd : Body := fun _ c s => ok (s.setPipe c.n0 { s.pipe c.n0 with walk := none })

/-- FLUSH_BY_PORT (R320, R323). -/
def infoFlushByPort : CmdInfo :=
  { op := 0x0507, args := fun c =>
      decide (c.n0 / 2 ^ 20 % 2 ^ 11 = 0) && (c.n0 < 2 ^ 31 || decide (c.n0 % 2 ^ 20 < 128)) && decide (c.n1 < 2 ^ 9) && c.zeroFrom 2 }

def bodyFlushByPort : Body := fun rp c s =>
  let port := c.n0 % 2 ^ 20
  let uplink := decide (2 ^ 31 ≤ c.n0)
  let f := s.flow port
  if !uplink && !f.inst then bad stNotFound s
  else if !uplink && c.dom != 0 && f.dom != c.dom then bad stDomain s
  else
    let mask := if c.n1 % 256 = 0 then 255 else c.n1 % 256
    let fl : Flush := ⟨c.acc, c.dom, uplink, port, decide (2 ^ 8 ≤ c.n1), s.data.flushNo + 1, 0⟩
    let ps := (List.range 8).filter (fun p => mask / 2 ^ p % 2 == 1)
    if rp.isSome then
      ok (ps.foldl (fun (s : State) (p : Nat) => s.setPipe p ((s.pipe p).keepIf (fun e => !fl.takes e))) s)
    else
      let s := ps.foldl (fun (s : State) (p : Nat) => s.learnAll p) s
      let s := s.modData (fun d => { d with flushNo := d.flushNo + 1 })
      (.opened, ps.foldl (fun (s : State) (p : Nat) =>
        s.setPipe p { s.pipe p with flushes := (s.pipe p).flushes ++ [fl] }) s)

/-- REHASH (R320, R324). -/
def infoRehash : CmdInfo := { op := 0x0508, args := fun c => decide (c.n0 < 8) && c.zeroFrom 2 }

/-- The seed of a REHASH: the one named, the one that its journal entry holds, or one drawn now and kept in that entry,
so that a replay takes the same (R265, R319). -/
def State.seedFor (s : State) (c : Desc) : W32 × State :=
  match if c.n1 = 0 then (s.jrnFind c.acc).bind (fun j => j.drawn) else some c.p1 with
  | some v => (v, s)
  | none =>
    let (r, s) := s.random
    let v := BitVec.ofNat 32 r.toNat
    (v, s.jrnMod c.acc (fun j => { j with drawn := some v }))

def bodyRehash : Body := fun rp c s =>
  let x := s.pipe c.n0
  if c.dom != 0 then bad stDomain s
  else if x.rehash.isSome then bad stState s
  else
    let (seed, s) := s.seedFor c
    if rp.isSome then
      match x.rebuild seed with
      | (y, 0) => ok (s.setPipe c.n0 y)
      | _ => ok s
    else (.opened, s.setPipe c.n0 { x with rehash := some (c.acc, seed) })

/-- SET_STEER (R304, R305, R320). -/
def infoSetSteer : CmdInfo :=
  { op := 0x0501, args := fun c =>
      decide (c.n0 % 2 ^ 16 < 128) && decide (c.n0 / 2 ^ 16 < 4096) && decide (c.n1 % 2 ^ 8 < 32) && decide (c.n1 / 2 ^ 8 < 64) && c.zeroFrom 2 }

def bodySetSteer : Body := fun _ c s =>
  if c.dom != 0 then bad stDomain s
  else
    let e : Steer := ⟨c.n1 % 2 == 1, c.n1 / 2 % 8, c.n1 / 16 % 2, c.n1 / 2 ^ 8⟩
    ok (s.modData (fun d => { d with steer := d.steer.set {} (4096 * (c.n0 % 128) + c.n0 / 2 ^ 16) e }))

/-! Meanings. -/

/-- SET_STEER. -/
def execSetSteer (c : Desc) (s : State) : Answer := kept s (runCmd infoSetSteer bodySetSteer c s)
/-- ADD_ENTRY. -/
def execAddEntry (c : Desc) (s : State) : Answer := kept s (runCmd infoAddEntry bodyAddEntry c s)
/-- DELETE_ENTRY. -/
def execDeleteEntry (c : Desc) (s : State) : Answer := kept s (runCmd infoDeleteEntry bodyDeleteEntry c s)
/-- SEARCH. -/
def execSearchEntry (c : Desc) (s : State) : Answer := kept s (runCmd infoSearch bodySearch c s)
/-- NEXT. -/
def execNextEntry (c : Desc) (s : State) : Answer := kept s (runCmd infoNext bodyNext c s)
/-- WALK_END. -/
def execWalkEnd (c : Desc) (s : State) : Answer := kept s (runCmd infoWalkEnd bodyWalkEnd c s)
/-- FLUSH_BY_PORT. -/
def execFlushByPort (c : Desc) (s : State) : Answer := kept s (runCmd infoFlushByPort bodyFlushByPort c s)
/-- REHASH. -/
def execRehash (c : Desc) (s : State) : Answer := kept s (runCmd infoRehash bodyRehash c s)

/-- LEARN (R313). -/
def execLearn (p : Nat) (s : State) : Answer := kept s (s.learnNext p)
/-- LEARN_NOTICE (R316). -/
def execLearnNotice (p : Nat) (s : State) : Answer := kept s (s.learnNotice p)
/-- STASH_RETURN (R315). -/
def execStashReturn (p : Nat) (s : State) : Answer := kept s (s.stashReturn p)
/-- AGEING_SWEEP (R319). -/
def execAgeingSweep (p b : Nat) (s : State) : Answer := kept s (s.ageing p b)
/-- FREEZE_EXPIRY (R318). -/
def execFreezeExpiry (p mac vid dom : Nat) (s : State) : Answer := kept s (s.freezeExpiry p ⟨dom, vid, mac⟩)
/-- WALK_TIMEOUT (R322). -/
def execWalkTimeout (p : Nat) (s : State) : Answer := kept s (s.walkExpire p)
/-- FLUSH_DONE (R323). -/
def execFlushDone (p acc : Nat) (s : State) : Answer := kept s (s.flushDone p acc)
/-- REHASH_DONE (R324). -/
def execRehashDone (p : Nat) (s : State) : Answer := kept s (s.rehashDone p)

end Sys2Proof.Machine
end

