-- ==== Sys2Proof/Machine/Forward.lean ====
section
/-! DEFINITION. Steering, flows, classification, flood lists, policing and bridging (R292, R293, R304 to R310,
R325), and hint frames (R222). -/

namespace Sys2Proof.Machine

/-! Flows. -/

/-- Flow block of R306. -/
structure FlowBlk where
  sc : Nat
  term : Nat
  xgem : Nat
  kind : Nat
  encrypt : Bool
  outerVid : Nat
  innerVid : Nat
  innerNone : Bool
  dsTag : Nat
  usTag : Nat
  usVid : Nat
  uPort : Nat
  macLimit : Nat
  deriving DecidableEq, Repr

/-- Read a flow block. -/
def readFlowBlk (l : List Nat) : FlowBlk :=
  ⟨leAt l 0 2, leAt l 2 2, leAt l 4 2, leAt l 6 1 % 4, leAt l 6 1 / 4 % 2 == 1, leAt l 8 2, leAt l 10 2 % 4096,
   decide (2 ^ 15 ≤ leAt l 10 2), leAt l 12 1, leAt l 13 1, leAt l 14 2, leAt l 16 2, leAt l 18 2⟩

/-- A flow block is acceptable (R306). -/
def flowOk (l : List Nat) : Bool :=
  let b := readFlowBlk l
  decide (b.sc < 384) && decide (b.term < 512) && decide (1024 ≤ b.xgem ∧ b.xgem ≤ 65534) && decide (b.kind ≤ 2) &&
  decide (leAt l 6 1 < 8) && leAt l 7 1 == 0 && decide (b.outerVid < 4096) && leAt l 10 2 / 4096 % 8 == 0 &&
  decide (b.dsTag ≤ 1) && decide (b.usTag ≤ 2) && decide (b.usVid < 4096) && decide (b.uPort < 128) && decide (b.macLimit ≤ 4096) &&
  (l.drop 20).all (· == 0)

/-- The 1:1 key of a flow (R308): domain, outer VID, inner VID or NONE. -/
def Flow.key (f : Flow) : Nat × Nat × Option Nat := (f.dom, f.outerVid, if f.innerNone then none else some f.innerVid)

/-- The flow of KIND 1:1 with a key in a pipeline (R308). -/
def State.keyFlow (s : State) (p : Nat) (k : Nat × Nat × Option Nat) : Option Nat :=
  (s.data.flows.keysWhere (fun _ f => f.inst && f.keyHeld && f.kind == 0 && pipeOfSub f.sc == p && f.key == k)).head?

/-- The flow that holds an XGEM port ID on a sub-channel (R306). -/
def State.xgemFlow (s : State) (sc xgem : Nat) : Option Nat :=
  (s.data.flows.keysWhere (fun _ f => f.inst && f.sc == sc && f.xgem == xgem)).head?

/-- Flows of a domain (R261). -/
def State.flowsOf (s : State) (d : Nat) : Nat := s.data.flows.countWhere (fun _ f => f.inst && f.dom == d)

/-- A flow as its block sets it. -/
def FlowBlk.flow (b : FlowBlk) (dom : Nat) : Flow :=
  { inst := true, dom := dom, sc := b.sc, term := b.term, xgem := b.xgem, kind := b.kind, encrypt := b.encrypt
    outerVid := b.outerVid, innerVid := b.innerVid, innerNone := b.innerNone, dsTag := b.dsTag, usTag := b.usTag
    usVid := b.usVid, uPort := b.uPort, macLimit := b.macLimit, road := .enabled, keyHeld := b.kind == 0 }

/-- The block of the flow in the bursts of the roadbooks before `before` (R44). -/
def Flow.toPast (x : Flow) (before : Nat) : FlowPast :=
  ⟨before, x.kind, x.encrypt, x.usTag, x.usVid, x.uPort, x.macLimit⟩

/-- The flow as it stands for a burst of roadbook m: a burst granted before a resume is under the block of its time
(R44). -/
def Flow.under (x : Flow) (m : Nat) : Flow :=
  match x.past with
  | some p =>
    if m < p.before then { x with kind := p.kind, encrypt := p.encrypt, usTag := p.usTag, usVid := p.usVid, uPort := p.uPort
                                  macLimit := p.macLimit }
    else x
  | none => x

/-- A new flow: its queue, its scheduling parameters and its policer start new (R299, R301). -/
def State.newFlow (s : State) (i : Nat) (f : Flow) : State :=
  (s.setFlow i f).modData (fun d => { d with
    flowQ := d.flowQ.del i, flowS := d.flowS.del i, polS := d.polS.del i })

/-- CREATE_FLOW (R306, R325). A flow that is DRAINING resumes (R59) when its block names the same sub-channel,
terminal and XGEM port ID. -/
def infoCreateFlow : CmdInfo :=
  { op := 0x0401, buf := .inp (fun n => n == 64), args := fun c => decide (c.n0 < 2 ^ 20) && c.zeroFrom 1 && flowOk c.inp }

def bodyCreateFlow : Body := fun rp c s =>
  let b := readFlowBlk c.inp
  let y := s.term b.sc b.term
  let x := s.flow c.n0
  let f := b.flow c.dom
  let again := x.inst && x.road == .draining && x.dom == c.dom && x.sc == b.sc && x.term == b.term && x.xgem == b.xgem
  let keyBusy := b.kind == 0 && (match s.keyFlow (pipeOfSub b.sc) f.key with
    | some j => j != c.n0
    | none => false)
  if y.act == .free then bad stNotFound s
  else if y.dom != c.dom then bad stDomain s
  else if s.isProtect (b.sc / 2) || s.underTest b.sc b.term then bad stState s
  else if c.dom != 0 && !again && decide ((s.domE c.dom).quota.flows ≤ s.flowsOf c.dom) then bad stNoRoom s
  else if x.inst && !again then bad stExists s
  else if (match s.xgemFlow b.sc b.xgem with
      | some j => j != c.n0
      | none => false) || keyBusy then bad stExists s
  else if (s.uport b.uPort).cfg.isNone then bad stBadArg s
  else if again then
    match s.resolveE rp c with
    | .error n => bad n s
    | .ok e =>
      let r := max e (x.drainE.getD 0 + s.len b.sc)
      let z : Flow := { f with
        road := .resuming, drainE := x.drainE, discard := x.discard, resumeR := some r, resumeAcc := some c.acc
        past := some ((x.under r).toPast r) }
      (.opened, s.setFlow c.n0 z)
  else ok (s.newFlow c.n0 f)

/-- DESTROY_FLOW (R307, R325). -/
def infoDestroyFlow : CmdInfo :=
  { op := 0x0402, defer := true, args := fun c => decide (c.n0 < 2 ^ 20) && decide (c.n1 < 2) && c.zeroFrom 2 }

def bodyDestroyFlow : Body := fun rp c s =>
  let x := s.flow c.n0
  if !x.inst then bad stNotFound s
  else if x.dom != c.dom then bad stDomain s
  else if x.destroyE.isSome || x.road != .enabled then bad stState s
  else
    match s.resolveE rp c with
    | .error n => bad n s
    | .ok e =>
      if !s.pendRoom then bad stNoRoom s
      else deferred e ((s.setFlow c.n0 { x with destroyE := some e, discard := c.n1 == 1 }).defer c e (.flowDestroy c.n0 (c.n1 == 1)))

/-- MODIFY_FLOW (R307, R325). -/
def infoModifyFlow : CmdInfo :=
  { op := 0x0403, buf := .inp (fun n => n == 64), args := fun c => decide (c.n0 < 2 ^ 20) && c.zeroFrom 1 && flowOk c.inp }

def bodyModifyFlow : Body := fun _ c s =>
  let x := s.flow c.n0
  let b := readFlowBlk c.inp
  if !x.inst then bad stNotFound s
  else if x.dom != c.dom then bad stDomain s
  else if !(b.sc == x.sc && b.term == x.term && b.xgem == x.xgem && b.kind == x.kind && b.encrypt == x.encrypt &&
      b.outerVid == x.outerVid && b.innerVid == x.innerVid && b.innerNone == x.innerNone) || (s.uport b.uPort).cfg.isNone then
    bad stBadArg s
  else ok (s.setFlow c.n0 { x with dsTag := b.dsTag, usTag := b.usTag, usVid := b.usVid, uPort := b.uPort, macLimit := b.macLimit })

/-- READ_FLOW (R325). -/
def infoReadFlow : CmdInfo := { op := 0x0404, query := true, buf := .out (fun _ => 64), args := fun c => decide (c.n0 < 2 ^ 20) && c.zeroFrom 1 }

/-- The flow block as in force. -/
def Flow.bytes (x : Flow) : List Nat :=
  leBytes 2 x.sc ++ leBytes 2 x.term ++ leBytes 2 x.xgem ++ leBytes 1 (x.kind + 4 * b2n x.encrypt) ++ [0] ++
  leBytes 2 x.outerVid ++ leBytes 2 (x.innerVid + 2 ^ 15 * b2n x.innerNone) ++ leBytes 1 x.dsTag ++ leBytes 1 x.usTag ++
  leBytes 2 x.usVid ++ leBytes 2 x.uPort ++ leBytes 2 x.macLimit ++ leBytes 4 (x.road.code + 2 ^ 8 * pipeOfSub x.sc) ++
  List.replicate 40 0

def bodyReadFlow : Body := fun _ c s =>
  let x := s.flow c.n0
  if !x.inst then bad stNotFound s
  else if x.dom != c.dom then bad stDomain s
  else ok (s.outBuf c x.bytes)

/-! Flood lists (R309). -/

/-- Key of a flood list. -/
def floodKey (dom vid : Nat) : Nat := 4096 * dom + vid

/-- Members of a flood list. -/
def Pipe.flood (x : Pipe) (k : Nat) : List Nat := ((x.floods.find? (fun e => e.1 == k)).map (fun e => e.2)).getD []

/-- Store a flood list; an empty one is deleted. -/
def Pipe.setFlood (x : Pipe) (k : Nat) (l : List Nat) : Pipe :=
  { x with floods := x.floods.filter (fun e => decide (e.1 < k)) ++ (if l.isEmpty then [] else [(k, l)])
      ++ x.floods.filter (fun e => decide (k < e.1)) }

/-- Remove a flow from the list of its domain and VID. -/
def State.leaveFlood (s : State) (i : Nat) : State :=
  let f := s.flow i
  let p := pipeOfSub f.sc
  let k := floodKey f.dom f.outerVid
  s.setPipe p ((s.pipe p).setFlood k (((s.pipe p).flood k).filter (· != i)))

/-- JOIN_FLOOD (R309, R325). -/
def infoJoinFlood : CmdInfo := { op := 0x0405, args := fun c => decide (c.n0 < 2 ^ 20) && c.zeroFrom 1 }

def bodyJoinFlood : Body := fun _ c s =>
  let f := s.flow c.n0
  let p := pipeOfSub f.sc
  let x := s.pipe p
  let k := floodKey f.dom f.outerVid
  let l := x.flood k
  if !f.inst then bad stNotFound s
  else if f.dom != c.dom then bad stDomain s
  else if f.road != .enabled then bad stState s
  else if l.contains c.n0 then ok s
  else if decide (65535 ≤ l.length) || (l.isEmpty && decide (4096 ≤ x.floods.length)) ||
      decide (131072 ≤ x.floods.foldl (fun n e => n + e.2.length) 0) then bad stNoRoom s
  else ok (s.setPipe p (x.setFlood k (l ++ [c.n0])))

/-- LEAVE_FLOOD (R309, R325). -/
def infoLeaveFlood : CmdInfo := { op := 0x0406, args := fun c => decide (c.n0 < 2 ^ 20) && c.zeroFrom 1 }

def bodyLeaveFlood : Body := fun _ c s =>
  let f := s.flow c.n0
  if !f.inst then bad stNotFound s
  else if f.dom != c.dom then bad stDomain s
  else if ((s.pipe (pipeOfSub f.sc)).flood (floodKey f.dom f.outerVid)).contains c.n0 then ok (s.leaveFlood c.n0)
  else bad stNotFound s

/-! Shut-down and drain (R285, R307). -/

/-- A flow enters DRAINING at milestone E (R307). -/
def State.flowShut (s : State) (i e : Nat) (discard : Bool) : State :=
  let f := s.flow i
  let p := pipeOfSub f.sc
  let s := (s.leaveFlood i).learnAll p
  let s := s.setPipe p ((s.pipe p).keepIf (fun m => m.uplink || m.port != i))
  let s := s.setFlow i { f with road := .draining, destroyE := none, drainE := some e, discard := discard, keyHeld := false }
  s.freeQueues false (fun j => j == i)

/-- A flow is taken away with its queue and its entries (R273, R307). -/
def State.removeFlow (s : State) (i : Nat) : State :=
  let p := pipeOfSub (s.flow i).sc
  (s.setPipe p ((s.pipe p).keepIf (fun m => m.uplink || m.port != i))).modData (fun d => { d with
    flows := d.flows.del i, flowQ := d.flowQ.del i, flowS := d.flowS.del i, polS := d.polS.del i, frags := d.frags.del i })

/-- End of a flow's drain (R55). -/
def State.flowDrainEnd (s : State) (i : Nat) : State :=
  let x := s.flow i
  match x.drainE with
  | none => s
  | some e =>
    if !x.road.busy || !s.roadClear x.sc e then s
    else
      let s := if x.road == .draining then s.removeFlow i else s.setFlow i { x with drainE := none, discard := false }
      s.raise evDrainDone (drainArg 4 i)

/-- At the commit point of roadbook r, flows that resume with it are ENABLED and their commands complete (R59). -/
def State.flowResume (s : State) (r : Nat) : State :=
  (s.data.flows.keysWhere (fun _ x => x.road == .resuming && x.drainE.isNone && reached x.resumeR r)).foldl (fun s i =>
    let x := s.flow i
    let s := s.setFlow i { x with road := .enabled, resumeAcc := none }
    match x.resumeAcc with
    | some a => s.complete a { status := stOk, msc := x.resumeR }
    | none => s) s

/-! Frames. -/

/-- A frame that enters the buffers and one or more queues (R283, R328, R329, R334): client, allocating domain,
bytes as it arrived, and the copies: queue and frame as it will leave. -/
def State.store (s : State) (client dom len : Nat) (up : Bool) (copies : List (Nat × Frame)) : State :=
  if 9728 < len then s.bpmCnt 1
  else
    let shared := decide (2 ≤ copies.length)
    match (if shared then (s.takeRef copies.length).map (fun r => (some r.1, r.2)) else some (none, s)) with
    | none => s.bpmCnt 6
    | some (ref, s1) =>
      match s1.takeBuf client len with
      | (none, s2) =>
        (match ref with
         | some e => s2.modBuf (fun b => { b with refs := b.refs.set 0 e 0 })
         | none => s2).bpmCnt 0
      | (some (p, b), s2) =>
        copies.foldl (fun s c => s.enqueue up c.1 { c.2 with dom := dom, pool := p, buf := b, ref := ref }) s2

/-- A frame without its buffer. -/
def mkFrame (n flow : Nat) (mark : Option Bool) (tags : List VlanTag) (origin stamp : Nat) : Frame :=
  { n := n, dom := 0, pool := 0, buf := 0, ref := none, enqNs := 0, mark := mark, tags := tags, flow := flow
    origin := origin, stamp := stamp }

end Sys2Proof.Machine

namespace Sys2Proof

/-- VID that steers and classifies a frame: that of an outer tag with TPID 0x8100 or 0x88A8 (R304). -/
def outerVid (l : List VlanTag) : Option Nat :=
  match l with
  | [] => none
  | t :: _ => if t.tpid = 0x8100 ∨ t.tpid = 0x88A8 then some t.vid else none

def UpFrame.vid (f : UpFrame) : Option Nat := outerVid f.tags
def DnFrame.vid (f : DnFrame) : Option Nat := outerVid f.tags

/-- Inner VID of a frame (R308). -/
def UpFrame.inner (f : UpFrame) : Option Nat := if f.vid.isSome then outerVid f.tags.tail else none

end Sys2Proof

namespace Sys2Proof.Machine

/-- The copy of a downstream frame for a flow, after DS_TAG_OP (R306). -/
def State.downCopy (s : State) (f : UpFrame) (i : Nat) : Nat × Frame :=
  let pop := (s.flow i).dsTag == 1 && f.vid.isSome
  (i, mkFrame (if pop then f.len - 4 else f.len) i none (if pop then f.tags.tail else f.tags) (384 + f.u) s.time.dev)

/-- A frame reaches pipeline p in direction r (0 downstream, 1 upstream), which accepts 4.0 × 10⁹ frames/s in each: 500,000
in an interval. Frames beyond are dropped and counted in STEER_OVER (R20, R304). -/
def State.pipeTake (s : State) (p r : Nat) : Bool × State :=
  let n := s.data.pipeLoad.get 0 (2 * p + r)
  if n < 500000 then (true, s.modData (fun d => { d with pipeLoad := d.pipeLoad.set 0 (2 * p + r) (n + 1) }))
  else (false, s.pipeCnt p 0)

/-- Classification of a downstream frame in its pipeline (R308, R309). -/
def State.classify (s : State) (f : UpFrame) (e : Steer) : State :=
  let p := e.pipe
  let vid := f.vid.getD 0
  let send := fun (s : State) (l : List Nat) => s.store (2 * p) e.dom f.len false (l.map (s.downCopy f))
  let flood := fun (s : State) =>
    match (s.pipe p).flood (floodKey e.dom vid) with
    | [] => s.pipeCnt p 1
    | l => send s l
  if 9728 < f.len then s.bpmCnt 1
  else if e.mode = 0 then
    match s.keyFlow p (e.dom, vid, f.inner) with
    | some i => send s [i]
    | none => s.pipeCnt p 1
  else
    let s := s.queueLearn p ⟨f.sa, vid, e.dom, true, f.u⟩
    if f.da % 2 = 1 then flood s
    else
      let x := s.pipe p
      match (x.find ⟨e.dom, vid, f.da⟩).bind x.at with
      | none => flood s
      | some m => if m.uplink then s.pipeCnt p 10 else send s [m.port]

/-- UPL.PORT_CNT k (R507). -/
def State.uplCnt (s : State) (u k n : Nat) : State := s.add64 (uplA u (0x10 + 8 * k)) n

/-- The receive SA of a SecTAG on a port (R361): by its SCI, or the port's one channel where the SCI is omitted, and AN. -/
def State.rxSa (s : State) (u : Nat) (t : SecTag) : Option Nat :=
  (s.cph.sas.keysWhere (fun _ x => x.inst && x.rx && x.port == u && x.an == t.an &&
    (match t.sci with
     | some v => x.sci == v
     | none => (s.rxScs u x.sci).isEmpty))).head?

/-- Validate frames of a port (R361, R367): 0 Strict, 1 Check, 2 Disabled, which is also a port without a SecY. -/
def State.validates (s : State) (u : Nat) : Nat := if (s.secy u).configured then (s.secy u).validate else 2

/-- A receive SA after a frame that its ICV proves (R361): the window ends with the highest number accepted. -/
def Sa.accept (x : Sa) (pn window : Nat) : Sa :=
  let next := max x.pn (pn + 1)
  { x with validated := x.validated + 1, pn := next, low := max x.low (next - window) }

/-- MACsec on receive (R361, R362): whether the frame goes on, and the state with the counters. Strict drops what it
cannot validate; Check and Disabled drop it only where its data is enciphered; Disabled checks no ICV. A frame below the
replay window is dropped. -/
def State.secReceive (s : State) (u : Nat) (sec : Option SecTag) : Bool × State :=
  let y := s.secy u
  let mode := s.validates u
  match sec with
  | none => (mode != 0, s)
  | some t =>
    let pass := mode != 0 && !t.enc
    match s.rxSa u t with
    | none => (pass, s.setSecy u { y with noSa := y.noSa + 1 })
    | some k =>
      let x := s.sa k
      if x.st != saEnabled then (pass, s.setSa k { x with noSa := x.noSa + 1 })
      else if t.pn < x.low then (false, s)
      else if mode = 2 then (true, s)
      else if t.icv then (true, s.setSa k (x.accept t.pn y.window))
      else (pass, s)

/-- A bound hint VLAN (R222). -/
def State.hintVlan (s : State) (u vid : Nat) : Option Nat :=
  (s.grant.hintVlans.find? (fun e => e.1 == u && e.2.1 == vid)).map (fun e => e.2.2)

/-- Port u takes PTP or ESMC frames from the data path (R380, R382). -/
def State.trapped (s : State) (u : Nat) (timing : Option Bool) : Bool :=
  let x := s.time.ptpPorts.get {} u
  match timing with
  | none => false
  | some esmc => if esmc then x.esmc else x.trap

/-- FEC counts of the port and of its lanes (R507, R510). -/
def State.fecCounts (s : State) (f : UpFrame) : State :=
  let s := (s.uplCnt f.u 9 f.codewords.1).uplCnt f.u 10 f.codewords.2
  (f.lanes.mapIdx (fun i e => (384 + f.u + i, e))).foldl (fun s e =>
    if e.1 < 512 then (s.add32 (lneA e.1 0x3C) e.2.1).add32 (lneA e.1 0x40) e.2.2 else s) s

/-- Arrival on an uplink port up to steering (R304, R502, R503). A STANDBY device takes every frame, and forwards none
(R393). -/
def State.uplinkIngress (s : State) (f : UpFrame) : State :=
  let u := f.u
  match (s.uport u).cfg with
  | none => s
  | some (_, _, maxFrame) =>
    if !s.portUp u then (s.fecCounts f).uplCnt u 6 1
    else
      let s := ((s.fecCounts f).uplCnt u 0 1).uplCnt u 1 f.len
      if !f.fcsOk then s.uplCnt u 2 1
      else if maxFrame < f.len then s.uplCnt u 3 1
      else if f.len < 64 then s.uplCnt u 4 1
      else if f.ctrl || f.etype = 0x8808 then s.uplCnt u 5 1
      else
        match s.secReceive u f.sec with
        | (false, s) => s
        | (true, s) =>
          if (f.etype = 0x88B5 && (s.hintVlan u (f.vid.getD 0)).isSome) || s.trapped u f.timing || s.standby then s
          else
            let e := s.data.steer.get {} (4096 * u + f.vid.getD 0 % 4096)
            match s.d2dTake (4 + u / 64) 0 f.len with
            | (false, s) => s
            | (true, s) =>
              if !e.valid then s.fwdCnt 0
              else
                match s.pipeTake e.pipe 0 with
                | (false, s) => s
                | (true, s) => s.classify f e

/-- One frame through the policer of its flow (R292, R293): none if it is RED, else the DEI it gives the frame, none
where it is disabled. -/
def State.police (s : State) (i n : Nat) : Option (Option Bool) × State :=
  let p := s.data.polS.get {} i
  let store := fun (s : State) (x : Policer) => s.modData (fun d => { d with polS := d.polS.set {} i x })
  let b : Int := n * 8000000
  let now := s.ns
  if !p.enabled then (some none, store s { p with green := p.green + 1 })
  else if p.tp.at false now < b then
    (none, (store s { p with red := p.red + 1, tp := p.tp.debit false now 0, tc := p.tc.debit true now 0 }).tmgDrop 5 1)
  else if p.tc.at true now < b then
    (some (some true), store s { p with yellow := p.yellow + 1, tp := p.tp.debit false now b, tc := p.tc.debit true now 0 })
  else (some (some false), store s { p with green := p.green + 1, tp := p.tp.debit false now b, tc := p.tc.debit true now b })

/-- The burst and the allocation that carried an upstream frame, if that burst ARRIVED: the data of a burst with another
outcome is not delivered (R79, R82). -/
def State.carrier (s : State) (f : DnFrame) : Option (Burst × Alloc) :=
  match (s.sub f.sc).books.find? (fun k => k.msc == f.m) with
  | none => none
  | some k =>
    match k.bursts[f.burst]? with
    | none => none
    | some b => if b.outcome = some .arrived then (b.allocs[f.alloc]?).map (fun a => (b, a)) else none

/-- An upstream frame of a shut-down object in DISCARD mode is dropped (R57): of the unit, terminal, sub-channel or tree
whose allocation carried it, or of its flow. -/
def State.upDiscarded (s : State) (b : Burst) (a : Alloc) (x : Flow) : Bool :=
  s.allocDiscarded x.sc b a || (x.road.busy && x.drainE.isSome && x.discard)

/-- The frame's key can be used (R79, R359): key index 0 is in clear, and another one names a slot that is not empty. -/
def State.upKey (s : State) (f : Flow) (key : Nat) : Bool :=
  key = 0 || (decide (key ≤ 2) && (s.keySlot (uniSlot f.sc f.term key)).key.isSome)

/-- CHN KEY_MISS of a sub-channel (R79, R350). -/
def State.keyMiss (s : State) (sc : Nat) : State := s.add32 (subA sc 0x38) 1

/-- The tags of an upstream frame after US_TAG_OP (R306): a pushed tag carries the flow's US_CLASS. -/
def State.upTags (s : State) (i : Nat) (x : Flow) (l : List VlanTag) : List VlanTag :=
  if x.usTag = 1 then ⟨0x88A8, (s.sched false i).usClass, false, x.usVid⟩ :: l
  else if x.usTag = 2 then
    match l with
    | [] => []
    | t :: r => { t with vid := x.usVid } :: r
  else l

/-- Treatment of an upstream frame of flow i (R292, R310). -/
def State.bridge (s : State) (i : Nat) (f : DnFrame) (x : Flow) : State :=
  let p := pipeOfSub x.sc
  match s.police i f.len with
  | (none, s) => s
  | (some mark, s) =>
    let tags := s.upTags i x f.tags
    let n := if x.usTag = 1 then f.len + 4 else f.len
    let vid := (outerVid tags).getD 0
    let send := fun (s : State) (u : Nat) =>
      let q := (64 * u + x.dom) * 8 + (s.sched false i).usClass
      s.store (2 * p + 1) x.dom n true [(q, mkFrame n i mark tags x.sc s.time.dev)]
    if x.kind = 0 then send s x.uPort
    else
      let s := if x.road == .enabled then s.queueLearn p ⟨f.sa, vid, x.dom, false, i⟩ else s
      let y := s.pipe p
      if f.da % 2 = 1 then send s x.uPort
      else
        match (y.find ⟨x.dom, vid, f.da⟩).bind y.at with
        | none => send s x.uPort
        | some m => if m.uplink then send s m.port else s.pipeCnt p 10

/-- A decrypted upstream frame goes from its tree die to its pipeline (R26, R304, R310). -/
def State.upArrive (s : State) (i : Nat) (f : DnFrame) (x : Flow) : State :=
  match s.d2dTake (scDie x.sc) 0 f.len with
  | (false, s) => s
  | (true, s) =>
    match s.pipeTake (pipeOfSub x.sc) 1 with
    | (false, s) => s
    | (true, s) =>
      if x.kind = 2 then s.pipeCnt (pipeOfSub x.sc) 1
      else if 9728 < f.len then s.bpmCnt 1
      else s.bridge i f x

/-- The bytes of a flow's earlier fragments (R69, R70 reassembly). -/
def State.setFrag (s : State) (i n : Nat) : State := s.modData (fun d => { d with frags := d.frags.set 0 i n })

/-- A fragment joins the earlier ones of its flow; the last one completes the frame (R69, R70). -/
def State.reassemble (s : State) (i : Nat) (f : DnFrame) (x : Flow) : State :=
  let n := s.data.frags.get 0 i + f.len
  if f.last then (s.setFrag i 0).upArrive i { f with len := n } x else s.setFrag i n

/-- An upstream frame from a flow (R44, R57, R69, R70, R79, R82, R292, R310, R350, R359). One whose burst did not ARRIVE
is lost, with the fragments that waited for it. -/
def State.upstreamFrame (s : State) (f : DnFrame) : State :=
  match s.xgemFlow f.sc f.xgem with
  | none => s
  | some i =>
    match s.carrier f with
    | none => s.setFrag i 0
    | some (b, a) =>
      let x := (s.flow i).under f.m
      if s.upDiscarded b a x then s.setFrag i 0
      else if !s.upKey x f.key then
        -- the request of this frame may have counted the miss already (R350)
        let k := 2 * uniSlot x.sc x.term f.key + 1
        let s := s.setFrag i 0
        if s.cph.cut.get false k then s.modCph (fun c => { c with cut := c.cut.set false k false }) else s.keyMiss x.sc
      else if x.encrypt && f.key = 0 then (s.setFrag i 0).ponCnt (scDie x.sc) 4
      else s.reassemble i f x

/-! Hint frames (R222). -/

/-- A hint frame's payload is well formed. -/
def hintFrameOk (l : List Nat) : Bool :=
  let n := leAt l 1 1
  leAt l 0 1 == 1 && decide (1 ≤ n ∧ n ≤ 64) && leAt l 2 2 == 0 && decide (8 + 16 * n ≤ l.length) &&
  (List.range n).all (fun r => decide (leAt l (8 + 16 * r) 4 < 2 ^ 20) && decide (leAt l (12 + 16 * r) 4 < 2 ^ 26))

/-- One record of a hint frame is posted for the bound domain (R42, R140). -/
def State.postHint (s : State) (dom u dem t : Nat) : State :=
  let x := s.unit u
  if !x.inst then s
  else if x.dom != dom || decide (s.clk.msc + 4096 < t) then s.groupCount x.group 5
  else if t < s.earliestAck then s.add32 (mstA 0x2C) 1
  else (s.takeHint u (dem % 2 ^ 23) (dem / 2 ^ 23) t).2

/-- A hint frame arrives on a bound port and VLAN. -/
def State.hintFrame (s : State) (u vid : Nat) (l : List Nat) : State :=
  if !s.portUp u then s
  else
    match s.hintVlan u vid with
    | none => s
    | some d =>
      if !hintFrameOk l then s.fwdCnt 1
      else (List.range (leAt l 1 1)).foldl (fun s r =>
        s.postHint d (leAt l (8 + 16 * r) 4) (leAt l (12 + 16 * r) 4) (leAt l (16 + 16 * r) 8)) s

/-! Meanings. -/

/-- CREATE_FLOW. -/
def execCreateFlow (c : Desc) (s : State) : Answer := kept s (runCmd infoCreateFlow bodyCreateFlow c s)
/-- DESTROY_FLOW. -/
def execDestroyFlow (c : Desc) (s : State) : Answer := kept s (runCmd infoDestroyFlow bodyDestroyFlow c s)
/-- MODIFY_FLOW. -/
def execModifyFlow (c : Desc) (s : State) : Answer := kept s (runCmd infoModifyFlow bodyModifyFlow c s)
/-- READ_FLOW. -/
def execReadFlow (c : Desc) (s : State) : Answer := kept s (runCmd infoReadFlow bodyReadFlow c s)
/-- JOIN_FLOOD. -/
def execJoinFlood (c : Desc) (s : State) : Answer := kept s (runCmd infoJoinFlood bodyJoinFlood c s)
/-- LEAVE_FLOOD. -/
def execLeaveFlood (c : Desc) (s : State) : Answer := kept s (runCmd infoLeaveFlood bodyLeaveFlood c s)

/-- UPLINK_FRAME_INGRESS (R304). -/
def execUplinkFrameIngress (f : UpFrame) (s : State) : Answer := kept s (s.uplinkIngress f)
/-- UPSTREAM_FRAME (R310): a STANDBY device forwards none (R393). -/
def execUpstreamFrame (f : DnFrame) (s : State) : Answer := kept s (if s.standby then s else s.upstreamFrame f)
/-- HINT_FRAME (R222): a STANDBY device takes the frame, and posts the hint records of the ACTIVE device only (R393,
R398). -/
def execHintFrame (u vid : Nat) (bytes : List Nat) (s : State) : Answer := kept s (if s.standby then s else s.hintFrame u vid bytes)

end Sys2Proof.Machine
end

