-- ==== Sys2Proof/Machine/Domains.lean ====
section
/-! DEFINITION. Operator domains (R224, R259 to R262, R341): OPEN_DOMAIN, TEARDOWN_DOMAIN, a domain's
shut-down and drain. -/

namespace Sys2Proof.Machine

/-- Quotas of OPEN_DOMAIN (R261). -/
def quotaOf (c : Desc) : Quota :=
  { units := c.n1, flows := c.n2, keys := c.n3, entries := c.n4, sas := c.n5 % 2 ^ 16, rings := c.n5 / 2 ^ 16 }

/-- OPEN_DOMAIN (R261, R262). -/
def infoOpenDomain : CmdInfo :=
  { op := 0x0D01, args := fun c =>
      decide (1 ≤ c.n0 ∧ c.n0 < 64) && decide (c.n1 ≤ 1048576) && decide (c.n2 ≤ 1048576) && decide (c.n3 ≤ 524288) &&
      decide (c.n4 ≤ 2097152) && decide (c.n5 % 2 ^ 16 ≤ 4096) && decide (c.n5 / 2 ^ 16 ≤ 15) }

def bodyOpenDomain : Body := fun rp c s =>
  let d := c.n0
  let x := s.domE d
  if rp.isNone && decide (s.host.numVfs < d) then bad stState s
  else
    match x.road with
    | .enabled => bad stExists s
    | .resuming => bad stExists s
    | .disabled => ok (s.setDom d { road := .enabled, quota := quotaOf c })
    | .draining =>
      match s.resolveE rp c with
      | .error n => bad n s
      | .ok e =>
        (.opened, s.setDom d { x with road := .resuming, newQuota := some (quotaOf c), resumeAcc := some c.acc, resumeR := some e })

/-- TEARDOWN_DOMAIN (R262). -/
def infoTeardownDomain : CmdInfo :=
  { op := 0x0D02, defer := true, args := fun c => decide (1 ≤ c.n0 ∧ c.n0 < 64) && decide (c.n1 < 2) && c.zeroFrom 2 }

def bodyTeardownDomain : Body := fun rp c s =>
  let d := c.n0
  let x := s.domE d
  if x.road == .disabled then bad stNotFound s
  else if x.road != .enabled || x.teardownE.isSome then bad stState s
  else
    match s.resolveE rp c with
    | .error n => bad n s
    | .ok e =>
      if !s.pendRoom then bad stNoRoom s
      else deferred e ((s.setDom d { x with teardownE := some e }).defer c e (.domainTeardown d (c.n1 == 1)))

/-- Complete a command that was waiting for a resume that will not come. -/
def State.cancelResume (s : State) (acc : Option Nat) : State :=
  match acc with
  | some a => s.complete a { status := stState }
  | none => s

/-- The shut-down of a unit with its domain is applied at the snapshot (R262): a unit on the road is planned no
more from roadbook e, its RETIRE entry having run in W(e); one whose resume or installation has not come is taken
out of it, and runs none. -/
def State.shutUnit (s : State) (u e : Nat) (discard : Bool) : State :=
  let x := s.unit u
  match x.road with
  | .enabled => s.setUnit u { x with drainE := some (x.drainE.getD e), discard := x.discard || discard, retireE := none, entryRun := false }
  | .draining => s
  | .resuming =>
    (s.setUnit u { x with road := .draining, drainE := some (x.drainE.getD 0), resumeR := none, resumeAcc := none, installE := none }).cancelResume x.resumeAcc
  | .disabled => s.removeUnit u

/-- The shut-down of a flow with its domain (R262). -/
def State.shutFlow (s : State) (f e : Nat) (discard : Bool) : State :=
  let x := s.flow f
  match x.road with
  | .enabled => s.setFlow f { x with destroyE := some (min e (x.destroyE.getD e)), discard := x.discard || discard }
  | .resuming => (s.setFlow f { x with road := .draining, drainE := some (x.drainE.getD 0), resumeR := none, resumeAcc := none }).cancelResume x.resumeAcc
  | _ => s

/-- A domain's teardown of effective milestone e is applied at its snapshot (R262). -/
def State.applyTeardown (s : State) (d e : Nat) (discard : Bool) : State :=
  let us := s.grant.units.keysWhere (fun _ x => x.inst && x.dom == d)
  let fs := s.data.flows.keysWhere (fun _ x => x.inst && x.dom == d)
  let ts := s.pon.terms.keysWhere (fun _ x => x.act != .free && x.dom == d)
  let s := us.foldl (fun s u => s.shutUnit u e discard) s
  let s := fs.foldl (fun s f => s.shutFlow f e discard) s
  let s := ts.foldl (fun s k => s.shutTerm (k / 512) (k % 512) e discard .removed) s
  s.setDom d { s.domE d with drainE := some e, discard := discard }

/-- Forwarding entries of a domain are flushed (R262). -/
def State.flushDomain (s : State) (d : Nat) : State :=
  (List.range 8).foldl (fun (s : State) (p : Nat) => s.setPipe p ((s.pipe p).keepIf (fun e => e.dom != d))) s

/-- A domain enters DRAINING at milestone E (R262, R366). -/
def State.domainMilestone (s : State) (d : Nat) : State :=
  let x := s.domE d
  if x.road == .enabled && s.come x.drainE then
    let s := s.setDom d { x with road := .draining, teardownE := none }
    let s := (s.cph.sas.keysWhere (fun _ a => a.inst && a.dom == d && a.st == saEnabled)).foldl
      (fun s k => s.setSa k { s.sa k with st := saStopped }) s
    (s.flushDomain d).freeQueues true (fun i => i / 8 % 64 == d)
  else s

/-- A domain holds no terminal, unit or flow any more (R55). -/
def State.domainEmpty (s : State) (d : Nat) : Bool :=
  !s.grant.units.any (fun e => e.2.inst && e.2.dom == d) && !s.data.flows.any (fun e => e.2.inst && e.2.dom == d) &&
  !s.pon.terms.any (fun e => e.2.act != .free && e.2.dom == d)

/-- End of a domain's drain (R55, R262, R341). -/
def State.domainDrainEnd (s : State) (d : Nat) : State :=
  let x := s.domE d
  if !x.road.busy || !s.come x.drainE || !s.domainEmpty d then s
  else
    let s := (s.cph.sas.keysWhere (fun _ a => a.inst && a.dom == d)).foldl (fun s k => s.zeroSa k) s
    let s := s.flushDomain d
    let s := s.modData (fun e => { e with
      classQ := e.classQ.keep (fun i => i / 8 % 64 != d), classS := e.classS.keep (fun i => i / 8 % 64 != d)
      domN := e.domN.keep (fun i => i % 64 != d), domC := e.domC.keep (fun i => i % 64 != d) })
    let y : Dom := if x.road == .resuming then { road := .resuming, quota := x.newQuota.getD {}, resumeAcc := x.resumeAcc, resumeR := x.resumeR }
      else {}
    (s.setDom d y).raise evDrainDone (drainArg 5 d)

/-- At the commit point of roadbook r, reopened domains whose drain has ended are ENABLED (R59, R262). -/
def State.domainResume (s : State) (r : Nat) : State :=
  (s.doms.keysWhere (fun _ x => x.road == .resuming && x.drainE.isNone && reached x.resumeR r)).foldl (fun s d =>
    let x := s.domE d
    let s := s.setDom d { x with road := .enabled, resumeR := none, resumeAcc := none }
    match x.resumeAcc with
    | some a => s.complete a { status := stOk, msc := some r }
    | none => s) s

/-! Meanings. -/

/-- OPEN_DOMAIN. -/
def execOpenDomain (c : Desc) (s : State) : Answer := kept s (runCmd infoOpenDomain bodyOpenDomain c s)
/-- TEARDOWN_DOMAIN. -/
def execTeardownDomain (c : Desc) (s : State) : Answer := kept s (runCmd infoTeardownDomain bodyTeardownDomain c s)

/-- A tree pair that TREE_UNPAIR has dissolved releases its protect resources when no drain of w runs (R420). -/
def State.unpairSettle (s : State) (w : Nat) : State :=
  match s.mgmt.pair.trees.get none w with
  | none => s
  | some p =>
    if p.unpair && !(s.sub (2 * w)).road.busy && !(s.sub (2 * w + 1)).road.busy then
      ((s.setTreePair w none).release (2 * p.p)).release (2 * p.p + 1)
    else s

/-- DRAIN_DONE (R55): index i is the sub-channel, 512 × sub-channel + terminal, unit, flow or domain. -/
def execDrainDone (k : ObjKind) (i : Nat) (s : State) : Answer :=
  kept s (match k with
    | .subch => (s.subDone i).unpairSettle (i / 2)
    | .term => s.termDrainEnd (i / 512) (i % 512)
    | .unit => s.unitDrainEnd i
    | .flow => s.flowDrainEnd i
    | .domain => s.domainDrainEnd i)

end Sys2Proof.Machine
end

