-- ==== Sys2Proof/Machine/Time.lean ====
section
/-! DEFINITION. Device time, the servo, steps, PTP, time of day and the clocks at the pins (R39, R370 to R392). -/

namespace Sys2Proof.Machine

/-- Change the time state. -/
def State.modTime (s : State) (f : TimeSt → TimeSt) : State := { s with time := f s.time }

/-- One interval and one hub cycle in units of 2⁻¹⁶ ns (R37, R371). -/
abbrev tickUnits : Nat := 32768
abbrev intervalUnits : Nat := 250000 * tickUnits

/-- One second in units of 2⁻¹⁶ ns (R370). -/
abbrev secUnits : Nat := 1000000000 * 65536

/-- Seconds, nanoseconds and fraction of a device time (R370). -/
def secOf (t : Nat) : Nat := t / secUnits
def nsOf (t : Nat) : Nat := t / 65536 % 1000000000
def fracOf (t : Nat) : Nat := t % 65536

/-- TIM counter k (R392). -/
def State.timCnt (s : State) (k : Nat) : State := s.add32 (timA (0x3C + 4 * k)) 1

/-- A recovery period that began before the generator counts from its first milestone (R118). -/
def State.rebaseRecovery (s : State) (m : Nat) : State :=
  if s.clk.running then s
  else
    { s with pon := { s.pon with subs := s.pon.subs.map (fun e =>
        (e.1, { e.2 with disc := { e.2.disc with recovery := e.2.disc.recovery.map (fun r => r + m) } })) } }

/-- The milestone generator starts (R37, R39): the count and the cycle follow device time, and the next
milestone is the first one. -/
def State.startGenerator (s : State) : State :=
  if s.clk.running || !s.time.valid then s
  else
    let s := s.rebaseRecovery (s.time.dev / intervalUnits)
    { s with clk := { s.clk with
        running := true, msc := s.time.dev / intervalUnits, cycle := s.time.dev % intervalUnits / tickUnits
        phase := .afterDelivery } }

/-! The servo (R375 to R377), in units of 2⁻²⁸ ppb. -/

/-- The largest correction, 20,000 ppb (R371). -/
abbrev freqMax : Int := 20000 * 2 ^ 28

/-- clamp of R375. -/
def clampF (x : Int) : Int := max (-freqMax) (min freqMax x)

/-- JUMP_LIMIT, HOLD_TIMEOUT, LOCK_COUNT and LOCK_THR with their limits (R392). -/
def State.jumpLimit (s : State) : Nat := max 100 (min 10000000 (s.fld (timA 0x24) 23 0))
def State.holdTimeout (s : State) : Nat := max 1 (s.fld (timA 0x28) 31 16)
def State.lockCount (s : State) : Nat := max 1 (s.fld (timA 0x28) 15 8)
def State.lockThr (s : State) : Nat := max 1 (s.fld (timA 0x28) 7 0)

/-- A number saturated to 32 bits two's complement, as a register value. -/
def satInt32 (x : Int) : Nat := (max (-(2 ^ 31)) (min (2 ^ 31 - 1) x) % 2 ^ 32).toNat

/-- The state of the servo after an applied offset (R376): the offset that ends FREERUN or HOLDOVER does not
itself count toward LOCK_COUNT. -/
def servoNext (x : TimeSt) (small : Bool) (count : Nat) : Servo × Nat :=
  match x.servo with
  | .freerun => (.acquiring, 0)
  | .holdover => (.acquiring, 0)
  | .locked => if small then (.locked, x.good) else (.acquiring, 0)
  | .acquiring =>
    if !small then (.acquiring, 0)
    else if count ≤ x.good + 1 then (.locked, 0)
    else (.acquiring, x.good + 1)

/-- No offset has been applied for HOLD_TIMEOUT, and the servo has not entered HOLDOVER yet (R376). -/
def State.holdDue (s : State) : Bool :=
  (s.time.servo == .acquiring || s.time.servo == .locked) && decide (s.time.lastApplied + s.holdTimeout * 2000000 ≤ s.clk.hubc)

/-- An offset written to OFFSET_IN, in 2⁻¹⁶ ns (R375 to R377). One in the cycle of the holdover timeout is applied, and
the state is ACQUIRING (R389). -/
def State.offsetIn (s : State) (o : Int) : State :=
  let x := s.time
  if (s.jumpLimit : Int) * 65536 < o.natAbs then
    let s := s.timCnt 1
    let due := match x.lastRefused with
      | none => true
      | some h => decide (h + 2000000000 ≤ s.clk.hubc)
    if due then
      (s.modTime (fun x => { x with lastRefused := some s.clk.hubc })).raise evTimeJumpRefused
        (min (o.natAbs / 65536) (2 ^ 32 - 1))
    else s
  else
    let kp := s.fld (timA 0x20) 31 16
    let ki := s.fld (timA 0x20) 15 0
    let integ0 := if x.servo = .holdover then x.freqHold else x.integ
    let integ := clampF (integ0 - ki * o)
    let small := decide (o.natAbs ≤ s.lockThr * 65536)
    match if s.holdDue then (.acquiring, 0) else servoNext x small s.lockCount with
    | (st, good) =>
      let locks := st == .locked && x.servo != .locked
      let s := s.modTime (fun x => { x with
        integ := integ, target := clampF (integ - 16 * kp * o), servo := st, good := good
        lastApplied := s.clk.hubc
        freqHold := if locks && !x.everLocked then x.freq else x.freqHold
        everLocked := x.everLocked || locks, lastOffset := o.tdiv 65536 })
      let s := (s.timCnt 0).setReg (timA 0x38) (BitVec.ofNat 64 (satInt32 (o.tdiv 65536)))
      let s := s.sample 5 0 (min (o.natAbs / 65536) (2 ^ 32 - 1))
      if locks then s.raise evTimeLocked 0 else s

/-- FREQ moves toward its target by at most 0.5 ppb at a milestone, and FREQ_HOLD is averaged while LOCKED
(R371, R377). -/
def State.servoMilestone (s : State) : State :=
  s.modTime (fun x =>
    let step : Int := 2 ^ 27
    let f := x.freq + max (-step) (min step (x.target - x.freq))
    { x with freq := f
             freqHold := if x.servo = .locked then x.freqHold + (f - x.freqHold) / 512000 else x.freqHold })

/-- Entry to HOLDOVER (R376, R377). -/
def State.holdover (s : State) : State :=
  (s.modTime (fun x => { x with
    servo := .holdover, good := 0, target := if x.everLocked then x.freqHold else x.freq })).raise evTimeHoldover 0

/-- No offset has been applied for HOLD_TIMEOUT (R376). -/
def State.holdoverTimeout (s : State) : State :=
  if s.holdDue then s.holdover else s

/-- TIME_NSF and TIME_SEC as registers (R392). -/
def State.timeNsf (s : State) : W64 :=
  BitVec.ofNat 64 (nsOf s.time.dev * 2 ^ 32 + fracOf s.time.dev * 2 ^ 16)

/-- A read of TIME_NSF latches TIME_SEC (R374). -/
def State.latchSec (s : State) : State :=
  s.modTime (fun x => { x with secLatch := some (BitVec.ofNat 64 (secOf x.dev % 2 ^ 48)) })

/-! Recovered clocks (R387). -/

/-- The configured port that lane l belongs to (R22, R502). -/
def State.portOfLane (s : State) (l : Nat) : Option Nat :=
  (s.mgmt.uports.filterMap (fun e => match e.2.cfg with
    | some (w, _, _) => if e.1 ≤ l - 384 ∧ l - 384 < e.1 + w ∧ 384 ≤ l ∧ l < 512 then some e.1 else none
    | none => none)).head?

/-- LANE_STATE.STATE of a lane (R510). -/
def State.laneSt (s : State) (l : Nat) : Nat := s.fld (lneA l 4) 2 0

/-- RCLK_CFG k lets the output run: enabled, a legal lane, the lane UP with its port's link up (R387). -/
def State.rclkOk (s : State) (k : Nat) : Bool :=
  let a := timA (0x70 + 4 * k)
  let l := s.fld a 9 0
  s.bit a 31 && (decide (384 ≤ l ∧ l < 512) || l == 515) && s.laneSt l == 4 &&
    (match s.portOfLane l with
     | none => l == 515
     | some u => (s.uport u).link)

/-- Squelch an output whose conditions have ceased to hold (R387). -/
def State.rclkCheck (s : State) (k : Nat) : State :=
  if s.rclkOk k || s.bit (timA (0x70 + 4 * k)) 29 then s
  else ((s.setBit (timA (0x70 + 4 * k)) 29 true).timCnt 4).raise evRclkSquelch k

/-- Both outputs. -/
def State.rclkCheckAll (s : State) : State := (s.rclkCheck 0).rclkCheck 1

/-- A squelched output resumes once its lane has held lock for 10 ms (R387). -/
def State.rclkResume (s : State) (k : Nat) : State :=
  if 2 ≤ k then s
  else
    let a := timA (0x70 + 4 * k)
    if s.bit a 29 && s.rclkOk k &&
        decide ((s.mgmt.lanes.get {} (s.fld a 9 0)).upAt + 20000000 ≤ s.clk.hubc) then s.setBit a 29 false
    else s

/-! Steps (R379). -/

/-- SET_TIME may execute (R39, R379). -/
def State.stepAllowed (s : State) : Bool :=
  !s.time.valid || !s.clk.running ||
    (s.pon.subs.all (fun e => e.2.road == .disabled) && s.pon.treeDrain.isEmpty && s.deferred.isEmpty &&
      s.data.ports.all (fun e => e.2.pend.isNone))

/-- The current interval is abandoned (R379): no plan, no roadbook under construction. -/
def State.abandonInterval (s : State) : State :=
  { s with
    grant := { s.grant with
      groups := s.grant.groups.mapAll (fun _ => {}) (fun _ g => { g with planned := [] })
      ctxs := s.grant.ctxs.filter (fun e => e.2.entry != .plan) }
    pon := { s.pon with
      recPending := none
      subs := s.pon.subs.mapAll Sub.dflt (fun _ x => { x with built := none, accepted := false }) } }

/-- The step of SET_TIME to a device time (R360, R373, R379). The answer gives the first milestone after it. -/
def State.setTime (s : State) (t : Nat) : Nat × State :=
  let m0 := t / intervalUnits + 1
  let back := decide (m0 < s.clk.msc + 1) || (s.time.valid && decide (m0 < s.time.dev / intervalUnits + 1))
  let s := (s.rebaseRecovery (m0 - 1)).abandonInterval
  let s := { s with
    clk := { s.clk with running := true, msc := m0 - 1, cycle := t % intervalUnits / tickUnits, phase := .afterDelivery }
    grant := { s.grant with hints := [], hintQ := [], hintView := [] }
    cph := if back then { s.cph with slots := s.cph.slots.mapAll (fun _ => {}) (fun _ x => { x with key := none }) } else s.cph
    time := { s.time with dev := t, valid := true, kept := false, servo := .acquiring, good := 0
                          lastApplied := s.clk.hubc, startWait := false } }
  (m0, (s.timCnt 3).raise evTimeStepped (m0 % 2 ^ 32))

/-- SET_TIME (R379, R390). -/
def infoSetTime : CmdInfo :=
  { op := 0x0B01
    args := fun c => decide (c.n1 < 2 ^ 16) && decide (c.n2 < 1000000000) && decide (c.n3 < 2 ^ 16) && c.zeroFrom 4 }

def bodySetTime : Body := fun rp c s =>
  match rp with
  | some _ => ok s
  | none =>
    if !s.stepAllowed then bad stState s
    else
      match s.setTime ((c.n0 + 2 ^ 32 * c.n1) * secUnits + c.n2 * 65536 + c.n3) with
      | (m0, s) => (.fin { status := stOk, msc := some m0 }, s)

/-! PTP (R380 to R383). -/

/-- The management port in this chapter's commands (R380). -/
abbrev mgmtPort : Nat := 128

/-- A port of R390: the management port, or the first lane of a configured port. -/
def State.ptpPortOk (s : State) (u : Nat) : Bool := u == mgmtPort || (decide (u < 128) && (s.uport u).cfg.isSome)

/-- SET_PTP_PORT (R382, R390). -/
def infoSetPtpPort : CmdInfo :=
  { op := 0x0B02, args := fun c => decide (c.n0 ≤ 128) && decide (c.n1 < 4) && c.zeroFrom 2 }

def bodySetPtpPort : Body := fun _ c s =>
  if !s.ptpPortOk c.n0 then bad stBadArg s
  else ok (s.modTime (fun x => { x with ptpPorts := x.ptpPorts.set {} c.n0 ⟨c.n1 % 2 == 1, c.n1 / 2 == 1⟩ }))

/-- BIND_PTP_RX (R382, R390). -/
def infoBindPtpRx : CmdInfo :=
  { op := 0x0B03, args := fun c => decide (c.n0 < 64) && decide (4 ≤ c.n1 ∧ c.n1 < 8) && c.zeroFrom 2 }

def bodyBindPtpRx : Body := fun _ c s => ok (s.modTime (fun x => { x with ptpRx := some (c.n0, c.n1) }))

/-- The link of a PTP port is up (R383). -/
def State.ptpUp (s : State) (u : Nat) : Bool := if u = mgmtPort then s.laneSt 515 == 4 else s.portUp u

/-- SEND_PTP (R383, R390): it completes once the frame has left. -/
def infoSendPtp : CmdInfo :=
  { op := 0x0B04, tx := true, buf := .inp (fun n => decide (60 ≤ n ∧ n ≤ 1514))
    args := fun c => decide (c.n0 ≤ 128) && decide (c.n1 < 2) && decide (c.n2 < 2 ^ 16) && c.zeroFrom 3
      && (c.n1 == 0 || decide (c.n2 + 43 < c.bufLen)) }

def bodySendPtp : Body := fun rp c s =>
  match rp with
  | some _ => ok s
  | none =>
    if !s.ptpPortOk c.n0 then bad stBadArg s
    else if !s.ptpUp c.n0 then bad stState s
    else (.opened, s.modTime (fun x => { x with ptpTx := x.ptpTx ++ [(c.acc, c.n0, c.n1 == 1, c.n2, c.inp)] }))

/-- `n` bytes of `x`, most significant first. -/
def beBytes (n x : Nat) : List Nat := (leBytes n x).reverse

/-- A 16-bit word of a frame, most significant byte first. -/
def be16 (l : List Nat) (o : Nat) : Nat := l.getD o 0 * 256 + l.getD (o + 1) 0

/-- Ones' complement sum of 16-bit words, most significant byte first. -/
def sum16 (l : List Nat) : Nat :=
  match l with
  | [] => 0
  | [a] => a * 256
  | a :: b :: r => let n := a * 256 + b + sum16 r
                   if n < 65536 then n else n - 65535

/-- The UDP checksum after a one-step insertion (R383): zero for IPv4, recomputed for IPv6; other frames are
unchanged. -/
def fixChecksum (l : List Nat) : List Nat :=
  let l3 := if be16 l 12 = 0x8100 ∨ be16 l 12 = 0x88A8 then 18 else 14
  let ty := be16 l (l3 - 2)
  if ty = 0x0800 then
    let u := l3 + 4 * (l.getD l3 0 % 16)
    if l.getD (l3 + 9) 0 = 17 then putBytes l (u + 6) [0, 0] else l
  else if ty = 0x86DD ∧ l.getD (l3 + 6) 0 = 17 then
    let u := l3 + 40
    let n := be16 l (u + 4)
    let z := putBytes l (u + 6) [0, 0]
    let sum := sum16 (sliceB z (l3 + 8) 32 ++ beBytes 4 n ++ beBytes 4 17 ++ sliceB z u n)
    let c := 65535 - sum
    putBytes z (u + 6) (beBytes 2 (if c = 0 then 65535 else c))
  else l

/-- One-step insertion of the egress timestamp t (R383). -/
def oneStep (l : List Nat) (o t : Nat) : List Nat :=
  fixChecksum (putBytes l (o + 34) (beBytes 6 (secOf t) ++ beBytes 4 (nsOf t)))

/-- Interface code of the frames that a PTP port sends, in `Out.side`. -/
abbrev sidePtp : Nat := 0x100

/-- A frame for port u, and whether it leaves: under MACsec, as every frame of the port (R362, R363, R383). -/
def State.ptpSent (s : State) (u : Nat) (bytes : List Nat) : Bool × State :=
  match if u = mgmtPort then (true, s) else s.secSend u with
  | (false, s) => (false, s)
  | (true, s) =>
    let s := if u = mgmtPort then s
      else (s.add64 (uplA u (0x10 + 8 * 7)) 1).add64 (uplA u (0x10 + 8 * 8)) bytes.length
    (true, s.emit (.side (sidePtp + u) bytes))

/-- PTP_FRAME_EGRESS (R381, R383): the frame of command `acc` leaves; frames of one port leave in acceptance
order. `ts` places the edge within the hub cycle. DEDUCED: a frame that MACsec drops completes with STATE. -/
def State.ptpEgress (s : State) (acc ts : Nat) : State :=
  match s.time.ptpTx.find? (fun e => e.1 == acc) with
  | none => s
  | some (_, u, one, o, l) =>
    if (s.time.ptpTx.find? (fun e => e.2.1 == u)).map (fun e => e.1) != some acc then s
    else
      let s := s.modTime (fun x => { x with ptpTx := x.ptpTx.filter (fun e => e.1 != acc) })
      if !s.ptpUp u then s.complete acc { status := stState }
      else
        let t := s.time.dev + ts % tickUnits
        match s.ptpSent u (if one then oneStep l o t else l) with
        | (false, s) => s.complete acc { status := stState }
        | (true, s) => s.complete acc { status := stOk, r0 := nsOf t, r1 := fracOf t * 2 ^ 16 + secOf t % 2 ^ 16 }

/-- PTP_FRAME_TRAP (R381, R382); the frame brings the place of its edge within the hub cycle (R371). -/
def State.ptpTrap (s : State) (u : Nat) (f : PtpFrame) : State :=
  let p := s.time.ptpPorts.get {} u
  if !s.ptpPortOk u || !s.ptpUp u || !(if f.esmc then p.esmc else p.trap) then s
  else
    let t := s.time.dev + f.ts % tickUnits
    let pre := leBytes 6 (secOf t) ++ leBytes 2 (fracOf t) ++ leBytes 4 (nsOf t) ++ [u, b2n f.esmc, 0, 0]
    match s.receive 0 s.time.ptpRx (2 * 2 ^ 18 + u) (pre ++ f.bytes) with
    | (true, s) => s
    | (false, s) => s.timCnt 2

/-! Time of day (R384). -/

/-- COMPUTE_TOD (R384, R390). -/
def infoComputeTod : CmdInfo :=
  { op := 0x0B05, query := true, buf := .out (fun _ => 32), args := fun c => decide (c.n0 < 384) && c.zeroFrom 3 }

/-- T_SEND of a sub-channel's frame n, in 2⁻¹⁶ ns (R384, R392). -/
def State.tSend (s : State) (sc n : Nat) : Nat :=
  n * intervalUnits + 4096 * (if sc % 2 = 0 then s.fld (timA 0x54) 31 16 else s.fld (timA 0x54) 15 0)

/-- TEQD of a sub-channel in ns (R384). -/
def State.teqd (s : State) (sc : Nat) : Nat := (s.len sc - 1) * 125000 - 35000

/-- The 32-byte record of R384. -/
def State.todBytes (s : State) (sc n : Nat) : List Nat :=
  let t := s.tSend sc n
  leBytes 8 n ++ leBytes 6 (secOf t) ++ leBytes 2 (fracOf t) ++ leBytes 4 (nsOf t) ++ leBytes 4 (s.teqd sc)
    ++ leBytes 2 sc ++ [s.len sc, 0, 0, 0, 0, 0]

def bodyComputeTod : Body := fun _ c s =>
  let n := c.n1 + 2 ^ 32 * c.n2
  if n < s.clk.msc + 2 ∨ s.clk.msc + 2 ^ 24 < n then bad stBadArg s
  else ok (s.outBuf c (s.todBytes c.n0 n))

/-! Pins (R388). Codes of `Out.pin`: 0 PPS_OUT, 1 ALERT_N, 2 THERM_CRIT_N. -/

abbrev pinPpsOut : Nat := 0
abbrev pinAlert : Nat := 1
abbrev pinThermCrit : Nat := 2

/-- PPS_OUT pulses in the hub cycle that holds a whole second (R388). -/
def State.ppsOut (s : State) : State :=
  if s.time.valid && s.bit (timA 0x58) 0 && decide (s.time.dev % secUnits < tickUnits) then s.emit (.pin pinPpsOut 1) else s

/-- A rising edge on PPS_IN (R388). The stamp is interpolated within the hub cycle (R371); where in the cycle the edge
falls comes from outside, and a free value stands for it (DESIGN CHOICE, log entry 148). -/
def State.ppsIn (s : State) : State :=
  if s.bit (timA 0x58) 1 then
    let (w, s) := s.draw
    let t := s.time.dev + w.toNat % tickUnits
    s.setReg (timA 0x60) (BitVec.ofNat 64 (nsOf t * 2 ^ 32 + fracOf t * 2 ^ 16 + secOf t % 2 ^ 16))
  else s

/-- The wait for SET_TIME after a cold start ends: time is taken from the keeper (R373). -/
def State.startWaitEnd (s : State) : State :=
  if s.time.startWait && decide (s.fld (timA 0x2C) 15 0 * 2000000 ≤ s.clk.hubc) then
    let s := s.modTime (fun x => { x with startWait := false })
    if 3 ≤ s.stage ∧ s.stage < 7 then s.startGenerator else s
  else s

/-- Writes reach the blocks from stage 6 (R522). -/
def State.writable (s : State) : Bool := s.stage == 6

/-! Meanings. -/

/-- SET_TIME. -/
def execSetTime (c : Desc) (s : State) : Answer := kept s (runCmd infoSetTime bodySetTime c s)

/-- SET_PTP_PORT. -/
def execSetPtpPort (c : Desc) (s : State) : Answer := kept s (runCmd infoSetPtpPort bodySetPtpPort c s)

/-- BIND_PTP_RX. -/
def execBindPtpRx (c : Desc) (s : State) : Answer := kept s (runCmd infoBindPtpRx bodyBindPtpRx c s)

/-- SEND_PTP. -/
def execSendPtp (c : Desc) (s : State) : Answer := kept s (runCmd infoSendPtp bodySendPtp c s)

/-- COMPUTE_TOD. -/
def execComputeTod (c : Desc) (s : State) : Answer := kept s (runCmd infoComputeTod bodyComputeTod c s)

/-- PTP_FRAME_EGRESS. -/
def execPtpFrameEgress (acc ts : Nat) (s : State) : Answer := kept s (s.ptpEgress acc ts)

/-- PTP_FRAME_TRAP. -/
def execPtpFrameTrap (u : Nat) (f : PtpFrame) (s : State) : Answer := kept s (s.ptpTrap u f)

/-- TIME_NSF_READ (R374): an 8-byte read of TIM.TIME_NSF by the PF. -/
def execTimeNsfRead (s : State) : Answer :=
  let t := s.unlatch (timA 0)
  kept s (if s.stage < 3 || s.stage == 7 then t.emit (.readData 0 (timA 0) 0)
    else t.latchSec.emit (.readData 0 (timA 0) s.timeNsf))

/-- OFFSET_IN (R375): a write of TIM.OFFSET_IN. -/
def execOffsetIn (w : W64) (s : State) : Answer := 
  kept s (if s.writable then (s.unlatch (timA 0x18)).offsetIn w.toInt else s.unlatch (timA 0x18))

/-- HOLDOVER_TIMEOUT (R376). -/
def execHoldoverTimeout (s : State) : Answer := kept s s.holdoverTimeout

/-- START_WAIT_EXPIRY (R373). -/
def execStartWaitExpiry (s : State) : Answer := kept s s.startWaitEnd

/-- PPS_OUT (R388). -/
def execPpsOut (s : State) : Answer := kept s s.ppsOut

/-- PPS_IN (R388). -/
def execPpsIn (s : State) : Answer := kept s s.ppsIn

/-- RCLK_RESUME (R387). -/
def execRclkResume (k : Nat) (s : State) : Answer := kept s (s.rclkResume k)

end Sys2Proof.Machine
end

