-- ==== Sys2Proof/Machine/Lanes.lean ====
section
/-! DEFINITION. Serial lanes and uplink ports (R488 to R510), the retries and repairs of die-to-die modules (R25)
and the operations 0x09 to 0x0B of family 0x05. -/

namespace Sys2Proof.Machine

/-! Lane states (R510). -/

abbrev lnIdle : Nat := 1
abbrev lnWaking : Nat := 2
abbrev lnTraining : Nat := 3
abbrev lnUp : Nat := 4
abbrev lnTest : Nat := 5
abbrev lnLost : Nat := 6

/-- Set LANE_STATE.STATE. -/
def State.setLaneSt (s : State) (l x : Nat) : State := s.setFld (lneA l 4) 2 0 x

/-- A lane goes to a state in which it is neither locked nor aligned; MARGIN_LOW stays until the margins have
stood (R495). -/
def State.laneTo (s : State) (l x : Nat) : State :=
  s.setReg (lneA l 4) (BitVec.ofNat 64 (32 * b2n (s.bit (lneA l 4) 5) + x))

/-- Hidden state of a lane. -/
def State.lane (s : State) (l : Nat) : Lane := s.mgmt.lanes.get {} l

/-- Change the hidden state of a lane. -/
def State.modLane (s : State) (l : Nat) (f : Lane → Lane) : State :=
  { s with mgmt := { s.mgmt with lanes := s.mgmt.lanes.set {} l (f (s.lane l)) } }

/-- Change the pair's state. -/
def State.modPair (s : State) (f : Pair → Pair) : State :=
  { s with mgmt := { s.mgmt with pair := f s.mgmt.pair } }

/-- LANE_CNT k of a lane (R510). -/
def State.laneCnt (s : State) (l k : Nat) : State := s.add32 (lneA l (0x30 + 4 * k)) 1

/-- A continuous lane: every lane but those of the PON sub-channels (R488). -/
def continuous (l : Nat) : Bool := decide (384 ≤ l ∧ l < 516)

/-- The lanes may leave idle: from start-up stage 5, no thermal trip (R433, R492, R521). -/
def State.lanesOn (s : State) : Bool := decide (5 ≤ s.stage ∧ s.stage < 7) && !s.mgmt.sens.trip

/-- Lanes of port u at a width. -/
def portLanes (u w : Nat) : List Nat := (List.range w).map (fun i => 384 + u + i)

/-- A lane of the port is LOST (R497). -/
def State.portLost (s : State) (u w : Nat) : Bool := (portLanes u w).any (fun l => s.laneSt l == lnLost)

/-- No downstream lane is lit: STANDBY or FENCED, before the first frame of a takeover, or under the hold
(R393, R410, R411, R467). -/
def State.darkened (s : State) : Bool :=
  s.mgmt.pair.role == .standby || s.mgmt.pair.role == .fenced || s.mgmt.pwr.held ||
    (match s.mgmt.pair.takeover with
     | some m => decide (s.clk.msc < m)
     | none => false)

/-- The lane's owner wants it out of electrical idle (R492, R497). -/
def State.laneWanted (s : State) (l : Nat) : Bool :=
  if !s.lanesOn then false
  else if l < 384 then
    !s.darkened && match s.pairOf (l / 2) with
    | none => (s.sub l).lit
    | some (w, p) => (s.sub (2 * w + l % 2)).lit && (p.p == l / 2) == (p.onProtect && decide (p.fromMsc ≤ s.clk.msc))
  else if l < 512 then
    match s.portOfLane l with
    | none => false
    | some u => (s.uport u).road != .disabled && !s.portLost u (((s.uport u).cfg.map (fun c => c.1)).getD 0)
  else if l < 514 then s.mgmt.pair.st != .unpaired
  else decide (l < 516)

/-! The sync link (R396, R491). -/

/-- Bit of a sync lane in the lanes in use. -/
def syncBit (l : Nat) : BitVec 2 := if l = 512 then 1#2 else 2#2

/-- A sync lane leaves the link. -/
def State.syncOut (s : State) (l : Nat) : State :=
  let p := s.mgmt.pair
  if p.lanes &&& syncBit l = 0#2 then s
  else
    let left := p.lanes &&& ~~~(syncBit l)
    let s := s.modPair (fun p => { p with lanes := left, downAt := if left = 0#2 then some s.clk.hubc else p.downAt })
    if left = 0#2 then s else s.raise evSyncLaneDegraded l

/-- A sync lane joins the link. -/
def State.syncIn (s : State) (l : Nat) : State :=
  if s.mgmt.pair.st = .unpaired then s
  else s.modPair (fun p => { p with lanes := p.lanes ||| syncBit l, downAt := none })

/-! The link of a port (R489, R503). -/

/-- Every lane of the port is UP and deskewed, so that the RS-FEC is aligned. -/
def State.linkNow (s : State) (u : Nat) : Bool :=
  match (s.uport u).cfg with
  | none => false
  | some (w, _, _) =>
    (s.uport u).road != .disabled && !s.dieLost (4 + u / 64) && (portLanes u w).all (fun l => s.laneSt l == lnUp && s.bit (lneA l 4) 4)

/-- Delays behind the earliest lane, measured when a group deskews (R491): values the spec leaves open. -/
def State.measureSkew (s : State) (ls : List Nat) : State :=
  ls.foldl (fun s l => match s.draw with
    | (v, s) => s.setFld (lneA l 0x28) 15 0 v.toNat) s

/-- LINK follows the lanes (R503, R506, R507). -/
def State.portLinkEval (s : State) (u : Nat) : State :=
  let x := s.uport u
  let now := s.linkNow u
  if x.link = now then s
  else
    let s := (s.setUport u { x with link := now }).raise evPortLink (u + 256 * b2n now)
    if now then s.measureSkew (portLanes u ((x.cfg.map (fun c => c.1)).getD 0))
    else (s.add64 (uplA u (0x10 + 8 * 11)) 1).rclkCheckAll

/-- The link of the port of lane l follows its lanes; the recovered clocks follow the lane. -/
def State.laneChanged (s : State) (l : Nat) : State :=
  let s := match s.portOfLane l with
    | none => s
    | some u => s.portLinkEval u
  s.rclkCheckAll

/-! Idle (R492, R508). -/

/-- On entry to idle, and at each millisecond while UP, the receive coefficients are saved (R492). -/
def State.saveCoef (s : State) (l : Nat) : State := s.setReg (lneA l 0x20) (s.reg (lneA l 0x18))

/-- A lane enters electrical idle (R492, R508): LOST and TEST lanes stay as they are. -/
def State.idleLane (s : State) (l : Nat) : State :=
  let st := s.laneSt l
  if st = lnWaking ∨ st = lnTraining ∨ st = lnUp then
    let s := if continuous l && st == lnUp then s.saveCoef l else s
    let s := s.laneTo l lnIdle
    let s := s.modLane l (fun x => { x with low := 0, good := 0, fromExit := false })
    (if l = 512 ∨ l = 513 then s.syncOut l else s).laneChanged l
  else s

/-- A lane whose owner no longer wants it out of idle enters idle. -/
def State.settleLane (s : State) (l : Nat) : State := if s.laneWanted l then s else s.idleLane l

/-- Every lane enters idle (R433, R515, R524). -/
def State.idleAll (s : State) : State := (List.range 516).foldl (fun s l => s.idleLane l) s

/-! Pattern generator and checker (R498 to R501). -/

/-- The checker's counts since the latest look: bits compared, bits in error and failed emulated bursts depend
on what comes back over the loop, which the spec leaves open. -/
def State.chkCount (s : State) (l : Nat) : State :=
  let s := if s.bit (lneA l 0x58) 16 then
      match s.draw with
      | (a, s) => match s.draw with
        | (b, s) => (s.add64 (lneA l 0x60) a.toNat).add64 (lneA l 0x68) b.toNat
    else s
  if s.laneSt l = lnTest ∧ s.fld (lneA l 0x50) 2 0 = 6 then
    match s.draw with
    | (v, s) => s.add32 (lneA l 0x78) v.toNat
  else s

/-- A running test ends (R501): the checker counters stay as they stood. -/
def State.endTest (s : State) (l : Nat) : State :=
  if s.laneSt l = lnTest then
    let s := s.chkCount l
    let s := ((s.setReg (lneA l 0x50) 0).setBit (lneA l 0x58) 16 false).laneTo l lnIdle
    s.modLane l (fun x => { x with inject := 0, spacing := 0 })
  else s

/-- The lane's owner is out of service (R498). -/
def State.testable (s : State) (l : Nat) : Bool :=
  if l < 384 then (s.sub l).road == .disabled
  else if l < 512 then
    match s.portOfLane l with
    | none => true
    | some u => (s.uport u).road == .disabled
  else if l < 514 then s.mgmt.pair.st == .unpaired
  else if l = 514 then s.mgmt.pair.st == .unpaired && !s.bit (prtA 0) 10
  else !s.bit (mgtA 0x4) 1

/-- TEST_CTL as a write sets it: reserved LOOP and PATTERN values are taken as 0, and so is the burst emulator
outside the PON lanes (R510). -/
def testValue (l w : Nat) : Nat :=
  let p := w % 8
  let lp := w / 16 % 4
  (if p = 7 ∨ (p = 6 ∧ 384 ≤ l) then 0 else p) + 16 * (if lp = 3 then 0 else lp) + w / 64 % 4 * 64

/-- A write of TEST_CTL (R498, R501). -/
def State.testCtl (s : State) (l w : Nat) : State :=
  if 516 ≤ l then s
  else if w % 256 / 16 * 16 + w % 8 = 0 then (s.endTest l).setReg (lneA l 0x50) 0
  else if !s.testable l || s.laneSt l == lnLost then s.setBit (lneA l 0x50) 8 true
  else
    let s := (s.idleLane l).chkCount l
    let s := ((s.setReg (lneA l 0x50) (BitVec.ofNat 64 (testValue l w))).setBit (lneA l 0x58) 16 false)
    s.laneTo l (if testValue l w = 0 then lnIdle else lnTest)

/-- A write of INJECT (R500, R510): it replaces an earlier injection. -/
def State.inject (s : State) (l w : Nat) : State :=
  if 516 ≤ l || !s.bit (lneA l 0x50) 6 then s
  else s.modLane l (fun x => { x with inject := w % 2 ^ 16, spacing := max 1 (w / 2 ^ 16 % 256) })

/-- CHECKER_LOCK (R499). -/
def State.chkLock (s : State) (l : Nat) : State :=
  if decide (l < 516) && s.laneSt l == lnTest && s.bit (lneA l 0x50) 7 then s.setBit (lneA l 0x58) 16 true else s

/-- CHECKER_LOCK_LOSS (R499). -/
def State.chkLoss (s : State) (l : Nat) : State :=
  if decide (l < 516) && s.bit (lneA l 0x58) 16 then
    ((s.chkCount l).setBit (lneA l 0x58) 16 false).addHeld (lneA l 0x58) 15 0 1
  else s

/-! Exit from idle, training, margins (R493 to R495). -/

/-- LANE_IDLE_EXIT (R493): a lane that its owner wants leaves idle. -/
def State.laneExit (s : State) (l : Nat) : State :=
  if decide (l < 516) && s.laneSt l == lnIdle && s.laneWanted l then
    let s := s.laneCnt l 5
    if continuous l then s.setLaneSt l lnWaking
    else (s.setLaneSt l lnUp).modLane l (fun x => { x with upAt := s.clk.hubc })
  else s

/-- LANE_SIGNAL_DETECT (R493): the receiver loads STORED_COEF, or trains fully when there are none. -/
def State.laneSignal (s : State) (l : Nat) : State :=
  if decide (l < 516) && s.laneSt l == lnWaking && !(s.lane l).fromExit then
    if s.reg (lneA l 0x20) = 0 then s.setLaneSt l lnTraining
    else
      let s := (s.setReg (lneA l 0x18) (s.reg (lneA l 0x20))).setBit (lneA l 4) 3 true
      s.modLane l (fun x => { x with fromExit := true })
  else s

/-- The lane is UP: locked, and deskewed where its kind has alignment markers (R490, R491). -/
def State.laneUp (s : State) (l : Nat) : State :=
  let s := (s.setLaneSt l lnUp).modLane l (fun x => { x with upAt := s.clk.hubc, low := 0, good := 0, fromExit := false })
  if continuous l then
    let s := s.setBit (lneA l 4) 3 true
    let s := if l < 514 then s.setBit (lneA l 4) 4 true else s
    let s := if (l = 512 ∨ l = 513) ∧ s.mgmt.pair.lanes = 0#2 then s.syncIn l else s
    s.laneChanged l
  else s

/-- LANE_TRAINING_DONE (R493): a full training ends with these coefficients. -/
def State.laneTrained (s : State) (l : Nat) (coef : W64) : State :=
  if decide (l < 516) && s.laneSt l == lnTraining then
    let s := if continuous l then (s.setReg (lneA l 0x18) coef).setReg (lneA l 0x20) coef else s
    s.laneUp l
  else s

/-- MARGIN_CFG of a lane: H_THR, V_THR, COUNT (R510). -/
def State.hThr (s : State) (l : Nat) : Nat := s.fld (lneA l 0xC) 23 16
def State.vThr (s : State) (l : Nat) : Nat := s.fld (lneA l 0xC) 15 8
def State.marginCount (s : State) (l : Nat) : Nat := max 1 (s.fld (lneA l 0xC) 7 0)

/-- A measurement enters MARGIN and MARGIN_MIN (R510). -/
def State.recordMargin (s : State) (l v h : Nat) : State :=
  let v := min v 0xFFFF
  let h := min h 0xFFFF
  let a := lneA l 0x14
  let first := (s.lane l).minRead
  let s := s.setReg (lneA l 0x10) (BitVec.ofNat 64 (h * 2 ^ 16 + v))
  let s := s.setReg a (BitVec.ofNat 64 (if first then h * 2 ^ 16 + v
    else min h (s.fld a 31 16) * 2 ^ 16 + min v (s.fld a 15 0)))
  s.modLane l (fun x => { x with minRead := false })

/-- Margin alarms of an UP lane (R495). -/
def State.judgeMargin (s : State) (l v h : Nat) : State :=
  let x := s.lane l
  let n := s.marginCount l
  let low := decide (v < s.vThr l ∨ h < s.hThr l)
  let good := decide (s.vThr l + 2 ≤ v ∧ s.hThr l + 4 ≤ h)
  let y := { x with low := if low then x.low + 1 else 0, good := if good then x.good + 1 else 0 }
  let t := s.modLane l (fun _ => y)
  if s.bit (lneA l 4) 5 then
    if n ≤ y.good then t.setBit (lneA l 4) 5 false else t
  else if n ≤ y.low then
    ((t.setBit (lneA l 4) 5 true).laneCnt l 1).raiseOnce evLaneMargin l l
  else t

/-- MARGIN_MEASUREMENT (R493, R495): v in mV, h in 1/256 UI, each the worst over the lane's eyes. -/
def State.measure (s : State) (l v h : Nat) : State :=
  if !continuous l then s
  else if s.laneSt l = lnWaking ∧ (s.lane l).fromExit then
    let s := s.recordMargin l v h
    if s.vThr l ≤ v ∧ s.hThr l ≤ h then s.laneUp l
    else
      let s := (s.setLaneSt l lnTraining).modLane l (fun x => { x with fromExit := false })
      ((s.setBit (lneA l 4) 3 false).laneCnt l 0).raise evLaneRetrain l
  else if s.laneSt l = lnUp then
    match s.draw with
    | (c, s) =>
      let s := ((s.setReg (lneA l 0x18) c).saveCoef l).recordMargin l v h
      s.judgeMargin l v h
  else s

/-- LANE_DOWN (R490, R495, R519): loss of alignment of a witness or management lane, or loss of lock. -/
def State.laneDown (s : State) (l : Nat) : State :=
  if !(decide (l < 516) && s.laneSt l == lnUp) then s
  else if 514 ≤ l ∧ s.bit (lneA l 4) 4 = true then
    ((s.setBit (lneA l 4) 4 false).add32 (lneA l (0x30 + 4 * 3)) 4).raiseOnce evLaneDown l l
  else
    let s := (s.laneTo l lnTraining).modLane l (fun x => { x with low := 0, good := 0 })
    let s := (s.laneCnt l 2).raiseOnce evLaneDown l l
    (if l = 512 ∨ l = 513 then s.syncOut l else s).laneChanged l

/-- COMMA_ALIGNED (R490). -/
def State.commaAligned (s : State) (l : Nat) : State :=
  if (l = 514 ∨ l = 515) ∧ s.laneSt l = lnUp then s.setBit (lneA l 4) 4 true else s

/-- The arbiter can no longer be reached (R397). -/
def State.arbiterLost (s : State) : State :=
  if s.mgmt.pair.arbOk then (s.modPair (fun p => { p with arbOk := false })).raise evArbiterLost 0 else s

/-- LANE_LOST (R496, R497). -/
def State.laneLost (s : State) (l : Nat) : State :=
  if !decide (l < 516) || s.laneSt l == lnLost then s
  else
    let s := s.endTest l
    let s := (s.laneTo l lnLost).modLane l (fun x => { x with low := 0, good := 0, fromExit := false })
    let s := s.raise evLaneLost l
    if l < 384 then s.outOfService l
    else if l < 512 then
      match s.portOfLane l with
      | none => s.rclkCheckAll
      | some u =>
        (portLanes u (((s.uport u).cfg.map (fun c => c.1)).getD 0)).foldl (fun s k => s.settleLane k) (s.laneChanged l)
    else if l < 514 then s.syncOut l
    else if l = 514 then s.arbiterLost
    else s.rclkCheckAll

/-- SYNC_LANE_RESTORE (R491): 1,000 consecutive markers inside the tolerance. -/
def State.syncRestore (s : State) (l : Nat) : State :=
  if (l = 512 ∨ l = 513) ∧ s.laneSt l = lnUp then (s.syncIn l).measureSkew [512, 513] else s

/-! Uplink ports (R502 to R505). -/

/-- CONFIG_PORT (R502, R505). -/
def infoConfigPort : CmdInfo :=
  { op := 0x0509
    args := fun c => decide (c.n0 < 2 ^ 16) && c.n0 / 128 % 2 == 0 && c.n0 / 1024 % 4 == 0 && c.n0 / 8192 % 4 == 0
      && decide (c.n1 < 2 ^ 14) && (c.n1 == 0 || decide (64 ≤ c.n1 ∧ c.n1 ≤ 9728)) && c.zeroFrom 2
      && c.n0 % 128 % 2 ^ (c.n0 / 256 % 4) == 0 }

/-- Configured ports that share a lane with the span of n lanes from port u. -/
def State.portsAt (s : State) (u n : Nat) : List Nat :=
  s.mgmt.uports.keysWhere (fun k x => match x.cfg with
    | some (w, _, _) => decide (k < u + n ∧ u < k + w)
    | none => false)

/-- A port configuration is removed: its class queues and domain nodes are gone (R273). A gate list whose switch is
pending still switches in at its time (R291). -/
def State.removePort (s : State) (u : Nat) : State :=
  let s := s.freeQueues true (fun i => i / 512 == u)
  (s.setUport u {}).modData (fun d => { d with
    classQ := d.classQ.keep (fun i => i / 512 != u), classS := d.classS.keep (fun i => i / 512 != u)
    domN := d.domN.keep (fun n => n / 64 != u), domC := d.domC.keep (fun n => n / 64 != u)
    ports := d.ports.set {} (512 + u) { pend := (d.ports.get {} (512 + u)).pend, pendAcc := (d.ports.get {} (512 + u)).pendAcc } })

def bodyConfigPort : Body := fun _ c s =>
  let u := c.n0 % 128
  let w := 2 ^ (c.n0 / 256 % 4)
  let old := s.portsAt u w
  if old.any (fun k => (s.uport k).road != .disabled) then bad stState s
  else if c.n0 / 2 ^ 15 = 1 then ok ((old.filter (· == u)).foldl (fun s k => s.removePort k) s)
  else
    let s := (old.filter (fun k => k != u || (((s.uport u).cfg.map (fun x => x.1)) != some w))).foldl (fun s k => s.removePort k) s
    let iface := c.n0 / 4096 % 2
    let s := s.setUport u { s.uport u with cfg := some (w, iface, if c.n1 = 0 then 9728 else c.n1) }
    ok ((portLanes u w).foldl (fun s l => s.setBit (lneA l 0x8) 6 (iface == 1)) s)

/-- PORT_UP (R503 to R505). -/
def infoPortUp : CmdInfo := { op := 0x050A, args := fun c => decide (c.n0 < 128) && c.zeroFrom 1 }

/-- The port is ENABLED: tests on its lanes end (R501). -/
def State.portEnable (s : State) (u : Nat) : State :=
  let x := s.uport u
  let s := s.setUport u { x with road := .enabled }
  (portLanes u ((x.cfg.map (fun c => c.1)).getD 0)).foldl (fun s l => s.endTest l) s

def bodyPortUp : Body := fun rp c s =>
  let x := s.uport c.n0
  if x.cfg.isNone then bad stNotFound s
  else
    match x.road with
    | .enabled => ok s
    | .disabled => ok (s.portEnable c.n0)
    | .resuming => bad stState s
    | .draining =>
      if rp.isSome then ok (s.portEnable c.n0)
      else (.opened, s.setUport c.n0 { x with road := .resuming, upAcc := some c.acc })

/-- PORT_DOWN (R504, R505). At replay the road is empty and the drain ends at once. -/
def infoPortDown : CmdInfo := { op := 0x050B, args := fun c => decide (c.n0 < 128) && c.zeroFrom 1 }

def bodyPortDown : Body := fun rp c s =>
  let x := s.uport c.n0
  if x.cfg.isNone then bad stNotFound s
  else
    match x.road with
    | .disabled => ok s
    | .draining => ok s
    | .resuming => bad stState s
    | .enabled =>
      if rp.isSome then ok (s.setUport c.n0 { x with road := .disabled })
      else
        let s := s.setUport c.n0 { x with road := .draining, downAcc := some c.acc }
        (.opened, (s.freeQueues true (fun i => i / 512 == c.n0)).rclkCheckAll)

/-- Complete a command with OK, if one waits. -/
def State.completeOk (s : State) (acc : Option Nat) : State :=
  match acc with
  | none => s
  | some a => s.complete a { status := stOk }

/-- PORT_DRAIN_END (R504). -/
def State.portDrainEnd (s : State) (u : Nat) : State :=
  let x := s.uport u
  match x.road with
  | .draining =>
    let s := s.setUport u { x with road := .disabled, downAcc := none, upAcc := none }
    let s := (portLanes u ((x.cfg.map (fun c => c.1)).getD 0)).foldl (fun s l => s.settleLane l) s
    (s.portLinkEval u).completeOk x.downAcc
  | .resuming =>
    let s := s.setUport u { x with road := .enabled, downAcc := none, upAcc := none }
    (s.completeOk x.downAcc).completeOk x.upAcc
  | _ => s

/-! Meanings. -/

/-- CONFIG_PORT. -/
def execConfigPort (c : Desc) (s : State) : Answer := kept s (runCmd infoConfigPort bodyConfigPort c s)

/-- PORT_UP. -/
def execPortUp (c : Desc) (s : State) : Answer := kept s (runCmd infoPortUp bodyPortUp c s)

/-- PORT_DOWN. -/
def execPortDown (c : Desc) (s : State) : Answer := kept s (runCmd infoPortDown bodyPortDown c s)

/-- PORT_DRAIN_END. -/
def execPortDrainEnd (u : Nat) (s : State) : Answer := kept s (s.portDrainEnd u)

/-- LANE_IDLE_EXIT. -/
def execLaneIdleExit (l : Nat) (s : State) : Answer := kept s (s.laneExit l)

/-- LANE_SIGNAL_DETECT. -/
def execLaneSignalDetect (l : Nat) (s : State) : Answer := kept s (s.laneSignal l)

/-- LANE_TRAINING_DONE. -/
def execLaneTrainingDone (l : Nat) (coef : W64) (s : State) : Answer := kept s (s.laneTrained l coef)

/-- MARGIN_MEASUREMENT. -/
def execMarginMeasurement (l v h : Nat) (s : State) : Answer := kept s (s.measure l v h)

/-- LANE_DOWN. -/
def execLaneDown (l : Nat) (s : State) : Answer := kept s (s.laneDown l)

/-- LANE_LOST. -/
def execLaneLost (l : Nat) (s : State) : Answer := kept s (s.laneLost l)

/-- COMMA_ALIGNED. -/
def execCommaAligned (l : Nat) (s : State) : Answer := kept s (s.commaAligned l)

/-- SYNC_LANE_RESTORE. -/
def execSyncLaneRestore (l : Nat) (s : State) : Answer := kept s (s.syncRestore l)

/-- TEST_CTL (R498): a write of LNE.TEST_CTL of lane l. -/
def execTestCtl (l : Nat) (w : W32) (s : State) : Answer := 
  kept s (if s.writable then (s.unlatch (lneA l 0x50)).testCtl l w.toNat else s.unlatch (lneA l 0x50))

/-- INJECT (R500): a write of LNE.INJECT of lane l. -/
def execInjectW (l : Nat) (w : W32) (s : State) : Answer := 
  kept s (if s.writable then (s.unlatch (lneA l 0x54)).inject l w.toNat else s.unlatch (lneA l 0x54))

/-- CHECKER_LOCK. -/
def execCheckerLock (l : Nat) (s : State) : Answer := kept s (s.chkLock l)

/-- CHECKER_LOCK_LOSS. -/
def execCheckerLockLoss (l : Nat) (s : State) : Answer := kept s (s.chkLoss l)

end Sys2Proof.Machine
end

