-- ==== Sys2Proof/Machine/Faults.lean ====
section
/-! DEFINITION. Upsets, faults and detours (R25, R26, R153 to R155, R344, R356, R414 to R419), the operations of
family 0x0E, and the health read port of SPR. -/

namespace Sys2Proof.Machine

/-- FAULT_POLICY of a class: K and W in milestones (R414, R424). -/
def State.faultK (s : State) (cls : Nat) : Nat := max 1 (s.fld (sprA (8 + 0x10 * cls)) 31 24)
def State.faultW (s : State) (cls : Nat) : Nat := 8 * max 1 (s.fld (sprA (8 + 0x10 * cls)) 23 0)

/-! SYNC and UNSYNC batches (R401). -/

/-- What an unlisted batch is. -/
def Pair.unsyncDflt (p : Pair) : Nat := match p.base with
  | none => 0
  | some m => m + 1

/-- A batch is UNSYNC. -/
def State.isUnsync (s : State) (key : Nat) : Bool := s.mgmt.pair.unsync.get s.mgmt.pair.unsyncDflt key != 0

/-- A batch of the STANDBY device becomes UNSYNC now, if it is not already. -/
def State.markUnsync (s : State) (key : Nat) : State :=
  if !s.standby || s.isUnsync key then s
  else s.modPair (fun p => { p with unsync := p.unsync.set p.unsyncDflt key (s.clk.msc + 1) })

/-- A batch is SYNC. -/
def State.markSync (s : State) (key : Nat) : State :=
  s.modPair (fun p => { p with unsync := p.unsync.set p.unsyncDflt key 0 })

/-- Every batch of a group becomes UNSYNC. -/
def State.unsyncGroup (s : State) (q : Nat) : State :=
  if s.standby then (List.range 1408).foldl (fun s b => s.markUnsync (1408 * q + b)) s else s

/-! Grant cores (R153 to R155). -/

/-- Set the state of a core and its health (R157, R424). -/
def State.setCoreSt (s : State) (g : Nat) (x : CoreSt) : State :=
  let h : UnitSt := match x with
    | .active => .active
    | .spare => .spare
    | .loading => .active
    | .retiring => .retiring
    | .retired => .retired
    | .lost => .lost
  (s.setCore g { s.core g with st := x }).setUnitSt 0 g h

/-- The lowest-numbered free spare core (R153): not named by a detour under way. -/
def State.freeCore (s : State) : Option Nat :=
  (List.range 104).find? (fun g => (s.core g).st == .spare && (s.health 0 g).st == .spare &&
    (List.range 104).all (fun h => ((s.core h).detour.map (fun d => d.1)) != some g))

/-- The four sub-channels of a planning group. -/
def groupSubs (q : Nat) : List Nat := [4 * q, 4 * q + 1, 4 * q + 2, 4 * q + 3]

/-- The trees of a core with no spare go out of service (R155). -/
def State.coreTreesOut (s : State) (g : Nat) : State :=
  let s := s.raise evNoSpareCore g
  match (s.core g).group with
  | none => s
  | some q => (groupSubs q).foldl (fun s sc => s.outOfService sc) s

/-- A core's contexts stop (R154). -/
def State.stopCtxs (s : State) (g : Nat) : State :=
  { s with grant := { s.grant with ctxs := s.grant.ctxs.keep (fun k => k / 4 != g) } }

/-- The counters of the sub-channel slots of core g are read through the block of its spare (R157). -/
def State.moveSlots (s : State) (g spare : Nat) : State :=
  (List.range 16).foldl (fun s i =>
    let o := 0x80 + 4 * i
    (s.setReg (gcrA spare o) (s.reg (gcrA g o))).setReg (gcrA g o) 0) s

/-- The spare takes over a core's planning group from roadbook e (R153, R154). -/
def State.takeOver (s : State) (g spare e : Nat) (left : CoreSt) : State :=
  let q := (s.core g).group
  let s := s.setCore g { s.core g with group := none, detour := none }
  let s := s.setCoreSt g left
  let s := (s.setCore spare { s.core spare with group := q, mapMsc := e, detour := none }).moveSlots g spare
  (s.setCoreSt spare .active).raise evCoreDetour (g + spare * 2 ^ 16)

/-- A planned detour of core g at the snapshot of its milestone (R153). -/
def State.applyCoreDetour (s : State) (g spare e : Nat) : State :=
  if (s.core g).st == .retiring && ((s.core g).detour.map (fun d => d.1)) == some spare &&
      ((s.core spare).st == .spare || (s.core spare).st == .loading) then s.takeOver g spare e .retired
  else s

/-- Name a detour of an active core (R153): the answer tells whether a spare was free. -/
def State.nameDetour (s : State) (g spare e : Nat) : State :=
  (s.setCore g { s.core g with detour := some (spare, e) }).setCoreSt g .retiring

/-- A core passes its fault threshold (R153, R155). -/
def State.coreFault (s : State) (g : Nat) : State :=
  match (s.core g).st with
  | .spare => s.setCoreSt g .retired
  | .active =>
    match s.freeCore with
    | some k =>
      match s.deferDev 0 g (.coreDetour g k) with
      | (e, s) => s.nameDetour g k e
    | none => s.raise evNoSpareCore g
  | _ => s

/-- A spare is chosen and loaded for a lost core, or its trees go out of service (R154, R155). DESIGN CHOICE: the
report of the detour with the earliest milestone is the core's own detour field; MAP_MSC takes the milestone of the
load. -/
def State.replaceLost (s : State) (g : Nat) : State :=
  match s.freeCore with
  | some k => (s.setCore g { s.core g with detour := some (k, s.earliestAck) }).setCoreSt k .loading
  | none => (s.setCore g { s.core g with detour := none }).coreTreesOut g

/-- CORE_LOST (R154): the batches of the core are carried forward until a spare has been loaded. -/
def State.coreLost (s : State) (g : Nat) : State :=
  let x := s.core g
  if 104 ≤ g || x.st == .lost then s
  else
    let s := (s.stopCtxs g).setCoreSt g .lost
    let s := s.raise evCoreLost g
    let s := { s with deferred := s.deferred.filter (fun p => match p.change with
      | .coreDetour h _ => h != g
      | _ => true) }
    let s := if x.group.isNone then s
      else
        match x.detour with
        | some (k, _) => if (s.core k).st == .spare || (s.core k).st == .loading
            then (s.setCore g { s.core g with detour := some (k, s.earliestAck) }).setCoreSt k .loading
            else s.replaceLost g
        | none => s.replaceLost g
    -- a lost spare that was being loaded is replaced
    ((List.range 104).filter (fun h => (s.core h).st == .lost && ((s.core h).detour.map (fun d => d.1)) == some g)).foldl
      (fun s h => s.replaceLost h) s

/-- CORE_SPARE_LOADED (R154): the spare of lost core g plans from the next snapshot. On the STANDBY device the batches
of a group whose core was lost become UNSYNC (R401). -/
def State.spareLoaded (s : State) (g : Nat) : State :=
  match (s.core g).st, (s.core g).detour with
  | .lost, some (k, _) =>
    if (s.core k).st == .loading then (s.takeOver g k s.earliest .lost).unsyncGroup ((s.core g).group.getD 96) else s
  | _, _ => s

/-! Channel engines and DSP units (R73, R75). -/

/-- Kind of a class: 0 engine, 1 DSP. -/
def clsKind (cls : Nat) : Nat := cls - 1

/-- Name a detour of the unit that serves a sub-channel. -/
def State.nameChDetour (s : State) (cls u k : Nat) : State :=
  (s.setUnitSt cls u .retiring).setUnitSt cls (u / 104 * 104 + k) .active

/-- A channel engine or DSP unit passes its threshold (R73, R75). -/
def State.chFault (s : State) (cls u : Nat) : State :=
  let kind := clsKind cls
  let die := u / 104
  match s.chServes kind die (u % 104) with
  | none => s.setUnitSt cls u .retired
  | some sc =>
    match s.freeChUnit kind die with
    | some k => (s.deferDev 0 sc (.chDetour sc kind k)).2.nameChDetour cls u k
    | none => (s.setUnitSt cls u .retired).outOfService sc

/-- A planned detour of a channel unit at its snapshot: it moves at milestones E and E + L − 1 (R73). -/
def State.applyChDetour (s : State) (sc kind spare e : Nat) : State :=
  s.modSub sc (fun x => { x with chDetour := x.chDetour ++ [(kind, (if kind = 0 then x.engine else x.dsp), spare, e)] })

/-! Die-to-die modules (R25, R26). -/

/-- All modules of a die are lost (R26): its trees go out of service, or its ports go down. -/
def State.dieOut (s : State) (die : Nat) : State :=
  if die < 4 then (List.range 96).foldl (fun s i => s.outOfService (96 * die + i)) s
  else (List.range 64).foldl (fun s i => s.portLinkEval (64 * (die - 4) + i)) s

/-- A module is lost (R25 step 4). -/
def State.moduleLost (s : State) (die m : Nat) : State :=
  if (s.module die m).lost then s
  else
    let s := (s.setModule die m { s.module die m with lost := true }).setUnitSt 6 (4 * die + m) .lost
    let s := s.raise evD2dModuleLost (4 * die + m)
    if s.dieLost die then s.dieOut die else s

/-- A module retrains at x32, or is lost if it cannot (R25 steps 3 and 4). -/
def State.moduleDegrade (s : State) (die m : Nat) (x32 : Bool) : State :=
  let x := s.module die m
  if !x.half && x32 then (s.setModule die m { x with half := true }).raise evD2dWidthDegraded (4 * die + m)
  else s.moduleLost die m

/-- D2D_FLIT_RETRY (R25, R415): retries beyond 1,000 in a second count toward the fault threshold. -/
def State.flitRetry (s : State) (die m : Nat) : State :=
  if 6 ≤ die ∨ 4 ≤ m ∨ (s.module die m).lost then s
  else
    let x := s.module die m
    let s := (s.setModule die m { x with retries := x.retries + 1 }).add64 (sprA (0x110 + 8 * die)) 1
    if 1000 < x.retries + 1 then s.countError 6 (4 * die + m) else s

/-- A second of milestones begins: the retries of R415 are counted afresh. -/
def State.retrySecond (s : State) : State :=
  if s.clk.msc % 8000 = 0 then
    { s with mgmt := { s.mgmt with mods := s.mgmt.mods.mapAll (fun _ => {}) (fun _ x => { x with retries := 0 }) } }
  else s

/-- D2D_LANE_REPAIR (R25): n lanes of one direction (r 0 to the hub, 1 from the hub) have failed; `x32` says whether
the module can train at x32. A module has four redundant lanes in each direction. -/
def State.laneRepair (s : State) (die m r n : Nat) (x32 : Bool) : State :=
  if 6 ≤ die ∨ 4 ≤ m ∨ (s.module die m).lost then s
  else
    let x := s.module die m
    let s := (List.range n).foldl (fun s _ => s.countError 6 (4 * die + m)) s
    if (x.repaired r) + n ≤ 4 then (s.setModule die m (x.repair r n)).raise evD2dLaneRepair (4 * die + m)
    else s.moduleDegrade die m x32

/-! Management cores, MRAM banks, flash devices (R415). -/

/-- MGT_STATE.RUNNING and STANDBY follow the health of the cores (R425, R454). -/
def State.syncMgmt (s : State) : State :=
  let bits := fun (p : UnitSt) => (List.range 4).foldl (fun n k => if (s.health 7 k).st == p then n + 2 ^ k else n) 0
  (s.setFld (mgtA 0) 11 8 (bits .active)).setFld (mgtA 0) 7 4 (bits .spare)

/-- A management core is out: a standby core replaces it; with none left MGMT_LOST is raised and the last-resort file
takes MGMT_ALL_LOST (R415, R447). -/
def State.mgmtOut (s : State) (k : Nat) : State :=
  let was := (s.health 7 k).st
  let s := s.setUnitSt 7 k .retired
  let s := if was == .spare then s
    else match (List.range 4).find? (fun j => (s.health 7 j).st == .spare) with
      | some j => s.setUnitSt 7 j .active
      | none => s
  let s := s.syncMgmt
  if s.mgmtLost && was != .retired then (s.raise evMgmtLost 0).lrWrite 0x07 0 else s

/-- Some flash device can be written (R415, R458). -/
def State.flashOk (s : State) : Bool := (List.range 2).any (fun k => (s.health 9 k).st == .active)

/-! Faults (R414). -/

/-- One of the two MRAM banks (class 8) or flash devices (class 9) is retired: one that a return had made a free spare
comes into use in its place (R249, R414, R417). -/
def State.pairOut (s : State) (cls u : Nat) : State :=
  let used := (s.health cls u).st == .active
  let s := s.setUnitSt cls u .retired
  if !used then s
  else
    let s := if (s.health cls (1 - u)).st == .spare then s.setUnitSt cls (1 - u) .active else s
    s.raise (if cls = 8 then evJournalDegraded else evFlashDegraded) u

/-- JRN_STATE tells which MRAM banks are in use (R272). -/
def State.banksInUse (s : State) : State :=
  (s.setBit (cmdA 0x0) 0 ((s.health 8 0).st == .active)).setBit (cmdA 0x0) 1 ((s.health 8 1).st == .active)

/-- Retire a unit with the detour of its class (R414, R415): grant cores and channel units by a device-decided
change, the others at once. -/
def State.faultOut (s : State) (cls u : Nat) : State :=
  let h := s.health cls u
  let s := if h.st == .spare || h.st == .testing then s.raise evSelfTestFail (cls * 2 ^ 24 + u) else s
  match cls with
  | 0 => s.coreFault u
  | 1 => s.chFault 1 u
  | 2 => s.chFault 2 u
  | 3 => s.cipherUnitOut 3 u .retired
  | 4 => s.cipherUnitOut 4 u .retired
  | 5 => if h.st == .spare || h.st == .testing then s.pcSpareOut u else s.pcOut u
  | 6 => s.moduleDegrade (u / 4) (u % 4) true
  | 7 => s.mgmtOut u
  | 8 => (s.pairOut 8 u).banksInUse
  | 9 => s.pairOut 9 u
  | _ => s.setUnitSt cls u .retired

/-- A unit is in service or a free spare. -/
def UnitSt.alive (x : UnitSt) : Bool := x == .active || x == .spare || x == .testing

/-- A unit is a fault whatever its error count (R404, R414). -/
def State.fault (s : State) (cls u : Nat) : State :=
  let h := s.health cls u
  let s := s.setHealth cls u { h with win := 0, openMsc := none }
  if !h.st.alive then s
  else
    let s := (s.add32 (sprA (0xC + 0x10 * cls)) 1).raise evUnitFault (cls * 2 ^ 24 + u)
    s.faultOut cls u

/-- UNIT_FAULT (R414): the count within the window has reached K. -/
def State.unitFault (s : State) (cls u : Nat) : State :=
  if cls ≤ 10 ∧ u < clsUnits cls ∧ s.faultK cls ≤ (s.health cls u).win then s.fault cls u else s

/-- FAULT_WINDOW_EXPIRY (R414). -/
def State.windowExpiry (s : State) (cls u : Nat) : State :=
  if cls ≤ 10 ∧ u < clsUnits cls then
    let h := s.health cls u
    match h.openMsc with
    | none => s
    | some m => if m + s.faultW cls ≤ s.clk.msc ∧ h.win < s.faultK cls
        then s.setHealth cls u { h with win := 0, openMsc := none } else s
  else s

/-! Self-test (R418). -/

/-- A test of a unit ends: a failed one counts one error. -/
def State.tested (s : State) (cls u : Nat) (pass : Bool) : State :=
  let s := s.setHealth cls u { s.health cls u with testMsc := s.clk.msc, testPass := pass }
  if pass then s else s.countError cls u

/-- SELF_TEST_ROTATION (R418): free spares and idle units; MRAM, flash and sensors are tested in service. -/
def State.rotation (s : State) (cls u : Nat) (pass : Bool) : State :=
  if cls ≤ 10 ∧ u < clsUnits cls ∧ ((s.health cls u).st = .spare ∨ (8 ≤ cls ∧ (s.health cls u).st = .active)) then
    s.tested cls u pass
  else s

/-- The HEALTH word of R424. -/
def State.healthWord (s : State) (cls u : Nat) : W64 :=
  if cls ≤ 10 ∧ u < clsUnits cls then
    let h := s.health cls u
    BitVec.ofNat 64 (h.testMsc % 2 ^ 32 * 2 ^ 32 + h.total % 2 ^ 16 * 2 ^ 16 + min h.win 255 * 2 ^ 8 + b2n h.testPass * 8 + h.st.code)
  else 0

/-! Family 0x0E (R417, R421). -/

/-- Class and unit of PARAM0. -/
def hwCls (c : Desc) : Nat := c.n0 / 2 ^ 24
def hwUnit (c : Desc) : Nat := c.n0 % 2 ^ 12

/-- PARAM0 names a unit that is built. -/
def hwArgs (c : Desc) : Bool :=
  decide (hwCls c ≤ 10) && c.n0 / 2 ^ 12 % 2 ^ 12 == 0 && decide (hwUnit c < clsUnits (hwCls c)) && c.zeroFrom 1

/-- No spare: the unit of a retirement that has no detour. -/
abbrev noSpare : Nat := 4095

/-- RETIRE_HW (R417, R421). -/
def infoRetireHw : CmdInfo := { op := 0x0E01, defer := true, args := hwArgs }

/-- The change that retires a unit of classes 0 to 2. -/
def State.retireChange (s : State) (cls u : Nat) : Change :=
  let active := (s.health cls u).st == .active
  if cls = 0 then
    match s.freeCore with
    | some k => if active then .coreDetour u k else .retireHw cls u noSpare
    | none => .retireHw cls u noSpare
  else
    match s.chServes (clsKind cls) (u / 104) (u % 104), s.freeChUnit (clsKind cls) (u / 104) with
    | some sc, some k => if active then .chDetour sc (clsKind cls) k else .retireHw cls u noSpare
    | _, _ => .retireHw cls u noSpare

/-- What naming the retirement does at once. -/
def State.retireNamed (s : State) (u e : Nat) (cls : Nat) (x : Change) : State :=
  match x with
  | .coreDetour g k => s.nameDetour g k e
  | .chDetour _ _ k => s.nameChDetour cls u k
  | _ => s

/-- A class has a free spare for a unit. -/
def State.hasSpare (s : State) (cls : Nat) : Bool := decide (0 < s.countUnits cls (fun x => x == .spare))

def bodyRetireHw : Body := fun rp c s =>
  let cls := hwCls c
  let u := hwUnit c
  let st := (s.health cls u).st
  if st == .retired then bad stRetired s
  else if !st.alive then bad stState s
  else if (cls = 7 ∨ cls = 8 ∨ cls = 9) ∧ !(s.hasSpare cls) then bad stState s
  else if cls ≤ 2 then
    match s.resolveE rp c with
    | .error n => bad n s
    | .ok e =>
      if !s.pendRoom then bad stNoRoom s
      else
        let x := s.retireChange cls u
        deferred e ((s.defer c e x).retireNamed u e cls x)
  else if c.effect != 0 then bad stBadArg s
  else if st == .active then ok (s.faultOut cls u)
  else ok (if cls = 7 then s.mgmtOut u else if cls = 5 then s.pcSpareOut u else s.setUnitSt cls u .retired)

/-- A retirement without a detour takes effect (R75, R155, R417). -/
def State.applyRetire (s : State) (cls u : Nat) : State :=
  let h := s.health cls u
  if cls = 0 then
    match h.st with
    | .active => (s.stopCtxs u).setCoreSt u .retired |>.coreTreesOut u
    | .spare => s.setCoreSt u .retired
    | _ => s
  else if h.st.alive then
    match s.chServes (clsKind cls) (u / 104) (u % 104) with
    | some sc => (s.setUnitSt cls u .retired).outOfService sc
    | none => s.setUnitSt cls u .retired
  else s

/-- The outcome of a unit's self-test on command, which the spec leaves to the unit; at replay the recorded one. -/
def State.testResult (s : State) (rp : Option ExecRec) (okAt : ExecRec → Bool) : Bool × State :=
  match rp with
  | some r => (okAt r, s)
  | none => match s.draw with
    | (v, s) => (v.toNat % 2 == 1, s)

/-- RETURN_HW (R417, R421). -/
def infoReturnHw : CmdInfo := { op := 0x0E02, args := hwArgs }

def bodyReturnHw : Body := fun rp c s =>
  let cls := hwCls c
  let u := hwUnit c
  if (s.health cls u).st != .retired then bad stState s
  else
    match s.testResult rp (fun r => r.status == stOk) with
    | (pass, s) =>
      let s := s.setHealth cls u { s.health cls u with testMsc := s.clk.msc, testPass := pass }
      if pass then
        let s := if cls = 0 then s.setCore u { s.core u with group := none, detour := none } else s
        let s := if cls = 0 then s.setCoreSt u .spare else s.setUnitSt cls u .spare
        ok (if cls = 7 then s.syncMgmt else s)
      else bad stRetired (s.countError cls u)

/-- RUN_SELF_TEST (R421). -/
def infoRunSelfTest : CmdInfo := { op := 0x0E03, args := hwArgs }

def bodyRunSelfTest : Body := fun rp c s =>
  let cls := hwCls c
  let u := hwUnit c
  let st := (s.health cls u).st
  if st == .active || st == .retiring then bad stState s
  else
    match s.testResult rp (fun r => r.r0 % 2 == 1) with
    | (pass, s) => okR (b2n pass) 0 (s.tested cls u pass)

/-- READ_HEALTH (R421). -/
def infoReadHealth : CmdInfo := { op := 0x0E04, query := true, buf := .out (fun _ => 16), args := hwArgs }

def bodyReadHealth : Body := fun _ c s =>
  let u := hwUnit c
  ok (s.outBuf c (leBytes 8 (s.healthWord (hwCls c) u).toNat ++ leBytes 8 (s.health (hwCls c) u).testMsc))

/-! The health read port (R424). -/

/-- A write of HEALTH_SEL starts a read. -/
def State.healthSel (s : State) (w : Nat) : State :=
  s.setReg (sprA 0x200) (BitVec.ofNat 64 (2 ^ 31 + w / 2 ^ 24 % 16 * 2 ^ 24 + w % 2 ^ 12))

/-- HEALTH holds the selected unit. -/
def State.healthDone (s : State) : State :=
  if s.bit (sprA 0x200) 31 then
    (s.setReg (sprA 0x208) (s.healthWord (s.fld (sprA 0x200) 27 24) (s.fld (sprA 0x200) 11 0))).setBit (sprA 0x200) 31 false
  else s

/-! Meanings. -/

/-- CORE_LOST. -/
def execCoreLost (g : Nat) (s : State) : Answer := kept s (s.coreLost g)

/-- CORE_SPARE_LOADED. -/
def execCoreSpareLoaded (g : Nat) (s : State) : Answer := kept s (s.spareLoaded g)

/-- UNIT_FAULT. -/
def execUnitFault (cls u : Nat) (s : State) : Answer := kept s (s.unitFault cls u)

/-- FAULT_WINDOW_EXPIRY. -/
def execFaultWindowExpiry (cls u : Nat) (s : State) : Answer := kept s (s.windowExpiry cls u)

/-- SELF_TEST_ROTATION. -/
def execSelfTestRotation (cls u : Nat) (pass : Bool) (s : State) : Answer := kept s (s.rotation cls u pass)

/-- D2D_FLIT_RETRY. -/
def execD2dFlitRetry (die m : Nat) (s : State) : Answer := kept s (s.flitRetry die m)

/-- D2D_LANE_REPAIR. -/
def execD2dLaneRepair (die : Nat) (l : ModuleDir) (n : Nat) (x32 : Bool) (s : State) : Answer :=
  kept s (s.laneRepair die l.m l.r n x32)

/-- RETIRE_HW. -/
def execRetireHw (c : Desc) (s : State) : Answer := kept s (runCmd infoRetireHw bodyRetireHw c s)

/-- RETURN_HW. -/
def execReturnHw (c : Desc) (s : State) : Answer := kept s (runCmd infoReturnHw bodyReturnHw c s)

/-- RUN_SELF_TEST. -/
def execRunSelfTest (c : Desc) (s : State) : Answer := kept s (runCmd infoRunSelfTest bodyRunSelfTest c s)

/-- READ_HEALTH. -/
def execReadHealth (c : Desc) (s : State) : Answer := kept s (runCmd infoReadHealth bodyReadHealth c s)

/-- HEALTH_SEL (R424): a write of SPR.HEALTH_SEL. -/
def execHealthSel (w : W32) (s : State) : Answer := 
  kept s (if s.writable then (s.unlatch (sprA 0x200)).healthSel w.toNat else s.unlatch (sprA 0x200))

/-- HEALTH_READ_DONE (R424). -/
def execHealthReadDone (s : State) : Answer := kept s s.healthDone

end Sys2Proof.Machine
end

