-- ==== Sys2Proof/Machine/Assembler.lean ====
section
/-! DEFINITION. Roadbook assembly (R78, R144 to R150): filter, burst formation, admission, placement, and the
digest. A roadbook is built from the released and carried grants by plain list functions. -/

namespace Sys2Proof.Machine

/-- One allocation on its way into a roadbook. -/
structure AAlloc where
  /-- lane slot 8b + k (R147) -/
  slot : Nat
  unit : Option Nat
  alloc : Nat
  size : Nat
  prio : Nat
  dbru : Bool
  ploamu : Bool
  early : Bool
  keep : Bool
  deriving DecidableEq, Repr

/-- One burst on its way into a roadbook. -/
structure ABurst where
  /-- a firmware burst counts as EARLY (R148) -/
  fw : Bool
  term : Nat
  prof : Nat
  allocs : List AAlloc
  deriving DecidableEq, Repr

/-- What one roadbook's assembly yields. -/
structure ARes where
  placed : List Burst := []
  /-- free gaps, rising: start and length -/
  gaps : List (Nat × Nat) := []
  drop : Nat := 0
  shrink : Nat := 0
  deriving DecidableEq, Repr

/-- An allocation of a released or carried grant: priority in [2:0], flags DBRU, PLOAMU, EARLY and KEEP above
(R128, R143). -/
def allocOf (slot u alloc : Nat) (g : Grant) : AAlloc :=
  { slot := slot, unit := some u, alloc := alloc, size := g.size, prio := g.pf % 8, dbru := g.pf.testBit 3
    ploamu := g.pf.testBit 4, early := g.pf.testBit 5, keep := g.pf.testBit 6 }

/-- Whether `a` stands before `b` in a burst: descending priority, then ascending lane slot (R147). -/
def AAlloc.before (a b : AAlloc) : Bool := b.prio < a.prio || (a.prio == b.prio && a.slot < b.slot)

/-- Insert an allocation in the order of R147. -/
def insertAlloc (a : AAlloc) (l : List AAlloc) : List AAlloc :=
  match l with
  | [] => [a]
  | b :: r => if a.before b then a :: b :: r else b :: insertAlloc a r

/-- Priority of a burst: the highest among its allocations (R147). -/
def ABurst.prio (b : ABurst) : Nat := b.allocs.foldl (fun m a => max m a.prio) 0

/-- Rotation key of a terminal for roadbook m (R147). -/
def rotKey (t m : Nat) : Nat := (t + 512 - m % 512) % 512

/-- Insert a burst by descending priority, then by rising rotation key (R147). -/
def insertBurst (m : Nat) (a : ABurst) (l : List ABurst) : List ABurst :=
  match l with
  | [] => [a]
  | b :: r =>
    if b.prio < a.prio || (a.prio == b.prio && decide (rotKey a.term m < rotKey b.term m)) then a :: b :: r
    else b :: insertBurst m a r

/-- Add an allocation to the burst of its terminal (R144). -/
def addAlloc (t prof : Nat) (a : AAlloc) (l : List ABurst) : List ABurst :=
  match l with
  | [] => [⟨false, t, prof, [a]⟩]
  | b :: r => if b.term = t then { b with allocs := insertAlloc a b.allocs } :: r else b :: addAlloc t prof a r

/-- Bytes of a grant unit, payload bytes of a FEC codeword and its parity bytes (R146). -/
def guBytes (sc : Nat) : Nat := if sc % 2 = 0 then 16 else 4
def fecK (sc : Nat) : Nat := if sc % 2 = 0 then 1824 else 232
def fecPar (sc : Nat) : Nat := if sc % 2 = 0 then 336 else 16

/-- A profile of a sub-channel. -/
def Sub.profile (x : Sub) (p : Nat) : Profile := x.profiles.getD p ⟨0, 0, true, 0, 0⟩

/-- Overhead of a burst in grant units (R146). -/
def ovhUnits (x : Sub) (sc p : Nat) : Nat :=
  let q := x.profile p
  let b := 8 * guBytes sc
  (x.guardBits + q.pre + q.del + b - 1) / b

/-- Length of a burst in grant units (R146). -/
def burstUnits (x : Sub) (sc p : Nat) (l : List AAlloc) : Nat :=
  let gu := guBytes sc
  let p0 := 8 + (if l.any (fun a => a.ploamu) then 48 else 0)
  let p1 := l.foldl (fun n a => n + a.size * gu + (if a.dbru then 4 else 0)) p0
  let p2 := if (x.profile p).fec then p1 + (p1 + fecK sc - 1) / fecK sc * fecPar sc else p1
  ovhUnits x sc p + (8 * p2 + 8 * gu - 1) / (8 * gu)

/-- Remove the interval [a, b) from a list of gaps. -/
def cutGaps (a b : Nat) (gs : List (Nat × Nat)) : List (Nat × Nat) :=
  match gs with
  | [] => []
  | (s, n) :: r =>
    let left := if s < a then [(s, min n (a - s))] else []
    let right := if b < s + n then [(max s b, s + n - max s b)] else []
    (if b ≤ s ∨ s + n ≤ a then [(s, n)] else left ++ right) ++ cutGaps a b r

/-- Reserved grant units of roadbook n for one window: those whose arrival falls into its span (R105, R106,
R145). -/
def reservedUnits (x : Sub) (n : Nat) (w : Window) : Option (Nat × Nat) :=
  let f : Int := frameUnits x
  let lo : Int := ((w.book : Int) - (n + x.len - 1)) * 2000000 + w.start
  let hi : Int := lo + w.len
  let a := max 0 (lo * f / 2000000)
  let b := min f ((hi * f + 1999999) / 2000000)
  if a < b then some (a.toNat, b.toNat) else none

/-- The free gaps of roadbook n before any burst is placed (R145). -/
def freeGaps (x : Sub) (n : Nat) : List (Nat × Nat) :=
  x.disc.windows.foldl (fun gs w => match reservedUnits x n w with
    | some (a, b) => cutGaps a b gs
    | none => gs) [(0, frameUnits x)]

/-- The lowest gap that holds n units. -/
def firstFit (gs : List (Nat × Nat)) (n : Nat) : Option Nat :=
  match gs with
  | [] => none
  | (s, k) :: r => if n ≤ k then some s else firstFit r n

/-- The longest gap. -/
def longestGap (gs : List (Nat × Nat)) : Nat := gs.foldl (fun m g => max m g.2) 0

/-- Remove the last allocation that satisfies `p`. -/
def dropLastWhere (p : AAlloc → Bool) (l : List AAlloc) : Option (List AAlloc) :=
  match l with
  | [] => none
  | a :: r =>
    match dropLastWhere p r with
    | some t => some (a :: t)
    | none => if p a then some r else none

/-- Step 1 of R148: allocations with KEEP leave from the tail until the rest fits. The count of removals is
the second part. -/
def dropKeep (fits : List AAlloc → Bool) (fuel : Nat) (l : List AAlloc) : List AAlloc × Nat :=
  match fuel with
  | 0 => (l, 0)
  | n + 1 =>
    if fits l then (l, 0)
    else
      match dropLastWhere (fun a => a.keep) l with
      | none => (l, 0)
      | some t =>
        match dropKeep fits n t with
        | (u, k) => (u, k + 1)

/-- Set the size of the last allocation. -/
def setLast (l : List AAlloc) (n : Nat) : List AAlloc :=
  match l with
  | [] => []
  | [a] => [{ a with size := n }]
  | a :: r => a :: setLast r n

/-- The largest size up to `hi` at which the burst still fits `gap`, by bisection: `lo` fits. -/
def bisect (ok : Nat → Bool) (fuel lo hi : Nat) : Nat :=
  match fuel with
  | 0 => lo
  | n + 1 =>
    if hi ≤ lo then lo
    else
      let mid := (lo + hi + 1) / 2
      if ok mid then bisect ok n mid hi else bisect ok n lo (mid - 1)

/-- Smallest size a shrunk allocation may have (R148). -/
def minShrink (sc : Nat) : Nat := if sc % 2 = 0 then 4 else 16

/-- Step 2 of R148: the last allocation is shrunk to fit the largest gap, or dropped and the one before it is
tried. Answers what is left, the drops and whether one was shrunk. -/
def shrinkLast (len : List AAlloc → Nat) (gap least fuel : Nat) (l : List AAlloc) : List AAlloc × Nat × Bool :=
  match fuel with
  | 0 => (l, 0, false)
  | n + 1 =>
    match l.getLast? with
    | none => ([], 0, false)
    | some a =>
      if len l ≤ gap then (l, 0, false)
      else
        let ok := fun k => decide (len (setLast l k) ≤ gap)
        let k := bisect ok 20 0 a.size
        if ok k && decide (least ≤ k) then (setLast l k, 0, true)
        else
          match shrinkLast len gap least n l.dropLast with
          | (t, d, b) => (t, d + 1, b)

/-- The allocation structures of a placed burst (R146, R149). -/
def structures (start : Nat) (l : List AAlloc) : List Alloc :=
  l.mapIdx (fun i a => { unit := a.unit, alloc := a.alloc, size := a.size, start := if i = 0 then start else 0xFFFF
                         dbru := a.dbru, ploamu := a.ploamu })

/-- Place one burst (R148). -/
def ARes.place (r : ARes) (x : Sub) (sc : Nat) (b : ABurst) : ARes :=
  let len := burstUnits x sc b.prof
  let fits := fun l => (firstFit r.gaps (len l)).isSome
  let (l1, d1) := if fits b.allocs then (b.allocs, 0) else dropKeep fits b.allocs.length b.allocs
  let (l2, d2, sh) := if l1.isEmpty || fits l1 then (l1, 0, false)
    else shrinkLast len (longestGap r.gaps) (minShrink sc) (l1.length + 1) l1
  let r := { r with drop := r.drop + d1 + d2, shrink := r.shrink + b2n sh }
  if l2.isEmpty then r
  else
    match firstFit r.gaps (len l2) with
    | none => r
    | some s =>
      let n := len l2
      { r with
        gaps := cutGaps s (s + n) r.gaps
        placed := r.placed ++ [{ kind := if b.fw then .ploamOnly else .data, term := b.term, prof := b.prof, start := s, len := n
                                 allocs := structures (s + ovhUnits x sc b.prof) l2 }] }

/-- Allocations and bursts that a roadbook can carry (R78). -/
def maxAllocs (sc : Nat) : Nat := if sc % 2 = 0 then 1024 else 512
def maxBursts (sc : Nat) : Nat := if sc % 2 = 0 then 512 else 256

/-- Admission (R78, R148): bursts and allocations beyond the limits are dropped. Answers the admitted bursts and
the count dropped. -/
def admitBursts (nb na : Nat) (l : List ABurst) : List ABurst × Nat :=
  match l with
  | [] => ([], 0)
  | b :: r =>
    if nb = 0 || na = 0 then
      match admitBursts nb na r with
      | (t, d) => (t, d + b.allocs.length)
    else
      let keep := b.allocs.take na
      match admitBursts (nb - 1) (na - keep.length) r with
      | (t, d) => ({ b with allocs := keep } :: t, d + (b.allocs.length - keep.length))

/-- Insert a placed burst by its start. -/
def insertStart (b : Burst) (l : List Burst) : List Burst :=
  match l with
  | [] => [b]
  | a :: r => if b.start < a.start then b :: a :: r else a :: insertStart b r

/-- Grants that reach the assembler for a sub-channel: lane slot, unit and grant (R48, R130). -/
def State.asmGrants (s : State) (sc : Nat) : List (Nat × Nat × Grant) :=
  (s.grant.released ++ s.grant.carriedG).filterMap (fun e =>
    match e.2, s.laneUnit (e.1 / 8 / 1408) (e.1 / 8 % 1408) (e.1 % 8) with
    | some g, some u => if (s.unit u).sc = sc then some (e.1 % 11264, u, g) else none
    | _, _ => none)

/-- A grant stays after the filter of R144 for roadbook m. -/
def State.asmKeeps (s : State) (sc m u : Nat) : Bool :=
  let x := s.unit u
  let y := s.term sc x.term
  s.carries sc m && x.plannedAt m && y.operAt m && y.act != .disabled && before y.drainE m && before y.deactE m

/-- A grant of a serial-number or ranging window (R105, R106, R145, R149): an allocation of size 0 with PLOAMU, at its
start offset in the frame; terminal 512 for a serial-number grant. -/
def windowBurst (x : Sub) (sc : Nat) (kind : BurstKind) (t : Nat) : Burst :=
  let at' := grantAt t * frameUnits x / 2000000
  let alloc := if t = 512 then Config.serialAlloc (sc % 2) else t
  let n := burstUnits x sc 0 [⟨0, none, alloc, 0, 0, false, true, true, false⟩]
  { kind := kind, term := t, prof := 0, start := at' - ovhUnits x sc 0, len := n
    allocs := [{ unit := none, alloc := alloc, size := 0, start := at', dbru := false, ploamu := true }] }

/-- PLOAM requests served in roadbook m (R145): terminals in OPERATION, at most 16 without a program burst. -/
def State.ploamServed (s : State) (sc m : Nat) (prog : List ABurst) : List Nat × List Nat :=
  let ts := (s.sub sc).ploamNow.filter (fun t => (s.term sc t).operAt m && s.carries sc m)
  (ts.filter (fun t => prog.any (fun b => b.term == t)), (ts.filter (fun t => !prog.any (fun b => b.term == t))).take 16)

/-- PLOAMU on the first allocation of a burst. -/
def ABurst.setPloam (b : ABurst) : ABurst :=
  { b with allocs := b.allocs.mapIdx (fun i a => if i = 0 then { a with ploamu := true } else a) }

/-- Roadbook m of a sub-channel (R144 to R149): bursts, filtered grants, drops, shrinks, and the PLOAM
requests served. A request that rides on a program burst counts as served even if placement drops the burst or its
first allocation (DESIGN CHOICE: the spec does not say). -/
def State.assemble (s : State) (sc m : Nat) : Book × Nat × ARes × List Nat :=
  let x := s.sub sc
  let gs := s.asmGrants sc
  let keep := gs.filter (fun g => s.asmKeeps sc m g.2.1)
  let keep := keep.filter (fun g => g.2.2.size != 0 || g.2.2.pf.testBit 3)
  let prog := keep.foldl (fun l g =>
    let u := s.unit g.2.1
    addAlloc u.term (s.term sc u.term).profP (allocOf g.1 g.2.1 u.alloc g.2.2) l) []
  let (withProg, alone) := s.ploamServed sc m prog
  let prog := prog.map (fun b => if withProg.contains b.term then b.setPloam else b)
  let fw : List ABurst := alone.map (fun t => ⟨true, t, (s.term sc t).profP, [⟨0, none, t, 0, 0, false, true, true, false⟩]⟩)
  let win := if s.carries sc m then x.disc.windows.filter (fun w => w.book == m) else []
  let wins : List Burst := (win.filter (fun w => w.term.isNone)).map (fun _ => windowBurst x sc .serial 512)
    ++ (win.filterMap (fun w => w.term)).map (fun t => windowBurst x sc .ranging t)
  let order := fw ++ prog.foldl (fun l b => insertBurst m b l) []
  let (adm, cut) := admitBursts (maxBursts sc - wins.length) (maxAllocs sc - wins.length) order
  let isEarly := fun (b : ABurst) => b.fw || b.allocs.any (fun a => a.early)
  let r0 : ARes := { gaps := freeGaps x m, drop := cut }
  let r1 := (adm.filter isEarly).foldl (fun r b => r.place x sc b) r0
  let r2 := (adm.filter (fun b => !isEarly b)).foldl (fun r b => r.place x sc b) r1
  let bursts := wins ++ r2.placed.foldl (fun l b => insertStart b l) []
  let done := withProg ++ (r2.placed.filter (fun b => b.kind == .ploamOnly)).map (fun b => b.term)
  ({ msc := m, bursts := bursts }, gs.length - (gs.filter (fun g => s.asmKeeps sc m g.2.1)).length, r2, done)

/-- Count the result of an assembly on the core that plans the sub-channel (R144, R148, R157). -/
def State.asmCount (s : State) (sc j n : Nat) : State :=
  match s.coreOf (groupOf (sc / 2)) with
  | some g => s.add32 (gcrA g (0x80 + 16 * (sc % 4) + 4 * j)) n
  | none => s

/-- Build roadbook M + 1 of a sub-channel (R148). -/
def State.buildBook (s : State) (sc : Nat) : State :=
  match s.assemble sc (s.clk.msc + 1) with
  | (b, filt, r, done) =>
    let s := s.modSub sc (fun x => { x with built := some b, accepted := false
                                            ploamNow := x.ploamNow.filter (fun t => !done.contains t) })
    let s := ((s.asmCount sc 2 filt).asmCount sc 0 r.drop).asmCount sc 1 r.shrink
    if r.drop = 0 ∧ r.shrink = 0 then s else s.raiseOnce evGrantDropped sc sc

/-- The words that a roadbook's digest covers (R150, R400): per allocation its burst and fields. -/
def Book.words (b : Book) : List Nat :=
  b.msc :: (b.bursts.map (fun u => [u.term, u.prof, u.start, u.len] ++
    (u.allocs.map (fun a => [a.alloc, a.size, a.start, b2n a.dbru + 2 * b2n a.ploamu])).flatten)).flatten

/-- The digest of a roadbook (R150, R400). -/
def Book.digest (b : Book) : W64 := Config.sm3Word b.words

/-- Allocations of a roadbook. -/
def Book.allocCount (b : Book) : Nat := b.bursts.foldl (fun n u => n + u.allocs.length) 0

end Sys2Proof.Machine
end

