-- ==== Sys2Proof/Machine/Protect.lean ====
section
/-! DEFINITION. Device pairs and tree pairs (R393 to R413) and the operations of family 0x0C (R420). -/

namespace Sys2Proof.Machine

/-! Codes of `Out.link`: 0 witness frame, 1 interval record, 2 journal entry or acknowledgement, 3 decision,
4 hint, 5 row copy, 6 forwarded roadbook, 7 image of the partner (R480), 8 batch digests and the request for them. -/

abbrev linkWitness : Nat := 0
abbrev linkInterval : Nat := 1
abbrev linkJournal : Nat := 2
abbrev linkDecision : Nat := 3
abbrev linkRow : Nat := 5
abbrev linkBook : Nat := 6
abbrev linkDigest : Nat := 8

/-- PRT.PAIR_CNT k (R423). -/
def State.pairCnt (s : State) (k n : Nat) : State := s.add32 (prtA (0x20 + 4 * k)) n

/-- PRT.EPOCH. -/
def State.epoch (s : State) : Nat := s.fld (prtA 0x8) 31 0

/-- Set the pair state and the role; a change raises PAIR_STATE_CHANGE (R406, R422). -/
def State.setPairSt (s : State) (st : PairSt) (r : Role) : State :=
  if s.mgmt.pair.st = st ∧ s.mgmt.pair.role = r then s
  else (s.modPair (fun p => { p with st := st, role := r })).raise evPairStateChange (st.code + 16 * r.code)

/-- HB_MISS and FENCE_MS (R409, R410). -/
def State.hbMiss (s : State) : Nat := s.fld (prtA 0) 7 0
def State.fenceMs (s : State) : Nat := s.fld (prtA 0xC) 15 0

/-- PAIR_WAIT (R272). -/
def State.setPairWait (s : State) (b : Bool) : State := s.setBit (cmdA 0x0) 3 b

/-! SYNC and UNSYNC batches (R401). -/

/-- Every batch starts UNSYNC (R407). -/
def State.unsyncAll (s : State) : State := s.modPair (fun p => { p with base := some s.clk.msc, unsync := [] })

/-- Milestone at which the batch that has waited longest became UNSYNC. -/
def Pair.oldest (p : Pair) : Option Nat :=
  let l := (p.unsync.filter (fun e => e.2 != 0)).map (fun e => e.2 - 1)
  let l := match p.base with
    | some m => if p.unsyncCount = 0 then l else m :: l
    | none => l
  l.foldl (fun r m => match r with
    | none => some m
    | some x => some (min x m)) none

/-- RESYNC_BACKLOG (R402): a batch has been UNSYNC for 8,000 milestones; at most once per second. -/
def State.backlogCheck (s : State) : State :=
  let p := s.mgmt.pair
  match p.oldest with
  | none => s
  | some m =>
    let due := match p.backlogMsc with
      | none => true
      | some b => decide (b + 8000 ≤ s.clk.msc)
    if m + 8000 ≤ s.clk.msc ∧ due = true then
      (s.modPair (fun p => { p with backlogMsc := some s.clk.msc })).raise evResyncBacklog 0
    else s

/-! Fencing and takeover (R410 to R412). -/

/-- Every PON lane that may no longer be lit enters idle. -/
def State.settlePon (s : State) : State := (List.range 384).foldl (fun s l => s.settleLane l) s

/-- The device darkens every downstream lane and becomes FENCED (R410). -/
def State.fence (s : State) : State :=
  if s.mgmt.pair.role = .fenced then s
  else ((s.setPairSt s.mgmt.pair.st .fenced).raise evFenced 0).settlePon

/-- A ring of this device stops (R411 step 4). -/
def State.stopRing (s : State) (r : Nat) : State := ((s.ringDisable r).ringStopDone r)

/-- Rings of the former ACTIVE device become RESTORED with the mirrored DHEAD and CDONE (R411 step 4). -/
def State.restoreMirror (s : State) : State :=
  let m := s.mgmt.pair.mirror
  let s := (s.host.rings.map (fun e => e.1)).foldl (fun s r => if (m.find r).isSome then s else s.stopRing r) s
  m.foldl (fun s e => s.setRing e.1 { s.ring e.1 with
    st := .restored, dhead := e.2.1, cdone := e.2.2, enable := false, discard := false, doneSeqs := [] }) s

/-- The STANDBY device becomes ACTIVE (R411): frame C + 2 is its first downstream frame. -/
def State.takeover (s : State) : State :=
  let s := s.modPair (fun p => { p with takeover := some (s.clk.msc + 2), base := none, unsync := [], copies := [], excluded := [] })
  let s := ((s.setPairSt .alone .active).pairCnt 7 1).raise evTakeover s.epoch
  (s.restoreMirror).setPairWait false

/-- Raise the epoch by one without a token (R412). -/
def State.nextEpoch (s : State) : State := s.setReg (prtA 0x8) (BitVec.ofNat 64 ((s.epoch + 1) % 2 ^ 32))

/-- Roles change at milestone E of a switch-over (R412). -/
def State.swapRoles (s : State) : State :=
  match s.mgmt.pair.swapE with
  | none => s
  | some e =>
    if s.clk.msc < e then s
    else
      let r : Role := if s.mgmt.pair.role = .active then .standby else .active
      let s := (s.modPair (fun p => { p with swapE := none })).nextEpoch
      let s := ((s.setPairSt s.mgmt.pair.st r).pairCnt 7 1).raise evTakeover s.epoch
      -- the device that is ACTIVE now waits for the other's acknowledgements (R247, R406)
      (s.setPairWait (r == .active && s.mgmt.pair.st == .paired)).settlePon

/-! Tokens (R408). -/

/-- Bytes over which a TOKEN is signed. -/
def tokenBody (k : TokenIn) : List Nat := leBytes 2 k.pairId ++ leBytes 4 k.epoch ++ leBytes 8 k.serial

/-- A TOKEN is valid. -/
def State.tokenOk (s : State) (k : TokenIn) : Bool :=
  s.mgmt.pair.st != .unpaired && k.pairId == s.fld (prtA 0) 31 16 && decide (s.epoch < k.epoch ∧ k.epoch < 2 ^ 32) &&
    Config.sm2Check s.mgmt.pair.arbKey (tokenBody k) k.sig

/-- TOKEN (R408, R410, R411). -/
def State.token (s : State) (k : TokenIn) : State :=
  if !s.tokenOk k then (s.pairCnt 6 1).raise evTokenRefused 0
  else
    let s := s.setReg (prtA 0x8) (BitVec.ofNat 64 k.epoch)
    if k.serial = Config.serial then
      if s.mgmt.pair.role = .standby then s.takeover else s
    else if s.mgmt.pair.role = .active then s.fence
    else s

/-- VERDICT (R404): one that names a device for takeover is a TOKEN; any other leaves the roles unchanged. -/
def State.verdict (s : State) (k : Option TokenIn) : State :=
  let s := s.modPair (fun p => { p with verdict := none })
  match k with
  | none => s
  | some k => s.token k

/-! The witness link (R397). -/

/-- The witness lane is aligned and the pair is configured with an arbiter. -/
def State.witnessUp (s : State) : Bool :=
  s.mgmt.pair.st != .unpaired && s.bit (prtA 0) 10 && s.laneSt 514 == lnUp && s.bit (lneA 514 4) 4

/-- HEARTBEAT_SEND: every 8 milestones. -/
def State.heartbeatSend (s : State) : State :=
  if s.witnessUp && s.clk.running && decide (s.clk.msc % 8 = 0) then
    s.emit (.link linkWitness [1, s.mgmt.pair.role.code, s.epoch, s.clk.msc])
  else s

/-- HEARTBEAT of the arbiter. -/
def State.heartbeat (s : State) : State :=
  if s.witnessUp then s.modPair (fun p => { p with arbOk := true, arbMsc := s.clk.msc }) else s

/-- ARBITER_LOST: no HEARTBEAT of the arbiter for ARB_MISS ms. -/
def State.arbiterMissed (s : State) : State :=
  if s.mgmt.pair.arbMsc + 8 * s.mgmt.pair.arbMiss ≤ s.clk.msc then s.arbiterLost else s

/-- FENCE_TIMEOUT (R410). -/
def State.fenceTimeout (s : State) : State :=
  let p := s.mgmt.pair
  if p.role = .active ∧ p.st ≠ .unpaired ∧ s.fenceMs ≠ 0 ∧ max p.hbMsc p.arbMsc + 8 * s.fenceMs ≤ s.clk.msc then s.fence
  else s

/-! Interval records (R400 to R404). -/

/-- Units of a planning group with a report stamped in interval m: (unit, OCC) in ascending unit order (R400). -/
def State.reportPairs (s : State) (q m : Nat) (p : Nat → Bool) : List Nat :=
  s.grant.units.foldl (fun l e =>
    let x := e.2
    if x.inst && x.group == q && p x.batch then
      let r := s.grant.reports.get {} (laneKey q x.batch x.lane)
      if r.valid && r.stamp == m % 32768 then l ++ [e.1, r.occ] else l
    else l) []

/-- Part A digest of a group (R400). -/
def State.partADigest (s : State) (q m : Nat) : W64 := Config.sm3Word (s.reportPairs q m (fun _ => true))

/-- Digest of one batch, 32 bits (R401). -/
def State.batchDigest (s : State) (q b m : Nat) : Nat := (Config.sm3Word (s.reportPairs q m (fun x => x == b))).toNat % 2 ^ 32

/-- The pair exchanges interval records: the sync link runs and a pair is formed or being formed. -/
def State.syncOn (s : State) : Bool :=
  s.mgmt.pair.lanes != 0#2 && s.mgmt.pair.st != .unpaired

/-- INTERVAL_RECORD_A at 1.6 µs (R400). -/
def State.sendPartA (s : State) : State :=
  if s.syncOn && s.clk.running then
    s.emit (.link linkInterval ([0, s.clk.msc] ++ (List.range 96).map (fun q => (s.partADigest q (s.clk.msc - 1)).toNat)))
  else s

/-- Batches of a group carried forward in the current plan, as keys 1,408 q + b. -/
def State.carriedKeys (s : State) : List Nat :=
  s.grant.groups.foldl (fun l e => l ++ (e.2.planned.filter (fun b => b.2 == .missed)).map (fun b => 1408 * e.1 + b.1)) []

/-- The batches of this device that are UNSYNC, as keys (R400). -/
def State.unsyncKeys (s : State) : List Nat :=
  match s.mgmt.pair.base with
  | none => (s.mgmt.pair.unsync.filter (fun e => e.2 != 0)).map (fun e => e.1)
  | some _ => (List.range 135168).filter s.isUnsync

/-- INTERVAL_RECORD_B at 117 µs, with the results of known-answer tests that it carries (R400, R404). -/
def State.sendPartB (s : State) : State :=
  if s.syncOn && s.clk.running && s.clk.phase == .afterCommit then
    let p := s.mgmt.pair
    let tests := (p.katOwn.filter (fun e => !e.2.2)).map (fun e => 2 * e.1 + b2n e.2.1)
    let s := s.modPair (fun p => { p with hbSeq := p.hbSeq + 1, katOwn := p.katOwn.map (fun e => (e.1, e.2.1, true)) })
    s.emit (.link linkInterval ([1, p.hbSeq, s.clk.msc, p.role.code] ++ (List.range 384).map (fun sc => (s.sub sc).digest.toNat)
      ++ [s.carriedKeys.length] ++ s.carriedKeys ++ [tests.length] ++ tests ++ s.unsyncKeys))
  else s

/-- Batches that contribute to the latest roadbook of a sub-channel, as keys. -/
def State.bookBatches (s : State) (sc m : Nat) : List Nat :=
  match (s.sub sc).books.find? (fun k => k.msc == m) with
  | none => []
  | some k => (k.bursts.map (fun b => b.allocs.filterMap (fun a => a.unit.map (fun u =>
      1408 * (s.unit u).group + (s.unit u).batch)))).flatten

/-- A divergence is found on a sub-channel (R404): known-answer tests are due. -/
def State.divergence (s : State) (sc : Nat) : State :=
  ((s.pairCnt 0 1).raise evDivergence sc).modPair (fun p => { p with kat := p.kat ++ [(sc / 4, sc)] })

/-- Compare the roadbooks M + 1 just committed with the peer's (R403, R404), but for those with a batch that is UNSYNC or
was carried forward on either device, which `theirs` lists for the peer. The answer says whether every compared one
agreed. -/
def State.compareBooks (s : State) (digests : List W64) (theirs : List Nat) : Bool × State :=
  let theirs := theirs ++ s.carriedKeys
  (List.range 384).foldl (fun (r : Bool × State) sc =>
    match r with
    | (agree, s) =>
      let m := s.clk.msc + 1
      let bs := s.bookBatches sc m
      if bs.any (fun k => s.isUnsync k || theirs.contains k) then
        (agree, (s.pairCnt 1 1).modPair (fun p => { p with excluded := p.excluded ++ [(sc, m)] }))
      else if (s.sub sc).digest = digests.getD sc 0 then (agree, s)
      else (false, s.divergence sc)) (true, s)

/-- The peer is seen: an ALONE or BROKEN device begins to build the pair (R407). -/
def State.peerSeen (s : State) (peer : Nat) : State :=
  let p := s.mgmt.pair
  if p.role = .active ∧ (p.st = .alone ∨ p.st = .broken) ∧ peer = 2 then
    (s.setPairSt .joining .active).setPairWait true
  else if p.role = .standby ∧ p.st = .broken ∧ s.bit (prtA 0) 9 = true ∧ peer = 1 then
    (s.setPairSt .joining .standby).unsyncAll
  else s

/-- The ACTIVE device notes the batches that the STANDBY device lists as UNSYNC, and since when; those it has copied in
this interval are installed at the next snapshot (R400, R402). -/
def State.noteUnsync (s : State) (keys : List Nat) : State :=
  s.modPair (fun p => { p with peerUnsync := keys.foldl (fun m k =>
    if p.copied.contains k then m
    else m.put k (let v := p.peerUnsync.get 0 k
                  if v = 0 then s.clk.msc + 1 else v)) [] })

/-- Both results of a known-answer test are known (R404 steps 2 and 3): the group becomes UNSYNC on the STANDBY device
where its unit failed, or both did; where both passed, DIVERGENCE_REPORT goes to the arbiter, and the group becomes
UNSYNC too. -/
def State.judgeTest (s : State) (q : Nat) (own peer : Bool) : State :=
  if own && peer then
    ((s.modPair (fun p => { p with verdict := some (s.clk.hubc, q) })).emit (.link linkWitness [6, q, s.clk.msc])).unsyncGroup q
  else if !(if s.standby then own else peer) then s.unsyncGroup q
  else s

/-- Results of the peer's known-answer tests arrive; those whose own result has gone out are judged (R404). -/
def State.judgeTests (s : State) (tests : List (Nat × Bool)) : State :=
  let s := s.modPair (fun p => { p with katPeer := p.katPeer ++ tests })
  s.mgmt.pair.katOwn.foldl (fun s e =>
    match s.mgmt.pair.katPeer.find? (fun x => x.1 == e.1) with
    | some x =>
      if e.2.2 then
        (s.modPair (fun p => { p with katOwn := p.katOwn.filter (fun y => y.1 != e.1)
                                      katPeer := p.katPeer.filter (fun y => y.1 != e.1) })).judgeTest e.1 e.2.1 x.2
      else s
    | none => s) s

/-- INTERVAL_RECORD_RECEIVE (R400 to R404). -/
def State.receiveRecord (s : State) (r : IntervalRec) : State :=
  if !s.syncOn then s
  else
    match r with
    | .partA m ds =>
      if s.mgmt.pair.role != .standby || m != s.clk.msc then s
      else
        let bad := (List.range 96).filter (fun q => ds.getD q 0 != s.partADigest q (m - 1))
        let s := s.modPair (fun p => { p with asked := bad.take 8 })
        let s := (bad.take 8).foldl (fun s q => s.emit (.link linkDigest [q])) s
        (bad.drop 8).foldl (fun s q => s.unsyncGroup q) s
    | .partB m _ role ds carried unsync tests =>
      let s := s.peerSeen role
      let s := s.modPair (fun p => { p with hbMsc := m, missed := 0, peerHb := true })
      let s := if s.mgmt.pair.role = .active then s.noteUnsync unsync else s
      let st := s.mgmt.pair.st
      if !(st == .paired || st == .joining) || m != s.clk.msc then s
      else
        let s := if st == .paired then s.setReg (prtA 0x18) (BitVec.ofNat 64 m) else s
        match s.compareBooks ds (unsync ++ carried) with
        | (agree, s) =>
          let s := s.modPair (fun p => { p with agree := if agree then p.agree + 1 else 0 })
          ((carried ++ s.carriedKeys).foldl (fun s k => s.markUnsync k) s).judgeTests tests

/-- BATCH_DIGEST_REQUEST (R401): the ACTIVE device serves the request, at most 8 groups in an interval; the STANDBY device
compares the digests of the batches of a group that it has asked for. -/
def State.batchDigests (s : State) (q : Nat) (ds : List Nat) : State :=
  if s.tells then
    if 8 ≤ s.mgmt.pair.served then s
    else (s.modPair (fun p => { p with served := p.served + 1 })).emit
      (.link linkDigest (q :: (List.range 1408).map (fun b => s.batchDigest q b (s.clk.msc - 1))))
  else if s.mgmt.pair.asked.contains q then
    let s := s.modPair (fun p => { p with asked := p.asked.filter (· != q) })
    (List.range 1408).foldl (fun s b =>
      if ds.getD b 0 = s.batchDigest q b (s.clk.msc - 1) then s else s.markUnsync (1408 * q + b)) s
  else s

/-- HB_MISSED (R400): no Part B of the interval by 120 µs. -/
def State.hbMissed (s : State) : State :=
  let p := s.mgmt.pair
  if (p.st = .paired ∨ p.st = .joining) ∧ 240000 ≤ s.clk.cycle ∧ p.hbMsc < s.clk.msc ∧ p.missMsc ≠ some s.clk.msc then
    (s.modPair (fun p => { p with missed := p.missed + 1, missMsc := some s.clk.msc, peerHb := false })).pairCnt 5 1
  else s

/-- A join fails (R407): the ACTIVE device, and a device whose PAIR_JOIN ends with STATE, are ALONE again; a STANDBY device
that joined again by AUTO_REJOIN keeps its role, and is BROKEN as before. -/
def State.joinFail (s : State) : State :=
  let p := s.mgmt.pair
  if p.role = .standby ∧ p.joinAcc = none then (s.modPair (fun p => { p with agree := 0 })).setPairSt .broken .standby
  else
    let s := s.modPair (fun p => { p with joinAcc := none, agree := 0, base := none, unsync := [], copies := [] })
    let s := (s.setPairSt .alone .active).setPairWait false
    match p.joinAcc with
    | some a => s.complete a { status := stState }
    | none => s

/-- HEARTBEAT_LOST (R409): HB_MISS missed heartbeats, or both sync lanes lost; a join fails (R407). -/
def State.heartbeatLost (s : State) : State :=
  let p := s.mgmt.pair
  if !(decide (max 1 s.hbMiss ≤ p.missed) || p.lanes == 0#2) then s
  else
    match p.st with
    | .paired =>
      let s := ((s.modPair (fun p => { p with peerHb := false })).setPairSt .broken p.role).raise evHeartbeatLost 0
      if p.arbOk then
        if p.role = .active then s.emit (.link linkWitness [3])
        else s.emit (.link linkWitness [2, s.epoch, (s.reg (prtA 0x18)).toNat])
      else s
    | .joining =>
      (s.modPair (fun p => { p with peerHb := false })).joinFail
    | _ => s

/-- Known-answer tests of a divergence in the window of a group and in the guard interval that follows (R404): the
results of the core's batch and of its assembler's context are free values. A unit that fails is a fault whatever its
error count; the result goes out with the next Part B. -/
def State.divergenceTest (s : State) (q : Nat) : State :=
  if s.mgmt.pair.kat.any (fun e => e.1 == q) then
    match s.draw with
    | (v, s) =>
      let pass := v.toNat % 4 == 3
      let s := s.modPair (fun p => { p with kat := p.kat.filter (fun x => x.1 != q), katOwn := p.katOwn ++ [(q, pass, false)] })
      match pass, s.coreOf q with
      | false, some g => s.fault 0 g
      | _, _ => s
  else s

/-! Row copies and forwarded roadbooks (R402, R403). -/

/-- Row copies in an interval (R396). -/
def State.copyLimit (s : State) : Nat := if s.mgmt.pair.lanes = 3#2 then 256 else 96

/-- The ACTIVE device may copy a batch now (R396, R402): from 99 µs to 119 µs, within the limit, and no other UNSYNC
batch has waited longer. -/
def State.copyDue (s : State) (key : Nat) : Bool :=
  let p := s.mgmt.pair
  let v := p.peerUnsync.get 0 key
  decide (198000 ≤ s.clk.cycle ∧ s.clk.cycle ≤ 238000 ∧ p.copied.length < s.copyLimit) && v != 0 &&
    p.peerUnsync.all (fun e => e.2 == 0 || decide (v ≤ e.2))

/-- The contents of a row copy (R402): the rows of the batch, and its report and hint entries as they stood at 99 µs. -/
def State.copyWords (s : State) (key : Nat) : List Nat :=
  let q := key / 1408
  let b := key % 1408
  let img := s.mgmt.pair.copyImg.getD (s.grant.reports, s.grant.hints)
  ((List.range 8).map (fun k =>
    let r := img.1.get {} (laneKey q b k)
    let h := img.2.get {} (laneKey q b k)
    (List.range 12).map (fun w => (s.rowWord q b k (4 + w)).toNat) ++
      [b2n r.valid, r.occ, r.stamp, b2n h.valid, h.demand, h.prio, h.target])).flatten

/-- ROW_COPY: the ACTIVE device sends it with its contents, the STANDBY device keeps it for the next snapshot. -/
def State.rowCopy (s : State) (c : RowCopy) : State :=
  let p := s.mgmt.pair
  if !(p.st == .paired || p.st == .joining) then s
  else
    match p.role with
    | .standby => (s.modPair (fun p => { p with copies := p.copies ++ [c] })).pairCnt 2 1
    | .active =>
      if s.copyDue c.key then
        let s := s.modPair (fun p => { p with copyImg := some (p.copyImg.getD (s.grant.reports, s.grant.hints)) })
        let t := s.modPair (fun p => { p with copied := p.copied ++ [c.key], peerUnsync := p.peerUnsync.set 0 c.key 0 })
        (t.pairCnt 2 1).emit (.link linkRow (c.key :: s.copyWords c.key))
      else s
    | _ => s

/-- Install a row copy (R402). -/
def State.installCopy (s : State) (c : RowCopy) : State :=
  let q := c.key / 1408
  let b := c.key % 1408
  let s := (List.range 8).foldl (fun s k =>
    let s := (List.range 12).foldl (fun s w => s.setRowWord q b k (4 + w) (c.words.getD (12 * k + w) 0)) s
    let rep : Report := match c.reports.getD k none with
      | some (o, st) => { occ := o % 2 ^ 23, stamp := st % 32768, valid := true }
      | none => {}
    let hnt : Hint := match c.hints.getD k none with
      | some (d, pr, t) => { demand := d % 2 ^ 23, prio := pr % 8, valid := true, target := t % 65536 }
      | none => {}
    { s with grant := { s.grant with reports := s.grant.reports.set {} (laneKey q b k) rep
                                     hints := s.grant.hints.set {} (laneKey q b k) hnt } }) s
  s.markSync c.key

/-- Copies received in the previous interval are installed at the snapshot (R402). -/
def State.installCopies (s : State) : State :=
  let l := s.mgmt.pair.copies
  l.foldl (fun s c => s.installCopy c) (s.modPair (fun p => { p with copies := [] }))

/-- Roadbooks that can be forwarded in an interval (R396). -/
def State.forwardLimit (s : State) : Nat := if s.mgmt.pair.lanes = 3#2 then 48 else 24

/-- A burst of a forwarded roadbook, on the road. -/
def burstOf (b : FwdBurst) : Burst :=
  { kind := b.kind, term := b.term, prof := b.prof, start := b.start, len := b.len, allocs := b.allocs }

/-- The STANDBY device takes a forwarded roadbook in place of its own (R403): what its own counted as GRANTED is counted
for the copy. -/
def State.replaceBook (s : State) (sc : Nat) (b : FwdBook) : State :=
  let bursts := b.bursts.map burstOf
  let put := fun (k : Book) => if k.msc = b.msc then { k with bursts := bursts } else k
  let x := s.sub sc
  match x.books.find? (fun k => k.msc == b.msc) with
  | none => s
  | some k =>
    let s := s.setSub sc { x with
      books := x.books.map put, built := x.built.map put
      led := if k.counted then (x.led.grant bursts.length).ungrant k.bursts.length else x.led }
    if k.counted then (s.grantRows k.bursts (fun n => n - 1)).grantRows bursts (fun n => n + 1) else s

/-- The words of a roadbook that is forwarded whole (R403). -/
def Burst.words (b : Burst) : List Nat :=
  let kind := match b.kind with
    | .data => 0
    | .ploamOnly => 1
    | .serial => 2
    | .ranging => 3
  [kind, b.term, b.prof, b.start, b.len, b.allocs.length] ++
    (b.allocs.map (fun a => [(match a.unit with
      | some u => u + 1
      | none => 0), a.alloc, a.size, a.start, b2n a.dbru, b2n a.ploamu])).flatten

/-- ROADBOOK_FORWARD (R403): an excluded roadbook is sent, or received and taken, whole. -/
def State.forwardBook (s : State) (sc : Nat) (b : FwdBook) : State :=
  let p := s.mgmt.pair
  let m := b.msc
  if p.excluded.contains (sc, m) && decide (p.forwarded.length < s.forwardLimit) then
    let s := (s.modPair (fun p => { p with
      excluded := p.excluded.filter (· != (sc, m)), forwarded := p.forwarded ++ [(sc, m)] })).pairCnt 3 1
    match p.role with
    | .active => s.emit (.link linkBook ([sc, m] ++
        ((((s.sub sc).books.find? (fun k => k.msc == m)).map (fun k => (k.bursts.map Burst.words).flatten)).getD [])))
    | .standby => s.replaceBook sc b
    | _ => s
  else s

/-- The interval ends: an excluded roadbook that was not forwarded is skipped, and the STANDBY device records
DISCARDED for each of its grants (R403). -/
def State.excludedEnd (s : State) : State :=
  let p := s.mgmt.pair
  let s := s.modPair (fun p => { p with excluded := [], forwarded := [], hintCount := 0, served := 0, copied := [], copyImg := none })
  let s := if p.excluded.isEmpty then s else s.pairCnt 4 p.excluded.length
  if p.role = .standby then
    p.excluded.foldl (fun s e =>
      match (s.sub e.1).books.find? (fun k => k.msc == e.2) with
      | none => s
      | some k => (List.range k.bursts.length).foldl (fun s i => s.writeOutcome e.1 e.2 i .discarded) s) s
  else s

/-- What a pair does at a milestone: the roles of a switch-over, the end of the interval's forwarding, and the
end of the wait for a VERDICT (R403, R404, R412). -/
def State.pairMilestone (s : State) : State :=
  let s := (s.excludedEnd).swapRoles
  let s := match s.mgmt.pair.verdict with
    | some (h, _) => if h + 2000000000 ≤ s.clk.hubc then s.modPair (fun p => { p with verdict := none }) else s
    | none => s
  let s := match s.mgmt.pair.takeover with
    | some m => if m ≤ s.clk.msc then s.modPair (fun p => { p with takeover := none }) else s
    | none => s
  if s.mgmt.pair.st = .unpaired then s else s.backlogCheck

/-! Decision and hint records (R398). -/

/-- The activation state of a code of R97. -/
def actOf (n : Nat) : ActSt :=
  match n with
  | 1 => .registered
  | 2 => .discovered
  | 3 => .ranging
  | 4 => .operation
  | 5 => .draining
  | 6 => .disabled
  | _ => .free

/-- What a drain leads to, by the code of a decision record. -/
def afterOf (n : Nat) : AfterDrain :=
  match n with
  | 1 => .deactivated
  | 2 => .disabled
  | 3 => .refused
  | 4 => .removed
  | _ => .registered

/-- The STANDBY device takes over a terminal as the ACTIVE device decided it (R120, R398): one that has gone back to
REGISTERED or DISABLED has left its grants and its keys; its preload record is the device's own. -/
def State.putTerm (s : State) (sc t : Nat) (r : TermRec) : State :=
  let a := actOf r.act
  let was := (s.term sc t).act
  let s := if (a = .registered ∨ a = .disabled) ∧ was ≠ a ∧ was ≠ .free then (s.leaveTerm sc t a).freeKeys sc t else s
  let s := if r.misses ≠ 0 ∨ r.operE.isSome = true then s.closeWins sc t else s
  let s := s.modTerm sc t (fun y => { y with
    act := a, road := if was = a then y.road else .disabled, after := afterOf r.after, serial := r.serial, dom := r.dom
    ta := r.ta, assignFrame := r.assignFrame, rtt := r.measured, eqd := r.eqd, driftF := r.driftF, operE := r.operE
    rtFrame := r.rtFrame, rtDelta := r.rtDelta, misses := r.misses, lostCount := BitVec.ofNat 32 r.lost
    eqdUpdates := BitVec.ofNat 32 r.updates, rogueIso := r.rogueIso
    prof := if r.operE.isSome && y.operE.isNone then 0 else y.prof
    profP := if r.operE.isSome && y.operE.isNone then 0 else y.profP })
  s.setRetd sc t { rtt := r.rtt, rogue := r.rogue }

/-- A change that the ACTIVE device decided joins the deferred changes where its record says (R46, R47, R398). -/
def State.recorded (s : State) (kind idx : Nat) (x : Change) (w : DecAt) : State :=
  { s with deferred := pendInsert s.deferred ⟨w.e, w.acc, 1 + kind, idx, w.moment, none, x⟩ }

/-- DECISION_RECORD: the STANDBY device applies the decision exactly as recorded. DEDUCED: a detour is named where the
STANDBY device's own unit is in service. -/
def State.decision (s : State) (d : Decision) : State :=
  if s.mgmt.pair.role != .standby then s
  else
    match d with
    | .term sc t r => s.putTerm sc t r
    | .key sc t i w bytes => if i = 1 ∨ i = 2 then s.takeKey sc t i w (padTo 16 (Config.unwrap [] bytes)) else s
    | .loss sc t w => s.recorded 2 (512 * sc + t) (.termLoss sc t) w
    | .rerange sc t w => s.recorded 2 (512 * sc + t) (.rerange sc t) w
    | .demote sc t reason w =>
      ((s.cancelOff sc t).recorded 1 (512 * sc + t) (.demote sc t reason) w).nameDemote sc t (max 1 (min 3 reason)) w.e
    | .rogue sc t w => s.recorded 2 (512 * sc + t) (.rogueStop sc t) w
    | .walk sc running suspended unresolved test =>
      s.modRogue sc (fun r => { r with running := running, suspended := suspended, unresolved := unresolved, test := test })
    | .core g spare w =>
      if (s.core g).st == .active && (s.core spare).st == .spare then
        (s.recorded 0 g (.coreDetour g spare) w).nameDetour g spare w.e
      else s
    | .unit sc kind spare w =>
      let cls := 1 + kind % 2
      let u := 104 * scDie sc + (if kind % 2 = 0 then (s.sub sc).engine else (s.sub sc).dsp)
      if (s.health cls u).st == .active && (s.health cls (104 * scDie sc + spare)).st == .spare then
        (s.recorded 0 sc (.chDetour sc (kind % 2) spare) w).nameChDetour cls u spare
      else s

/-- HINT_RECORD: the STANDBY device writes the mirrored posting. -/
def State.hintRecord (s : State) (h : HintRec) : State :=
  if s.mgmt.pair.role != .standby then s
  else s.postHint h.dom h.unit (h.demand + h.prio % 8 * 2 ^ 23) h.target

/-! Family 0x0C (R420). -/

/-- PAIR_CONFIG. -/
def infoPairConfig : CmdInfo :=
  { op := 0x0C01, buf := .inp (fun n => n == 32)
    args := fun c => decide (c.n0 < 2 ^ 16) && decide (c.n1 < 2 ^ 18) && decide (1 ≤ c.n1 % 256 ∧ c.n1 % 256 ≤ 64)
      && decide (2 ≤ c.n1 / 256 % 256) && decide (c.n2 < 2 ^ 16) && c.zeroFrom 3 }

def bodyPairConfig : Body := fun _ c s =>
  let p := s.mgmt.pair
  if !(p.st == .unpaired || p.st == .alone) then bad stState s
  else
    let s := s.setReg (prtA 0) (BitVec.ofNat 64 (c.n0 * 2 ^ 16 + c.n1 / 2 ^ 16 % 2 * 2 ^ 9 + c.n1 / 2 ^ 17 * 2 ^ 10 + c.n1 % 256))
    let s := s.setReg (prtA 0xC) (BitVec.ofNat 64 c.n2)
    let s := s.modPair (fun p => { p with arbKey := c.inp, arbMiss := c.n1 / 256 % 256 })
    let s := ((s.endTest 512).endTest 513).endTest 514
    ok (s.setPairSt .alone (if p.role = .fenced then .fenced else .active))

/-- PAIR_JOIN (R407). -/
def infoPairJoin : CmdInfo := { op := 0x0C02, args := fun c => c.zeroFrom 0 }

/-- Every tree is DISABLED. -/
def State.treesOff (s : State) : Bool := s.pon.subs.all (fun e => e.2.road == .disabled) && s.pon.treeDrain.isEmpty

def bodyPairJoin : Body := fun rp c s =>
  let p := s.mgmt.pair
  if rp.isSome then ok s
  else if p.st != .alone || p.role != .active || !s.treesOff || p.lanes == 0#2 then bad stState s
  else
    let s := (s.modPair (fun p => { p with joinAcc := some c.acc, agree := 0, missed := 0, hbMsc := s.clk.msc })).unsyncAll
    (.opened, s.setPairSt .joining .standby)

/-- PAIR_JOINED (R407). -/
def State.pairJoined (s : State) (good : Bool) : State :=
  let p := s.mgmt.pair
  if p.st != .joining then s
  else if good then
    if p.agree < 16 ∨ (p.role = .standby ∧ p.unsyncCount ≠ 0) ∨ (p.role = .active ∧ p.peerUnsync ≠ []) then s
    else
      let s := (s.modPair (fun p => { p with joinAcc := none })).setPairSt .paired p.role
      let s := if p.role = .active then s.setPairWait true else s
      s.completeOk p.joinAcc
  else s.joinFail

/-- PAIR_LEAVE (R410, R420). -/
def infoPairLeave : CmdInfo := { op := 0x0C03, args := fun c => decide (c.n0 < 2) && c.zeroFrom 1 }

def bodyPairLeave : Body := fun _ c s =>
  let p := s.mgmt.pair
  let s := if p.role = .standby ∧ c.n0 = 1 then (List.range 384).foldl (fun s sc => s.discardRoad sc) s else s
  let s := s.modPair (fun p => { p with joinAcc := none, base := none, unsync := [], copies := [], kat := [], verdict := none
                                        arbOk := false, peerHb := false, swapE := none, missed := 0, lanes := 0#2 })
  let s := ((s.setPairSt .unpaired .none).setPairWait false).settlePon
  let s := (s.settleLane 512).settleLane 513
  ok (match p.joinAcc with
    | some a => s.complete a { status := stState }
    | none => s)

/-- SWITCH_OVER (R412). -/
def infoSwitchOver : CmdInfo := { op := 0x0C04, defer := true, args := fun c => c.zeroFrom 0 }

def bodySwitchOver : Body := fun rp c s =>
  let p := s.mgmt.pair
  if rp.isNone && !(p.st == .paired && p.role == .active) then bad stState s
  else
    match s.resolveE rp c with
    | .error n => bad n s
    | .ok e => if !s.pendRoom then bad stNoRoom s else deferred e (s.defer c e .switchOver)

/-- FORCE_ACTIVE (R412). -/
def infoForceActive : CmdInfo := { op := 0x0C05, args := fun c => c.zeroFrom 0 }

def bodyForceActive : Body := fun rp _ s =>
  let p := s.mgmt.pair
  let down := match p.downAt with
    | some h => decide (h + (s.fenceMs + 2) * 2000000 ≤ s.clk.hubc)
    | none => false
  if rp.isSome then ok s
  else if p.role = .standby ∧ p.st = .broken ∧ down = true then ok s.nextEpoch.takeover
  else bad stState s

/-- TREE_PAIR (R395). -/
def infoTreePair : CmdInfo :=
  { op := 0x0C06
    args := fun c => decide (c.n0 < 2 ^ 16) && decide (c.n0 % 256 < 192) && decide (c.n0 / 256 < 192)
      && c.n0 % 256 / 48 != c.n0 / 256 / 48 && c.zeroFrom 1 }

/-- A tree holds no terminal, flow or allocation unit. -/
def State.treeEmpty (s : State) (c : Nat) : Bool :=
  !(s.pon.terms.any (fun e => e.1 / 1024 == c && e.2.act != .free)) &&
  !(s.data.flows.any (fun e => e.2.inst && e.2.sc / 2 == c)) && !(s.grant.units.any (fun e => e.2.inst && e.2.sc / 2 == c))

/-- Credits of a sub-channel of the working tree, reserved or not (R352). -/
def State.creditNeedOf (s : State) (sc : Nat) : Nat := cipherCost (s.sub sc).rate (s.subCph sc).sm4

def bodyTreePair : Body := fun _ c s =>
  let w := c.n0 % 256
  let p := c.n0 / 256
  let subs := [2 * p, 2 * p + 1]
  let need := s.creditNeedOf (2 * w) + s.creditNeedOf (2 * w + 1)
  if (s.pairOf w).isSome || (s.pairOf p).isSome || subs.any (fun sc => (s.sub sc).road != .disabled || (s.sub sc).isPending)
      || !s.treeEmpty p then bad stState s
  else if subs.any (fun sc => !s.chRoom sc) || decide (s.budget (p / 48) < s.reserved (p / 48) + need) then bad stNoRoom s
  else
    let s := subs.foldl (fun s sc => s.chBind sc) s
    let s := (s.setSubCph (2 * p) { s.subCph (2 * p) with credits := s.creditNeedOf (2 * w) }).setSubCph (2 * p + 1)
      { s.subCph (2 * p + 1) with credits := s.creditNeedOf (2 * w + 1) }
    ok (s.setTreePair w (some { p := p }))

/-- TREE_UNPAIR (R420). -/
def infoTreeUnpair : CmdInfo := { op := 0x0C07, args := fun c => decide (c.n0 < 192) && c.zeroFrom 1 }

def bodyTreeUnpair : Body := fun _ c s =>
  match s.mgmt.pair.trees.get none c.n0 with
  | none => bad stNotFound s
  | some p =>
    if p.onProtect then bad stState s
    else ok ((s.setTreePair c.n0 (some { p with unpair := true })).unpairSettle c.n0)

/-- The cause of an automatic switch away from w persists (R413). -/
def State.switchCause (s : State) (w : Nat) : Bool :=
  (s.sub (2 * w)).oos || (s.sub (2 * w + 1)).oos || s.laneSt (2 * w) == lnLost || s.laneSt (2 * w + 1) == lnLost ||
    s.dieLost (w / 48) || (match s.coreOf (w / 2) with
      | none => true
      | some g => (s.core g).st == .lost && (s.core g).detour.isNone)

/-- SWITCH_TREE (R413, R420). -/
def infoSwitchTree : CmdInfo :=
  { op := 0x0C08, defer := true
    args := fun c => decide (c.n0 < 2 ^ 9) && decide (c.n0 % 256 < 192) && c.zeroFrom 1 }

def bodySwitchTree : Body := fun rp c s =>
  let w := c.n0 % 256
  match s.mgmt.pair.trees.get none w with
  | none => bad stNotFound s
  | some _ =>
    if rp.isNone && c.n0 / 256 == 0 && s.switchCause w then bad stState s
    else
      match s.resolveE rp c with
      | .error n => bad n s
      | .ok e => if !s.pendRoom then bad stNoRoom s else deferred e (s.defer c e (.treeSwitch w (decide (c.n0 / 256 = 1))))

/-- SWITCH_TREE at its snapshot: the side named transmits from frame E (R413). -/
def State.applyTreeSwitch (s : State) (w : Nat) (toP : Bool) (e : Nat) : State :=
  match s.mgmt.pair.trees.get none w with
  | none => s
  | some p =>
    if p.onProtect = toP then s
    else (s.setTreePair w (some { p with onProtect := toP, fromMsc := e })).raise evTreeSwitch (w + 256 * b2n toP)

/-- READ_PAIR (R420). -/
def infoReadPair : CmdInfo := { op := 0x0C09, query := true, buf := .out (fun _ => 64), args := fun c => c.zeroFrom 0 }

/-- PAIR_STATE as it reads (R423). -/
def State.pairState (s : State) : Nat :=
  let p := s.mgmt.pair
  p.st.code * 2 ^ 8 + b2n p.arbOk * 2 ^ 7 + b2n p.peerHb * 2 ^ 6 + (p.lanes.toNat % 2 + p.lanes.toNat / 2) * 2 ^ 4 + p.role.code

def bodyReadPair : Body := fun _ c s =>
  let cnt := ((List.range 8).map (fun k => leBytes 4 (s.reg (prtA (0x20 + 4 * k))).toNat)).flatten
  ok (s.outBuf c (padTo 64 (leBytes 4 s.pairState ++ leBytes 4 s.epoch ++ leBytes 8 (s.reg (prtA 0x18)).toNat ++ cnt)))

/-! Meanings. -/

/-- PAIR_CONFIG. -/
def execPairConfig (c : Desc) (s : State) : Answer := kept s (runCmd infoPairConfig bodyPairConfig c s)

/-- PAIR_JOIN. -/
def execPairJoin (c : Desc) (s : State) : Answer := kept s (runCmd infoPairJoin bodyPairJoin c s)

/-- PAIR_JOINED. -/
def execPairJoined (ok : Bool) (s : State) : Answer := kept s (s.pairJoined ok)

/-- PAIR_LEAVE. -/
def execPairLeave (c : Desc) (s : State) : Answer := kept s (runCmd infoPairLeave bodyPairLeave c s)

/-- SWITCH_OVER. -/
def execSwitchOver (c : Desc) (s : State) : Answer := kept s (runCmd infoSwitchOver bodySwitchOver c s)

/-- FORCE_ACTIVE. -/
def execForceActive (c : Desc) (s : State) : Answer := kept s (runCmd infoForceActive bodyForceActive c s)

/-- TREE_PAIR. -/
def execTreePair (c : Desc) (s : State) : Answer := kept s (runCmd infoTreePair bodyTreePair c s)

/-- TREE_UNPAIR. -/
def execTreeUnpair (c : Desc) (s : State) : Answer := kept s (runCmd infoTreeUnpair bodyTreeUnpair c s)

/-- SWITCH_TREE. -/
def execSwitchTree (c : Desc) (s : State) : Answer := kept s (runCmd infoSwitchTree bodySwitchTree c s)

/-- READ_PAIR. -/
def execReadPair (c : Desc) (s : State) : Answer := kept s (runCmd infoReadPair bodyReadPair c s)

/-- HEARTBEAT_SEND. -/
def execHeartbeatSend (s : State) : Answer := kept s s.heartbeatSend

/-- HEARTBEAT. -/
def execHeartbeat (s : State) : Answer := kept s s.heartbeat

/-- ARBITER_LOST. -/
def execArbiterLost (s : State) : Answer := kept s s.arbiterMissed

/-- TOKEN. -/
def execToken (k : TokenIn) (s : State) : Answer := kept s (s.token k)

/-- DENY (R409): the device keeps its role. -/
def execDeny (s : State) : Answer := .next s

/-- VERDICT. -/
def execVerdict (k : Option TokenIn) (s : State) : Answer := kept s (s.verdict k)

/-- FENCE_N (R410). -/
def execFenceN (s : State) : Answer := kept s s.fence

/-- FENCE_TIMEOUT. -/
def execFenceTimeout (s : State) : Answer := kept s s.fenceTimeout

/-- INTERVAL_RECORD_A. -/
def execIntervalRecordA (s : State) : Answer := kept s s.sendPartA

/-- INTERVAL_RECORD_B. -/
def execIntervalRecordB (s : State) : Answer := kept s s.sendPartB

/-- INTERVAL_RECORD_RECEIVE. -/
def execIntervalRecordReceive (r : IntervalRec) (s : State) : Answer := kept s (s.receiveRecord r)

/-- HB_MISSED. -/
def execHbMissed (s : State) : Answer := kept s s.hbMissed

/-- HEARTBEAT_LOST. -/
def execHeartbeatLost (s : State) : Answer := kept s s.heartbeatLost

/-- BATCH_DIGEST_REQUEST. -/
def execBatchDigestRequest (q : Nat) (ds : List Nat) (s : State) : Answer := kept s (s.batchDigests q ds)

/-- ROW_COPY. -/
def execRowCopy (c : RowCopy) (s : State) : Answer := kept s (s.rowCopy c)

/-- ROADBOOK_FORWARD. -/
def execRoadbookForward (sc : Nat) (b : FwdBook) (s : State) : Answer := kept s (s.forwardBook sc b)

/-- DECISION_RECORD. -/
def execDecisionRecord (d : Decision) (s : State) : Answer := kept s (s.decision d)

/-- HINT_RECORD. -/
def execHintRecord (h : HintRec) (s : State) : Answer := kept s (s.hintRecord h)

end Sys2Proof.Machine
end

