-- ==== Sys2Proof/Machine/Reset.lean ====
section
/-! DEFINITION. Resets of the core logic and of the retained domain (R15, R433, R468, R515, R517): what each one
leaves, and the road ledger's record of R63. -/

namespace Sys2Proof.Machine

/-! The ledger record (R63). -/

/-- The record being written becomes durable: into the slot that is not the newer one, in both banks. -/
def State.commitRecord (s : State) : State :=
  match s.pon.recPending with
  | none => s
  | some r =>
    if s.pon.recNext = 0 then { s with pon := { s.pon with recSlot0 := some r, recNext := 1, recPending := none } }
    else { s with pon := { s.pon with recSlot1 := some r, recNext := 0, recPending := none } }

/-- The latest valid record (R64). -/
def PonSt.lastRecord (p : PonSt) : Option LedgerRec :=
  match p.recSlot0.filter (fun r => r.valid), p.recSlot1.filter (fun r => r.valid) with
  | some a, some b => if a.msc < b.msc then some b else some a
  | some a, none => some a
  | none, b => b

/-! Detours that are under way (R73, R414): the detour state is retained, and a unit that is being replaced is
replaced by then. -/

/-- A channel unit's detour takes place. -/
def State.settleCh (s : State) (sc kind spare : Nat) : State :=
  let old := if kind = 0 then (s.sub sc).engine else (s.sub sc).dsp
  if old = spare then s
  else (s.bindCh sc kind spare).setUnitSt (chClass kind) (scDie sc * 104 + old) .retired

/-- Channel detours that are pending or under way take place. -/
def State.settleChs (s : State) : State :=
  let s := s.deferred.foldl (fun s p => match p.change with
    | .chDetour sc kind k => s.settleCh sc kind k
    | _ => s) s
  s.pon.subs.foldl (fun s e => e.2.chDetour.foldl (fun s d => s.settleCh e.1 d.1 d.2.2.1) s) s

/-! What each part of the core logic keeps. -/

/-- Ring over a restart (R266): DHEAD and CDONE are retained. DEDUCED: completions that were being discarded (R235,
R263) are discarded still, until the ring is enabled. -/
def Ring.restart (x : Ring) : Ring :=
  { dhead := x.dhead, cdone := x.cdone, doneSeqs := x.doneSeqs, discard := x.discard
    st := if x.cdone != x.dhead then .restored else .disabled }

/-- The host interface over a restart (R252, R264, R266): the journal, and the completions that no posting mark
covers. -/
def HostSt.restart (h : HostSt) : HostSt :=
  let rings := h.rings.mapAll (fun _ => {}) (fun _ x => x.restart)
  { rings := rings
    jrn := h.jrn.map (fun j => { j with started := false, replayed := true })
    acceptNum := h.acceptNum, jrnExtra := h.jrnExtra
    cpls := (h.cpls.filter (fun c => !c.receive)).map (fun c => { c with replayed := true }) }

/-- Trees and sub-channels over a restart: unit bindings (R414), the ranging table (R108) and the ledger records
(R63). -/
def PonSt.restart (p : PonSt) : PonSt :=
  { subs := p.subs.mapAll Sub.dflt (fun sc x => { Sub.dflt sc with engine := x.engine, dsp := x.dsp })
    retained := p.retained, recSlot0 := p.recSlot0, recSlot1 := p.recSlot1, recNext := p.recNext }

/-- Cores keep their mapping, and a spare that has been named (R21, R153, R157); MAP_MSC reads 0. -/
def Core.restart (x : Core) : Core := { st := x.st, group := x.group, detour := x.detour }

/-- The wrapped store and the fingerprints of broadcast and SA slots (R364, R365); before stage 5 the slots have
not been loaded, and the store stands. -/
def CphSt.restart (c : CphSt) (loaded : Bool) : CphSt :=
  if loaded then
    { storeSa := c.sas.mapTo (fun _ => {}) (fun _ x => ⟨{ x with key := [] }, ⟨x.key⟩⟩)
      storeKeys := (c.slots.keep (fun k => decide (98304 ≤ k % 131072))).mapTo (fun _ => {}) (fun _ x =>
        ⟨x.key.map (fun b => ⟨b⟩), x.prints⟩) }
  else { storeSa := c.storeSa, storeKeys := c.storeKeys }

/-- Device time over a warm reset or a cold start (R372, R373, R376, R377). -/
def TimeSt.restart (x : TimeSt) (cold : Bool) : TimeSt :=
  if cold then
    { dev := x.dev, valid := x.valid, kept := x.valid, freq := x.freq, target := x.freq, integ := x.integ, freqHold := x.freqHold
      startWait := x.valid }
  else
    { dev := x.dev, valid := x.valid, kept := x.kept, servo := x.servo, freq := x.freq, target := x.target, integ := x.integ
      freqHold := x.freqHold, everLocked := x.everLocked, good := x.good, lastOffset := x.lastOffset }

/-- The device pair over a restart (R266, R395, R406, R420, R423): its configuration, state and role, the tree
pairs, and the mirrored ring state. A FENCED device leaves FENCED at a cold start (R410): it starts as a STANDBY. -/
def Pair.restart (p : Pair) (cold : Bool) : Pair :=
  { st := p.st, role := if cold && p.role == .fenced then .standby else p.role, arbKey := p.arbKey, arbMiss := p.arbMiss
    mirror := p.mirror, trees := p.trees
    base := if p.role == .standby && p.st != .unpaired then some 0 else none }

/-- The recorder over a restart (R438 to R446): copies in MRAM, the clear key and the clear ledger. A failed bank is
tested again at a cold start. -/
def RecSt.restart (r : RecSt) (cold : Bool) : RecSt :=
  { mram0 := r.mram0, mram1 := r.mram1, bank0 := r.bank0 || cold, bank1 := r.bank1 || cold, mramOk := r.mramOk || cold
    clearKey := r.clearKey, ledger := r.ledger }

/-- The update session over a restart (R481): a verification begins again, and an image in trial is started once
more. -/
def Upd.restart (u : Upd) : Upd :=
  { u with st := if u.st == .verifying then .received else u.st, openAcc := none, openAt := none, late := false, verAcc := none
           bootDue := u.bootDue || u.started, started := false }

/-- Health over a cold start (R424): the totals are cleared. -/
def Health.restart (h : Health) (cold : Bool) : Health :=
  { h with win := 0, openMsc := none, total := if cold then 0 else h.total }

/-- The port of R450 over a restart: unlocked and locked until the next cold start. -/
def Debug.restart (d : Debug) (cold : Bool) : Debug :=
  if cold then {} else { fails := d.fails, unlocked := d.unlocked, locked := d.locked }

/-- Registers that a reset leaves: those of the retained domain, at a warm reset those of the cold domain too, and
STATE of a LOST lane (R15, R496). -/
def State.restartRegs (s : State) (cold : Bool) : State :=
  let t := { s with regs := s.regs.keep (fun a => match regAt a with
    | some ra => ra.reg.dom == .retained || (!cold && ra.reg.dom == .cold)
    | none => false) }
  (List.range 516).foldl (fun t l => s.keepLost t l) t

/-- Reset of the core logic (R15, R433, R515, R517): everything but the retained domain, the flash devices and the
detour state. -/
def State.coreReset (s : State) (cold : Bool) : State :=
  let loaded := decide (5 ≤ s.stage ∧ s.stage < 7)
  let s := (s.commitRecord.settleChs).restartRegs cold
  let m := s.mgmt
  { s with
    clk := {}, latch := [], pendLow := [], host := s.host.restart, doms := [], deferred := []
    pon := s.pon.restart
    grant := { cores := s.grant.cores.mapAll Core.dflt (fun _ x => x.restart) }
    data := {}
    buf := { layout := s.buf.layout, layoutPend := s.buf.layoutPend, copies := s.buf.copies, lost := s.buf.lost }
    cph := s.cph.restart loaded
    time := s.time.restart cold
    mgmt :=
      { units := m.units.mapAll (fun k => Health.dflt (k / 4096) (k % 4096)) (fun _ h => h.restart cold)
        mods := m.mods.mapAll (fun _ => {}) (fun _ x => { x with retries := 0 })
        pair := m.pair.restart cold, rcd := m.rcd.restart cold, sens := { trip := m.sens.trip }, dbg := m.dbg.restart cold
        wps := m.wps, conv := m.conv, wpLatest := m.wpLatest, wpVer := m.wpVer, jrnSince := m.jrnSince, blkSince := m.blkSince
        upd := m.upd.restart, pwr := { m.pwr with held := false, stageDone := false } } }

/-! The retained domain. -/

/-- Slot of the highest version, 0 with none. -/
def wpNewest (m : SMap (Option Waypoint)) : Nat :=
  (m.foldl (fun (a : Nat × Nat) e => match e.2 with
    | some w => if a.2 < w.ver then (e.1, w.ver) else a
    | none => a) (0, 0)).1

/-- The highest version. -/
def wpTop (m : SMap (Option Waypoint)) : Nat :=
  m.foldl (fun a e => match e.2 with
    | some w => max a w.ver
    | none => a) 0

/-- Registers of the retained domain return to their reset values (R9, R15). -/
def State.dropRetained (s : State) : State :=
  { s with regs := s.regs.keep (fun a => match regAt a with
    | some ra => ra.reg.dom != .retained
    | none => false) }

/-- What MRAM holds of service is gone: journal and ring retention, ranging table, ledger records, key store, pair
configuration, recorder copies, clear key and update session (R15, R456, R468). The clear ledger is never cleared
(R445). -/
def State.loseMram (s : State) : State :=
  let m := s.mgmt
  { s with
    host := { s.host with rings := [], jrn := [], acceptNum := 0, jrnExtra := 0, cpls := [] }
    pon := { s.pon with retained := [], recPending := none, recSlot0 := none, recSlot1 := none, recNext := 0 }
    cph := { s.cph with storeSa := [], storeKeys := [] }
    mgmt := { m with
      pair := {}
      rcd := { m.rcd with mram0 := none, mram1 := none, clearKey := none, nonce := none }
      jrnSince := 0, blkSince := 0
      upd := { m.upd with st := .idle, man := none, old := none, trials := 0, swapped := false, cause := 0, blk := 0
                          bootDue := false, started := false }
      pwr := { m.pwr with erase := false } } }

/-- Loss of both inputs of the always-on domain (R15, R513): waypoints, images and archive lie in flash, the minimum
SVN in OTP. -/
def State.loseRetained (s : State) : State :=
  let s := (s.loseMram).dropRetained
  { s with
    time := { s.time with dev := 0, valid := false, kept := false, freq := 0, target := 0, integ := 0, freqHold := 0, startWait := false }
    grant := { s.grant with cores := [] }
    pon := { s.pon with subs := s.pon.subs.mapAll Sub.dflt (fun sc x => { x with engine := (Sub.dflt sc).engine, dsp := (Sub.dflt sc).dsp }) }
    buf := { lost := true }
    mgmt := { s.mgmt with units := [], mods := [], wpLatest := wpNewest s.mgmt.wps, wpVer := wpTop s.mgmt.wps, conv := [] } }

/-- The erasure of FACTORY_CLEAN (R15, R468): the loader, the running image, the detour state and the clear ledger
survive; device time and the registers of the always-on domain are of the retained domain, and are reset with it. -/
def State.eraseAll (s : State) : State :=
  let s := (s.loseMram).dropRetained
  { s with
    buf := { copies := s.buf.copies }, time := {}
    mgmt := { s.mgmt with wps := [], conv := [], wpLatest := 0, wpVer := 0
                          upd := { s.mgmt.upd with down0 := [], down1 := [], staging := [] } } }

end Sys2Proof.Machine
end

