-- ==== Sys2Proof/Machine/Mgmt.lean ====
section
/-! DEFINITION. The mailboxes with their requests (R426 to R430), the JTAG unlock (R450), and the sensors with
the thermal trip (R431 to R433). -/

namespace Sys2Proof.Machine

/-! Mailboxes: 0 PF, 1 SMBus target port, 2 out-of-band port (R426). -/

/-- A mailbox. -/
def State.mbx (s : State) (m : Nat) : Mbx :=
  match m with
  | 0 => s.mgmt.mbx0
  | 1 => s.mgmt.mbx1
  | _ => s.mgmt.mbx2

/-- Store a mailbox. -/
def State.setMbx (s : State) (m : Nat) (x : Mbx) : State :=
  match m with
  | 0 => { s with mgmt := { s.mgmt with mbx0 := x } }
  | 1 => { s with mgmt := { s.mgmt with mbx1 := x } }
  | _ => { s with mgmt := { s.mgmt with mbx2 := x } }

/-- Interface codes of `Out.side`. -/
abbrev sideSmb : Nat := 1
abbrev sideOob : Nat := 2
abbrev sideJtag : Nat := 3
abbrev sideModule : Nat := 0x10

/-- The firmware serves mailboxes: it runs, no activation pause is in progress, and a management core is left
(R426, R524). -/
def State.fwServes (s : State) : Bool := decide (3 ≤ s.stage ∧ s.stage < 7) && !s.paused && !s.mgmtLost

/-- The opcodes of R427 and R484. -/
def mbxOpcode (op : Nat) : Bool := decide (1 ≤ op ∧ op ≤ 9) || op == 0x10 || op == 0x11

/-- The header is well formed and names an opcode (R427). -/
def mbxReqOk (req : List Nat) : Bool :=
  mbxOpcode (leAt req 0 2) && leAt req 2 2 == req.length && decide (8 ≤ req.length ∧ req.length ≤ 1024)

/-- Fragments of a response on the out-of-band port, up to 1,024 bytes each (R429). -/
def oobFragments (x : Mbx) : List (List Nat) :=
  let n := (x.rsp.length + 1023) / 1024
  (List.range n).map (fun i =>
    beBytes 6 x.sender ++ beBytes 6 (Config.oobMac % 2 ^ 48) ++ [0x88, 0xB6] ++ leBytes 2 (1024 * i) ++ leBytes 2 n
      ++ sliceB x.rsp (1024 * i) 1024)

/-- Send the held response of the out-of-band port. -/
def State.oobSend (s : State) : State := (oobFragments (s.mbx 2)).foldl (fun s b => s.emit (.side sideOob b)) s

/-- Answer the request of mailbox m (R427): the PF mailbox clears GO and sets DONE with the length (R454). -/
def State.mbxAnswer (s : State) (m st : Nat) (body : List Nat) : State :=
  let x := s.mbx m
  let rsp := padTo 2 (x.req.take 2) ++ [st, 0] ++ padTo 4 (sliceB x.req 4 4) ++ body
  let s := s.setMbx m { x with busy := false, rsp := rsp, pos := 0 }
  match m with
  | 0 => ((s.setBit (mgtA 0x10) 31 false).setBit (mgtA 0x10) 30 true).setFld (mgtA 0x10) 12 0 rsp.length
  | 1 => s
  | _ => s.oobSend

/-- Mailbox m is enabled: SMB_EN and OOB_EN disable theirs (R426). -/
def State.mbxOn (s : State) (m : Nat) : Bool := m == 0 || s.bit (mgtA 0x4) (m - 1)

/-- Serve the request held in mailbox m, unless the mailbox is disabled (R426): a malformed one is answered BAD_ARG,
one of this opcode by `f`. -/
def State.mbxServe (s : State) (m op : Nat) (f : State → State) : State :=
  let x := s.mbx m
  if decide (3 ≤ m) || !x.busy || !s.fwServes || !s.mbxOn m then s
  else if !mbxReqOk x.req then s.mbxAnswer m stBadArg []
  else if leAt x.req 0 2 = op then f s else s

/-- The next place in the order of arrival (R430). -/
def State.nextTurn (s : State) : Nat :=
  1 + (List.range 3).foldl (fun n k => if (s.mbx k).busy then max n (s.mbx k).turn else n) 0

/-- Submit the request held in mailbox m (R426): one that names no opcode is answered at once. -/
def State.mbxSubmit (s : State) (m : Nat) : State :=
  let x := s.mbx m
  let s := s.setMbx m { x with busy := true, turn := s.nextTurn, rsp := [], pos := 0, lastTag := some (leAt x.req 4 4) }
  if s.fwServes && !mbxReqOk x.req then s.mbxAnswer m stBadArg [] else s

/-- Body of the request in mailbox m. -/
def State.mbxBody (s : State) (m : Nat) : List Nat := (s.mbx m).req.drop 8

/-- A request without a body. -/
def State.mbxPlain (s : State) (m : Nat) (f : State → List Nat × State) : State :=
  if (s.mbxBody m).isEmpty then
    match f s with
    | (b, s) => s.mbxAnswer m stOk b
  else s.mbxAnswer m stBadArg []

/-- A sensor of a hotspot counts: it has not failed under R415. -/
def State.sensorOk (s : State) (n : Nat) : Bool := (s.health 10 n).st.alive

/-- THERM of sensor n with FAILED (R454). -/
def State.thermWord (s : State) (n : Nat) : Nat :=
  withBits (s.reg (mgtA (0x4000 + 4 * n))).toNat 30 30 (b2n (!s.sensorOk n))

/-- The words of READ_SENSORS (R427). -/
def State.sensorBytes (s : State) : List Nat :=
  ((List.range 96).map (fun n => leBytes 4 (s.thermWord n))).flatten
    ++ ((List.range 48).map (fun n => leBytes 4 (s.reg (mgtA (0x4200 + 4 * n))).toNat)).flatten
    ++ ((List.range 8).map (fun k => leBytes 4 (s.reg (mgtA (0x4400 + 4 * k))).toNat)).flatten

/-- READ_RECORD (R427). -/
def State.mbxReadRecord (s : State) (m : Nat) : State :=
  let b := s.mbxBody m
  let first := leAt b 0 2
  let n := leAt b 2 2
  if b.length = 4 ∧ 1 ≤ n ∧ n ≤ 16 ∧ first + n ≤ 4096 then s.mbxAnswer m stOk (s.recsBytes first n)
  else s.mbxAnswer m stBadArg []

/-- The response of GET_CERT (R427, R448). -/
def State.certBytes (s : State) : List Nat :=
  if s.mgmt.pwr.certOk then leBytes 4 0 ++ Config.certificate else leBytes 4 1 ++ padTo 64 Config.identityKey

/-- The program that a planning group runs. -/
def Group.runs (g : Group) : Prog := if g.active = 0 then g.slot0 else g.slot1

/-- Insert a digest in ascending order, once. -/
def digInsert (l : List (List Nat)) (d : List Nat) : List (List Nat) :=
  match l with
  | [] => [d]
  | a :: r => if a = d then a :: r else if a < d then a :: digInsert r d else d :: a :: r

/-- The digests of the distinct active programs, ascending; a null program counts for none (R449). -/
def State.activeDigests (s : State) : List (List Nat) :=
  (List.range 96).foldl (fun l q =>
    let p := (s.group q).runs
    if p.loaded then digInsert l p.digest else l) []

/-- The groups that run a program, as a 96-bit mask (R449). -/
def State.groupMask (s : State) (d : List Nat) : Nat :=
  (List.range 96).foldl (fun n q =>
    let p := (s.group q).runs
    if p.loaded && p.digest == d then n + 2 ^ q else n) 0

/-- The attestation report before its signature (R449). -/
def State.reportBody (s : State) (nonce : List Nat) : List Nat :=
  let ds := s.activeDigests
  let wp := s.wpLast.map (fun w => w.ver)
  leBytes 4 0x41540001 ++ leBytes 2 (0xB0 + 48 * ds.length + 64)
    ++ [ds.length, b2n (s.mgmt.upd.st == .trial) + 2 * b2n s.mgmt.dbg.unlocked + 4 * b2n (!s.mgmt.pwr.certOk)]
    ++ leBytes 8 Config.serial ++ padTo 32 nonce ++ leBytes 8 s.clk.msc ++ leBytes 6 (secOf s.time.dev) ++ [0, 0]
    ++ padTo 32 Config.loaderDigest
    ++ padTo 32 ((s.mgmt.upd.run.map (fun m => m.imageDigest)).getD Config.imageDigest)
    ++ padTo 32 ((wp.map Config.waypointDigest).getD []) ++ leBytes 8 (wp.getD 0) ++ leBytes 8 0
    ++ (ds.map (fun d => padTo 32 d ++ leBytes 12 (s.groupMask d) ++ leBytes 4 0)).flatten

/-- ATTEST (R427, R449). -/
def State.mbxAttest (s : State) (m : Nat) : State :=
  let b := s.mbxBody m
  if b.length = 32 then
    let r := s.reportBody b
    s.mbxAnswer m stOk (r ++ padTo 64 (Config.sm2Sign r))
  else s.mbxAnswer m stBadArg []

/-- CLEAR_RECORDS by mailbox (R427, R443). -/
def State.mbxClear (s : State) (m : Nat) : State :=
  let b := s.mbxBody m
  if b.length = 96 then
    match s.clearWith b with
    | (st, s) => s.mbxAnswer m st []
  else s.mbxAnswer m stBadArg []

/-- The 16 last-resort entries (R427, R454). -/
def State.lrBytes (s : State) : List Nat :=
  ((List.range 16).map (fun i => leBytes 8 (s.reg (mgtA (0x8000 + 16 * i))).toNat
    ++ leBytes 8 (s.reg (mgtA (0x8008 + 16 * i))).toNat)).flatten

/-- READ_CLEAR_LEDGER by mailbox (R427, R445). -/
def State.mbxClearLedger (s : State) (m : Nat) : State :=
  let b := s.mbxBody m
  let i := leAt b 0 4
  let n := leAt b 4 2
  if b.length = 8 ∧ 1 ≤ n ∧ n ≤ 64 ∧ leAt b 6 2 = 0 then
    if s.mgmt.rcd.ledger.length ≤ i then s.mbxAnswer m stNotFound [] else s.mbxAnswer m stOk (s.ledgerBytes i n)
  else s.mbxAnswer m stBadArg []

/-- The body of a MODULE_IO is well formed (R430). -/
def moduleIoOk (b : List Nat) : Bool :=
  let n := leAt b 4 2
  decide (leAt b 0 1 < 12) && decide (leAt b 1 1 < 128) && decide (leAt b 3 1 < 2) && decide (1 ≤ n ∧ n ≤ 128)
    && leAt b 6 2 == 0 && b.length == 8 + (if leAt b 3 1 = 1 then n else 0)

/-- A MODULE_IO request for port p that can be served waits in mailbox k. -/
def State.waitsFor (s : State) (k p : Nat) : Bool :=
  (s.mbx k).busy && s.mbxOn k && mbxReqOk (s.mbx k).req && leAt (s.mbx k).req 0 2 == 9 && moduleIoOk (s.mbxBody k)
    && leAt (s.mbxBody k) 0 1 == p

/-- No request for the same port arrived before that of mailbox m (R430). -/
def State.mbxFirst (s : State) (m : Nat) : Bool :=
  (List.range 3).all (fun k => !s.waitsFor k (leAt (s.mbxBody m) 0 1) || decide ((s.mbx m).turn ≤ (s.mbx k).turn))

/-- MODULE_IO (R430): the target's answer, none if it does not acknowledge. Requests to one port are served in order
of arrival across the mailboxes. -/
def State.mbxModuleIo (s : State) (m : Nat) (ans : Option (List Nat)) : State :=
  let b := s.mbxBody m
  if !moduleIoOk b then s.mbxAnswer m stBadArg []
  else if !s.mbxFirst m then s
  else
    let s := s.emit (.side (sideModule + leAt b 0 1) (sliceB b 1 3 ++ b.drop 8))
    match ans with
    | none => s.mbxAnswer m stNotFound []
    | some d => s.mbxAnswer m stOk (if leAt b 3 1 = 0 then padTo (leAt b 4 2) d else [])

/-! The SMBus target port (R428) and the out-of-band port (R429). -/

/-- SMB_EN and OOB_EN (R426). -/
def State.smbEn (s : State) : Bool := s.bit (mgtA 0x4) 0 && decide (s.stage < 7)
def State.oobEn (s : State) : Bool := s.bit (mgtA 0x4) 1 && decide (s.stage < 7) && s.laneSt 515 == lnUp

/-- BLOCK_WRITE 0x10 (first block) or 0x11 (next blocks): no effect without a right PEC, beyond 255 bytes, or
while a request is in progress. -/
def State.blockWrite (s : State) (cmd : Nat) (bytes : List Nat) (pecOk : Bool) : State :=
  let x := s.mbx 1
  if !pecOk || !s.smbEn || x.busy || decide (255 < bytes.length) then s
  else if cmd = 0x10 then s.setMbx 1 { x with req := bytes }
  else if cmd = 0x11 then s.setMbx 1 { x with req := x.req ++ bytes }
  else s

/-- SEND_BYTE 0x12 submits. -/
def State.sendByte (s : State) (cmd : Nat) (pecOk : Bool) : State :=
  if !pecOk || !s.smbEn || (s.mbx 1).busy || cmd != 0x12 then s else s.mbxSubmit 1

/-- READ_BYTE 0x13. -/
def State.readByte (s : State) : State :=
  if s.smbEn then s.emit (.side sideSmb [b2n (s.mbx 1).busy]) else s

/-- BLOCK_READ 0x14 continues from where the previous read ended. -/
def State.blockRead (s : State) : State :=
  let x := s.mbx 1
  if s.smbEn then
    let b := sliceB x.rsp x.pos 255
    (s.setMbx 1 { x with pos := x.pos + b.length }).emit (.side sideSmb b)
  else s

/-- ALERT_N is asserted (R434, R524). -/
def State.alertN (s : State) : Bool := s.alert != 0 || s.stage == 7

/-- The device answers the Alert Response Address with its own address (R428, R520). -/
def State.alertAnswer (s : State) : State :=
  if s.alertN then s.emit (.side sideSmb [0x68 + s.mgmt.pwr.smbAddr % 8]) else s

/-- OOB_FRAME (R429): a request is submitted; one with the previous TAG is answered from the held response. -/
def State.oobFrame (s : State) (f : OobIn) : State :=
  if !s.oobEn || !f.toUs || f.etype != 0x88B6 || f.off != 0 || f.frags != 0 || (s.mbx 2).busy then s
  else
    let x := s.mbx 2
    if x.lastTag = some (leAt f.bytes 4 4) then (s.setMbx 2 { x with sender := f.src }).oobSend
    else (s.setMbx 2 { x with req := f.bytes, sender := f.src }).mbxSubmit 2

/-! JTAG (R450). -/

/-- Change the JTAG port. -/
def State.modDbg (s : State) (f : Debug → Debug) : State := { s with mgmt := { s.mgmt with dbg := f s.mgmt.dbg } }

/-- DBG_CHALLENGE: the serial number and 40 random bytes. -/
def State.challenge (s : State) : State :=
  if s.mgmt.dbg.locked then s
  else
    match s.random with
    | (a, s) => match s.random with
      | (b, s) => match s.random with
        | (c, s) => match s.random with
          | (d, s) => match s.random with
            | (e, s) =>
              let l := leBytes 8 Config.serial ++ leBytes 8 a.toNat ++ leBytes 8 b.toNat ++ leBytes 8 c.toNat
                ++ leBytes 8 d.toNat ++ leBytes 8 e.toNat
              (s.modDbg (fun x => { x with challenge := some l })).emit (.side sideJtag l)

/-- DBG_RESPONSE: a challenge is good for one response; the third failed response locks the port. -/
def State.response (s : State) (sig : List Nat) : State :=
  let x := s.mgmt.dbg
  if x.locked then s
  else
    let s := s.modDbg (fun x => { x with challenge := none })
    if (match x.challenge with
        | some l => Config.sm2Check (Config.otpKeyHash 0) l sig
        | none => false) then
      (s.modDbg (fun x => { x with unlocked := true })).raise evDebugUnlocked 0
    else
      let s := s.modDbg (fun x => { x with fails := x.fails + 1, locked := decide (3 ≤ x.fails + 1) })
      if s.mgmt.dbg.locked then s.raise evDebugLockout 0 else s

/-! Sensors (R431, R432). -/

/-- Change the sensors. -/
def State.modSens (s : State) (f : Sens → Sens) : State := { s with mgmt := { s.mgmt with sens := f s.mgmt.sens } }

/-- The number that a TEMP field spells, in 1/16 °C (R454). -/
def tempOf (w : Nat) : Int := let n := w % 65536
  if n < 32768 then (n : Int) else (n : Int) - 65536

/-- A temperature as a TEMP field. -/
def tempFld (t : Int) : Nat := (t % 65536).toNat

/-- Latest reading of a sensor that has not failed, if it has converted. -/
def State.sensorTemp (s : State) (n : Nat) : Option Int :=
  if s.sensorOk n && s.bit (mgtA (0x4000 + 4 * n)) 31 then some (tempOf (s.fld (mgtA (0x4000 + 4 * n)) 15 0)) else none

/-- The higher of two readings. -/
def optMax (a b : Option Int) : Option Int :=
  match a, b with
  | some x, some y => some (max x y)
  | some x, none => some x
  | none, y => y

/-- A hotspot has a sensor left. -/
def State.pairLeft (s : State) (h : Nat) : Bool := s.sensorOk (2 * h) || s.sensorOk (2 * h + 1)

/-- The hotspot nearest to h by number with a sensor left, the lower of two equally near. -/
def State.nearestPair (s : State) (h : Nat) : Option Nat :=
  ((List.range 48).map (fun d => (List.range 48).find? (fun j => s.pairLeft j && (j + (d + 1) == h || j == h + (d + 1))))).findSome? id

/-- Temperature of a hotspot (R415 class 10, R431). -/
def State.hotspot (s : State) (h : Nat) : Option Int :=
  if s.pairLeft h then optMax (s.sensorTemp (2 * h)) (s.sensorTemp (2 * h + 1))
  else
    match s.nearestPair h with
    | some j => (optMax (s.sensorTemp (2 * j)) (s.sensorTemp (2 * j + 1))).map (fun t => t + 160)
    | none => none

/-- The core logic is held in reset, with every lane in electrical idle and the milestone generator stopped; the PCIe
link goes down (R433, R515). -/
def State.holdCore (s : State) : State := (s.coreReset false).setFld (pwrA 0x0) 2 0 0

/-- The thermal trip of R433: sensor n reads t. -/
def State.thermTrip (s : State) (n : Nat) (t : Int) : State :=
  let s := (s.lrWrite 0x04 (n % 128 + tempFld t * 65536)).holdCore
  (s.modSens (fun x => { x with trip := true, rearm := false })).emit (.pin pinThermCrit 1)

/-- Events and flags of one hotspot (R432). -/
def State.judgeHotspot (s : State) (h : Nat) (t : Int) : State :=
  let w := s.mgmt.sens.warn.get false h
  let c := s.mgmt.sens.crit.get false h
  let w' := decide (1600 ≤ t) || (w && decide (1520 ≤ t))
  let c' := decide (1760 ≤ t) || (c && decide (1680 ≤ t))
  let s := s.modSens (fun x => { x with warn := x.warn.set false h w', crit := x.crit.set false h c' })
  let s := if w' && !w then s.raise evThermWarn h else s
  if c' && !c then s.raise evThermCrit h else s

/-- The hotspot with the highest temperature. -/
def State.hottest (s : State) : Option (Nat × Int) :=
  (List.range 48).foldl (fun b h =>
    match s.hotspot h, b with
    | some t, some (_, m) => if m < t then some (h, t) else b
    | some t, none => some (h, t)
    | none, b => b) none

/-- THERM_STATUS (R454), and THERM_CRIT_N. -/
def State.thermStatus (s : State) : State :=
  let was := s.bit (mgtA 0x4180) 17
  let now := !s.mgmt.sens.crit.isEmpty
  let (h, t) := s.hottest.getD (0, 0)
  let s := s.setReg (mgtA 0x4180)
    (BitVec.ofNat 64 (h * 2 ^ 18 + b2n now * 2 ^ 17 + b2n (!s.mgmt.sens.warn.isEmpty) * 2 ^ 16 + tempFld t))
  if was != now then s.emit (.pin pinThermCrit (b2n now)) else s

/-- THERMAL_CONVERSION of sensor n at t sixteenths of a degree (R431 to R433). -/
def State.thermConv (s : State) (n : Nat) (t : Int) : State :=
  if decide (96 ≤ n) || s.mgmt.sens.trip || !s.sensorOk n then s
  else
    let was := s.mgmt.sens.hot.get false n
    let s := s.setReg (mgtA (0x4000 + 4 * n)) (BitVec.ofNat 64 (2 ^ 31 + tempFld t))
    let s := (s.sample 3 n (t + 1024).toNat).modSens (fun x => { x with hot := x.hot.set false n (decide (2000 ≤ t)) })
    let s := ((List.range 48).foldl (fun s h => match s.hotspot h with
      | some u => s.judgeHotspot h u
      | none => s) s).thermStatus
    if was && decide (2000 ≤ t) then s.thermTrip n t
    else if s.mgmt.sens.rearm && !s.clk.running && (match s.hotspot (n / 2) with
        | some u => decide (1760 ≤ u)
        | none => false) then s.thermTrip n t
    else s

/-- VOLTAGE_CONVERSION of monitor n (R431, R432). -/
def State.voltConv (s : State) (n mv : Nat) : State :=
  if 48 ≤ n then s
  else
    let hi := decide (s.fld (mgtA (0x4300 + 4 * n)) 31 16 < mv)
    let lo := decide (mv < s.fld (mgtA (0x4300 + 4 * n)) 15 0)
    let was := s.mgmt.sens.volt.get false n
    let s := s.setReg (mgtA (0x4200 + 4 * n)) (BitVec.ofNat 64 (b2n hi * 2 ^ 31 + b2n lo * 2 ^ 30 + mv % 65536))
    let s := (s.sample 4 n mv).modSens (fun x => { x with volt := x.volt.set false n (hi || lo) })
    if (hi || lo) && !was then s.raise evVoltWarn n else s

/-- HBM_TEMP_READ of stack k (R431, R432). -/
def State.hbmTemp (s : State) (k t : Nat) : State :=
  if 8 ≤ k then s
  else
    let was := s.mgmt.sens.hbm.get false k
    let now := decide (95 ≤ t) || (was && decide (90 ≤ t))
    let s := (s.setReg (mgtA (0x4400 + 4 * k)) (BitVec.ofNat 64 (t % 256))).modSens (fun x => { x with hbm := x.hbm.set false k now })
    if now && !was then s.raise evHbmHot k else s

/-! Meanings. -/

/-- READ_SENSORS (R427). -/
def execReadSensors (m : Nat) (s : State) : Answer :=
  kept s (s.mbxServe m 1 (fun s => s.mbxPlain m (fun s => (s.sensorBytes, s))))

/-- READ_RECORD (R427). -/
def execReadRecord (m : Nat) (s : State) : Answer := kept s (s.mbxServe m 2 (fun s => s.mbxReadRecord m))

/-- GET_CERT (R427, R448). -/
def execGetCert (m : Nat) (s : State) : Answer :=
  kept s (s.mbxServe m 3 (fun s => s.mbxPlain m (fun s => (s.certBytes, s))))

/-- ATTEST (R427, R449). -/
def execAttest (m : Nat) (s : State) : Answer := kept s (s.mbxServe m 4 (fun s => s.mbxAttest m))

/-- MBX_GET_CLEAR_NONCE (R427, R442). -/
def execMbxGetClearNonce (m : Nat) (s : State) : Answer :=
  kept s (s.mbxServe m 5 (fun s => s.mbxPlain m (fun s =>
    match s.issueNonce with
    | (n, s) => (leBytes 8 n ++ leBytes 8 (s.clk.msc + 480000), s))))

/-- MBX_CLEAR_RECORDS (R427, R443). -/
def execMbxClearRecords (m : Nat) (s : State) : Answer := kept s (s.mbxServe m 6 (fun s => s.mbxClear m))

/-- READ_LR (R427, R447). -/
def execReadLr (m : Nat) (s : State) : Answer :=
  kept s (s.mbxServe m 7 (fun s => s.mbxPlain m (fun s => (s.lrBytes, s))))

/-- MBX_READ_CLEAR_LEDGER (R427, R445). -/
def execMbxReadClearLedger (m : Nat) (s : State) : Answer := kept s (s.mbxServe m 8 (fun s => s.mbxClearLedger m))

/-- MODULE_IO (R427, R430). -/
def execModuleIo (m : Nat) (ans : Option (List Nat)) (s : State) : Answer :=
  kept s (s.mbxServe m 9 (fun s => s.mbxModuleIo m ans))

/-- BLOCK_WRITE (R428). -/
def execBlockWrite (cmd : Nat) (bytes : List Nat) (pecOk : Bool) (s : State) : Answer := kept s (s.blockWrite cmd bytes pecOk)

/-- SEND_BYTE (R428). -/
def execSendByte (cmd : Nat) (pecOk : Bool) (s : State) : Answer := kept s (s.sendByte cmd pecOk)

/-- READ_BYTE (R428). -/
def execReadByte (s : State) : Answer := kept s s.readByte

/-- BLOCK_READ (R428). -/
def execBlockRead (s : State) : Answer := kept s s.blockRead

/-- ALERT_RESPONSE (R428). -/
def execAlertResponse (s : State) : Answer := kept s s.alertAnswer

/-- OOB_FRAME (R429). -/
def execOobFrame (f : OobIn) (s : State) : Answer := kept s (s.oobFrame f)

/-- DBG_CHALLENGE (R450). -/
def execDbgChallenge (s : State) : Answer := kept s s.challenge

/-- DBG_RESPONSE (R450). -/
def execDbgResponse (sig : List Nat) (s : State) : Answer := kept s (s.response sig)

/-- THERMAL_CONVERSION (R432). -/
def execThermalConversion (n : Nat) (t : Int) (s : State) : Answer := kept s (s.thermConv n t)

/-- VOLTAGE_CONVERSION (R432). -/
def execVoltageConversion (n mv : Nat) (s : State) : Answer := kept s (s.voltConv n mv)

/-- HBM_TEMP_READ (R431). -/
def execHbmTempRead (k t : Nat) (s : State) : Answer := kept s (s.hbmTemp k t)

end Sys2Proof.Machine
end

