-- ==== Sys2Proof/Machine/Changes.lean ====
section
/-! DEFINITION. Deferred changes at the snapshot that begins their roadbook (R46, R47), all but the return to a
waypoint. -/

namespace Sys2Proof.Machine

/-- A change that acts with its milestone and not with the snapshot before it: a tree that drains as an object
of its own (R71), and the release of the hold (R467). -/
def Change.atMilestone (c : Change) : Bool :=
  match c with
  | .treeDrain _ => true
  | .releaseHold => true
  | _ => false

/-- L has changed under terminals that stay active because the laser stays lit: every one is ranged again from roadbook e
(R54). -/
def State.rangeAll (s : State) (sc e : Nat) : State :=
  (s.termsOf sc).foldl (fun s t =>
    let y := s.term sc t
    if y.act == .operation then s.startRerange sc t e
    else if y.act == .ranging then s.setTerm sc t { y with operE := none, resp := none, misses := 0 }
    else s) s

/-- ENABLE of a sub-channel (R54, R59, R76, R243): a test on its lane ends (R498), and a lane that is LOST puts it out
of service (R497). -/
def State.applyEnable (s : State) (sc e : Nat) : State :=
  let x := s.sub sc
  if x.pendE != some e || x.road != .disabled then s
  else
    let s := s.modSub sc (fun x => { x with road := .enabled, enableE := e, oos := false, oosFrom := 0, reLen := false })
    let s := if x.reLen && x.lit then s.rangeAll sc e else s
    let s := s.endTest sc
    if s.laneSt sc = lnLost then s.outOfService sc else s

/-- DISABLE of a sub-channel (R55, R57): roadbook e is the first without grants. -/
def State.applyDisable (s : State) (sc e : Nat) (discard : Bool) : State :=
  let x := s.sub sc
  if x.road == .enabled then s.setSub sc { x with drainE := some e, discard := discard } else s

/-- INSTALL_UNIT (R132, R133): the unit is planned from roadbook e. An entry that has not run leaves the context
bytes as the parameter block sets them. -/
def State.applyInstall (s : State) (u : Nat) : State :=
  let x := s.unit u
  if !x.inst || x.installE.isNone then s
  else
    let s := if x.entryRun then s else s.installBytes u
    s.modUnit u (fun y => { y with installE := none, entryRun := false, road := if y.road == .disabled then .enabled else y.road })

/-- MODIFY_UNIT (R203): the words that the mask selects are overwritten before any batch runs. -/
def State.applyModify (s : State) (u mask : Nat) (words : List W32) : State :=
  let x := s.unit u
  if !x.inst then s
  else
    let sel := (List.range 12).filter (fun i => mask.testBit i)
    let s := s.setUnit u { x with params := (List.range 12).map (fun i => if mask.testBit i then words.getD i 0 else x.params.getD i 0) }
    sel.foldl (fun s i => s.setRowWord x.group x.batch x.lane (4 + i) (words.getD i 0)) s

/-- RETIRE_UNIT (R55, R57). -/
def State.applyRetireUnit (s : State) (u e : Nat) (discard : Bool) : State :=
  let x := s.unit u
  if x.inst && x.road == .enabled then s.setUnit u { x with drainE := some (x.drainE.getD e), discard := discard, retireE := none, entryRun := false }
  else s

/-- DEACTIVATE_TERMINAL and DISABLE_SERIAL (R98, R101). -/
def State.applyDeact (s : State) (sc t e : Nat) (discard dis : Bool) : State :=
  let s := s.shutTerm sc t e discard (if dis then .disabled else .deactivated)
  if dis && (s.term sc t).act != .free then s.modTerm sc t (fun y => { y with cmdDis := true }) else s

/-- One deferred change at the snapshot of its milestone (R46). -/
def State.applyChange (s : State) (p : Pend) : State :=
  match p.change with
  | .subEnable sc => s.applyEnable sc p.e
  | .subDisable sc d => s.applyDisable sc p.e d
  | .treeDrain c => { s with pon := { s.pon with treeDrain := s.pon.treeDrain ++ [(c, p.e)] } }
  | .termDeact sc t d dis => s.applyDeact sc t p.e d dis
  | .termRange sc t => s.startRerange sc t p.e
  | .burstProfile sc t k => s.applyProfile sc t k p.e
  | .unitInstall u => s.applyInstall u
  | .unitModify u m w => s.applyModify u m w
  | .unitRetire u d => s.applyRetireUnit u p.e d
  | .flowDestroy _ _ => s
  | .progActivate qs => s.swapPrograms qs p.e
  | .waypointReturn _ _ => s
  | .releaseHold => { s with mgmt := { s.mgmt with pwr := { s.mgmt.pwr with held := false } } }
  | .switchOver => s.modPair (fun x => { x with swapE := some p.e })
  | .treeSwitch c b => s.applyTreeSwitch c b p.e
  | .domainTeardown d b => s.applyTeardown d p.e b
  | .retireHw cls u _ => s.applyRetire cls u
  | .coreDetour g k => s.applyCoreDetour g k p.e
  | .chDetour sc kind k => s.applyChDetour sc kind k p.e
  | .demote sc t _ => s.applyDemote sc t
  | .rerange sc t => s.startRerange sc t p.e
  | .termLoss sc t => s.shutTerm sc t p.e false (s.term sc t).after
  | .rogueStop sc t => s.shutTerm sc t p.e false .disabled

end Sys2Proof.Machine
end

