-- ==== Sys2Proof/Machine/Waypoint.lean ====
section
/-! DEFINITION. Waypoints (R461 to R468): what a capture holds, loading a waypoint at a restart, the return to a
waypoint at a snapshot, and family 0x08. -/

namespace Sys2Proof.Machine

/-! The configuration a waypoint holds (R461): each object without what it has learned. -/

/-- A bucket with its credit at the cap: credits are not held. -/
def Bucket.bare (b : Bucket) : Bucket := Bucket.full b.rate b.burst 0

/-- Scheduling parameters without credits and tags. -/
def Sched.bare (x : Sched) : Sched :=
  { cir := x.cir.bare, pir := x.pir.bare, weight := x.weight, strict := x.strict, gateClass := x.gateClass
    usClass := x.usClass, qlimit := x.qlimit }

/-- A policer without credits and counters. -/
def Policer.bare (x : Policer) : Policer := { enabled := x.enabled, tc := x.tc.bare, tp := x.tp.bare }

/-- A port's adjustment and gate list. -/
def Port.bare (x : Port) : Port := { adj := x.adj, list := x.list }

/-- Static entries, seed and flood lists of a pipeline. -/
def Pipe.bare (x : Pipe) : Pipe :=
  let y := x.keepIf (fun m => m.stat)
  let old := fun (t : SMap (Option MacEnt)) => t.mapAll (fun _ => none) (fun _ m => m.map (fun e => { e with epoch := 0 }))
  { table := old y.table, stash := old y.stash, seed := x.seed, floods := x.floods }

/-- State and settings of a sub-channel; its bound units are detour state (R414). -/
def Sub.bare (sc : Nat) (x : Sub) : Sub :=
  { Sub.dflt sc with
    road := x.road, pendE := x.pendE, drainE := x.drainE, discard := x.discard, resumeR := x.resumeR, enableE := x.enableE
    len := x.len, rate := x.rate, guardBits := x.guardBits, phaseTol := x.phaseTol, profiles := x.profiles
    paramsSet := x.paramsSet, eqdThr := x.eqdThr, lostLimit := x.lostLimit, rogueAuto := x.rogueAuto
    disc := { period := x.disc.period, rttMin := x.disc.rttMin, diff := x.disc.diff, admitNew := x.disc.admitNew, admitDom := x.disc.admitDom } }

/-- A terminal object with its disabled flags; one that its domain's teardown removes is not held. -/
def Term.bare (y : Term) : Term :=
  if y.act == .free || (y.after == .removed && (y.act == .draining || y.deactE.isSome)) then {}
  else
    { act := if y.cmdDis || y.rogueIso || y.act == .disabled then .disabled else .registered
      cmdDis := y.cmdDis, rogueIso := y.rogueIso, regId := y.regId, serial := y.serial, dom := y.dom }

/-- A unit with its install parameters. -/
def AUnit.bare (x : AUnit) : AUnit :=
  { x with resumeAcc := none, entryRun := false, firstPlan := true, carried := false, lastSize := 0, lastPf := 0 }

/-- A group's active program and an admitted shadow. -/
def Group.bare (x : Group) : Group :=
  let y : Group := { active := x.active, slot0 := x.slot0, slot1 := x.slot1, shadow := x.shadow, swapMsc := x.swapMsc }
  if x.shadow == .loaded || x.shadow == .empty then
    if x.active = 0 then { y with slot1 := {}, shadow := .empty } else { y with slot0 := {}, shadow := .empty }
  else y

/-- A domain without postings. -/
def Dom.bare (x : Dom) : Dom :=
  { x with resumeAcc := none, pool4 := { size := x.pool4.size }, pool5 := { size := x.pool5.size }
           pool6 := { size := x.pool6.size }, pool7 := { size := x.pool7.size } }

/-- An SA binding with its reference into the wrapped store. -/
def Sa.bare (x : Sa) : Sa :=
  { x with key := [], rekeyRaised := false, protect := 0, validated := 0, noSa := 0, exhDrop := 0 }

/-- A record's binding. -/
def Rec.bare (x : Rec) : Rec :=
  if x.bound && !x.unbind then
    { bound := true, kind := x.kind, dom := x.dom, log := x.log, source := x.source, width := x.width, base := x.base }
  else {}

/-- An uplink port's configuration. -/
def UPort.bare (x : UPort) : UPort :=
  { cfg := x.cfg, road := if x.road == .enabled || x.road == .resuming then .enabled else .disabled }

/-- The shared table as every completed WRITE_TABLE has left it (R142, R220). -/
def GrantSt.tableNow (g : GrantSt) : SMap W32 :=
  let cur := if g.tableBank = 0 then g.table0 else g.table1
  let oth := if g.tableBank = 0 then g.table1 else g.table0
  g.tableDirty.foldl (fun m e =>
    (List.range (8 * e.2)).foldl (fun m i => m.set 0#32 (8 * e.1 + i) (oth.get 0#32 (8 * e.1 + i))) m) cur

/-- A broadcast slot of a tree die (R357). -/
def isBcast (k : Nat) : Bool := decide (98304 ≤ k % 131072)

/-- The configuration as a waypoint holds it (R461, R462). -/
def State.capture (s : State) : WpCfg :=
  { pon :=
      { subs := s.pon.subs.mapAll Sub.dflt Sub.bare
        terms := s.pon.terms.mapAll (fun _ => {}) (fun _ y => y.bare) }
    grant :=
      { units := s.grant.units.mapAll (fun _ => {}) (fun _ x => x.bare)
        laneUnit := s.grant.laneUnit
        groups := s.grant.groups.mapAll (fun _ => {}) (fun _ x => x.bare)
        table0 := s.grant.tableNow, table1 := s.grant.tableNow, hintVlans := s.grant.hintVlans }
    data :=
      { flows := s.data.flows.mapAll (fun _ => {}) (fun _ x => { x with resumeAcc := none })
        flowS := s.data.flowS.mapAll (fun _ => {}) (fun _ x => x.bare)
        classS := s.data.classS.mapAll (fun _ => {}) (fun _ x => x.bare)
        termN := s.data.termN.mapAll (fun _ => {}) (fun _ x => x.bare)
        domN := s.data.domN.mapAll (fun _ => {}) (fun _ x => x.bare)
        polS := s.data.polS.mapAll (fun _ => {}) (fun _ x => x.bare)
        ports := s.data.ports.mapAll (fun _ => {}) (fun _ x => x.bare)
        steer := s.data.steer
        pipes := s.data.pipes.mapAll (fun _ => {}) (fun _ x => x.bare) }
    buf := { layout := s.buf.layout, layoutPend := s.buf.layoutPend }
    cph :=
      { subs := s.cph.subs, slots := (s.cph.slots.keep isBcast).mapAll (fun _ => {}) (fun _ x => { x with key := none })
        sas := s.cph.sas.mapAll (fun _ => {}) (fun _ x => x.bare)
        secys := s.cph.secys.mapAll (fun _ => {}) (fun _ x => { x with noSa := 0, exh := none }) }
    doms := s.doms.mapAll (fun _ => {}) (fun _ x => x.bare)
    recs := s.mgmt.rcd.recs.mapAll (fun _ => {}) (fun _ x => x.bare)
    ptpPorts := s.time.ptpPorts, ptpRx := s.time.ptpRx
    uports := s.mgmt.uports.mapAll (fun _ => {}) (fun _ x => x.bare)
    deferred := s.deferred.filter (fun p => p.dev == 0) }

/-- Keys that either of two maps lists. -/
def keysBoth {α β : Type} (a : SMap α) (b : SMap β) : List Nat :=
  let ks := a.map (fun e => e.1)
  ks ++ (b.map (fun e => e.1)).filter (fun k => !ks.contains k)

/-- Load a waypoint's configuration at a restart (R265, R466): bound units, ledger totals and records are not its
own. -/
def State.loadCfg (s : State) (w : WpCfg) : State :=
  let cur := s.pon.subs
  let subs := (keysBoth cur w.pon.subs).foldl (fun (m : SMap Sub) sc =>
    let x := cur.get (Sub.dflt sc) sc
    let y := w.pon.subs.get (Sub.dflt sc) sc
    let y : Sub := { y with engine := x.engine, dsp := x.dsp, led := x.led }
    m.set (Sub.dflt sc) sc y) []
  let recs := (keysBoth s.mgmt.rcd.recs w.recs).foldl (fun (m : SMap Rec) k =>
    let x := s.mgmt.rcd.recs.get {} k
    let y := w.recs.get {} k
    let z : Rec := { x with bound := y.bound, unbind := false, kind := y.kind, dom := y.dom, log := y.log
                            source := y.source, width := y.width, base := y.base }
    m.set {} k z) []
  { s with
    doms := w.doms, deferred := w.deferred
    pon := { s.pon with subs := subs, terms := w.pon.terms }
    grant := { s.grant with units := w.grant.units, laneUnit := w.grant.laneUnit, groups := w.grant.groups
                            table0 := w.grant.table0, table1 := w.grant.table1, hintVlans := w.grant.hintVlans }
    data := { s.data with flows := w.data.flows, flowS := w.data.flowS, classS := w.data.classS, termN := w.data.termN
                          domN := w.data.domN, polS := w.data.polS, ports := w.data.ports, steer := w.data.steer
                          pipes := w.data.pipes }
    cph := { s.cph with subs := w.cph.subs, slots := w.cph.slots, sas := w.cph.sas, secys := w.cph.secys }
    time := { s.time with ptpPorts := w.ptpPorts, ptpRx := w.ptpRx }
    mgmt := { s.mgmt with uports := w.uports, rcd := { s.mgmt.rcd with recs := recs } } }

/-- The pool layout of a waypoint is applied where the retained domain was lost (R342, R461); else the one retained is
in force already, and later than the waypoint's. -/
def State.loadLayout (s : State) (w : WpCfg) : State :=
  if s.buf.lost then (s.rebuildPools (w.buf.layoutPend.getD w.buf.layout)).modBuf (fun b => { b with lost := false }) else s

/-! Waypoint slots. -/

/-- The slots that the running firmware writes: conversion slots during a trial (R479). -/
def State.wpMap (s : State) : SMap (Option Waypoint) := if s.mgmt.upd.st == .trial then s.mgmt.conv else s.mgmt.wps

/-- Store the slots that the running firmware writes. -/
def State.setWpMap (s : State) (m : SMap (Option Waypoint)) : State :=
  if s.mgmt.upd.st == .trial then { s with mgmt := { s.mgmt with conv := m } } else { s with mgmt := { s.mgmt with wps := m } }

/-- Slot and content of a version. -/
def wpFind (m : SMap (Option Waypoint)) (ver : Nat) : Option (Nat × Waypoint) :=
  (m.filterMap (fun e => match e.2 with
    | some w => if w.ver = ver then some (e.1, w) else none
    | none => none)).head?

/-- Pinned waypoints. -/
def wpPinned (m : SMap (Option Waypoint)) : Nat :=
  m.countWhere (fun _ e => match e with
    | some w => w.pinned
    | none => false)

/-- The slot that a new waypoint takes (R464): a free one, else that of the oldest unpinned waypoint but the
latest. -/
def wpVictim (m : SMap (Option Waypoint)) : Nat :=
  match (List.range 8).find? (fun k => (m.get none k).isNone) with
  | some k => k
  | none =>
    (m.foldl (fun (a : Nat × Option Nat) e => match e.2 with
      | some w =>
        if w.pinned || e.1 == wpNewest m then a
        else match a.2 with
          | some v => if w.ver < v then (e.1, some w.ver) else a
          | none => (e.1, some w.ver)
      | none => a) (0, none)).1

/-- Start a capture, or hold the trigger until the one under way, its write or the pause ends (R463). -/
def State.autoCapture (s : State) : State :=
  if s.mgmt.cap == .idle && !s.paused then
    { s with mgmt := { s.mgmt with cap := .armed, capAuto := true, capPin := false, capAcc := none, capHeld := false } }
  else { s with mgmt := { s.mgmt with capHeld := true } }

/-- A held trigger fires (R463). -/
def State.heldCapture (s : State) : State := if s.mgmt.capHeld then s.autoCapture else s

/-- WAYPOINT_TRIGGER (R463): 262,144 command records or 8 MiB of journal since the latest confirmed waypoint. -/
def State.wpTrigger (s : State) : State :=
  if decide (262144 ≤ s.mgmt.jrnSince) || decide (131072 ≤ s.mgmt.blkSince) then s.autoCapture else s

/-- WAYPOINT_CAPTURE: a capture begins at a snapshot (R462). -/
def State.wpCapture (s : State) : State :=
  if s.mgmt.cap == .armed && s.clk.phase == .afterSnapshot then { s with mgmt := { s.mgmt with cap := .waiting } } else s

/-- A command that the capture waits for: every executing one but family 0x09 and the capture's own. -/
def State.capWaits (s : State) : Bool :=
  s.host.jrn.any (fun j => j.started && famOf j.desc.opcode != 0x09 && some j.desc.acc != s.mgmt.capAcc)

/-- WAYPOINT_COPY: the configuration is copied, and commands start again (R462). A is the highest acceptance
number of a completed command; commands up to A that wait to start are not in the copy and are named with it. -/
def State.wpCopy (s : State) : State :=
  if s.mgmt.cap != .waiting || s.capWaits then s
  else
    let a0 := match s.wpLast with
      | some w => w.a
      | none => 0
    let a : Nat := s.host.jrn.foldl (fun m j => if j.exec.isSome then max m j.desc.acc else m) a0
    let late := (s.host.jrn.filter (fun j => j.exec.isNone && decide (j.desc.acc ≤ a))).map (fun j => j.desc.acc)
    let cfg := s.capture
    let m := s.wpMap
    let s := s.setWpMap (m.set none (wpVictim m) none)
    { s with mgmt := { s.mgmt with cap := .writing a s.clk.msc late, capCfg := cfg } }

/-- The capture ends, and its command completes. -/
def State.capEnd (s : State) (st r0 r1 : Nat) : State :=
  let acc := s.mgmt.capAcc
  let s := { s with mgmt := { s.mgmt with cap := .idle, capAcc := none, capPin := false, capAuto := false, capCfg := {} } }
  let s := match acc with
    | some a => s.complete a { status := st, r0 := r0, r1 := r1 }
    | none => s
  s.heldCapture

/-- WAYPOINT_DONE (R460, R462 to R464, R479): the write has ended, with success or not, and the waypoint has `kib`
KiB. -/
def State.wpDone (s : State) (good : Bool) (kib : Nat) : State :=
  match s.mgmt.cap with
  | .writing a msc late =>
    let trial := s.mgmt.upd.st == UpdSt.trial
    if !good || !s.flashOk || decide (114688 < kib) then
      ((s.add32 (wptA 0xA8) 1).raise evWaypointFail 0).capEnd stInternal 0 0
    else
      let ver := s.mgmt.wpVer + 1
      let m := s.wpMap
      let slot := wpVictim m
      let w : Waypoint :=
        { ver := ver, wpf := s.runWpf, a := a, msc := msc, size := kib, pinned := s.mgmt.capPin && decide (wpPinned m < 4)
          auto := s.mgmt.capAuto, late := late, cfg := s.mgmt.capCfg }
      let s := s.setWpMap (m.set none slot (some w))
      let s := { s with mgmt := { s.mgmt with
        wpVer := ver, wpLatest := if trial then s.mgmt.wpLatest else slot, jrnSince := 0, blkSince := 0 } }
      let s := { s with host := { s.host with jrnExtra := 1 } }
      let s := (s.add32 (wptA (if s.mgmt.capAuto then 0xA0 else 0xA4)) 1).jrnTrim
      (s.raise evWaypointDone (ver % 2 ^ 32)).capEnd stOk (ver % 2 ^ 32) (ver / 2 ^ 32)
  | _ => s

/-! The return to a waypoint (R465). -/

/-- An object is there and stays, in the waypoint. -/
def RoadSt.stays (r : RoadSt) : Bool := r == .enabled || r == .resuming

/-- Domains become the waypoint's. -/
def State.returnDoms (s : State) (w : WpCfg) (e : Nat) (discard : Bool) : State :=
  (keysBoth s.doms w.doms).foldl (fun s d =>
    let x := s.domE d
    let y := w.doms.get {} d
    let pool := fun (a b : HostPool) => if a.posts.isEmpty then b else a
    let merge := fun (x : Dom) =>
      { x with quota := y.quota, windows := y.windows, rx := y.rx
               pool4 := pool x.pool4 y.pool4, pool5 := pool x.pool5 y.pool5, pool6 := pool x.pool6 y.pool6
               pool7 := pool x.pool7 y.pool7 }
    if d = 0 then s.setDom d (merge x)
    else
      match x.road, y.road.stays with
      | .enabled, true => s.setDom d (merge x)
      | .enabled, false => s.applyTeardown d e discard
      | .disabled, true => s.setDom d { (merge {}) with road := .enabled }
      | .draining, true => s.setDom d { x with road := .resuming, newQuota := some y.quota, resumeR := some e }
      | _, _ => s) s

/-- Sub-channels become the waypoint's: rate and road length change only where the sub-channel is DISABLED. -/
def State.returnSubs (s : State) (w : WpCfg) (e : Nat) (discard : Bool) : State :=
  (keysBoth s.pon.subs w.pon.subs).foldl (fun s sc =>
    let x := s.sub sc
    let y := w.pon.subs.get (Sub.dflt sc) sc
    let off := x.road == .disabled
    let s := s.setSub sc { x with
      len := if off then y.len else x.len, rate := if off then y.rate else x.rate
      guardBits := y.guardBits, phaseTol := y.phaseTol, profiles := y.profiles, paramsSet := y.paramsSet
      eqdThr := y.eqdThr, lostLimit := y.lostLimit, rogueAuto := y.rogueAuto
      disc := { x.disc with period := y.disc.period, rttMin := y.disc.rttMin, diff := y.disc.diff, admitNew := y.disc.admitNew
                            admitDom := y.disc.admitDom } }
    let c := s.subCph sc
    let k := w.cph.subs.get {} sc
    let s := s.setSubCph sc { c with sm4 := if off then k.sm4 else c.sm4, rekeyS := k.rekeyS }
    match x.road, y.road.stays with
    | .enabled, false => s.applyDisable sc e discard
    | .disabled, true =>
      if s.chRoom sc && decide (s.reserved (scDie sc) + s.creditNeed sc ≤ s.budget (scDie sc)) then
        let s := (s.reserve sc).chBind sc
        (s.modSub sc (fun x => { x with pendE := some e })).applyEnable sc e
      else s
    | .draining, true => s.modSub sc (fun x => { x with road := .resuming, resumeR := some (max e (x.drainE.getD 0 + x.len)) })
    | _, _ => s) s

/-- Terminal objects become the waypoint's; an unchanged one keeps its activation state. -/
def State.returnTerms (s : State) (w : WpCfg) (e : Nat) (discard : Bool) : State :=
  (keysBoth s.pon.terms w.pon.terms).foldl (fun s k =>
    let sc := k / 512
    let t := k % 512
    let x := s.term sc t
    let y := w.pon.terms.get {} k
    let same := x.serial == y.serial && x.dom == y.dom
    if y.act == .free then s.shutTerm sc t e discard .removed
    else if x.act == .free then s.setTerm sc t y
    else if !same then
      if x.act == .registered || x.act == .disabled then (s.freeTerm sc t).setTerm sc t y
      else s.shutTerm sc t e discard .removed
    else
      let s := s.setTerm sc t { x with regId := y.regId }
      if y.cmdDis && !x.cmdDis then s.applyDeact sc t e discard true
      else if !y.cmdDis && !y.rogueIso && x.act == .disabled then
        (s.sendDisable sc t s.nextFrame true).setTerm sc t { x with regId := y.regId, act := .registered, cmdDis := false, rogueIso := false }
      else s) s

/-- A unit of the waypoint is the one that is installed. -/
def AUnit.like (x y : AUnit) : Bool := x.alloc == y.alloc && x.sc == y.sc && x.term == y.term && x.dom == y.dom

/-- Place of a unit of the waypoint: its own lane where that is free. -/
def State.returnPlace (s : State) (y : AUnit) : Option (Nat × Nat) :=
  if (s.laneUnit y.group y.batch y.lane).isNone then some (y.batch, y.lane)
  else match s.placeUnit y.group with
    | .ok p => some p
    | .error _ => none

/-- Create a unit of the waypoint with its install pending for e. -/
def State.returnUnit (s : State) (u e : Nat) (y : AUnit) : State :=
  match s.returnPlace y with
  | none => s
  | some (b, k) =>
    let x : AUnit := { inst := true, alloc := y.alloc, sc := y.sc, term := y.term, dom := y.dom, installE := some e
                       group := y.group, batch := b, lane := k, params := y.params }
    (s.setUnit u x).bindLane u y.group b k

/-- The entries of a return in W(e) of group q (R132): units that it creates are installed, and units that it
removes are retired, by changes of their own. -/
def State.returnEntries (s : State) (q e acc : Nat) (discard : Bool) (w : WpCfg) : State :=
  (keysBoth s.grant.units w.grant.units).foldl (fun s u =>
    let x := s.unit u
    let y := w.grant.units.get {} u
    let want := y.inst && (y.road.stays || y.installE.isSome) && y.group == q
    let pend := fun (s : State) (c : Change) => { s with deferred := pendInsert s.deferred ⟨e, acc, 0, u, 0, none, c⟩ }
    if want && !x.inst then
      let s := s.returnUnit u e y
      if (s.unit u).inst then pend s (.unitInstall u) else s
    else if x.inst && x.group == q && x.road == .enabled && x.retireE.isNone && !(y.inst && x.like y) then
      pend (s.setUnit u { x with retireE := some e, discard := discard, entryRun := false }) (.unitRetire u discard)
    else s) s

/-- Allocation units become the waypoint's. -/
def State.returnUnits (s : State) (w : WpCfg) (e : Nat) (discard : Bool) : State :=
  (keysBoth s.grant.units w.grant.units).foldl (fun s u =>
    let x := s.unit u
    let y := w.grant.units.get {} u
    let want := y.inst && (y.road.stays || y.installE.isSome)
    if !x.inst then (if want then (s.returnUnit u e y).applyInstall u else s)
    else if want && x.like y then
      let s := (List.range 12).foldl (fun s i =>
        if x.params.getD i 0 = y.params.getD i 0 then s else s.setRowWord x.group x.batch x.lane (4 + i) (y.params.getD i 0)) s
      let s := s.modUnit u (fun z => { z with params := y.params })
      if x.road == .draining then
        s.modUnit u (fun z => { z with road := .resuming, resumeR := some (max e (x.drainE.getD 0 + s.len x.sc)) })
      else s
    else s.shutUnit u e discard) s

/-- Two flows have the same fields that MODIFY_FLOW keeps (R307). -/
def Flow.like (x y : Flow) : Bool :=
  x.sc == y.sc && x.term == y.term && x.xgem == y.xgem && x.kind == y.kind && x.encrypt == y.encrypt && x.dom == y.dom &&
  x.outerVid == y.outerVid && x.innerVid == y.innerVid && x.innerNone == y.innerNone

/-- Flows become the waypoint's. -/
def State.returnFlows (s : State) (w : WpCfg) (e : Nat) (discard : Bool) : State :=
  (keysBoth s.data.flows w.data.flows).foldl (fun s i =>
    let x := s.flow i
    let y := w.data.flows.get {} i
    let want := y.inst && y.road.stays
    if !x.inst then (if want then s.newFlow i { y with road := .enabled, destroyE := none, drainE := none, resumeR := none } else s)
    else if want && x.like y then
      let z : Flow := { x with dsTag := y.dsTag, usTag := y.usTag, usVid := y.usVid, uPort := y.uPort, macLimit := y.macLimit }
      if x.road == .draining then
        s.setFlow i { z with road := .resuming, keyHeld := z.kind == 0, resumeR := some (max e (x.drainE.getD 0 + s.len x.sc)) }
      else s.setFlow i z
    else s.shutFlow i e discard) s

/-- Scheduling parameters become the waypoint's; credits are clamped, not refilled (R279). -/
def Sched.become (x y : Sched) (now : Nat) : Sched :=
  { x with cir := x.cir.change true now y.cir.rate y.cir.burst, pir := x.pir.change false now y.pir.rate y.pir.burst
           weight := y.weight, strict := y.strict, gateClass := y.gateClass, usClass := y.usClass, qlimit := y.qlimit }

/-- A map of scheduling parameters becomes the waypoint's. -/
def schedBecome (m w : SMap Sched) (now : Nat) : SMap Sched :=
  (keysBoth m w).foldl (fun r k => r.set {} k ((m.get {} k).become (w.get {} k) now)) []

/-- A policer becomes the waypoint's (R292, R294). -/
def Policer.become (x y : Policer) (now : Nat) : Policer :=
  if y.enabled && !x.enabled then
    { x with enabled := true, tc := Bucket.full y.tc.rate y.tc.burst now, tp := Bucket.full y.tp.rate y.tp.burst now }
  else { x with enabled := y.enabled, tc := x.tc.change true now y.tc.rate y.tc.burst, tp := x.tp.change false now y.tp.rate y.tp.burst }

/-- Scheduling blocks, policers, port adjustments, gate lists and steering entries become the waypoint's. -/
def State.returnSched (s : State) (w : WpCfg) : State :=
  let now := s.ns
  s.modData (fun d => { d with
    flowS := schedBecome d.flowS w.data.flowS now, classS := schedBecome d.classS w.data.classS now
    termN := schedBecome d.termN w.data.termN now, domN := schedBecome d.domN w.data.domN now
    polS := (keysBoth d.polS w.data.polS).foldl (fun r k => r.set {} k ((d.polS.get {} k).become (w.data.polS.get {} k) now)) []
    ports := (keysBoth d.ports w.data.ports).foldl (fun (r : SMap Port) k =>
      let p : Port := { d.ports.get {} k with adj := (w.data.ports.get {} k).adj, list := (w.data.ports.get {} k).list }
      r.set {} k p) []
    steer := w.data.steer })

/-- Static MAC entries, flood lists and the seed of a pipeline become the waypoint's. -/
def State.returnPipe (s : State) (p : Nat) (w : Pipe) : State :=
  let x := s.pipe p
  let same := fun (m : MacEnt) =>
    match (w.find (keyOf m)).bind w.at with
    | some n => n.uplink == m.uplink && n.port == m.port
    | none => false
  let x := x.keepIf (fun m => !m.stat || same m)
  let x := if x.seed = w.seed then x else (x.rebuild w.seed).1
  let x := w.entries.foldl (fun (x : Pipe) e =>
    if (x.find (keyOf e.2)).isSome then x else (x.insert e.2).getD x) x
  s.setPipe p { x with floods := w.floods.map (fun f => (f.1, f.2.filter (fun i => (s.flow i).inst && (s.flow i).road != .draining))) }

/-- Groups' programs and the shared tables become the waypoint's: they are in force from this snapshot (R218). -/
def State.returnPrograms (s : State) (w : WpCfg) (e : Nat) : State :=
  let qs := keysBoth s.grant.groups w.grant.groups
  let armed := qs.filter (fun q => (s.group q).shadow == .armed)
  let s := s.disarm armed
  let changed := qs.any (fun q =>
    let x := s.group q
    let y := w.grant.groups.get {} q
    (x.prog x.active).digest != (y.prog y.active).digest)
  let s := qs.foldl (fun s q =>
    let y := w.grant.groups.get {} q
    s.modGroup q (fun x => { x with active := y.active, slot0 := y.slot0, slot1 := y.slot1, swapMsc := 0
                                    shadow := if y.shadow == .armed then .admitted else y.shadow })) s
  let s := { s with grant := { s.grant with
    table0 := w.grant.table0, table1 := w.grant.table1, tableDirty := [], tableCopy := [], hintVlans := w.grant.hintVlans } }
  if changed then s.raise evProgramSwapped (e % 2 ^ 32) else s

/-- SecY settings and SA bindings become the waypoint's: an SA that it does not hold is removed; one whose entry in
the wrapped store is gone does not come back. -/
def State.returnSas (s : State) (w : WpCfg) : State :=
  let s := (s.cph.sas.keysWhere (fun k x => x.inst && !(w.cph.sas.get {} k).inst)).foldl (fun s k => s.zeroSa k) s
  s.modCph (fun c =>
    let m := (keysBoth c.secys w.cph.secys).foldl (fun (r : SMap SecY) k =>
      let y : SecY := { w.cph.secys.get {} k with noSa := (c.secys.get {} k).noSa }
      r.set {} k y) []
    { c with secys := m })

/-- Recorder bindings become the waypoint's (R441): a record that holds samples is not bound again. -/
def State.returnRecs (s : State) (w : WpCfg) : State :=
  s.modRec (fun r =>
    let m := (keysBoth r.recs w.recs).foldl (fun (m : SMap Rec) k =>
      let x := r.recs.get {} k
      let y := w.recs.get {} k
      let z : Rec :=
        if x.bound && !y.bound then { x with unbind := true }
        else if !x.bound && y.bound && x.h.count == 0 then
          { x with bound := true, unbind := false, kind := y.kind, dom := y.dom, log := y.log, source := y.source
                   width := y.width, base := y.base }
        else x
      m.set {} k z) []
    { r with recs := m })

/-- Uplink ports become the waypoint's. -/
def State.returnPorts (s : State) (w : WpCfg) : State :=
  (keysBoth s.mgmt.uports w.uports).foldl (fun s u =>
    let x := s.uport u
    let y := w.uports.get {} u
    if x.cfg = y.cfg then
      if y.road == .enabled && x.road == .disabled then s.portEnable u
      else if y.road != .enabled && x.road == .enabled then
        (s.setUport u { x with road := .draining }).freeQueues true (fun i => i / 512 == u)
      else s
    else
      let s := if x.cfg.isSome then s.removePort u else s
      let s := s.setUport u { cfg := y.cfg }
      if y.road == .enabled then s.portEnable u else s) s

/-- PTP bindings become the waypoint's; its pool layout is recorded for the next restart (R342). -/
def State.returnRest (s : State) (w : WpCfg) : State :=
  let s1 := { s with time := { s.time with ptpPorts := w.ptpPorts, ptpRx := w.ptpRx } }
  if w.buf.layout = s.buf.layout then s1 else s1.modBuf (fun b => { b with layoutPend := some w.buf.layout })

/-- The configuration becomes the waypoint's at the snapshot that begins roadbook e (R465). -/
def State.applyReturn (s : State) (ver e : Nat) : State :=
  match s.mgmt.returns.find? (fun r => r.1 == ver) with
  | none => s
  | some (_, discard, w) =>
    let s := { s with mgmt := { s.mgmt with returns := s.mgmt.returns.filter (fun r => r.1 != ver) } }
    let s := s.returnDoms w e discard
    let s := s.returnSubs w e discard
    let s := s.returnTerms w e discard
    let s := s.returnPrograms w e
    let s := s.returnUnits w e discard
    let s := s.returnFlows w e discard
    let s := s.returnSched w
    let s := (List.range 8).foldl (fun s p => s.returnPipe p (w.data.pipes.get {} p)) s
    let s := s.returnSas w
    let s := s.returnRecs w
    (s.returnPorts w).returnRest w

/-! Family 0x08 (R483). -/

/-- TAKE_WAYPOINT (R458, R462, R482). At replay nothing is taken again. -/
def infoTakeWaypoint : CmdInfo := { op := 0x0801, args := fun c => decide (c.n0 < 2) && c.zeroFrom 1 }

def bodyTakeWaypoint : Body := fun rp c s =>
  if rp.isSome then ok s
  else if s.mgmt.cap != .idle || !s.flashOk then bad stState s
  else if c.n0 = 1 && decide (4 ≤ wpPinned s.wpMap) then bad stNoRoom s
  else
    (.opened, { s with mgmt := { s.mgmt with cap := .armed, capAuto := false, capPin := c.n0 == 1, capAcc := some c.acc } })

/-- RETURN_WAYPOINT (R465). -/
def infoReturnWaypoint : CmdInfo := { op := 0x0802, defer := true, args := fun c => decide (c.n2 < 2) && c.zeroFrom 3 }

def bodyReturnWaypoint : Body := fun rp c s =>
  let ver := pair64 c.p0 c.p1
  match wpFind s.wpMap ver with
  | none => bad stNotFound s
  | some (_, w) =>
    if !s.mgmt.returns.isEmpty then bad stState s
    else
      match s.resolveE rp c with
      | .error n => bad n s
      | .ok e =>
        if !s.pendRoom then bad stNoRoom s
        else if decide (w.wpf < s.runWpfMin) || decide (s.runWpf < w.wpf) then bad stFormat s
        else
          let s := { s with mgmt := { s.mgmt with returns := [(ver, c.n2 == 1, w.cfg)] } }
          deferred e ((s.add32 (wptA 0xAC) 1).defer c e (.waypointReturn ver (c.n2 == 1)))

/-- PIN_WAYPOINT (R464). -/
def infoPinWaypoint : CmdInfo := { op := 0x0803, args := fun c => decide (c.n2 < 2) && c.zeroFrom 3 }

def bodyPinWaypoint : Body := fun _ c s =>
  let m := s.wpMap
  match wpFind m (pair64 c.p0 c.p1) with
  | none => bad stNotFound s
  | some (k, w) =>
    if c.n2 = 1 && !w.pinned && decide (4 ≤ wpPinned m) then bad stNoRoom s
    else ok (s.setWpMap (m.set none k (some { w with pinned := c.n2 == 1 })))

/-- LIST_WAYPOINTS (R483): 32 bytes a slot; the layout within is read as version 8, WPF 2, A 8, milestone 8, size
4 and flags 2 bytes: bit 0 valid, 1 pinned, 2 automatic, 3 converted. -/
def infoListWaypoints : CmdInfo := { op := 0x0804, query := true, buf := .out (fun _ => 256), args := fun c => c.zeroFrom 0 }

def bodyListWaypoints : Body := fun _ c s =>
  ok (s.outBuf c ((List.range 8).map (fun k =>
    match s.wp k with
    | none => List.replicate 32 0
    | some w =>
      leBytes 8 w.ver ++ leBytes 2 w.wpf ++ leBytes 8 w.a ++ leBytes 8 w.msc ++ leBytes 4 w.size ++
        leBytes 2 (1 + 2 * b2n w.pinned + 4 * b2n w.auto + 8 * b2n (s.mgmt.conv.get none k).isSome))).flatten)

/-- RELEASE_HOLD (R467). A restart samples the strap anew: nothing is released at replay. -/
def infoReleaseHold : CmdInfo := { op := 0x0805, defer := true, args := fun c => c.zeroFrom 0 }

def bodyReleaseHold : Body := fun rp c s =>
  if rp.isSome then ok s
  else if !s.mgmt.pwr.held then bad stState s
  else
    match s.resolveE rp c with
    | .error n => bad n s
    | .ok e => if !s.pendRoom then bad stNoRoom s else deferred e (s.defer c e .releaseHold)

/-- FACTORY_CLEAN (R443, R468). -/
def infoFactoryClean : CmdInfo := { op := 0x0806, buf := .inp (fun n => n == 96), args := fun c => c.zeroFrom 0 }

/-- The check of a clean token, in the order of R443. -/
def State.cleanStatus (s : State) (t : Token96) : Nat :=
  if t.magic != 0x46430001 || t.first != 0 || t.count != 0 || t.flags != 0 || t.zero != 0 then stBadArg
  else if t.serial != Config.serial || !s.nonceOk t.nonce ||
      !Config.sm2Check (s.mgmt.rcd.clearKey.getD (Config.otpKeyHash 0)) t.body t.sig then stAuthFail
  else stOk

/-- Update states in which retained state may be erased (R468). -/
def UpdSt.cleanable (u : UpdSt) : Bool := u == .idle || u == .receiving || u == .received || u == .verified

/-- The rings stop, the erase marker is written and the records are cleared with a ledger entry (R468, steps 1 and
2); the erasure comes with the warm reset that follows. -/
def State.startErase (s : State) (t : Token96) : State :=
  let u : Token96 := { t with first := 0, count := 4096, flags := 1 }
  let s := (s.usedRings 0).foldl (fun s r => s.ringDisable r) s
  let s := (s.clearRecords u).ledgerAppend u
  { s with mgmt := { s.mgmt with pwr := { s.mgmt.pwr with erase := true, resetDue := 8 } } }

def bodyFactoryClean : Body := fun rp c s =>
  if rp.isSome then ok s
  else
    let t := readToken c.inp
    let st := s.cleanStatus t
    let s := s.modRec (fun r => { r with nonce := none })
    if st != stOk then bad st s
    else if !(s.mgmt.pair.st == .unpaired || s.mgmt.pair.st == .alone) || !s.treesOff || !s.mgmt.upd.st.cleanable then
      bad stState s
    else ok (s.startErase t)

/-! Meanings. -/

/-- WAYPOINT_TRIGGER. -/
def execWaypointTrigger (s : State) : Answer := kept s s.wpTrigger
/-- WAYPOINT_CAPTURE. -/
def execWaypointCapture (s : State) : Answer := kept s s.wpCapture
/-- WAYPOINT_COPY. -/
def execWaypointCopy (s : State) : Answer := kept s s.wpCopy
/-- WAYPOINT_DONE. -/
def execWaypointDone (ok : Bool) (kib : Nat) (s : State) : Answer := kept s (s.wpDone ok kib)
/-- TAKE_WAYPOINT. -/
def execTakeWaypoint (c : Desc) (s : State) : Answer := kept s (runCmd infoTakeWaypoint bodyTakeWaypoint c s)
/-- RETURN_WAYPOINT. -/
def execReturnWaypoint (c : Desc) (s : State) : Answer := kept s (runCmd infoReturnWaypoint bodyReturnWaypoint c s)
/-- PIN_WAYPOINT. -/
def execPinWaypoint (c : Desc) (s : State) : Answer := kept s (runCmd infoPinWaypoint bodyPinWaypoint c s)
/-- LIST_WAYPOINTS. -/
def execListWaypoints (c : Desc) (s : State) : Answer := kept s (runCmd infoListWaypoints bodyListWaypoints c s)
/-- RELEASE_HOLD. -/
def execReleaseHold (c : Desc) (s : State) : Answer := kept s (runCmd infoReleaseHold bodyReleaseHold c s)
/-- FACTORY_CLEAN. -/
def execFactoryClean (c : Desc) (s : State) : Answer := kept s (runCmd infoFactoryClean bodyFactoryClean c s)

end Sys2Proof.Machine
end

