-- ==== Sys2Proof/Machine/Update.lean ====
section
/-! DEFINITION. Firmware update (R469 to R481): the manifest, the download, the swap, the activation pause, the
trial and the fallback; family 0x09 and its mailbox requests. -/

namespace Sys2Proof.Machine

/-- Change the update state. -/
def State.modUpd (s : State) (f : Upd → Upd) : State := { s with mgmt := { s.mgmt with upd := f s.mgmt.upd } }

/-- Count in UPD_CNT (R487). -/
def State.updCnt (s : State) (k : Nat) : State := s.add32 (updA (0x60 + 4 * k)) 1

/-! The manifest (R469). -/

/-- Bytes of a manifest of n pieces. -/
def manifestLen (n : Nat) : Nat := 0x60 + 32 * n + 64

/-- A manifest is well formed (R469). -/
def manifestOk (l : List Nat) : Bool :=
  let n := leAt l 4 2
  let len := leAt l 8 4
  leAt l 0 4 == 0x4D460001 && decide (1 ≤ n ∧ n ≤ 512) && n == (len + 65535) / 65536 && decide (leAt l 7 1 < 2) &&
  (sliceB l 0x12 6).all (· == 0) && (sliceB l 0x40 32).all (· == 0) && l.length == manifestLen n

/-- The fields of a manifest. -/
def readManifest (l : List Nat) : Manifest :=
  { pieces := leAt l 4 2, stepping := leAt l 6 1, raiseSvn := leAt l 7 1 % 2 == 1, imageLen := leAt l 8 4, svn := leAt l 12 2
    wpfWrite := leAt l 14 2, wpfReadMin := leAt l 16 2, fwVer := leAt l 24 8, imageDigest := sliceB l 32 32
    pieceDigests := (List.range (leAt l 4 2)).map (fun p => sliceB l (0x60 + 32 * p) 32), bytes := l }

/-- The signature of a manifest is good (R469). -/
def Manifest.signed (m : Manifest) : Bool :=
  let n := manifestLen m.pieces - 64
  Config.sm2Check (Config.otpKeyHash 1) (m.bytes.take n) (sliceB m.bytes n 64)

/-- Bytes of piece p. -/
def Manifest.pieceLen (m : Manifest) (p : Nat) : Nat := min (65536 * (p + 1)) m.imageLen - 65536 * p

/-! The download (R470 to R473). -/

/-- Clear the received-piece bitmap. -/
def State.clearBitmap (s : State) : State := (List.range 16).foldl (fun s k => s.setReg (updA (0x20 + 4 * k)) 0) s

/-- UPD_BEGIN on a manifest's bytes (R470): its status. -/
def State.updStart (s : State) (l : List Nat) : Nat × State :=
  let m := readManifest l
  if !manifestOk l then (stBadArg, s)
  else if s.mgmt.upd.st != .idle then
    (if (s.mgmt.upd.man.map (fun x => x.bytes)) == some l then stOk else stState, s)
  else if m.stepping != 0xA1 || decide (m.svn < s.minSvn) then (stImageCheck, s)
  else if !m.signed then (stAuthFail, s)
  else (stOk, s.clearBitmap.modUpd (fun u => { u with st := .receiving, man := some m }))

/-- A flash device is in use (R458). -/
def State.flashUp (s : State) (k : Nat) : Bool := (s.health 9 k).st == .active

/-- Program a piece into the download slot of each flash device in use, then set its bit (R471). -/
def State.pieceWrite (s : State) (p : Nat) (data : List Nat) : State :=
  let s := s.modUpd (fun u => { u with
    down0 := if s.flashUp 0 then u.down0.set [] p data else u.down0
    down1 := if s.flashUp 1 then u.down1.set [] p data else u.down1 })
  (s.setBit (updA (0x20 + 4 * (p / 32))) (p % 32) true).updCnt 0

/-- One piece with its check value (R471): status and RESULT0. -/
def State.piece (s : State) (p : Nat) (data chk : List Nat) : Nat × Nat × State :=
  let u := s.mgmt.upd
  match u.man with
  | none => (stState, 0, s)
  | some m =>
    if !(u.st == .receiving || u.st == .received) || !s.flashOk then (stState, 0, s)
    else if m.pieces ≤ p || data.length != m.pieceLen p then (stBadArg, 0, s)
    else if s.pieceBit p then (stOk, 1, s.updCnt 2)
    else
      let d := sm3 data
      if d != chk || d != m.pieceDigests.getD p [] then (stImageCheck, 0, s.updCnt 1)
      else
        let s := s.pieceWrite p data
        let s := if s.mgmt.pair.st == .paired && s.mgmt.pair.role == .active then s.emit (.link 7 [p]) else s
        if (List.range m.pieces).all (fun i => s.pieceBit i) then
          (stOk, 0, (s.modUpd (fun u => { u with st := .received })).raise evUpdateReady 0)
        else (stOk, 0, s)

/-- Bytes of the download slot of flash k. -/
def Upd.slot (u : Upd) (k n : Nat) : List Nat :=
  ((List.range n).map (fun p => (if k = 0 then u.down0 else u.down1).get [] p)).flatten

/-- Piece p is wrong in some flash device in use. -/
def State.pieceWrong (s : State) (m : Manifest) (p : Nat) : Bool :=
  [0, 1].any (fun k => s.flashUp k &&
    sm3 ((if k = 0 then s.mgmt.upd.down0 else s.mgmt.upd.down1).get [] p) != m.pieceDigests.getD p [])

/-- UPD_VERIFY_DONE (R473). -/
def State.updVerified (s : State) (acc : Nat) : State :=
  let u := s.mgmt.upd
  match u.man with
  | none => s
  | some m =>
    if u.st != .verifying || u.verAcc != some acc then s
    else if m.signed && s.flashOk && [0, 1].all (fun k => !s.flashUp k || sm3 (u.slot k m.pieces) == m.imageDigest) then
      ((s.modUpd (fun u => { u with st := .verified, verAcc := none })).raise evUpdateVerified 0).complete acc { status := stOk }
    else
      let bad := (List.range m.pieces).filter (fun p => s.pieceWrong m p)
      let s := bad.foldl (fun s p => s.setBit (updA (0x20 + 4 * (p / 32))) (p % 32) false) s
      (s.modUpd (fun u => { u with st := .receiving, verAcc := none })).complete acc { status := stImageCheck, r0 := bad.length }

/-! The swap and the pause (R474 to R476). -/

/-- Status of an activation (R474): OK if the swap may begin. -/
def State.swapStatus (s : State) : Nat :=
  let u := s.mgmt.upd
  match u.man with
  | none => stState
  | some m =>
    if u.st != .verified || !s.flashOk ||
        [0, 1].any (fun k => s.flashUp k && (List.range m.pieces).any (fun p => ((if k = 0 then u.down0 else u.down1).get [] p).isEmpty)) ||
        !(s.mgmt.pair.st == .unpaired || s.mgmt.pair.st == .alone || s.mgmt.pair.st == .paired) then stState
    else if decide ((match s.wpLast with
        | some w => w.wpf
        | none => m.wpfReadMin) < m.wpfReadMin) then stFormat
    else stOk

/-- The swap begins (R474). -/
def State.startSwap (s : State) (trials : Nat) (acc : Option Nat) (at' : Option (Nat × Nat)) : State :=
  s.modUpd (fun u => { u with
    st := .swapping, old := u.run, trials := if trials = 0 then 3 else trials, blk := 0, swapped := false
    openAcc := acc, openAt := at', late := false, cause := 0 })

/-- SWAP_BLOCK (R474): block i of the running image is saved, then replaced; the markers (i, SAVED) and (i, DONE)
follow each other. -/
def State.swapBlock (s : State) (i : Nat) : State :=
  let u := s.mgmt.upd
  match u.man with
  | none => s
  | some m =>
    if u.st != .swapping || u.swapped || i != u.blk || !s.flashOk then s
    else
      let data := (if s.flashUp 0 then u.down0 else u.down1).get [] i
      let s := s.setReg (updA 0x1C) (BitVec.ofNat 64 (i % 512))
      s.modUpd (fun u => { u with
        staging := u.staging.set [] i (u.image.get [] i), image := u.image.set [] i data, blk := i + 1
        swapped := decide (m.pieces ≤ i + 1) })

/-- No discovery or ranging window is open (R475). -/
def State.windowsPast (s : State) : Bool := s.pon.subs.all (fun e => e.2.disc.windows.all (fun w => w.closed))

/-- The activation pause begins (R475): the trial counter is set and the new image is to be started. -/
def State.beginPause (s : State) : State :=
  let u := s.mgmt.upd
  let wr := match s.mgmt.cap with
    | .idle => false
    | .armed => false
    | _ => true
  if u.st != .swapping || !u.swapped || s.paused || wr || !s.windowsPast then s
  else
    ((s.setBit (mgtA 0x0) 0 true).setFld (updA 0x0) 18 16 u.trials).modUpd (fun u => { u with bootDue := true, started := false })

/-- ACTIVATION_PAUSE (R475, R476): an ACTIVATE_AT whose time has not come waits for it. -/
def State.activationPause (s : State) : State :=
  let u := s.mgmt.upd
  if u.openAt.isSome && !u.late then s else s.beginPause

/-- Device time T in 2⁻¹⁶ ns (R370). -/
def devAt (sec ns : Nat) : Nat := sec * secUnits + ns * 65536

/-- ACTIVATE_AT_TIME (R476). -/
def State.activateTime (s : State) : State :=
  let u := s.mgmt.upd
  match u.openAt with
  | none => s
  | some (sec, ns) =>
    if u.st != .swapping || s.paused || u.late || decide (s.time.dev < devAt sec ns) then s
    else if u.swapped then s.beginPause
    else s.modUpd (fun u => { u with late := true })

/-! Trial and fallback (R477 to R479). -/

/-- A boot in trial (R477): the counter decides. -/
def State.trialBoot (s : State) : State :=
  let n := s.fld (updA 0x0) 18 16
  if n = 0 then s.modUpd (fun u => { u with bootDue := false, started := false, cause := 2 })
  else
    (s.setFld (updA 0x0) 18 16 (n - 1)).modUpd (fun u => { u with bootDue := false, started := true, run := u.man })

/-- Entries that the replay takes: those after the waypoint restored (R265, R462). -/
def replayList (w : Option Waypoint) (l : List Jrn) : List Jrn :=
  match w with
  | none => l
  | some w => l.filter (fun j => decide (w.a < j.desc.acc) || w.late.contains j.desc.acc)

/-- REPLAY_DONE, with the number of the journal's entries after waypoint w (R265, R271). -/
def State.replayDone (s : State) (w : Option Waypoint) : State :=
  s.raise evReplayDone (min (replayList w s.host.jrn).length 0xFFFFFFFF)

/-- Every retained waypoint in the format of the firmware in trial (R479). -/
def convertAll (m : SMap (Option Waypoint)) (wpf : Nat) : SMap (Option Waypoint) :=
  m.map (fun e => (e.1, e.2.map (fun w => { w with wpf := wpf })))

/-- The open activation completes. -/
def State.closeActivate (s : State) (st : Nat) : State :=
  let u := s.mgmt.upd
  let s := s.modUpd (fun u => { u with openAcc := none, openAt := none })
  match u.openAcc with
  | none => s
  | some a => s.complete a { status := st, r0 := if st = stOk then b2n u.late else 0 }

/-- TRIAL_START (R475, R478, R479): the new image reports itself in service, or FORMAT, or a configuration that
differs from the hardware's. -/
def State.trialStart (s : State) (agree format : Bool) : State :=
  let u := s.mgmt.upd
  if !u.started || !(u.st == .swapping || u.st == .trial) then s
  else if format then s.modUpd (fun u => { u with started := false, cause := 3 })
  else if !agree then s.modUpd (fun u => { u with started := false, cause := 6 })
  else
    let first := u.st == .swapping
    let s := s.modUpd (fun u => { u with started := false, st := .trial })
    let s := if first then { s with mgmt := { s.mgmt with conv := convertAll s.mgmt.wps s.runWpf } } else s
    let s := if s.paused then (s.setBit (mgtA 0x0) 0 false).replayDone s.wpLast else s
    let s := s.raise evUpdateTrial (s.fld (updA 0x0) 18 16)
    (s.closeActivate stOk).heldCapture

/-- LOADER_RESTART (R477, R533): the image is started once more. -/
def State.loaderRestart (s : State) : State :=
  if s.mgmt.upd.started then
    let s := (s.setFld (pwrA 0x4) 7 4 (s.fld (pwrA 0x4) 3 0)).setFld (pwrA 0x4) 3 0 7
    s.modUpd (fun u => { u with started := false, bootDue := true })
  else s

/-- The old image is in force again and the reverse copy begins (R478). -/
def State.revert (s : State) (cause : Nat) : State :=
  let n := match s.mgmt.upd.man with
    | some m => m.pieces
    | none => 0
  ((s.setFld (updA 0x0) 31 24 cause).setFld (updA 0x0) 18 16 0).modUpd (fun u => { u with
    st := .reverting, run := u.old, blk := n, cause := 0, started := false, bootDue := false, swapped := false })

/-- FALLBACK (R478): decided by the counter, by FORMAT, by a mismatch or by command. -/
def State.fallback (s : State) : State :=
  let u := s.mgmt.upd
  if u.cause = 0 || !(u.st == .swapping || u.st == .trial) then s
  else
    let s := s.revert u.cause
    let s := (s.setBit (mgtA 0x0) 0 false).replayDone s.wpLast
    let s := s.raise evUpdateFallback u.cause
    (s.closeActivate (if u.cause = 3 then stFormat else stInternal)).heldCapture

/-- REVERT_BLOCK (R478): the blocks go back in descending order; after the last one the update is over. -/
def State.revertBlock (s : State) (i : Nat) : State :=
  let u := s.mgmt.upd
  if u.st != .reverting || u.blk != i + 1 || !s.flashOk then s
  else
    let s := s.setReg (updA 0x1C) (BitVec.ofNat 64 (2 ^ 31 + i % 512))
    let s := s.modUpd (fun u => { u with image := u.image.set [] i (u.staging.get [] i), blk := i })
    if i = 0 then
      let s := s.clearBitmap.modUpd (fun u => { u with st := .idle, old := none })
      { s with mgmt := { s.mgmt with conv := [] } }
    else s

/-- CONFIRM (R477): the conversion slots become the waypoint slots. -/
def State.confirm (s : State) : State :=
  let svn := match s.mgmt.upd.man with
    | some m => if m.raiseSvn then m.svn else 0
    | none => 0
  let s := { s with mgmt := { s.mgmt with
    wps := s.mgmt.conv, conv := [], wpLatest := wpNewest s.mgmt.conv
    pwr := { s.mgmt.pwr with minSvn := max s.mgmt.pwr.minSvn svn } } }
  let s := (s.setFld (updA 0x0) 31 24 1).modUpd (fun u => { u with st := .idle, old := none, staging := [], swapped := false })
  (s.raise evUpdateConfirmed 0).jrnTrim

/-- UPD_ABORT (R470). -/
def State.updAbort (s : State) : State :=
  (s.clearBitmap.setFld (updA 0x0) 31 24 5).modUpd (fun u => { u with st := .idle })

/-- The UPD_STATUS record (R483, R484): the bitmap is followed by eight zero bytes. -/
def State.updBytes (s : State) : List Nat :=
  leBytes 4 s.updState ++ leBytes 4 s.updPieces ++ leBytes 8 s.runVer ++ leBytes 8 s.newVer ++
    ((List.range 16).map (fun k => leBytes 4 (s.reg (updA (0x20 + 4 * k))).toNat)).flatten ++ List.replicate 8 0

/-! Family 0x09 (R483). The update session lies in retained memory: nothing of it is redone at a restart. -/

/-- UPD_BEGIN (R470). -/
def infoUpdBegin : CmdInfo := { op := 0x0901, buf := .inp (fun _ => true), args := fun c => c.zeroFrom 0 }

def bodyUpdBegin : Body := fun rp c s =>
  if s.atRestart rp then ok s
  else
    match s.updStart c.inp with
    | (st, s) => bad st s

/-- UPD_PIECE (R471, R472). -/
def infoUpdPiece : CmdInfo := { op := 0x0902, buf := .inp (fun _ => true), args := fun c => decide (c.n0 < 512) && c.zeroFrom 1 }

def bodyUpdPiece : Body := fun rp c s =>
  if s.atRestart rp then ok s
  else if rp.isNone && !s.bufCheck c.dom c.buf c.bufLen then bad stBadArg (s.add64 (bpmA 0x128) 1)
  else
    let n := c.bufLen - 32
    match s.piece c.n0 ((padTo c.bufLen c.inp).take n) (sliceB (padTo c.bufLen c.inp) n 32) with
    | (st, r0, s) => (.fin { status := st, r0 := r0 }, s)

/-- UPD_VERIFY (R473). -/
def infoUpdVerify : CmdInfo := { op := 0x0903, args := fun c => c.zeroFrom 0 }

def bodyUpdVerify : Body := fun rp c s =>
  if s.atRestart rp then ok s
  else if !(s.mgmt.upd.st == .received || s.mgmt.upd.st == .verified) then bad stState s
  else
    let s := s.updCnt 3
    (.opened, s.modUpd (fun u => { u with st := .verifying, verAcc := some c.acc }))

/-- ACTIVATE (R474, R475). -/
def infoActivate : CmdInfo := { op := 0x0904, args := fun c => decide (c.n0 < 8) && c.zeroFrom 1 }

def bodyActivate : Body := fun rp c s =>
  if rp.isSome || s.mgmt.upd.st == .trial then ok s
  else
    let st := s.swapStatus
    if st != stOk then bad st s else (.opened, s.startSwap c.n0 (some c.acc) none)

/-- ACTIVATE_AT (R476). -/
def infoActivateAt : CmdInfo :=
  { op := 0x0905, args := fun c =>
      decide (pair64 c.p0 c.p1 < 2 ^ 48) && decide (c.n2 < 1000000000) && decide (c.n3 < 8) && c.zeroFrom 4 }

def bodyActivateAt : Body := fun rp c s =>
  if rp.isSome || s.mgmt.upd.st == .trial then ok s
  else
    let t := devAt (pair64 c.p0 c.p1) c.n2
    let st := s.swapStatus
    if decide (t < s.time.dev + devAt 1 0) || decide (s.time.dev + devAt 86400 0 < t) then bad stBadArg s
    else if s.pon.subs.any (fun e => e.2.road != .disabled) then bad stState s
    else if st != stOk then bad st s
    else (.opened, s.startSwap c.n3 (some c.acc) (some (pair64 c.p0 c.p1, c.n2)))

/-- CONFIRM (R458, R477). -/
def infoConfirm : CmdInfo := { op := 0x0906, args := fun c => c.zeroFrom 0 }

def bodyConfirm : Body := fun rp _ s =>
  if s.atRestart rp then ok s
  else if s.mgmt.upd.st != .trial || s.mgmt.upd.started || s.mgmt.upd.cause != 0 || !s.flashOk then bad stState s
  else ok s.confirm

/-- UPD_FALLBACK (R478): the fallback is decided. -/
def infoUpdFallback : CmdInfo := { op := 0x0907, args := fun c => c.zeroFrom 0 }

def bodyUpdFallback : Body := fun rp _ s =>
  if s.atRestart rp then ok s
  else if s.mgmt.upd.st != .trial then bad stState s
  else ok (s.modUpd (fun u => { u with cause := 4 }))

/-- UPD_ABORT (R470). -/
def infoUpdAbort : CmdInfo := { op := 0x0908, args := fun c => c.zeroFrom 0 }

def bodyUpdAbort : Body := fun rp _ s =>
  if s.atRestart rp then ok s
  else if s.mgmt.upd.st == .receiving || s.mgmt.upd.st == .received || s.mgmt.upd.st == .verified then ok s.updAbort
  else bad stState s

/-- UPD_STATUS (R483). -/
def infoUpdStatus : CmdInfo := { op := 0x0909, query := true, buf := .out (fun _ => 96), args := fun c => c.zeroFrom 0 }

def bodyUpdStatus : Body := fun _ c s => ok (s.outBuf c s.updBytes)

/-! Mailbox requests (R484). -/

/-- UPD_FRAG: a fragment of the manifest (piece 0xFFFF) or of a piece. -/
def State.updFrag (s : State) (m : Nat) : State :=
  let b := s.mbxBody m
  let p := leAt b 0 2
  let off := leAt b 4 4
  let chk := sliceB b 8 32
  let data := b.drop 40
  let x := s.mbx m
  let held : List Nat := if off = 0 then [] else match x.frag with
    | some (q, c, l) => if q = p ∧ c = chk then l else []
    | none => []
  let all := held ++ data
  let need := if p = 0xFFFF then (if all.length < 6 then manifestLen 512 else manifestLen (leAt all 4 2))
    else match s.mgmt.upd.man with
      | some k => k.pieceLen p
      | none => 0
  if b.length < 40 || leAt b 2 2 != 0 || off != held.length || (p == 0xFFFF && chk.any (· != 0)) || decide (need < all.length) ||
      (p != 0xFFFF && decide (512 ≤ p)) then s.mbxAnswer m stBadArg []
  else if all.length < need then
    (s.setMbx m { x with frag := some (p, chk, all) }).mbxAnswer m stOk []
  else
    let s := s.setMbx m { x with frag := none }
    if p = 0xFFFF then
      match s.updStart all with
      | (st, s) => s.mbxAnswer m st []
    else
      match s.piece p all chk with
      | (st, _, s) => s.mbxAnswer m st []

/-! Meanings. -/

/-- UPD_BEGIN. -/
def execUpdBegin (c : Desc) (s : State) : Answer := kept s (runCmd infoUpdBegin bodyUpdBegin c s)
/-- UPD_PIECE. -/
def execUpdPiece (c : Desc) (s : State) : Answer := kept s (runCmd infoUpdPiece bodyUpdPiece c s)
/-- UPD_VERIFY. -/
def execUpdVerify (c : Desc) (s : State) : Answer := kept s (runCmd infoUpdVerify bodyUpdVerify c s)
/-- ACTIVATE. -/
def execActivate (c : Desc) (s : State) : Answer := kept s (runCmd infoActivate bodyActivate c s)
/-- ACTIVATE_AT. -/
def execActivateAt (c : Desc) (s : State) : Answer := kept s (runCmd infoActivateAt bodyActivateAt c s)
/-- CONFIRM. -/
def execConfirm (c : Desc) (s : State) : Answer := kept s (runCmd infoConfirm bodyConfirm c s)
/-- UPD_FALLBACK. -/
def execUpdFallback (c : Desc) (s : State) : Answer := kept s (runCmd infoUpdFallback bodyUpdFallback c s)
/-- UPD_ABORT. -/
def execUpdAbort (c : Desc) (s : State) : Answer := kept s (runCmd infoUpdAbort bodyUpdAbort c s)
/-- UPD_STATUS. -/
def execUpdStatus (c : Desc) (s : State) : Answer := kept s (runCmd infoUpdStatus bodyUpdStatus c s)
/-- UPD_VERIFY_DONE. -/
def execUpdVerifyDone (acc : Nat) (s : State) : Answer := kept s (s.updVerified acc)
/-- SWAP_BLOCK. -/
def execSwapBlock (i : Nat) (s : State) : Answer := kept s (s.swapBlock i)
/-- ACTIVATION_PAUSE. -/
def execActivationPause (s : State) : Answer := kept s s.activationPause
/-- ACTIVATE_AT_TIME. -/
def execActivateAtTime (s : State) : Answer := kept s s.activateTime
/-- BOOT_IN_TRIAL. -/
def execBootInTrial (s : State) : Answer := kept s (if s.mgmt.upd.bootDue then s.trialBoot else s)
/-- TRIAL_START. -/
def execTrialStart (agree format : Bool) (s : State) : Answer := kept s (s.trialStart agree format)
/-- LOADER_RESTART. -/
def execLoaderRestart (s : State) : Answer := kept s s.loaderRestart
/-- FALLBACK. -/
def execFallback (s : State) : Answer := kept s s.fallback
/-- REVERT_BLOCK. -/
def execRevertBlock (i : Nat) (s : State) : Answer := kept s (s.revertBlock i)
/-- UPD_FRAG. -/
def execUpdFrag (m : Nat) (s : State) : Answer := kept s (s.mbxServe m 0x10 (fun s => s.updFrag m))
/-- UPD_STATUS by mailbox. -/
def execMbxUpdStatus (m : Nat) (s : State) : Answer :=
  kept s (s.mbxServe m 0x11 (fun s => s.mbxPlain m (fun s => (s.updBytes, s))))

end Sys2Proof.Machine
end

