-- ==== Sys2Proof/Machine/Replay.lean ====
section
/-! DEFINITION. Replay of the journal (R265): the catalogue of commands by opcode, a recorded command applied again,
due changes and the drains that end at restore (R55); and the journal records that a standby applies (R398). -/

namespace Sys2Proof.Machine

/-! The catalogue (R242). -/

/-- Family 0x01: trees and sub-channels. -/
def treeCmds : List (CmdInfo × Body) :=
  [(infoEnable, bodyEnable),
   (infoDisable, bodyDisable),
   (infoSetRoadLength, bodySetRoadLength),
   (infoSetSubchParams, bodySetSubchParams),
   (infoSetDiscovery, bodySetDiscovery),
   (infoResetTree, bodyResetTree)]

/-- Family 0x02: terminals. -/
def termCmds : List (CmdInfo × Body) :=
  [(infoAddTerminal, bodyAddTerminal),
   (infoRemoveTerminal, bodyRemoveTerminal),
   (infoDeactivateTerminal, bodyDeactivateTerminal),
   (infoDisableSerial, bodyDisableSerial),
   (infoEnableSerial, bodyEnableSerial),
   (infoSetBurstProfile, bodySetBurstProfile),
   (infoSetRanging, bodySetRanging),
   (infoRangeTerminal, bodyRangeTerminal),
   (infoIsolateRogue, bodyIsolateRogue),
   (infoReadUnknown, bodyReadUnknown),
   (infoReadTerminal, bodyReadTerminal),
   (infoReadSubchAct, bodyReadSubchAct),
   (infoSendPloam, bodySendPloam),
   (infoSendOmci, bodySendOmci),
   (infoBindTerminalRx, bodyBindTerminalRx)]

/-- Family 0x03: allocation units. -/
def unitCmds : List (CmdInfo × Body) :=
  [(infoInstallUnit, bodyInstallUnit),
   (infoRetireUnit, bodyRetireUnit),
   (infoModifyUnit, bodyModifyUnit),
   (infoPostHint, bodyPostHint),
   (infoSetHintVlan, bodySetHintVlan),
   (infoReadUnitLedger, bodyReadUnitLedger)]

/-- Family 0x04: flows and scheduling. -/
def flowCmds (c : Desc) : List (CmdInfo × Body) :=
  [(infoCreateFlow, bodyCreateFlow),
   (infoDestroyFlow, bodyDestroyFlow),
   (infoModifyFlow, bodyModifyFlow),
   (infoReadFlow, bodyReadFlow),
   (infoJoinFlood, bodyJoinFlood),
   (infoLeaveFlood, bodyLeaveFlood),
   (infoSetFlowSched, bodySetFlowSched),
   (infoSetNodeSched, bodySetNodeSched),
   (infoSetPolicer, bodySetPolicer),
   (infoSetPortSched, bodySetPortSched),
   (infoSetGateList, bodySetGateList),
   (infoReadQueue c, bodyReadQueue)]

/-- Family 0x05: forwarding and ports. -/
def fwdCmds : List (CmdInfo × Body) :=
  [(infoSetSteer, bodySetSteer),
   (infoAddEntry, bodyAddEntry),
   (infoDeleteEntry, bodyDeleteEntry),
   (infoSearch, bodySearch),
   (infoNext, bodyNext),
   (infoWalkEnd, bodyWalkEnd),
   (infoFlushByPort, bodyFlushByPort),
   (infoRehash, bodyRehash),
   (infoConfigPort, bodyConfigPort),
   (infoPortUp, bodyPortUp),
   (infoPortDown, bodyPortDown)]

/-- Family 0x06: keys. -/
def keyCmds : List (CmdInfo × Body) :=
  [(infoSetCipher, bodySetCipher),
   (infoSetKeyPolicy, bodySetKeyPolicy),
   (infoInstallPonKey, bodyInstallPonKey),
   (infoSwitchPonKey, bodySwitchPonKey),
   (infoConfigSecy, bodyConfigSecy),
   (infoInstallSa, bodyInstallSa),
   (infoEnableSa, bodyEnableSa),
   (infoRemoveSa, bodyRemoveSa),
   (infoReadSa, bodyReadSa),
   (infoRekeyTerminal, bodyRekeyTerminal)]

/-- Family 0x07: programs. -/
def progCmds : List (CmdInfo × Body) :=
  [(infoLoadProgram, bodyLoadProgram),
   (infoActivateProgram, bodyActivateProgram),
   (infoWriteTable, bodyWriteTable),
   (infoReadTable, bodyReadTable),
   (infoReadCoreDiag, bodyReadCoreDiag)]

/-- Family 0x08: waypoints. -/
def wptCmds : List (CmdInfo × Body) :=
  [(infoTakeWaypoint, bodyTakeWaypoint),
   (infoReturnWaypoint, bodyReturnWaypoint),
   (infoPinWaypoint, bodyPinWaypoint),
   (infoListWaypoints, bodyListWaypoints),
   (infoReleaseHold, bodyReleaseHold),
   (infoFactoryClean, bodyFactoryClean)]

/-- Family 0x09: firmware update. -/
def updCmds : List (CmdInfo × Body) :=
  [(infoUpdBegin, bodyUpdBegin),
   (infoUpdPiece, bodyUpdPiece),
   (infoUpdVerify, bodyUpdVerify),
   (infoActivate, bodyActivate),
   (infoActivateAt, bodyActivateAt),
   (infoConfirm, bodyConfirm),
   (infoUpdFallback, bodyUpdFallback),
   (infoUpdAbort, bodyUpdAbort),
   (infoUpdStatus, bodyUpdStatus)]

/-- Family 0x0A: recorder. -/
def rcdCmds : List (CmdInfo × Body) :=
  [(infoRecBind, bodyRecBind),
   (infoRecUnbind, bodyRecUnbind),
   (infoRecRead, bodyRecRead),
   (infoGetClearNonce, bodyGetClearNonce),
   (infoClearRecords, bodyClearRecords),
   (infoReadClearLedger, bodyReadClearLedger),
   (infoSetClearKey, bodySetClearKey)]

/-- Family 0x0B: time. -/
def timeCmds : List (CmdInfo × Body) :=
  [(infoSetTime, bodySetTime),
   (infoSetPtpPort, bodySetPtpPort),
   (infoBindPtpRx, bodyBindPtpRx),
   (infoSendPtp, bodySendPtp),
   (infoComputeTod, bodyComputeTod)]

/-- Family 0x0C: protection. -/
def pairCmds : List (CmdInfo × Body) :=
  [(infoPairConfig, bodyPairConfig),
   (infoPairJoin, bodyPairJoin),
   (infoPairLeave, bodyPairLeave),
   (infoSwitchOver, bodySwitchOver),
   (infoForceActive, bodyForceActive),
   (infoTreePair, bodyTreePair),
   (infoTreeUnpair, bodyTreeUnpair),
   (infoSwitchTree, bodySwitchTree),
   (infoReadPair, bodyReadPair)]

/-- Family 0x0D: domains and buffers. -/
def domCmds : List (CmdInfo × Body) :=
  [(infoOpenDomain, bodyOpenDomain),
   (infoTeardownDomain, bodyTeardownDomain),
   (infoRegisterWindow, bodyRegisterWindow),
   (infoRemoveWindow, bodyRemoveWindow),
   (infoSetHostPool, bodySetHostPool),
   (infoPostBuffers, bodyPostBuffers),
   (infoReclaimBuffers, bodyReclaimBuffers),
   (infoSetPoolLayout, bodySetPoolLayout),
   (infoGrowPool, bodyGrowPool),
   (infoReadPools, bodyReadPools)]

/-- Family 0x0E: hardware. -/
def hwCmds : List (CmdInfo × Body) :=
  [(infoRetireHw, bodyRetireHw),
   (infoReturnHw, bodyReturnHw),
   (infoRunSelfTest, bodyRunSelfTest),
   (infoReadHealth, bodyReadHealth)]

/-- Commands of a family. -/
def famCmds (c : Desc) : List (CmdInfo × Body) :=
  match famOf c.opcode with
  | 0x01 => treeCmds
  | 0x02 => termCmds
  | 0x03 => unitCmds
  | 0x04 => flowCmds c
  | 0x05 => fwdCmds
  | 0x06 => keyCmds
  | 0x07 => progCmds
  | 0x08 => wptCmds
  | 0x09 => updCmds
  | 0x0A => rcdCmds
  | 0x0B => timeCmds
  | 0x0C => pairCmds
  | 0x0D => domCmds
  | 0x0E => hwCmds
  | _ => []

/-- The definition of a descriptor's command. -/
def cmdOf (c : Desc) : Option (CmdInfo × Body) :=
  if c.opcode = 0x0702 && decide (c.n3 = 1) then some (infoActivateProgramCancel, bodyActivateProgramCancel)
  else (famCmds c).find? (fun e => e.1.op == c.opcode)

/-! Drains and changes at restore (R55, R265). -/

/-- A sub-channel whose shut-down has come enters DRAINING, and its drain ends. -/
def State.closeSub (s : State) (sc : Nat) : State :=
  let x := s.sub sc
  let s := if x.road == .enabled && s.come x.drainE then s.setSub sc { x with road := .draining, pendE := none } else s
  (s.subDone sc).unpairSettle (sc / 2)

/-- A unit whose shut-down has come enters DRAINING. -/
def State.drainUnit (s : State) (u : Nat) : State :=
  let x := s.unit u
  if x.road == .enabled && s.come x.drainE then s.setUnit u { x with road := .draining } else s

/-- The drains that end at restore, the road being closed: of every kind but units, whose RETIRE entries may still
have to run. -/
def State.closeRoad (s : State) : State :=
  let s := (s.pon.terms.map (fun e => e.1)).foldl (fun s k => (s.termMilestone (k / 512) (k % 512)).termDrainEnd (k / 512) (k % 512)) s
  let s := (s.data.flows.map (fun e => e.1)).foldl (fun s i => s.flowDrainEnd i) s
  let s := (s.pon.subs.map (fun e => e.1)).foldl (fun s sc => s.closeSub sc) s
  let s := (s.pon.treeDrain.map (fun e => e.1)).foldl (fun s c => s.treeDrainEnd c) s
  (s.doms.map (fun e => e.1)).foldl (fun s d => (s.domainMilestone d).domainDrainEnd d) s

/-- The drains of units end; `all`: those too whose RETIRE entry still has to run, which is then dropped. -/
def State.closeUnits (s : State) (all : Bool) : State :=
  let waits := fun u => !all && (s.group (s.unit u).group).entries.contains (u, EntryKind.retire)
  let s := ((s.grant.units.map (fun e => e.1)).filter (fun u => !waits u)).foldl (fun s u => (s.drainUnit u).unitDrainEnd u) s
  if all then
    { s with grant := { s.grant with groups := s.grant.groups.mapAll (fun _ => {}) (fun _ x =>
      { x with entries := x.entries.filter (fun e => (s.unit e.1).inst) }) } }
  else s

/-- A change whose milestone has come by the first roadbook of the new run (R265). -/
def State.isDue (s : State) (p : Pend) : Bool := s.clk.running && decide (p.e ≤ s.clk.msc + 1)

/-- The RETIRE entry of a unit whose shut-down is due has still to run (R132, R265). -/
def State.owesRetire (s : State) (u : Nat) : State :=
  let q := (s.unit u).group
  if (s.unit u).inst && (s.group q).runs.entryLen .retire != 0 && (s.coreOf q).isSome && !(s.group q).entries.contains (u, .retire) then
    s.modGroup q (fun x => { x with entries := x.entries ++ [(u, .retire)] })
  else s

/-- One due change takes effect at restore. -/
def State.applyDue (s : State) (p : Pend) : State :=
  let s := { s with deferred := s.deferred.erase p }
  match p.change with
  | .waypointReturn ver _ => s.applyReturn ver p.e
  | .flowDestroy f d => s.flowShut f p.e d
  | .unitRetire u d => (s.applyRetireUnit u p.e d).owesRetire u
  | .domainTeardown d b =>
    let us := s.grant.units.keysWhere (fun _ x => x.inst && x.dom == d && x.road == .enabled)
    us.foldl (fun s u => s.owesRetire u) (s.applyTeardown d p.e b)
  | _ => s.applyChange p

/-- Due changes take effect one by one, in the order of R47. -/
def State.applyDues (fuel : Nat) (s : State) : State :=
  match fuel with
  | 0 => s
  | n + 1 =>
    match s.deferred.find? (fun p => s.isDue p) with
    | none => s
    | some p => (((s.applyDue p).closeUnits false).closeRoad).applyDues n

/-! A recorded command applied again (R265 step 1). -/

/-- A recorded status with an effect: OK, DEFERRED, and for LOAD_PROGRAM the statuses that empty the shadow
(R212). -/
def replays (op st : Nat) : Bool := st == stOk || st == stDeferred || (op == 0x0701 && (st == stRejected || st == stNoRoom))

/-- The status is as recorded, so far as the body decides it: a resume is applied as one that is still open. -/
def Res.agrees (r : Res) (st : Nat) : Bool :=
  match r with
  | .fin f => f.status == st || ((f.status == stOk || f.status == stDeferred) && (st == stOk || st == stDeferred))
  | .opened => true
  | .wait => true

/-- What follows a recorded body at a restart: the verification of an image and the drain of a port end at once. -/
def State.replayed (s : State) (c : Desc) : State :=
  match c.opcode with
  | 0x0701 => s.verifyDone c.acc
  | 0x050B => s.portDrainEnd c.n0
  | _ => s

/-- Apply a recorded command again: where an object still stands in its way that a due change takes away, the due
changes take effect first. -/
def State.replayOne (fuel : Nat) (b : Body) (c : Desc) (r : ExecRec) (s : State) : State :=
  match b (some r) c s with
  | (res, t) =>
    if res.agrees r.status then t.replayed c
    else
      match fuel with
      | 0 => t
      | n + 1 =>
        match s.deferred.find? (fun p => s.isDue p) with
        | none => t
        | some p => (((s.applyDue p).closeUnits true).closeRoad).replayOne n b c r

/-- One journal entry of the replay. -/
def State.replayEntry (s : State) (j : Jrn) : State :=
  match j.exec, cmdOf j.cmd with
  | some r, some (i, b) =>
    if i.query || i.tx || !replays j.desc.opcode r.status then s else s.replayOne s.deferred.length b j.cmd r
  | _, _ => s

/-! Journal and execution records of the ACTIVE device (R398, R411). -/

/-- Mirrored DHEAD and CDONE of a ring. -/
def State.mirrorRing (s : State) (r : Nat) (f : W32 × W32 → W32 × W32) : State :=
  s.modPair (fun p =>
    let x := p.mirror.get (0#32, 0#32) r
    { p with mirror := p.mirror.put r (f x) })

/-- A mirrored journal entry. -/
def State.mirrorEntry (s : State) (c : Desc) : State :=
  let first := (s.mgmt.pair.mirror.find c.ring).isNone
  let s := match s.jrnFind c.acc with
    | some _ => s
    | none => { s with host := { s.host with jrn := jrnInsert s.host.jrn (Jrn.of c), acceptNum := max s.host.acceptNum c.acc } }
  let s := s.mirrorRing c.ring (fun x => (c.seq + 1#32, if first then c.seq else x.2))
  -- ACTIVATE and ACTIVATE_AT: the standby's swap begins first (R480)
  if (c.opcode == 0x0904 || c.opcode == 0x0905) && s.swapStatus == stOk then
    s.startSwap (if c.opcode = 0x0904 then c.n0 else c.n3) none none
  else s

/-- A mirrored execution record: its effect with the recorded milestone, batch and lane. A failed activation is a
fallback on both devices (R480). -/
def State.mirrorExec (s : State) (c : Desc) (x : MirrorExec) : State :=
  let s := s.mirrorEntry c
  let r : ExecRec := ⟨x.status, x.e, x.r0, x.r1⟩
  if (s.jrnFind c.acc).any (fun j => j.exec.isSome) then s
  else
    let s := match cmdOf c with
      | some (i, b) => if i.query || i.tx || !replays c.opcode x.status then s else (b (some r) c s).2
      | none => s
    let s := s.jrnMod c.acc (fun j => { j with started := false, exec := some r, posted := true })
    let s := s.mirrorRing c.ring (fun y => if y.2 = c.seq then (y.1, y.2 + 1#32) else y)
    if (c.opcode == 0x0904 || c.opcode == 0x0905) && x.status != stOk && (s.mgmt.upd.st == .swapping || s.mgmt.upd.st == .trial) then
      s.modUpd (fun u => { u with cause := if x.status = stFormat then 3 else 2 })
    else s

/-- JOURNAL_ENTRY_RECORD (R247, R398): only a STANDBY device takes one; it acknowledges. -/
def State.mirrored (s : State) (c : Desc) (x : Option MirrorExec) : State :=
  if s.mgmt.pair.role != .standby || !s.serving then s
  else
    let s := match x with
      | none => s.mirrorEntry c
      | some r => s.mirrorExec c r
    s.emit (.link 2 [c.acc])

/-! Meanings. -/

/-- JOURNAL_ENTRY_RECORD. -/
def execJournalEntryRecord (c : Desc) (x : Option MirrorExec) (s : State) : Answer := kept s (s.mirrored c x)

end Sys2Proof.Machine
end

