-- ==== Sys2Proof/Machine/Power.lean ====
section
/-! DEFINITION. Supplies, resets and start-up (R511 to R527): power-fail warnings and brownouts, cold start and warm
reset, and the stages of R521. -/

namespace Sys2Proof.Machine

/-- Change the supplies, straps and start-up state. -/
def State.modPwr (s : State) (f : Pwr → Pwr) : State := { s with mgmt := { s.mgmt with pwr := f s.mgmt.pwr } }

/-- Set PWR.BOOT_STATE.STAGE (R521, R533). -/
def State.setStage (s : State) (n : Nat) : State := s.setFld (pwrA 0x0) 2 0 n

/-- HALTED with its cause (R524, R533). -/
def State.halt (s : State) (cause : Nat) : State := (s.setStage 7).setFld (pwrA 0x0) 31 16 cause

/-! Resets (R15, R517, R527). -/

/-- RST_CAUSE (R533): where the retained domain has been reset with it, there is no earlier cause, and PREV reads 0. -/
def State.setCause (s : State) (c : Nat) (lost : Bool) : State :=
  (s.setFld (pwrA 0x4) 7 4 (if lost then 0 else s.fld (pwrA 0x4) 3 0)).setFld (pwrA 0x4) 3 0 c

/-- The erasure of FACTORY_CLEAN, from its marker (R468, R481). -/
def State.eraseIfMarked (s : State) : State := if s.mgmt.pwr.erase then s.eraseAll.raise evFactoryCleaned 0 else s

/-- What the restart raises of what led to it (R376, R433, R467, R516). -/
def State.raiseRestart (s : State) (trip brown locked : Bool) : State :=
  let s := if trip then s.raise evThermTrip 0 else s
  let s := if brown then s.raise evBrownout 0 else s
  let s := if s.mgmt.pwr.held then s.raise evResumeHeld 0 else s
  if locked then s.holdover else s

/-- Stage 0 begins; the trip and the warning are over. -/
def State.bootFrom (s : State) (cause : Nat) (cold hold : Bool) : State :=
  let trip := s.mgmt.sens.trip
  let brown := s.mgmt.pwr.brown
  let erased := s.mgmt.pwr.erase
  let locked := !cold && !erased && s.time.servo == .locked
  let s := (s.eraseIfMarked).setCause (if erased then 8 else cause) (erased || cause == 1)
  let s := (s.setStage 0).setFld (pwrA 0x0) 31 16 0
  let s := s.modPwr (fun p => { p with cold := cold, resumeHold := hold, held := hold, warning := false, brown := false, resetDue := 0 })
  let s := { s with mgmt := { s.mgmt with sens := { s.mgmt.sens with trip := false, rearm := trip } } }
  s.raiseRestart trip brown locked

/-- Cold start (R15, R517, R520, R526): the straps are sampled, and FLASH_OWN_N with them. -/
def State.coldStart (s : State) (p : Straps) : State :=
  let s := s.coreReset true
  let s := if p.retained then s else s.loseRetained
  let s := s.modPwr (fun x => { x with smbAddr := p.smbAddr % 8, testModeN := p.testModeN, flashOwn := p.flashOwnLow, bootFault := false })
  s.bootFrom (if p.retained then 2 else 1) true p.resumeHold

/-- WARM_RESET (R433, R468, R515, R517, R524, R527): a pin at any time but in HALTED or under a warning; the others
when they are due. A pin that releases a thermal trip records that cause. -/
def State.warmReset (s : State) (cause : Nat) (hold : Bool) : State :=
  let p := s.mgmt.pwr
  if s.stage == 7 || !p.testModeN then s
  else if cause = 3 && p.warning then s
  else if cause != 3 && (cause == 0 || p.resetDue != cause) then s
  else if s.mgmt.sens.trip && cause != 3 then s
  else (s.coreReset false).bootFrom (if s.mgmt.sens.trip then 6 else cause) false hold

/-! Power-fail warnings (R514 to R516). -/

/-- The sequence of R515 runs: fetching stops, journal and ledger writes end, the control region is consistent, and
the core logic is held in reset. -/
def State.powerFail (s : State) (brown : Bool) : State :=
  if s.mgmt.pwr.warning then s
  else
    let s := s.addHeld (pwrA 0xC) 15 8 1
    let s := ((s.setBit (pwrA 0xC) 0 true).setBit (pwrA 0xC) 2 brown).commitRecord
    let s := s.setBit (pwrA 0xC) 1 true
    let s := if s.stage = 7 then s else s.holdCore
    s.modPwr (fun p => { p with warning := true, brown := brown })

/-- WARNING_RELEASE (R515): a warm reset follows 10 ms later. After a brownout there is none to release. -/
def State.warningRelease (s : State) : State :=
  if s.mgmt.pwr.warning && !s.mgmt.pwr.brown then s.modPwr (fun p => { p with resetDue := 5 }) else s

/-! The always-on domain's inputs (R513). -/

/-- VAO_SWITCHED: it runs from the other input. -/
def State.vaoSwitch (s : State) (toBkp : Bool) : State :=
  if s.mgmt.pwr.onBkp == toBkp then s
  else
    let s := s.modPwr (fun p => { p with onBkp := toBkp, mainOk := !toBkp, bkpOk := p.bkpOk || toBkp })
    (s.addHeld (pwrA 0x8) 31 16 1).raise evVaoSwitched (b2n toBkp)

/-- VAO_SINGLE: input 0 MAIN or 1 BKP has been absent for 1 s while the other is present. -/
def State.vaoSingle (s : State) (i : Nat) : State :=
  if i = 0 && s.mgmt.pwr.onBkp then (s.modPwr (fun p => { p with mainOk := false })).raise evVaoSingle 0
  else if i = 1 && !s.mgmt.pwr.onBkp then (s.modPwr (fun p => { p with bkpOk := false })).raise evVaoSingle 1
  else s

/-- VAO_LOSS (R15, R513, R527): a cold start with the retained state lost. -/
def State.vaoLoss (s : State) : State :=
  let p := s.mgmt.pwr
  s.coldStart { smbAddr := p.smbAddr, resumeHold := p.resumeHold, testModeN := p.testModeN, retained := false, flashOwnLow := p.flashOwn }

/-- FLASH_OWN_N (R526): sampled in HALTED (and at POR_N); ignored at any other time. -/
def State.flashOwnN (s : State) (low : Bool) : State :=
  if s.stage = 7 then s.modPwr (fun p => { p with flashOwn := low })
  else if low then s.addHeld (pwrA 0xC) 31 16 1 else s

/-! Stage 0 (R521, R524, R525). -/

/-- The core logic is out of reset and may start: no trip, no warning, not in production test (R433, R515, R520). -/
def State.mayBoot (s : State) (n : Nat) : Bool :=
  s.stage == n && !s.mgmt.sens.trip && !s.mgmt.pwr.warning && s.mgmt.pwr.testModeN

/-- Errors found in an OTP row (R524). -/
def State.otpErrors (s : State) (r : RomRes) : State :=
  let s := match r.otpCorr with
    | some row => s.lrWrite 0x06 (row % 2 ^ 16)
    | none => s
  match r.otpUncorr with
  | some (row, _) => s.lrWrite 0x06 (2 ^ 31 + row % 2 ^ 16)
  | none => s

/-- ROM. -/
def State.romStage (s : State) (r : RomRes) : State :=
  if !s.mayBoot 0 then s
  else
    let s := if r.romOk then s else s.lrWrite 0x05 0
    let s := s.otpErrors r
    let fault := !r.romOk || r.otpCorr.isSome || r.otpUncorr.isSome
    let s := s.modPwr (fun p => { p with bootFault := fault })
    let s := if fault then s.raise evBootIntegrity 0 else s
    let own := s.mgmt.pwr.flashOwn
    let up := fun k => !own && (s.health 9 k).st == .active
    let s := if r.loader0 || !up 0 then s else s.countError 9 0
    if (match r.otpUncorr with
      | some (_, critical) => critical
      | none => false) then s.halt 1
    else if (r.loader0 && up 0) || (r.loader1 && up 1) then s.setStage 1
    else s.halt 2

/-! Stage 1 (R474, R477, R478, R481, R524). -/

/-- The loader resumes a swap from its marker. -/
def State.finishSwap (s : State) (fuel : Nat) : State :=
  match fuel with
  | 0 => s
  | n + 1 => if s.mgmt.upd.swapped then s else (s.swapBlock s.mgmt.upd.blk).finishSwap n

/-- The loader finishes a reverse copy. -/
def State.finishRevert (s : State) (fuel : Nat) : State :=
  match fuel with
  | 0 => s
  | n + 1 => if s.mgmt.upd.st == .reverting then (s.revertBlock (s.mgmt.upd.blk - 1)).finishRevert n else s

/-- A fallback decided at a start (R478): the old image is started. -/
def State.bootFallback (s : State) : State :=
  let c := s.mgmt.upd.cause
  if c = 0 then s else (s.revert c).raise evUpdateFallback c

/-- A swap or a reversal in progress is completed, and an image in trial is started once more. -/
def State.loaderUpdate (s : State) : State :=
  match s.mgmt.upd.st with
  | .swapping =>
    let s := s.finishSwap 513
    if !s.mgmt.upd.swapped then s
    else
      let s := if s.mgmt.upd.bootDue then s else s.setFld (updA 0x0) 18 16 s.mgmt.upd.trials
      s.trialBoot.bootFallback
  | .trial => s.trialBoot.bootFallback
  | .reverting => s.finishRevert 513
  | _ => s

/-- LOADER. -/
def State.loaderStage (s : State) (r : LoaderRes) : State :=
  if !s.mayBoot 1 then s
  else
    let moving := s.mgmt.upd.st == .swapping || s.mgmt.upd.st == .reverting
    let up := fun k => (s.health 9 k).st == .active
    let good := (r.image0 && up 0) || (r.image1 && up 1)
    let s := if r.image0 || !up 0 || moving then s else s.countError 9 0
    let s := if r.image1 || !up 1 || moving then s else s.countError 9 1
    let s := s.modPwr (fun p => { p with certOk := r.cert })
    let s := if r.cert then s else s.raise evCertMissing 0
    if moving || good then s.loaderUpdate.setStage 2
    else if r.staging && s.mgmt.upd.st == .trial then
      -- the old image, complete in the staging slot, is booted (R524)
      ((s.modUpd (fun u => { u with cause := 2 })).bootFallback).setStage 2
    else s.halt 3

/-! Stage 2 (R336, R414, R417, R496, R521, R524). -/

/-- Detours that were under way take place: cores that were being replaced, and pseudo-channels that were being
copied. -/
def State.settleDetours (s : State) : State :=
  let s := (List.range 104).foldl (fun s g =>
    match (s.core g).st, (s.core g).detour with
    | .retiring, some (k, _) => s.takeOver g k 0 .retired
    | .lost, some (k, _) => if (s.core g).group.isSome then s.takeOver g k 0 .lost else s
    | _, _ => s) s
  s.buf.copies.foldl (fun s c => s.pcDetour c.1) s

/-- A unit that was LOST before a cold start is tested again (R417). -/
def State.retestLost (s : State) (fails : List (Nat × Nat)) : State :=
  let lost := s.mgmt.units.keysWhere (fun _ h => h.st == .lost)
  lost.foldl (fun s k =>
    let cls := k / 4096
    let u := k % 4096
    let bad := fails.contains (cls, u)
    if cls = 0 then s.setCoreSt u (if bad then .retired else .spare)
    else if cls = 6 then
      if bad then s.setUnitSt 6 u .retired else (s.setModule (u / 4) (u % 4) {}).setUnitSt 6 u .active
    else s.setUnitSt cls u (if bad then .retired else .spare)) s

/-- A unit fails its BIST: it is retired, and a spare takes its place (R524). -/
def State.postFail (s : State) (cls u : Nat) : State :=
  if !(decide (cls ≤ 10) && decide (u < clsUnits cls)) || !(s.health cls u).st.alive then s
  else
    match cls with
    | 0 =>
      match (s.core u).st, s.freeCore with
      | .active, some k => s.takeOver u k 0 .retired
      | .active, none => (s.setCoreSt u .retired).raise evNoSpareCore u
      | _, _ => s.setCoreSt u .retired
    | 3 => s.cipherUnitOut 3 u .retired
    | 4 => s.cipherUnitOut 4 u .retired
    | 5 =>
      let s1 := s.setUnitSt 5 u .retired
      if (s.health 5 u).st == .spare then s1
      else match s1.pcSpare u with
        | some v => (s1.setUnitSt 5 v .active).raise evHbmPcDetour (u / 32 * 2 ^ 8 + u % 32)
        | none => s1.raise evHbmPcLost (u / 32 * 2 ^ 8 + u % 32)
    | 6 => s.moduleLost (u / 4) (u % 4)
    | 7 => s.mgmtOut u
    | 8 => s.pairOut 8 u
    | 9 => s.pairOut 9 u
    | 10 => s.setUnitSt 10 u .retired
    | _ =>
      match s.chServes (clsKind cls) (u / 104) (u % 104), s.freeChUnit (clsKind cls) (u / 104) with
      | some sc, some k => s.settleCh sc (clsKind cls) k
      | _, _ => s.setUnitSt cls u .retired

/-- A tree or trunk die fails as a whole: as for the loss of all its modules (R26, R524). -/
def State.dieFail (s : State) (die : Nat) : State :=
  (List.range 4).foldl (fun s m => (s.setModule die m { s.module die m with lost := true }).setUnitSt 6 (4 * die + m) .lost) s

/-- Planning groups without a core are planned by a free spare (R21, R153). -/
def State.mapGroups (s : State) : State :=
  (List.range 104).foldl (fun s g =>
    match (s.core g).group with
    | none => s
    | some q =>
      if (s.core g).st == .active then s
      else match s.freeCore with
        | some k =>
          let s := s.setCore g { s.core g with group := none, detour := none }
          let s := (s.setCore k { s.core k with group := some q, mapMsc := 0, detour := none }).moveSlots g k
          (s.setCoreSt k .active).raise evCoreDetour (g + k * 2 ^ 16)
        | none => s) s

/-- POST. -/
def State.postStage (s : State) (r : PostRes) : State :=
  if !s.mayBoot 2 then s
  else
    let cold := s.mgmt.pwr.cold
    let s := s.settleDetours
    let s := if cold then s.retestLost r.units else s
    let s := r.units.foldl (fun s u => s.postFail u.1 u.2) s
    let s := (r.dies.filter (fun d => decide (d < 6))).foldl (fun s d => s.dieFail d) s
    let s := s.mapGroups
    let s := if cold then
        (List.range 516).foldl (fun s l => if s.laneSt l = lnLost && !r.lanes.contains l then s.setLaneSt l lnIdle else s) s
      else s
    let s := s.syncMgmt.banksInUse
    if r.dies.contains 6 then s.halt 4
    else if r.mramBoth || ((s.health 8 0).st != .active && (s.health 8 1).st != .active) then s.halt 5
    else if r.mgmtAll || s.mgmtLost then (s.lrWrite 0x07 0).halt 6
    else (s.rebuildPools (s.buf.layoutPend.getD s.buf.layout)).setStage 3

/-! Stage 3 (R64, R218, R373, R440, R466, R479). -/

/-- The firmware that starts reads a waypoint's format. -/
def State.readsWp (s : State) (w : Waypoint) : Bool := decide (s.runWpfMin ≤ w.wpf ∧ w.wpf ≤ s.runWpf)

/-- The waypoint that a start restores: the newest in a format that the firmware reads (R466); in a trial without
converted waypoints, those of the old firmware (R475, R479). -/
def State.bootWp (s : State) : Option Waypoint :=
  let m := if s.wpMap.all (fun e => e.2.isNone) then s.mgmt.wps else s.wpMap
  (m.filterMap (fun e => e.2)).foldl (fun a w =>
    if !s.readsWp w then a
    else match a with
      | some v => if v.ver < w.ver then some w else a
      | none => some w) none

/-- The new firmware reports FORMAT at its start (R479): the old image is started. -/
def State.formatCheck (s : State) : State :=
  if s.mgmt.upd.started && s.bootWp.isNone && s.mgmt.wps.any (fun e => e.2.isSome) then
    (s.modUpd (fun u => { u with cause := 3 })).bootFallback
  else s

/-- The totals of the latest valid record are loaded (R64). -/
def State.loadTotals (s : State) : State :=
  match s.pon.lastRecord with
  | none => s
  | some r => r.totals.foldl (fun s e => s.modSub e.1 (fun x => { x with led := e.2 })) s

/-- Each restored image is verified again (R218). DESIGN CHOICE: a rejected shadow leaves SHADOW EMPTY and SWAP_MSC 0,
with no swap to come. -/
def State.verifyGroup (s : State) (q : Nat) : State :=
  let x := s.group q
  let good := fun (p : Prog) => !p.loaded || (match verify p.image p.reduced with
    | .ok _ => true
    | .error _ => false)
  let a := x.prog x.active
  let b := x.prog (1 - x.active)
  let put := fun (s : State) (k : Nat) => s.modGroup q (fun y => if k = 0 then { y with slot0 := {} } else { y with slot1 := {} })
  let s1 := if good a then s else (put s x.active).raise evProgramRestoreFail q
  if good b then s1
  else ((put s1 (1 - x.active)).modGroup q (fun y => { y with shadow := .empty, swapMsc := 0 })).raise evProgramRestoreFail q

/-- Pending returns of the waypoint restored find their waypoints again (R465). -/
def State.findReturns (s : State) : State :=
  s.deferred.foldl (fun s p =>
    match p.change with
    | .waypointReturn ver d =>
      match wpFind s.wpMap ver with
      | some (_, w) => { s with mgmt := { s.mgmt with returns := s.mgmt.returns ++ [(ver, d, w.cfg)] } }
      | none => { s with deferred := s.deferred.erase p }
    | _ => s) s

/-- Device time at start-up (R373): the generator starts where time is established. -/
def State.startTime (s : State) : State :=
  if !s.time.valid then s.raise evTimeInvalid 0
  else if s.time.startWait && s.fld (timA 0x2C) 15 0 != 0 then s.startWaitEnd
  else (s.modTime (fun x => { x with startWait := false })).startGenerator

/-- RESTORE. -/
def State.restoreStage (s : State) : State :=
  if !s.mayBoot 3 then s
  else
    let s := s.startTime.formatCheck
    let s := (s.modRec (fun r => r.load)).loadTotals
    let s := match s.bootWp with
      | some w => ((s.loadCfg w.cfg).loadLayout w.cfg).findReturns
      | none => s
    let s := (s.grant.groups.map (fun e => e.1)).foldl (fun s q => s.verifyGroup q) s
    let p := s.mgmt.pair
    let s := s.setPairWait (p.role == .active && (p.st == .joining || p.st == .paired))
    s.setStage 4

/-! Stage 4 (R64, R122, R265, R365). -/

/-- Broadcast keys and SAs come from the wrapped store, to whose entries the waypoint refers (R364, R365). DEDUCED:
KEYS_DROPPED is raised once for each die, with the lowest slot whose key is zeroed (R368). -/
def State.restoreKeys (s : State) : State :=
  let first := if s.clk.running then s.clk.msc + 1 else s.time.dev / intervalUnits + 1
  let stale := match s.pon.lastRecord with
    | some r => decide (first ≤ r.msc)
    | none => false
  let store := s.cph.storeKeys
  let held := (store.filter (fun e => e.2.key.isSome)).map (fun e => e.1)
  let slots : SMap KeySlot := store.mapTo (fun _ => {}) (fun _ x =>
    ⟨if stale then none else x.key.map (fun k => k.plain), x.prints⟩)
  let sas := (keysBoth s.cph.sas s.cph.storeSa).foldl (fun (m : SMap Sa) k =>
    let x := s.cph.sas.get {} k
    let y := s.cph.storeSa.get {} k
    let z : Sa :=
      if x.inst && y.sa.inst && x.prints.head? == y.sa.prints.head? then
        let pn := (y.sa.mark / 2 ^ 32 + 1) * 2 ^ 32
        let x := { x with key := y.key.plain, prints := y.sa.prints }
        if x.rx then x else { x with pn := pn, mark := pn }
      else { prints := y.sa.prints }
    m.set {} k z) []
  let s := { s with cph := { s.cph with slots := slots, sas := sas } }
  if !stale then s
  else
    (List.range 4).foldl (fun s d =>
      match held.find? (fun k => k / 131072 == d) with
      | some k => s.raise evKeysDropped (cphArg d (k % 131072))
      | none => s) s

/-- The road is closed: every burst ON_ROAD in the record is DISCARDED (R64). -/
def State.closeLedger (s : State) : State :=
  let n := s.pon.subs.foldl (fun n e => n + e.2.led.onRoad) 0
  let s := { s with pon := { s.pon with subs := s.pon.subs.mapAll Sub.dflt (fun _ x =>
    { x with led := { x.led with discarded := x.led.discarded + x.led.onRoad, onRoad := 0 } }) } }
  (s.setReg (mstA 0x48) (BitVec.ofNat 64 n)).raise evLedgerRestart (min n (2 ^ 32 - 1))

/-- Rogue-isolated terminals of the retained table stay DISABLED (R122). -/
def State.restoreRogues (s : State) : State :=
  (s.pon.retained.keysWhere (fun _ r => r.rogue)).foldl (fun s k =>
    s.modTerm (k / 512) (k % 512) (fun y => if y.act == .free then y else { y with act := .disabled, rogueIso := true })) s

/-- INSTALL entries run again with the held parameters, and RETIRE entries of the shut-downs that are due follow
(R132, R265, R461). -/
def State.restoreUnits (s : State) : State :=
  let us := s.grant.units.keysWhere (fun _ x => x.inst && x.installE.isNone && (x.road == .enabled || x.road == .resuming))
  let qs := us.foldl (fun l u => let q := (s.unit u).group; if l.contains q then l else l ++ [q]) []
  qs.foldl (fun s q =>
    let retires := (s.group q).entries
    let s := s.modGroup q (fun x => { x with entries := [] })
    s.runEntries q ((us.filter (fun u => (s.unit u).group == q)).map (fun u => (u, EntryKind.install)) ++ retires)) s

/-- REPLAY. -/
def State.replayStage (s : State) : State :=
  if !s.mayBoot 4 || s.mgmt.pwr.stageDone then s
  else
    let s := (replayList s.bootWp s.host.jrn).foldl (fun s j => s.replayEntry j) s
    let s := ((s.closeUnits false).closeRoad).applyDues s.deferred.length
    let s := s.closeLedger.restoreKeys.restoreRogues.restoreUnits.replayDone s.bootWp
    s.modPwr (fun p => { p with stageDone := true })

/-! Stage 5 (R75, R118, R467, R493, R521, R532). -/

/-- No entry is waiting or running. -/
def State.entriesDone (s : State) : Bool :=
  s.grant.groups.all (fun e => e.2.entries.isEmpty) && s.grant.ctxs.all (fun e => e.2.run == .idle || e.2.entry == .plan)

/-- A sub-channel that has no unit, core, die or lane to serve it is out of service (R26, R75, R155, R497). -/
def State.serveCheck (s : State) (sc : Nat) : State :=
  if (s.sub sc).road == .disabled then s
  else if !s.chUsable sc 0 || !s.chUsable sc 1 || (s.coreOf (groupOf (sc / 2))).isNone || s.dieLost (scDie sc) ||
      s.laneSt sc == lnLost then s.outOfService sc
  else s

/-- An ENABLED sub-channel transmits from the next frame, and its recovery period begins (R76, R118, R467). -/
def State.startSub (s : State) (sc : Nat) : State :=
  if (s.sub sc).road != .enabled then s
  else
    s.modSub sc (fun x => { x with
      enableE := 0
      disc := { x.disc with nextDue := 0, recovery := if s.mgmt.pwr.held then none else some (s.clk.msc + 4000) } })

/-- LINKS. -/
def State.linksStage (s : State) : State :=
  if !s.mayBoot 4 || !s.mgmt.pwr.stageDone || !s.entriesDone then s
  else
    let s := ((s.closeUnits true).closeRoad).setStage 5
    let subs := s.pon.subs.map (fun e => e.1)
    let s := subs.foldl (fun s sc => s.serveCheck sc) s
    let s := (List.range 4).foldl (fun s d => s.shedCredits d 96) s
    let s := (subs.foldl (fun s sc => s.startSub sc) s).setStage 6
    let s := (s.setBit (pwrA 0xC) 0 false).setBit (pwrA 0xC) 1 false
    s.raise evRestarted (s.fld (pwrA 0x4) 3 0)

/-! Meanings. -/

/-- COLD_START. -/
def execColdStart (p : Straps) (s : State) : Answer := kept s (s.coldStart p)
/-- WARM_RESET. -/
def execWarmReset (cause : Nat) (hold : Bool) (s : State) : Answer := kept s (s.warmReset cause hold)
/-- POWER_FAIL_WARNING. -/
def execPowerFailWarning (s : State) : Answer := kept s (s.powerFail false)
/-- WARNING_RELEASE. -/
def execWarningRelease (s : State) : Answer := kept s s.warningRelease
/-- BROWNOUT. -/
def execBrownout (s : State) : Answer := kept s (s.powerFail true)
/-- VAO_SWITCHED. -/
def execVaoSwitched (toBkp : Bool) (s : State) : Answer := kept s (s.vaoSwitch toBkp)
/-- VAO_SINGLE. -/
def execVaoSingle (inp : Nat) (s : State) : Answer := kept s (s.vaoSingle inp)
/-- VAO_LOSS. -/
def execVaoLoss (s : State) : Answer := kept s s.vaoLoss
/-- FLASH_OWN_N. -/
def execFlashOwnN (low : Bool) (s : State) : Answer := kept s (s.flashOwnN low)
/-- ROM. -/
def execRom (r : RomRes) (s : State) : Answer := kept s (s.romStage r)
/-- LOADER. -/
def execLoader (r : LoaderRes) (s : State) : Answer := kept s (s.loaderStage r)
/-- POST. -/
def execPostStage (r : PostRes) (s : State) : Answer := kept s (s.postStage r)
/-- RESTORE. -/
def execRestore (s : State) : Answer := kept s s.restoreStage
/-- REPLAY. -/
def execReplay (s : State) : Answer := kept s s.replayStage
/-- LINKS. -/
def execLinks (s : State) : Answer := kept s s.linksStage

end Sys2Proof.Machine
end

