-- ==== Sys2Proof/Machine/Interval.lean ====
section
/-! DEFINITION. The interval (R37 to R52, R62, R63): the milestone, the snapshot, the plan deadline, the commit
point, the delivery of roadbooks and the ledger record; maintenance windows (R131 to R133) and the report sweep
(R138). The rows of an interval come in the order of R40; one that is out of its order, or that comes while the
generator does not run, changes nothing. -/

namespace Sys2Proof.Machine

/-- Sub-channels that are not as a tree reset leaves them: the others have nothing on the road. -/
def State.subKeys (s : State) : List Nat := s.pon.subs.map (fun e => e.1)

/-- Time passes to hub cycle `c` of the interval (R38, R40); a rest below one cycle, left by a step (R379), stands
until the milestone. -/
def State.advance (s : State) (c : Nat) (p : Phase) : State :=
  { s with
    clk := { s.clk with cycle := c, phase := p, hubc := s.clk.hubc + (c - s.clk.cycle) }
    time := { s.time with dev := s.clk.msc * intervalUnits + c * tickUnits + s.time.dev % tickUnits } }

/-- The next milestone comes: device time is M × 125 µs (R37). -/
def State.advanceMilestone (s : State) : State :=
  { s with
    clk := { s.clk with msc := s.clk.msc + 1, cycle := 0, phase := .afterMilestone
                        hubc := s.clk.hubc + (cyclesPerInterval - s.clk.cycle) }
    time := { s.time with dev := (s.clk.msc + 1) * intervalUnits } }

/-- What happens at a phase point leaves the clock at that point, where `t` has it (R38, R40). -/
def State.timed (s t : State) : State := { s with clk := t.clk, time := { s.time with dev := t.time.dev } }

/-! The milestone. -/

/-- Samples of the interval that ends: plan finish and event raises (R436 kinds 6 and 7). -/
def State.sampleInterval (s : State) : State :=
  let ks := s.mgmt.rcd.recs.keysWhere (fun _ x => x.bound && !x.unbind && (x.kind == 6 || x.kind == 7))
  s.modRec (fun r => { r with
    raises := []
    accs := ks.foldl (fun m k =>
      let x := s.recd k
      let v := if x.kind = 6 then (s.core x.source).finish else min (r.raises.get 0 x.source) 0xFFFFFFFF
      m.set {} k ((m.get {} k).take x v s.clk.msc)) r.accs })

/-- Roadbooks that no framer has, or whose ledger record is not durable, are not transmitted: no burst of theirs is
on the road (R33, R41). -/
def State.closeDelivery (s : State) : State :=
  let fail := s.pon.recPending.isSome
  let s := { s with pon := { s.pon with
    recPending := none
    subs := s.pon.subs.mapAll Sub.dflt (fun _ x => { x with
      built := none, accepted := false, books := x.books.filter (fun k => k.counted) }) } }
  if fail then s.raise evLedgerStoreFail 0 else s

/-- A sub-channel at milestone M (R55, R285): one whose shut-down has come enters DRAINING, and its queues are
freed. -/
def State.subMilestone (s : State) (sc : Nat) : State :=
  let m := s.clk.msc
  let s := s.modSub sc (fun x => if reached x.pendE m then { x with pendE := none } else x)
  if (s.sub sc).road == .enabled && reached (s.sub sc).drainE m then
    (s.modSub sc (fun x => { x with road := .draining })).freeQueues false (fun f => (s.flow f).sc == sc)
  else s

/-- A unit at milestone M (R55). -/
def State.unitMilestone (s : State) (u : Nat) : State :=
  s.modUnit u (fun x => if x.road == .enabled && reached x.drainE s.clk.msc then
    { x with road := .draining, retireE := none } else x)

/-- A terminal at milestone M; the queues of one that enters DRAINING are freed (R285). -/
def State.termStep (s : State) (sc t : Nat) : State :=
  let was := (s.term sc t).act
  let s := s.termMilestone sc t
  if was == .operation && (s.term sc t).act == .draining then
    s.freeQueues false (fun f => (s.flow f).sc == sc && (s.flow f).term == t)
  else s

/-- Flows whose destruction has come (R307). -/
def State.flowsMilestone (s : State) : State :=
  (s.data.flows.keysWhere (fun _ x => x.road == .enabled && reached x.destroyE s.clk.msc)).foldl (fun s f =>
    s.flowShut f ((s.flow f).destroyE.getD 0) (s.flow f).discard) s

/-- The laser of a sub-channel at milestone M (R58, R76, R467): it is lit while frames are transmitted, and the
burst profiles are broadcast when it comes on (R83, R114). -/
def State.laserStep (s : State) (sc : Nat) : State :=
  let on := s.transmits sc s.clk.msc && decide (5 ≤ s.stage) && !s.mgmt.pwr.held
  if on && !(s.sub sc).lit then (s.modSub sc (fun x => { x with lit := true })).sendProfiles sc
  else if !on && (s.sub sc).lit then
    let s := (s.laserDark sc).settleLane sc
    match s.mgmt.pair.trees.get none (sc / 2) with
    | some p => s.settleLane (2 * p.p + sc % 2)
    | none => s
  else s

/-- The allocation structures of a burst in the bandwidth map (R76, R149). -/
def Burst.structs (b : Burst) : List MapAlloc :=
  b.allocs.map (fun a => ⟨a.alloc, a.start, a.size, a.dbru, a.ploamu, b.prof⟩)

/-- Frame M of a sub-channel (R69, R70, R76, R360): it carries the superframe counter and the bandwidth map of roadbook M,
and the messages that wait for it leave with it. A device whose lanes are dark
transmits nothing (R393, R410). -/
def State.frameStep (s : State) (sc : Nat) : State :=
  let x := s.sub sc
  let m := s.clk.msc
  if !x.lit then s
  else
    let go := x.dsq.filter (fun d => decide (d.frame ≤ m))
    let bs := match x.books.find? (fun k => k.msc == m) with
      | some k => k.bursts
      | none => []
    let s := s.setSub sc { x with dsq := x.dsq.filter (fun d => !decide (d.frame ≤ m)), superframe := m % 2 ^ 51 }
    let st := if s.darkened then stState else stOk
    let s := go.foldl (fun s d => match d.acc with
      | some a => (s.dropMsg d).complete a { status := st }
      | none => s.dropMsg d) s
    if s.darkened then s
    else s.emit (.frame sc m (m % 2 ^ 51) bs.length ((bs.map Burst.structs).flatten) (go.map (fun d => (d.kind, d.bytes))))

/-- The release of the hold begins the recovery period of every ENABLED sub-channel (R118, R467). -/
def State.holdReleased (s : State) : State :=
  s.subKeys.foldl (fun s sc => s.modSub sc (fun x =>
    if x.road == .enabled then { x with disc := { x.disc with nextDue := 0, recovery := some (s.clk.msc + 4000) } } else x)) s

/-- Changes that act with their milestone (R71, R467). -/
def State.changesMilestone (s : State) : State :=
  let due := s.deferred.filter (fun p => p.change.atMilestone && decide (p.e ≤ s.clk.msc))
  let s := { s with deferred := s.deferred.filter (fun p => !(p.change.atMilestone && decide (p.e ≤ s.clk.msc))) }
  let held := s.mgmt.pwr.held
  let s := due.foldl (fun s p => s.applyChange p) s
  if held && !s.mgmt.pwr.held then s.holdReleased else s

/-- Objects of the road at milestone M (R55). -/
def State.objectsMilestone (s : State) : State :=
  let s := s.subKeys.foldl (fun s sc => s.subMilestone sc) s
  let s := (s.grant.units.keysWhere (fun _ x => x.road == .enabled && x.drainE.isSome)).foldl (fun s u => s.unitMilestone u) s
  let s := (s.pon.terms.map (fun e => e.1)).foldl (fun s k => s.termStep (k / 512) (k % 512)) s
  let s := s.flowsMilestone
  (s.doms.map (fun e => e.1)).foldl (fun s d => s.domainMilestone d) s

/-- What the hardware units do at milestone M: servo, keys, channel detours, rogue check, pair, lanes of dies, sampler,
loads of the interval (R26, R41, R73, R121, R296, R304, R358, R371, R415). -/
def State.unitsMilestone (s : State) : State :=
  let s := s.servoMilestone.keyMilestone
  let s := s.subKeys.foldl (fun s sc => (s.chMilestone sc).byLight sc (fun s => s.rogueMilestone sc)) s
  let s := s.pairMilestone.retrySecond
  let ended := s.clk.msc - 1
  let s := s.modData (fun d => { d with
    samplerOn := s.bit (tmgA 0) 0
    sweepMsc := if d.samplerOn && ended % 64 == 63 then ended else d.sweepMsc })
  ({ s with
    grant := { s.grant with tableCount := 0 }
    data := { s.data with pipeLoad := [] }
    cph := { s.cph with macLoad := [] }
    mgmt := { s.mgmt with sens := { s.mgmt.sens with rearm := false }, d2dLoad := [] }
    host := { s.host with once := [] } } : State).fullInterval

/-- A tree pair whose new side transmits from frame M: lanes of the side that served before enter idle (R413, R492). -/
def State.treesMilestone (s : State) : State :=
  s.mgmt.pair.trees.foldl (fun s e => match e.2 with
    | some p =>
      if p.fromMsc = s.clk.msc then
        (((s.settleLane (2 * e.1)).settleLane (2 * e.1 + 1)).settleLane (2 * p.p)).settleLane (2 * p.p + 1)
      else s
    | none => s) s

/-- MILESTONE (R40). -/
def State.milestone (s : State) : State :=
  if !s.clk.running || s.clk.phase != .afterDelivery then s
  else
    let t := s.sampleInterval.advanceMilestone
    let s := t.unitsMilestone.closeDelivery
    let s := if s.serving then s.changesMilestone.objectsMilestone else s
    let s := s.subKeys.foldl (fun s sc => s.laserStep sc) s.treesMilestone
    (s.subKeys.foldl (fun s sc => s.frameStep sc) s).timed t

/-! The snapshot. -/

/-- An entry that has not ended with its window has failed (R133). -/
def State.windowEnd (s : State) : State :=
  let open' := s.grant.ctxs.keysWhere (fun _ c => c.run != .idle && c.entry != .plan)
  let s := open'.foldl (fun s k =>
    let st : Site := ⟨k / 4, k % 4⟩
    (((s.entryFailed st).countError 0 st.core).abandon st).setCtx st {}) s
  { s with grant := { s.grant with groups := s.grant.groups.mapAll (fun _ => {}) (fun _ x => { x with entries := [] }) } }

/-- Deferred changes of roadbook M + 1, in the order of R47. -/
def State.applySnapshot (s : State) : State :=
  let m := s.clk.msc + 1
  let due := s.deferred.filter (fun p => !p.change.atMilestone && decide (p.e ≤ m))
  let s := { s with deferred := s.deferred.filter (fun p => !(!p.change.atMilestone && decide (p.e ≤ m))) }
  due.foldl (fun s p => match p.change with
    | .waypointReturn ver _ => s.applyReturn ver p.e
    | _ => s.applyChange p) s

/-- Groups that hold a unit, rising. -/
def State.boundGroups (s : State) : List Nat :=
  (List.range 96).filter (fun q => s.grant.laneUnit.any (fun e => e.1 / 8 / 1408 == q))

/-- The plan of a group starts (R127, R129): the list is fixed, and the contexts of the core that plans it take
the first batches. -/
def State.planGroup (s : State) (q : Nat) : State :=
  match s.coreOf q with
  | none => s
  | some g =>
    let bs := (s.boundBatches q).filter (fun b => s.plannedMask q b (s.clk.msc + 1) != 0#8)
    let s := s.modGroup q (fun x => { x with planned := bs.map (fun b => (b, .notStarted)) })
    if (s.core g).st == .lost then s
    else
      let s := s.modCore g (fun x => { x with finish := 0, issued := 0 })
      (List.range 4).foldl (fun s k => s.takeBatch ⟨g, k⟩) s

/-- The views are fixed and every plan starts (R127, R129, R131, R139, R141). -/
def State.startPlans (s : State) : State :=
  let s := { s with grant := { s.grant with
    reportView := s.grant.reports, hintView := s.grant.hints, released := [], carriedG := []
    groups := s.grant.groups.mapAll (fun _ => {}) (fun _ x => { x with planned := [] }) } }
  s.boundGroups.foldl (fun s q => s.planGroup q) s

/-- A sub-channel at the snapshot: roadbooks that left the road an interval ago go (R43, R121), windows are fixed (R105, R106), and
firmware's requests are fixed (R150). -/
def State.subSnapshot (s : State) (sc : Nat) : State :=
  let m := s.clk.msc
  let s := s.modSub sc (fun x => { x with
    books := x.books.filter (fun k => !(decide (k.msc + x.len < m) && k.bursts.all (fun b => b.outcome.isSome)))
    lossAt := x.lossAt.filter (fun t => decide (m ≤ t / 2000000 + 8))
    ploamNow := x.ploamNow ++ x.ploamReq.filter (fun t => !x.ploamNow.contains t), ploamReq := [] })
  s.snapWindows sc

/-- SNAPSHOT (R40, R46, R131). Before stage 5 nothing is planned, and entries run on until LINKS. -/
def State.snapshot (s : State) : State :=
  if !s.clk.running || s.clk.phase != .afterMilestone then s
  else
    let t := s.advance 4000 .afterSnapshot
    let s := t
    if !s.serving then s
    else if s.stage < 5 then s.applySnapshot.timed t
    else
      let s := s.windowEnd.installCopies.applySnapshot.tableExchange
      let s := s.subKeys.foldl (fun s sc => s.subSnapshot sc) s
      let s := s.startPlans
      ((s.pon.terms.map (fun e => e.1)).foldl (fun s k => s.ageCheck (k / 512) (k % 512)) s).timed t

/-! The plan deadline. -/

/-- The grant that a lane contributes again (R48, R50): what its unit contributed to the previous roadbook. A unit
that has not been planned since its installation contributed nothing. -/
def AUnit.again (x : AUnit) : Option Grant :=
  if x.lastPf / 128 % 2 = 1 ∧ !x.firstPlan then some ⟨x.lastSize, x.lastPf % 128⟩ else none

/-- A batch missed the deadline (R48, R51, R52): it is carried forward, or it has been carried forward CF_LIMIT
times in a row and contributes nothing. -/
def State.missBatch (s : State) (q b : Nat) : State :=
  let n := (s.group q).carry.get 0 b
  let s := (s.modGroup q (fun x => { x with carry := x.carry.set 0 b (n + 1) })).markBatch q b .missed
  let mask := s.plannedMask q b (s.clk.msc + 1)
  let carried := decide (n < s.fld (mstA 0x20) 27 24)
  let s := (List.range 8).foldl (fun s k =>
    match s.laneUnit q b k with
    | some u =>
      if mask.getLsbD k then
        let s := s.modUnit u (fun x => { x with carried := carried })
        if carried then
          { s with grant := { s.grant with carriedG := s.grant.carriedG.set none (laneKey q b k) (s.unit u).again } }
        else s
      else s
    | none => s) s
  let s := s.markUnsync (1408 * q + b)
  if carried then (s.groupCount q 0).add64 (mstA 0x30) 1
  else
    match s.coreOf q with
    | some g => (s.raise evCarryLimit (g + b * 2 ^ 16)).countError 0 g
    | none => s

/-- The plan of a group ends (R48, R49, R131): contexts that still run stop, and their grants and rows are lost. -/
def State.endPlan (s : State) (q : Nat) : State :=
  let s := match s.coreOf q with
    | some g =>
      let s := (List.range 4).foldl (fun (s : State) (k : Nat) => (s.abandon ⟨g, k⟩).setCtx ⟨g, k⟩ {}) s
      s.modCore g (fun x => { x with idleLast := 192000 - x.issued, issued := 0 })
    | none => s
  let missed := ((s.group q).planned.filter (fun e => e.2 != .halted)).map (fun e => e.1)
  let s := missed.foldl (fun s b => s.missBatch q b) s
  s.modGroup q (fun x => { x with usedLast := 0 })

/-- Carry-forwards of the interval enter MST (R51). -/
def State.overrun (s : State) (n : Nat) : State :=
  let s := { s with grant := { s.grant with overrunN := n } }
  if n = 0 then s
  else (s.add64 (mstA 0x38) 1).setReg (mstA 0x40) (BitVec.ofNat 64 s.clk.msc)

/-- PLAN_OVERRUN, once for an interval with a batch carried forward or a roadbook that no framer accepted (R33, R51,
R66). -/
def State.raiseOverrun (s : State) (late : Bool) : State :=
  if s.grant.overrunN = 0 && !late then s
  else s.raise evPlanOverrun (min s.grant.overrunN 65535 + 2 ^ 16 * b2n late)

/-- PLAN_DEADLINE (R48 to R52, R144 to R149). -/
def State.planDeadline (s : State) : State :=
  if !s.clk.running || s.clk.phase != .afterSnapshot then s
  else
    let t := s.advance 196000 .afterDeadline
    let s := t
    if s.stage < 5 then s
    else
      let before := (s.reg (mstA 0x30)).toNat
      let s := (s.grant.groups.map (fun e => e.1)).foldl (fun s q => s.endPlan q) s
      let s := s.overrun (((s.reg (mstA 0x30)).toNat + 2 ^ 64 - before) % 2 ^ 64)
      let s := (s.subKeys.filter (fun sc => s.transmits sc (s.clk.msc + 1))).foldl (fun s sc => s.buildBook sc) s
      { s with grant := { s.grant with released := [], carriedG := [] } }.timed t

/-! The commit point. -/

/-- A hint's target, given by its low 16 bits, is roadbook t or an earlier one (R141). -/
def Hint.spent (h : Hint) (t : Nat) : Bool := decide ((t + 65536 - h.target) % 65536 < 32768)

/-- Queued postings are written, and hints whose target has been built are no longer VALID (R141). -/
def State.commitHints (s : State) : State :=
  let t := s.clk.msc + 1
  let s := s.grant.hintQ.foldl (fun s h => if (s.unit h.slot).inst then s.writeHint h.slot h.demand h.prio h.target else s)
    { s with grant := { s.grant with hintQ := [] } }
  { s with grant := { s.grant with hints := s.grant.hints.mapAll (fun _ => {}) (fun _ h =>
      if h.valid && h.spent t then { h with valid := false } else h) } }

/-- Roadbook M + 1 of a sub-channel becomes immutable, and its digest is computed (R43, R150, R157). -/
def State.commitBook (s : State) (sc : Nat) : State :=
  match (s.sub sc).built with
  | none => s
  | some k =>
    let s := s.modSub sc (fun x => { x with books := x.books ++ [k], digest := k.digest })
    match s.coreOf (groupOf (sc / 2)) with
    | some g => s.setReg (gcrA g (0x8C + 16 * (sc % 4))) (BitVec.ofNat 64 (k.bursts.length * 2 ^ 16 + k.allocCount))
    | none => s

/-- Units planned again from roadbook r become ENABLED, and their commands complete (R59). -/
def State.unitResume (s : State) (r : Nat) : State :=
  (s.grant.units.keysWhere (fun _ x => x.road == .resuming && x.drainE.isNone && reached x.resumeR r)).foldl (fun s u =>
    let x := s.unit u
    let s := s.setUnit u { x with road := .enabled, resumeAcc := none, resumeR := none }
    match x.resumeAcc with
    | some a => s.complete a { status := stOk, r0 := s.unitResult u, msc := x.resumeR }
    | none => s) s

/-- An enable is still waiting for a sub-channel of its own at roadbook r. -/
def Sub.waitsFor (x : Sub) (acc r : Nat) : Bool :=
  x.resumeAcc == some acc && !(x.road == .enabled && decide (x.enableE ≤ r))

/-- Sub-channels planned again from roadbook r become ENABLED (R59, R75), and an enable completes with the latest of
its sub-channels (R243). -/
def State.subResume (s : State) (r : Nat) : State :=
  let s := s.subKeys.foldl (fun s sc => s.modSub sc (fun x =>
    if x.road == .resuming && x.drainE.isNone && reached x.resumeR r then
      { x with road := .enabled, enableE := x.resumeR.getD r, resumeR := none } else x)) s
  let accs := s.pon.subs.foldl (fun l e => match e.2.resumeAcc with
    | some a => if l.contains a then l else l ++ [a]
    | none => l) []
  accs.foldl (fun s a =>
    if s.pon.subs.any (fun e => e.2.waitsFor a r) then s
    else
      let s := { s with pon := { s.pon with subs := s.pon.subs.mapAll Sub.dflt (fun _ x =>
        if x.resumeAcc = some a then { x with resumeAcc := none } else x) } }
      s.complete a { status := stOk, msc := some r }) s

/-- COMMIT_POINT (R43, R59, R108, R141, R150). -/
def State.commitPoint (s : State) : State :=
  if !s.clk.running || s.clk.phase != .afterDeadline then s
  else
    let t := s.advance 232000 .afterCommit
    let s := t
    let r := s.clk.msc + 1
    let s := s.commitHints
    if s.stage < 5 then s
    else
      let s := s.subKeys.foldl (fun s sc => s.commitBook sc) s
      let s := (s.pon.terms.map (fun e => e.1)).foldl (fun s k => s.termCommit (k / 512) (k % 512)) s
      ((((s.subResume r).unitResume r).flowResume r).domainResume r).timed t

/-! Delivery and the ledger record. -/

/-- ROADBOOK_DELIVERY (R33, R41): a framer accepts until 121 µs. -/
def State.deliverBook (s : State) (sc : Nat) : State :=
  let x := s.sub sc
  if s.clk.running && s.clk.phase == .afterCommit && x.built.isSome && !x.accepted then
    (s.setSub sc { x with accepted := true }).emit (.roadbook sc (s.clk.msc + 1))
  else s

/-- Bursts of the roadbook that a framer has accepted. -/
def Sub.acceptedBursts (x : Sub) : Nat :=
  match x.built with
  | some k => if x.accepted then k.bursts.length else 0
  | none => 0

/-- DELIVERY_DEADLINE (R41, R63). -/
def State.deliveryDeadline (s : State) : State :=
  if !s.clk.running || s.clk.phase != .afterCommit then s
  else
    let s := s.advance 242000 .afterDelivery
    let late := s.pon.subs.countWhere (fun _ x => x.built.isSome && !x.accepted)
    let totals := s.pon.subs.foldl (fun (m : SMap Ledger) e => m.set {} e.1 (e.2.led.grant e.2.acceptedBursts)) []
    let s := (s.add32 (mstA 0x28) late).raiseOverrun (decide (late ≠ 0))
    { s with
      pon := { s.pon with recPending := some ⟨s.clk.msc, true, totals⟩ }
      grant := { s.grant with overrunN := 0 } }

/-- The bursts of an accepted roadbook count as GRANTED and are on the road (R62, R65). -/
def State.countBook (s : State) (sc : Nat) : State :=
  let x := s.sub sc
  match x.built with
  | none => s
  | some k =>
    if !x.accepted then s
    else
      let s := s.setSub sc { x with led := x.led.grant k.bursts.length, built := none, accepted := false
                                    books := x.books.map (fun b => if b.msc = k.msc then { b with counted := true } else b) }
      let s := s.grantRows k.bursts (fun n => n + 1)
      if (s.sub sc).oos && !s.onProtect sc then s.discardRoad sc else s

/-- LEDGER_RECORD_DURABLE (R41, R63): the record of the interval stands in the MRAM banks in service. -/
def State.recordDurable (s : State) : State :=
  if s.pon.recPending.isNone || !(List.range 2).any (fun k => (s.health 8 k).st.alive) then s
  else
    let s := s.commitRecord
    s.subKeys.foldl (fun s sc => s.countBook sc) s

/-! Maintenance windows. -/

/-- Entries of group q in W(e), in acceptance order (R132): each of its units that is installed or retired with e
and whose entry has not been taken yet. -/
def State.windowEntries (s : State) (q e : Nat) : List (Nat × EntryKind) :=
  s.deferred.filterMap (fun p =>
    let own := fun (u : Nat) (k : EntryKind) =>
      if p.e = e ∧ (s.unit u).group = q ∧ (s.unit u).inst ∧ !(s.unit u).entryRun ∧ !(s.group q).entries.contains (u, k) then some (u, k)
      else none
    match p.change with
    | .unitInstall u => own u .install
    | .unitRetire u _ => own u .retire
    | _ => none)

/-- The units of a domain that its teardown retires with effective milestone e, as by RETIRE_UNIT (R262). -/
def State.teardownUnits (s : State) (d e : Nat) : List Nat :=
  s.grant.units.keysWhere (fun _ x => x.inst && x.dom == d && x.road == .enabled && !reached x.retireE e)

/-- The retirements of a pending teardown in W(e) of group q become changes of their own, as by RETIRE_UNIT with the
teardown's E and mode (R132, R262). -/
def State.windowTeardowns (s : State) (q e : Nat) : State :=
  s.deferred.foldl (fun s p => match p.change with
    | .domainTeardown d discard =>
      if p.e = e then
        ((s.teardownUnits d e).filter (fun u => (s.unit u).group == q)).foldl (fun s u =>
          let s := s.modUnit u (fun x => { x with retireE := some e, discard := discard, entryRun := false })
          let later := fun (r : Pend) => match r.change with
            | .unitRetire v _ => v == u
            | _ => false
          { s with deferred := pendInsert (s.deferred.filter (fun r => !later r)) ⟨e, p.acc, 0, u, 0, none, .unitRetire u discard⟩ }) s
      else s
    | _ => s) s

/-- The entries of a pending return to a waypoint become changes of their own (R465). -/
def State.windowReturns (s : State) (q e : Nat) : State :=
  s.deferred.foldl (fun s p => match p.change with
    | .waypointReturn ver d =>
      if p.e = e then
        match s.mgmt.returns.find? (fun r => r.1 == ver) with
        | some (_, _, w) => s.returnEntries q e p.acc d w
        | none => s
      else s
    | _ => s) s

/-- Detours of the core that plans q: firmware loads the spare in the last cycles of W(e) (R132, R153). -/
def State.windowDetours (s : State) (q e : Nat) : State :=
  s.deferred.foldl (fun s p => match p.change with
    | .coreDetour g k =>
      if p.e = e ∧ (s.core g).group = some q ∧ (s.core k).st = .spare then s.setCoreSt k .loading else s
    | _ => s) s

/-- MAINT_WINDOW (R131, R132, R153, R404): the open window of planning group q. -/
def State.maintWindow (s : State) (q : Nat) : State :=
  if !s.clk.running || s.stage < 5 || (4000 ≤ s.clk.cycle && s.clk.cycle < 196000) then s
  else
    match s.coreOf q with
    | none => s
    | some g =>
      if (s.core g).st == .lost then s
      else
        let e := s.winE
        let s := (s.windowReturns q e).windowTeardowns q e
        let s := s.runEntries q (s.windowEntries q e)
        (s.windowDetours q e).divergenceTest q

/-- REPORT_SWEEP (R138): VALID and PREV_VALID are cleared where STAMP is 8,192 or more intervals old. -/
def State.reportSweep (s : State) : State :=
  { s with grant := { s.grant with reports := s.grant.reports.mapAll (fun _ => {}) (fun _ r =>
      if 8192 ≤ (s.clk.msc + 32768 - r.stamp % 32768) % 32768 then { r with valid := false, prevValid := false } else r) } }

/-! Meanings. -/

/-- MILESTONE. -/
def execMilestone (s : State) : Answer := kept s s.milestone
/-- SNAPSHOT. -/
def execSnapshot (s : State) : Answer := kept s s.snapshot
/-- PLAN_DEADLINE. -/
def execPlanDeadline (s : State) : Answer := kept s s.planDeadline
/-- COMMIT_POINT. -/
def execCommitPoint (s : State) : Answer := kept s s.commitPoint
/-- ROADBOOK_DELIVERY. -/
def execRoadbookDelivery (sc : Nat) (s : State) : Answer := kept s (s.deliverBook sc)
/-- DELIVERY_DEADLINE. -/
def execDeliveryDeadline (s : State) : Answer := kept s s.deliveryDeadline
/-- LEDGER_RECORD_DURABLE. -/
def execLedgerRecordDurable (s : State) : Answer := kept s s.recordDurable
/-- MAINT_WINDOW. -/
def execMaintWindow (q : Nat) (s : State) : Answer := kept s (s.maintWindow q)
/-- REPORT_SWEEP. -/
def execReportSweep (s : State) : Answer := kept s s.reportSweep

end Sys2Proof.Machine
end

