-- ==== Sys2Proof/Machine/PreMem.lean ====
section
/-! DEFINITION. Prepolet: staging, memory, wait, emit and control instructions (R183 to R195), the completion
of memory operations (R135, R136) and upsets (R151). -/

namespace Sys2Proof.Machine

/-- The tag that Sa names, if it is one of this batch and of a kind that `ok` allows; else TAG (R184, R185). -/
def Ctx.findTag (c : Ctx) (k : Nat) (r : BitVec 5) (ok : MemKind → Bool) : Except Nat (Nat × Tag) :=
  match c.tagOf k (c.rs r) with
  | none => .error 2
  | some i =>
    match c.tags[i]? with
    | none => .error 2
    | some t => if !ok t.kind then .error 2 else if !t.done then .error 3 else .ok (i, t)

/-- Lanes of Vd from word w of a slot (R184). -/
def Ctx.slotToV (c : Ctx) (d : Nat) (m : BitVec 8) (t : Tag) (w : Nat) : Ctx :=
  c.merge d m (fun k => t.slot.get 0 (t.kind.at k w))

/-- Replace tag i. -/
def Ctx.setTag (c : Ctx) (i : Nat) (t : Tag) : Ctx := { c with tags := c.tags.set i t }

/-- SLD (R184). -/
def execSld (st : Site) (f : FmtO) (s : State) : Answer :=
  kept s (s.instr st (f.word 0x24) (fun c =>
    if f.b != 0 || vbad f.d then .exc 1
    else
      match c.findTag st.ctx f.a (fun k => k != .cst) with
      | .error n => .exc n
      | .ok (_, t) =>
        if t.kind.words ≤ f.fn.toNat then .exc 5
        else .go (c.slotToV f.d.toNat (c.rp f.pr.toNat) t f.fn.toNat)))

/-- SST (R185). -/
def execSst (st : Site) (f : FmtO) (s : State) : Answer :=
  kept s (s.instr st (f.word 0x25) (fun c =>
    if f.d != 0 || vbad f.b then .exc 1
    else
      match c.findTag st.ctx f.a (fun k => k == .cld) with
      | .error n => .exc n
      | .ok (i, t) =>
        if 16 ≤ f.fn.toNat then .exc 5
        else
          let m := c.rp f.pr.toNat
          let slot := (List.range 8).foldl (fun x k =>
            if maskBit m k then x.set 0#32 (16 * k + f.fn.toNat) (c.rv f.b.toNat k) else x) t.slot
          .go (c.setTag i { t with slot := slot })))

/-- Operations in flight on a core that share a kind's cap (R135, R195). -/
def State.inFlight (s : State) (g : Nat) (kind : MemKind) : Nat :=
  (List.range 4).foldl (fun n k =>
    n + ((s.ctx ⟨g, k⟩).tags.filter (fun t => !t.done && kind.same t.kind)).length)
    ((s.core g).abandoned.filter (fun a => kind.same a)).length

/-- A memory instruction (R134, R135): it allocates the lowest free tag, writes it to Sd and starts its
operation, or stalls while the cap of its kind is held. -/
def State.memOp (s : State) (st : Site) (f : FmtM) (op : Nat) (mk : Ctx → Except Nat Tag) : State :=
  s.instr st (f.word op) (fun c =>
    match mk c with
    | .error n => .exc n
    | .ok t =>
      if t.kind.cap ≤ s.inFlight st.core t.kind then .stall
      else .go ({ c with tags := c.tags ++ [t] }.ws f.d (BitVec.ofNat 64 (64 * st.ctx + c.tags.length))))

/-- All 64 tags of a context are allocated (R196 TAG_LIMIT). -/
def Ctx.tagsFull (c : Ctx) : Bool := decide (64 ≤ c.tags.length)

/-- CLD (R186). -/
def execCld (st : Site) (f : FmtM) (s : State) : Answer :=
  kept s (s.memOp st f 0x30 (fun c =>
    if f.base != 0 || f.off != 0 then .error 1
    else if c.tagsFull then .error 4
    else .ok ⟨.cld, c.rp f.pr.toNat, c.batch, [], false, []⟩))

/-- CST (R187): it captures the source slot when it issues. -/
def execCst (st : Site) (f : FmtM) (s : State) : Answer :=
  kept s (s.memOp st f 0x31 (fun c =>
    if f.off != 0 then .error 1
    else
      match c.findTag st.ctx f.base (fun k => k == .cld) with
      | .error n => .error n
      | .ok (_, t) =>
        if c.tagsFull then .error 4
        else .ok ⟨.cst, c.rp f.pr.toNat, c.batch, [], false, t.slot⟩))

/-- RPT and HNT read row s[base] + zext(off), taken exactly (R188). -/
def State.viewRow (s : State) (st : Site) (f : FmtM) (kind : MemKind) (c : Ctx) : Except Nat Tag :=
  let r := (c.rs f.base).toNat + f.off.toNat
  if c.tagsFull then .error 4
  else if 1407 < r || !s.isBound (s.groupAt st) r then .error 5
  else .ok ⟨kind, c.rp f.pr.toNat, r, [], false, []⟩

/-- RPT (R188). -/
def execRpt (st : Site) (f : FmtM) (s : State) : Answer :=
  kept s (s.memOp st f 0x32 (s.viewRow st f .rpt))

/-- HNT (R188). -/
def execHnt (st : Site) (f : FmtM) (s : State) : Answer :=
  kept s (s.memOp st f 0x33 (s.viewRow st f .hnt))

/-- TBL (R189): the index of every lane that takes part, taken exactly. -/
def execTbl (st : Site) (f : FmtM) (s : State) : Answer :=
  kept s (s.memOp st f 0x34 (fun c =>
    let m := c.rp f.pr.toNat
    let idx := (List.range 8).map (fun k => (c.rv f.base.toNat k).toNat + f.off.toNat)
    if vbad f.base then .error 1
    else if c.tagsFull then .error 4
    else if (List.range 8).any (fun k => maskBit m k && decide (65535 < idx.getD k 0)) then .error 5
    else .ok ⟨.tbl, m, 0, idx, false, []⟩))

/-- Word w of lane k of the batch's row as the store buffer and the context SRAM hold it, seen by the
operations after the first n tags of the batch (R136, R186, R187). -/
def Ctx.bufWord (c : Ctx) (n k w : Nat) (base : W32) : W32 :=
  (c.tags.take n).foldl (fun x t =>
    if t.kind == .cst && maskBit t.mask k && decide (4 ≤ w) then t.slot.get 0 (16 * k + w) else x) base

/-- What a completed operation puts into its slot (R139, R141, R142, R183, R186). -/
def State.fillSlot (s : State) (q i : Nat) (c : Ctx) (t : Tag) : SMap W32 :=
  (List.range 8).foldl (fun x k =>
    if !maskBit t.mask k then x
    else
      match t.kind with
      | .cld => (List.range 16).foldl (fun x w =>
          x.set 0#32 (16 * k + w) (c.bufWord i k w (s.rowWord q c.batch k w))) x
      | .rpt => x.set 0#32 k (rptWord (s.grant.reportView.get {} (laneKey q t.row k)) s.viewMsc)
      | .hnt => x.set 0#32 k (hntWord (s.grant.hintView.get {} (laneKey q t.row k)) s.viewMsc)
      | .tbl => (List.range 8).foldl (fun x w =>
          x.set 0#32 (8 * k + w) (s.tableWord (t.idx.getD k 0) w)) x
      | .cst => x) t.slot

/-- A context that waited under WAIT or FENCE becomes ready when what it waits for has completed (R190, R191). -/
def Ctx.unblock (c : Ctx) : Ctx :=
  match c.run with
  | .waitTag i =>
    if (match c.tags[i]? with
        | some t => t.done
        | none => true) then { c with run := .ready } else c
  | .fence => if c.tags.all (fun t => t.done) then { c with run := .ready } else c
  | .idle => c
  | .ready => c

/-- A memory operation completes (R135, R136): local tag t of context k of core g, or, with t = 64 + i, the
i-th operation abandoned on the core (R195). -/
def State.memComplete (s : State) (g k t : Nat) : State :=
  if 104 ≤ g ∨ 4 ≤ k then s
  else if 64 ≤ t then s.modCore g (fun x => { x with abandoned := x.abandoned.eraseIdx (t - 64) })
  else
    let st : Site := ⟨g, k⟩
    let c := s.ctx st
    match c.tags[t]? with
    | none => s
    | some x =>
      if x.done then s
      else s.setCtx st (c.setTag t { x with done := true, slot := s.fillSlot (s.groupAt st) t c x }).unblock

/-- MEMORY_OP_COMPLETE (R135, R136). -/
def execMemoryOpComplete (g k t : Nat) (s : State) : Answer := kept s (s.memComplete g k t)

/-- WAIT (R190): it retires at once on a completed tag and on a value that is no tag of this batch. -/
def execWait (st : Site) (f : FmtO) (s : State) : Answer :=
  kept s (s.instr st (f.word 0x35) (fun c =>
    if f.d != 0 || f.b != 0 || f.pr != 0 || f.fn != 0 then .exc 1
    else
      match c.tagOf st.ctx (c.rs f.a) with
      | none => .go c
      | some i => .go ({ c with run := .waitTag i }.unblock)))

/-- FENCE (R191). -/
def execFenceI (st : Site) (f : FmtO) (s : State) : Answer :=
  kept s (s.instr st (f.word 0x36) (fun c =>
    if f.d != 0 || f.a != 0 || f.b != 0 || f.pr != 0 || f.fn != 0 then .exc 1
    else .go ({ c with run := .fence }.unblock)))

/-- The pending grant of one lane after GEMIT (R143, R192): clamped, and no grant for size 0 without DBRU. -/
def emitted (frame : Nat) (a b : W32) : Option Grant :=
  let size := min (min a.toNat 65535) frame
  let pf := b.toNat % 128
  if size = 0 ∧ pf / 8 % 2 = 0 then none else some ⟨size, pf⟩

/-- GEMIT (R192): one pending grant for each lane in P[pr] that holds a unit. -/
def execGemit (st : Site) (f : FmtO) (s : State) : Answer :=
  kept s (s.instr st (f.word 0x37) (fun c =>
    if f.d != 0 || f.fn != 0 || vbad f.a || vbad f.b then .exc 1
    else if c.entry != .plan then .exc 8
    else
      let m := c.rp f.pr.toNat
      let pend := (List.range 8).foldl (fun x k =>
        match s.laneUnit (s.groupAt st) c.batch k with
        | none => x
        | some u =>
          if maskBit m k then
            x.set none k (emitted (frameUnits (s.sub (s.unit u).sc)) (c.rv f.a.toNat k) (c.rv f.b.toNat k))
          else x) c.pend
      .go { c with pend := pend }))

/-- A branch (R193): `cond` selects the test on P[pr]. -/
def State.branch (s : State) (st : Site) (f : FmtB) (cond : Nat) : State :=
  s.instr st (f.word 0x38) (fun c =>
    if f.cond.toNat != cond || (cond == 0 && f.pr != 0) || f.n == 0 || decide (16383 < f.n.toNat) then .exc 1
    else if branchTaken cond (c.rp f.pr.toNat) then .jump (c.pc + f.n.toNat)
    else .go c)

/-- BR (R193). -/
def execBr (st : Site) (f : FmtB) (s : State) : Answer := kept s (s.branch st f 0)

/-- BR.ANY (R193). -/
def execBrAny (st : Site) (f : FmtB) (s : State) : Answer := kept s (s.branch st f 1)

/-- BR.NONE (R193). -/
def execBrNone (st : Site) (f : FmtB) (s : State) : Answer := kept s (s.branch st f 2)

/-- BR.ALL (R193). -/
def execBrAll (st : Site) (f : FmtB) (s : State) : Answer := kept s (s.branch st f 3)

/-- BR.NALL (R193). -/
def execBrNall (st : Site) (f : FmtB) (s : State) : Answer := kept s (s.branch st f 4)

/-- LOOP (R194). -/
def execLoopI (st : Site) (f : FmtB) (s : State) : Answer :=
  kept s (s.instr st (f.word 0x39) (fun c =>
    if f.cond != 0 || f.pr != 0 || f.n == 0 || decide (4096 < f.n.toNat) then .exc 1
    else if 4 ≤ c.loops.length then .exc 6
    else .go { c with loops := ⟨c.pc + 1, f.n.toNat, 0⟩ :: c.loops }))

/-- ENDL (R194). -/
def execEndl (st : Site) (f : FmtB) (s : State) : Answer :=
  kept s (s.instr st (f.word 0x3A) (fun c =>
    if f.cond != 0 || f.pr != 0 || f.n != 0 then .exc 1
    else
      match c.loops with
      | [] => .exc 6
      | e :: r =>
        if 1 < e.left then .back { c with loops := ⟨e.ret, e.left - 1, e.idx + 1⟩ :: r } e.ret
        else .go { c with loops := r }))

/-- Write the buffered rows of a batch or entry to the context SRAM (R130, R187, R195): outstanding CSTs are
part of the release. -/
def State.writeRows (s : State) (st : Site) : State :=
  let c := s.ctx st
  let q := s.groupAt st
  c.tags.foldl (fun s t =>
    if t.kind == .cst then
      (List.range 8).foldl (fun s k =>
        if maskBit t.mask k then
          (List.range 12).foldl (fun s i => s.setRowWord q c.batch k (4 + i) (t.slot.get 0 (16 * k + 4 + i))) s
        else s) s
    else s) s

/-- Hardware-owned bytes of a planned lane at release (R130): the released grant, or zero. -/
def AUnit.released (u : AUnit) (g : Option Grant) : AUnit :=
  match g with
  | some g => { u with lastSize := g.size, lastPf := g.pf % 128 + 128, firstPlan := false, carried := false }
  | none => { u with lastSize := 0, lastPf := 0, firstPlan := false, carried := false }

/-- Release of a batch (R130, R195): grants, rows, and the hardware-owned bytes of every planned lane. -/
def State.releaseBatch (s : State) (st : Site) : State :=
  let c := s.ctx st
  let q := s.groupAt st
  let s := s.writeRows st
  (List.range 8).foldl (fun s k =>
    match s.laneUnit q c.batch k with
    | none => s
    | some u =>
      let g := c.pend.get none k
      let s := { s with grant := { s.grant with released := s.grant.released.set none (laneKey q c.batch k) g } }
      if maskBit c.lanes k then s.modUnit u (fun x => x.released g) else s) s

/-- HALT of a batch: the release, the core's finish and the batch's carry count (R52, R130, R151, R157). -/
def State.haltPlan (s : State) (st : Site) : State :=
  let c := s.ctx st
  let q := s.groupAt st
  let s := s.releaseBatch st
  let s := s.modCore st.core (fun x => { x with finish := s.clk.cycle })
  let s := s.setReg (gcrA st.core 0x34) (BitVec.ofNat 64 (max (s.fld (gcrA st.core 0x34) 17 0) s.clk.cycle))
  let s := if c.upsets = 0 then s else s.gcrCount st.core 2
  let s := s.modGroup q (fun x => { x with carry := x.carry.set 0 c.batch 0 })
  (s.markBatch q c.batch .halted).nextWork st

/-- HALT (R195). -/
def execHalt (st : Site) (f : FmtB) (s : State) : Answer :=
  kept s (match s.canIssue st with
    | none => s
    | some c =>
      if c.heldBy (f.word 0x3B) then s
      else if f.cond != 0 || f.pr != 0 || f.n != 0 then s.progExc st (f.word 0x3B) 1
      else
        let s := s.issuedOne st
        if c.entry == .plan then s.haltPlan st else (s.writeRows st).nextWork st)

/-- CORE_UPSET (R133, R151). -/
def execCoreUpset (st : Site) (s : State) : Answer := kept s (s.upset st)

end Sys2Proof.Machine
end

