-- ==== Sys2Proof/Machine/Prepolet.lean ====
section
/-! DEFINITION. Prepolet: scalar, vector and predicate instructions (R168 to R182). -/

namespace Sys2Proof.Machine

/-- A scalar operate instruction (R168): opcode 0x00, pr zero. -/
def State.scalarOp (s : State) (st : Site) (f : FmtO) (fn : Nat) (op : W64 → W64 → W64) : State :=
  s.instr st (f.word 0x00) (fun c =>
    legal (f.fn.toNat != fn || f.pr != 0) (c.ws f.d (op (c.rs f.a) (c.rs f.b))))

/-- A scalar compare (R169): opcode 0x01, d names a P register, pr zero. -/
def State.scalarCmp (s : State) (st : Site) (f : FmtO) (k : Cond) : State :=
  s.instr st (f.word 0x01) (fun c =>
    legal (f.fn.toNat != k.code || f.pr != 0 || pbad f.d)
      (c.wp f.d.toNat (allOrNone (k.holds (c.rs f.a) (c.rs f.b)))))

/-- A scalar immediate instruction (R171). -/
def State.scalarImm (s : State) (st : Site) (f : FmtI) (op : Nat) (ill : Bool) (g : W64 → W64) : State :=
  s.instr st (f.word op) (fun c => legal ill (c.ws f.d (g (c.rs f.a))))

/-- LDHh (R171): one halfword of the register is replaced. -/
def ldh (h : Nat) (a : W64) (imm : BitVec 16) : W64 :=
  (a &&& ~~~(0xFFFF#64 <<< (16 * h))) ||| (zext64 imm <<< (16 * h))

/-- A vector operate instruction (R173): opcode 0x10; the lanes in P[pr] merge. -/
def State.vectorOp (s : State) (st : Site) (f : FmtO) (fn : Nat) (op : W32 → W32 → W32) : State :=
  s.instr st (f.word 0x10) (fun c =>
    legal (f.fn.toNat % 16 != fn || decide (32 ≤ f.fn.toNat) || vbad f.d || vbad f.a || f.ybad)
      (c.merge f.d.toNat (c.rp f.pr.toNat) (fun k => op (c.rv f.a.toNat k) (c.yop f k))))

/-- A vector compare (R174): opcode 0x11; the result is zeroing. -/
def State.vectorCmp (s : State) (st : Site) (f : FmtO) (k : Cond) : State :=
  s.instr st (f.word 0x11) (fun c =>
    legal (f.fn.toNat % 16 != k.code || decide (32 ≤ f.fn.toNat) || pbad f.d || vbad f.a || f.ybad)
      (c.wp f.d.toNat (mask8 (fun i => maskBit (c.rp f.pr.toNat) i && k.holds (c.rv f.a.toNat i) (c.yop f i)))))

/-- A saturating, minimum or maximum instruction (R175, R176): fn[3:0] selects, fn[4] is SCALAR. -/
def State.vectorMerge (s : State) (st : Site) (f : FmtO) (op fn : Nat) (g : W32 → W32 → W32) : State :=
  s.instr st (f.word op) (fun c =>
    legal (f.fn.toNat % 16 != fn || decide (32 ≤ f.fn.toNat) || vbad f.d || vbad f.a || f.ybad)
      (c.merge f.d.toNat (c.rp f.pr.toNat) (fun k => g (c.rv f.a.toNat k) (c.yop f k))))

/-- A vector immediate instruction (R180): all eight lanes. -/
def State.vectorImm (s : State) (st : Site) (f : FmtI) (op : Nat) (ill : Bool) (g : W32 → W32) : State :=
  s.instr st (f.word op) (fun c =>
    legal (ill || vbad f.d || vbad f.a) (c.merge f.d.toNat 0xFF#8 (fun k => g (c.rv f.a.toNat k))))

/-- A reduction (R179): opcode 0x17, b zero; only lanes in P[pr] contribute. -/
def State.reduce (s : State) (st : Site) (f : FmtO) (fn : Nat) (ill : Bool) (g : List W32 → BitVec 8 → W64) : State :=
  s.instr st (f.word 0x17) (fun c =>
    let m := c.rp f.pr.toNat
    legal (f.fn.toNat != fn || f.b != 0 || ill)
      (c.ws f.d (g (((List.range 8).filter (fun k => maskBit m k)).map (fun k => c.rv f.a.toNat k)) m)))

/-- A predicate operate instruction with two P sources (R181): opcode 0x20, masked by P[pr]. -/
def State.predOp (s : State) (st : Site) (f : FmtO) (fn : Nat) (g : BitVec 8 → BitVec 8 → BitVec 8) : State :=
  s.instr st (f.word 0x20) (fun c =>
    legal (f.fn.toNat != fn || pbad f.d || pbad f.a || pbad f.b)
      (c.wp f.d.toNat (g (c.rp f.a.toNat) (c.rp f.b.toNat) &&& c.rp f.pr.toNat)))

/-! Meanings. -/

/-- ADD (R168). -/
def execIadd (st : Site) (f : FmtO) (s : State) : Answer :=
  kept s (s.scalarOp st f 0x00 (fun x y => x + y))

/-- SUB (R168). -/
def execIsub (st : Site) (f : FmtO) (s : State) : Answer :=
  kept s (s.scalarOp st f 0x01 (fun x y => x - y))

/-- AND (R168). -/
def execIand (st : Site) (f : FmtO) (s : State) : Answer :=
  kept s (s.scalarOp st f 0x02 (fun x y => x &&& y))

/-- OR (R168). -/
def execIor (st : Site) (f : FmtO) (s : State) : Answer :=
  kept s (s.scalarOp st f 0x03 (fun x y => x ||| y))

/-- XOR (R168). -/
def execIxor (st : Site) (f : FmtO) (s : State) : Answer :=
  kept s (s.scalarOp st f 0x04 (fun x y => x ^^^ y))

/-- ANDN (R168). -/
def execAndn (st : Site) (f : FmtO) (s : State) : Answer :=
  kept s (s.scalarOp st f 0x05 (fun x y => x &&& ~~~y))

/-- SHL (R168). -/
def execShl (st : Site) (f : FmtO) (s : State) : Answer :=
  kept s (s.scalarOp st f 0x06 (fun x y => x <<< (y.toNat % 64)))

/-- SHR (R168). -/
def execShr (st : Site) (f : FmtO) (s : State) : Answer :=
  kept s (s.scalarOp st f 0x07 (fun x y => x >>> (y.toNat % 64)))

/-- SRA (R168). -/
def execSra (st : Site) (f : FmtO) (s : State) : Answer :=
  kept s (s.scalarOp st f 0x08 (fun x y => x.sshiftRight (y.toNat % 64)))

/-- MUL (R168). -/
def execMul (st : Site) (f : FmtO) (s : State) : Answer :=
  kept s (s.scalarOp st f 0x09 (fun x y => x * y))

/-- MULHU (R168). -/
def execMulhu (st : Site) (f : FmtO) (s : State) : Answer :=
  kept s (s.scalarOp st f 0x0A (fun x y => BitVec.ofNat 64 (x.toNat * y.toNat / 2 ^ 64)))

/-- MINU (R168). -/
def execMinu (st : Site) (f : FmtO) (s : State) : Answer :=
  kept s (s.scalarOp st f 0x0C (fun x y => if x.ult y then x else y))

/-- MAXU (R168). -/
def execMaxu (st : Site) (f : FmtO) (s : State) : Answer :=
  kept s (s.scalarOp st f 0x0D (fun x y => if x.ult y then y else x))

/-- MINS (R168). -/
def execMins (st : Site) (f : FmtO) (s : State) : Answer :=
  kept s (s.scalarOp st f 0x0E (fun x y => if x.slt y then x else y))

/-- MAXS (R168). -/
def execMaxs (st : Site) (f : FmtO) (s : State) : Answer :=
  kept s (s.scalarOp st f 0x0F (fun x y => if x.slt y then y else x))

/-- CMP.EQ (R169). -/
def execCmpEq (st : Site) (f : FmtO) (s : State) : Answer :=
  kept s (s.scalarCmp st f .eq)

/-- CMP.NE (R169). -/
def execCmpNe (st : Site) (f : FmtO) (s : State) : Answer :=
  kept s (s.scalarCmp st f .ne)

/-- CMP.LTU (R169). -/
def execCmpLtu (st : Site) (f : FmtO) (s : State) : Answer :=
  kept s (s.scalarCmp st f .ltu)

/-- CMP.LEU (R169). -/
def execCmpLeu (st : Site) (f : FmtO) (s : State) : Answer :=
  kept s (s.scalarCmp st f .leu)

/-- CMP.LTS (R169). -/
def execCmpLts (st : Site) (f : FmtO) (s : State) : Answer :=
  kept s (s.scalarCmp st f .lts)

/-- CMP.LES (R169). -/
def execCmpLes (st : Site) (f : FmtO) (s : State) : Answer :=
  kept s (s.scalarCmp st f .les)

/-- A special value of R160. -/
def special (c : Ctx) (k fn : Nat) : W64 :=
  match fn with
  | 0 => BitVec.ofNat 64 c.batch
  | 1 => c.msc.setWidth 64
  | 2 => c.nowns.setWidth 64
  | 3 => BitVec.ofNat 64 k
  | 4 => BitVec.ofNat 64 c.entry.code
  | n => match c.loops[n - 5]? with
    | some e => BitVec.ofNat 64 e.idx
    | none => 0

/-- SPC (R160, R170). -/
def execSpc (st : Site) (f : FmtO) (s : State) : Answer :=
  kept s (s.instr st (f.word 0x02) (fun c =>
    legal (decide (9 ≤ f.fn.toNat) || f.a != 0 || f.b != 0 || f.pr != 0) (c.ws f.d (special c st.ctx f.fn.toNat))))

/-- ADDI (R171). -/
def execAddi (st : Site) (f : FmtI) (s : State) : Answer :=
  kept s (s.scalarImm st f 0x04 false (fun x => x + sext64 f.imm))

/-- ANDI (R171). -/
def execAndi (st : Site) (f : FmtI) (s : State) : Answer :=
  kept s (s.scalarImm st f 0x05 false (fun x => x &&& zext64 f.imm))

/-- ORI (R171). -/
def execOri (st : Site) (f : FmtI) (s : State) : Answer :=
  kept s (s.scalarImm st f 0x06 false (fun x => x ||| zext64 f.imm))

/-- XORI (R171). -/
def execXori (st : Site) (f : FmtI) (s : State) : Answer :=
  kept s (s.scalarImm st f 0x07 false (fun x => x ^^^ zext64 f.imm))

/-- SHLI (R171). -/
def execShli (st : Site) (f : FmtI) (s : State) : Answer :=
  kept s (s.scalarImm st f 0x08 (decide (64 ≤ f.imm.toNat)) (fun x => x <<< (f.imm.toNat % 64)))

/-- SHRI (R171). -/
def execShri (st : Site) (f : FmtI) (s : State) : Answer :=
  kept s (s.scalarImm st f 0x09 (decide (64 ≤ f.imm.toNat)) (fun x => x >>> (f.imm.toNat % 64)))

/-- LDH0 (R171). -/
def execLdh0 (st : Site) (f : FmtI) (s : State) : Answer :=
  kept s (s.scalarImm st f 0x0A false (fun x => ldh 0 x f.imm))

/-- LDH1 (R171). -/
def execLdh1 (st : Site) (f : FmtI) (s : State) : Answer :=
  kept s (s.scalarImm st f 0x0B false (fun x => ldh 1 x f.imm))

/-- LDH2 (R171). -/
def execLdh2 (st : Site) (f : FmtI) (s : State) : Answer :=
  kept s (s.scalarImm st f 0x0C false (fun x => ldh 2 x f.imm))

/-- LDH3 (R171). -/
def execLdh3 (st : Site) (f : FmtI) (s : State) : Answer :=
  kept s (s.scalarImm st f 0x0D false (fun x => ldh 3 x f.imm))

/-- KLD (R172; DEDUCED from R196: the sum wraps like all arithmetic). -/
def execKld (st : Site) (f : FmtI) (s : State) : Answer :=
  kept s (s.instr st (f.word 0x0E) (fun c =>
    let i := (c.rs f.a + zext64 f.imm).toNat
    if 2048 ≤ i then .exc 5 else .go (c.ws f.d ((s.progAt st).const.get 0 i))))

/-- VADD (R173). -/
def execVadd (st : Site) (f : FmtO) (s : State) : Answer :=
  kept s (s.vectorOp st f 0x0 (fun x y => x + y))

/-- VSUB (R173). -/
def execVsub (st : Site) (f : FmtO) (s : State) : Answer :=
  kept s (s.vectorOp st f 0x1 (fun x y => x - y))

/-- VAND (R173). -/
def execVand (st : Site) (f : FmtO) (s : State) : Answer :=
  kept s (s.vectorOp st f 0x2 (fun x y => x &&& y))

/-- VOR (R173). -/
def execVor (st : Site) (f : FmtO) (s : State) : Answer :=
  kept s (s.vectorOp st f 0x3 (fun x y => x ||| y))

/-- VXOR (R173). -/
def execVxor (st : Site) (f : FmtO) (s : State) : Answer :=
  kept s (s.vectorOp st f 0x4 (fun x y => x ^^^ y))

/-- VANDN (R173). -/
def execVandn (st : Site) (f : FmtO) (s : State) : Answer :=
  kept s (s.vectorOp st f 0x5 (fun x y => x &&& ~~~y))

/-- VSHL (R173). -/
def execVshl (st : Site) (f : FmtO) (s : State) : Answer :=
  kept s (s.vectorOp st f 0x6 (fun x y => x <<< (y.toNat % 32)))

/-- VSHR (R173). -/
def execVshr (st : Site) (f : FmtO) (s : State) : Answer :=
  kept s (s.vectorOp st f 0x7 (fun x y => x >>> (y.toNat % 32)))

/-- VSRA (R173). -/
def execVsra (st : Site) (f : FmtO) (s : State) : Answer :=
  kept s (s.vectorOp st f 0x8 (fun x y => x.sshiftRight (y.toNat % 32)))

/-- VMUL (R173). -/
def execVmul (st : Site) (f : FmtO) (s : State) : Answer :=
  kept s (s.vectorOp st f 0x9 (fun x y => x * y))

/-- VMULHU (R173). -/
def execVmulhu (st : Site) (f : FmtO) (s : State) : Answer :=
  kept s (s.vectorOp st f 0xA (fun x y => BitVec.ofNat 32 (x.toNat * y.toNat / 2 ^ 32)))

/-- VMOV (R173: b and fn[4] are zero). -/
def execVmov (st : Site) (f : FmtO) (s : State) : Answer :=
  kept s (s.instr st (f.word 0x10) (fun c =>
    legal (f.fn != 0x0B || f.b != 0 || vbad f.d || vbad f.a)
      (c.merge f.d.toNat (c.rp f.pr.toNat) (fun k => c.rv f.a.toNat k))))

/-- VCMP.EQ (R174). -/
def execVcmpEq (st : Site) (f : FmtO) (s : State) : Answer :=
  kept s (s.vectorCmp st f .eq)

/-- VCMP.NE (R174). -/
def execVcmpNe (st : Site) (f : FmtO) (s : State) : Answer :=
  kept s (s.vectorCmp st f .ne)

/-- VCMP.LTU (R174). -/
def execVcmpLtu (st : Site) (f : FmtO) (s : State) : Answer :=
  kept s (s.vectorCmp st f .ltu)

/-- VCMP.LEU (R174). -/
def execVcmpLeu (st : Site) (f : FmtO) (s : State) : Answer :=
  kept s (s.vectorCmp st f .leu)

/-- VCMP.LTS (R174). -/
def execVcmpLts (st : Site) (f : FmtO) (s : State) : Answer :=
  kept s (s.vectorCmp st f .lts)

/-- VCMP.LES (R174). -/
def execVcmpLes (st : Site) (f : FmtO) (s : State) : Answer :=
  kept s (s.vectorCmp st f .les)

/-- VSATU.ADD (R175). -/
def execVsatuAdd (st : Site) (f : FmtO) (s : State) : Answer :=
  kept s (s.vectorMerge st f 0x12 0 (fun x y => satU32 (x.toNat + y.toNat)))

/-- VSATU.SUB (R175). -/
def execVsatuSub (st : Site) (f : FmtO) (s : State) : Answer :=
  kept s (s.vectorMerge st f 0x12 1 (fun x y => BitVec.ofNat 32 (x.toNat - y.toNat)))

/-- VSATS.ADD (R175). -/
def execVsatsAdd (st : Site) (f : FmtO) (s : State) : Answer :=
  kept s (s.vectorMerge st f 0x12 2 (fun x y => BitVec.ofInt 32 (sat32 (x.toInt + y.toInt))))

/-- VSATS.SUB (R175). -/
def execVsatsSub (st : Site) (f : FmtO) (s : State) : Answer :=
  kept s (s.vectorMerge st f 0x12 3 (fun x y => BitVec.ofInt 32 (sat32 (x.toInt - y.toInt))))

/-- VMINU (R176). -/
def execVminu (st : Site) (f : FmtO) (s : State) : Answer :=
  kept s (s.vectorMerge st f 0x13 0 (fun x y => if x.ult y then x else y))

/-- VMINS (R176). -/
def execVmins (st : Site) (f : FmtO) (s : State) : Answer :=
  kept s (s.vectorMerge st f 0x13 1 (fun x y => if x.slt y then x else y))

/-- VMAXU (R176). -/
def execVmaxu (st : Site) (f : FmtO) (s : State) : Answer :=
  kept s (s.vectorMerge st f 0x14 0 (fun x y => if x.ult y then y else x))

/-- VMAXS (R176). -/
def execVmaxs (st : Site) (f : FmtO) (s : State) : Answer :=
  kept s (s.vectorMerge st f 0x14 1 (fun x y => if x.slt y then y else x))

/-- VSEL (R177: writes every lane). -/
def execVsel (st : Site) (f : FmtO) (s : State) : Answer :=
  kept s (s.instr st (f.word 0x15) (fun c =>
    legal (f.fn != 0 || vbad f.d || vbad f.a || vbad f.b)
      (c.merge f.d.toNat 0xFF#8 (fun k =>
        if maskBit (c.rp f.pr.toNat) k then c.rv f.a.toNat k else c.rv f.b.toNat k))))

/-- VBCAST (R178). -/
def execVbcast (st : Site) (f : FmtO) (s : State) : Answer :=
  kept s (s.instr st (f.word 0x16) (fun c =>
    legal (f.fn != 0 || f.b != 0 || vbad f.d)
      (c.merge f.d.toNat (c.rp f.pr.toNat) (fun _ => (c.rs f.a).setWidth 32))))

/-- VEXT (R178). -/
def execVext (st : Site) (f : FmtO) (s : State) : Answer :=
  kept s (s.instr st (f.word 0x16) (fun c =>
    legal (f.fn != 1 || f.pr != 0 || pbad f.b || vbad f.a)
      (c.ws f.d ((c.rv f.a.toNat f.b.toNat).setWidth 64))))

/-- VINS (R178). -/
def execVins (st : Site) (f : FmtO) (s : State) : Answer :=
  kept s (s.instr st (f.word 0x16) (fun c =>
    legal (f.fn != 2 || f.pr != 0 || pbad f.b || vbad f.d)
      (c.wv f.d.toNat f.b.toNat ((c.rs f.a).setWidth 32))))

/-- VIOTA (R178). -/
def execViota (st : Site) (f : FmtO) (s : State) : Answer :=
  kept s (s.instr st (f.word 0x16) (fun c =>
    legal (f.fn != 3 || f.a != 0 || f.b != 0 || vbad f.d)
      (c.merge f.d.toNat (c.rp f.pr.toNat) (fun k => BitVec.ofNat 32 k))))

/-- VSUM (R179). -/
def execVsum (st : Site) (f : FmtO) (s : State) : Answer :=
  kept s (s.reduce st f 0 (vbad f.a) (fun l _ => BitVec.ofNat 64 (l.foldl (fun n x => n + x.toNat) 0)))

/-- VRMINU (R179). -/
def execVrminu (st : Site) (f : FmtO) (s : State) : Answer :=
  kept s (s.reduce st f 1 (vbad f.a) (fun l _ => BitVec.ofNat 64 (l.foldl (fun n x => min n x.toNat) 0xFFFF_FFFF)))

/-- VRMAXU (R179). -/
def execVrmaxu (st : Site) (f : FmtO) (s : State) : Answer :=
  kept s (s.reduce st f 2 (vbad f.a) (fun l _ => BitVec.ofNat 64 (l.foldl (fun n x => max n x.toNat) 0)))

/-- VROR (R179). -/
def execVror (st : Site) (f : FmtO) (s : State) : Answer :=
  kept s (s.reduce st f 3 (vbad f.a) (fun l _ => (l.foldl (fun n x => n ||| x) 0#32).setWidth 64))

/-- PPOPC (R179). -/
def execPpopc (st : Site) (f : FmtO) (s : State) : Answer :=
  kept s (s.reduce st f 4 (f.a != 0) (fun _ m => BitVec.ofNat 64 (popc m)))

/-- PFIRST (R179). -/
def execPfirst (st : Site) (f : FmtO) (s : State) : Answer :=
  kept s (s.reduce st f 5 (f.a != 0) (fun _ m => BitVec.ofNat 64 (pfirstOf m)))

/-- VADDI (R180). -/
def execVaddi (st : Site) (f : FmtI) (s : State) : Answer :=
  kept s (s.vectorImm st f 0x18 false (fun x => x + sext32 f.imm))

/-- VLI (R180). -/
def execVli (st : Site) (f : FmtI) (s : State) : Answer :=
  kept s (s.vectorImm st f 0x19 (f.a != 0) (fun _ => sext32 f.imm))

/-- VSHLI (R180). -/
def execVshli (st : Site) (f : FmtI) (s : State) : Answer :=
  kept s (s.vectorImm st f 0x1A (decide (32 ≤ f.imm.toNat)) (fun x => x <<< (f.imm.toNat % 32)))

/-- VSHRI (R180). -/
def execVshri (st : Site) (f : FmtI) (s : State) : Answer :=
  kept s (s.vectorImm st f 0x1B (decide (32 ≤ f.imm.toNat)) (fun x => x >>> (f.imm.toNat % 32)))

/-- VANDI (R180). -/
def execVandi (st : Site) (f : FmtI) (s : State) : Answer :=
  kept s (s.vectorImm st f 0x1C false (fun x => x &&& zext32 f.imm))

/-- PAND (R181). -/
def execPand (st : Site) (f : FmtO) (s : State) : Answer :=
  kept s (s.predOp st f 0 (fun x y => x &&& y))

/-- POR (R181). -/
def execPor (st : Site) (f : FmtO) (s : State) : Answer :=
  kept s (s.predOp st f 1 (fun x y => x ||| y))

/-- PXOR (R181). -/
def execPxor (st : Site) (f : FmtO) (s : State) : Answer :=
  kept s (s.predOp st f 2 (fun x y => x ^^^ y))

/-- PANDN (R181). -/
def execPandn (st : Site) (f : FmtO) (s : State) : Answer :=
  kept s (s.predOp st f 3 (fun x y => x &&& ~~~y))

/-- PNOT (R181). -/
def execPnot (st : Site) (f : FmtO) (s : State) : Answer :=
  kept s (s.instr st (f.word 0x20) (fun c =>
    legal (f.fn != 4 || pbad f.d || pbad f.a || f.b != 0)
      (c.wp f.d.toNat (~~~(c.rp f.a.toNat) &&& c.rp f.pr.toNat))))

/-- PTOS (R181). -/
def execPtos (st : Site) (f : FmtO) (s : State) : Answer :=
  kept s (s.instr st (f.word 0x20) (fun c =>
    legal (f.fn != 5 || pbad f.a || f.b != 0 || f.pr != 0)
      (c.ws f.d ((c.rp f.a.toNat).setWidth 64))))

/-- PFROMS (R181). -/
def execPfroms (st : Site) (f : FmtO) (s : State) : Answer :=
  kept s (s.instr st (f.word 0x20) (fun c =>
    legal (f.fn != 6 || pbad f.d || f.b != 0)
      (c.wp f.d.toNat ((c.rs f.a).setWidth 8 &&& c.rp f.pr.toNat))))

/-- Both credit registers after BKT (R182): Vd and Vd + 1, the lanes in P[pr]. -/
def Ctx.bkt (c : Ctx) (f : FmtO) : Ctx :=
  let d := f.d.toNat
  let r := fun k => bktLane (c.rv d k) (c.rv (d + 1) k) (c.rv f.a.toNat k) (c.rv f.b.toNat k)
    (if f.fn.getLsbD 4 then some (c.rv (f.fn.toNat % 16) k) else none)
  (c.merge d (c.rp f.pr.toNat) (fun k => (r k).1)).merge (d + 1) (c.rp f.pr.toNat) (fun k => (r k).2)

/-- BKT (R182). -/
def execBkt (st : Site) (f : FmtO) (s : State) : Answer :=
  kept s (s.instr st (f.word 0x22) (fun c =>
    legal (decide (32 ≤ f.fn.toNat) || f.d.getLsbD 0 || vbad f.d || vbad f.a || vbad f.b) (c.bkt f)))

end Sys2Proof.Machine
end

