-- ==== Sys2Proof/Machine/RegViews.lean ====
section
/-! DEFINITION. The remaining live views of registers (CHN, GCR, TIM, BPM, CPH, FWD, TMG, THERM, the program
store windows and the quota use of a domain page), and the value a register reads. -/

namespace Sys2Proof.Machine

/-- Terminals of a sub-channel that satisfy a test. -/
def State.termsWhere (s : State) (sc : Nat) (p : Term → Bool) : Nat :=
  s.pon.terms.countWhere (fun k t => k / 512 == sc && p t)

/-- Views of the common and DSP sub-blocks of tree c (R95). -/
def viewTree (s : State) (ra : RegAt) : Option Nat :=
  let c := ix0 ra.bix
  let h := s.sub (2 * c)
  let x := s.sub (2 * c + 1)
  match ra.blk.blk, ra.reg.off with
  | .chn, 0x4 => some (4 * b2n (h.oos || x.oos) + (treeRoad h.road x.road).code)
  | .chn, 0xC => some (2 * b2n (x.sd != s.sdLow (2 * c + 1)) + b2n (h.sd != s.sdLow (2 * c)))
  | .pl, 0x0 =>
    let p := s.pon.plPorts.get {} c
    some (b2n p.busy * 2 ^ 31 + p.sel)
  | .pl, 0x8 => some (s.pon.plPorts.get {} c).word0.toNat
  | .pl, 0x10 => some (s.pon.plPorts.get {} c).word1.toNat
  | _, _ => none

/-- Views of the sub-block of sub-channel sc (R95). -/
def viewSub (s : State) (sc : Nat) (ra : RegAt) : Option Nat :=
  let x := s.sub sc
  let p := x.profile (ix0 ra.rix)
  match ra.reg.off with
  | 0x0 =>
    some (b2n x.oos * 2 ^ 22 + x.dsp % 2 ^ 7 * 2 ^ 15 + x.engine % 2 ^ 7 * 2 ^ 8 + x.rate % 4 * 2 ^ 6
      + sc % 2 * 2 ^ 5 + x.len % 8 * 4 + x.road.code)
  | 0x4 => some (x.phaseTol % 2 ^ 16 * 2 ^ 16 + x.guardBits % 2 ^ 16)
  | 0xC => some (x.disc.showQuiet % 2 ^ 12 * 2 ^ 16 + x.disc.showPeriod % 2 ^ 16)
  | 0x10 =>
    some (s.termsWhere sc (fun t => t.pre.fault) * 2 ^ 16 + s.termsWhere sc (fun t => t.act == .operation))
  | 0x100 => some (p.prePat.toNat * 2 ^ 32 + b2n p.fec * 2 ^ 24 + p.del % 2 ^ 8 * 2 ^ 16 + p.pre % 2 ^ 16)
  | 0x108 => some p.delPat.toNat
  | _ => none

/-- The program that the active slot of a group holds (R157). -/
def Group.activeProg (q : Group) : Prog := q.prog q.active

/-- Views of the GCR block of core g (R157). -/
def viewGcr (s : State) (ra : RegAt) : Option Nat :=
  let g := ix0 ra.bix
  let x := s.core g
  let q := x.group.getD 0
  let gr := if x.group.isSome then s.group q else {}
  let own (n : Nat) : Nat := if x.group.isSome then n else 0
  match ra.reg.off with
  | 0x4 =>
    match x.group with
    | some q => some (q / 24 * 2 ^ 24 + (2 * q + 1) * 2 ^ 16 + 2 * q * 2 ^ 8 + x.st.code)
    | none => some (0xFFFF * 2 ^ 8 + x.st.code)
  | 0x8 => some x.mapMsc
  | 0x10 => some (gr.shadow.code * 16 + gr.active)
  | 0x18 => some gr.swapMsc
  | 0x20 =>
    some ((if x.group.isSome then s.batchCapOf q else 1408) * 2 ^ 16 + own (s.boundBatches q).length)
  | 0x24 => some (own (s.grant.units.countWhere (fun _ u => u.inst && u.group == q)))
  | 0x28 =>
    some (max gr.activeProg.instBound gr.activeProg.retBound % 2 ^ 16 * 2 ^ 16 + gr.activeProg.planBound % 2 ^ 16)
  | 0x2C =>
    some (own (s.bookedAt q (if s.clk.cycle < 196000 then s.clk.msc + 2 else s.clk.msc + 3)) % 2 ^ 16 * 2 ^ 16
      + gr.usedLast % 2 ^ 16)
  | 0x30 => some x.finish
  | 0x38 => some x.idleLast
  | 0x68 => some (min (s.health 0 g).win 255)
  | _ => none

/-- Two's complement of FREQ in ppb × 2⁸: 2⁻²⁸ ppb units rounded down to 2⁻⁸ ppb (R392). -/
def freqReg (f : Int) : Nat := (f / 2 ^ 20 % 2 ^ 32).toNat

/-- Views of TIM (R374, R392). -/
def viewTime (s : State) (ra : RegAt) : Option Nat :=
  match ra.reg.off with
  | 0x0 => some s.timeNsf.toNat
  | 0x8 => some (match s.time.secLatch with
      | some w => w.toNat
      | none => secOf s.time.dev % 2 ^ 48)
  | 0x10 => some (b2n s.time.valid * 2 ^ 31 + b2n s.time.kept * 2 ^ 30 + s.time.servo.code)
  | 0x30 => some (freqReg s.time.freq)
  | 0x34 => some (freqReg s.time.freqHold)
  | _ => none

/-- PC_ACTIVE of a stack (R348). -/
def State.pcMap (s : State) (k : Nat) : Nat :=
  (List.range 32).foldl (fun n i =>
    n + b2n ((s.health 5 (32 * k + i)).st == .active || (s.health 5 (32 * k + i)).st == .retiring) * 2 ^ i) 0

/-- Views of BPM (R348). -/
def viewBpm (s : State) (ra : RegAt) : Option Nat :=
  let p := s.pool (ix0 ra.rix)
  match ra.reg.off with
  | 0x0 => some (p.units % 2 ^ 8)
  | 0x4 => some (p.size - p.lost)
  | 0x8 => some p.free
  | 0xC => some p.minFree
  | 0x148 => some s.buf.unassigned
  | 0x14C => some (b2n s.buf.layoutPend.isSome)
  | 0x150 => some (s.pcMap (ix0 ra.rix))
  | _ => none

/-- Views of CPH (R369). -/
def viewCph (s : State) (ra : RegAt) : Option Nat :=
  let d := ix0 ra.rix
  match ra.reg.off with
  | 0x0 => some (s.budget d % 2 ^ 16 * 2 ^ 16 + s.reserved d % 2 ^ 16)
  | 0x4 => some (s.cphUnits 3 d UnitSt.inService * 2 ^ 16 + s.cphUnits 3 d (· == .spare))
  | 0x100 => some (s.cphUnits 4 d UnitSt.inService * 2 ^ 16 + s.cphUnits 4 d (· == .spare))
  | 0x104 => some (s.macsecNeed d % 2 ^ 11)
  | _ => none

/-- Views of FWD (R327). -/
def viewFwd (s : State) (ra : RegAt) : Option Nat :=
  let x := s.pipe (ix0 ra.rix)
  match ra.reg.off with
  | 0x1000 =>
    some (b2n x.rehash.isSome * 2 ^ 31 + b2n x.walk.isSome * 2 ^ 30 + x.stash.length * 2 ^ 19 + x.entries.length)
  | 0x1004 => some x.seed.toNat
  | _ => none

/-- The port that TMG.GATE_SEL shows (R303). -/
def State.gatePort (s : State) : Nat := s.fld (tmgA 0x50) 9 0

/-- T_s of the list in force of a port at a time (R291). -/
def Port.inForceSince (p : Port) (now : Nat) : Nat :=
  match p.pend with
  | some (ts, _) => if ts ≤ now then ts else p.lastSwitch
  | none => p.lastSwitch

/-- Views of TMG (R303). -/
def viewTmg (s : State) (ra : RegAt) : Option Nat :=
  let p := s.port s.gatePort
  let now := s.devNs
  let waits := match p.pend with
    | some (ts, _) => decide (now < ts)
    | none => false
  match ra.reg.off with
  | 0x48 => some s.data.sweepMsc
  | 0x54 =>
    match p.listAt now with
    | none => some (b2n waits * 2 ^ 30 + 0xFF * 2 ^ 16)
    | some g =>
      let e := gateEntry g.entries 0 (g.phase now)
      some (2 ^ 31 + b2n waits * 2 ^ 30 + e.2.1 % 2 ^ 8 * 2 ^ 16 + e.1 % 2 ^ 8)
  | 0x58 =>
    match p.listAt now with
    | none => some 0
    | some g => some (if g.cycle = 0 then 0 else (now - p.inForceSince now) / g.cycle)
  | 0x60 => some (match p.pend with
      | some (ts, _) => ts
      | none => p.lastSwitch)
  | _ => none

/-- QUOTA_USE k of a domain (R231, R261). -/
def State.quotaUse (s : State) (d k : Nat) : Nat :=
  match k with
  | 0 => s.unitsOf d
  | 1 => s.flowsOf d
  | 2 => s.keysOf d
  | 3 => s.entriesOf d
  | 4 => s.sasOf d
  | _ => ((fnRings d).filter (fun r => (s.ring r).st != .disabled)).length

/-- The program store window of a core (R227). -/
def viewStore (s : State) (ra : RegAt) : Option Nat :=
  match (s.core (ix0 ra.bix)).group with
  | none => some (if ra.reg.off = 0 && ix0 ra.rix = 0 then (({} : Prog).insn.get 0 0).toNat else 0)
  | some q =>
    let p := (s.group q).activeProg
    some (if ra.reg.off = 0 then (p.insn.get 0 (ix0 ra.rix)).toNat else (p.const.get 0 (ix0 ra.rix)).toNat)

/-- The live view of a register, if it has one. -/
def viewReg (s : State) (ra : RegAt) : Option Nat :=
  match ra.blk.blk with
  | .ringPf => viewRing s ra
  | .ringVf => viewRing s ra
  | .chn => viewTree s ra
  | .pl => viewTree s ra
  | .subH => viewSub s (2 * ix0 ra.bix) ra
  | .subX => viewSub s (2 * ix0 ra.bix + 1) ra
  | .gcr => viewGcr s ra
  | .tim => viewTime s ra
  | .bpm => viewBpm s ra
  | .cph => viewCph s ra
  | .fwd => viewFwd s ra
  | .tmg => viewTmg s ra
  | .store => viewStore s ra
  | .mst => viewHost s ra
  | .cmd => viewHost s ra
  | .vfPage => if ra.reg.off = 0x80 then some (s.quotaUse (ix0 ra.bix + 1) (ix0 ra.rix)) else viewHost s ra
  | .mgt => if ra.reg.off = 0x4000 then some (s.thermWord (ix0 ra.rix)) else viewMgmt s ra
  | .prt => viewMgmt s ra
  | .rcd => viewMgmt s ra
  | .wpt => viewMgmt s ra
  | .upd => viewMgmt s ra
  | .spr => viewMgmt s ra
  | .upl => viewMgmt s ra
  | .pwr => viewMgmt s ra
  | .glb => none
  | .evc => none
  | .lne => none

/-- Bits of a register that a read returns: every field but the write-only ones (R10, R12). -/
def readMask (fs : List Fld) : Nat :=
  match fs with
  | [] => 0
  | f :: r => (if f.acc = .wo then 0 else (2 ^ (f.hi - f.lo + 1) - 1) * 2 ^ f.lo) + readMask r

/-- The value a register reads, without the read's side effects (R10, R12). -/
def State.regValue (s : State) (ra : RegAt) : W64 :=
  (match viewReg s ra with
   | some v => BitVec.ofNat 64 v
   | none => s.reg ra.start) &&& BitVec.ofNat 64 (readMask ra.reg.flds)

end Sys2Proof.Machine
end

