-- ==== Sys2Proof/Machine/Regs.lean ====
section
/-! DEFINITION. Register accesses from the host (R9 to R14, R225 to R232, R522): width and alignment, the latches
of 64-bit registers, the access codes, and what the write of a particular register does. -/

namespace Sys2Proof.Machine

/-! Addresses. -/

/-- The model's address of an access: PF BAR0 and BAR2, and BAR0 of an enabled VF; none if no function claims
it (R224, R225). -/
def State.addrOf (s : State) (x : Access) : Option Nat :=
  if x.fn = 0 then
    if x.bar = 0 ∧ x.off < 0x400_0000 then some x.off
    else if x.bar = 2 ∧ x.off < 0x10_0000 then some (bar2Base + x.off)
    else none
  else if x.fn < 64 ∧ x.fn ≤ s.host.numVfs ∧ x.bar = 0 ∧ x.off < 0x1_0000 then some (vfBase + x.fn * 0x1_0000 + x.off)
  else none

/-- The access is to NumVFs in the SR-IOV capability of PF0, in configuration space (R224). -/
def isConfig (x : Access) : Bool := x.fn == 0 && x.bar == 15 && x.off == 0

/-! MSI-X tables (R229): entries of four 32-bit words, and pending bits as 64-bit words. -/

/-- Function, vector and word of an address in an MSI-X table. -/
def msixWord (a : Nat) : Option (Nat × Nat × Nat) :=
  if bar2Base + 0x8_0000 ≤ a ∧ a < bar2Base + 0x8_2000 then
    some (0, (a - bar2Base - 0x8_0000) / 16, a % 16 / 4)
  else if vfBase + 0x1_0000 ≤ a ∧ a < vfBase + 0x40_0000 ∧ 0xF800 ≤ a % 0x1_0000 ∧ a % 0x1_0000 < 0xF900 then
    some ((a - vfBase) / 0x1_0000, (a % 0x1_0000 - 0xF800) / 16, a % 16 / 4)
  else none

/-- Function and first vector of a 64-bit word of pending bits. -/
def msixPba (a : Nat) : Option (Nat × Nat) :=
  if bar2Base + 0x8_2000 ≤ a ∧ a < bar2Base + 0x8_2040 then some (0, (a - bar2Base - 0x8_2000) / 8 * 64)
  else if vfBase + 0x1_0000 ≤ a ∧ a < vfBase + 0x40_0000 ∧ 0xF900 ≤ a % 0x1_0000 ∧ a % 0x1_0000 < 0xF908 then
    some ((a - vfBase) / 0x1_0000, 0)
  else none

/-- A word of a table entry. -/
def Vec.word (x : Vec) (k : Nat) : Nat :=
  match k with
  | 0 => x.addrLo.toNat
  | 1 => x.addrHi.toNat
  | 2 => x.data.toNat
  | _ => b2n x.masked

/-- Pending bits of 64 vectors. -/
def State.pbaWord (s : State) (fn v : Nat) : Nat :=
  (List.range 64).foldl (fun n i => n + b2n (s.vec fn (v + i)).pba * 2 ^ i) 0

/-- Write a word of a table entry; clearing the mask sends a pending signal (R269). -/
def State.msixWrite (s : State) (fn v k : Nat) (w : W32) : State :=
  let x := s.vec fn v
  match k with
  | 0 => s.setVec fn v { x with addrLo := w }
  | 1 => s.setVec fn v { x with addrHi := w }
  | 2 => s.setVec fn v { x with data := w }
  | _ =>
    if w.toNat % 2 = 1 then s.setVec fn v { x with masked := true }
    else if x.masked then s.vectorUnmask fn v else s

/-! Width, alignment and availability. -/

/-- Width and alignment of an access are right (R225). -/
def widthOk (a width : Nat) : Bool :=
  if width = 4 then a % 4 == 0
  else if width = 8 then
    a % 8 == 0 &&
      match regAt a with
      | some ra => ra.reg.w64
      | none => (msixPba a).isSome || ((regAt (a + 4)).isNone && (msixWord a).isNone)
  else false

/-- The link is down or the core logic is held in reset: no access reaches the device (R433, R515, R519, R523). -/
def State.unreachable (s : State) : Bool :=
  s.mgmt.pwr.perst || !s.mgmt.pwr.testModeN || s.mgmt.sens.trip || s.mgmt.pwr.warning

/-- The stage of start-up lets the access through (R522, R524). -/
def State.available (s : State) (a : Nat) (wr : Bool) : Bool :=
  let st := s.stage
  if a < 0x1_0000 || (decide (0xF_0000 ≤ a) && decide (a < 0x10_0000)) then !wr || st != 7
  else if st = 7 then false
  else if bar2Base ≤ a || (msixWord a).isSome then true
  else if wr then st == 6 || (decide (3 ≤ st) && decide (0x1_0000 ≤ a ∧ a < 0x2_0000))
  else decide (3 ≤ st)

/-! Reads. -/

/-- What happens before a register is read: the checker counters are brought up to date (R499), and a read of
TIME_NSF latches the seconds (R374). -/
def State.preRead (s : State) (ra : RegAt) : State :=
  match ra.blk.blk with
  | .lne =>
    if ra.reg.off = 0x60 ∨ ra.reg.off = 0x68 ∨ ra.reg.off = 0x78 then s.chkCount (ix0 ra.bix) else s
  | _ => s

/-- Read-clear fields of a register's stored value cleared (R10). -/
def clearRc (fs : List Fld) (v : Nat) : Nat :=
  match fs with
  | [] => v
  | f :: r => clearRc r (if f.acc = .rc then withBits v f.hi f.lo 0 else v)

/-- What a read of a register does after its value is taken (R10, R332, R374, R495). -/
def State.postRead (s : State) (ra : RegAt) : State :=
  let s := if ra.reg.flds.any (fun f => f.acc == .rc) then
      s.setReg ra.start (BitVec.ofNat 64 (clearRc ra.reg.flds (s.reg ra.start).toNat))
    else s
  match ra.blk.blk, ra.reg.off with
  | .tim, 0x0 => s.latchSec
  | .bpm, 0xC => s.setPool (ix0 ra.rix) { s.pool (ix0 ra.rix) with minFree := (s.pool (ix0 ra.rix)).free }
  | .lne, 0x14 => s.modLane (ix0 ra.bix) (fun x => { x with minRead := true })
  | _, _ => s

/-- Read a register with its side effects. -/
def State.readReg (s : State) (ra : RegAt) : W64 × State :=
  let s := s.preRead ra
  (s.regValue ra, s.postRead ra)

/-- A read of right width at an address (R14): the data and the state after it. -/
def State.readAt (s : State) (a width : Nat) : W64 × State :=
  match regAt a with
  | none =>
    let s := s.unlatch a
    match msixWord a, msixPba a with
    | some (fn, v, k), _ => (BitVec.ofNat 64 ((s.vec fn v).word k), s)
    | none, some (fn, v) =>
      let w := s.pbaWord fn v
      (BitVec.ofNat 64 (if width = 8 then w else if a % 8 = 0 then w % 2 ^ 32 else w / 2 ^ 32), s)
    | none, none => (0, s)
  | some ra =>
    let held := s.latchAt a
    if ra.byte = 4 && held.any (fun h => h.addr == ra.start) then
      (BitVec.ofNat 64 (match held with
        | some h => h.val.toNat
        | none => 0), s.unlatch a)
    else
      match s.preRead ra with
      | s =>
        let v := s.regValue ra
        let s := (s.unlatch a).postRead ra
        if width = 8 || !ra.reg.w64 then (v, s)
        else if ra.byte = 4 then (v >>> 32, s)
        else
          (v &&& 0xFFFFFFFF#64,
            { s with latch := s.latch.set none (blockOf a) (some ⟨ra.start, BitVec.ofNat 32 (v.toNat / 2 ^ 32)⟩) })

/-! Writes. -/

/-- The LOCK bit of a block instance is set (R11); the sub-blocks of a tree have the tree's. -/
def State.locked (s : State) (ra : RegAt) : Bool :=
  match ra.blk.blk with
  | .subH => s.bit (chnA (ix0 ra.bix) 0x10) 0
  | .subX => s.bit (chnA (ix0 ra.bix) 0x10) 0
  | _ =>
    match ra.blk.lock with
    | some o => s.bit (blockOf ra.start + o) 0
    | none => false

/-- A stored value with the fields of a write taken under their access codes (R10 to R12). -/
def writeFlds (fs : List Fld) (locked : Bool) (old w : Nat) : Nat :=
  match fs with
  | [] => old
  | f :: r =>
    let new := bitsOf w f.hi f.lo
    let cur := bitsOf old f.hi f.lo
    let x :=
      match f.acc with
      | .rw => new
      | .rwl => if locked then cur else new
      | .w1c => cur - (cur &&& new)
      | .w1s => cur ||| new
      | .ro => cur
      | .rc => cur
      | .wo => cur
    writeFlds r locked (withBits old f.hi f.lo x) w

/-- A number limited to a range. -/
def clampTo (lo hi x : Nat) : Nat := max lo (min hi x)

/-- A field whose value 0 is taken as 1. -/
def one0 (v hi lo : Nat) : Nat := if bitsOf v hi lo = 0 then withBits v hi lo 1 else v

/-- A field limited to a range. -/
def limitFld (v hi lo a b : Nat) : Nat := withBits v hi lo (clampTo a b (bitsOf v hi lo))

/-- Bursts of the emulator that fit 125 µs: preamble, delimiter, payload and guard time of each, in bits of the
lane's upstream rate (R83, R499, R510). -/
def State.emuFit (s : State) (l v : Nat) : Nat :=
  let x := s.sub l
  let p := x.profile (v % 4)
  let bits := p.pre + p.del + 128 * bitsOf v 31 16 + x.guardBits
  max 1 (frameUnits x * guBits l / bits)

/-- What the device makes of the value that a write has left in a register (R52, R84, R95, R270, R303, R327,
R348, R369, R392, R424, R510). -/
def State.taken (s : State) (ra : RegAt) (v : Nat) : Nat :=
  match ra.blk.blk, ra.reg.off with
  | .mst, 0x20 => one0 v 27 24
  | .chn, 0x8 =>
    let c := ix0 ra.bix
    let old := (s.reg ra.start).toNat
    let v := limitFld (limitFld v 15 8 2 64) 7 0 2 64
    let v := if (s.sub (2 * c)).road = .disabled then v
      else withBits (withBits (withBits v 18 18 (bitsOf old 18 18)) 16 16 (bitsOf old 16 16)) 7 0 (bitsOf old 7 0)
    if (s.sub (2 * c + 1)).road = .disabled then v
    else withBits (withBits (withBits v 19 19 (bitsOf old 19 19)) 17 17 (bitsOf old 17 17)) 15 8 (bitsOf old 15 8)
  | .subH, 0x8 => one0 (one0 v 24 16) 15 0
  | .subX, 0x8 => one0 (one0 v 24 16) 15 0
  | .tmg, 0x4 => clampTo 1 268435456 v
  | .tmg, 0x8 => clampTo 1 268435456 v
  | .fwd, 0x0 => one0 (one0 (one0 v 23 16) 15 12) 11 0
  | .bpm, 0x140 =>
    let v := limitFld v 6 0 2 64
    if bitsOf v 6 0 ≤ bitsOf v 13 8 then withBits v 13 8 (bitsOf v 6 0 - 1) else v
  | .cph, 0x200 => limitFld v 15 0 10 65535
  | .tim, 0x24 => limitFld v 23 0 100 10000000
  | .tim, 0x28 => one0 (one0 (one0 v 31 16) 15 8) 7 0
  | .spr, 0x8 => one0 (one0 v 31 24) 23 0
  | .lne, 0x8 => if laneKind (ix0 ra.bix) = 2 then v else withBits v 6 6 0
  | .lne, 0xC => one0 v 7 0
  | .lne, 0x70 =>
    let v := one0 (one0 v 31 16) 15 8
    withBits v 15 8 (min (bitsOf v 15 8) (s.emuFit (ix0 ra.bix) v))
  | .evc, 0x8 => limitFld v 4 0 8 16
  | _, _ => v

/-- Store a write under the access codes, as the device takes it. -/
def State.storeReg (s : State) (ra : RegAt) (w : W64) : State :=
  let v := writeFlds ra.reg.flds (s.locked ra) (s.reg ra.start).toNat w.toNat
  if v = (s.reg ra.start).toNat then s else s.setReg ra.start (BitVec.ofNat 64 (s.taken ra v))

/-- A write of MST.LEDGER_SEL (R62, R67): a snapshot starts, or restarts for the new selection. -/
def State.ledgerSel (s : State) (sc : Nat) : State :=
  if s.stage = 6 ∧ sc < 384 then s.setReg (mstA 0x50) (BitVec.ofNat 64 (2 ^ 31 + sc)) else s

/-- The nine totals in the order of LEDGER_CNT (R67). -/
def Ledger.totals (x : Ledger) : List Nat :=
  [x.granted, x.arrived, x.empty, x.early, x.late, x.corrupt, x.collided, x.discarded, x.onRoad]

/-- The ledger snapshot completes (R62). -/
def State.ledgerSnapshot (s : State) : State :=
  if s.bit (mstA 0x50) 31 then
    let x := (s.sub (s.fld (mstA 0x50) 8 0)).led
    let s := (List.range 9).foldl (fun (s : State) k =>
      s.setReg (mstA (0x60 + 8 * k)) (BitVec.ofNat 64 (x.totals.getD k 0))) s
    (s.setReg (mstA 0x58) (BitVec.ofNat 64 s.clk.msc)).setBit (mstA 0x50) 31 false
  else s

/-- Store the preload read port of a tree. -/
def State.setPlPort (s : State) (c : Nat) (x : PlPort) : State :=
  { s with pon := { s.pon with plPorts := s.pon.plPorts.set {} c x } }

/-- A write of PL_SEL of tree c (R95): a read starts, or restarts for the new selection. -/
def State.plSel (s : State) (c w : Nat) : State :=
  if s.stage = 6 ∧ c < 192 then
    s.setPlPort c { s.pon.plPorts.get {} c with busy := true, sel := w % 2 ^ 10 }
  else s

/-- PL_WORD0 and PL_WORD1 of a terminal's record (R95). -/
def Term.plWord0 (t : Term) : Nat := t.pre.dfe1.toNat * 2 ^ 56 + t.pre.ffe.toNat
def Term.plWord1 (t : Term) : Nat :=
  let p := t.pre
  p.stamp.toNat * 2 ^ 40 + b2n p.pend * 2 ^ 39 + p.reason % 8 * 2 ^ 36 + p.fails % 4 * 2 ^ 34 + t.prof % 4 * 2 ^ 32
    + b2n p.fault * 2 ^ 31 + b2n p.valid * 2 ^ 30 + p.drift.toNat * 2 ^ 20 + p.cdr.toNat * 2 ^ 8 + p.gain.toNat

/-- The preload read completes (R95). -/
def State.plReadDone (s : State) (c : Nat) : State :=
  let p := s.pon.plPorts.get {} c
  if p.busy then
    let t := s.term (2 * c + p.sel / 512) (p.sel % 512)
    s.setPlPort c { p with busy := false, word0 := BitVec.ofNat 64 t.plWord0, word1 := BitVec.ofNat 64 t.plWord1 }
  else s

/-- A write of PWR.RST_CTL (R527, R533): WARM_REQ with its key, from the PF, asks for a warm reset 1 ms later;
during a firmware activation pause it is refused. -/
def State.rstCtl (s : State) (fn w : Nat) : State :=
  if fn != 0 || w % 2 == 0 || w / 256 % 256 != 0xA5 || s.bit (pwrA 0x18) 0 then s
  else if s.paused then s.setBit (pwrA 0x14) 16 true
  else (s.setBit (pwrA 0x14) 16 false).modPwr (fun p => { p with resetDue := 4 })

/-- Bytes of the request window (R426, R454). -/
def State.mbxWindow (s : State) (n : Nat) : List Nat :=
  ((List.range 256).flatMap (fun i => leBytes 4 (s.reg (mgtA (0x1000 + 4 * i))).toNat)).take n

/-- A write of MGT.MBX_CTL (R454): GO submits the request. -/
def State.mbxCtl (s : State) (ra : RegAt) (w : W64) : State :=
  let was := s.bit ra.start 31
  let s := s.storeReg ra w
  if w.toNat / 2 ^ 31 % 2 = 1 && !was then
    (s.setMbx 0 { s.mbx 0 with req := s.mbxWindow (s.fld ra.start 27 16) }).mbxSubmit 0
  else s

/-- A write of RING_CFG (R232, R236): LOG2_SIZE only while DISABLED or RESTORED. -/
def State.writeRingCfg (s : State) (r w : Nat) : State :=
  let x := s.ring r
  let idle := x.st == .disabled || x.st == .restored
  let v := w / 2 ^ 16 % 512
  let s := s.setRing r { x with
    vector := if r < 64 then v else v % 16
    irqEn := w / 256 % 2 == 1
    log2 := if idle then clampTo 4 16 (w % 32) else x.log2 }
  if w / 2 ^ 31 % 2 = 1 then s.ringEnable r else s.ringDisable r

/-- A write to a ring page (R232). -/
def State.writeRing (s : State) (r off : Nat) (w : W64) : State :=
  let x := s.ring r
  let idle := x.st == .disabled || x.st == .restored
  match off with
  | 0x0 => if idle then s.setRing r { x with descBase := w &&& ~~~0xFFF#64 } else s
  | 0x8 => if idle then s.setRing r { x with cplBase := w &&& ~~~0xFFF#64 } else s
  | 0x10 => s.writeRingCfg r w.toNat
  | 0x18 => s.writeTail r (BitVec.ofNat 32 w.toNat)
  | 0x24 => s.writeCplHead r (BitVec.ofNat 32 w.toNat)
  | 0x2C => if x.st = .disabled then s.setRing r { x with startSeq := BitVec.ofNat 32 w.toNat } else s
  | _ => s

/-- A write of EVQ_CFG (R270): LOG2_SIZE only while ENABLE is 0. -/
def State.writeEvqCfg (s : State) (ra : RegAt) (w : W64) : State :=
  if s.bit ra.start 31 then (if w.toNat / 2 ^ 31 % 2 = 1 then s else s.setBit ra.start 31 false)
  else
    let s := s.storeReg ra (w &&& 0x1F#64)
    if w.toNat / 2 ^ 31 % 2 = 1 then s.evqEnable else s

/-- A write of a whole register by function fn: what the register does with it. -/
def State.writeReg (s : State) (fn : Nat) (ra : RegAt) (w : W64) : State :=
  let n := w.toNat
  match ra.blk.blk, ra.reg.off with
  | .mst, 0x50 => s.ledgerSel (n % 512)
  | .evc, 0x0 => if s.bit (evcA 0x8) 31 then s else s.storeReg ra w
  | .evc, 0x8 => s.writeEvqCfg ra w
  | .tim, 0x18 => s.offsetIn w.toInt
  | .tim, 0x70 => (s.storeReg ra w).rclkCheck (ix0 ra.rix)
  | .mgt, 0x4 =>
    let s := s.storeReg ra w
    if s.bit (mgtA 0x4) 1 then s.endTest 515 else s
  | .mgt, 0x10 => s.mbxCtl ra w
  | .mgt, 0x1000 => if s.bit (mgtA 0x10) 31 then s else s.storeReg ra w
  | .spr, 0x200 => s.healthSel n
  | .pwr, 0x14 => s.rstCtl fn n
  | .lne, 0x50 => s.testCtl (ix0 ra.bix) n
  | .lne, 0x54 => s.inject (ix0 ra.bix) n
  | .lne, 0x70 => if ix0 ra.bix < 384 then s.storeReg ra w else s
  | .pl, 0x0 => s.plSel (ix0 ra.bix) n
  | .ringPf, o => s.writeRing (pageRing ra) o w
  | .ringVf, o => s.writeRing (pageRing ra) o w
  | _, _ => s.storeReg ra w

/-- A write of right width at an address (R12, R14). -/
def State.writeAt (s : State) (fn a width : Nat) (d : W64) : State :=
  match regAt a with
  | none =>
    match msixWord a with
    | some (f, v, k) => (s.unlatch a).msixWrite f v k (BitVec.ofNat 32 d.toNat)
    | none => s.unlatch a
  | some ra =>
    let held := s.pendAt a
    let t := s.unlatch a
    if !ra.reg.w64 then t.writeReg fn ra (d &&& 0xFFFFFFFF#64)
    else if width = 8 then t.writeReg fn ra d
    else if ra.byte = 0 then
      { t with pendLow := t.pendLow.set none (blockOf a) (some ⟨ra.start, BitVec.ofNat 32 d.toNat⟩) }
    else
      let low := match held with
        | some h => if h.addr = ra.start then h.val.toNat else (s.regValue ra).toNat % 2 ^ 32
        | none => (s.regValue ra).toNat % 2 ^ 32
      t.writeReg fn ra (BitVec.ofNat 64 (d.toNat % 2 ^ 32 * 2 ^ 32 + low))

/-- An access of a wrong width or alignment is counted (R225). -/
def State.badAccess (s : State) (a : Nat) : State := (s.unlatch a).add32 0x8 1

/-- A write of NumVFs (R224): a VF that ceases to be enabled loses its registers, rings and vectors. -/
def State.setNumVfs (s : State) (n : Nat) : State :=
  let m := min n totalVfs
  let s := (List.range 63).foldl (fun s v => if m < v + 1 && v + 1 ≤ s.host.numVfs then s.flr (v + 1) else s) s
  { s with host := { s.host with numVfs := m } }

/-- A register write (R10 to R14, R225, R522). -/
def State.registerWrite (s : State) (x : Access) (d : W64) : Host.Outcome State Fault Refusal :=
  if isConfig x then kept s (if s.unreachable then s else s.setNumVfs (d.toNat % 2 ^ 16))
  else
    match s.addrOf x with
    | none => .fault .noSuchFunction
    | some a =>
      if s.unreachable then .next s
      else if !widthOk a x.width then kept s (s.badAccess a)
      else kept s (if s.available a true then s.writeAt x.fn a x.width d else s.unlatch a)

/-- A register read: the data goes to the host (R10, R14, R225, R522). -/
def State.registerRead (s : State) (x : Access) : Host.Outcome State Fault Refusal :=
  match s.addrOf x with
  | none => .fault .noSuchFunction
  | some a =>
    if s.unreachable then .next s
    else if !widthOk a x.width then kept s ((s.badAccess a).emit (.readData x.fn a 0))
    else if s.available a false then
      match s.readAt a x.width with
      | (v, t) => kept s (t.emit (.readData x.fn a v))
    else kept s ((s.unlatch a).emit (.readData x.fn a 0))

/-- Set the LOCK bit at an address, if a CTL_LOCK register stands there (R11). -/
def State.ctlLock (s : State) (a : Nat) : State :=
  match regAt a with
  | some ra =>
    if s.unreachable then s
    else if ra.blk.lock == some (a - blockOf a) && s.available a true then (s.unlatch a).writeReg 0 ra 1
    else s.unlatch a
  | none => s

/-! Meanings. -/

/-- LEDGER_SEL (R62). -/
def execLedgerSel (sc : Nat) (s : State) : Answer := kept s ((s.unlatch (mstA 0x50)).ledgerSel sc)
/-- LEDGER_SNAPSHOT_DONE (R62). -/
def execLedgerSnapshotDone (s : State) : Answer := kept s s.ledgerSnapshot
/-- PL_SEL (R95). -/
def execPlSel (c : Nat) (w : W32) (s : State) : Answer := kept s ((s.unlatch (chnA c 0x3000)).plSel c w.toNat)
/-- PL_READ_DONE (R95). -/
def execPlReadDone (c : Nat) (s : State) : Answer := kept s (s.plReadDone c)
/-- CTL_LOCK (R11). -/
def execCtlLock (a : Nat) (s : State) : Answer := kept s (s.ctlLock a)
/-- WARM_REQ (R533). -/
def execWarmReq (fn : Nat) (w : W32) (s : State) : Answer :=
  kept s (if s.unreachable then s
    else if s.stage = 7 then s.unlatch (pwrA 0x14)
    else (s.unlatch (pwrA 0x14)).rstCtl fn w.toNat)
/-- REGISTER_WRITE (R10). -/
def execRegisterWrite (x : Access) (d : W64) (s : State) : Answer := s.registerWrite x d
/-- WRONG_WIDTH_ACCESS (R225); an access whose width and alignment are right is not one. -/
def execWrongWidthAccess (x : Access) (wr : Bool) (s : State) : Answer :=
  match s.addrOf x with
  | none => .fault .noSuchFunction
  | some a =>
    if s.unreachable || widthOk a x.width then .next s
    else if wr then kept s (s.badAccess a)
    else kept s ((s.badAccess a).emit (.readData x.fn a 0))
/-- REGISTER_READ (R14). -/
def execRegisterRead (x : Access) (s : State) : Answer := s.registerRead x

end Sys2Proof.Machine
end

