-- ==== Sys2Proof/Machine/Dispatch.lean ====
section
/-! DEFINITION. The dispatch: one arm per command, each one direct call of its meaning. -/

namespace Sys2Proof.Machine

/-- The effect of a command on everything but the queue. -/
def exec (i : Instr) (s : State) : Host.Outcome State Fault Refusal :=
  match i with
  | .milestone => Sys2Proof.Machine.execMilestone s
  | .snapshot => Sys2Proof.Machine.execSnapshot s
  | .planDeadline => Sys2Proof.Machine.execPlanDeadline s
  | .commitPoint => Sys2Proof.Machine.execCommitPoint s
  | .roadbookDelivery sc => Sys2Proof.Machine.execRoadbookDelivery sc s
  | .deliveryDeadline => Sys2Proof.Machine.execDeliveryDeadline s
  | .ledgerRecordDurable => Sys2Proof.Machine.execLedgerRecordDurable s
  | .burstReception sc m n rx => Sys2Proof.Machine.execBurstReception sc m n rx s
  | .burstOutcome sc m n rx => Sys2Proof.Machine.execBurstOutcome sc m n rx s
  | .drainDone k n => Sys2Proof.Machine.execDrainDone k n s
  | .maintWindow q => Sys2Proof.Machine.execMaintWindow q s
  | .reportSweep => Sys2Proof.Machine.execReportSweep s
  | .iadd st f => Sys2Proof.Machine.execIadd st f s
  | .isub st f => Sys2Proof.Machine.execIsub st f s
  | .iand st f => Sys2Proof.Machine.execIand st f s
  | .ior st f => Sys2Proof.Machine.execIor st f s
  | .ixor st f => Sys2Proof.Machine.execIxor st f s
  | .andn st f => Sys2Proof.Machine.execAndn st f s
  | .shl st f => Sys2Proof.Machine.execShl st f s
  | .shr st f => Sys2Proof.Machine.execShr st f s
  | .sra st f => Sys2Proof.Machine.execSra st f s
  | .mul st f => Sys2Proof.Machine.execMul st f s
  | .mulhu st f => Sys2Proof.Machine.execMulhu st f s
  | .minu st f => Sys2Proof.Machine.execMinu st f s
  | .maxu st f => Sys2Proof.Machine.execMaxu st f s
  | .mins st f => Sys2Proof.Machine.execMins st f s
  | .maxs st f => Sys2Proof.Machine.execMaxs st f s
  | .cmpEq st f => Sys2Proof.Machine.execCmpEq st f s
  | .cmpNe st f => Sys2Proof.Machine.execCmpNe st f s
  | .cmpLtu st f => Sys2Proof.Machine.execCmpLtu st f s
  | .cmpLeu st f => Sys2Proof.Machine.execCmpLeu st f s
  | .cmpLts st f => Sys2Proof.Machine.execCmpLts st f s
  | .cmpLes st f => Sys2Proof.Machine.execCmpLes st f s
  | .spc st f => Sys2Proof.Machine.execSpc st f s
  | .addi st f => Sys2Proof.Machine.execAddi st f s
  | .andi st f => Sys2Proof.Machine.execAndi st f s
  | .ori st f => Sys2Proof.Machine.execOri st f s
  | .xori st f => Sys2Proof.Machine.execXori st f s
  | .shli st f => Sys2Proof.Machine.execShli st f s
  | .shri st f => Sys2Proof.Machine.execShri st f s
  | .ldh0 st f => Sys2Proof.Machine.execLdh0 st f s
  | .ldh1 st f => Sys2Proof.Machine.execLdh1 st f s
  | .ldh2 st f => Sys2Proof.Machine.execLdh2 st f s
  | .ldh3 st f => Sys2Proof.Machine.execLdh3 st f s
  | .kld st f => Sys2Proof.Machine.execKld st f s
  | .vadd st f => Sys2Proof.Machine.execVadd st f s
  | .vsub st f => Sys2Proof.Machine.execVsub st f s
  | .vand st f => Sys2Proof.Machine.execVand st f s
  | .vor st f => Sys2Proof.Machine.execVor st f s
  | .vxor st f => Sys2Proof.Machine.execVxor st f s
  | .vandn st f => Sys2Proof.Machine.execVandn st f s
  | .vshl st f => Sys2Proof.Machine.execVshl st f s
  | .vshr st f => Sys2Proof.Machine.execVshr st f s
  | .vsra st f => Sys2Proof.Machine.execVsra st f s
  | .vmul st f => Sys2Proof.Machine.execVmul st f s
  | .vmulhu st f => Sys2Proof.Machine.execVmulhu st f s
  | .vmov st f => Sys2Proof.Machine.execVmov st f s
  | .vcmpEq st f => Sys2Proof.Machine.execVcmpEq st f s
  | .vcmpNe st f => Sys2Proof.Machine.execVcmpNe st f s
  | .vcmpLtu st f => Sys2Proof.Machine.execVcmpLtu st f s
  | .vcmpLeu st f => Sys2Proof.Machine.execVcmpLeu st f s
  | .vcmpLts st f => Sys2Proof.Machine.execVcmpLts st f s
  | .vcmpLes st f => Sys2Proof.Machine.execVcmpLes st f s
  | .vsatuAdd st f => Sys2Proof.Machine.execVsatuAdd st f s
  | .vsatuSub st f => Sys2Proof.Machine.execVsatuSub st f s
  | .vsatsAdd st f => Sys2Proof.Machine.execVsatsAdd st f s
  | .vsatsSub st f => Sys2Proof.Machine.execVsatsSub st f s
  | .vminu st f => Sys2Proof.Machine.execVminu st f s
  | .vmins st f => Sys2Proof.Machine.execVmins st f s
  | .vmaxu st f => Sys2Proof.Machine.execVmaxu st f s
  | .vmaxs st f => Sys2Proof.Machine.execVmaxs st f s
  | .vsel st f => Sys2Proof.Machine.execVsel st f s
  | .vbcast st f => Sys2Proof.Machine.execVbcast st f s
  | .vext st f => Sys2Proof.Machine.execVext st f s
  | .vins st f => Sys2Proof.Machine.execVins st f s
  | .viota st f => Sys2Proof.Machine.execViota st f s
  | .vsum st f => Sys2Proof.Machine.execVsum st f s
  | .vrminu st f => Sys2Proof.Machine.execVrminu st f s
  | .vrmaxu st f => Sys2Proof.Machine.execVrmaxu st f s
  | .vror st f => Sys2Proof.Machine.execVror st f s
  | .ppopc st f => Sys2Proof.Machine.execPpopc st f s
  | .pfirst st f => Sys2Proof.Machine.execPfirst st f s
  | .vaddi st f => Sys2Proof.Machine.execVaddi st f s
  | .vli st f => Sys2Proof.Machine.execVli st f s
  | .vshli st f => Sys2Proof.Machine.execVshli st f s
  | .vshri st f => Sys2Proof.Machine.execVshri st f s
  | .vandi st f => Sys2Proof.Machine.execVandi st f s
  | .pand st f => Sys2Proof.Machine.execPand st f s
  | .por st f => Sys2Proof.Machine.execPor st f s
  | .pxor st f => Sys2Proof.Machine.execPxor st f s
  | .pandn st f => Sys2Proof.Machine.execPandn st f s
  | .pnot st f => Sys2Proof.Machine.execPnot st f s
  | .ptos st f => Sys2Proof.Machine.execPtos st f s
  | .pfroms st f => Sys2Proof.Machine.execPfroms st f s
  | .bkt st f => Sys2Proof.Machine.execBkt st f s
  | .sld st f => Sys2Proof.Machine.execSld st f s
  | .sst st f => Sys2Proof.Machine.execSst st f s
  | .cld st f => Sys2Proof.Machine.execCld st f s
  | .cst st f => Sys2Proof.Machine.execCst st f s
  | .rpt st f => Sys2Proof.Machine.execRpt st f s
  | .hnt st f => Sys2Proof.Machine.execHnt st f s
  | .tbl st f => Sys2Proof.Machine.execTbl st f s
  | .memoryOpComplete g k t => Sys2Proof.Machine.execMemoryOpComplete g k t s
  | .wait st f => Sys2Proof.Machine.execWait st f s
  | .fenceI st f => Sys2Proof.Machine.execFenceI st f s
  | .gemit st f => Sys2Proof.Machine.execGemit st f s
  | .br st f => Sys2Proof.Machine.execBr st f s
  | .brAny st f => Sys2Proof.Machine.execBrAny st f s
  | .brNone st f => Sys2Proof.Machine.execBrNone st f s
  | .brAll st f => Sys2Proof.Machine.execBrAll st f s
  | .brNall st f => Sys2Proof.Machine.execBrNall st f s
  | .loopI st f => Sys2Proof.Machine.execLoopI st f s
  | .endl st f => Sys2Proof.Machine.execEndl st f s
  | .halt st f => Sys2Proof.Machine.execHalt st f s
  | .coreUpset st => Sys2Proof.Machine.execCoreUpset st s
  | .coreLost g => Sys2Proof.Machine.execCoreLost g s
  | .coreSpareLoaded g => Sys2Proof.Machine.execCoreSpareLoaded g s
  | .unitFault cls u => Sys2Proof.Machine.execUnitFault cls u s
  | .faultWindowExpiry cls u => Sys2Proof.Machine.execFaultWindowExpiry cls u s
  | .channelUnitLost kind die u => Sys2Proof.Machine.execChannelUnitLost kind die u s
  | .snResponse sc r => Sys2Proof.Machine.execSnResponse sc r s
  | .registrationResponse sc t r => Sys2Proof.Machine.execRegistrationResponse sc t r s
  | .rangingProcess sc t => Sys2Proof.Machine.execRangingProcess sc t s
  | .rangingWindowClose sc t => Sys2Proof.Machine.execRangingWindowClose sc t s
  | .rangingTimePeriodEnd sc t => Sys2Proof.Machine.execRangingTimePeriodEnd sc t s
  | .terminalLost sc t => Sys2Proof.Machine.execTerminalLost sc t s
  | .upstreamPloam sc t msg => Sys2Proof.Machine.execUpstreamPloam sc t msg s
  | .upstreamOmci sc t msg mic => Sys2Proof.Machine.execUpstreamOmci sc t msg mic s
  | .recoveryPeriodEnd sc => Sys2Proof.Machine.execRecoveryPeriodEnd sc s
  | .rogueLight sc w delim => Sys2Proof.Machine.execRogueLight sc w delim s
  | .rogueObserveEnd sc => Sys2Proof.Machine.execRogueObserveEnd sc s
  | .keyReport sc t key => Sys2Proof.Machine.execKeyReport sc t key s
  | .rekeyTimer sc t => Sys2Proof.Machine.execRekeyTimer sc t s
  | .keyRequestTimeout sc t => Sys2Proof.Machine.execKeyRequestTimeout sc t s
  | .cipherChunk q => Sys2Proof.Machine.execCipherChunk q s
  | .katTest cls u pass => Sys2Proof.Machine.execKatTest cls u pass s
  | .uplinkFrameIngress f => Sys2Proof.Machine.execUplinkFrameIngress f s
  | .hintFrame u vid bytes => Sys2Proof.Machine.execHintFrame u vid bytes s
  | .ptpFrameTrap u f => Sys2Proof.Machine.execPtpFrameTrap u f s
  | .upstreamFrame f => Sys2Proof.Machine.execUpstreamFrame f s
  | .learn p => Sys2Proof.Machine.execLearn p s
  | .learnNotice p => Sys2Proof.Machine.execLearnNotice p s
  | .stashReturn p => Sys2Proof.Machine.execStashReturn p s
  | .ageingSweep p b => Sys2Proof.Machine.execAgeingSweep p b s
  | .freezeExpiry p mac vid dom => Sys2Proof.Machine.execFreezeExpiry p mac vid dom s
  | .walkTimeout p => Sys2Proof.Machine.execWalkTimeout p s
  | .flushDone p acc => Sys2Proof.Machine.execFlushDone p acc s
  | .rehashDone p => Sys2Proof.Machine.execRehashDone p s
  | .frameDequeue pt => Sys2Proof.Machine.execFrameDequeue pt s
  | .gateEntryExpiry pt => Sys2Proof.Machine.execGateEntryExpiry pt s
  | .gateListActive pt => Sys2Proof.Machine.execGateListActive pt s
  | .queueSample => Sys2Proof.Machine.execQueueSample s
  | .cacheRefill pool client => Sys2Proof.Machine.execCacheRefill pool client s
  | .dataWriteTimeout pool buf => Sys2Proof.Machine.execDataWriteTimeout pool buf s
  | .hbmUncorrectable stack pc r => Sys2Proof.Machine.execHbmUncorrectable stack pc r s
  | .hbmPcDetour stack pc => Sys2Proof.Machine.execHbmPcDetour stack pc s
  | .tableCopyDone => Sys2Proof.Machine.execTableCopyDone s
  | .tail r v => Sys2Proof.Machine.execTail r v s
  | .descriptorAcceptance r ds err => Sys2Proof.Machine.execDescriptorAcceptance r ds err s
  | .acceptUnpaired => Sys2Proof.Machine.execAcceptUnpaired s
  | .completionPost r refused => Sys2Proof.Machine.execCompletionPost r refused s
  | .ringEnable r => Sys2Proof.Machine.execRingEnable r s
  | .ringDisable r => Sys2Proof.Machine.execRingDisable r s
  | .ringStopDone r => Sys2Proof.Machine.execRingStopDone r s
  | .cplHead r v => Sys2Proof.Machine.execCplHead r v s
  | .evqEnable => Sys2Proof.Machine.execEvqEnable s
  | .vectorSignal fn v => Sys2Proof.Machine.execVectorSignal fn v s
  | .ledgerSel sc => Sys2Proof.Machine.execLedgerSel sc s
  | .ledgerSnapshotDone => Sys2Proof.Machine.execLedgerSnapshotDone s
  | .plSel c w => Sys2Proof.Machine.execPlSel c w s
  | .plReadDone c => Sys2Proof.Machine.execPlReadDone c s
  | .healthSel w => Sys2Proof.Machine.execHealthSel w s
  | .healthReadDone => Sys2Proof.Machine.execHealthReadDone s
  | .timeNsfRead => Sys2Proof.Machine.execTimeNsfRead s
  | .offsetIn w => Sys2Proof.Machine.execOffsetIn w s
  | .holdoverTimeout => Sys2Proof.Machine.execHoldoverTimeout s
  | .startWaitExpiry => Sys2Proof.Machine.execStartWaitExpiry s
  | .ppsOut => Sys2Proof.Machine.execPpsOut s
  | .ppsIn => Sys2Proof.Machine.execPpsIn s
  | .rclkResume k => Sys2Proof.Machine.execRclkResume k s
  | .ctlLock a => Sys2Proof.Machine.execCtlLock a s
  | .warmReq fn w => Sys2Proof.Machine.execWarmReq fn w s
  | .testCtl l w => Sys2Proof.Machine.execTestCtl l w s
  | .injectW l w => Sys2Proof.Machine.execInjectW l w s
  | .registerWrite x d => Sys2Proof.Machine.execRegisterWrite x d s
  | .wrongWidthAccess x wr => Sys2Proof.Machine.execWrongWidthAccess x wr s
  | .enable c => Sys2Proof.Machine.execEnable c s
  | .disable c => Sys2Proof.Machine.execDisable c s
  | .setRoadLength c => Sys2Proof.Machine.execSetRoadLength c s
  | .setSubchParams c => Sys2Proof.Machine.execSetSubchParams c s
  | .setDiscovery c => Sys2Proof.Machine.execSetDiscovery c s
  | .resetTree c => Sys2Proof.Machine.execResetTree c s
  | .addTerminal c => Sys2Proof.Machine.execAddTerminal c s
  | .removeTerminal c => Sys2Proof.Machine.execRemoveTerminal c s
  | .deactivateTerminal c => Sys2Proof.Machine.execDeactivateTerminal c s
  | .disableSerial c => Sys2Proof.Machine.execDisableSerial c s
  | .enableSerial c => Sys2Proof.Machine.execEnableSerial c s
  | .setBurstProfile c => Sys2Proof.Machine.execSetBurstProfile c s
  | .setRanging c => Sys2Proof.Machine.execSetRanging c s
  | .rangeTerminal c => Sys2Proof.Machine.execRangeTerminal c s
  | .isolateRogue c => Sys2Proof.Machine.execIsolateRogue c s
  | .readUnknown c => Sys2Proof.Machine.execReadUnknown c s
  | .readTerminal c => Sys2Proof.Machine.execReadTerminal c s
  | .readSubchAct c => Sys2Proof.Machine.execReadSubchAct c s
  | .sendPloam c => Sys2Proof.Machine.execSendPloam c s
  | .sendOmci c => Sys2Proof.Machine.execSendOmci c s
  | .bindTerminalRx c => Sys2Proof.Machine.execBindTerminalRx c s
  | .installUnit c => Sys2Proof.Machine.execInstallUnit c s
  | .retireUnit c => Sys2Proof.Machine.execRetireUnit c s
  | .modifyUnit c => Sys2Proof.Machine.execModifyUnit c s
  | .postHint c => Sys2Proof.Machine.execPostHint c s
  | .setHintVlan c => Sys2Proof.Machine.execSetHintVlan c s
  | .readUnitLedger c => Sys2Proof.Machine.execReadUnitLedger c s
  | .createFlow c => Sys2Proof.Machine.execCreateFlow c s
  | .destroyFlow c => Sys2Proof.Machine.execDestroyFlow c s
  | .modifyFlow c => Sys2Proof.Machine.execModifyFlow c s
  | .readFlow c => Sys2Proof.Machine.execReadFlow c s
  | .joinFlood c => Sys2Proof.Machine.execJoinFlood c s
  | .leaveFlood c => Sys2Proof.Machine.execLeaveFlood c s
  | .setFlowSched c => Sys2Proof.Machine.execSetFlowSched c s
  | .setNodeSched c => Sys2Proof.Machine.execSetNodeSched c s
  | .setPolicer c => Sys2Proof.Machine.execSetPolicer c s
  | .setPortSched c => Sys2Proof.Machine.execSetPortSched c s
  | .setGateList c => Sys2Proof.Machine.execSetGateList c s
  | .readQueue c => Sys2Proof.Machine.execReadQueue c s
  | .setSteer c => Sys2Proof.Machine.execSetSteer c s
  | .addEntry c => Sys2Proof.Machine.execAddEntry c s
  | .deleteEntry c => Sys2Proof.Machine.execDeleteEntry c s
  | .searchEntry c => Sys2Proof.Machine.execSearchEntry c s
  | .nextEntry c => Sys2Proof.Machine.execNextEntry c s
  | .walkEnd c => Sys2Proof.Machine.execWalkEnd c s
  | .flushByPort c => Sys2Proof.Machine.execFlushByPort c s
  | .rehash c => Sys2Proof.Machine.execRehash c s
  | .configPort c => Sys2Proof.Machine.execConfigPort c s
  | .portUp c => Sys2Proof.Machine.execPortUp c s
  | .portDown c => Sys2Proof.Machine.execPortDown c s
  | .portDrainEnd u => Sys2Proof.Machine.execPortDrainEnd u s
  | .setCipher c => Sys2Proof.Machine.execSetCipher c s
  | .setKeyPolicy c => Sys2Proof.Machine.execSetKeyPolicy c s
  | .installPonKey c => Sys2Proof.Machine.execInstallPonKey c s
  | .switchPonKey c => Sys2Proof.Machine.execSwitchPonKey c s
  | .configSecy c => Sys2Proof.Machine.execConfigSecy c s
  | .installSa c => Sys2Proof.Machine.execInstallSa c s
  | .enableSa c => Sys2Proof.Machine.execEnableSa c s
  | .removeSa c => Sys2Proof.Machine.execRemoveSa c s
  | .readSa c => Sys2Proof.Machine.execReadSa c s
  | .rekeyTerminal c => Sys2Proof.Machine.execRekeyTerminal c s
  | .loadProgram c => Sys2Proof.Machine.execLoadProgram c s
  | .activateProgram c => Sys2Proof.Machine.execActivateProgram c s
  | .activateProgramCancel c => Sys2Proof.Machine.execActivateProgramCancel c s
  | .writeTable c => Sys2Proof.Machine.execWriteTable c s
  | .readTable c => Sys2Proof.Machine.execReadTable c s
  | .readCoreDiag c => Sys2Proof.Machine.execReadCoreDiag c s
  | .takeWaypoint c => Sys2Proof.Machine.execTakeWaypoint c s
  | .returnWaypoint c => Sys2Proof.Machine.execReturnWaypoint c s
  | .pinWaypoint c => Sys2Proof.Machine.execPinWaypoint c s
  | .listWaypoints c => Sys2Proof.Machine.execListWaypoints c s
  | .releaseHold c => Sys2Proof.Machine.execReleaseHold c s
  | .factoryClean c => Sys2Proof.Machine.execFactoryClean c s
  | .updBegin c => Sys2Proof.Machine.execUpdBegin c s
  | .updPiece c => Sys2Proof.Machine.execUpdPiece c s
  | .updVerify c => Sys2Proof.Machine.execUpdVerify c s
  | .activate c => Sys2Proof.Machine.execActivate c s
  | .activateAt c => Sys2Proof.Machine.execActivateAt c s
  | .confirm c => Sys2Proof.Machine.execConfirm c s
  | .updFallback c => Sys2Proof.Machine.execUpdFallback c s
  | .updAbort c => Sys2Proof.Machine.execUpdAbort c s
  | .updStatus c => Sys2Proof.Machine.execUpdStatus c s
  | .recBind c => Sys2Proof.Machine.execRecBind c s
  | .recUnbind c => Sys2Proof.Machine.execRecUnbind c s
  | .recRead c => Sys2Proof.Machine.execRecRead c s
  | .getClearNonce c => Sys2Proof.Machine.execGetClearNonce c s
  | .clearRecords c => Sys2Proof.Machine.execClearRecords c s
  | .readClearLedger c => Sys2Proof.Machine.execReadClearLedger c s
  | .setClearKey c => Sys2Proof.Machine.execSetClearKey c s
  | .setTime c => Sys2Proof.Machine.execSetTime c s
  | .setPtpPort c => Sys2Proof.Machine.execSetPtpPort c s
  | .bindPtpRx c => Sys2Proof.Machine.execBindPtpRx c s
  | .sendPtp c => Sys2Proof.Machine.execSendPtp c s
  | .computeTod c => Sys2Proof.Machine.execComputeTod c s
  | .pairConfig c => Sys2Proof.Machine.execPairConfig c s
  | .pairJoin c => Sys2Proof.Machine.execPairJoin c s
  | .pairJoined ok => Sys2Proof.Machine.execPairJoined ok s
  | .pairLeave c => Sys2Proof.Machine.execPairLeave c s
  | .switchOver c => Sys2Proof.Machine.execSwitchOver c s
  | .forceActive c => Sys2Proof.Machine.execForceActive c s
  | .treePair c => Sys2Proof.Machine.execTreePair c s
  | .treeUnpair c => Sys2Proof.Machine.execTreeUnpair c s
  | .switchTree c => Sys2Proof.Machine.execSwitchTree c s
  | .readPair c => Sys2Proof.Machine.execReadPair c s
  | .openDomain c => Sys2Proof.Machine.execOpenDomain c s
  | .teardownDomain c => Sys2Proof.Machine.execTeardownDomain c s
  | .registerWindow c => Sys2Proof.Machine.execRegisterWindow c s
  | .removeWindow c => Sys2Proof.Machine.execRemoveWindow c s
  | .setHostPool c => Sys2Proof.Machine.execSetHostPool c s
  | .postBuffers c => Sys2Proof.Machine.execPostBuffers c s
  | .reclaimBuffers c => Sys2Proof.Machine.execReclaimBuffers c s
  | .setPoolLayout c => Sys2Proof.Machine.execSetPoolLayout c s
  | .growPool c => Sys2Proof.Machine.execGrowPool c s
  | .readPools c => Sys2Proof.Machine.execReadPools c s
  | .retireHw c => Sys2Proof.Machine.execRetireHw c s
  | .returnHw c => Sys2Proof.Machine.execReturnHw c s
  | .runSelfTest c => Sys2Proof.Machine.execRunSelfTest c s
  | .readHealth c => Sys2Proof.Machine.execReadHealth c s
  | .selfTestRotation cls u pass => Sys2Proof.Machine.execSelfTestRotation cls u pass s
  | .readSensors m => Sys2Proof.Machine.execReadSensors m s
  | .readRecord m => Sys2Proof.Machine.execReadRecord m s
  | .getCert m => Sys2Proof.Machine.execGetCert m s
  | .attest m => Sys2Proof.Machine.execAttest m s
  | .mbxGetClearNonce m => Sys2Proof.Machine.execMbxGetClearNonce m s
  | .mbxClearRecords m => Sys2Proof.Machine.execMbxClearRecords m s
  | .readLr m => Sys2Proof.Machine.execReadLr m s
  | .mbxReadClearLedger m => Sys2Proof.Machine.execMbxReadClearLedger m s
  | .moduleIo m ans => Sys2Proof.Machine.execModuleIo m ans s
  | .updFrag m => Sys2Proof.Machine.execUpdFrag m s
  | .mbxUpdStatus m => Sys2Proof.Machine.execMbxUpdStatus m s
  | .blockWrite cmd bytes pecOk => Sys2Proof.Machine.execBlockWrite cmd bytes pecOk s
  | .sendByte cmd pecOk => Sys2Proof.Machine.execSendByte cmd pecOk s
  | .readByte => Sys2Proof.Machine.execReadByte s
  | .blockRead => Sys2Proof.Machine.execBlockRead s
  | .alertResponse => Sys2Proof.Machine.execAlertResponse s
  | .oobFrame f => Sys2Proof.Machine.execOobFrame f s
  | .nonceExpiry => Sys2Proof.Machine.execNonceExpiry s
  | .dbgChallenge => Sys2Proof.Machine.execDbgChallenge s
  | .dbgResponse sig => Sys2Proof.Machine.execDbgResponse sig s
  | .thermalConversion n t => Sys2Proof.Machine.execThermalConversion n t s
  | .voltageConversion n mv => Sys2Proof.Machine.execVoltageConversion n mv s
  | .hbmTempRead k t => Sys2Proof.Machine.execHbmTempRead k t s
  | .recorderCommit r => Sys2Proof.Machine.execRecorderCommit r s
  | .recorderMramCommit fail => Sys2Proof.Machine.execRecorderMramCommit fail s
  | .recMemFail bank => Sys2Proof.Machine.execRecMemFail bank s
  | .waypointTrigger => Sys2Proof.Machine.execWaypointTrigger s
  | .waypointCapture => Sys2Proof.Machine.execWaypointCapture s
  | .waypointCopy => Sys2Proof.Machine.execWaypointCopy s
  | .waypointDone ok kib => Sys2Proof.Machine.execWaypointDone ok kib s
  | .swapBlock n => Sys2Proof.Machine.execSwapBlock n s
  | .activationPause => Sys2Proof.Machine.execActivationPause s
  | .activateAtTime => Sys2Proof.Machine.execActivateAtTime s
  | .bootInTrial => Sys2Proof.Machine.execBootInTrial s
  | .trialStart agree format => Sys2Proof.Machine.execTrialStart agree format s
  | .loaderRestart => Sys2Proof.Machine.execLoaderRestart s
  | .fallback => Sys2Proof.Machine.execFallback s
  | .revertBlock n => Sys2Proof.Machine.execRevertBlock n s
  | .heartbeatSend => Sys2Proof.Machine.execHeartbeatSend s
  | .heartbeat => Sys2Proof.Machine.execHeartbeat s
  | .arbiterLost => Sys2Proof.Machine.execArbiterLost s
  | .token k => Sys2Proof.Machine.execToken k s
  | .deny => Sys2Proof.Machine.execDeny s
  | .verdict k => Sys2Proof.Machine.execVerdict k s
  | .fenceN => Sys2Proof.Machine.execFenceN s
  | .fenceTimeout => Sys2Proof.Machine.execFenceTimeout s
  | .intervalRecordA => Sys2Proof.Machine.execIntervalRecordA s
  | .intervalRecordB => Sys2Proof.Machine.execIntervalRecordB s
  | .intervalRecordReceive r => Sys2Proof.Machine.execIntervalRecordReceive r s
  | .hbMissed => Sys2Proof.Machine.execHbMissed s
  | .heartbeatLost => Sys2Proof.Machine.execHeartbeatLost s
  | .batchDigestRequest q ds => Sys2Proof.Machine.execBatchDigestRequest q ds s
  | .rowCopy c => Sys2Proof.Machine.execRowCopy c s
  | .roadbookForward sc b => Sys2Proof.Machine.execRoadbookForward sc b s
  | .journalEntryRecord c x => Sys2Proof.Machine.execJournalEntryRecord c x s
  | .decisionRecord d => Sys2Proof.Machine.execDecisionRecord d s
  | .hintRecord h => Sys2Proof.Machine.execHintRecord h s
  | .syncLaneRestore l => Sys2Proof.Machine.execSyncLaneRestore l s
  | .d2dFlitRetry die m => Sys2Proof.Machine.execD2dFlitRetry die m s
  | .d2dLaneRepair die l n x32 => Sys2Proof.Machine.execD2dLaneRepair die l n x32 s
  | .laneIdleExit l => Sys2Proof.Machine.execLaneIdleExit l s
  | .laneTrainingDone l coef => Sys2Proof.Machine.execLaneTrainingDone l coef s
  | .marginMeasurement l v h => Sys2Proof.Machine.execMarginMeasurement l v h s
  | .laneDown l => Sys2Proof.Machine.execLaneDown l s
  | .laneLost l => Sys2Proof.Machine.execLaneLost l s
  | .commaAligned l => Sys2Proof.Machine.execCommaAligned l s
  | .coldStart p => Sys2Proof.Machine.execColdStart p s
  | .warmReset cause hold => Sys2Proof.Machine.execWarmReset cause hold s
  | .perst => Sys2Proof.Machine.execPerst s
  | .functionLevelReset v => Sys2Proof.Machine.execFunctionLevelReset v s
  | .powerFailWarning => Sys2Proof.Machine.execPowerFailWarning s
  | .warningRelease => Sys2Proof.Machine.execWarningRelease s
  | .brownout => Sys2Proof.Machine.execBrownout s
  | .vaoSwitched toBkp => Sys2Proof.Machine.execVaoSwitched toBkp s
  | .vaoSingle inp => Sys2Proof.Machine.execVaoSingle inp s
  | .vaoLoss => Sys2Proof.Machine.execVaoLoss s
  | .flashOwnN low => Sys2Proof.Machine.execFlashOwnN low s
  | .rom r => Sys2Proof.Machine.execRom r s
  | .loader r => Sys2Proof.Machine.execLoader r s
  | .postStage r => Sys2Proof.Machine.execPostStage r s
  | .restore => Sys2Proof.Machine.execRestore s
  | .replay => Sys2Proof.Machine.execReplay s
  | .links => Sys2Proof.Machine.execLinks s
  | .programVerificationDone acc => Sys2Proof.Machine.execProgramVerificationDone acc s
  | .updVerifyDone acc => Sys2Proof.Machine.execUpdVerifyDone acc s
  | .growPoolDone acc => Sys2Proof.Machine.execGrowPoolDone acc s
  | .ptpFrameEgress acc ts => Sys2Proof.Machine.execPtpFrameEgress acc ts s
  | .laneSignalDetect l => Sys2Proof.Machine.execLaneSignalDetect l s
  | .vectorUnmask fn v => Sys2Proof.Machine.execVectorUnmask fn v s
  | .registerRead x => Sys2Proof.Machine.execRegisterRead x s
  | .checkerLock l => Sys2Proof.Machine.execCheckerLock l s
  | .checkerLockLoss l => Sys2Proof.Machine.execCheckerLockLoss l s
  | .perstDeassertion => Sys2Proof.Machine.execPerstDeassertion s

end Sys2Proof.Machine
end

