-- ==== Sys2Proof/Machine/Tick.lean ====
section
/-! DEFINITION. The tick of the hub clock (R37, R38, R40, R371): what a step does when no command waits. -/

namespace Sys2Proof.Machine

/-- The hub cycle of the next phase point of R40 at which a row of the table is due. -/
def Phase.nextPoint (p : Phase) : Nat :=
  match p with
  | .afterMilestone => 4000
  | .afterSnapshot => 196000
  | .afterDeadline => 232000
  | .afterCommit => 242000
  | .afterDelivery => 250000

/-- One hub cycle passes: device time advances by 0.5 ns (R371), and the cycle count of a running interval
advances (R38). In the last cycle before a phase point whose row has not come, time waits for that row
(DESIGN CHOICE: the row itself carries time to its point). -/
def State.tick (s : State) : State :=
  if s.clk.running && decide (s.clk.phase.nextPoint ≤ s.clk.cycle + 1) then s
  else
    { s with
      clk := { s.clk with cycle := if s.clk.running then s.clk.cycle + 1 else s.clk.cycle, hubc := s.clk.hubc + 1 }
      time := { s.time with dev := s.time.dev + tickUnits } }

end Sys2Proof.Machine
end

