-- ==== Sys2Proof/WellFormed.lean ====
section
/-! DEFINITION. Well-formed commands: every operand in the range the spec gives it, a descriptor with its row's
opcode, an instruction whose function field selects its mnemonic. A command that is not well formed names nothing
the device could receive. -/

namespace Sys2Proof

/-- A plan context that exists (R21, R129). -/
def Site.wf (st : Site) : Bool := decide (st.core < 104 ∧ st.ctx < 4)

/-- Bytes. -/
def bytesOk (l : List Nat) : Bool := l.all (fun b => decide (b < 256))

/-- Every field of a descriptor fits its bits (R237). -/
def Desc.bytesWf (c : Desc) : Bool :=
  decide (c.ring < 1024 ∧ c.opcode < 2 ^ 16 ∧ c.flags < 256 ∧ c.domain < 256 ∧ c.keyClass < 256 ∧ c.keyIndex < 2 ^ 24 ∧
    c.bufLen < 2 ^ 32 ∧ c.effect < 2 ^ 64 ∧ c.buf < 2 ^ 64) && bytesOk c.inp

/-- A descriptor of one row: its fields fit and it names the row's opcode (R31, R242). -/
def Desc.wf (c : Desc) (op : Nat) : Bool := c.bytesWf && c.opcode == op

/-- A register access of a function that can exist (R224, R225); BAR 15 is configuration space. -/
def Access.wf (x : Access) : Bool := decide (x.fn < 64 ∧ (x.bar = 0 ∨ x.bar = 2 ∨ x.bar = 15) ∧ x.off < 0x400_0000)

/-- fn[3:0] selects and fn[4] is SCALAR (R173 to R176). -/
def selS (f : FmtO) (n : Nat) : Bool := f.fn.toNat % 16 == n && decide (f.fn.toNat < 32)

/-- Index of an object that can drain (R55). -/
def drainIdx (k : ObjKind) (i : Nat) : Bool :=
  match k with
  | .subch => decide (i < 384)
  | .term => decide (i < 512 * 384)
  | .unit => decide (i < 1048576)
  | .flow => decide (i < 1048576)
  | .domain => decide (i < 64)

/-- A CTL_LOCK register stands at the address (R11). -/
def lockAt (a : Nat) : Bool :=
  match Machine.regAt a with
  | none => false
  | some ra => ra.reg.flds == [⟨0, 0, .w1s, 0⟩] && ra.byte == 0

/-- A VLAN tag has 16 bits of TPID, 3 of PCP and 12 of VID. -/
def VlanTag.wf (t : VlanTag) : Bool := decide (t.tpid < 65536 ∧ t.pcp < 8 ∧ t.vid < 4096)

/-- A frame from an uplink port (R304). -/
def UpFrame.wf (f : UpFrame) : Bool :=
  decide (f.u < 128 ∧ f.da < 2 ^ 48 ∧ f.sa < 2 ^ 48 ∧ f.etype < 2 ^ 16) && f.tags.all VlanTag.wf && decide (f.lanes.length ≤ 8)

/-- A frame from a sub-channel (R308). -/
def DnFrame.wf (f : DnFrame) : Bool :=
  decide (f.sc < 384 ∧ f.xgem < 65536 ∧ f.key < 4 ∧ f.da < 2 ^ 48 ∧ f.sa < 2 ^ 48) && f.tags.all VlanTag.wf

/-- A cipher request of one chunk (R350). -/
def ChunkReq.wf (q : ChunkReq) : Bool :=
  (if q.trunk then decide (q.die < 2 ∧ q.unit < 1024) else decide (q.die < 4 ∧ q.unit < 352)) && bytesOk q.bytes

/-- A hint record (R222). -/
def HintRec.wf (h : HintRec) : Bool := decide (h.dom < 64 ∧ h.unit < 1048576)

/-- A command is well formed. -/
def Instr.wf (i : Instr) : Bool :=
  match i with
  | .milestone => true
  | .snapshot => true
  | .planDeadline => true
  | .commitPoint => true
  | .roadbookDelivery sc => decide (sc < 384)
  | .deliveryDeadline => true
  | .ledgerRecordDurable => true
  | .burstReception sc _ i _ => decide (sc < 384) && decide (i < 2048)
  | .burstOutcome sc _ i _ => decide (sc < 384) && decide (i < 2048)
  | .drainDone k i => drainIdx k i
  | .maintWindow q => decide (q < 96)
  | .reportSweep => true
  | .iadd st f => st.wf && f.fn == 0
  | .isub st f => st.wf && f.fn == 1
  | .iand st f => st.wf && f.fn == 2
  | .ior st f => st.wf && f.fn == 3
  | .ixor st f => st.wf && f.fn == 4
  | .andn st f => st.wf && f.fn == 5
  | .shl st f => st.wf && f.fn == 6
  | .shr st f => st.wf && f.fn == 7
  | .sra st f => st.wf && f.fn == 8
  | .mul st f => st.wf && f.fn == 9
  | .mulhu st f => st.wf && f.fn == 10
  | .minu st f => st.wf && f.fn == 12
  | .maxu st f => st.wf && f.fn == 13
  | .mins st f => st.wf && f.fn == 14
  | .maxs st f => st.wf && f.fn == 15
  | .cmpEq st f => st.wf && f.fn == 0
  | .cmpNe st f => st.wf && f.fn == 1
  | .cmpLtu st f => st.wf && f.fn == 2
  | .cmpLeu st f => st.wf && f.fn == 3
  | .cmpLts st f => st.wf && f.fn == 4
  | .cmpLes st f => st.wf && f.fn == 5
  | .spc st _ => st.wf
  | .addi st _ => st.wf
  | .andi st _ => st.wf
  | .ori st _ => st.wf
  | .xori st _ => st.wf
  | .shli st _ => st.wf
  | .shri st _ => st.wf
  | .ldh0 st _ => st.wf
  | .ldh1 st _ => st.wf
  | .ldh2 st _ => st.wf
  | .ldh3 st _ => st.wf
  | .kld st _ => st.wf
  | .vadd st f => st.wf && selS f 0
  | .vsub st f => st.wf && selS f 1
  | .vand st f => st.wf && selS f 2
  | .vor st f => st.wf && selS f 3
  | .vxor st f => st.wf && selS f 4
  | .vandn st f => st.wf && selS f 5
  | .vshl st f => st.wf && selS f 6
  | .vshr st f => st.wf && selS f 7
  | .vsra st f => st.wf && selS f 8
  | .vmul st f => st.wf && selS f 9
  | .vmulhu st f => st.wf && selS f 10
  | .vmov st f => st.wf && f.fn == 11
  | .vcmpEq st f => st.wf && selS f 0
  | .vcmpNe st f => st.wf && selS f 1
  | .vcmpLtu st f => st.wf && selS f 2
  | .vcmpLeu st f => st.wf && selS f 3
  | .vcmpLts st f => st.wf && selS f 4
  | .vcmpLes st f => st.wf && selS f 5
  | .vsatuAdd st f => st.wf && selS f 0
  | .vsatuSub st f => st.wf && selS f 1
  | .vsatsAdd st f => st.wf && selS f 2
  | .vsatsSub st f => st.wf && selS f 3
  | .vminu st f => st.wf && selS f 0
  | .vmins st f => st.wf && selS f 1
  | .vmaxu st f => st.wf && selS f 0
  | .vmaxs st f => st.wf && selS f 1
  | .vsel st _ => st.wf
  | .vbcast st f => st.wf && f.fn == 0
  | .vext st f => st.wf && f.fn == 1
  | .vins st f => st.wf && f.fn == 2
  | .viota st f => st.wf && f.fn == 3
  | .vsum st f => st.wf && f.fn == 0
  | .vrminu st f => st.wf && f.fn == 1
  | .vrmaxu st f => st.wf && f.fn == 2
  | .vror st f => st.wf && f.fn == 3
  | .ppopc st f => st.wf && f.fn == 4
  | .pfirst st f => st.wf && f.fn == 5
  | .vaddi st _ => st.wf
  | .vli st _ => st.wf
  | .vshli st _ => st.wf
  | .vshri st _ => st.wf
  | .vandi st _ => st.wf
  | .pand st f => st.wf && f.fn == 0
  | .por st f => st.wf && f.fn == 1
  | .pxor st f => st.wf && f.fn == 2
  | .pandn st f => st.wf && f.fn == 3
  | .pnot st f => st.wf && f.fn == 4
  | .ptos st f => st.wf && f.fn == 5
  | .pfroms st f => st.wf && f.fn == 6
  | .bkt st _ => st.wf
  | .sld st _ => st.wf
  | .sst st _ => st.wf
  | .cld st _ => st.wf
  | .cst st _ => st.wf
  | .rpt st _ => st.wf
  | .hnt st _ => st.wf
  | .tbl st _ => st.wf
  | .memoryOpComplete g k t => decide (g < 104) && decide (k < 4) && decide (t < 480)
  | .wait st _ => st.wf
  | .fenceI st _ => st.wf
  | .gemit st _ => st.wf
  | .br st f => st.wf && f.cond == 0
  | .brAny st f => st.wf && f.cond == 1
  | .brNone st f => st.wf && f.cond == 2
  | .brAll st f => st.wf && f.cond == 3
  | .brNall st f => st.wf && f.cond == 4
  | .loopI st _ => st.wf
  | .endl st _ => st.wf
  | .halt st _ => st.wf
  | .coreUpset st => st.wf
  | .coreLost g => decide (g < 104)
  | .coreSpareLoaded g => decide (g < 104)
  | .unitFault cls u => decide (cls ≤ 10) && decide (u < Machine.clsUnits cls)
  | .faultWindowExpiry cls u => decide (cls ≤ 10) && decide (u < Machine.clsUnits cls)
  | .channelUnitLost kind die u => decide (kind < 2) && decide (die < 4) && decide (u < 104)
  | .snResponse sc _ => decide (sc < 384)
  | .registrationResponse sc t _ => decide (sc < 384) && decide (t < 512)
  | .rangingProcess sc t => decide (sc < 384) && decide (t < 512)
  | .rangingWindowClose sc t => decide (sc < 384) && decide (t < 512)
  | .rangingTimePeriodEnd sc t => decide (sc < 384) && decide (t < 512)
  | .terminalLost sc t => decide (sc < 384) && decide (t < 512)
  | .upstreamPloam sc t msg => decide (sc < 384) && decide (t < 512) && bytesOk msg
  | .upstreamOmci sc t msg mic => decide (sc < 384) && decide (t < 512) && bytesOk msg && bytesOk mic
  | .recoveryPeriodEnd sc => decide (sc < 384)
  | .rogueLight sc w _ => decide (sc < 384) && decide (w.a ≤ w.b ∧ w.b ≤ 2000000)
  | .rogueObserveEnd sc => decide (sc < 384)
  | .keyReport sc t key => decide (sc < 384) && decide (t < 512) && bytesOk key
  | .rekeyTimer sc t => decide (sc < 384) && decide (t < 512)
  | .keyRequestTimeout sc t => decide (sc < 384) && decide (t < 512)
  | .cipherChunk q => q.wf
  | .katTest cls u _ => decide (cls ≤ 10) && decide (u < Machine.clsUnits cls)
  | .uplinkFrameIngress f => f.wf
  | .hintFrame u vid bytes => decide (u < 128) && decide (vid < 4096) && bytesOk bytes
  | .ptpFrameTrap u f => decide (u < 129) && decide (f.ts < 32768)
  | .upstreamFrame f => f.wf
  | .learn p => decide (p < 8)
  | .learnNotice p => decide (p < 8)
  | .stashReturn p => decide (p < 8)
  | .ageingSweep p b => decide (p < 8) && decide (b ≤ 65536)
  | .freezeExpiry p mac vid dom => decide (p < 8) && decide (mac < 2 ^ 48) && decide (vid < 4096) && decide (dom < 64)
  | .walkTimeout p => decide (p < 8)
  | .flushDone p _ => decide (p < 8)
  | .rehashDone p => decide (p < 8)
  | .frameDequeue pt => decide (pt < 384 ∨ (512 ≤ pt ∧ pt < 640))
  | .gateEntryExpiry pt => decide (pt < 384 ∨ (512 ≤ pt ∧ pt < 640))
  | .gateListActive pt => decide (pt < 384 ∨ (512 ≤ pt ∧ pt < 640))
  | .queueSample => true
  | .cacheRefill pool client => decide (pool < 4) && decide (client < 17)
  | .dataWriteTimeout pool _ => decide (pool < 4)
  | .hbmUncorrectable stack pc _ => decide (stack < 8) && decide (pc < 32)
  | .hbmPcDetour stack pc => decide (stack < 8) && decide (pc < 32)
  | .tableCopyDone => true
  | .tail r _ => decide (r < 1009)
  | .descriptorAcceptance r ds _ => decide (r < 1009) && ds.all (fun c => c.bytesWf)
  | .acceptUnpaired => true
  | .completionPost r _ => decide (r < 1009)
  | .ringEnable r => decide (r < 1009)
  | .ringDisable r => decide (r < 1009)
  | .ringStopDone r => decide (r < 1009)
  | .cplHead r _ => decide (r < 1009)
  | .evqEnable => true
  | .vectorSignal fn v => decide (fn < 64) && decide (v < if fn = 0 then 512 else 16)
  | .ledgerSel sc => decide (sc < 384)
  | .ledgerSnapshotDone => true
  | .plSel c _ => decide (c < 192)
  | .plReadDone c => decide (c < 192)
  | .healthSel _ => true
  | .healthReadDone => true
  | .timeNsfRead => true
  | .offsetIn _ => true
  | .holdoverTimeout => true
  | .startWaitExpiry => true
  | .ppsOut => true
  | .ppsIn => true
  | .rclkResume k => decide (k < 2)
  | .ctlLock a => lockAt a
  | .warmReq fn _ => decide (fn < 64)
  | .testCtl l _ => decide (l < 516)
  | .injectW l _ => decide (l < 516)
  | .registerWrite x _ => x.wf
  | .wrongWidthAccess x _ => x.wf
  | .enable c => c.wf 0x0101
  | .disable c => c.wf 0x0102
  | .setRoadLength c => c.wf 0x0103
  | .setSubchParams c => c.wf 0x0104
  | .setDiscovery c => c.wf 0x0105
  | .resetTree c => c.wf 0x0106
  | .addTerminal c => c.wf 0x0201
  | .removeTerminal c => c.wf 0x0202
  | .deactivateTerminal c => c.wf 0x0203
  | .disableSerial c => c.wf 0x0204
  | .enableSerial c => c.wf 0x0205
  | .setBurstProfile c => c.wf 0x0206
  | .setRanging c => c.wf 0x0207
  | .rangeTerminal c => c.wf 0x0208
  | .isolateRogue c => c.wf 0x0209
  | .readUnknown c => c.wf 0x020a
  | .readTerminal c => c.wf 0x020b
  | .readSubchAct c => c.wf 0x020c
  | .sendPloam c => c.wf 0x020d
  | .sendOmci c => c.wf 0x020e
  | .bindTerminalRx c => c.wf 0x020f
  | .installUnit c => c.wf 0x0301
  | .retireUnit c => c.wf 0x0302
  | .modifyUnit c => c.wf 0x0303
  | .postHint c => c.wf 0x0304
  | .setHintVlan c => c.wf 0x0305
  | .readUnitLedger c => c.wf 0x0306
  | .createFlow c => c.wf 0x0401
  | .destroyFlow c => c.wf 0x0402
  | .modifyFlow c => c.wf 0x0403
  | .readFlow c => c.wf 0x0404
  | .joinFlood c => c.wf 0x0405
  | .leaveFlood c => c.wf 0x0406
  | .setFlowSched c => c.wf 0x0410
  | .setNodeSched c => c.wf 0x0411
  | .setPolicer c => c.wf 0x0412
  | .setPortSched c => c.wf 0x0413
  | .setGateList c => c.wf 0x0414
  | .readQueue c => c.wf 0x0415
  | .setSteer c => c.wf 0x0501
  | .addEntry c => c.wf 0x0502
  | .deleteEntry c => c.wf 0x0503
  | .searchEntry c => c.wf 0x0504
  | .nextEntry c => c.wf 0x0505
  | .walkEnd c => c.wf 0x0506
  | .flushByPort c => c.wf 0x0507
  | .rehash c => c.wf 0x0508
  | .configPort c => c.wf 0x0509
  | .portUp c => c.wf 0x050a
  | .portDown c => c.wf 0x050b
  | .portDrainEnd u => decide (u < 128)
  | .setCipher c => c.wf 0x0601
  | .setKeyPolicy c => c.wf 0x0602
  | .installPonKey c => c.wf 0x0603
  | .switchPonKey c => c.wf 0x0604
  | .configSecy c => c.wf 0x0605
  | .installSa c => c.wf 0x0606
  | .enableSa c => c.wf 0x0607
  | .removeSa c => c.wf 0x0608
  | .readSa c => c.wf 0x0609
  | .rekeyTerminal c => c.wf 0x060a
  | .loadProgram c => c.wf 0x0701
  | .activateProgram c => c.wf 0x0702
  | .activateProgramCancel c => c.wf 0x0702
  | .writeTable c => c.wf 0x0703
  | .readTable c => c.wf 0x0704
  | .readCoreDiag c => c.wf 0x0705
  | .takeWaypoint c => c.wf 0x0801
  | .returnWaypoint c => c.wf 0x0802
  | .pinWaypoint c => c.wf 0x0803
  | .listWaypoints c => c.wf 0x0804
  | .releaseHold c => c.wf 0x0805
  | .factoryClean c => c.wf 0x0806
  | .updBegin c => c.wf 0x0901
  | .updPiece c => c.wf 0x0902
  | .updVerify c => c.wf 0x0903
  | .activate c => c.wf 0x0904
  | .activateAt c => c.wf 0x0905
  | .confirm c => c.wf 0x0906
  | .updFallback c => c.wf 0x0907
  | .updAbort c => c.wf 0x0908
  | .updStatus c => c.wf 0x0909
  | .recBind c => c.wf 0x0a01
  | .recUnbind c => c.wf 0x0a02
  | .recRead c => c.wf 0x0a03
  | .getClearNonce c => c.wf 0x0a04
  | .clearRecords c => c.wf 0x0a05
  | .readClearLedger c => c.wf 0x0a06
  | .setClearKey c => c.wf 0x0a07
  | .setTime c => c.wf 0x0b01
  | .setPtpPort c => c.wf 0x0b02
  | .bindPtpRx c => c.wf 0x0b03
  | .sendPtp c => c.wf 0x0b04
  | .computeTod c => c.wf 0x0b05
  | .pairConfig c => c.wf 0x0c01
  | .pairJoin c => c.wf 0x0c02
  | .pairJoined _ => true
  | .pairLeave c => c.wf 0x0c03
  | .switchOver c => c.wf 0x0c04
  | .forceActive c => c.wf 0x0c05
  | .treePair c => c.wf 0x0c06
  | .treeUnpair c => c.wf 0x0c07
  | .switchTree c => c.wf 0x0c08
  | .readPair c => c.wf 0x0c09
  | .openDomain c => c.wf 0x0d01
  | .teardownDomain c => c.wf 0x0d02
  | .registerWindow c => c.wf 0x0d03
  | .removeWindow c => c.wf 0x0d04
  | .setHostPool c => c.wf 0x0d05
  | .postBuffers c => c.wf 0x0d06
  | .reclaimBuffers c => c.wf 0x0d07
  | .setPoolLayout c => c.wf 0x0d08
  | .growPool c => c.wf 0x0d09
  | .readPools c => c.wf 0x0d0a
  | .retireHw c => c.wf 0x0e01
  | .returnHw c => c.wf 0x0e02
  | .runSelfTest c => c.wf 0x0e03
  | .readHealth c => c.wf 0x0e04
  | .selfTestRotation cls u _ => decide (cls ≤ 10) && decide (u < Machine.clsUnits cls)
  | .readSensors m => decide (m < 3)
  | .readRecord m => decide (m < 3)
  | .getCert m => decide (m < 3)
  | .attest m => decide (m < 3)
  | .mbxGetClearNonce m => decide (m < 3)
  | .mbxClearRecords m => decide (m < 3)
  | .readLr m => decide (m < 3)
  | .mbxReadClearLedger m => decide (m < 3)
  | .moduleIo m _ => decide (m < 3)
  | .updFrag m => decide (m < 3)
  | .mbxUpdStatus m => decide (m < 3)
  | .blockWrite cmd bytes _ => decide (cmd < 256) && bytesOk bytes
  | .sendByte cmd _ => decide (cmd < 256)
  | .readByte => true
  | .blockRead => true
  | .alertResponse => true
  | .oobFrame _ => true
  | .nonceExpiry => true
  | .dbgChallenge => true
  | .dbgResponse sig => bytesOk sig
  | .thermalConversion n _ => decide (n < 96)
  | .voltageConversion n _ => decide (n < 48)
  | .hbmTempRead k _ => decide (k < 8)
  | .recorderCommit r => decide (r < 4096)
  | .recorderMramCommit _ => true
  | .recMemFail bank => decide (bank < 2)
  | .waypointTrigger => true
  | .waypointCapture => true
  | .waypointCopy => true
  | .waypointDone _ _ => true
  | .swapBlock i => decide (i < 512)
  | .activationPause => true
  | .activateAtTime => true
  | .bootInTrial => true
  | .trialStart _ _ => true
  | .loaderRestart => true
  | .fallback => true
  | .revertBlock i => decide (i < 512)
  | .heartbeatSend => true
  | .heartbeat => true
  | .arbiterLost => true
  | .token _ => true
  | .deny => true
  | .verdict _ => true
  | .fenceN => true
  | .fenceTimeout => true
  | .intervalRecordA => true
  | .intervalRecordB => true
  | .intervalRecordReceive _ => true
  | .hbMissed => true
  | .heartbeatLost => true
  | .batchDigestRequest q ds => decide (q < 96) && decide (ds.length ≤ 1408)
  | .rowCopy _ => true
  | .roadbookForward sc _ => decide (sc < 384)
  | .journalEntryRecord c _ => c.bytesWf
  | .decisionRecord _ => true
  | .hintRecord h => h.wf
  | .syncLaneRestore l => decide (l < 516)
  | .d2dFlitRetry die m => decide (die < 6) && decide (m < 4)
  | .d2dLaneRepair die l _ _ => decide (die < 6) && decide (l.m < 4) && decide (l.r < 2)
  | .laneIdleExit l => decide (l < 516)
  | .laneTrainingDone l _ => decide (l < 516)
  | .marginMeasurement l _ _ => decide (l < 516)
  | .laneDown l => decide (l < 516)
  | .laneLost l => decide (l < 516)
  | .commaAligned l => decide (l < 516)
  | .coldStart _ => true
  | .warmReset _ _ => true
  | .perst => true
  | .functionLevelReset v => decide (1 ≤ v ∧ v < 64)
  | .powerFailWarning => true
  | .warningRelease => true
  | .brownout => true
  | .vaoSwitched _ => true
  | .vaoSingle inp => decide (inp < 2)
  | .vaoLoss => true
  | .flashOwnN _ => true
  | .rom _ => true
  | .loader _ => true
  | .postStage _ => true
  | .restore => true
  | .replay => true
  | .links => true
  | .programVerificationDone _ => true
  | .updVerifyDone _ => true
  | .growPoolDone _ => true
  | .ptpFrameEgress _ _ => true
  | .laneSignalDetect l => decide (l < 516)
  | .vectorUnmask fn v => decide (fn < 64) && decide (v < if fn = 0 then 512 else 16)
  | .registerRead x => x.wf
  | .checkerLock l => decide (l < 516)
  | .checkerLockLoss l => decide (l < 516)
  | .perstDeassertion => true

end Sys2Proof
end

