-- ==== Sys2Proof/Safety.lean ====
section
/-! DEFINITION. What a safe step is, and the notions in which the statements speak: the state in which an
instruction of a grant program can issue, the state after it, the state in which a host command starts, and the
record it leaves. -/

namespace Sys2Proof.Machine

/-! Outcomes. -/

/-- A step is safe: it answers a next state, or it stops at an access that no function of the device claims
(R224, R225). -/
def SafeOutcome (o : Host.Outcome State Fault Refusal) : Prop :=
  match o with
  | .next _ => True
  | .fault f => f = .noSuchFunction
  | .refused _ => False

/-- A query that changes no object at all (R246): READ_UNKNOWN, READ_CORE_DIAG and NEXT_ENTRY clear or open what
they read, and READ_QUEUE clears a maximum on request; those four are not among them. -/
def isPureQuery (i : Instr) : Bool :=
  match i with
  | .readTerminal _ => true
  | .readSubchAct _ => true
  | .readUnitLedger _ => true
  | .readFlow _ => true
  | .searchEntry _ => true
  | .readSa _ => true
  | .readTable _ => true
  | .listWaypoints _ => true
  | .updStatus _ => true
  | .recRead _ => true
  | .readClearLedger _ => true
  | .readPair _ => true
  | .readPools _ => true
  | .readHealth _ => true
  | .computeTod _ => true
  | _ => false

/-- A command is a register access. -/
def isAccess (i : Instr) : Bool :=
  match i with
  | .registerWrite _ _ => true
  | .registerRead _ => true
  | .wrongWidthAccess _ _ => true
  | _ => false

/-- Every waiting command is well-formed. -/
def State.QueueWf (s : State) : Prop := ∀ i ∈ s.pending, i.wf = true

/-! Grant programs (chapter 06). -/

/-- Site at which an instruction of a grant program issues; every other command is none. -/
def siteOf (i : Instr) : Option Site :=
  match i with
  | .iadd st _ => some st
  | .isub st _ => some st
  | .iand st _ => some st
  | .ior st _ => some st
  | .ixor st _ => some st
  | .andn st _ => some st
  | .shl st _ => some st
  | .shr st _ => some st
  | .sra st _ => some st
  | .mul st _ => some st
  | .mulhu st _ => some st
  | .minu st _ => some st
  | .maxu st _ => some st
  | .mins st _ => some st
  | .maxs st _ => some st
  | .cmpEq st _ => some st
  | .cmpNe st _ => some st
  | .cmpLtu st _ => some st
  | .cmpLeu st _ => some st
  | .cmpLts st _ => some st
  | .cmpLes st _ => some st
  | .spc st _ => some st
  | .addi st _ => some st
  | .andi st _ => some st
  | .ori st _ => some st
  | .xori st _ => some st
  | .shli st _ => some st
  | .shri st _ => some st
  | .ldh0 st _ => some st
  | .ldh1 st _ => some st
  | .ldh2 st _ => some st
  | .ldh3 st _ => some st
  | .kld st _ => some st
  | .vadd st _ => some st
  | .vsub st _ => some st
  | .vand st _ => some st
  | .vor st _ => some st
  | .vxor st _ => some st
  | .vandn st _ => some st
  | .vshl st _ => some st
  | .vshr st _ => some st
  | .vsra st _ => some st
  | .vmul st _ => some st
  | .vmulhu st _ => some st
  | .vmov st _ => some st
  | .vcmpEq st _ => some st
  | .vcmpNe st _ => some st
  | .vcmpLtu st _ => some st
  | .vcmpLeu st _ => some st
  | .vcmpLts st _ => some st
  | .vcmpLes st _ => some st
  | .vsatuAdd st _ => some st
  | .vsatuSub st _ => some st
  | .vsatsAdd st _ => some st
  | .vsatsSub st _ => some st
  | .vminu st _ => some st
  | .vmins st _ => some st
  | .vmaxu st _ => some st
  | .vmaxs st _ => some st
  | .vsel st _ => some st
  | .vbcast st _ => some st
  | .vext st _ => some st
  | .vins st _ => some st
  | .viota st _ => some st
  | .vsum st _ => some st
  | .vrminu st _ => some st
  | .vrmaxu st _ => some st
  | .vror st _ => some st
  | .ppopc st _ => some st
  | .pfirst st _ => some st
  | .vaddi st _ => some st
  | .vli st _ => some st
  | .vshli st _ => some st
  | .vshri st _ => some st
  | .vandi st _ => some st
  | .pand st _ => some st
  | .por st _ => some st
  | .pxor st _ => some st
  | .pandn st _ => some st
  | .pnot st _ => some st
  | .ptos st _ => some st
  | .pfroms st _ => some st
  | .bkt st _ => some st
  | .sld st _ => some st
  | .sst st _ => some st
  | .cld st _ => some st
  | .cst st _ => some st
  | .rpt st _ => some st
  | .hnt st _ => some st
  | .tbl st _ => some st
  | .wait st _ => some st
  | .fenceI st _ => some st
  | .gemit st _ => some st
  | .br st _ => some st
  | .brAny st _ => some st
  | .brNone st _ => some st
  | .brAll st _ => some st
  | .brNall st _ => some st
  | .loopI st _ => some st
  | .endl st _ => some st
  | .halt st _ => some st
  | _ => none

/-- Context `c` of a site can issue an instruction that is not the last one of its program's entry (R129, R162). -/
def Issuing (s : State) (st : Site) (c : Ctx) : Prop :=
  s.canIssue st = some c ∧ c.stalled = none ∧ c.pc + 1 < (s.progAt st).stop c.entry

/-- The same where the instruction with word `w` may be one that its context already holds (R135, R165). -/
def IssuingWord (s : State) (st : Site) (c : Ctx) (w : W32) : Prop :=
  s.canIssue st = some c ∧ (c.stalled = none ∨ c.stalled = some w) ∧ c.pc + 1 < (s.progAt st).stop c.entry

/-- The state after an instruction that completes and goes on at the next one: the context holds what the
instruction left in it, and the instruction has been counted (R157, R162). -/
def State.goesOn (s : State) (st : Site) (c : Ctx) (pc : Nat) : State :=
  (s.issuedOne st).setCtx st { c with pc := pc, stalled := none }

/-! Host commands (chapter 08). -/

/-- A host command starts now: commands execute; its entry in the journal, if it has one, has neither started nor
been executed, and no confirmed waypoint has let it go (R264, R460); nothing it must wait for is open (R254, R255,
R257); no second upset meets its execution, and every check of steps 1 and 2 of R258 passes. -/
def Starts (i : CmdInfo) (c : Desc) (s : State) : Prop :=
  s.serving = true ∧ (∀ j, s.jrnFind c.acc = some j → j.started = false ∧ j.exec = none) ∧
    (s.jrnFind c.acc = none → ∀ w, s.wpLast = some w → w.a < c.acc) ∧ s.mustWait c = false ∧
    c.upsets < 2 ∧ i.check c (s.jrnStart c) = (none, s.jrnStart c)

/-- The journal entry of a command holds its execution record, with this status (R258, R264). -/
def State.executed (s : State) (acc st : Nat) : Prop :=
  ∃ j e, s.jrnFind acc = some j ∧ j.exec = some e ∧ e.status = st

end Sys2Proof.Machine
end

