-- ==== Sys2Proof/Certificates/Slice0/Obligations.lean ====
section
/-! DEFINITION. The statements for the provers. Each states what the commands of a chapter do to the state that the
spec names; `Starts` and `Issuing` (Safety.lean) say when a host command and an instruction of a grant program
execute; an answer `kept s t` is the next state `t` with the queue of `s`. -/

open Sys2Proof Sys2Proof.Machine

/-- Each of the fifteen scalar operate instructions writes the result of R168 to Sd and goes on, and any other fn or pr is
ILLEGAL. Formalises R168. -/
def Obligations.ScalarOperateResults : Prop :=
  ∀ (s : State) (st : Site) (f : FmtO) (c : Ctx), Issuing s st c →
    let a := c.rs f.a
    let b := c.rs f.b
    let ill := kept s (s.progExc st (f.word 0x00) 1)
    let after := fun (r : W64) => Host.Outcome.next (φ := Fault) (ρ := Refusal) (s.goesOn st (c.ws f.d r) (c.pc + 1))
    (f.pr = 0 → f.fn = 0 → exec (.iadd st f) s = after (a + b)) ∧ (f.pr ≠ 0 ∨ f.fn ≠ 0 → exec (.iadd st f) s = ill) ∧
    (f.pr = 0 → f.fn = 1 → exec (.isub st f) s = after (a - b)) ∧ (f.pr ≠ 0 ∨ f.fn ≠ 1 → exec (.isub st f) s = ill) ∧
    (f.pr = 0 → f.fn = 2 → exec (.iand st f) s = after (a &&& b)) ∧ (f.pr ≠ 0 ∨ f.fn ≠ 2 → exec (.iand st f) s = ill) ∧
    (f.pr = 0 → f.fn = 3 → exec (.ior st f) s = after (a ||| b)) ∧ (f.pr ≠ 0 ∨ f.fn ≠ 3 → exec (.ior st f) s = ill) ∧
    (f.pr = 0 → f.fn = 4 → exec (.ixor st f) s = after (a ^^^ b)) ∧ (f.pr ≠ 0 ∨ f.fn ≠ 4 → exec (.ixor st f) s = ill) ∧
    (f.pr = 0 → f.fn = 5 → exec (.andn st f) s = after (a &&& ~~~b)) ∧ (f.pr ≠ 0 ∨ f.fn ≠ 5 → exec (.andn st f) s = ill) ∧
    (f.pr = 0 → f.fn = 6 → exec (.shl st f) s = after (a <<< (b.toNat % 64))) ∧ (f.pr ≠ 0 ∨ f.fn ≠ 6 → exec (.shl st f) s = ill) ∧
    (f.pr = 0 → f.fn = 7 → exec (.shr st f) s = after (a >>> (b.toNat % 64))) ∧ (f.pr ≠ 0 ∨ f.fn ≠ 7 → exec (.shr st f) s = ill) ∧
    (f.pr = 0 → f.fn = 8 → exec (.sra st f) s = after (a.sshiftRight (b.toNat % 64))) ∧ (f.pr ≠ 0 ∨ f.fn ≠ 8 → exec (.sra st f) s = ill) ∧
    (f.pr = 0 → f.fn = 9 → exec (.mul st f) s = after (a * b)) ∧ (f.pr ≠ 0 ∨ f.fn ≠ 9 → exec (.mul st f) s = ill) ∧
    (f.pr = 0 → f.fn = 10 → exec (.mulhu st f) s = after (BitVec.ofNat 64 (a.toNat * b.toNat / 2 ^ 64))) ∧ (f.pr ≠ 0 ∨ f.fn ≠ 10 → exec (.mulhu st f) s = ill) ∧
    (f.pr = 0 → f.fn = 12 → exec (.minu st f) s = after (if a.toNat < b.toNat then a else b)) ∧ (f.pr ≠ 0 ∨ f.fn ≠ 12 → exec (.minu st f) s = ill) ∧
    (f.pr = 0 → f.fn = 13 → exec (.maxu st f) s = after (if a.toNat < b.toNat then b else a)) ∧ (f.pr ≠ 0 ∨ f.fn ≠ 13 → exec (.maxu st f) s = ill) ∧
    (f.pr = 0 → f.fn = 14 → exec (.mins st f) s = after (if a.toInt < b.toInt then a else b)) ∧ (f.pr ≠ 0 ∨ f.fn ≠ 14 → exec (.mins st f) s = ill) ∧
    (f.pr = 0 → f.fn = 15 → exec (.maxs st f) s = after (if a.toInt < b.toInt then b else a)) ∧ (f.pr ≠ 0 ∨ f.fn ≠ 15 → exec (.maxs st f) s = ill)

/-- The six scalar compares set all eight bits of Pd, or none, and SPC reads the special register it names; any other
field is ILLEGAL. Formalises R169, R170. -/
def Obligations.ScalarComparePredicate : Prop :=
  (∀ (s : State) (st : Site) (f : FmtO) (c : Ctx), Issuing s st c →
    let a := c.rs f.a
    let b := c.rs f.b
    let ill := kept s (s.progExc st (f.word 0x01) 1)
    let after := fun (p : Prop) (_ : Decidable p) => Host.Outcome.next (φ := Fault) (ρ := Refusal)
      (s.goesOn st (c.wp f.d.toNat (if p then 0xFF#8 else 0x00#8)) (c.pc + 1))
    (f.pr = 0 → f.d.toNat < 8 → f.fn = 0 → exec (.cmpEq st f) s = after (a = b) inferInstance) ∧ (f.pr ≠ 0 ∨ 8 ≤ f.d.toNat ∨ f.fn ≠ 0 → exec (.cmpEq st f) s = ill) ∧
    (f.pr = 0 → f.d.toNat < 8 → f.fn = 1 → exec (.cmpNe st f) s = after (a ≠ b) inferInstance) ∧ (f.pr ≠ 0 ∨ 8 ≤ f.d.toNat ∨ f.fn ≠ 1 → exec (.cmpNe st f) s = ill) ∧
    (f.pr = 0 → f.d.toNat < 8 → f.fn = 2 → exec (.cmpLtu st f) s = after (a.toNat < b.toNat) inferInstance) ∧ (f.pr ≠ 0 ∨ 8 ≤ f.d.toNat ∨ f.fn ≠ 2 → exec (.cmpLtu st f) s = ill) ∧
    (f.pr = 0 → f.d.toNat < 8 → f.fn = 3 → exec (.cmpLeu st f) s = after (a.toNat ≤ b.toNat) inferInstance) ∧ (f.pr ≠ 0 ∨ 8 ≤ f.d.toNat ∨ f.fn ≠ 3 → exec (.cmpLeu st f) s = ill) ∧
    (f.pr = 0 → f.d.toNat < 8 → f.fn = 4 → exec (.cmpLts st f) s = after (a.toInt < b.toInt) inferInstance) ∧ (f.pr ≠ 0 ∨ 8 ≤ f.d.toNat ∨ f.fn ≠ 4 → exec (.cmpLts st f) s = ill) ∧
    (f.pr = 0 → f.d.toNat < 8 → f.fn = 5 → exec (.cmpLes st f) s = after (a.toInt ≤ b.toInt) inferInstance) ∧ (f.pr ≠ 0 ∨ 8 ≤ f.d.toNat ∨ f.fn ≠ 5 → exec (.cmpLes st f) s = ill)) ∧
  (∀ (s : State) (st : Site) (f : FmtO) (c : Ctx), Issuing s st c →
    (f.pr = 0 → f.a = 0 → f.b = 0 → f.fn.toNat < 9 →
      exec (.spc st f) s = .next (s.goesOn st (c.ws f.d (special c st.ctx f.fn.toNat)) (c.pc + 1))) ∧
    (f.pr ≠ 0 ∨ f.a ≠ 0 ∨ f.b ≠ 0 ∨ 9 ≤ f.fn.toNat → exec (.spc st f) s = kept s (s.progExc st (f.word 0x02) 1)))

/-- The scalar immediates write Sd and the vector immediates write all eight lanes of Vd. Formalises R171, R172, R159,
R180 (derived). -/
def Obligations.ImmediateResults : Prop :=
  (∀ (s : State) (st : Site) (f : FmtI) (c : Ctx), Issuing s st c →
    let a := c.rs f.a
    let after := fun (r : W64) => Host.Outcome.next (φ := Fault) (ρ := Refusal) (s.goesOn st (c.ws f.d r) (c.pc + 1))
    (exec (.addi st f) s = after (a + f.imm.signExtend 64)) ∧
    (exec (.andi st f) s = after (a &&& f.imm.setWidth 64)) ∧
    (exec (.ori st f) s = after (a ||| f.imm.setWidth 64)) ∧
    (exec (.xori st f) s = after (a ^^^ f.imm.setWidth 64)) ∧
    (f.imm.toNat < 64 → exec (.shli st f) s = after (a <<< f.imm.toNat)) ∧
    (f.imm.toNat < 64 → exec (.shri st f) s = after (a >>> f.imm.toNat)) ∧
    (exec (.ldh0 st f) s = after ((a &&& ~~~(0xFFFF#64 <<< 0)) ||| (f.imm.setWidth 64 <<< 0))) ∧
    (exec (.ldh1 st f) s = after ((a &&& ~~~(0xFFFF#64 <<< 16)) ||| (f.imm.setWidth 64 <<< 16))) ∧
    (exec (.ldh2 st f) s = after ((a &&& ~~~(0xFFFF#64 <<< 32)) ||| (f.imm.setWidth 64 <<< 32))) ∧
    (exec (.ldh3 st f) s = after ((a &&& ~~~(0xFFFF#64 <<< 48)) ||| (f.imm.setWidth 64 <<< 48))) ∧
    ((a + f.imm.setWidth 64).toNat < 2048 →
      exec (.kld st f) s = after ((s.progAt st).const.get 0 (a + f.imm.setWidth 64).toNat))) ∧
  (∀ (s : State) (st : Site) (f : FmtI) (c : Ctx), Issuing s st c → f.d.toNat < 16 → f.a.toNat < 16 →
    let after := fun (g : W32 → W32) => Host.Outcome.next (φ := Fault) (ρ := Refusal)
      (s.goesOn st (c.merge f.d.toNat 0xFF#8 (fun k => g (c.rv f.a.toNat k))) (c.pc + 1))
    (exec (.vaddi st f) s = after (fun x => x + f.imm.signExtend 32)) ∧
    (f.a = 0 → exec (.vli st f) s = after (fun _ => f.imm.signExtend 32)) ∧
    (f.imm.toNat < 32 → exec (.vshli st f) s = after (fun x => x <<< f.imm.toNat)) ∧
    (f.imm.toNat < 32 → exec (.vshri st f) s = after (fun x => x >>> f.imm.toNat)) ∧
    (exec (.vandi st f) s = after (fun x => x &&& f.imm.setWidth 32)))

/-- The vector operate instructions write the lanes in P[pr] and keep the others; the vector compares set the lanes of
P[pr] in which the condition holds. Formalises R173, R164, R174, R159 (derived). -/
def Obligations.VectorOperateAndCompareResults : Prop :=
  ((∀ (s : State) (st : Site) (f : FmtO) (c : Ctx), Issuing s st c → f.d.toNat < 16 → f.a.toNat < 16 →
    (f.fn.toNat < 16 → f.b.toNat < 16) → f.fn.toNat < 32 →
    let y := fun (k : Nat) => if 16 ≤ f.fn.toNat then (c.rs f.b).setWidth 32 else c.rv f.b.toNat k
    let after := fun (g : W32 → W32 → W32) => Host.Outcome.next (φ := Fault) (ρ := Refusal)
      (s.goesOn st (c.merge f.d.toNat (c.rp f.pr.toNat) (fun k => g (c.rv f.a.toNat k) (y k))) (c.pc + 1))
    (f.fn.toNat % 16 = 0 → exec (.vadd st f) s = after (fun x y => x + y)) ∧
    (f.fn.toNat % 16 = 1 → exec (.vsub st f) s = after (fun x y => x - y)) ∧
    (f.fn.toNat % 16 = 2 → exec (.vand st f) s = after (fun x y => x &&& y)) ∧
    (f.fn.toNat % 16 = 3 → exec (.vor st f) s = after (fun x y => x ||| y)) ∧
    (f.fn.toNat % 16 = 4 → exec (.vxor st f) s = after (fun x y => x ^^^ y)) ∧
    (f.fn.toNat % 16 = 5 → exec (.vandn st f) s = after (fun x y => x &&& ~~~y)) ∧
    (f.fn.toNat % 16 = 6 → exec (.vshl st f) s = after (fun x y => x <<< (y.toNat % 32))) ∧
    (f.fn.toNat % 16 = 7 → exec (.vshr st f) s = after (fun x y => x >>> (y.toNat % 32))) ∧
    (f.fn.toNat % 16 = 8 → exec (.vsra st f) s = after (fun x y => x.sshiftRight (y.toNat % 32))) ∧
    (f.fn.toNat % 16 = 9 → exec (.vmul st f) s = after (fun x y => x * y)) ∧
    (f.fn.toNat % 16 = 10 → exec (.vmulhu st f) s = after (fun x y => BitVec.ofNat 32 (x.toNat * y.toNat / 2 ^ 32)))) ∧
  (∀ (s : State) (st : Site) (f : FmtO) (c : Ctx), Issuing s st c → f.fn = 11 → f.b = 0 → f.d.toNat < 16 → f.a.toNat < 16 →
    exec (.vmov st f) s =
      .next (s.goesOn st (c.merge f.d.toNat (c.rp f.pr.toNat) (fun k => c.rv f.a.toNat k)) (c.pc + 1)))) ∧
  (∀ (s : State) (st : Site) (f : FmtO) (c : Ctx), Issuing s st c → 1 ≤ f.d.toNat → f.d.toNat < 8 → f.a.toNat < 16 →
    (f.fn.toNat < 16 → f.b.toNat < 16) → f.fn.toNat < 32 →
    let y := fun (k : Nat) => if 16 ≤ f.fn.toNat then (c.rs f.b).setWidth 32 else c.rv f.b.toNat k
    let sets := fun (i : Instr) (g : W32 → W32 → Prop) => ∃ m : BitVec 8,
      exec i s = .next (s.goesOn st (c.wp f.d.toNat m) (c.pc + 1)) ∧
        ∀ k < 8, m.getLsbD k = true ↔ (c.rp f.pr.toNat).getLsbD k = true ∧ g (c.rv f.a.toNat k) (y k)
    (f.fn.toNat % 16 = 0 → sets (.vcmpEq st f) (fun x y => x = y)) ∧
    (f.fn.toNat % 16 = 1 → sets (.vcmpNe st f) (fun x y => x ≠ y)) ∧
    (f.fn.toNat % 16 = 2 → sets (.vcmpLtu st f) (fun x y => x.toNat < y.toNat)) ∧
    (f.fn.toNat % 16 = 3 → sets (.vcmpLeu st f) (fun x y => x.toNat ≤ y.toNat)) ∧
    (f.fn.toNat % 16 = 4 → sets (.vcmpLts st f) (fun x y => x.toInt < y.toInt)) ∧
    (f.fn.toNat % 16 = 5 → sets (.vcmpLes st f) (fun x y => x.toInt ≤ y.toInt)))

/-- The saturating, minimum and maximum vector instructions write the lanes in P[pr] with the result of R175 and R176; any
other field is ILLEGAL. Formalises R175, R176. -/
def Obligations.VectorSaturateAndMinMax : Prop :=
  ∀ (s : State) (st : Site) (f : FmtO) (c : Ctx), Issuing s st c →
    let ok := f.d.toNat < 16 ∧ f.a.toNat < 16 ∧ (f.fn.toNat < 16 → f.b.toNat < 16) ∧ f.fn.toNat < 32
    let ill := fun (op : Nat) => kept s (s.progExc st (f.word op) 1)
    let y := fun (k : Nat) => if 16 ≤ f.fn.toNat then (c.rs f.b).setWidth 32 else c.rv f.b.toNat k
    let after := fun (g : W32 → W32 → W32) => Host.Outcome.next (φ := Fault) (ρ := Refusal)
      (s.goesOn st (c.merge f.d.toNat (c.rp f.pr.toNat) (fun k => g (c.rv f.a.toNat k) (y k))) (c.pc + 1))
    (ok → f.fn.toNat % 16 = 0 → exec (.vsatuAdd st f) s = after (fun x y => BitVec.ofNat 32 (min (x.toNat + y.toNat) 4294967295))) ∧ (¬ok ∨ f.fn.toNat % 16 ≠ 0 → exec (.vsatuAdd st f) s = ill 0x12) ∧
    (ok → f.fn.toNat % 16 = 1 → exec (.vsatuSub st f) s = after (fun x y => BitVec.ofNat 32 (x.toNat - y.toNat))) ∧ (¬ok ∨ f.fn.toNat % 16 ≠ 1 → exec (.vsatuSub st f) s = ill 0x12) ∧
    (ok → f.fn.toNat % 16 = 2 → exec (.vsatsAdd st f) s = after (fun x y => BitVec.ofInt 32 (max (-2147483648) (min 2147483647 (x.toInt + y.toInt))))) ∧ (¬ok ∨ f.fn.toNat % 16 ≠ 2 → exec (.vsatsAdd st f) s = ill 0x12) ∧
    (ok → f.fn.toNat % 16 = 3 → exec (.vsatsSub st f) s = after (fun x y => BitVec.ofInt 32 (max (-2147483648) (min 2147483647 (x.toInt - y.toInt))))) ∧ (¬ok ∨ f.fn.toNat % 16 ≠ 3 → exec (.vsatsSub st f) s = ill 0x12) ∧
    (ok → f.fn.toNat % 16 = 0 → exec (.vminu st f) s = after (fun x y => if x.toNat < y.toNat then x else y)) ∧ (¬ok ∨ f.fn.toNat % 16 ≠ 0 → exec (.vminu st f) s = ill 0x13) ∧
    (ok → f.fn.toNat % 16 = 1 → exec (.vmins st f) s = after (fun x y => if x.toInt < y.toInt then x else y)) ∧ (¬ok ∨ f.fn.toNat % 16 ≠ 1 → exec (.vmins st f) s = ill 0x13) ∧
    (ok → f.fn.toNat % 16 = 0 → exec (.vmaxu st f) s = after (fun x y => if x.toNat < y.toNat then y else x)) ∧ (¬ok ∨ f.fn.toNat % 16 ≠ 0 → exec (.vmaxu st f) s = ill 0x14) ∧
    (ok → f.fn.toNat % 16 = 1 → exec (.vmaxs st f) s = after (fun x y => if x.toInt < y.toInt then y else x)) ∧ (¬ok ∨ f.fn.toNat % 16 ≠ 1 → exec (.vmaxs st f) s = ill 0x14)

/-- VSEL, VBCAST, VEXT, VINS and VIOTA move lanes as R177 and R178 say; any other field is ILLEGAL. Formalises R177, R178. -/
def Obligations.VectorSelectAndMove : Prop :=
  ∀ (s : State) (st : Site) (f : FmtO) (c : Ctx), Issuing s st c →
    let after := fun (x : Ctx) => Host.Outcome.next (φ := Fault) (ρ := Refusal) (s.goesOn st x (c.pc + 1))
    let ill := fun (op : Nat) => kept s (s.progExc st (f.word op) 1)
    (f.fn = 0 ∧ f.d.toNat < 16 ∧ f.a.toNat < 16 ∧ f.b.toNat < 16 → exec (.vsel st f) s = after (c.merge f.d.toNat 0xFF#8 (fun k => if (c.rp f.pr.toNat).getLsbD k then c.rv f.a.toNat k else c.rv f.b.toNat k))) ∧ (¬(f.fn = 0 ∧ f.d.toNat < 16 ∧ f.a.toNat < 16 ∧ f.b.toNat < 16) → exec (.vsel st f) s = ill 0x15) ∧
    (f.fn = 0 ∧ f.b = 0 ∧ f.d.toNat < 16 → exec (.vbcast st f) s = after (c.merge f.d.toNat (c.rp f.pr.toNat) (fun _ => (c.rs f.a).setWidth 32))) ∧ (¬(f.fn = 0 ∧ f.b = 0 ∧ f.d.toNat < 16) → exec (.vbcast st f) s = ill 0x16) ∧
    (f.fn = 1 ∧ f.pr = 0 ∧ f.b.toNat < 8 ∧ f.a.toNat < 16 → exec (.vext st f) s = after (c.ws f.d ((c.rv f.a.toNat f.b.toNat).setWidth 64))) ∧ (¬(f.fn = 1 ∧ f.pr = 0 ∧ f.b.toNat < 8 ∧ f.a.toNat < 16) → exec (.vext st f) s = ill 0x16) ∧
    (f.fn = 2 ∧ f.pr = 0 ∧ f.b.toNat < 8 ∧ f.d.toNat < 16 → exec (.vins st f) s = after (c.wv f.d.toNat f.b.toNat ((c.rs f.a).setWidth 32))) ∧ (¬(f.fn = 2 ∧ f.pr = 0 ∧ f.b.toNat < 8 ∧ f.d.toNat < 16) → exec (.vins st f) s = ill 0x16) ∧
    (f.fn = 3 ∧ f.a = 0 ∧ f.b = 0 ∧ f.d.toNat < 16 → exec (.viota st f) s = after (c.merge f.d.toNat (c.rp f.pr.toNat) (fun k => BitVec.ofNat 32 k))) ∧ (¬(f.fn = 3 ∧ f.a = 0 ∧ f.b = 0 ∧ f.d.toNat < 16) → exec (.viota st f) s = ill 0x16)

/-- The reductions combine exactly the lanes in P[pr]; the predicate instructions write Pd masked by P[pr], PTOS writes
Sd, and BKT updates both credits. Formalises R179, R181, R182, R159 (derived). -/
def Obligations.ReductionsAndPredicateResults : Prop :=
  (∀ (s : State) (st : Site) (f : FmtO) (c : Ctx), Issuing s st c → f.b = 0 →
    let m := c.rp f.pr.toNat
    let xs := ((List.range 8).filter (fun k => m.getLsbD k)).map (fun k => c.rv f.a.toNat k)
    let after := fun (r : W64) => Host.Outcome.next (φ := Fault) (ρ := Refusal) (s.goesOn st (c.ws f.d r) (c.pc + 1))
    (f.fn = 0 → f.a.toNat < 16 → exec (.vsum st f) s = after (BitVec.ofNat 64 (xs.map (·.toNat)).sum)) ∧
    (f.fn = 1 → f.a.toNat < 16 →
      exec (.vrminu st f) s = after (BitVec.ofNat 64 ((xs.map (·.toNat)).foldl min 0xFFFFFFFF))) ∧
    (f.fn = 2 → f.a.toNat < 16 → exec (.vrmaxu st f) s = after (BitVec.ofNat 64 ((xs.map (·.toNat)).foldl max 0))) ∧
    (f.fn = 3 → f.a.toNat < 16 → exec (.vror st f) s = after ((xs.foldl (· ||| ·) 0#32).setWidth 64)) ∧
    (f.fn = 4 → f.a = 0 →
      exec (.ppopc st f) s = after (BitVec.ofNat 64 ((List.range 8).countP (fun k => m.getLsbD k)))) ∧
    (f.fn = 5 → f.a = 0 → ∃ n, exec (.pfirst st f) s = after (BitVec.ofNat 64 n) ∧ n ≤ 8 ∧
      (∀ k < n, m.getLsbD k = false) ∧ (n < 8 → m.getLsbD n = true))) ∧
  (∀ (s : State) (st : Site) (f : FmtO) (c : Ctx), Issuing s st c →
    let p := fun (r : BitVec 5) => c.rp r.toNat
    let q := c.rp f.pr.toNat
    let afterP := fun (r : BitVec 8) => Host.Outcome.next (φ := Fault) (ρ := Refusal) (s.goesOn st (c.wp f.d.toNat r) (c.pc + 1))
    (f.d.toNat < 8 → f.a.toNat < 8 → f.b.toNat < 8 →
      (f.fn = 0 → exec (.pand st f) s = afterP ((p f.a &&& p f.b) &&& q)) ∧
      (f.fn = 1 → exec (.por st f) s = afterP ((p f.a ||| p f.b) &&& q)) ∧
      (f.fn = 2 → exec (.pxor st f) s = afterP ((p f.a ^^^ p f.b) &&& q)) ∧
      (f.fn = 3 → exec (.pandn st f) s = afterP ((p f.a &&& ~~~(p f.b)) &&& q)) ∧
      (f.fn = 4 → f.b = 0 → exec (.pnot st f) s = afterP (~~~(p f.a) &&& q))) ∧
    (f.fn = 5 → f.b = 0 → f.pr = 0 → f.a.toNat < 8 →
      exec (.ptos st f) s = .next (s.goesOn st (c.ws f.d ((p f.a).setWidth 64)) (c.pc + 1))) ∧
    (f.fn = 6 → f.b = 0 → f.d.toNat < 8 → exec (.pfroms st f) s = afterP ((c.rs f.a).setWidth 8 &&& q)) ∧
    (f.fn.toNat < 32 → f.d.toNat % 2 = 0 → f.d.toNat < 16 → f.a.toNat < 16 → f.b.toNat < 16 →
      exec (.bkt st f) s = .next (s.goesOn st (c.bkt f) (c.pc + 1))))

/-- SLD reads one word of every lane of a completed tag, SST writes one, and neither touches anything else. Formalises
R184, R185, R183 (derived). -/
def Obligations.StagingReadsAndWrites : Prop :=
  (∀ (s : State) (st : Site) (f : FmtO) (c : Ctx), Issuing s st c → ∀ (i : Nat) (t : Tag), (c.rs f.a).toNat = 64 * st.ctx + i → c.tags[i]? = some t → t.kind ≠ .cst →
    t.done = true → f.b = 0 → f.d.toNat < 16 → f.fn.toNat < t.kind.words →
    exec (.sld st f) s = .next (s.goesOn st (c.merge f.d.toNat (c.rp f.pr.toNat)
      (fun k => t.slot.get 0 (t.kind.words * k + f.fn.toNat))) (c.pc + 1))) ∧
  (∀ (s : State) (st : Site) (f : FmtO) (c : Ctx), Issuing s st c → ∀ (i : Nat) (t : Tag), (c.rs f.a).toNat = 64 * st.ctx + i → c.tags[i]? = some t → t.kind = .cld →
    t.done = true → f.d = 0 → f.b.toNat < 16 → f.fn.toNat < 16 → SMap.wf (fun _ => 0#32) t.slot = true →
    ∃ slot : SMap W32,
      exec (.sst st f) s = .next (s.goesOn st { c with tags := c.tags.set i { t with slot := slot } } (c.pc + 1)) ∧
      ∀ j, slot.get 0 j =
        if j % 16 = f.fn.toNat ∧ j / 16 < 8 ∧ (c.rp f.pr.toNat).getLsbD (j / 16) = true then c.rv f.b.toNat (j / 16)
        else t.slot.get 0 j)

/-- Memory operations take the lowest free tag, and WAIT and FENCE hold until their operations have completed. Formalises
R134, R135, R165, R186, R187, R188, R189, R190, R191, R136, R183 (derived). -/
def Obligations.MemoryOperationsWaitAndFence : Prop :=
  ((∀ (s : State) (st : Site) (f : FmtM) (c : Ctx), c.tags.length < 64 →
    let m := c.rp f.pr.toNat
    let start := fun (t : Tag) => Host.Outcome.next (φ := Fault) (ρ := Refusal)
      (s.goesOn st (({ c with tags := c.tags ++ [t] } : Ctx).ws f.d (BitVec.ofNat 64 (64 * st.ctx + c.tags.length))) (c.pc + 1))
    let row := (c.rs f.base).toNat + f.off.toNat
    (IssuingWord s st c (f.word 0x30) → s.inFlight st.core .cld < 32 → f.base = 0 → f.off = 0 →
      exec (.cld st f) s = start ⟨.cld, m, c.batch, [], false, []⟩) ∧
    (∀ (i : Nat) (t : Tag), IssuingWord s st c (f.word 0x31) → s.inFlight st.core .cst < 32 → f.off = 0 → (c.rs f.base).toNat = 64 * st.ctx + i →
      c.tags[i]? = some t → t.kind = .cld → t.done = true →
      exec (.cst st f) s = start ⟨.cst, m, c.batch, [], false, t.slot⟩) ∧
    (IssuingWord s st c (f.word 0x32) → s.inFlight st.core .rpt < 64 → row < 1408 → s.isBound (s.groupAt st) row = true →
      exec (.rpt st f) s = start ⟨.rpt, m, row, [], false, []⟩) ∧
    (IssuingWord s st c (f.word 0x33) → s.inFlight st.core .hnt < 64 → row < 1408 → s.isBound (s.groupAt st) row = true →
      exec (.hnt st f) s = start ⟨.hnt, m, row, [], false, []⟩) ∧
    (IssuingWord s st c (f.word 0x34) → s.inFlight st.core .tbl < 96 → f.base.toNat < 16 →
      (∀ k < 8, m.getLsbD k = true → (c.rv f.base.toNat k).toNat + f.off.toNat < 65536) →
      exec (.tbl st f) s =
        start ⟨.tbl, m, 0, (List.range 8).map (fun k => (c.rv f.base.toNat k).toNat + f.off.toNat), false, []⟩)) ∧
  (∀ (s : State) (st : Site) (f : FmtM) (c : Ctx), Issuing s st c → c.tags.length < 64 → 32 ≤ s.inFlight st.core .cld → f.base = 0 → f.off = 0 →
    exec (.cld st f) s = .next ((s.setCtx st { c with stalled := some (f.word 0x30) }).gcrCount st.core 7)) ∧
  (∀ (s : State) (st : Site) (f : FmtO) (c : Ctx) (w : W32), s.canIssue st = some c → c.stalled = some w →
    w ≠ f.word 0x00 → exec (.iadd st f) s = .next s)) ∧
  ((∀ (s : State) (st : Site) (f : FmtO) (c : Ctx), Issuing s st c → f.d = 0 → f.b = 0 → f.pr = 0 → f.fn = 0 →
    let x := (c.rs f.a).toNat
    ((x < 64 * st.ctx ∨ 64 * st.ctx + c.tags.length ≤ x) → exec (.wait st f) s = .next (s.goesOn st c (c.pc + 1))) ∧
    (∀ (i : Nat) (t : Tag), x = 64 * st.ctx + i → c.tags[i]? = some t →
      exec (.wait st f) s = .next (s.goesOn st (if t.done then c else { c with run := .waitTag i }) (c.pc + 1))) ∧
    (f.a = 0 → exec (.fenceI st f) s = .next (s.goesOn st
      (if c.tags.all (fun t => t.done) then c else { c with run := .fence }) (c.pc + 1)))) ∧
  (∀ (s : State) (g k i : Nat) (t : Tag), g < 104 → k < 4 → i < 64 → (s.ctx ⟨g, k⟩).tags[i]? = some t → t.done = false →
    let c := s.ctx ⟨g, k⟩
    let d := { t with done := true, slot := s.fillSlot (s.groupAt ⟨g, k⟩) i c t }
    exec (.memoryOpComplete g k i) s = .next (s.setCtx ⟨g, k⟩ (({ c with tags := c.tags.set i d } : Ctx).unblock))))

/-- GEMIT places one clamped pending grant for each lane in P[pr] that holds a unit, and changes no other lane. Formalises
R192, R143 (derived). -/
def Obligations.GrantEmission : Prop :=
  ∀ (s : State) (st : Site) (f : FmtO) (c : Ctx), Issuing s st c → f.d = 0 → f.fn = 0 → f.a.toNat < 16 → f.b.toNat < 16 → c.entry = .plan →
    SMap.wf (fun _ => (none : Option Grant)) c.pend = true →
    ∃ pend : SMap (Option Grant),
      exec (.gemit st f) s = .next (s.goesOn st { c with pend := pend } (c.pc + 1)) ∧
      ∀ k < 8, pend.get none k =
        match s.laneUnit (s.groupAt st) c.batch k with
        | none => c.pend.get none k
        | some u =>
          if (c.rp f.pr.toNat).getLsbD k = true then
            let size := min (min (c.rv f.a.toNat k).toNat 65535) (frameUnits (s.sub (s.unit u).sc))
            let pf := (c.rv f.b.toNat k).toNat % 128
            if size = 0 ∧ pf / 8 % 2 = 0 then none else some ⟨size, pf⟩
          else c.pend.get none k

/-- A branch is taken just when its condition on P[pr] holds, LOOP opens a loop, and ENDL takes the back edge or closes
it. Formalises R193, R194, R158 (derived). -/
def Obligations.BranchesAndLoops : Prop :=
  (∀ (s : State) (st : Site) (f : FmtB) (c : Ctx), Issuing s st c → 1 ≤ f.n.toNat → f.n.toNat < 16384 → c.pc + f.n.toNat < (s.progAt st).stop c.entry →
    let q := c.rp f.pr.toNat
    let takes := fun (i : Instr) (p : Prop) =>
      (p → exec i s = .next ((s.issuedOne st).setCtx st { c with pc := c.pc + f.n.toNat })) ∧
      (¬p → exec i s = .next (s.goesOn st c (c.pc + 1)))
    (f.cond = 0 → f.pr = 0 → takes (.br st f) (True)) ∧
    (f.cond = 1 → takes (.brAny st f) (q ≠ 0#8)) ∧
    (f.cond = 2 → takes (.brNone st f) (q = 0#8)) ∧
    (f.cond = 3 → takes (.brAll st f) (q = 0xFF#8)) ∧
    (f.cond = 4 → takes (.brNall st f) (q ≠ 0xFF#8))) ∧
  (∀ (s : State) (st : Site) (f : FmtB) (c : Ctx), Issuing s st c → f.cond = 0 → f.pr = 0 → 1 ≤ f.n.toNat → f.n.toNat ≤ 4096 → c.loops.length < 4 →
    exec (.loopI st f) s = .next (s.goesOn st { c with loops := ⟨c.pc + 1, f.n.toNat, 0⟩ :: c.loops } (c.pc + 1))) ∧
  (∀ (s : State) (st : Site) (f : FmtB) (c : Ctx), Issuing s st c → ∀ (e : LoopEnt) (r : List LoopEnt), f.cond = 0 → f.pr = 0 → f.n = 0 → c.loops = e :: r →
    (1 < e.left → exec (.endl st f) s = .next ((s.issuedOne st).setCtx st
      { c with loops := ⟨e.ret, e.left - 1, e.idx + 1⟩ :: r, pc := e.ret })) ∧
    (e.left ≤ 1 → exec (.endl st f) s = .next (s.goesOn st { c with loops := r } (c.pc + 1))))

/-- HALT releases the batch, an upset restarts it once if it still fits, and a field that must be zero and is not raises
ILLEGAL. Formalises R130, R132, R133, R195, R157, R151, R164, R196, R198 (derived). -/
def Obligations.HaltAndIllegalEndTheBatch : Prop :=
  ((∀ (s : State) (st : Site) (f : FmtB) (c : Ctx), s.canIssue st = some c → c.stalled = none → f.cond = 0 → f.pr = 0 → f.n = 0 →
    (c.entry = .plan → exec (.halt st f) s = kept s ((s.issuedOne st).haltPlan st)) ∧
    (c.entry = .install ∨ c.entry = .retire → exec (.halt st f) s = kept s ((s.writeRows st).nextWork st)) ∧
    (c.entry = .plan → SMap.wf (fun _ => (none : Option Grant)) s.grant.released = true → SMap.wf Core.dflt s.grant.cores = true →
      ∃ t, exec (.halt st f) s = .next t ∧
        (∀ k < 8, (s.laneUnit (s.groupAt st) c.batch k).isSome = true →
          t.grant.released.get none (laneKey (s.groupAt st) c.batch k) = c.pend.get none k) ∧
        (t.core st.core).finish = s.clk.cycle)) ∧
  (∀ (s : State) (st : Site), st.core < 104 → st.ctx < 4 → (s.ctx st).run ≠ .idle →
    let c := s.ctx st
    let q := s.groupAt st
    let u := ((s.gcrCount st.core 1).countError 0 st.core).raiseOnce evCoreUpset st.core st.core
    let fits := c.upsets = 0 ∧ max (s.progAt st).instBound (s.progAt st).retBound + 32 ≤ u.winLeft
    (c.entry = .plan → c.upsets = 0 → s.clk.cycle + (s.progAt st).planBound ≤ 196000 →
      SMap.wf (fun _ => ({} : Ctx)) s.grant.ctxs = true →
      ∃ t, exec (.coreUpset st) s = .next t ∧
        (t.ctx st).upsets = 1 ∧ (t.ctx st).batch = c.batch ∧ (t.ctx st).s = [] ∧ (t.ctx st).v = [] ∧
        (t.ctx st).tags = [] ∧ (t.ctx st).pend = [] ∧ (t.ctx st).loops = [] ∧ (t.ctx st).run = .ready) ∧
    (c.entry = .plan → (c.upsets ≠ 0 ∨ 196000 < u.clk.cycle + (s.progAt st).planBound) →
      exec (.coreUpset st) s = kept s ((u.markBatch q c.batch .missed).nextWork st)) ∧
    (c.entry = .install ∨ c.entry = .retire → fits →
      exec (.coreUpset st) s = kept s (((u.abandon st).countUsed st).setCtx st (((u.abandon st).countUsed st).entryCtx q c.unit c.entry 1))) ∧
    (c.entry = .install ∨ c.entry = .retire → ¬fits →
      exec (.coreUpset st) s = kept s (((u.entryFailed st).countError 0 st.core).nextWork st))) ∧
  (∀ (s : State) (st : Site), st.core < 104 → st.ctx < 4 → (s.ctx st).run = .idle → exec (.coreUpset st) s = .next s)) ∧
  (let rec1 := fun (s : State) (st : Site) (c : Ctx) (w : W32) (i : Instr) => ∃ t, exec i s = .next t ∧
    (t.core st.core).diagCause = 1 ∧ (t.core st.core).diagPc = c.pc ∧ (t.core st.core).diagBatch = c.batch ∧
    (t.core st.core).diagInsn = w ∧ (t.core st.core).diagMsc = c.msc
  (∀ (s : State) (st : Site) (f : FmtO) (c : Ctx), s.canIssue st = some c → c.stalled = none → c.entry = .plan →
    SMap.wf Core.dflt s.grant.cores = true → f.pr ≠ 0 → rec1 s st c (f.word 0x00) (.iadd st f)) ∧
  (∀ (s : State) (st : Site) (f : FmtB) (c : Ctx), s.canIssue st = some c → c.stalled = none → c.entry = .plan →
    SMap.wf Core.dflt s.grant.cores = true → f.n = 0 → rec1 s st c (f.word 0x38) (.br st f)))

/-- A step runs the command at the front of the queue on the state with the rest; with none waiting, one hub cycle passes
or time waits at a phase point. Formalises 95_what_each_step_holds.md, R38, R40, R371 (derived). -/
def Obligations.StepRunsTheFrontCommand : Prop :=
  (∀ (c : Instr) (r : List Instr) (s : State), s.pending = c :: r → step s = exec c { s with pending := r }) ∧
  (∀ s : State, s.pending = [] →
    (s.clk.running = true → s.clk.cycle + 1 < s.clk.phase.nextPoint → ∃ t, step s = .next t ∧
      t.clk.cycle = s.clk.cycle + 1 ∧ t.clk.msc = s.clk.msc ∧ t.time.dev = s.time.dev + 32768 ∧ t.regs = s.regs) ∧
    (s.clk.running = true → s.clk.phase.nextPoint ≤ s.clk.cycle + 1 → step s = .next s) ∧
    (s.clk.running = false → ∃ t, step s = .next t ∧
      t.clk.cycle = s.clk.cycle ∧ t.clk.msc = s.clk.msc ∧ t.time.dev = s.time.dev + 32768 ∧ t.regs = s.regs))

/-- No command is refused, and only an access that no function claims stops the machine. Formalises R224, R225, R258
(derived). -/
def Obligations.EveryCommandIsCarriedOut : Prop :=
  ∀ (i : Instr) (s : State), SafeOutcome (exec i s) ∧ (isAccess i = false → ∃ t, exec i s = .next t)

/-- After reset the device is at stage 0, the counts read zero, time is not valid, nothing waits and the register file is
in canonical form. Formalises R521, R67, R376, R533, R228, R232, R224, 95_what_each_step_holds.md, R9 (derived). -/
def Obligations.ResetLeavesTheStatedValues : Prop :=
  (State.reset.stage = 0 ∧ State.reset.clk.running = false ∧ State.reset.clk.msc = 0 ∧ State.reset.clk.cycle = 0 ∧
    State.reset.time.valid = false ∧ State.reset.time.servo = .freerun ∧ State.reset.fld (pwrA 0x4) 3 0 = 1 ∧
    State.reset.deferred = [] ∧ (∀ r, (State.reset.ring r).st = .disabled) ∧
    (∀ d, 1 ≤ d → State.reset.domRoad d = .disabled) ∧ State.reset.reg 0x0 = 0x019201A1#64) ∧
  (State.reset.QueueWf ∧
  State.reset.pending = [] ∧
  (SMap.wf regReset State.reset.regs = true) ∧
  (State.reset.clk.cycle < State.reset.clk.phase.nextPoint))

/-- Each phase point of the interval carries the clock to its own hub cycle, and the delivery deadline takes the ledger
record. Formalises R37, R38, R40, R41, R63, R39 (derived). -/
def Obligations.IntervalPhasePoints : Prop :=
  (∀ s : State, s.clk.running = true →
    let at' := fun (t : State) (c : Nat) (p : Phase) =>
      t.clk = { s.clk with cycle := c, phase := p, hubc := s.clk.hubc + (c - s.clk.cycle) } ∧
      t.time.dev = (s.clk.msc * 250000 + c) * 32768 + s.time.dev % 32768
    (s.clk.phase = .afterDelivery → ∃ t, exec .milestone s = .next t ∧
      t.clk.msc = s.clk.msc + 1 ∧ t.clk.cycle = 0 ∧ t.clk.phase = .afterMilestone ∧ t.clk.running = true ∧
      t.time.dev = (s.clk.msc + 1) * 250000 * 32768) ∧
    (s.clk.phase = .afterMilestone → ∃ t, exec .snapshot s = .next t ∧ at' t 4000 .afterSnapshot) ∧
    (s.clk.phase = .afterSnapshot → ∃ t, exec .planDeadline s = .next t ∧ at' t 196000 .afterDeadline) ∧
    (s.clk.phase = .afterDeadline → ∃ t, exec .commitPoint s = .next t ∧ at' t 232000 .afterCommit) ∧
    (s.clk.phase = .afterCommit → SMap.wf Sub.dflt s.pon.subs = true → SMap.wf regReset s.regs = true →
      ∃ t, exec .deliveryDeadline s = .next t ∧
      at' t 242000 .afterDelivery ∧
      t.reg (mstA 0x28) = BitVec.ofNat 64 (((s.reg (mstA 0x28)).toNat +
        s.pon.subs.countWhere (fun _ x => x.built.isSome && !x.accepted)) % 2 ^ 32) ∧
      ∃ r, t.pon.recPending = some r ∧ r.msc = s.clk.msc ∧
        ∀ sc, r.totals.get {} sc = (s.sub sc).led.grant (s.sub sc).acceptedBursts)) ∧
  (∀ (s : State) (i : Instr) (p : Phase),
    (i, p) ∈ [(Instr.milestone, Phase.afterDelivery), (.snapshot, .afterMilestone), (.planDeadline, .afterSnapshot),
      (.commitPoint, .afterDeadline), (.deliveryDeadline, .afterCommit)] →
    s.clk.running = false ∨ s.clk.phase ≠ p → exec i s = .next s)

/-- A framer accepts its roadbook between the commit point and 121 µs only, and a durable record counts its bursts as
GRANTED. Formalises R33, R41, R62, R63, R138 (derived). -/
def Obligations.RoadbookAcceptanceAndRecord : Prop :=
  (∀ (s : State) (sc : Nat), s.clk.running = true → s.clk.phase = .afterCommit → (s.sub sc).built.isSome = true →
    (s.sub sc).accepted = false →
    exec (.roadbookDelivery sc) s =
      .next ((s.setSub sc { s.sub sc with accepted := true }).emit (.roadbook sc (s.clk.msc + 1)))) ∧
  (∀ (s : State) (sc : Nat), s.clk.phase ≠ .afterCommit → exec (.roadbookDelivery sc) s = .next s) ∧
  (∀ s : State, (s.health 8 0).st.alive = false → (s.health 8 1).st.alive = false →
    exec .ledgerRecordDurable s = .next s) ∧
  (∀ (s : State) (sc : Nat) (k : Book), (s.health 8 0).st.alive = true ∨ (s.health 8 1).st.alive = true →
    s.pon.recPending.isSome = true → SMap.wf Sub.dflt s.pon.subs = true → (s.sub sc).built = some k →
    (s.sub sc).accepted = true → (s.sub sc).oos = false →
    ∃ t, exec .ledgerRecordDurable s = .next t ∧ t.pon.recPending = none ∧
      (t.sub sc).led.granted = (s.sub sc).led.granted + k.bursts.length ∧
      (t.sub sc).led.onRoad = (s.sub sc).led.onRoad + k.bursts.length) ∧
  (∀ s : State, SMap.wf (fun _ => ({} : Report)) s.grant.reports = true → ∃ t, exec .reportSweep s = .next t ∧
    ∀ k, t.grant.reports.get {} k =
      let r := s.grant.reports.get {} k
      if 8192 ≤ (s.clk.msc + 32768 - r.stamp % 32768) % 32768 then { r with valid := false, prevValid := false } else r)

/-- The maintenance window of a group starts the entry of a unit that is installed or retired with it. Formalises R131,
R132, R160 (derived). -/
def Obligations.MaintenanceWindowRunsEntries : Prop :=
  ∀ (s : State) (q g u : Nat), s.clk.running = true → 5 ≤ s.stage → 196000 ≤ s.clk.cycle → s.coreOf q = some g →
    (s.core g).st ≠ .lost → (s.core g).group = some q → (∀ p ∈ s.deferred, ∀ v d, p.change = .waypointReturn v d → p.e ≠ s.clk.msc + 2) →
    (∀ p ∈ s.deferred, ∀ d b, p.change = .domainTeardown d b → p.e ≠ s.clk.msc + 2) →
    s.windowEntries q (s.clk.msc + 2) = [(u, .install)] →
    (∀ p ∈ s.deferred, ∀ a b, p.change = .coreDetour a b → p.e ≠ s.clk.msc + 2) → s.mgmt.pair.kat = [] →
    ((s.group q).prog (s.entrySlot q .install)).instLen ≠ 0 → (s.group q).entries = [] → (s.ctx ⟨g, 0⟩).run = .idle →
    SMap.wf (fun _ => ({} : Ctx)) s.grant.ctxs = true → SMap.wf (fun _ => ({} : Group)) s.grant.groups = true →
    ∃ t, exec (.maintWindow q) s = .next t ∧
      (t.ctx ⟨g, 0⟩).run = .ready ∧ (t.ctx ⟨g, 0⟩).entry = .install ∧ (t.ctx ⟨g, 0⟩).unit = u ∧
      (t.ctx ⟨g, 0⟩).msc = BitVec.ofNat 32 (s.clk.msc + 2)

/-- A burst takes exactly one outcome: the first is counted once in its sub-channel's totals, and a second changes
nothing. Formalises R61, R62, R79, R81 (derived). -/
def Obligations.OneOutcomeForEachBurst : Prop :=
  ((∀ (s : State) (sc m i : Nat) (rx : BurstRx) (k : Book) (b : Burst), SMap.wf Sub.dflt s.pon.subs = true →
    (s.sub sc).books.find? (fun k => k.msc == m) = some k → k.counted = true → k.bursts[i]? = some b →
    b.outcome = none → m + (s.sub sc).len ≤ s.clk.msc + 1 →
    ∃ t, exec (.burstOutcome sc m i rx) s = .next t ∧
      (t.sub sc).led = (s.sub sc).led.count (s.outcomeOf sc m b rx) ∧
      ∃ k' b', (t.sub sc).books.find? (fun k => k.msc == m) = some k' ∧ k'.bursts[i]? = some b' ∧
        b'.outcome = some (s.outcomeOf sc m b rx)) ∧
  (∀ (s : State) (sc m i : Nat) (rx : BurstRx) (k : Book) (b : Burst) (o : Outc),
    (s.sub sc).books.find? (fun k => k.msc == m) = some k → k.bursts[i]? = some b → b.outcome = some o →
    exec (.burstOutcome sc m i rx) s = .next s) ∧
  (∀ (s : State) (sc m i : Nat) (rx : BurstRx) (k : Book) (b : Burst),
    (s.sub sc).books.find? (fun k => k.msc == m) = some k → k.bursts[i]? = some b → b.received = false →
    m + (s.sub sc).len ≤ s.clk.msc + 1 →
    let t := (s.modBurst sc m i (fun b => { b with
      received := true, loaded := some ((s.term sc b.term).pre.phase b.prof) })).modSub sc (fun x => { x with sd := rx.sdNow })
    let follows := (b.kind == .data || b.kind == .ploamOnly) && (s.sub sc).follows (m * frameUnits (s.sub sc) + b.start)
    (follows = true → exec (.burstReception sc m i rx) s = kept s (t.emit
      (.burstReset sc (if sc % 2 = 0 then s.fld (chnA (sc / 2) 0x8) 7 0 else s.fld (chnA (sc / 2) 0x8) 15 8)
        (s.bit (chnA (sc / 2) 0x8) (16 + sc % 2))))) ∧
    (follows = false → exec (.burstReception sc m i rx) s = kept s t))) ∧
  (∀ (s : State) (sc m : Nat) (b : Burst) (rx : BurstRx), (s.sub sc).oos = false → b.kind = .data →
    s.burstDiscarded sc b = false → (s.term sc b.term).rtFrame = none →
    let tol : Int := (s.sub sc).phaseTol
    (rx.overlap = true → s.outcomeOf sc m b rx = .collided) ∧
    (rx.overlap = false → s.lightOf sc rx = false → s.outcomeOf sc m b rx = .empty) ∧
    (rx.overlap = false → s.lightOf sc rx = true → rx.delim = true → rx.offset < -tol → s.outcomeOf sc m b rx = .early) ∧
    (rx.overlap = false → s.lightOf sc rx = true → rx.delim = true → -tol ≤ rx.offset → tol < rx.offset →
      s.outcomeOf sc m b rx = .late) ∧
    (rx.overlap = false → s.lightOf sc rx = true → (rx.delim = true → -tol ≤ rx.offset ∧ rx.offset ≤ tol) →
      rx.lock = false ∨ rx.delim = false ∨ rx.clean = false ∨ rx.lost = true ∨ s.hitByLoss sc m b = true → s.outcomeOf sc m b rx = .corrupt) ∧
    (rx.overlap = false → s.lightOf sc rx = true → rx.delim = true → -tol ≤ rx.offset → rx.offset ≤ tol → rx.lock = true →
      rx.clean = true → rx.lost = false → s.hitByLoss sc m b = false → s.outcomeOf sc m b rx = .arrived))

/-- Drains end when their outcomes are written, and every granted burst is accounted for in the ledger. Formalises R55,
R66, R62 (derived). -/
def Obligations.DrainsEndAndLedgerBalances : Prop :=
  ((∀ (s : State) (sc e : Nat), (s.sub sc).drainE = some e → s.roadClear sc e = false → s.mgmt.pair.trees.get none (sc / 2) = none →
    exec (.drainDone .subch sc) s = .next s) ∧
  (∀ (s : State) (sc e : Nat), (s.sub sc).drainE = some e → s.roadClear sc e = true → s.mgmt.pair.trees.get none (sc / 2) = none →
    SMap.wf Sub.dflt s.pon.subs = true →
    ((s.sub sc).road = .draining → exec (.drainDone .subch sc) s =
      kept s ((((s.setSub sc { s.sub sc with road := .disabled, drainE := none, discard := false, oos := false }).raise 0x012
        (1 * 2 ^ 28 + sc % 2 ^ 24)).treeDrainEnd (sc / 2)).release sc)) ∧
    ((s.sub sc).road = .resuming → exec (.drainDone .subch sc) s =
      kept s (((s.setSub sc { s.sub sc with drainE := none, discard := false }).raise 0x012 (1 * 2 ^ 28 + sc % 2 ^ 24)).treeDrainEnd (sc / 2)))) ∧
  (∀ (s : State) (sc t e : Nat), t < 512 → (s.term sc t).drainE = some e →
    (s.roadClear sc e = false → exec (.drainDone .term (512 * sc + t)) s = .next s) ∧
    (s.roadClear sc e = true → (s.term sc t).act = .draining → (s.term sc t).road = .draining →
      exec (.drainDone .term (512 * sc + t)) s = kept s ((s.raise 0x012 (2 * 2 ^ 28 + (512 * sc + t) % 2 ^ 24)).afterShut sc t)) ∧
    (s.roadClear sc e = true → (s.term sc t).act ≠ .draining → (s.term sc t).road = .resuming ∨ (s.term sc t).road = .draining →
      exec (.drainDone .term (512 * sc + t)) s = kept s ((s.raise 0x012 (2 * 2 ^ 28 + (512 * sc + t) % 2 ^ 24)).modTerm sc t
        (fun y => { y with road := .disabled, drainE := none, discard := false })))) ∧
  (∀ (s : State) (u e : Nat), (s.unit u).drainE = some e →
    (s.roadClear (s.unit u).sc e = false → exec (.drainDone .unit u) s = .next s) ∧
    (s.roadClear (s.unit u).sc e = true → (s.unit u).road = .draining →
      exec (.drainDone .unit u) s = kept s ((s.removeUnit u).raise 0x012 (3 * 2 ^ 28 + u % 2 ^ 24))) ∧
    (s.roadClear (s.unit u).sc e = true → (s.unit u).road = .resuming → exec (.drainDone .unit u) s =
      kept s ((s.setUnit u { s.unit u with drainE := none, discard := false }).raise 0x012 (3 * 2 ^ 28 + u % 2 ^ 24)))) ∧
  (∀ (s : State) (f e : Nat), (s.flow f).drainE = some e →
    (s.roadClear (s.flow f).sc e = false → exec (.drainDone .flow f) s = .next s) ∧
    (s.roadClear (s.flow f).sc e = true → (s.flow f).road = .draining →
      exec (.drainDone .flow f) s = kept s ((s.removeFlow f).raise 0x012 (4 * 2 ^ 28 + f % 2 ^ 24))) ∧
    (s.roadClear (s.flow f).sc e = true → (s.flow f).road = .resuming → exec (.drainDone .flow f) s =
      kept s ((s.setFlow f { s.flow f with drainE := none, discard := false }).raise 0x012 (4 * 2 ^ 28 + f % 2 ^ 24)))) ∧
  (∀ (s : State) (d e : Nat), (s.domE d).drainE = some e → SMap.wf (fun _ => ({} : Dom)) s.doms = true →
    (s.domainEmpty d = false ∨ (s.come (some e) = false) → exec (.drainDone .domain d) s = .next s) ∧
    (s.domainEmpty d = true → s.come (some e) = true → (s.domE d).road = .draining →
      ∃ t, exec (.drainDone .domain d) s = .next t ∧ (t.domE d).road = .disabled ∧ (t.domE d).drainE = none))) ∧
  (let balanced := fun (l : Ledger) =>
    l.granted = l.arrived + l.empty + l.early + l.late + l.corrupt + l.collided + l.discarded + l.onRoad
  (∀ (l : Ledger) (o : Outc), balanced l → 1 ≤ l.onRoad → balanced (l.count o)) ∧
  (∀ (l : Ledger) (n : Nat), balanced l → balanced (l.grant n)) ∧
  (∀ (s : State) (sc m i : Nat) (o : Outc), SMap.wf Sub.dflt s.pon.subs = true → balanced (s.sub sc).led →
    1 ≤ (s.sub sc).led.onRoad → balanced ((s.writeOutcome sc m i o).sub sc).led))

/-- Commands of family 0x01: enable and disable are deferred to E, and parameters take effect when they complete.
Formalises R54, R55, R59, R75, R84, R93, R102, R243 (derived). -/
def Obligations.SubchannelCommands : Prop :=
  (∀ (c : Desc) (s : State), Starts infoEnable c s → let z := s.jrnStart c
    ∀ e, c.n0 < 384 → z.isProtect (c.n0 / 2) = false → (z.sub c.n0).isPending = false → (z.sub c.n0).road = .disabled → guardShort (z.sub c.n0) c.n0 (z.sub c.n0).guardBits (z.brstWidth c.n0 + 4) = false → z.chRoom c.n0 = true → z.reserved (scDie c.n0) + z.creditNeed c.n0 ≤ z.budget (scDie c.n0) → z.resolveE none c = .ok e → z.pendFits 1 = true →
    exec (.enable c) s = kept s (((((z.reserve c.n0).chBind c.n0).modSub c.n0 (fun x => { x with pendE := some e, resumeAcc := none })).defer c e (.subEnable c.n0) : State).complete c.acc { status := stDeferred, msc := some e })) ∧
  (∀ (c : Desc) (s : State), Starts infoEnable c s → let z := s.jrnStart c
    ∀ e, c.n0 < 384 → z.isProtect (c.n0 / 2) = false → (z.sub c.n0).isPending = false → (z.sub c.n0).road = .draining → guardShort (z.sub c.n0) c.n0 (z.sub c.n0).guardBits (z.brstWidth c.n0 + 4) = false → z.chRoom c.n0 = true → z.reserved (scDie c.n0) + z.creditNeed c.n0 ≤ z.budget (scDie c.n0) → z.resolveE none c = .ok e → z.pendFits 0 = true →
    exec (.enable c) s = kept s (((z.reserve c.n0).chBind c.n0).modSub c.n0 (fun x => { x with road := .resuming, resumeR := some (max e (x.drainE.getD 0 + x.len)), resumeAcc := some c.acc }))) ∧
  (∀ (c : Desc) (s : State), Starts infoDisable c s → let z := s.jrnStart c
    ∀ e, c.n0 < 384 → z.isProtect (c.n0 / 2) = false → (z.sub c.n0).isPending = false → (z.sub c.n0).road = .enabled → z.resolveE none c = .ok e → z.pendFits 1 = true →
    exec (.disable c) s = kept s (((z.modSub c.n0 (fun x => { x with pendE := some e })).defer c e (.subDisable c.n0 (decide (c.n1 = 1))) : State).complete c.acc { status := stDeferred, msc := some e })) ∧
  (∀ (c : Desc) (s : State), Starts infoSetRoadLength c s → let z := s.jrnStart c
    z.isProtect (c.n0 / 2) = false → (z.sub c.n0).road = .disabled →
    exec (.setRoadLength c) s = kept s ((z.modSub c.n0 (fun x => { x with len := c.n1, reLen := true }) : State).complete c.acc { status := stOk })) ∧
  (∀ (c : Desc) (s : State), Starts infoSetRoadLength c s → let z := s.jrnStart c
    (z.sub c.n0).road ≠ .disabled →
    exec (.setRoadLength c) s = kept s ((z : State).complete c.acc { status := stState })) ∧
  (∀ (c : Desc) (s : State), Starts infoSetSubchParams c s → let z := s.jrnStart c
    z.isProtect (c.n0 / 2) = false → (z.sub c.n0).road = .disabled → z.paramsOk c.n0 c.inp = true →
    exec (.setSubchParams c) s = kept s (((z.modSub c.n0 (fun x => { x with rate := leAt c.inp 0 1, guardBits := leAt c.inp 2 2, phaseTol := leAt c.inp 4 2, profiles := (List.range 4).map (readProfile c.inp), paramsSet := true })).sendProfiles c.n0 : State).complete c.acc { status := stOk })) ∧
  (∀ (c : Desc) (s : State), Starts infoSetSubchParams c s → let z := s.jrnStart c
    (z.sub c.n0).road ≠ .disabled → z.paramsOk c.n0 c.inp = true →
    exec (.setSubchParams c) s = kept s ((z : State).complete c.acc { status := stState })) ∧
  (∀ (c : Desc) (s : State), Starts infoSetDiscovery c s → let z := s.jrnStart c
    z.isProtect (c.n0 / 2) = false → c.n2 % 2 ^ 16 + c.n2 / 2 ^ 16 ≤ (z.len c.n0 - 1) * 125 →
    exec (.setDiscovery c) s = kept s ((z.modSub c.n0 (fun x => { x with disc := { x.disc with period := c.n1, rttMin := c.n2 % 2 ^ 16, diff := c.n2 / 2 ^ 16, admitNew := decide (c.n3 = 1), admitDom := c.dom, nextDue := 0 } }) : State).complete c.acc { status := stOk })) ∧
  (∀ (c : Desc) (s : State), Starts infoSetDiscovery c s → let z := s.jrnStart c
    z.isProtect (c.n0 / 2) = false → (z.len c.n0 - 1) * 125 < c.n2 % 2 ^ 16 + c.n2 / 2 ^ 16 →
    exec (.setDiscovery c) s = kept s ((z : State).complete c.acc { status := stBadArg })) ∧
  (∀ (c : Desc) (s : State), Starts infoResetTree c s → let z := s.jrnStart c
    z.isProtect c.n0 = false → (z.sub (2 * c.n0)).road = .disabled → (z.sub (2 * c.n0 + 1)).road = .disabled →
    exec (.resetTree c) s = kept s ((z.resetTree c.n0 : State).complete c.acc { status := stOk })) ∧
  (∀ (c : Desc) (s : State), Starts infoResetTree c s → let z := s.jrnStart c
    (z.sub (2 * c.n0)).road ≠ .disabled ∨ (z.sub (2 * c.n0 + 1)).road ≠ .disabled →
    exec (.resetTree c) s = kept s ((z : State).complete c.acc { status := stState }))

/-- Commands of family 0x02 that create, remove and shut down terminals move them as the table of transitions says.
Formalises R98, R99, R100, R101, R258 (derived). -/
def Obligations.TerminalObjectCommands : Prop :=
  (∀ (c : Desc) (s : State), Starts infoAddTerminal c s → let z := s.jrnStart c
    (z.term c.psc c.pt).act = .free → z.isProtect (c.psc / 2) = false → z.underTest c.psc c.pt = false → (z.termsOf c.psc).any (fun t => (z.term c.psc t).serial == snOf c) = false →
    exec (.addTerminal c) s = kept s ((z.setTerm c.psc c.pt { act := .registered, serial := snOf c, dom := c.dom, regId := if c.bufLen = 36 then some c.inp else none } : State).complete c.acc { status := stOk })) ∧
  (∀ (c : Desc) (s : State), Starts infoRemoveTerminal c s → let z := s.jrnStart c
    ∀ a, a = .registered ∨ a = .disabled → (z.term c.psc c.pt).act = a → (z.term c.psc c.pt).dom = c.dom → z.isProtect (c.psc / 2) = false → z.underTest c.psc c.pt = false → z.termUsed c.psc c.pt = false →
    exec (.removeTerminal c) s = kept s ((z.freeTerm c.psc c.pt : State).complete c.acc { status := stOk })) ∧
  (∀ (c : Desc) (s : State), Starts infoRemoveTerminal c s → let z := s.jrnStart c
    ∀ a, a ≠ .free → a ≠ .registered → a ≠ .disabled → (z.term c.psc c.pt).act = a → (z.term c.psc c.pt).dom = c.dom → z.isProtect (c.psc / 2) = false → z.underTest c.psc c.pt = false →
    exec (.removeTerminal c) s = kept s ((z : State).complete c.acc { status := stState })) ∧
  (∀ (c : Desc) (s : State), Starts infoDeactivateTerminal c s → let z := s.jrnStart c
    ∀ e, (z.term c.psc c.pt).act = .operation → (z.term c.psc c.pt).dom = c.dom → z.isProtect (c.psc / 2) = false → z.underTest c.psc c.pt = false → z.shutPending c.psc c.pt = false → z.resolveE none c = .ok e → z.pendRoom = true →
    exec (.deactivateTerminal c) s = kept s ((z.defer c e (.termDeact c.psc c.pt (decide (c.n1 = 1)) false) : State).complete c.acc { status := stDeferred, msc := some e })) ∧
  (∀ (c : Desc) (s : State), Starts infoDeactivateTerminal c s → let z := s.jrnStart c
    ∀ a, a = .registered ∨ a = .disabled → (z.term c.psc c.pt).act = a → (z.term c.psc c.pt).dom = c.dom → z.isProtect (c.psc / 2) = false → z.underTest c.psc c.pt = false → z.shutPending c.psc c.pt = false →
    exec (.deactivateTerminal c) s = kept s ((z : State).complete c.acc { status := stOk })) ∧
  (∀ (c : Desc) (s : State), Starts infoDisableSerial c s → let z := s.jrnStart c
    ∀ e, (z.term c.psc c.pt).act = .operation → (z.term c.psc c.pt).dom = c.dom → z.isProtect (c.psc / 2) = false → z.underTest c.psc c.pt = false → z.shutPending c.psc c.pt = false → z.resolveE none c = .ok e → z.pendRoom = true →
    exec (.disableSerial c) s = kept s ((z.defer c e (.termDeact c.psc c.pt (decide (c.n1 = 1)) true) : State).complete c.acc { status := stDeferred, msc := some e })) ∧
  (∀ (c : Desc) (s : State), Starts infoEnableSerial c s → let z := s.jrnStart c
    (z.term c.psc c.pt).act = .disabled → (z.term c.psc c.pt).dom = c.dom → z.isProtect (c.psc / 2) = false → z.underTest c.psc c.pt = false →
    exec (.enableSerial c) s = kept s (((((z.sendDisable c.psc c.pt z.nextFrame true).setTerm c.psc c.pt { z.term c.psc c.pt with act := .registered, cmdDis := false, rogueIso := false }).setRetd c.psc c.pt
      { ((z.sendDisable c.psc c.pt z.nextFrame true).setTerm c.psc c.pt { z.term c.psc c.pt with act := .registered, cmdDis := false, rogueIso := false }).retd c.psc c.pt with rogue := false }) : State).complete c.acc { status := stOk })) ∧
  (∀ (c : Desc) (s : State), Starts infoRangeTerminal c s → let z := s.jrnStart c
    ∀ e, (z.term c.psc c.pt).act = .operation → (z.term c.psc c.pt).dom = c.dom → z.isProtect (c.psc / 2) = false → z.underTest c.psc c.pt = false → z.resolveE none c = .ok e → z.pendRoom = true →
    exec (.rangeTerminal c) s = kept s ((z.defer c e (.termRange c.psc c.pt) : State).complete c.acc { status := stDeferred, msc := some e })) ∧
  (∀ (c : Desc) (s : State), Starts infoRangeTerminal c s → let z := s.jrnStart c
    ∀ a, a ≠ .free → a ≠ .operation → (z.term c.psc c.pt).act = a → (z.term c.psc c.pt).dom = c.dom → z.isProtect (c.psc / 2) = false → z.underTest c.psc c.pt = false →
    exec (.rangeTerminal c) s = kept s ((z : State).complete c.acc { status := stState })) ∧
  (∀ (c : Desc) (s : State), Starts infoReadTerminal c s → let z := s.jrnStart c
    ((z.term c.psc c.pt).act = .free → exec (.readTerminal c) s = kept s (z.complete c.acc { status := stNotFound })) ∧
    ((z.term c.psc c.pt).act ≠ .free → (z.term c.psc c.pt).dom ≠ c.dom →
      exec (.readTerminal c) s = kept s (z.complete c.acc { status := stDomain })))

/-- Commands of family 0x02 that set, read and send change or report exactly what their rules name. Formalises R85, R103,
R109, R114, R115, R117, R122, R123, R245 (derived). -/
def Obligations.TerminalSettingCommands : Prop :=
  (∀ (c : Desc) (s : State), Starts infoSetBurstProfile c s → let z := s.jrnStart c
    ∀ e a, a ≠ .free → (z.term c.psc c.pt).act = a → (z.term c.psc c.pt).dom = c.dom → z.isProtect (c.psc / 2) = false → z.underTest c.psc c.pt = false → c.n1 ≠ 0 → (z.term c.psc c.pt).pre.valid = true → (z.term c.psc c.pt).pre.fault = false → (z.term c.psc c.pt).pre.pend = false → z.preAge (z.term c.psc c.pt).pre ≤ z.preloadAge c.psc → z.resolveE none c = .ok e → z.pendRoom = true →
    exec (.setBurstProfile c) s = kept s ((z.defer c e (.burstProfile c.psc c.pt c.n1) : State).complete c.acc { status := stDeferred, msc := some e })) ∧
  (∀ (c : Desc) (s : State), Starts infoSetBurstProfile c s → let z := s.jrnStart c
    ∀ a, a ≠ .free → (z.term c.psc c.pt).act = a → (z.term c.psc c.pt).dom = c.dom → z.isProtect (c.psc / 2) = false → z.underTest c.psc c.pt = false → c.n1 ≠ 0 → ((z.term c.psc c.pt).pre.valid = false ∨ (z.term c.psc c.pt).pre.fault = true ∨ (z.term c.psc c.pt).pre.pend = true ∨ z.preloadAge c.psc < z.preAge (z.term c.psc c.pt).pre) →
    exec (.setBurstProfile c) s = kept s ((z : State).complete c.acc { status := stState })) ∧
  (∀ (c : Desc) (s : State), Starts infoSetRanging c s → let z := s.jrnStart c
    c.dom = 0 → c.n1 % 2 ^ 16 ≤ (z.sub c.n0).phaseTol → z.isProtect (c.n0 / 2) = false →
    exec (.setRanging c) s = kept s ((z.modSub c.n0 (fun x => { x with eqdThr := c.n1 % 2 ^ 16, lostLimit := if c.n1 / 2 ^ 16 = 0 then 8 else c.n1 / 2 ^ 16, rogueAuto := decide (c.n2 = 1) }) : State).complete c.acc { status := stOk })) ∧
  (∀ (c : Desc) (s : State), Starts infoIsolateRogue c s → let z := s.jrnStart c
    c.dom = 0 → z.isProtect (c.n0 / 2) = false → c.n1 = 0 → (z.sub c.n0).rogue.running = false →
    exec (.isolateRogue c) s = kept s ((z.tellTerms (z.isolate c.n0) c.n0 : State).complete c.acc { status := stOk })) ∧
  (∀ (c : Desc) (s : State), Starts infoIsolateRogue c s → let z := s.jrnStart c
    c.dom = 0 → z.isProtect (c.n0 / 2) = false → c.n1 = 0 → (z.sub c.n0).rogue.running = true →
    exec (.isolateRogue c) s = kept s ((z : State).complete c.acc { status := stState })) ∧
  (∀ (c : Desc) (s : State), Starts infoIsolateRogue c s → let z := s.jrnStart c
    c.dom = 0 → z.isProtect (c.n0 / 2) = false → c.n1 = 1 → (z.sub c.n0).rogue.test = none →
    exec (.isolateRogue c) s = kept s ((z.tellTerms (z.modRogue c.n0 Rogue.endWalk) c.n0 : State).complete c.acc { status := stOk })) ∧
  (∀ (c : Desc) (s : State), Starts infoReadUnknown c s → let z := s.jrnStart c
    c.dom = 0 →
    exec (.readUnknown c) s = kept s (((z.outBuf c (padTo 512 ((z.sub c.n0).disc.unknown.map (leBytes 8)).flatten)).modSub c.n0 (fun x => { x with disc := { x.disc with unknown := [] } }) : State).complete c.acc { status := stOk, r0 := (z.sub c.n0).disc.unknown.length })) ∧
  (∀ (c : Desc) (s : State), Starts infoReadTerminal c s → let z := s.jrnStart c
    ∀ a, a ≠ .free → (z.term c.psc c.pt).act = a → (z.term c.psc c.pt).dom = c.dom → z.isProtect (c.psc / 2) = false → z.underTest c.psc c.pt = false →
    exec (.readTerminal c) s = kept s ((z.outBuf c (z.termBytes c.psc c.pt) : State).complete c.acc { status := stOk })) ∧
  (∀ (c : Desc) (s : State), Starts infoReadSubchAct c s → let z := s.jrnStart c
    c.dom = 0 →
    exec (.readSubchAct c) s = kept s ((z.outBuf c (leBytes 4 (z.sub c.n0).disc.unknownDropped ++ leBytes 4 (z.sub c.n0).disc.snDup ++ leBytes 4 (z.sub c.n0).disc.omciRxDrop ++ leBytes 4 (z.sub c.n0).disc.skipped) : State).complete c.acc { status := stOk })) ∧
  (∀ (c : Desc) (s : State), Starts infoSendPloam c s → let z := s.jrnStart c
    ∀ p b t, plHandled (c.inp.getD 2 0) = false → c.n0 < 2 ^ 31 → c.n0 / 2 ^ 16 % 2 ^ 15 = c.pt → (z.term c.psc c.pt).act ≠ .free → (z.term c.psc c.pt).dom = c.dom → z.isProtect (c.psc / 2) = false → z.underTest c.psc c.pt = false → (z.sub c.psc).lit = true → z.takeBuf 16 48 = (some (p, b), t) →
    exec (.sendPloam c) s = kept s (t.queuePloam c.psc c.pt (c.inp.getD 2 0 :: c.inp.drop 4) t.nextFrame (some c.acc) (some (p, b, c.dom)))) ∧
  (∀ (c : Desc) (s : State), Starts infoSendPloam c s → let z := s.jrnStart c
    ∀ p b t, plHandled (c.inp.getD 2 0) = true → c.n0 < 2 ^ 31 → c.n0 / 2 ^ 16 % 2 ^ 15 = c.pt → (z.term c.psc c.pt).act ≠ .free → (z.term c.psc c.pt).dom = c.dom → z.isProtect (c.psc / 2) = false → z.underTest c.psc c.pt = false → (z.sub c.psc).lit = true → z.takeBuf 16 48 = (some (p, b), t) →
    exec (.sendPloam c) s = kept s ((z : State).complete c.acc { status := stBadArg })) ∧
  (∀ (c : Desc) (s : State), Starts infoSendOmci c s → let z := s.jrnStart c
    ∀ p b t, (z.term c.psc c.pt).act = .operation → (z.term c.psc c.pt).dom = c.dom → z.isProtect (c.psc / 2) = false → z.underTest c.psc c.pt = false → (z.sub c.psc).lit = true → ((z.sub c.psc).dsq.filter (fun m => m.kind == 1 && m.term == c.pt)).length < 16 → z.takeBuf 16 (c.bufLen + 4) = (some (p, b), t) →
    exec (.sendOmci c) s = kept s (t.queueOmci c.psc c.pt c.inp c.acc (some (p, b, c.dom)))) ∧
  (∀ (c : Desc) (s : State), Starts infoBindTerminalRx c s → let z := s.jrnStart c
    exec (.bindTerminalRx c) s = kept s ((z.setDom c.dom { z.domE c.dom with rx := some (ringOf c.dom c.n0, c.n1) } : State).complete c.acc { status := stOk }))

/-- A terminal goes from REGISTERED over DISCOVERED and RANGING to its equalisation delay as its responses arrive, and
back when they do not. Formalises R102, R105, R106, R107, R108, R111, R113 (derived). -/
def Obligations.ActivationMovesATerminal : Prop :=
  (∀ (s : State) (sc t : Nat) (r : SnRsp) (w : Window),
    (s.sub sc).disc.windows.find? (fun w => w.term.isNone && decide (w.book ≤ s.clk.msc) && w.holds r.t) = some w →
    r.collided = false → (s.termsOf sc).find? (fun t => (s.term sc t).serial == r.serial) = some t →
    (s.term sc t).act = .registered → s.standby = false →
    exec (.snResponse sc r) s = kept s (s.tellTerms ((s.modTerm sc t (fun x => { x with
      act := .discovered, ta := r.t - grantAt 512, assignFrame := s.nextFrame, misses := 0, rerange := false })).ploam
        sc t plAssign (leBytes 2 t ++ leBytes 8 (s.term sc t).serial) s.nextFrame) sc)) ∧
  (∀ (s : State) (sc : Nat) (r : SnRsp),
    (s.sub sc).disc.windows.find? (fun w => w.term.isNone && decide (w.book ≤ s.clk.msc) && w.holds r.t) = none →
    exec (.snResponse sc r) s = .next s) ∧
  (∀ (s : State) (sc t : Nat) (r : RegRsp) (w : Window),
    (s.sub sc).disc.windows.find? (fun w => w.term == some t && !w.closed && decide (w.book ≤ s.clk.msc) && w.holds r.t) = some w →
    (s.term sc t).act = .ranging →
    (s.standby = false → exec (.registrationResponse sc t r) s = kept s (s.tellTerms ((s.closeWins sc t).modTerm sc t (fun y => { y with
      resp := some (r.t - grantAt t, r.regId, rangedPre r (w.book + r.t / 2000000)) })) sc)) ∧
    (s.standby = true → exec (.registrationResponse sc t r) s =
      kept s (s.modTerm sc t (fun y => { y with pre := rangedPre r (w.book + r.t / 2000000) })))) ∧
  (∀ (s : State) (sc t rtt : Nat) (id : List Nat) (pre : Preload), (s.term sc t).resp = some (rtt, id, pre) →
    (s.term sc t).act = .ranging → (s.term sc t).regId = none → s.standby = false →
    (rtt ≤ ((s.sub sc).len - 1) * 2000000 →
      let u := s.setTerm sc t { s.term sc t with
        resp := none, rtt := rtt, eqd := eqdOf (s.sub sc) sc rtt, driftF := 0, operE := some (s.nextFrame + 1)
        pre := pre, prof := 0, profP := 0, misses := 0, first := false }
      exec (.rangingProcess sc t) s =
        kept s (s.tellTerms ((u.setRetd sc t { u.retd sc t with rtt := some rtt }).sendRangingTime sc t s.nextFrame) sc)) ∧
    (((s.sub sc).len - 1) * 2000000 < rtt →
      exec (.rangingProcess sc t) s = kept s (s.tellTerms ((s.sendDeact sc t s.nextFrame).refuse sc t) sc))) ∧
  (∀ (s : State) (sc t : Nat) (w : Window),
    (s.sub sc).disc.windows.find? (fun w => w.term == some t && !w.closed) = some w →
    (w.start : Int) + w.len ≤ s.since w.book → (s.term sc t).act = .ranging → (s.term sc t).misses = 0 → s.standby = false →
    let u := s.closeWins sc t
    exec (.rangingWindowClose sc t) s = kept s (s.tellTerms ((u.countError 1 (scDie sc * 104 + (u.sub sc).engine)).modTerm sc t (fun y => { y with misses := 1 })) sc)) ∧
  (∀ (s : State) (sc t : Nat) (w : Window),
    (s.sub sc).disc.windows.find? (fun w => w.term == some t && !w.closed) = some w →
    (w.start : Int) + w.len ≤ s.since w.book → (s.term sc t).act = .ranging → (s.term sc t).misses ≠ 0 → (s.term sc t).rerange = false → s.standby = false →
    let u := s.closeWins sc t
    exec (.rangingWindowClose sc t) s = kept s (s.tellTerms (((u.sendDeact sc t u.nextFrame).leaveTerm sc t .registered).freeKeys sc t) sc)) ∧
  (∀ (s : State) (sc t f : Nat) (d : Int), (s.term sc t).rtFrame = some f → f + s.len sc + 1 ≤ s.clk.msc →
    (s.term sc t).held = some d → s.standby = false →
    exec (.rangingTimePeriodEnd sc t) s =
      kept s (s.tellTerms ((s.setTerm sc t { s.term sc t with rtFrame := none, held := none }).correct sc t d) sc)) ∧
  (∀ (s : State) (sc t f : Nat), (s.term sc t).rtFrame = some f → s.clk.msc < f + s.len sc →
    exec (.rangingTimePeriodEnd sc t) s = .next s) ∧
  (∀ (s : State) (sc t : Nat), (s.term sc t).act = .operation → (s.term sc t).road = .enabled →
    (s.term sc t).drainE = none → (s.sub sc).lostLimit ≤ (s.term sc t).emptyRun →
    s.deferred.any (fun p => p.change == .termLoss sc t) = false → s.standby = false →
    exec (.terminalLost sc t) s = kept s (s.tellTerms
      ((((s.deferDev 2 (512 * sc + t) (.termLoss sc t)).2).modTerm sc t (fun y => { y with
        lostCount := y.lostCount + 1, after := .registered })).raise 0x112 (sc + t * 2 ^ 16)) sc))

/-- Upstream messages reach their consumer, and recovery and isolation end as their rules say. Formalises R74, R114, R116,
R118, R121, R122 (derived). -/
def Obligations.UpstreamMessagesAndRecovery : Prop :=
  (∀ (s : State) (sc t : Nat) (msg : List Nat), upHandled (msg.getD 2 0) = false →
    (s.term sc t).act = .discovered ∨ (s.term sc t).act = .ranging ∨ (s.term sc t).act = .operation → s.standby = false →
    exec (.upstreamPloam sc t msg) s = kept s (s.deliver sc t 1 msg).2) ∧
  (∀ (s : State) (sc t : Nat) (msg mic : List Nat), (s.term sc t).act ≠ .free → s.standby = false →
    (padTo 4 (Config.mic (s.term sc t).omciKey (0 :: msg)) = mic →
      exec (.upstreamOmci sc t msg mic) s = kept s (match s.deliver sc t 0 msg with
        | (true, u) => u.modTerm sc t (fun y => { y with omciRx := y.omciRx + 1 })
        | (false, u) => u)) ∧
    (padTo 4 (Config.mic (s.term sc t).omciKey (0 :: msg)) ≠ mic →
      exec (.upstreamOmci sc t msg mic) s =
        kept s ((s.modTerm sc t (fun y => { y with omciMic := y.omciMic + 1 })).raiseOnce 0x116 sc (sc + t * 2 ^ 16)))) ∧
  (∀ (s : State) (sc e : Nat), (s.sub sc).disc.recovery = some e → e ≤ s.clk.msc →
    exec (.recoveryPeriodEnd sc) s =
      kept s (s.setSub sc { s.sub sc with disc := { (s.sub sc).disc with recovery := none } })) ∧
  (∀ (s : State) (sc a b t : Nat) (delim : Bool), SMap.wf Sub.dflt s.pon.subs = true → (s.sub sc).road ≠ .disabled → s.standby = false →
    let lim : Int := 1600 * (frameUnits (s.sub sc) * guBits sc : Nat)
    (s.sub sc).rogue.light ≤ lim → lim < (s.sub sc).rogue.light + s.rogueLen sc a b delim → s.lastSlot sc a = some t →
    1 + (((s.sub sc).rogue.hist.take 7).filter (fun b => b)).length < 4 →
    ∃ u, exec (.rogueLight sc ⟨a, b⟩ delim) s = .next u ∧
      (u.sub sc).rogue = { (s.sub sc).rogue with
        light := (s.sub sc).rogue.light + s.rogueLen sc a b delim
        points := (s.sub sc).rogue.points.set 0 t ((s.sub sc).rogue.points.get 0 t + 1) }) ∧
  (∀ (s : State) (sc k e : Nat), (s.sub sc).rogue.test = some (k, e) → e + s.len sc + 9 ≤ s.clk.msc →
    (s.sub sc).rogue.seenAfter = false → (s.sub sc).rogue.seenBefore = true → (s.term sc k).act = .disabled → s.standby = false →
    let u := s.modTerm sc k (fun y => { y with rogueIso := true })
    exec (.rogueObserveEnd sc) s = kept s (s.tellTerms
      (((u.setRetd sc k { u.retd sc k with rogue := true }).modRogue sc Rogue.endWalk).raise 0x118 (sc + k * 2 ^ 16)) sc)) ∧
  (∀ (s : State) (sc k e : Nat), (s.sub sc).rogue.test = some (k, e) → s.clk.msc < e + s.len sc + 9 →
    exec (.rogueObserveEnd sc) s = .next s) ∧
  (∀ (s : State) (kind die u : Nat), kind < 2 → die < 4 → u < 104 → (s.health (1 + kind % 2) (die * 104 + u)).st ≠ .lost →
    s.chServes kind die u = none → (∀ sc, (s.sub sc).chDetour = [] ∧ s.chPending sc kind ≠ some u) →
    exec (.channelUnitLost kind die u) s = kept s (s.setUnitSt (1 + kind % 2) (die * 104 + u) .lost)) ∧
  (∀ (s : State) (kind die u sc : Nat), kind < 2 → die < 4 → u < 104 → (s.health (1 + kind % 2) (die * 104 + u)).st ≠ .lost →
    s.chServes kind die u = some sc →
    let t := (s.setUnitSt (1 + kind % 2) (die * 104 + u) .lost).chLossNow sc
    (t.sub sc).chDetour.find? (fun d => d.1 == kind && d.2.1 == u) = none → t.chPending sc kind = none →
    (∀ k, t.freeChUnit kind die = some k → exec (.channelUnitLost kind die u) s = kept s (t.bindCh sc kind k)) ∧
    (t.freeChUnit kind die = none → exec (.channelUnitLost kind die u) s = kept s (t.outOfService sc)))

/-- Commands of family 0x03 place, retire and modify units, post hints and read ledger rows as their rules say. Formalises
R126, R132, R42, R140, R141, R65, R246 (derived). -/
def Obligations.AllocationUnitCommands : Prop :=
  (∀ (c : Desc) (s : State), Starts infoInstallUnit c s → let z := s.jrnStart c
    ∀ (e b k : Nat) (u : State), (z.term (c.n2 % 2 ^ 16) (c.n2 / 2 ^ 16)).act ≠ .free → (z.term (c.n2 % 2 ^ 16) (c.n2 / 2 ^ 16)).dom = c.dom → (z.unit c.n0).inst = false → z.grant.units.any (fun e => e.2.inst && e.1 != c.n0 && e.2.sc == c.n2 % 2 ^ 16 && e.2.alloc == c.n1) = false → z.isProtect (c.n2 % 2 ^ 16 / 2) = false → z.underTest (c.n2 % 2 ^ 16) (c.n2 / 2 ^ 16) = false → z.resolveEntry none c (groupOf (c.n2 % 2 ^ 16 / 2)) .install 0 = .ok e → z.pendRoom = true → (c.dom = 0 ∨ z.unitsOf c.dom < (z.domE c.dom).quota.units) → z.placeUnit (groupOf (c.n2 % 2 ^ 16 / 2)) = .ok (b, k) → u = ((z.setUnit c.n0 { inst := true, alloc := c.n1, sc := c.n2 % 2 ^ 16, term := c.n2 / 2 ^ 16, dom := c.dom, installE := some e, group := groupOf (c.n2 % 2 ^ 16 / 2), batch := b, lane := k, params := wordsOf c.inp 12 }).bindLane c.n0 (groupOf (c.n2 % 2 ^ 16 / 2)) b k).defer c e (.unitInstall c.n0) →
    exec (.installUnit c) s = kept s ((u : State).complete c.acc { status := stDeferred, r0 := u.unitResult c.n0, msc := some e })) ∧
  (∀ (c : Desc) (s : State), Starts infoInstallUnit c s → let z := s.jrnStart c
    (z.term (c.n2 % 2 ^ 16) (c.n2 / 2 ^ 16)).act ≠ .free → (z.term (c.n2 % 2 ^ 16) (c.n2 / 2 ^ 16)).dom = c.dom → (z.unit c.n0).inst = true → (z.unit c.n0).dom = c.dom → (z.unit c.n0).road = .enabled →
    exec (.installUnit c) s = kept s ((z : State).complete c.acc { status := stExists })) ∧
  (∀ (c : Desc) (s : State), Starts infoRetireUnit c s → let z := s.jrnStart c
    ∀ e, (z.unit c.n0).inst = true → (z.unit c.n0).dom = c.dom → (z.unit c.n0).retireE = none → (z.unit c.n0).road = .enabled → z.isProtect ((z.unit c.n0).sc / 2) = false → z.resolveEntry none c (z.unit c.n0).group .retire ((z.unit c.n0).installE.getD 0) = .ok e → z.pendRoom = true → (z.unit c.n0).installE = none →
    exec (.retireUnit c) s = kept s (((z.setUnit c.n0 { z.unit c.n0 with retireE := some e, discard := decide (c.n1 = 1), entryRun := false }).defer c e (.unitRetire c.n0 (decide (c.n1 = 1))) : State).complete c.acc { status := stDeferred, msc := some e })) ∧
  (∀ (c : Desc) (s : State), Starts infoRetireUnit c s → let z := s.jrnStart c
    (z.unit c.n0).inst = false →
    exec (.retireUnit c) s = kept s ((z : State).complete c.acc { status := stNotFound })) ∧
  (∀ (c : Desc) (s : State), Starts infoRetireUnit c s → let z := s.jrnStart c
    (z.unit c.n0).inst = true → (z.unit c.n0).dom = c.dom → (z.unit c.n0).road = .draining →
    exec (.retireUnit c) s = kept s ((z : State).complete c.acc { status := stRetired })) ∧
  (∀ (c : Desc) (s : State), Starts infoModifyUnit c s → let z := s.jrnStart c
    ∀ e, (z.unit c.n0).inst = true → (z.unit c.n0).dom = c.dom → z.isProtect ((z.unit c.n0).sc / 2) = false → z.resolveE none c = .ok e → (z.unit c.n0).installE = none → (z.unit c.n0).retireE = none → (z.unit c.n0).drainE = none → z.pendRoom = true →
    exec (.modifyUnit c) s = kept s ((z.defer c e (.unitModify c.n0 c.n1 (wordsOf c.inp 12)) : State).complete c.acc { status := stDeferred, msc := some e })) ∧
  (∀ (c : Desc) (s : State), Starts infoPostHint c s → let z := s.jrnStart c
    (z.unit c.n0).inst = true → (z.unit c.n0).dom = c.dom → z.clk.msc + 4096 < pair64 c.p2 c.p3 →
    exec (.postHint c) s = kept s ((z.groupCount (z.unit c.n0).group 5 : State).complete c.acc { status := stBadArg })) ∧
  (∀ (c : Desc) (s : State), Starts infoPostHint c s → let z := s.jrnStart c
    (z.unit c.n0).inst = true → (z.unit c.n0).dom = c.dom → pair64 c.p2 c.p3 ≤ z.clk.msc + 4096 → pair64 c.p2 c.p3 < z.earliestAck →
    exec (.postHint c) s = kept s ((z.add32 (mstA 0x2C) 1 : State).complete c.acc { status := stHorizon })) ∧
  (∀ (c : Desc) (s : State), Starts infoPostHint c s → let z := s.jrnStart c
    (z.unit c.n0).inst = true → (z.unit c.n0).dom = c.dom → pair64 c.p2 c.p3 ≤ z.clk.msc + 4096 → z.earliestAck ≤ pair64 c.p2 c.p3 → z.mgmt.pair.role ≠ .active → z.clk.cycle < 4000 ∨ 232000 ≤ z.clk.cycle →
    exec (.postHint c) s = kept s ((z.writeHint c.n0 (c.n1 % 2 ^ 23) (c.n1 / 2 ^ 23) (pair64 c.p2 c.p3) : State).complete c.acc { status := stOk })) ∧
  (∀ (c : Desc) (s : State), Starts infoPostHint c s → let z := s.jrnStart c
    (z.unit c.n0).inst = true → (z.unit c.n0).dom = c.dom → pair64 c.p2 c.p3 ≤ z.clk.msc + 4096 → z.earliestAck ≤ pair64 c.p2 c.p3 → z.mgmt.pair.role ≠ .active → 4000 ≤ z.clk.cycle → z.clk.cycle < 232000 → z.grant.hintQ.length < 65536 →
    exec (.postHint c) s = kept s (({ z with grant := { z.grant with hintQ := z.grant.hintQ ++ [⟨c.n0, (z.unit c.n0).group, c.n1 % 2 ^ 23, c.n1 / 2 ^ 23, pair64 c.p2 c.p3⟩] } } : State).complete c.acc { status := stOk })) ∧
  (∀ (c : Desc) (s : State), Starts infoSetHintVlan c s → let z := s.jrnStart c
    c.dom = 0 → c.n1 / 2 ^ 8 = 0 → (z.grant.hintVlans.filter (fun e => !(e.1 == c.n0 % 2 ^ 16 && e.2.1 == c.n0 / 2 ^ 16))).length < 64 →
    exec (.setHintVlan c) s = kept s (({ z with grant := { z.grant with hintVlans := z.grant.hintVlans.filter (fun e => !(e.1 == c.n0 % 2 ^ 16 && e.2.1 == c.n0 / 2 ^ 16)) ++ [(c.n0 % 2 ^ 16, c.n0 / 2 ^ 16, c.n1 % 64)] } } : State).complete c.acc { status := stOk })) ∧
  (∀ (c : Desc) (s : State), Starts infoReadUnitLedger c s → let z := s.jrnStart c
    (z.unit c.n0).inst = true → (z.unit c.n0).dom = c.dom →
    exec (.readUnitLedger c) s = kept s ((z.outBuf c (z.grant.rows.get {} c.n0).bytes : State).complete c.acc { status := stOk })) ∧
  (∀ (c : Desc) (s : State), Starts infoReadUnitLedger c s → let z := s.jrnStart c
    (z.unit c.n0).inst = false →
    exec (.readUnitLedger c) s = kept s ((z : State).complete c.acc { status := stNotFound }))

/-- Commands of family 0x07 load, arm and cancel programs, and shared-table writes show at the next snapshot. Formalises
R142, R198, R212, R215, R216, R217, R220 (derived). -/
def Obligations.ProgramAndTableCommands : Prop :=
  (∀ (c : Desc) (s : State), Starts infoLoadProgram c s → let z := s.jrnStart c
    ∀ u, c.groups.any (fun q => (z.group q).shadow == .armed || (z.group q).shadow == .loaded) = false → u = z.setShadows c.groups (readImage c.inp (decide (c.n3 = 1))).prog .loaded →
    exec (.loadProgram c) s = kept s ({ u with grant := { u.grant with verifying := u.grant.verifying ++ [(c.acc, c.groups)] } })) ∧
  (∀ (c : Desc) (s : State), Starts infoLoadProgram c s → let z := s.jrnStart c
    c.groups.any (fun q => (z.group q).shadow == .armed || (z.group q).shadow == .loaded) = true →
    exec (.loadProgram c) s = kept s ((z : State).complete c.acc { status := stState })) ∧
  (∀ (c : Desc) (s : State), Starts infoActivateProgram c s → let z := s.jrnStart c
    ∀ e, z.resolveE none c = .ok e → c.groups ≠ [] → c.groups.any (fun q => (z.group q).shadow != .admitted) = false → c.groups.any (fun q => decide (batchCap ((z.group q).prog (1 - (z.group q).active)).planBound < (z.boundBatches q).length)) = false → z.pendRoom = true → c.groups.all (fun q => (z.arm c.groups e).windowsFit q e) = true →
    exec (.activateProgram c) s = kept s (((z.arm c.groups e).defer c e (.progActivate c.groups) : State).complete c.acc { status := stDeferred, msc := some e })) ∧
  (∀ (c : Desc) (s : State), Starts infoActivateProgram c s → let z := s.jrnStart c
    ∀ e, z.resolveE none c = .ok e → c.groups ≠ [] → c.groups.any (fun q => (z.group q).shadow != .admitted) = true →
    exec (.activateProgram c) s = kept s ((z : State).complete c.acc { status := stState })) ∧
  (∀ (c : Desc) (s : State), Starts infoActivateProgramCancel c s → let z := s.jrnStart c
    ∀ q r, c.groups = q :: r → c.groups.any (fun p => (z.group p).shadow != .armed || (z.group p).swapMsc != (z.group q).swapMsc) = false → z.earliestAck ≤ (z.group q).swapMsc → c.groups.all (fun p => (z.disarm c.groups).windowsFit p (z.group q).swapMsc) = true →
    exec (.activateProgramCancel c) s = kept s ((z.disarm c.groups : State).complete c.acc { status := stOk })) ∧
  (∀ (c : Desc) (s : State), Starts infoActivateProgramCancel c s → let z := s.jrnStart c
    ∀ q r, c.groups = q :: r → c.groups.any (fun p => (z.group p).shadow != .armed || (z.group p).swapMsc != (z.group q).swapMsc) = false → (z.group q).swapMsc < z.earliestAck →
    exec (.activateProgramCancel c) s = kept s ((z : State).complete c.acc { status := stHorizon })) ∧
  (∀ (c : Desc) (s : State), Starts infoWriteTable c s → let z := s.jrnStart c
    5 ≤ z.stage → z.clk.running = true → z.grant.tableCopy = [] → z.grant.tableCount + c.n1 ≤ 4096 →
    exec (.writeTable c) s = kept s ((z.tableWrite c.n0 c.inp : State).complete c.acc { status := stOk })) ∧
  (∀ (c : Desc) (s : State), Starts infoReadTable c s → let z := s.jrnStart c
    exec (.readTable c) s = kept s ((z.outBuf c ((List.range (8 * c.n1)).map (fun i => leBytes 4 (z.tableWord c.n0 i).toNat)).flatten : State).complete c.acc { status := stOk })) ∧
  (∀ (c : Desc) (s : State), Starts infoReadCoreDiag c s → let z := s.jrnStart c
    exec (.readCoreDiag c) s = kept s (((z.outBuf c (z.core c.n0).diagBytes).modCore c.n0 (fun x => { x with diagCount := 0 }) : State).complete c.acc { status := stOk })) ∧
  (∀ (s : State) (acc : Nat) (qs : List Nat) (j : Jrn), s.grant.verifying.find? (fun e => e.1 == acc) = some (acc, qs) →
    s.jrnFind acc = some j →
    let u := { s with grant := { s.grant with verifying := s.grant.verifying.filter (fun e => e.1 != acc) } }
    (∀ a i, verify j.desc.inp (decide (j.desc.n3 = 1)) = .error (a, i) →
      exec (.programVerificationDone acc) s =
        kept s ((u.setShadows qs {} .empty).complete acc { status := stRejected, r0 := a, r1 := i })) ∧
    (∀ p, verify j.desc.inp (decide (j.desc.n3 = 1)) = .ok p → u.digests.length < 32 →
      exec (.programVerificationDone acc) s =
        kept s ((u.setShadows qs { p with image := j.desc.inp } .admitted).complete acc { status := stOk }))) ∧
  (∀ (s : State), s.grant.tableWaits = [] → s.grant.tableCopy ≠ [] → ∃ t, exec .tableCopyDone s = .next t ∧
    t.grant.tableCopy = [] ∧ t.grant.tableBank = s.grant.tableBank ∧
    (s.grant.tableBank = 0 → t.grant.table0 = s.grant.table0) ∧ (s.grant.tableBank = 1 → t.grant.table1 = s.grant.table1)) ∧
  (∀ s : State, s.grant.tableCopy = [] → exec .tableCopyDone s = .next s)

/-- Bursts are placed in the lowest gap that holds them, and the worked roadbook of R150 comes out as the manual prints
it. Formalises R146, R147, R148, R149 (derived). -/
def Obligations.RoadbookAssembly : Prop :=
  (∀ (r : ARes) (x : Sub) (sc p : Nat) (b : ABurst), b.allocs ≠ [] →
    firstFit r.gaps (burstUnits x sc b.prof b.allocs) = some p →
    r.place x sc b = { r with
      gaps := cutGaps p (p + burstUnits x sc b.prof b.allocs) r.gaps
      placed := r.placed ++ [{ kind := if b.fw then .ploamOnly else .data, term := b.term, prof := b.prof, start := p
                               len := burstUnits x sc b.prof b.allocs
                               allocs := structures (p + ovhUnits x sc b.prof) b.allocs }] }) ∧
  (let al := fun (slot size prio : Nat) (dbru early : Bool) =>
      (⟨slot, some slot, slot, size, prio, dbru, false, early, false⟩ : AAlloc)
    let bursts : List ABurst := [⟨false, 5, 3, [al 0 1000 7 true true]⟩,
      ⟨false, 9, 0, [al 1 10000 4 true false, al 2 8000 4 true false]⟩, ⟨false, 12, 2, [al 3 15000 4 false false]⟩,
      ⟨false, 20, 1, [al 4 6000 1 true false]⟩]
    let r := bursts.foldl (fun r b => r.place (Sub.dflt 1) 1 b) ({ gaps := freeGaps (Sub.dflt 1) 7400010 } : ARes)
    r.placed.map (fun b => b.start) = [0, 1088, 20396, 36453] ∧ r.placed.map (fun b => b.len) = [1088, 19308, 16057, 2427] ∧
    r.placed.map (fun b => b.allocs.map (fun a => a.start)) = [[13], [1148, 65535], [20415], [36488]] ∧
    r.placed.map (fun b => b.allocs.map (fun a => a.size)) = [[1000], [10000, 8000], [15000], [2233]] ∧
    r.gaps = [] ∧ r.drop = 0 ∧ r.shrink = 1 ∧ [5, 9, 12, 20].map (fun t => rotKey t 7400010) = [443, 447, 450, 458])

/-- Commands of family 0x04 make, change, destroy and read flows, and join and leave flood lists. Formalises R306, R307,
R309, R325, R261 (derived). -/
def Obligations.FlowCommands : Prop :=
  (∀ (c : Desc) (s : State), Starts infoCreateFlow c s → let z := s.jrnStart c
    ∀ b, b = readFlowBlk c.inp → (z.term b.sc b.term).act ≠ .free → (z.term b.sc b.term).dom = c.dom → z.isProtect (b.sc / 2) = false → z.underTest b.sc b.term = false → (c.dom = 0 ∨ z.flowsOf c.dom < (z.domE c.dom).quota.flows) → (z.flow c.n0).inst = false → (z.uport b.uPort).cfg ≠ none → z.xgemFlow b.sc b.xgem = none → z.keyFlow (pipeOfSub b.sc) (b.flow c.dom).key = none →
    exec (.createFlow c) s = kept s ((z.newFlow c.n0 (b.flow c.dom) : State).complete c.acc { status := stOk })) ∧
  (∀ (c : Desc) (s : State), Starts infoCreateFlow c s → let z := s.jrnStart c
    ∀ b, b = readFlowBlk c.inp → (z.term b.sc b.term).act ≠ .free → (z.term b.sc b.term).dom = c.dom → z.isProtect (b.sc / 2) = false → z.underTest b.sc b.term = false → (c.dom = 0 ∨ z.flowsOf c.dom < (z.domE c.dom).quota.flows) → (z.flow c.n0).inst = true → (z.flow c.n0).road = .enabled →
    exec (.createFlow c) s = kept s ((z : State).complete c.acc { status := stExists })) ∧
  (∀ (c : Desc) (s : State), Starts infoDestroyFlow c s → let z := s.jrnStart c
    ∀ e, (z.flow c.n0).inst = true → (z.flow c.n0).dom = c.dom → (z.flow c.n0).destroyE = none → (z.flow c.n0).road = .enabled → z.resolveE none c = .ok e → z.pendRoom = true →
    exec (.destroyFlow c) s = kept s (((z.setFlow c.n0 { z.flow c.n0 with destroyE := some e, discard := c.n1 == 1 }).defer c e (.flowDestroy c.n0 (c.n1 == 1)) : State).complete c.acc { status := stDeferred, msc := some e })) ∧
  (∀ (c : Desc) (s : State), Starts infoModifyFlow c s → let z := s.jrnStart c
    ∀ x b, (z.flow c.n0).inst = true → (z.flow c.n0).dom = c.dom → x = z.flow c.n0 → b = readFlowBlk c.inp → (b.sc, b.term, b.xgem, b.kind, b.encrypt, b.outerVid, b.innerVid, b.innerNone) = (x.sc, x.term, x.xgem, x.kind, x.encrypt, x.outerVid, x.innerVid, x.innerNone) → (z.uport b.uPort).cfg ≠ none →
    exec (.modifyFlow c) s = kept s ((z.setFlow c.n0 { x with dsTag := b.dsTag, usTag := b.usTag, usVid := b.usVid, uPort := b.uPort, macLimit := b.macLimit } : State).complete c.acc { status := stOk })) ∧
  (∀ (c : Desc) (s : State), Starts infoModifyFlow c s → let z := s.jrnStart c
    (z.flow c.n0).inst = true → (z.flow c.n0).dom = c.dom → (readFlowBlk c.inp).sc ≠ (z.flow c.n0).sc →
    exec (.modifyFlow c) s = kept s ((z : State).complete c.acc { status := stBadArg })) ∧
  (∀ (c : Desc) (s : State), Starts infoReadFlow c s → let z := s.jrnStart c
    (z.flow c.n0).inst = true → (z.flow c.n0).dom = c.dom →
    exec (.readFlow c) s = kept s ((z.outBuf c (z.flow c.n0).bytes : State).complete c.acc { status := stOk })) ∧
  (∀ (c : Desc) (s : State), Starts infoReadFlow c s → let z := s.jrnStart c
    (z.flow c.n0).inst = false →
    exec (.readFlow c) s = kept s ((z : State).complete c.acc { status := stNotFound })) ∧
  (∀ (c : Desc) (s : State), Starts infoReadFlow c s → let z := s.jrnStart c
    (z.flow c.n0).inst = true → (z.flow c.n0).dom ≠ c.dom →
    exec (.readFlow c) s = kept s ((z : State).complete c.acc { status := stDomain })) ∧
  (∀ (c : Desc) (s : State), Starts infoJoinFlood c s → let z := s.jrnStart c
    ∀ f x, (z.flow c.n0).inst = true → (z.flow c.n0).dom = c.dom → (z.flow c.n0).road = .enabled → f = z.flow c.n0 → x = z.pipe (pipeOfSub f.sc) → (x.flood (floodKey f.dom f.outerVid)).contains c.n0 = false → (x.flood (floodKey f.dom f.outerVid)).length < 65535 → (x.flood (floodKey f.dom f.outerVid) ≠ [] ∨ x.floods.length < 4096) → x.floods.foldl (fun n e => n + e.2.length) 0 < 131072 →
    exec (.joinFlood c) s = kept s ((z.setPipe (pipeOfSub f.sc) (x.setFlood (floodKey f.dom f.outerVid) (x.flood (floodKey f.dom f.outerVid) ++ [c.n0])) : State).complete c.acc { status := stOk })) ∧
  (∀ (c : Desc) (s : State), Starts infoLeaveFlood c s → let z := s.jrnStart c
    (z.flow c.n0).inst = true → (z.flow c.n0).dom = c.dom → ((z.pipe (pipeOfSub (z.flow c.n0).sc)).flood (floodKey (z.flow c.n0).dom (z.flow c.n0).outerVid)).contains c.n0 = true →
    exec (.leaveFlood c) s = kept s ((z.leaveFlood c.n0 : State).complete c.acc { status := stOk })) ∧
  (∀ (c : Desc) (s : State), Starts infoLeaveFlood c s → let z := s.jrnStart c
    (z.flow c.n0).inst = true → (z.flow c.n0).dom = c.dom → ((z.pipe (pipeOfSub (z.flow c.n0).sc)).flood (floodKey (z.flow c.n0).dom (z.flow c.n0).outerVid)).contains c.n0 = false →
    exec (.leaveFlood c) s = kept s ((z : State).complete c.acc { status := stNotFound }))

/-- Commands of family 0x05 write, delete, search, walk, flush and rebuild the tables as their rules say. Formalises R305,
R313, R320, R321, R322, R323, R324 (derived). -/
def Obligations.ForwardingTableCommands : Prop :=
  (∀ (c : Desc) (s : State), Starts infoSetSteer c s → let z := s.jrnStart c
    c.dom = 0 →
    exec (.setSteer c) s = kept s ((z.modData (fun d => { d with steer := d.steer.set {} (4096 * (c.n0 % 128) + c.n0 / 2 ^ 16) ⟨c.n1 % 2 == 1, c.n1 / 2 % 8, c.n1 / 16 % 2, c.n1 / 2 ^ 8⟩ }) : State).complete c.acc { status := stOk })) ∧
  (∀ (c : Desc) (s : State), Starts infoAddEntry c s → let z := s.jrnStart c
    ∀ e w i, e = z.readEntry c.inp → e.uplink = true → (c.dom = 0 ∨ e.dom = c.dom) → w = z.learnAll c.n0 → (w.pipe c.n0).find (keyOf e) = some i →
    exec (.addEntry c) s = kept s (((w.setPipe c.n0 ((w.pipe c.n0).put i (some e))).sendNotice c.n0 (keyOf e) w.clk.hubc : State).complete c.acc { status := stOk })) ∧
  (∀ (c : Desc) (s : State), Starts infoAddEntry c s → let z := s.jrnStart c
    ∀ e w y, e = z.readEntry c.inp → e.uplink = true → (c.dom = 0 ∨ e.dom = c.dom) → w = z.learnAll c.n0 → (w.pipe c.n0).find (keyOf e) = none → w.entryQuota e.dom = false → (w.pipe c.n0).insert e = some y →
    exec (.addEntry c) s = kept s (((w.setPipe c.n0 y).sendNotice c.n0 (keyOf e) w.clk.hubc : State).complete c.acc { status := stOk })) ∧
  (∀ (c : Desc) (s : State), Starts infoDeleteEntry c s → let z := s.jrnStart c
    ∀ w i, w = z.learnAll c.n0 → (w.pipe c.n0).find (keyArg c) = some i → (c.dom = 0 ∨ (keyArg c).dom = c.dom) →
    exec (.deleteEntry c) s = kept s ((w.setPipe c.n0 ((w.pipe c.n0).put i none) : State).complete c.acc { status := stOk })) ∧
  (∀ (c : Desc) (s : State), Starts infoDeleteEntry c s → let z := s.jrnStart c
    ((z.learnAll c.n0).pipe c.n0).find (keyArg c) = none →
    exec (.deleteEntry c) s = kept s ((z.learnAll c.n0 : State).complete c.acc { status := stNotFound })) ∧
  (∀ (c : Desc) (s : State), Starts infoSearch c s → let z := s.jrnStart c
    ∀ e, ((z.pipe c.n0).find (keyArg c)).bind (z.pipe c.n0).at = some e → (c.dom = 0 ∨ e.dom = c.dom) →
    exec (.searchEntry c) s = kept s ((z.outBuf c e.bytes : State).complete c.acc { status := stOk })) ∧
  (∀ (c : Desc) (s : State), Starts infoSearch c s → let z := s.jrnStart c
    ((z.pipe c.n0).find (keyArg c)).bind (z.pipe c.n0).at = none →
    exec (.searchEntry c) s = kept s ((z : State).complete c.acc { status := stNotFound })) ∧
  (∀ (c : Desc) (s : State), Starts infoNext c s → let z := s.jrnStart c
    ∀ w all, c.n0 < 8 → w = z.walkExpire c.n0 → all = (w.pipe c.n0).entries.filter (fun e => decide (cursorPos c.n1 ≤ e.1) && (c.dom == 0 || e.2.dom == c.dom)) → all.length ≤ 1024 → 32 * all.length ≤ c.bufLen →
    exec (.nextEntry c) s = kept s ((w.outBuf c (all.foldl (fun l e => l ++ e.2.bytes) []) : State).complete c.acc { status := stOk, r0 := 0xFFFFFFFF, r1 := all.length })) ∧
  (∀ (c : Desc) (s : State), Starts infoWalkEnd c s → let z := s.jrnStart c
    exec (.walkEnd c) s = kept s ((z.setPipe c.n0 { z.pipe c.n0 with walk := none } : State).complete c.acc { status := stOk })) ∧
  (∀ (c : Desc) (s : State), Starts infoFlushByPort c s → let z := s.jrnStart c
    ∀ (ps : List Nat) (w : State) (fl : Flush), 2 ^ 31 ≤ c.n0 → ps = (List.range 8).filter (fun p => (if c.n1 % 256 = 0 then 255 else c.n1 % 256) / 2 ^ p % 2 == 1) → w = ps.foldl (fun (s : State) (p : Nat) => s.learnAll p) z → fl = ⟨c.acc, c.dom, true, c.n0 % 2 ^ 20, decide (2 ^ 8 ≤ c.n1), z.data.flushNo + 1, 0⟩ →
    exec (.flushByPort c) s = kept s (ps.foldl (fun (s : State) (p : Nat) => s.setPipe p { s.pipe p with flushes := (s.pipe p).flushes ++ [fl] })
      (w.modData (fun d => { d with flushNo := d.flushNo + 1 })))) ∧
  (∀ (c : Desc) (s : State), Starts infoRehash c s → let z := s.jrnStart c
    c.dom = 0 → (z.pipe c.n0).rehash = none → c.n1 ≠ 0 →
    exec (.rehash c) s = kept s (z.setPipe c.n0 { z.pipe c.n0 with rehash := some (c.acc, c.p1) })) ∧
  (∀ (c : Desc) (s : State), Starts infoRehash c s → let z := s.jrnStart c
    c.dom = 0 → (z.pipe c.n0).rehash.isSome = true →
    exec (.rehash c) s = kept s ((z : State).complete c.acc { status := stState }))

/-- The learn engine, notices, ageing, thawing, walks, flushes and rebuilds change only the entries their rules name.
Formalises R313, R315, R316, R318, R319, R322, R323, R324 (derived). -/
def Obligations.TablesLearnAgeAndFlush : Prop :=
  (∀ (s : State) (p : Nat) (r : LearnReq) (l : List LearnReq), (s.pipe p).learnQ = r :: l →
    exec (.learn p) s = kept s ((s.setPipe p { s.pipe p with learnQ := l }).learnOne p r)) ∧
  (∀ (s : State) (p i : Nat) (r : LearnReq) (e : MacEnt), (s.pipe p).find ⟨r.dom, r.vid, r.mac⟩ = some i →
    (s.pipe p).at i = some e → e.uplink = r.uplink → e.port = r.port →
    s.learnOne p r = s.setPipe p ((s.pipe p).put i (some { e with hit := true, learnSec := s.sec32, epoch := s.data.flushNo }))) ∧
  (∀ (s : State) (p i : Nat) (n : Notice) (e : MacEnt), s.data.notices.find? (fun n => n.pipe == p) = some n →
    (s.pipe p).find ⟨n.dom, n.vid, n.mac⟩ = some i → (s.pipe p).at i = some e → e.stat = false → e.learnCycle < n.cycle →
    let u := s.modData (fun d => { d with notices := d.notices.erase n })
    exec (.learnNotice p) s = kept s ((u.setPipe p ((s.pipe p).put i none)).pipeCnt p 9)) ∧
  (∀ (s : State) (p : Nat), (s.pipe p).walk.isSome = true → exec (.stashReturn p) s = .next s) ∧
  (∀ (s : State) (p i : Nat) (m : MacEnt), (s.pipe p).walk = none → (s.pipe p).stash = [(i, some m)] →
    (∀ z, ((s.pipe p).put (262144 + i) none).place m = some z → exec (.stashReturn p) s = kept s (s.setPipe p z)) ∧
    (((s.pipe p).put (262144 + i) none).place m = none → exec (.stashReturn p) s = kept s (s.setPipe p (s.pipe p)))) ∧
  (∀ (s : State) (p b : Nat), (s.reg (fwdA 4)).toNat = 0 → exec (.ageingSweep p b) s = .next s) ∧
  (∀ (s : State) (p b : Nat), s.sweepDue p b = false → exec (.ageingSweep p b) s = .next s) ∧
  (∀ (s : State) (p b i : Nat) (e : MacEnt), (s.reg (fwdA 4)).toNat ≠ 0 → b < 65536 → i ∈ slotsOf b →
    s.sweepDue p b = true → (s.pipe p).learnQ = [] →
    (s.pipe p).at i = some e → (∀ j ∈ slotsOf b, j ≠ i → (s.pipe p).at j = none) → e.stat = false →
    SMap.wf (fun _ => ({} : Pipe)) s.data.pipes = true → SMap.wf (fun _ => (none : Option MacEnt)) (s.pipe p).table = true →
    let u := s.setPipe p { s.pipe p with swept := (s.pipe p).swept.set none b (some s.ns) }
    (e.hit = true → exec (.ageingSweep p b) s = kept s (u.setPipe p ((u.pipe p).put i (some { e with hit := false })))) ∧
    (e.hit = false → exec (.ageingSweep p b) s = kept s ((u.setPipe p ((u.pipe p).put i none)).pipeCnt p 11))) ∧
  (∀ (s : State) (p mac vid dom i : Nat) (e : MacEnt), (s.pipe p).find ⟨dom, vid, mac⟩ = some i → (s.pipe p).at i = some e →
    e.frozen = true → (s.ms32 + 2 ^ 32 - e.freezeMs) % 2 ^ 32 < 2 ^ 31 →
    exec (.freezeExpiry p mac vid dom) s =
      kept s (s.setPipe p ((s.pipe p).put i (some { e with frozen := false, moves := 0, freezeMs := 0 })))) ∧
  (∀ (s : State) (p t : Nat), (s.pipe p).walk = some t → t + 20000000 ≤ s.clk.hubc →
    exec (.walkTimeout p) s = kept s (s.setPipe p { s.pipe p with walk := none })) ∧
  (∀ (s : State) (p acc : Nat) (f : Flush), (s.pipe p).learnQ = [] → (s.pipe p).flushes.find? (fun f => f.acc == acc) = some f →
    let u := s.setPipe p { ((s.pipe p).keepIf (fun e => !f.takes e)) with flushes := (s.pipe p).flushes.filter (fun g => g.acc != acc) };
    ((List.range 8).find? (fun q => (u.pipe q).flushes.any (fun g => g.acc == acc)) = none) →
    exec (.flushDone p acc) s = kept s (u.complete acc { status := stOk, r0 := f.removed + ((s.pipe p).entries.filter (fun e => f.takes e.2)).length })) ∧
  (∀ (s : State) (p acc : Nat) (seed : W32) (y : Pipe), (s.pipe p).walk = none → (s.pipe p).rehash = some (acc, seed) →
    (s.pipe p).rebuild seed = (y, 0) →
    exec (.rehashDone p) s = kept s (((s.setPipe p y).raise evRehashDone p).complete acc { status := stOk }))

/-- A frame goes where steering, classification and bridging send it, or is dropped and counted once. Formalises R304,
R305, R308, R310, R222 (derived). -/
def Obligations.FramesAreSteeredAndBridged : Prop :=
  (∀ (s : State) (f : UpFrame), (s.uport f.u).cfg = none → exec (.uplinkFrameIngress f) s = .next s) ∧
  (∀ (s : State) (f : UpFrame) (w l m : Nat), (s.uport f.u).cfg = some (w, l, m) → s.portUp f.u = true →
    let t := ((s.fecCounts f).uplCnt f.u 0 1).uplCnt f.u 1 f.len
    (f.fcsOk = false → exec (.uplinkFrameIngress f) s = kept s (t.uplCnt f.u 2 1)) ∧
    (f.fcsOk = true → m < f.len → exec (.uplinkFrameIngress f) s = kept s (t.uplCnt f.u 3 1)) ∧
    (f.fcsOk = true → f.len ≤ m → f.len < 64 → exec (.uplinkFrameIngress f) s = kept s (t.uplCnt f.u 4 1)) ∧
    (f.fcsOk = true → f.len ≤ m → 64 ≤ f.len → f.ctrl = true → exec (.uplinkFrameIngress f) s = kept s (t.uplCnt f.u 5 1)) ∧
    (∀ v y, f.fcsOk = true → f.len ≤ m → 64 ≤ f.len → f.ctrl = false → f.etype ≠ 0x8808 → f.etype ≠ 0x88B5 →
      t.secReceive f.u f.sec = (true, v) → v.trapped f.u f.timing = false → v.standby = false → v.d2dTake (4 + f.u / 64) 0 f.len = (true, y) →
      let e := v.data.steer.get {} (4096 * f.u + f.vid.getD 0 % 4096)
      (e.valid = false → exec (.uplinkFrameIngress f) s = kept s (y.fwdCnt 0)) ∧
      (∀ z, e.valid = true → y.pipeTake e.pipe 0 = (false, z) → exec (.uplinkFrameIngress f) s = kept s z) ∧
      (∀ z, e.valid = true → e.mode = 0 → f.len ≤ 9728 → y.pipeTake e.pipe 0 = (true, z) →
        z.keyFlow e.pipe (e.dom, f.vid.getD 0, f.inner) = none →
        exec (.uplinkFrameIngress f) s = kept s (z.pipeCnt e.pipe 1)) ∧
      (∀ z i, e.valid = true → e.mode = 0 → f.len ≤ 9728 → y.pipeTake e.pipe 0 = (true, z) →
        z.keyFlow e.pipe (e.dom, f.vid.getD 0, f.inner) = some i →
        exec (.uplinkFrameIngress f) s = kept s (z.store (2 * e.pipe) e.dom f.len false [z.downCopy f i])))) ∧
  (∀ (s : State) (f : DnFrame), s.xgemFlow f.sc f.xgem = none → exec (.upstreamFrame f) s = .next s) ∧
  (∀ (s : State) (f : DnFrame) (i : Nat), s.xgemFlow f.sc f.xgem = some i → s.carrier f = none → s.standby = false →
    exec (.upstreamFrame f) s = kept s (s.setFrag i 0)) ∧
  (∀ (s : State) (f : DnFrame) (i : Nat) (b : Burst) (a : Alloc), s.xgemFlow f.sc f.xgem = some i → s.carrier f = some (b, a) → s.standby = false →
    let x := (s.flow i).under f.m
    (s.upDiscarded b a x = true → exec (.upstreamFrame f) s = kept s (s.setFrag i 0)) ∧
    (s.upDiscarded b a x = false → f.key = 0 → x.encrypt = true →
      exec (.upstreamFrame f) s = kept s ((s.setFrag i 0).ponCnt (scDie x.sc) 4)) ∧
    (s.upDiscarded b a x = false → s.upKey x f.key = true → (x.encrypt = true → f.key ≠ 0) →
      (f.last = false → exec (.upstreamFrame f) s = kept s (s.setFrag i (s.data.frags.get 0 i + f.len))) ∧
      (∀ n v w, f.last = true → n = s.data.frags.get 0 i + f.len → x.kind ≠ 2 → n ≤ 9728 →
        (s.setFrag i 0).d2dTake (scDie x.sc) 0 n = (true, v) → v.pipeTake (pipeOfSub x.sc) 1 = (true, w) →
        exec (.upstreamFrame f) s = kept s (w.bridge i { f with len := n } x)))) ∧
  (∀ (s : State) (u vid : Nat) (l : List Nat), s.hintVlan u vid = none → exec (.hintFrame u vid l) s = .next s) ∧
  (∀ (s : State) (u vid d : Nat) (l : List Nat), s.portUp u = true → s.hintVlan u vid = some d → hintFrameOk l = false → s.standby = false →
    exec (.hintFrame u vid l) s = kept s (s.fwdCnt 1)) ∧
  (∀ (s : State) (u vid d : Nat) (l : List Nat), s.portUp u = true → s.hintVlan u vid = some d → hintFrameOk l = true → s.standby = false →
    exec (.hintFrame u vid l) s = kept s ((List.range (leAt l 1 1)).foldl (fun s r =>
      s.postHint d (leAt l (8 + 16 * r) 4) (leAt l (12 + 16 * r) 4) (leAt l (16 + 16 * r) 8)) s))

/-- Operations on units, self-tests and the health port do what R417, R418, R421 and R424 say. Formalises R417, R418,
R421, R424, R258 (derived). -/
def Obligations.HardwareCommandsAndSelfTests : Prop :=
  (∀ (c : Desc) (s : State), Starts infoRetireHw c s → let z := s.jrnStart c
    (z.health (hwCls c) (hwUnit c)).st = .retired →
    exec (.retireHw c) s = kept s ((z : State).complete c.acc { status := stRetired })) ∧
  (∀ (c : Desc) (s : State), Starts infoRetireHw c s → let z := s.jrnStart c
    hwCls c = 7 ∨ hwCls c = 8 ∨ hwCls c = 9 → (z.health (hwCls c) (hwUnit c)).st = .active → z.hasSpare (hwCls c) = false →
    exec (.retireHw c) s = kept s ((z : State).complete c.acc { status := stState })) ∧
  (∀ (c : Desc) (s : State), Starts infoRetireHw c s → let z := s.jrnStart c
    ∀ e, hwCls c ≤ 2 → (z.health (hwCls c) (hwUnit c)).st = .active ∨ (z.health (hwCls c) (hwUnit c)).st = .spare → z.resolveE none c = .ok e → z.pendRoom = true →
    exec (.retireHw c) s = kept s (((z.defer c e (z.retireChange (hwCls c) (hwUnit c))).retireNamed (hwUnit c) e (hwCls c) (z.retireChange (hwCls c) (hwUnit c)) : State).complete c.acc { status := stDeferred, msc := some e })) ∧
  (∀ (c : Desc) (s : State), Starts infoRetireHw c s → let z := s.jrnStart c
    2 < hwCls c → hwCls c < 7 ∨ hwCls c = 10 → c.effect = 0 → (z.health (hwCls c) (hwUnit c)).st = .active →
    exec (.retireHw c) s = kept s ((z.faultOut (hwCls c) (hwUnit c) : State).complete c.acc { status := stOk })) ∧
  (∀ (c : Desc) (s : State), Starts infoRetireHw c s → let z := s.jrnStart c
    2 < hwCls c → hwCls c < 7 ∨ hwCls c = 10 → c.effect = 0 → (z.health (hwCls c) (hwUnit c)).st = .spare →
    exec (.retireHw c) s = kept s ((if hwCls c = 5 then z.pcSpareOut (hwUnit c) else z.setUnitSt (hwCls c) (hwUnit c) .retired : State).complete c.acc { status := stOk })) ∧
  (∀ (c : Desc) (s : State), Starts infoReturnHw c s → let z := s.jrnStart c
    (z.health (hwCls c) (hwUnit c)).st ≠ .retired →
    exec (.returnHw c) s = kept s ((z : State).complete c.acc { status := stState })) ∧
  (∀ (c : Desc) (s : State), Starts infoReturnHw c s → let z := s.jrnStart c
    ∀ v w, 0 < hwCls c → hwCls c ≠ 7 → (z.health (hwCls c) (hwUnit c)).st = .retired → z.draw = (v, w) →
    let t := w.setHealth (hwCls c) (hwUnit c) { w.health (hwCls c) (hwUnit c) with testMsc := w.clk.msc, testPass := v.toNat % 2 == 1 };
    exec (.returnHw c) s = kept s (if v.toNat % 2 = 1 then (t.setUnitSt (hwCls c) (hwUnit c) .spare).complete c.acc { status := stOk }
      else (t.countError (hwCls c) (hwUnit c)).complete c.acc { status := stRetired })) ∧
  (∀ (c : Desc) (s : State), Starts infoRunSelfTest c s → let z := s.jrnStart c
    (z.health (hwCls c) (hwUnit c)).st = .active →
    exec (.runSelfTest c) s = kept s ((z : State).complete c.acc { status := stState })) ∧
  (∀ (c : Desc) (s : State), Starts infoRunSelfTest c s → let z := s.jrnStart c
    ∀ v w, (z.health (hwCls c) (hwUnit c)).st = .spare → z.draw = (v, w) →
    exec (.runSelfTest c) s = kept s ((w.tested (hwCls c) (hwUnit c) (v.toNat % 2 == 1)).complete c.acc { status := stOk, r0 := v.toNat % 2 })) ∧
  (∀ (c : Desc) (s : State), Starts infoReadHealth c s → let z := s.jrnStart c
    exec (.readHealth c) s = kept s ((z.outBuf c (leBytes 8 (z.healthWord (hwCls c) (hwUnit c)).toNat ++ leBytes 8 (z.health (hwCls c) (hwUnit c)).testMsc) : State).complete c.acc { status := stOk })) ∧
  (∀ (s : State) (cls u : Nat) (pass : Bool), cls ≤ 10 → u < clsUnits cls → (s.health cls u).st = .spare →
    exec (.selfTestRotation cls u pass) s = kept s
      (let t := s.setHealth cls u { s.health cls u with testMsc := s.clk.msc, testPass := pass }
       if pass then t else t.countError cls u)) ∧
  (∀ (s : State) (cls u : Nat) (pass : Bool), cls < 8 → (s.health cls u).st ≠ .spare → exec (.selfTestRotation cls u pass) s = .next s) ∧
  (∀ (s : State) (w : W32), s.writable = true →
    exec (.healthSel w) s = kept s ((s.unlatch (sprA 0x200)).setReg (sprA 0x200) (BitVec.ofNat 64 (2 ^ 31 + w.toNat / 2 ^ 24 % 16 * 2 ^ 24 + w.toNat % 2 ^ 12)))) ∧
  (∀ (s : State), s.bit (sprA 0x200) 31 = true →
    exec .healthReadDone s = kept s ((s.setReg (sprA 0x208) (s.healthWord (s.fld (sprA 0x200) 27 24) (s.fld (sprA 0x200) 11 0))).setBit (sprA 0x200) 31 false)) ∧
  (∀ (s : State), s.bit (sprA 0x200) 31 = false → exec .healthReadDone s = .next s)

/-- Errors beyond a threshold retire a unit, and lost cores and die-to-die modules are replaced or lost as their rules
say. Formalises R25, R26, R154, R155, R414, R415 (derived). -/
def Obligations.FaultsAndDetours : Prop :=
  (∀ (s : State) (g : Nat), (s.core g).st = .lost → exec (.coreLost g) s = .next s) ∧
  (∀ (s : State) (g : Nat), g < 104 → (s.core g).st ≠ .lost → (s.core g).group = none →
    (∀ h, (s.core h).detour = none) → SMap.wf Core.dflt s.grant.cores = true →
    let t := ((s.stopCtxs g).setCoreSt g .lost).raise evCoreLost g
    exec (.coreLost g) s = kept s { t with deferred := t.deferred.filter (fun p => match p.change with
      | .coreDetour h _ => h != g
      | _ => true) }) ∧
  (∀ (s : State) (g q k : Nat), g < 104 → (s.core g).st ≠ .lost → (s.core g).group = some q →
    (∀ h, (s.core h).detour = none) → SMap.wf Core.dflt s.grant.cores = true →
    let t := ((s.stopCtxs g).setCoreSt g .lost).raise evCoreLost g
    let u := { t with deferred := t.deferred.filter (fun p => match p.change with
      | .coreDetour h _ => h != g
      | _ => true) };
    u.freeCore = some k →
    exec (.coreLost g) s = kept s ((u.setCore g { u.core g with detour := some (k, u.earliestAck) }).setCoreSt k .loading)) ∧
  (∀ (s : State) (g k d : Nat), (s.core g).st = .lost → (s.core g).detour = some (k, d) → (s.core k).st = .loading →
    exec (.coreSpareLoaded g) s = kept s ((s.takeOver g k s.earliest .lost).unsyncGroup ((s.core g).group.getD 96))) ∧
  (∀ (s : State) (g : Nat), (s.core g).st ≠ .lost → exec (.coreSpareLoaded g) s = .next s) ∧
  (∀ (s : State) (cls u : Nat), (s.health cls u).win < s.faultK cls → exec (.unitFault cls u) s = .next s) ∧
  (∀ (s : State) (cls u : Nat), cls ≤ 10 → u < clsUnits cls → s.faultK cls ≤ (s.health cls u).win →
    (s.health cls u).st = .active →
    let t := s.setHealth cls u { s.health cls u with win := 0, openMsc := none }
    exec (.unitFault cls u) s = kept s (((t.add32 (sprA (0xC + 0x10 * cls)) 1).raise evUnitFault (cls * 2 ^ 24 + u)).faultOut cls u)) ∧
  (∀ (s : State) (cls u m : Nat), cls ≤ 10 → u < clsUnits cls → (s.health cls u).openMsc = some m →
    m + s.faultW cls ≤ s.clk.msc → (s.health cls u).win < s.faultK cls →
    exec (.faultWindowExpiry cls u) s = kept s (s.setHealth cls u { s.health cls u with win := 0, openMsc := none })) ∧
  (∀ (s : State) (cls u m : Nat), (s.health cls u).openMsc = some m → s.clk.msc < m + s.faultW cls →
    exec (.faultWindowExpiry cls u) s = .next s) ∧
  (∀ (s : State) (die m : Nat), die < 6 → m < 4 → (s.module die m).lost = false →
    let t := (s.setModule die m { s.module die m with retries := (s.module die m).retries + 1 }).add64 (sprA (0x110 + 8 * die)) 1
    exec (.d2dFlitRetry die m) s = kept s (if 1000 < (s.module die m).retries + 1 then t.countError 6 (4 * die + m) else t)) ∧
  (∀ (s : State) (die m : Nat), (s.module die m).lost = true → exec (.d2dFlitRetry die m) s = .next s) ∧
  (∀ (s : State) (die m r : Nat) (b : Bool), die < 6 → m < 4 → (s.module die m).lost = false →
    (if r = 0 then (s.module die m).repaired0 else (s.module die m).repaired1) < 4 →
    exec (.d2dLaneRepair die ⟨m, r⟩ 1 b) s = kept s (((s.countError 6 (4 * die + m)).setModule die m
      (if r = 0 then { s.module die m with repaired0 := (s.module die m).repaired0 + 1 }
       else { s.module die m with repaired1 := (s.module die m).repaired1 + 1 })).raise evD2dLaneRepair (4 * die + m))) ∧
  (∀ (s : State) (die m r : Nat) (b : Bool), die < 6 → m < 4 → (s.module die m).lost = false →
    (if r = 0 then (s.module die m).repaired0 else (s.module die m).repaired1) = 4 →
    exec (.d2dLaneRepair die ⟨m, r⟩ 1 b) s = kept s ((s.countError 6 (4 * die + m)).moduleDegrade die m b)) ∧
  (∀ (s : State) (die m r n : Nat) (b : Bool), (s.module die m).lost = true → exec (.d2dLaneRepair die ⟨m, r⟩ n b) s = .next s)

/-- Commands of family 0x06 set ciphers, policies and keys, and SA slots pass through their states, as their rules say.
Formalises R353, R357, R359, R362, R363, R364, R367 (derived). -/
def Obligations.KeyAndCipherCommands : Prop :=
  (∀ (c : Desc) (s : State), Starts infoSetCipher c s → let z := s.jrnStart c
    c.dom = 0 → z.isProtect (c.n0 / 2) = false → (z.sub c.n0).road = .disabled →
    exec (.setCipher c) s = kept s ((z.setSubCph c.n0 { z.subCph c.n0 with sm4 := decide (c.n1 = 1) } : State).complete c.acc { status := stOk })) ∧
  (∀ (c : Desc) (s : State), Starts infoSetCipher c s → let z := s.jrnStart c
    c.dom = 0 → (z.sub c.n0).road ≠ .disabled →
    exec (.setCipher c) s = kept s ((z : State).complete c.acc { status := stState })) ∧
  (∀ (c : Desc) (s : State), Starts infoSetKeyPolicy c s → let z := s.jrnStart c
    c.dom = 0 → z.isProtect (c.n0 / 2) = false →
    exec (.setKeyPolicy c) s = kept s ((z.setSubCph c.n0 { z.subCph c.n0 with rekeyS := c.n1 } : State).complete c.acc { status := stOk })) ∧
  (∀ (c : Desc) (s : State), Starts infoInstallPonKey c s → let z := s.jrnStart c
    ∀ k, c.dom = 0 → k = 131072 * (c.n0 % 4) + c.n0 / 4 → reused (z.keySlot k).prints c.inp = true →
    exec (.installPonKey c) s = kept s ((z : State).complete c.acc { status := stKeyReuse })) ∧
  (∀ (c : Desc) (s : State), Starts infoInstallPonKey c s → let z := s.jrnStart c
    ∀ k, c.dom = 0 → k = 131072 * (c.n0 % 4) + c.n0 / 4 → reused (z.keySlot k).prints c.inp = false →
    exec (.installPonKey c) s = kept s ((z.setKeySlot k { key := some (padTo 16 c.inp), prints := (keyPrint c.inp :: (z.keySlot k).prints).take 4 } : State).complete c.acc { status := stOk })) ∧
  (∀ (c : Desc) (s : State), Starts infoSwitchPonKey c s → let z := s.jrnStart c
    c.dom = 0 → z.isProtect (c.n0 / 2) = false → (z.keySlot (bcastSlot c.n0 c.n1)).key = none →
    exec (.switchPonKey c) s = kept s ((z : State).complete c.acc { status := stState })) ∧
  (∀ (c : Desc) (s : State), Starts infoSwitchPonKey c s → let z := s.jrnStart c
    ∀ k, c.dom = 0 → z.isProtect (c.n0 / 2) = false → (z.keySlot (bcastSlot c.n0 c.n1)).key = some k →
    exec (.switchPonKey c) s = kept s (z.setSubCph c.n0 { z.subCph c.n0 with switch := (z.subCph c.n0).switch ++ [(z.clk.msc + 16, c.n1, c.acc)] })) ∧
  (∀ (c : Desc) (s : State), Starts infoConfigSecy c s → let z := s.jrnStart c
    c.dom = 0 → z.portSecured c.n0 = true →
    exec (.configSecy c) s = kept s ((z : State).complete c.acc { status := stState })) ∧
  (∀ (c : Desc) (s : State), Starts infoConfigSecy c s → let z := s.jrnStart c
    c.dom = 0 → z.portSecured c.n0 = false →
    exec (.configSecy c) s = kept s ((z.setSecy c.n0 { z.secy c.n0 with configured := true, owner := c.n1 % 64, offset := c.n1 / 64 % 4, validate := c.n1 / 256 % 4, sciInc := c.n1 / 1024 % 2 == 1, window := c.n2 } : State).complete c.acc { status := stOk })) ∧
  (∀ (c : Desc) (s : State), Starts infoInstallSa c s → let z := s.jrnStart c
    ∀ k x, leAt c.inp 0 2 < 1024 → leAt c.inp 2 2 < 2048 → leAt c.inp 0x1C 4 = 0 → leAt c.inp 0x48 8 = 0 → k = saKey (leAt c.inp 0 2 % 128 / 64) (leAt c.inp 2 2) → x = readSaBlock c.inp c.dom (z.sa k).prints → (x.rx = true ∨ x.pn ≠ 0) → c.dom = 0 → ((z.sa k).inst = true → (z.sa k).dom = 0) → reused (z.sa k).prints x.key = true →
    exec (.installSa c) s = kept s ((z : State).complete c.acc { status := stKeyReuse })) ∧
  (∀ (c : Desc) (s : State), Starts infoInstallSa c s → let z := s.jrnStart c
    ∀ k x, leAt c.inp 0 2 < 1024 → leAt c.inp 2 2 < 2048 → leAt c.inp 0x1C 4 = 0 → leAt c.inp 0x48 8 = 0 → k = saKey (leAt c.inp 0 2 % 128 / 64) (leAt c.inp 2 2) → x = readSaBlock c.inp c.dom (z.sa k).prints → x.rx = false → x.pn ≠ 0 → c.dom = 0 → ((z.sa k).inst = true → (z.sa k).dom = 0) → reused (z.sa k).prints x.key = false → z.otherSa k x (fun y => y.sci != x.sci) = false → z.otherSa k x (fun y => y.sci == x.sci && y.an == x.an) = false →
    exec (.installSa c) s = kept s ((z.setSa k x : State).complete c.acc { status := stOk })) ∧
  (∀ (c : Desc) (s : State), Starts infoEnableSa c s → let z := s.jrnStart c
    (z.sa (saOf c)).inst = false →
    exec (.enableSa c) s = kept s ((z : State).complete c.acc { status := stNotFound })) ∧
  (∀ (c : Desc) (s : State), Starts infoEnableSa c s → let z := s.jrnStart c
    (z.sa (saOf c)).inst = true → (z.sa (saOf c)).dom = c.dom → (z.sa (saOf c)).rx = false → ((z.sa (saOf c)).st = saExhausted ∨ pnMax < (z.sa (saOf c)).pn) →
    exec (.enableSa c) s = kept s ((z : State).complete c.acc { status := stCounter })) ∧
  (∀ (c : Desc) (s : State), Starts infoEnableSa c s → let z := s.jrnStart c
    ∀ j w, (z.sa (saOf c)).inst = true → (z.sa (saOf c)).dom = c.dom → (z.sa (saOf c)).rx = false → (z.sa (saOf c)).st ≠ saExhausted → (z.sa (saOf c)).pn ≤ pnMax → z.txSa (z.sa (saOf c)).port = some j → j ≠ saOf c → w = (z.setSa j { z.sa j with st := saStopped }).forgetExh (z.sa (saOf c)).port (fun _ => true) →
    exec (.enableSa c) s = kept s ((w.setSa (saOf c) { w.sa (saOf c) with st := saEnabled } : State).complete c.acc { status := stOk })) ∧
  (∀ (c : Desc) (s : State), Starts infoEnableSa c s → let z := s.jrnStart c
    (z.sa (saOf c)).inst = true → (z.sa (saOf c)).dom = c.dom → (z.sa (saOf c)).rx = true →
    exec (.enableSa c) s = kept s ((z.setSa (saOf c) { z.sa (saOf c) with st := saEnabled } : State).complete c.acc { status := stOk })) ∧
  (∀ (c : Desc) (s : State), Starts infoRemoveSa c s → let z := s.jrnStart c
    (z.sa (saOf c)).inst = true → (z.sa (saOf c)).dom = c.dom →
    exec (.removeSa c) s = kept s (((z.forgetExh (z.sa (saOf c)).port (fun j => j == saOf c)).setSa (saOf c) { prints := (z.sa (saOf c)).prints } : State).complete c.acc { status := stOk })) ∧
  (∀ (c : Desc) (s : State), Starts infoRemoveSa c s → let z := s.jrnStart c
    (z.sa (saOf c)).inst = true → (z.sa (saOf c)).dom ≠ c.dom →
    exec (.removeSa c) s = kept s ((z : State).complete c.acc { status := stDomain })) ∧
  (∀ (c : Desc) (s : State), Starts infoReadSa c s → let z := s.jrnStart c
    (z.sa (saOf c)).inst = true → (z.sa (saOf c)).dom = c.dom →
    exec (.readSa c) s = kept s ((z.outBuf c (z.sa (saOf c)).bytes : State).complete c.acc { status := stOk })) ∧
  (∀ (c : Desc) (s : State), Starts infoRekeyTerminal c s → let z := s.jrnStart c
    (z.term (c.n0 % 2 ^ 16) (c.n0 / 2 ^ 16)).act = .operation → (z.term (c.n0 % 2 ^ 16) (c.n0 / 2 ^ 16)).dom = c.dom → z.isProtect (c.n0 % 2 ^ 16 / 2) = false → z.underTest (c.n0 % 2 ^ 16) (c.n0 / 2 ^ 16) = false →
    exec (.rekeyTerminal c) s = kept s ((z.kexStart (c.n0 % 2 ^ 16) (c.n0 / 2 ^ 16) : State).complete c.acc { status := stOk })) ∧
  (∀ (c : Desc) (s : State), Starts infoRekeyTerminal c s → let z := s.jrnStart c
    (z.term (c.n0 % 2 ^ 16) (c.n0 / 2 ^ 16)).act = .free →
    exec (.rekeyTerminal c) s = kept s ((z : State).complete c.acc { status := stNotFound }))

/-- The key exchange and the cipher units do what R350, R355 and R358 say. Formalises R350, R355, R358, R364, R356
(derived). -/
def Obligations.KeyExchangeAndChunks : Prop :=
  (∀ (s : State) (sc t : Nat) (k : List Nat), (s.kex sc t).openMiss = none → exec (.keyReport sc t k) s = .next s) ∧
  (∀ (s : State) (sc t n : Nat) (k : List Nat), (s.kex sc t).openMiss = some n → (s.term sc t).act = .operation →
    (s.kex sc t).full = true → exec (.keyReport sc t k) s = .next s) ∧
  (∀ (s : State) (sc t n : Nat) (k : List Nat), (s.kex sc t).openMiss = some n → (s.term sc t).act = .operation →
    (s.kex sc t).full = false → reused (s.keySlot (uniSlot sc t (s.kex sc t).other)).prints k = true →
    exec (.keyReport sc t k) s = kept s (s.kexMiss sc t)) ∧
  (∀ (s : State) (sc t n : Nat) (k : List Nat), (s.kex sc t).openMiss = some n → (s.term sc t).act = .operation →
    (s.kex sc t).full = false → (s.term sc t).dom = 0 → reused (s.keySlot (uniSlot sc t (s.kex sc t).other)).prints k = false →
    let i := (s.kex sc t).other
    let w := s.setKeySlot (uniSlot sc t i) ((s.keySlot (uniSlot sc t i)).write k)
    exec (.keyReport sc t k) s = kept s (((w.setKex sc t { s.kex sc t with openMiss := none, used := true, switch := some (s.clk.msc + 16, i) }).ploam sc t plKeyControl [1, i] s.nextFrame).tell
      ([1, sc, t, i, s.clk.msc + 16] ++ Config.wrap k))) ∧
  (∀ (s : State) (sc t : Nat), let x := s.kex sc t; let n := 8000 * (s.subCph sc).rekeyS
    s.clk.msc + x.stag % n < x.started + n → exec (.rekeyTimer sc t) s = .next s) ∧
  (∀ (s : State) (sc t : Nat), let x := s.kex sc t; let n := 8000 * (s.subCph sc).rekeyS
    x.started + n ≤ s.clk.msc + x.stag % n → (s.term sc t).act = .operation → x.openMiss = none → s.standby = false →
    exec (.rekeyTimer sc t) s = kept s ((s.setKex sc t { x with
      openMiss := some 0, started := s.clk.msc, stag := if x.started = 0 then Config.rekeyStagger (512 * sc + t) else 0 }).keyRequest sc t)) ∧
  (∀ (s : State) (sc t n : Nat), (s.kex sc t).openMiss = some n → (s.term sc t).act = .operation → (s.kex sc t).started + 800 ≤ s.clk.msc →
    n < 2 → exec (.keyRequestTimeout sc t) s = kept s ((s.setKex sc t { s.kex sc t with openMiss := some (n + 1), started := s.clk.msc }).keyRequest sc t)) ∧
  (∀ (s : State) (sc t : Nat), (s.kex sc t).openMiss = some 2 → (s.term sc t).act = .operation → (s.kex sc t).started + 800 ≤ s.clk.msc →
    exec (.keyRequestTimeout sc t) s = kept s ((s.setKex sc t { s.kex sc t with openMiss := none }).raise evKeyExchangeFail (cphArg (scDie sc) sc))) ∧
  (∀ (s : State) (q : ChunkReq), s.chunkOk q = true → q.trunk = false → q.block = 0 ∨ s.cph.cut.get false (chunkId q) = false →
    (s.keySlot (131072 * q.die + q.slot)).key = none →
    let u := s.modCph (fun c => { c with cut := c.cut.set false (chunkId q) true })
    exec (.cipherChunk q) s = kept s (if q.up then u.add32 (subA (slotSub q.die q.slot) 0x38) 1 else u.ponCnt q.die 3)) ∧
  (∀ (s : State) (q : ChunkReq), q.block ≠ 0 → s.cph.cut.get false (chunkId q) = true → exec (.cipherChunk q) s = .next s) ∧
  (∀ (s : State) (q : ChunkReq) (k : List Nat), s.chunkOk q = true → q.trunk = false →
    (s.keySlot (131072 * q.die + q.slot)).key = some k → q.block = 0 → q.retry = none →
    let sc := slotSub q.die q.slot
    exec (.cipherChunk q) s = kept s (((s.ponCnt q.die 0).modCph (fun c => { c with cut := c.cut.set false (chunkId q) false })).emit
      (.chunk q.die q.slot (cipherBytes (b2n (s.subCph sc).sm4) k
        ((if q.up then s.clk.msc + 1 - s.len sc else s.clk.msc) % 2 ^ 51) 0 0 q.bytes)))) ∧
  (∀ (s : State) (q : ChunkReq) (k : List Nat) (u : Nat), s.chunkOk q = true → q.trunk = false →
    (s.keySlot (131072 * q.die + q.slot)).key = some k → q.block ≠ 0 → s.cph.cut.get false (chunkId q) = false → q.retry = some (u, true) →
    exec (.cipherChunk q) s = kept s ((((s.cipherUpset q q.unit).cipherUpset q u).modCph (fun c => { c with
      cut := c.cut.set false (chunkId q) true })).ponCnt q.die 2)) ∧
  (∀ (s : State) (q : ChunkReq), s.chunkOk q = true → q.trunk = true → q.block = 0 ∨ s.cph.cut.get false (chunkId q) = false →
    200000 * s.cphUnits 4 q.die UnitSt.inService < 15 * (s.cph.macLoad.get 0 q.die + chunkCost q) →
    exec (.cipherChunk q) s = kept s ((s.modCph (fun c => { c with cut := c.cut.set false (chunkId q) true })).macCnt q.die 2)) ∧
  (∀ (s : State) (u : Nat) (b : Bool), (s.health 3 u).st = .retired → exec (.katTest 3 u b) s = .next s) ∧
  (∀ (s : State) (u : Nat), u < 1408 → (s.health 3 u).st = .spare →
    (s.health 3 u).testMsc = 0 ∨ (s.health 3 u).testMsc + s.katPeriod ≤ s.clk.msc →
    let t := fun b => s.setHealth 3 u { s.health 3 u with testMsc := s.clk.msc, testPass := b }
    exec (.katTest 3 u true) s = kept s (t true) ∧ exec (.katTest 3 u false) s = kept s ((t false).countError 3 u))

/-- Operations 0x10 to 0x15 of family 0x04, the dequeue, gate switches and the sampler do what R276 to R301 say.
Formalises R276, R278, R279, R282, R291, R294, R296, R298, R301 (derived). -/
def Obligations.SchedulingCommandsAndDequeue : Prop :=
  (∀ (c : Desc) (s : State), Starts infoSetFlowSched c s → let z := s.jrnStart c
    (z.flow c.n0).inst = true → (z.flow c.n0).dom = c.dom →
    exec (.setFlowSched c) s = kept s ((z.setSched false c.n0 ((z.sched false c.n0).change z.ns (readSched c.inp)) : State).complete c.acc { status := stOk })) ∧
  (∀ (c : Desc) (s : State), Starts infoSetFlowSched c s → let z := s.jrnStart c
    (z.flow c.n0).inst = false →
    exec (.setFlowSched c) s = kept s ((z : State).complete c.acc { status := stNotFound })) ∧
  (∀ (c : Desc) (s : State), Starts infoSetNodeSched c s → let z := s.jrnStart c
    qKind c = 1 → z.qObj 1 (qIdx c) = (true, c.dom) →
    exec (.setNodeSched c) s = kept s ((z.setNode false (qIdx c) ((z.node false (qIdx c)).change z.ns (readSched c.inp)) : State).complete c.acc { status := stOk })) ∧
  (∀ (c : Desc) (s : State), Starts infoSetNodeSched c s → let z := s.jrnStart c
    qKind c = 2 → z.qObj 2 (qIdx c) = (true, c.dom) →
    exec (.setNodeSched c) s = kept s ((z.setNode true (qIdx c) ((z.node true (qIdx c)).change z.ns (readSched c.inp)) : State).complete c.acc { status := stOk })) ∧
  (∀ (c : Desc) (s : State), Starts infoSetNodeSched c s → let z := s.jrnStart c
    qKind c = 3 → z.qObj 3 (qIdx c) = (true, c.dom) →
    exec (.setNodeSched c) s = kept s ((z.setSched true (qIdx c) ((z.sched true (qIdx c)).change z.ns (readSched c.inp)) : State).complete c.acc { status := stOk })) ∧
  (∀ (c : Desc) (s : State), Starts infoSetNodeSched c s → let z := s.jrnStart c
    ∀ d, z.qObj (qKind c) (qIdx c) = (false, d) →
    exec (.setNodeSched c) s = kept s ((z : State).complete c.acc { status := stNotFound })) ∧
  (∀ (c : Desc) (s : State), Starts infoSetPolicer c s → let z := s.jrnStart c
    ∀ i, i = c.n0 % 2 ^ 20 → (z.flow i).inst = true → (z.flow i).dom = c.dom → 2 ^ 31 ≤ c.n0 → (z.data.polS.get {} i).enabled = false →
    exec (.setPolicer c) s = kept s ((z.modData (fun d => { d with polS := d.polS.set {} i { z.data.polS.get {} i with enabled := true, tc := Bucket.full c.n1 c.n3 z.ns, tp := Bucket.full c.n2 c.n4 z.ns } }) : State).complete c.acc { status := stOk })) ∧
  (∀ (c : Desc) (s : State), Starts infoSetPolicer c s → let z := s.jrnStart c
    ∀ i p, i = c.n0 % 2 ^ 20 → p = z.data.polS.get {} i → (z.flow i).inst = true → (z.flow i).dom = c.dom → 2 ^ 31 ≤ c.n0 → p.enabled = true →
    exec (.setPolicer c) s = kept s ((z.modData (fun d => { d with polS := d.polS.set {} i { p with enabled := true, tc := p.tc.change true z.ns c.n1 c.n3, tp := p.tp.change false z.ns c.n2 c.n4 } }) : State).complete c.acc { status := stOk })) ∧
  (∀ (c : Desc) (s : State), Starts infoSetPortSched c s → let z := s.jrnStart c
    c.dom = 0 →
    exec (.setPortSched c) s = kept s ((z.setPort c.n0 { z.port c.n0 with adj := some (BitVec.ofNat 8 c.n1).toInt } : State).complete c.acc { status := stOk })) ∧
  (∀ (c : Desc) (s : State), Starts infoSetPortSched c s → let z := s.jrnStart c
    c.dom ≠ 0 →
    exec (.setPortSched c) s = kept s ((z : State).complete c.acc { status := stDomain })) ∧
  (∀ (c : Desc) (s : State), Starts infoSetGateList c s → let z := s.jrnStart c
    c.dom = 0 → (z.port c.n0).pend = none →
    exec (.setGateList c) s = kept s (z.setPort c.n0 { z.port c.n0 with pend := some (switchTime (readGates c.inp) ((z.time.dev + 65535) / 65536 + 250000), readGates c.inp), pendAcc := c.acc })) ∧
  (∀ (c : Desc) (s : State), Starts infoSetGateList c s → let z := s.jrnStart c
    ∀ p, c.dom = 0 → (z.port c.n0).pend = some p →
    exec (.setGateList c) s = kept s ((z : State).complete c.acc { status := stState })) ∧
  (∀ (c : Desc) (s : State), Starts (infoReadQueue c) c s → let z := s.jrnStart c
    c.n1 = 0 → z.qObj (qKind c) (qIdx c) = (true, c.dom) →
    exec (.readQueue c) s = kept s ((z.outBuf c (z.queueBytes (qKind c) (qIdx c)) : State).complete c.acc { status := stOk })) ∧
  (∀ (c : Desc) (s : State), Starts (infoReadQueue c) c s → let z := s.jrnStart c
    ∀ w, c.n1 = 1 → z.qObj 0 (qIdx c) = (true, c.dom) → qKind c = 0 → w = z.outBuf c (z.queueBytes 0 (qIdx c)) →
    exec (.readQueue c) s = kept s ((w.setQueue false (qIdx c) { w.queue false (qIdx c) with maxDepth := 0, maxDelay := 0, maxDelayMsc := 0 } : State).complete c.acc { status := stOk })) ∧
  (∀ (s : State) (pt i : Nat), pt < 384 ∨ (512 ≤ pt ∧ pt < 640) → (s.look pt).select pt = some i → s.standby = false →
    exec (.frameDequeue pt) s = kept s ((s.look pt).dequeueFrom pt i)) ∧
  (∀ (s : State) (pt : Nat), pt < 384 ∨ (512 ≤ pt ∧ pt < 640) → (s.look pt).select pt = none → s.standby = false → exec (.frameDequeue pt) s = kept s (s.look pt)) ∧
  (∀ (s : State) (pt : Nat), pt < 384 ∨ (512 ≤ pt ∧ pt < 640) → exec (.gateEntryExpiry pt) s = kept s (s.look pt)) ∧
  (∀ (s : State) (pt : Nat), 640 ≤ pt → exec (.gateEntryExpiry pt) s = .next s) ∧
  (∀ (s : State) (pt ts : Nat) (l : Option GateList), (s.port pt).pend = some (ts, l) → ts ≤ s.devNs →
    let t := s.setPort pt { s.port pt with list := l, pend := none, pendAcc := 0, lastSwitch := ts };
    exec (.gateListActive pt) s = kept s ((t.complete (s.port pt).pendAcc { status := stOk, msc := some (ts / 125000) }).raise evGateListActive (portArg pt))) ∧
  (∀ (s : State) (pt ts : Nat) (l : Option GateList), (s.port pt).pend = some (ts, l) → s.devNs < ts → exec (.gateListActive pt) s = .next s) ∧
  (∀ (s : State) (f : Nat), s.data.samplerOn = true → s.clk.running = true → f < 16384 → s.clk.cycle = 4000 + 12 * f →
    (s.flow (16384 * (s.clk.msc % 64) + f)).inst = true →
    exec .queueSample s = kept s (s.sampleQueue false (16384 * (s.clk.msc % 64) + f))) ∧
  (∀ (s : State) (q : Nat), s.data.samplerOn = true → s.clk.running = true → q < 1024 → s.clk.cycle = 4006 + 12 * q →
    s.classThere (1024 * (s.clk.msc % 64) + q) = true →
    exec .queueSample s = kept s (s.sampleQueue true (1024 * (s.clk.msc % 64) + q))) ∧
  (∀ (s : State), s.data.samplerOn = false ∨ s.clk.cycle < 4000 ∨ (s.clk.cycle - 4000) % 6 ≠ 0 → exec .queueSample s = .next s)

/-- OPEN_DOMAIN and TEARDOWN_DOMAIN move a domain as R59, R261 and R262 say. Formalises R59, R261, R262 (derived). -/
def Obligations.DomainCommands : Prop :=
  (∀ (c : Desc) (s : State), Starts infoOpenDomain c s → let z := s.jrnStart c
    c.n0 ≤ z.host.numVfs → (z.domE c.n0).road = .disabled →
    exec (.openDomain c) s = kept s ((z.setDom c.n0 { road := .enabled, quota := quotaOf c } : State).complete c.acc { status := stOk })) ∧
  (∀ (c : Desc) (s : State), Starts infoOpenDomain c s → let z := s.jrnStart c
    c.n0 ≤ z.host.numVfs → (z.domE c.n0).road = .enabled ∨ (z.domE c.n0).road = .resuming →
    exec (.openDomain c) s = kept s ((z : State).complete c.acc { status := stExists })) ∧
  (∀ (c : Desc) (s : State), Starts infoOpenDomain c s → let z := s.jrnStart c
    z.host.numVfs < c.n0 →
    exec (.openDomain c) s = kept s ((z : State).complete c.acc { status := stState })) ∧
  (∀ (c : Desc) (s : State), Starts infoOpenDomain c s → let z := s.jrnStart c
    ∀ e, c.n0 ≤ z.host.numVfs → (z.domE c.n0).road = .draining → z.resolveE none c = .ok e →
    exec (.openDomain c) s = kept s (z.setDom c.n0 { z.domE c.n0 with road := .resuming, newQuota := some (quotaOf c), resumeAcc := some c.acc, resumeR := some e })) ∧
  (∀ (c : Desc) (s : State), Starts infoTeardownDomain c s → let z := s.jrnStart c
    ∀ e, (z.domE c.n0).road = .enabled → (z.domE c.n0).teardownE = none → z.resolveE none c = .ok e → z.pendRoom = true →
    exec (.teardownDomain c) s = kept s (((z.setDom c.n0 { z.domE c.n0 with teardownE := some e }).defer c e (.domainTeardown c.n0 (c.n1 == 1)) : State).complete c.acc { status := stDeferred, msc := some e })) ∧
  (∀ (c : Desc) (s : State), Starts infoTeardownDomain c s → let z := s.jrnStart c
    (z.domE c.n0).road = .disabled →
    exec (.teardownDomain c) s = kept s ((z : State).complete c.acc { status := stNotFound })) ∧
  (∀ (c : Desc) (s : State), Starts infoTeardownDomain c s → let z := s.jrnStart c
    (z.domE c.n0).road = .draining ∨ (z.domE c.n0).road = .resuming →
    exec (.teardownDomain c) s = kept s ((z : State).complete c.acc { status := stState }))

/-- Windows, host pools, data pools and pseudo-channels change as R332 to R345 say. Formalises R332, R337, R338, R339,
R342, R343, R344, R346 (derived). -/
def Obligations.BufferPoolsAndWindows : Prop :=
  (∀ (c : Desc) (s : State), Starts infoRegisterWindow c s → let z := s.jrnStart c
    ∀ a n i, a = pair64 c.p0 c.p1 → n = pair64 c.p2 c.p3 → i < 16 → (z.domE c.dom).windows.any (fun w => w.1 == i) = false → (z.domE c.dom).windows.any (fun w => decide (a < w.2.1 + w.2.2 ∧ w.2.1 < a + n)) = true →
    exec (.registerWindow c) s = kept s ((z : State).complete c.acc { status := stBadArg })) ∧
  (∀ (c : Desc) (s : State), Starts infoRegisterWindow c s → let z := s.jrnStart c
    (∀ i < 16, (z.domE c.dom).windows.any (fun w => w.1 == i) = true) →
    exec (.registerWindow c) s = kept s ((z : State).complete c.acc { status := stNoRoom })) ∧
  (∀ (c : Desc) (s : State), Starts infoRegisterWindow c s → let z := s.jrnStart c
    ∀ a n x i, a = pair64 c.p0 c.p1 → n = pair64 c.p2 c.p3 → x = z.domE c.dom → x.windows.any (fun w => decide (a < w.2.1 + w.2.2 ∧ w.2.1 < a + n)) = false → i < 16 → x.windows.any (fun w => w.1 == i) = false → (∀ j < i, x.windows.any (fun w => w.1 == j) = true) →
    exec (.registerWindow c) s = kept s ((z.setDom c.dom { x with windows := x.windows.filter (fun w => decide (w.1 < i)) ++ [(i, a, n)] ++ x.windows.filter (fun w => decide (i < w.1)) } : State).complete c.acc { status := stOk })) ∧
  (∀ (c : Desc) (s : State), Starts infoRemoveWindow c s → let z := s.jrnStart c
    (z.domE c.dom).windows.find? (fun w => w.2.1 == pair64 c.p0 c.p1) = none →
    exec (.removeWindow c) s = kept s ((z : State).complete c.acc { status := stNotFound })) ∧
  (∀ (c : Desc) (s : State), Starts infoRemoveWindow c s → let z := s.jrnStart c
    ∀ w p a, (z.domE c.dom).windows.find? (fun w => w.2.1 == pair64 c.p0 c.p1) = some w → p ∈ [4, 5, 6, 7] → a ∈ ((z.domE c.dom).hpool p).posts → w.2.1 ≤ a → a < w.2.1 + w.2.2 →
    exec (.removeWindow c) s = kept s ((z : State).complete c.acc { status := stState })) ∧
  (∀ (c : Desc) (s : State), Starts infoRemoveWindow c s → let z := s.jrnStart c
    ∀ w, (z.domE c.dom).windows.find? (fun w => w.2.1 == pair64 c.p0 c.p1) = some w → (∀ p ∈ [4, 5, 6, 7], ((z.domE c.dom).hpool p).posts = []) →
    exec (.removeWindow c) s = kept s ((z.setDom c.dom { z.domE c.dom with windows := (z.domE c.dom).windows.filter (fun v => v.1 != w.1) } : State).complete c.acc { status := stOk })) ∧
  (∀ (c : Desc) (s : State), Starts infoSetHostPool c s → let z := s.jrnStart c
    ((z.domE c.dom).hpool c.n0).posts = [] →
    exec (.setHostPool c) s = kept s ((z.setDom c.dom ((z.domE c.dom).setHpool c.n0 { (z.domE c.dom).hpool c.n0 with size := c.n1 }) : State).complete c.acc { status := stOk })) ∧
  (∀ (c : Desc) (s : State), Starts infoSetHostPool c s → let z := s.jrnStart c
    ((z.domE c.dom).hpool c.n0).posts ≠ [] →
    exec (.setHostPool c) s = kept s ((z : State).complete c.acc { status := stState })) ∧
  (∀ (c : Desc) (s : State), Starts infoPostBuffers c s → let z := s.jrnStart c
    ∀ h, h = (z.domE c.dom).hpool c.n0 → (∀ a ∈ addrsOf c, a % 64 = 0 ∧ z.inWindow c.dom a h.size = true) → h.size ≠ 0 → h.posts.length + (addrsOf c).length ≤ 4096 →
    exec (.postBuffers c) s = kept s ((z.setDom c.dom ((z.domE c.dom).setHpool c.n0 { h with posts := h.posts ++ addrsOf c }) : State).complete c.acc { status := stOk })) ∧
  (∀ (c : Desc) (s : State), Starts infoPostBuffers c s → let z := s.jrnStart c
    ∀ h, h = (z.domE c.dom).hpool c.n0 → (∀ a ∈ addrsOf c, a % 64 = 0 ∧ z.inWindow c.dom a h.size = true) → h.size ≠ 0 → 4096 < h.posts.length + (addrsOf c).length →
    exec (.postBuffers c) s = kept s ((z : State).complete c.acc { status := stNoRoom })) ∧
  (∀ (c : Desc) (s : State), Starts infoPostBuffers c s → let z := s.jrnStart c
    ∀ i, (addrsOf c).findIdx? (fun a => !(a % 64 == 0 && ((z.domE c.dom).hpool c.n0).size != 0 && z.inWindow c.dom a ((z.domE c.dom).hpool c.n0).size)) = some i →
    exec (.postBuffers c) s = kept s ((z.bpmCnt 5 : State).complete c.acc { status := stBadArg, r0 := i })) ∧
  (∀ (c : Desc) (s : State), Starts infoReclaimBuffers c s → let z := s.jrnStart c
    ∀ h, h = (z.domE c.dom).hpool c.n0 →
    exec (.reclaimBuffers c) s = kept s (((z.setDom c.dom ((z.domE c.dom).setHpool c.n0 { h with posts := [] })).outBuf c (h.posts.foldl (fun l a => l ++ leBytes 8 a) []) : State).complete c.acc { status := stOk, r0 := h.posts.length })) ∧
  (∀ (c : Desc) (s : State), Starts infoSetPoolLayout c s → let z := s.jrnStart c
    c.dom = 0 →
    exec (.setPoolLayout c) s = kept s ((z.modBuf (fun b => { b with layoutPend := some (layoutOf c) }) : State).complete c.acc { status := stOk })) ∧
  (∀ (c : Desc) (s : State), Starts infoSetPoolLayout c s → let z := s.jrnStart c
    c.dom ≠ 0 →
    exec (.setPoolLayout c) s = kept s ((z : State).complete c.acc { status := stDomain })) ∧
  (∀ (c : Desc) (s : State), Starts infoGrowPool c s → let z := s.jrnStart c
    c.dom = 0 → z.buf.unassigned < c.n1 →
    exec (.growPool c) s = kept s ((z : State).complete c.acc { status := stNoRoom })) ∧
  (∀ (c : Desc) (s : State), Starts infoGrowPool c s → let z := s.jrnStart c
    c.dom = 0 → c.n1 ≤ z.buf.unassigned →
    exec (.growPool c) s = kept s (z.modBuf (fun b => { b with unassigned := b.unassigned - c.n1, grow := b.grow ++ [(c.acc, c.n0, c.n1)] }))) ∧
  (∀ (c : Desc) (s : State), Starts infoGrowPool c s → let z := s.jrnStart c
    c.dom ≠ 0 →
    exec (.growPool c) s = kept s ((z : State).complete c.acc { status := stDomain })) ∧
  (∀ (c : Desc) (s : State), Starts infoReadPools c s → let z := s.jrnStart c
    ∀ x, x = z.domE c.dom →
    exec (.readPools c) s = kept s ((z.outBuf c ([4, 5, 6, 7].foldl (fun l p => l ++ leBytes 4 (x.hpool p).size ++ leBytes 4 (x.hpool p).posts.length) [] ++
      (List.range 4).foldl (fun l i => l ++ leBytes 8 (match x.windows.find? (fun w => w.1 == i) with
        | some w => w.2.1
        | none => 0)) []) : State).complete c.acc { status := stOk })) ∧
  (∀ (s : State) (acc p g : Nat), s.buf.grow.find? (fun g => g.1 == acc) = some (acc, p, g) →
    exec (.growPoolDone acc) s = kept s (((s.growPool p g).modBuf (fun b => { b with grow := b.grow.filter (fun x => x.1 != acc) })).complete acc { status := stOk })) ∧
  (∀ (s : State) (acc : Nat), s.buf.grow.find? (fun g => g.1 == acc) = none → exec (.growPoolDone acc) s = .next s) ∧
  (∀ (s : State) (p k : Nat), p < 4 → k < 17 → ((s.pool p).caches.get [] k).length < s.cacheRefill →
    exec (.cacheRefill p k) s = kept s (s.setPool p ((s.pool p).fill s.buf.nlists k (s.cacheDepth - ((s.pool p).caches.get [] k).length)))) ∧
  (∀ (s : State) (p k : Nat), s.cacheRefill ≤ ((s.pool p).caches.get [] k).length → exec (.cacheRefill p k) s = .next s) ∧
  (∀ (s : State) (p b : Nat), (s.pool 0).size ≤ 134217728 → exec (.dataWriteTimeout p b) s = .next s) ∧
  (∀ (s : State) (p b : Nat), 134217728 < (s.pool 0).size →
    exec (.dataWriteTimeout p b) s = kept s (s.loseFrames (fun f => f.pool == p && f.buf == b && decide (f.enqNs + 2000 ≤ s.clk.hubc / 2)) 0)) ∧
  (∀ (s : State) (st pc : Nat), st < 8 → pc < 32 → exec (.hbmUncorrectable st pc .system) s = kept s (s.countError 5 (32 * st + pc))) ∧
  (∀ (s : State) (st pc p b : Nat), st < 8 → pc < 32 → (s.countError 5 (32 * st + pc)).listOfPc (32 * st + pc) = some (b % s.buf.nlists) →
    exec (.hbmUncorrectable st pc (.frame p b false)) s =
      kept s ((s.countError 5 (32 * st + pc)).loseFrames (fun f => f.pool == p && f.buf == b) 4)) ∧
  (∀ (s : State) (st pc v j : Nat), st < 8 → pc < 32 → s.buf.copies.find? (fun c => c.1 == 32 * st + pc) = some (32 * st + pc, v) →
    s.listOfPc (32 * st + pc) = some j →
    let t := s.modBuf (fun b => { b with order := b.order.set none j (some v), copies := b.copies.filter (fun c => c.1 != 32 * st + pc) })
    let u := t.setHealth 5 (32 * st + pc) { t.health 5 (32 * st + pc) with st := .retired };
    exec (.hbmPcDetour st pc) s = kept s ((u.setHealth 5 v { u.health 5 v with st := .active }).raise evHbmPcDetour (2 ^ 8 * st + pc))) ∧
  (∀ (s : State) (st pc : Nat), s.buf.copies.find? (fun c => c.1 == 32 * st + pc) = none → exec (.hbmPcDetour st pc) s = .next s)

/-- Rings are enabled, accept, post and stop as R232 to R236, R247, R250 and R269 say. Formalises R14, R232, R233, R234,
R235, R236, R247, R250, R269 (derived). -/
def Obligations.RingsAcceptAndPost : Prop :=
  (∀ (s : State) (r : Nat) (v : W32), (s.ring r).st = .running → (v - (s.ring r).dhead).toNat ≤ 2 ^ (s.ring r).log2 →
    let u := s.unlatch (ringA r)
    exec (.tail r v) s = kept s (u.setRing r { s.ring r with tail := v })) ∧
  (∀ (s : State) (r : Nat) (v : W32), (s.ring r).st = .running → 2 ^ (s.ring r).log2 < (v - (s.ring r).dhead).toNat →
    let u := s.unlatch (ringA r)
    exec (.tail r v) s = kept s ((u.setRing r { s.ring r with tail := v }).faultRing r 2)) ∧
  (∀ (s : State) (r : Nat) (v : W32), (s.ring r).st ≠ .running →
    let u := s.unlatch (ringA r)
    exec (.tail r v) s = kept s (u.setRing r { s.ring r with tail := v })) ∧
  (∀ (s : State) (r : Nat) (v : W32), (s.ring r).st = .running ∨ (s.ring r).st = .stopping → 2 ^ (s.ring r).log2 < ((s.ring r).cplTail - v).toNat →
    let u := s.unlatch (ringA r)
    exec (.cplHead r v) s = kept s ((u.setRing r { s.ring r with cplHead := v }).faultRing r 5)) ∧
  (∀ (s : State) (r : Nat) (v : W32), ((s.ring r).cplTail - v).toNat ≤ 2 ^ (s.ring r).log2 →
    let u := s.unlatch (ringA r)
    exec (.cplHead r v) s = kept s ((u.setRing r { s.ring r with cplHead := v }).endUnknown r)) ∧
  (∀ (s : State) (r : Nat), s.stage = 6 → r < 1009 → ringFn r = 0 ∨ ringJ r < (s.domE (ringFn r)).quota.rings → (s.ring r).st = .disabled →
    let u := s.unlatch (ringA r)
    exec (.ringEnable r) s = kept s (u.setRing r { s.ring r with enable := true, st := .running, cause := 0, dhead := (s.ring r).startSeq, cdone := (s.ring r).startSeq, tail := (s.ring r).startSeq, cplHead := 0, cplTail := 0, heldEnable := false, discard := false, doneSeqs := [], lateGroup := false })) ∧
  (∀ (s : State) (r : Nat), s.stage = 6 → 64 ≤ r → r < 1009 → (s.domE (ringFn r)).quota.rings ≤ ringJ r →
    exec (.ringEnable r) s = kept s (s.unlatch (ringA r))) ∧
  (∀ (s : State) (r : Nat), s.stage = 6 → r < 1009 → ringFn r = 0 ∨ ringJ r < (s.domE (ringFn r)).quota.rings → (s.ring r).st = .stopping →
    let u := s.unlatch (ringA r)
    exec (.ringEnable r) s = kept s (u.setRing r { s.ring r with heldEnable := true, enable := true })) ∧
  (∀ (s : State) (r : Nat), s.stage = 6 → r < 1009 → ringFn r = 0 ∨ ringJ r < (s.domE (ringFn r)).quota.rings → (s.ring r).st = .restored →
    let u := s.unlatch (ringA r)
    exec (.ringEnable r) s = kept s (u.setRing r { s.ring r with enable := true, st := .running, tail := (s.ring r).dhead, cplHead := 0, cplTail := 0, discard := false })) ∧
  (∀ (s : State) (r : Nat), (s.ring r).st = .running →
    let u := s.unlatch (ringA r)
    exec (.ringDisable r) s = kept s (u.setRing r { s.ring r with enable := false, st := .stopping, lateGroup := (s.ring r).tail != (s.ring r).dhead })) ∧
  (∀ (s : State) (r : Nat), (s.ring r).st = .faulted →
    let u := s.unlatch (ringA r)
    exec (.ringDisable r) s = kept s (u.setRing r { s.ring r with enable := false, st := .stopping })) ∧
  (∀ (s : State) (r : Nat), (s.ring r).st = .disabled ∨ (s.ring r).st = .restored → exec (.ringDisable r) s = kept s (s.unlatch (ringA r))) ∧
  (∀ (s : State) (r : Nat), (s.ring r).st = .stopping → (s.ring r).cdone = (s.ring r).dhead → (s.ring r).heldEnable = false →
    let t := { s with host := { s.host with cpls := s.host.cpls.filter (fun c => c.ring != r) } };
    exec (.ringStopDone r) s = kept s (t.setRing r { s.ring r with st := .disabled, cause := 0, discard := false, lateGroup := false })) ∧
  (∀ (s : State) (r : Nat), (s.ring r).st = .stopping → (s.ring r).cdone = (s.ring r).dhead → (s.ring r).heldEnable = true →
    let t := { s with host := { s.host with cpls := s.host.cpls.filter (fun c => c.ring != r) } };
    exec (.ringStopDone r) s = kept s (t.setRing r (s.ring r).start)) ∧
  (∀ (s : State) (r : Nat), (s.ring r).cdone ≠ (s.ring r).dhead → exec (.ringStopDone r) s = .next s) ∧
  (∀ (s : State) (r : Nat) (d : Desc), SMap.wf (fun _ => ({} : Ring)) s.host.rings = true → (s.ring r).st = .running → s.bit (pwrA 0xC) 0 = false →
    s.bit (cmdA 0x0) 0 = true → (s.ring r).tail = (s.ring r).dhead + 1#32 → d.seq = (s.ring r).dhead → d.inp = [] →
    inputOp d.opcode = false → knownOp d.opcode = true → d.opcode ≠ 0x0902 → s.bit (cmdA 0x0) 2 = false → s.bit (cmdA 0x0) 3 = false →
    s.jrnBlocks + 3 ≤ 262144 →
    ∃ t, exec (.descriptorAcceptance r [d] false) s = .next t ∧ t.host.acceptNum = s.host.acceptNum + 1 ∧
      t.host.jrn = s.host.jrn ++ [{ desc := { d with ring := r, acc := s.host.acceptNum + 1, inp := [], inpBad := false } }] ∧
      (t.ring r).dhead = (s.ring r).dhead + 1#32 ∧ (t.ring r).st = .running) ∧
  (∀ (s : State) (r : Nat) (d : Desc) (l : List Desc) (b : Bool), (s.ring r).st = .running → s.bit (pwrA 0xC) 0 = false →
    s.bit (cmdA 0x0) 0 = true → (s.ring r).tail ≠ (s.ring r).dhead → d.seq ≠ (s.ring r).dhead → s.jrnBlocks ≤ 262144 →
    ∃ t, exec (.descriptorAcceptance r (d :: l) b) s = .next t ∧ t.host.jrn = s.host.jrn ∧ t.host.acceptNum = s.host.acceptNum) ∧
  (∀ (s : State) (r : Nat) (l : List Desc) (b : Bool), (s.ring r).st = .disabled → exec (.descriptorAcceptance r l b) s = .next s) ∧
  (∀ (s : State) (r : Nat) (c : Cpl), (s.ring r).st = .running → s.cplFull r = false → (s.ring r).irqEn = false →
    s.host.cpls.find? (fun c => c.ring == r) = some c → c.receive = true →
    let x := s.ring r
    let t := ({ s with host := { s.host with cpls := s.host.cpls.erase c } } : State).emit (.hostWrite
      (x.cplBase.toNat / 4096 * 4096 + 32 * (x.cplTail.toNat % 2 ^ x.log2)) (c.bytes (1 - x.cplTail.toNat / 2 ^ x.log2 % 2)));
    exec (.completionPost r false) s = kept s (t.setRing r { x with cplTail := x.cplTail + 1#32 })) ∧
  (∀ (s : State) (r : Nat) (c : Cpl), (s.ring r).st = .running → s.cplFull r = false → (s.ring r).irqEn = false →
    s.host.cpls.find? (fun c => c.ring == r) = some c → c.receive = false →
    let x := s.ring r
    let t := (({ s with host := { s.host with cpls := s.host.cpls.erase c } } : State).jrnMod c.acc (fun j => { j with posted := true })).emit (.hostWrite
      (x.cplBase.toNat / 4096 * 4096 + 32 * (x.cplTail.toNat % 2 ^ x.log2)) (c.bytes (1 - x.cplTail.toNat / 2 ^ x.log2 % 2)));
    exec (.completionPost r false) s = kept s (((t.setRing r { x with cplTail := x.cplTail + 1#32 }).seqDone r c.seq).jrnTrim)) ∧
  (∀ (s : State) (r : Nat) (b : Bool), s.cplFull r = true → exec (.completionPost r b) s = .next s) ∧
  (∀ (s : State) (r : Nat) (c : Cpl), (s.ring r).st = .running → s.cplFull r = false → s.host.cpls.find? (fun c => c.ring == r) = some c →
    let t := s.faultRing r 4
    exec (.completionPost r true) s = kept s ((t.setRing r { t.ring r with discard := true }).discardCpls r)) ∧
  (∀ (s : State), s.bit (cmdA 0x0) 3 = true →
    exec .acceptUnpaired s = kept s (((s.setBit (cmdA 0x0) 3 false).add32 (cmdA 0x18) 1).raise evAcceptUnpaired 0)) ∧
  (∀ (s : State), s.bit (cmdA 0x0) 3 = false → exec .acceptUnpaired s = .next s) ∧
  (∀ (s : State) (fn v : Nat), (s.vec fn v).waiting = true → (s.vec fn v).last.getD 0 + s.minGap fn v ≤ s.clk.hubc → (s.vec fn v).masked = false →
    exec (.vectorSignal fn v) s = kept s (s.sendVec fn v)) ∧
  (∀ (s : State) (fn v : Nat), (s.vec fn v).waiting = true → (s.vec fn v).last.getD 0 + s.minGap fn v ≤ s.clk.hubc → (s.vec fn v).masked = true →
    exec (.vectorSignal fn v) s = kept s (s.setVec fn v { s.vec fn v with waiting := false, pba := true })) ∧
  (∀ (s : State) (fn v : Nat), s.clk.hubc < (s.vec fn v).last.getD 0 + s.minGap fn v → exec (.vectorSignal fn v) s = .next s) ∧
  (∀ (s : State) (fn v : Nat), (s.vec fn v).pba = false →
    let u := s.unlatch (msixA fn v)
    exec (.vectorUnmask fn v) s = kept s (u.setVec fn v { s.vec fn v with masked := false, pba := false })) ∧
  (∀ (s : State) (fn v : Nat), (s.vec fn v).pba = true →
    let u := s.unlatch (msixA fn v)
    exec (.vectorUnmask fn v) s = kept s ((u.setVec fn v { s.vec fn v with masked := false, pba := false }).signal fn v))

/-- The event queue, function-level reset, PERST# and the journal of a standby do what R263, R268, R398 and R523 say.
Formalises R263, R268, R270, R398, R523 (derived). -/
def Obligations.FunctionsAndEventQueue : Prop :=
  (∀ (s : State), s.stage < 3 ∨ s.stage = 7 → exec .evqEnable s = kept s (s.unlatch (evcA 0x8))) ∧
  (∀ (s : State), s.bit (evcA 0x8) 31 = true → exec .evqEnable s = kept s (s.unlatch (evcA 0x8))) ∧
  (∀ (s : State), 3 ≤ s.stage → s.stage ≠ 7 → s.bit (evcA 0x8) 31 = false → s.host.held = [] →
    let u := s.unlatch (evcA 0x8)
    exec .evqEnable s = kept s (((u.setBit (evcA 0x8) 31 true).setReg (evcA 0xC) 0).setReg (evcA 0x10) 0)) ∧
  (∀ (s : State) (v : Nat), v = 0 ∨ s.host.numVfs < v → exec (.functionLevelReset v) s = .next s) ∧
  (∀ (s : State) (v : Nat), 1 ≤ v → v ≤ s.host.numVfs → v < 64 →
    ∃ t, exec (.functionLevelReset v) s = .next t ∧ t.doms = s.doms ∧ t.deferred = s.deferred ∧ t.pon = s.pon ∧ t.grant = s.grant ∧
      t.data = s.data ∧ (∀ k, k / 512 = v → t.host.vecs.find k = none)) ∧
  (∀ (s : State), SMap.wf regReset s.regs = true →
    ∃ t, exec .perst s = .next t ∧ t.mgmt.pwr.perst = true ∧ t.host.numVfs = 0 ∧ t.bit (evcA 0x8) 31 = false) ∧
  (∀ (s : State), s.mgmt.pwr.perst = true → exec .perstDeassertion s = kept s
    { s with
      host := { s.host with rings := s.host.rings.mapAll (fun _ => {}) (fun _ x =>
        if x.cdone = x.dhead then { x with st := .disabled, discard := false, heldEnable := false }
        else { x with st := .restored, discard := false, heldEnable := false }) }
      mgmt := { s.mgmt with pwr := { s.mgmt.pwr with perst := false } } }) ∧
  (∀ (s : State), s.mgmt.pwr.perst = false → exec .perstDeassertion s = .next s) ∧
  (∀ (s : State) (c : Desc) (x : Option MirrorExec), s.mgmt.pair.role ≠ .standby → exec (.journalEntryRecord c x) s = .next s) ∧
  (∀ (s : State) (c : Desc), s.mgmt.pair.role = .standby → s.serving = true →
    exec (.journalEntryRecord c none) s = kept s ((s.mirrorEntry c).emit (.link 2 [c.acc])))

/-- Register accesses follow R10 to R14 and R225: width, access codes, latches and locks. Formalises R10, R11, R12, R14,
R62, R225, R533 (derived). -/
def Obligations.RegisterAccesses : Prop :=
  (∀ (s : State) (x : Access), s.addrOf x = none → exec (.registerRead x) s = .fault .noSuchFunction) ∧
  (∀ (s : State) (x : Access) (d : W64), isConfig x = false → s.addrOf x = none → exec (.registerWrite x d) s = .fault .noSuchFunction) ∧
  (∀ (s : State) (x : Access) (b : Bool), s.addrOf x = none → exec (.wrongWidthAccess x b) s = .fault .noSuchFunction) ∧
  (∀ (s : State) (x : Access) (a : Nat), s.addrOf x = some a → s.unreachable = false → widthOk a x.width = false →
    exec (.wrongWidthAccess x true) s = kept s ((s.unlatch a).add32 0x8 1) ∧
    exec (.wrongWidthAccess x false) s = kept s (((s.unlatch a).add32 0x8 1).emit (.readData x.fn a 0))) ∧
  (∀ (s : State) (x : Access) (a : Nat) (ra : RegAt), s.addrOf x = some a → s.unreachable = false → widthOk a x.width = true →
    s.available a false = true → regAt a = some ra → ra.reg.w64 = false → s.latchAt a = none → ra.blk.blk = .glb ∨ ra.blk.blk = .fwd ∨ ra.blk.blk = .tmg →
    exec (.registerRead x) s = kept s (((s.unlatch a).postRead ra).emit (.readData x.fn a (s.regValue ra)))) ∧
  (∀ (s : State) (ra : RegAt), ra.blk.blk = .glb ∨ ra.blk.blk = .fwd ∨ ra.blk.blk = .tmg → ra.reg.flds.any (fun f => f.acc == .rc) = true →
    s.postRead ra = s.setReg ra.start (BitVec.ofNat 64 (clearRc ra.reg.flds (s.reg ra.start).toNat))) ∧
  (∀ (s : State) (x : Access) (a : Nat) (ra : RegAt), s.addrOf x = some a → s.unreachable = false → x.width = 4 → a % 4 = 0 →
    s.available a false = true → regAt a = some ra → ra.reg.w64 = true → ra.byte = 0 → ra.blk.blk = .fwd →
    exec (.registerRead x) s = kept s (({ (s.unlatch a).postRead ra with
      latch := ((s.unlatch a).postRead ra).latch.set none (blockOf a) (some ⟨ra.start, BitVec.ofNat 32 ((s.regValue ra).toNat / 2 ^ 32)⟩) } : State).emit
      (.readData x.fn a (s.regValue ra &&& 0xFFFFFFFF#64)))) ∧
  (∀ (s : State) (x : Access) (a : Nat) (ra : RegAt) (d : W64), isConfig x = false → s.addrOf x = some a → s.unreachable = false → x.width = 4 → a % 4 = 0 →
    s.available a true = true → regAt a = some ra → ra.reg.w64 = true → ra.byte = 0 →
    exec (.registerWrite x d) s = kept s { s.unlatch a with
      pendLow := (s.unlatch a).pendLow.set none (blockOf a) (some ⟨ra.start, BitVec.ofNat 32 d.toNat⟩) }) ∧
  (∀ (s : State) (x : Access) (a : Nat) (ra : RegAt) (d : W64), isConfig x = false → s.addrOf x = some a → s.unreachable = false → x.width = 4 → a % 4 = 0 →
    s.available a true = true → regAt a = some ra → ra.reg.w64 = false → ra.blk.blk = .fwd →
    exec (.registerWrite x d) s = kept s ((s.unlatch a).storeReg ra (d &&& 0xFFFFFFFF#64))) ∧
  (∀ (fs : List Fld) (b : Bool) (old w : Nat), (∀ f ∈ fs, f.acc = .ro ∨ f.acc = .rc ∨ f.acc = .wo) → old < 2 ^ 64 →
    (∀ f ∈ fs, f.lo ≤ f.hi) → writeFlds fs b old w = old) ∧
  (∀ (fs : List Fld) (old w : Nat), (∀ f ∈ fs, f.acc = .rwl) → old < 2 ^ 64 → (∀ f ∈ fs, f.lo ≤ f.hi) → writeFlds fs true old w = old) ∧
  (∀ (s : State) (a : Nat) (ra : RegAt), regAt a = some ra → ra.blk.lock = some (a - blockOf a) → s.available a true = true → s.unreachable = false →
    exec (.ctlLock a) s = kept s ((s.unlatch a).writeReg 0 ra 1)) ∧
  (∀ (s : State) (a : Nat), regAt a = none → exec (.ctlLock a) s = .next s) ∧
  (∀ (s : State) (sc : Nat), s.stage = 6 → sc < 384 → exec (.ledgerSel sc) s = kept s ((s.unlatch (mstA 0x50)).setReg (mstA 0x50) (BitVec.ofNat 64 (2 ^ 31 + sc)))) ∧
  (∀ (s : State) (sc : Nat), s.stage ≠ 6 ∨ 384 ≤ sc → exec (.ledgerSel sc) s = kept s (s.unlatch (mstA 0x50))) ∧
  (∀ (s : State), s.bit (mstA 0x50) 31 = true → SMap.wf regReset s.regs = true →
    ∃ t, exec .ledgerSnapshotDone s = .next t ∧ t.bit (mstA 0x50) 31 = false ∧ t.reg (mstA 0x58) = BitVec.ofNat 64 s.clk.msc ∧
      (∀ k, k < 9 → t.reg (mstA (0x60 + 8 * k)) = BitVec.ofNat 64 ((s.sub (s.fld (mstA 0x50) 8 0)).led.totals.getD k 0)) ∧
      t.pon = s.pon) ∧
  (∀ (s : State), s.bit (mstA 0x50) 31 = false → exec .ledgerSnapshotDone s = .next s) ∧
  (∀ (s : State) (c : Nat) (w : W32), s.stage = 6 → c < 192 →
    let u := s.unlatch (chnA c 0x3000)
    exec (.plSel c w) s = kept s (u.setPlPort c { s.pon.plPorts.get {} c with busy := true, sel := w.toNat % 2 ^ 10 })) ∧
  (∀ (s : State) (c : Nat) (p : PlPort), s.pon.plPorts.get {} c = p → p.busy = true →
    exec (.plReadDone c) s = kept s (s.setPlPort c { p with busy := false, word0 := BitVec.ofNat 64 (s.term (2 * c + p.sel / 512) (p.sel % 512)).plWord0, word1 := BitVec.ofNat 64 (s.term (2 * c + p.sel / 512) (p.sel % 512)).plWord1 })) ∧
  (∀ (s : State) (c : Nat), (s.pon.plPorts.get {} c).busy = false → exec (.plReadDone c) s = .next s) ∧
  (∀ (s : State) (fn : Nat) (w : W32), s.unreachable = true → exec (.warmReq fn w) s = .next s) ∧
  (∀ (s : State) (fn : Nat) (w : W32), s.unreachable = false → s.stage = 7 ∨ fn ≠ 0 ∨ w.toNat / 256 % 256 ≠ 0xA5 → exec (.warmReq fn w) s = kept s (s.unlatch (pwrA 0x14))) ∧
  (∀ (s : State) (w : W32), s.unreachable = false → s.stage ≠ 7 → w.toNat % 2 = 1 → w.toNat / 256 % 256 = 0xA5 → s.bit (pwrA 0x18) 0 = false →
    let u := s.unlatch (pwrA 0x14)
    exec (.warmReq 0 w) s = kept s (if s.paused then u.setBit (pwrA 0x14) 16 true
      else (u.setBit (pwrA 0x14) 16 false).modPwr (fun p => { p with resetDue := 4 })))

/-- Steps, the servo, PTP frames, time of day and the clock pins do what R373 to R388 say. Formalises R373, R374, R375,
R376, R379, R382, R383, R384, R387, R388 (derived). -/
def Obligations.TimeServoAndPtp : Prop :=
  (∀ (c : Desc) (s : State), Starts infoSetTime c s → let z := s.jrnStart c
    z.stepAllowed = false →
    exec (.setTime c) s = kept s ((z : State).complete c.acc { status := stState })) ∧
  (∀ (c : Desc) (s : State), Starts infoSetTime c s → let z := s.jrnStart c
    ∀ t, z.stepAllowed = true → t = (c.n0 + 2 ^ 32 * c.n1) * secUnits + c.n2 * 65536 + c.n3 →
    exec (.setTime c) s = kept s (((z.setTime t).2 : State).complete c.acc { status := stOk, msc := some (z.setTime t).1 })) ∧
  (∀ (s : State) (t : Nat), (s.setTime t).1 = t / intervalUnits + 1 ∧ (s.setTime t).2.clk.msc = t / intervalUnits ∧
    (s.setTime t).2.time.dev = t ∧ (s.setTime t).2.time.valid = true ∧ (s.setTime t).2.time.servo = .acquiring ∧
    (s.setTime t).2.time.freq = s.time.freq ∧ (s.setTime t).2.time.integ = s.time.integ ∧ (s.setTime t).2.grant.hints = [] ∧
    (s.setTime t).2.clk.running = true ∧ (s.setTime t).2.clk.hubc = s.clk.hubc) ∧
  (∀ (c : Desc) (s : State), Starts infoSetPtpPort c s → let z := s.jrnStart c
    z.ptpPortOk c.n0 = false →
    exec (.setPtpPort c) s = kept s ((z : State).complete c.acc { status := stBadArg })) ∧
  (∀ (c : Desc) (s : State), Starts infoSetPtpPort c s → let z := s.jrnStart c
    z.ptpPortOk c.n0 = true →
    exec (.setPtpPort c) s = kept s ((z.modTime (fun x => { x with ptpPorts := x.ptpPorts.set {} c.n0 ⟨c.n1 % 2 == 1, c.n1 / 2 == 1⟩ }) : State).complete c.acc { status := stOk })) ∧
  (∀ (c : Desc) (s : State), Starts infoBindPtpRx c s → let z := s.jrnStart c
    exec (.bindPtpRx c) s = kept s ((z.modTime (fun x => { x with ptpRx := some (c.n0, c.n1) }) : State).complete c.acc { status := stOk })) ∧
  (∀ (c : Desc) (s : State), Starts infoSendPtp c s → let z := s.jrnStart c
    z.ptpPortOk c.n0 = false →
    exec (.sendPtp c) s = kept s ((z : State).complete c.acc { status := stBadArg })) ∧
  (∀ (c : Desc) (s : State), Starts infoSendPtp c s → let z := s.jrnStart c
    z.ptpPortOk c.n0 = true → z.ptpUp c.n0 = false →
    exec (.sendPtp c) s = kept s ((z : State).complete c.acc { status := stState })) ∧
  (∀ (c : Desc) (s : State), Starts infoSendPtp c s → let z := s.jrnStart c
    z.ptpPortOk c.n0 = true → z.ptpUp c.n0 = true →
    exec (.sendPtp c) s = kept s (z.modTime (fun x => { x with ptpTx := x.ptpTx ++ [(c.acc, c.n0, c.n1 == 1, c.n2, c.inp)] }))) ∧
  (∀ (c : Desc) (s : State), Starts infoComputeTod c s → let z := s.jrnStart c
    c.n1 + 2 ^ 32 * c.n2 < z.clk.msc + 2 ∨ z.clk.msc + 2 ^ 24 < c.n1 + 2 ^ 32 * c.n2 →
    exec (.computeTod c) s = kept s ((z : State).complete c.acc { status := stBadArg })) ∧
  (∀ (c : Desc) (s : State), Starts infoComputeTod c s → let z := s.jrnStart c
    ∀ n t, n = c.n1 + 2 ^ 32 * c.n2 → z.clk.msc + 2 ≤ n → n ≤ z.clk.msc + 2 ^ 24 → t = n * intervalUnits + 4096 * (if c.n0 % 2 = 0 then z.fld (timA 0x54) 31 16 else z.fld (timA 0x54) 15 0) →
    exec (.computeTod c) s = kept s ((z.outBuf c (leBytes 8 n ++ leBytes 6 (secOf t) ++ leBytes 2 (fracOf t) ++ leBytes 4 (nsOf t) ++ leBytes 4 ((z.len c.n0 - 1) * 125000 - 35000) ++ leBytes 2 c.n0 ++ [z.len c.n0, 0, 0, 0, 0, 0]) : State).complete c.acc { status := stOk })) ∧
  (∀ (s : State) (acc ts u o : Nat) (one : Bool) (l : List Nat), s.time.ptpTx.find? (fun e => e.1 == acc) = some (acc, u, one, o, l) →
    s.time.ptpTx.find? (fun e => e.2.1 == u) = some (acc, u, one, o, l) →
    let z := s.modTime (fun x => { x with ptpTx := x.ptpTx.filter (fun e => e.1 != acc) })
    let t := s.time.dev + ts % tickUnits
    (s.ptpUp u = false → exec (.ptpFrameEgress acc ts) s = kept s (z.complete acc { status := stState })) ∧
    (s.ptpUp u = true → exec (.ptpFrameEgress acc ts) s = kept s (match z.ptpSent u (if one then oneStep l o t else l) with
      | (true, v) => v.complete acc { status := stOk, r0 := nsOf t, r1 := fracOf t * 2 ^ 16 + secOf t % 2 ^ 16 }
      | (false, v) => v.complete acc { status := stState }))) ∧
  (∀ (s : State) (acc ts : Nat), s.time.ptpTx.find? (fun e => e.1 == acc) = none → exec (.ptpFrameEgress acc ts) s = .next s) ∧
  (∀ (s : State) (u : Nat) (f : PtpFrame), (if f.esmc then (s.time.ptpPorts.get {} u).esmc else (s.time.ptpPorts.get {} u).trap) = false →
    exec (.ptpFrameTrap u f) s = .next s) ∧
  (∀ (s : State) (u : Nat) (f : PtpFrame), s.ptpPortOk u = true → s.ptpUp u = true → s.time.ptpRx = none →
    (if f.esmc then (s.time.ptpPorts.get {} u).esmc else (s.time.ptpPorts.get {} u).trap) = true →
    exec (.ptpFrameTrap u f) s = kept s (s.timCnt 2)) ∧
  (∀ (s : State) (u r k a : Nat) (f : PtpFrame) (l : List Nat), s.ptpPortOk u = true → s.ptpUp u = true → s.time.ptpRx = some (r, k) →
    (if f.esmc then (s.time.ptpPorts.get {} u).esmc else (s.time.ptpPorts.get {} u).trap) = true → s.domRoad 0 = .enabled →
    ((s.domE 0).hpool k).posts = a :: l → 16 + f.bytes.length ≤ ((s.domE 0).hpool k).size → s.recvRoom r = true →
    let n := s.time.dev + f.ts % tickUnits
    let b := leBytes 6 (secOf n) ++ leBytes 2 (fracOf n) ++ leBytes 4 (nsOf n) ++ [u, b2n f.esmc, 0, 0] ++ f.bytes
    let t := (s.setDom 0 ((s.domE 0).setHpool k { (s.domE 0).hpool k with posts := l })).emit (.hostWrite a b)
    exec (.ptpFrameTrap u f) s = kept s (t.receiveCpl r (2 * 2 ^ 18 + u) a (16 + f.bytes.length) k)) ∧
  (∀ (s : State), 3 ≤ s.stage → s.stage ≠ 7 → exec .timeNsfRead s =
    kept s (((s.unlatch (timA 0)).modTime (fun x => { x with secLatch := some (BitVec.ofNat 64 (secOf x.dev % 2 ^ 48)) })).emit
      (.readData 0 (timA 0) (BitVec.ofNat 64 (nsOf s.time.dev * 2 ^ 32 + fracOf s.time.dev * 2 ^ 16))))) ∧
  (∀ (s : State) (w : W64), s.stage = 6 → (s.jumpLimit : Int) * 65536 < w.toInt.natAbs →
    ∃ t, exec (.offsetIn w) s = .next t ∧ t.time.freq = s.time.freq ∧ t.time.target = s.time.target ∧ t.time.integ = s.time.integ ∧
      t.time.servo = s.time.servo ∧ t.time.lastApplied = s.time.lastApplied) ∧
  (∀ (s : State) (w : W64), s.stage = 6 → (w.toInt.natAbs : Int) ≤ (s.jumpLimit : Int) * 65536 →
    ∃ t, exec (.offsetIn w) s = .next t ∧ t.time.freq = s.time.freq ∧ t.time.dev = s.time.dev ∧ t.time.lastApplied = s.clk.hubc ∧
      t.time.integ = clampF ((if s.time.servo = .holdover then s.time.freqHold else s.time.integ) - (s.fld (timA 0x20) 15 0 : Int) * w.toInt) ∧
      t.time.target = clampF (t.time.integ - 16 * (s.fld (timA 0x20) 31 16 : Int) * w.toInt) ∧
      (s.time.servo = .freerun ∨ s.time.servo = .holdover → t.time.servo = .acquiring) ∧
      (s.time.servo = .locked → s.clk.hubc < s.time.lastApplied + s.holdTimeout * 2000000 →
        (t.time.servo = .locked ↔ w.toInt.natAbs ≤ s.lockThr * 65536)) ∧
      (s.time.servo = .locked → s.time.lastApplied + s.holdTimeout * 2000000 ≤ s.clk.hubc → t.time.servo = .acquiring)) ∧
  (∀ (s : State) (w : W64), s.stage ≠ 6 → exec (.offsetIn w) s = kept s (s.unlatch (timA 0x18))) ∧
  (∀ (s : State), s.time.servo = .acquiring ∨ s.time.servo = .locked → s.time.lastApplied + s.holdTimeout * 2000000 ≤ s.clk.hubc →
    exec .holdoverTimeout s = kept s ((s.modTime (fun x => { x with servo := .holdover, good := 0, target := if x.everLocked then x.freqHold else x.freq })).raise evTimeHoldover 0)) ∧
  (∀ (s : State), s.time.servo = .freerun ∨ s.time.servo = .holdover ∨ s.clk.hubc < s.time.lastApplied + s.holdTimeout * 2000000 → exec .holdoverTimeout s = .next s) ∧
  (∀ (s : State), s.time.startWait = true → s.fld (timA 0x2C) 15 0 * 2000000 ≤ s.clk.hubc → 3 ≤ s.stage → s.stage < 7 →
    exec .startWaitExpiry s = kept s (s.modTime (fun x => { x with startWait := false })).startGenerator) ∧
  (∀ (s : State), s.time.startWait = false → exec .startWaitExpiry s = .next s) ∧
  (∀ (s : State), s.time.valid = true → s.bit (timA 0x58) 0 = true → s.time.dev % secUnits < tickUnits → exec .ppsOut s = kept s (s.emit (.pin pinPpsOut 1))) ∧
  (∀ (s : State), s.bit (timA 0x58) 0 = false → exec .ppsOut s = .next s) ∧
  (∀ (s : State), s.bit (timA 0x58) 1 = true → let n := s.time.dev + (Config.freeValue s.freeCtr).toNat % tickUnits
    exec .ppsIn s = kept s (s.draw.2.setReg (timA 0x60) (BitVec.ofNat 64 (nsOf n * 2 ^ 32 + fracOf n * 2 ^ 16 + secOf n % 2 ^ 16)))) ∧
  (∀ (s : State), s.bit (timA 0x58) 1 = false → exec .ppsIn s = .next s) ∧
  (∀ (s : State) (k : Nat), k < 2 → s.bit (timA (0x70 + 4 * k)) 29 = true → s.rclkOk k = true →
    (s.mgmt.lanes.get {} (s.fld (timA (0x70 + 4 * k)) 9 0)).upAt + 20000000 ≤ s.clk.hubc →
    exec (.rclkResume k) s = kept s (s.setBit (timA (0x70 + 4 * k)) 29 false)) ∧
  (∀ (s : State) (k : Nat), s.rclkOk k = false → exec (.rclkResume k) s = .next s)

/-- The commands of family 0x0C do what R395, R407, R410, R412, R413 and R420 say. Formalises R394, R395, R407, R410,
R412, R413, R420, R423 (derived). -/
def Obligations.PairAndTreePairCommands : Prop :=
  (∀ (c : Desc) (s : State), Starts infoPairConfig c s → let z := s.jrnStart c
    z.mgmt.pair.st ≠ .unpaired → z.mgmt.pair.st ≠ .alone →
    exec (.pairConfig c) s = kept s ((z : State).complete c.acc { status := stState })) ∧
  (∀ (c : Desc) (s : State), Starts infoPairConfig c s → let z := s.jrnStart c
    ∀ (u : State), z.mgmt.pair.st = .unpaired ∨ z.mgmt.pair.st = .alone → u = ((z.setReg (prtA 0) (BitVec.ofNat 64 (c.n0 * 2 ^ 16 + c.n1 / 2 ^ 16 % 2 * 2 ^ 9 + c.n1 / 2 ^ 17 * 2 ^ 10 + c.n1 % 256))).setReg (prtA 0xC) (BitVec.ofNat 64 c.n2)).modPair (fun p => { p with arbKey := c.inp, arbMiss := c.n1 / 256 % 256 }) →
    exec (.pairConfig c) s = kept s (((((u.endTest 512).endTest 513).endTest 514).setPairSt .alone (if z.mgmt.pair.role = .fenced then .fenced else .active) : State).complete c.acc { status := stOk })) ∧
  (∀ (c : Desc) (s : State), Starts infoPairJoin c s → let z := s.jrnStart c
    z.mgmt.pair.st ≠ .alone ∨ z.mgmt.pair.role ≠ .active ∨ z.treesOff = false ∨ z.mgmt.pair.lanes = 0#2 →
    exec (.pairJoin c) s = kept s ((z : State).complete c.acc { status := stState })) ∧
  (∀ (c : Desc) (s : State), Starts infoPairJoin c s → let z := s.jrnStart c
    z.mgmt.pair.st = .alone → z.mgmt.pair.role = .active → z.treesOff = true → z.mgmt.pair.lanes ≠ 0#2 →
    exec (.pairJoin c) s = kept s (((z.modPair (fun p => { p with joinAcc := some c.acc, agree := 0, missed := 0, hbMsc := z.clk.msc })).unsyncAll).setPairSt .joining .standby)) ∧
  (∀ (c : Desc) (s : State), Starts infoPairLeave c s → let z := s.jrnStart c
    ∀ (u : State), z.mgmt.pair.joinAcc = none → c.n0 = 0 → u = ((z.modPair (fun p => { p with joinAcc := none, base := none, unsync := [], copies := [], kat := [], verdict := none, arbOk := false, peerHb := false, swapE := none, missed := 0, lanes := 0#2 })).setPairSt .unpaired .none).setPairWait false →
    exec (.pairLeave c) s = kept s ((((u.settlePon).settleLane 512).settleLane 513 : State).complete c.acc { status := stOk })) ∧
  (∀ (c : Desc) (s : State), Starts infoPairLeave c s → let z := s.jrnStart c
    ∀ (t u : State), z.mgmt.pair.joinAcc = none → z.mgmt.pair.role = .standby → c.n0 = 1 → t = (List.range 384).foldl (fun s sc => s.discardRoad sc) z → u = ((t.modPair (fun p => { p with joinAcc := none, base := none, unsync := [], copies := [], kat := [], verdict := none, arbOk := false, peerHb := false, swapE := none, missed := 0, lanes := 0#2 })).setPairSt .unpaired .none).setPairWait false →
    exec (.pairLeave c) s = kept s ((((u.settlePon).settleLane 512).settleLane 513 : State).complete c.acc { status := stOk })) ∧
  (∀ (c : Desc) (s : State), Starts infoSwitchOver c s → let z := s.jrnStart c
    z.mgmt.pair.st ≠ .paired ∨ z.mgmt.pair.role ≠ .active →
    exec (.switchOver c) s = kept s ((z : State).complete c.acc { status := stState })) ∧
  (∀ (c : Desc) (s : State), Starts infoSwitchOver c s → let z := s.jrnStart c
    ∀ e, z.mgmt.pair.st = .paired → z.mgmt.pair.role = .active → z.resolveE none c = .ok e → z.pendRoom = true →
    exec (.switchOver c) s = kept s ((z.defer c e .switchOver : State).complete c.acc { status := stDeferred, msc := some e })) ∧
  (∀ (c : Desc) (s : State), Starts infoForceActive c s → let z := s.jrnStart c
    z.mgmt.pair.role ≠ .standby ∨ z.mgmt.pair.st ≠ .broken ∨ z.mgmt.pair.downAt = none →
    exec (.forceActive c) s = kept s ((z : State).complete c.acc { status := stState })) ∧
  (∀ (c : Desc) (s : State), Starts infoForceActive c s → let z := s.jrnStart c
    ∀ h, z.mgmt.pair.downAt = some h → z.clk.hubc < h + (z.fenceMs + 2) * 2000000 →
    exec (.forceActive c) s = kept s ((z : State).complete c.acc { status := stState })) ∧
  (∀ (c : Desc) (s : State), Starts infoForceActive c s → let z := s.jrnStart c
    ∀ h, z.mgmt.pair.role = .standby → z.mgmt.pair.st = .broken → z.mgmt.pair.downAt = some h → h + (z.fenceMs + 2) * 2000000 ≤ z.clk.hubc →
    exec (.forceActive c) s = kept s (((z.setReg (prtA 0x8) (BitVec.ofNat 64 ((z.epoch + 1) % 2 ^ 32))).takeover : State).complete c.acc { status := stOk })) ∧
  (∀ (c : Desc) (s : State), Starts infoTreePair c s → let z := s.jrnStart c
    (z.pairOf (c.n0 % 256)).isSome = true ∨ (z.pairOf (c.n0 / 256)).isSome = true ∨ (z.sub (2 * (c.n0 / 256))).road ≠ .disabled ∨ z.treeEmpty (c.n0 / 256) = false →
    exec (.treePair c) s = kept s ((z : State).complete c.acc { status := stState })) ∧
  (∀ (c : Desc) (s : State), Starts infoTreePair c s → let z := s.jrnStart c
    ∀ w p, w = c.n0 % 256 → p = c.n0 / 256 → z.pairOf w = none → z.pairOf p = none → (∀ k ∈ [2 * p, 2 * p + 1], (z.sub k).road = .disabled ∧ (z.sub k).isPending = false) → z.treeEmpty p = true → z.budget (p / 48) < z.reserved (p / 48) + (cipherCost (z.sub (2 * w)).rate (z.subCph (2 * w)).sm4 + cipherCost (z.sub (2 * w + 1)).rate (z.subCph (2 * w + 1)).sm4) →
    exec (.treePair c) s = kept s ((z : State).complete c.acc { status := stNoRoom })) ∧
  (∀ (c : Desc) (s : State), Starts infoTreePair c s → let z := s.jrnStart c
    ∀ (w p : Nat) (u : State), w = c.n0 % 256 → p = c.n0 / 256 → z.pairOf w = none → z.pairOf p = none → (∀ k ∈ [2 * p, 2 * p + 1], (z.sub k).road = .disabled ∧ (z.sub k).isPending = false ∧ z.chRoom k = true) → z.treeEmpty p = true → z.reserved (p / 48) + (z.creditNeedOf (2 * w) + z.creditNeedOf (2 * w + 1)) ≤ z.budget (p / 48) → u = (z.chBind (2 * p)).chBind (2 * p + 1) →
    exec (.treePair c) s = kept s ((((u.setSubCph (2 * p) { u.subCph (2 * p) with credits := u.creditNeedOf (2 * w) }).setSubCph (2 * p + 1) { u.subCph (2 * p + 1) with credits := u.creditNeedOf (2 * w + 1) }).setTreePair w (some { p := p }) : State).complete c.acc { status := stOk })) ∧
  (∀ (c : Desc) (s : State), Starts infoTreeUnpair c s → let z := s.jrnStart c
    z.mgmt.pair.trees.get none c.n0 = none →
    exec (.treeUnpair c) s = kept s ((z : State).complete c.acc { status := stNotFound })) ∧
  (∀ (c : Desc) (s : State), Starts infoTreeUnpair c s → let z := s.jrnStart c
    ∀ p, z.mgmt.pair.trees.get none c.n0 = some p → p.onProtect = true →
    exec (.treeUnpair c) s = kept s ((z : State).complete c.acc { status := stState })) ∧
  (∀ (c : Desc) (s : State), Starts infoTreeUnpair c s → let z := s.jrnStart c
    ∀ p, z.mgmt.pair.trees.get none c.n0 = some p → p.onProtect = false →
    exec (.treeUnpair c) s = kept s (((z.setTreePair c.n0 (some { p with unpair := true })).unpairSettle c.n0 : State).complete c.acc { status := stOk })) ∧
  (∀ (c : Desc) (s : State), Starts infoSwitchTree c s → let z := s.jrnStart c
    z.mgmt.pair.trees.get none (c.n0 % 256) = none →
    exec (.switchTree c) s = kept s ((z : State).complete c.acc { status := stNotFound })) ∧
  (∀ (c : Desc) (s : State), Starts infoSwitchTree c s → let z := s.jrnStart c
    ∀ p, z.mgmt.pair.trees.get none (c.n0 % 256) = some p → c.n0 / 256 = 0 → z.switchCause (c.n0 % 256) = true →
    exec (.switchTree c) s = kept s ((z : State).complete c.acc { status := stState })) ∧
  (∀ (c : Desc) (s : State), Starts infoSwitchTree c s → let z := s.jrnStart c
    ∀ p e, z.mgmt.pair.trees.get none (c.n0 % 256) = some p → c.n0 / 256 = 1 ∨ z.switchCause (c.n0 % 256) = false → z.resolveE none c = .ok e → z.pendRoom = true →
    exec (.switchTree c) s = kept s ((z.defer c e (.treeSwitch (c.n0 % 256) (decide (c.n0 / 256 = 1))) : State).complete c.acc { status := stDeferred, msc := some e })) ∧
  (∀ (c : Desc) (s : State), Starts infoReadPair c s → let z := s.jrnStart c
    exec (.readPair c) s = kept s ((z.outBuf c (padTo 64 (leBytes 4 z.pairState ++ leBytes 4 z.epoch ++ leBytes 8 (z.reg (prtA 0x18)).toNat ++ ((List.range 8).map (fun k => leBytes 4 (z.reg (prtA (0x20 + 4 * k))).toNat)).flatten)) : State).complete c.acc { status := stOk })) ∧
  (∀ (s : State), s.mgmt.pair.st = .joining → s.mgmt.pair.role = .standby → s.mgmt.pair.unsyncCount = 0 → 16 ≤ s.mgmt.pair.agree →
    exec (.pairJoined true) s = kept s (((s.modPair (fun p => { p with joinAcc := none })).setPairSt .paired .standby).completeOk s.mgmt.pair.joinAcc)) ∧
  (∀ (s : State), s.mgmt.pair.st = .joining → s.mgmt.pair.role = .active → s.mgmt.pair.peerUnsync = [] → 16 ≤ s.mgmt.pair.agree →
    exec (.pairJoined true) s = kept s ((((s.modPair (fun p => { p with joinAcc := none })).setPairSt .paired .active).setPairWait true).completeOk s.mgmt.pair.joinAcc)) ∧
  (∀ (s : State), s.mgmt.pair.st = .joining → s.mgmt.pair.role = .standby → s.mgmt.pair.joinAcc = none →
    ∃ t, exec (.pairJoined false) s = .next t ∧ t.mgmt.pair.st = .broken ∧ t.mgmt.pair.role = .standby) ∧
  (∀ (s : State), s.mgmt.pair.st = .joining → s.mgmt.pair.role = .standby → s.mgmt.pair.unsyncCount ≠ 0 ∨ s.mgmt.pair.agree < 16 →
    exec (.pairJoined true) s = .next s) ∧
  (∀ (s : State) (a : Nat), s.mgmt.pair.st = .joining → s.mgmt.pair.joinAcc = some a →
    let t := s.modPair (fun p => { p with joinAcc := none, agree := 0, base := none, unsync := [], copies := [] })
    exec (.pairJoined false) s = kept s (((t.setPairSt .alone .active).setPairWait false).complete a { status := stState })) ∧
  (∀ (s : State) (b : Bool), s.mgmt.pair.st ≠ .joining → exec (.pairJoined b) s = .next s)

/-- Witness frames, tokens, fencing, interval records and mirrored records do what R397 to R412 say. Formalises R393,
R397, R398, R400, R402, R403, R404, R408, R409, R410, R411, R412 (derived). -/
def Obligations.LockstepFencingAndTakeover : Prop :=
  (∀ (s : State), s.witnessUp = true → s.clk.running = true → s.clk.msc % 8 = 0 →
    exec .heartbeatSend s = kept s (s.emit (.link linkWitness [1, s.mgmt.pair.role.code, s.epoch, s.clk.msc]))) ∧
  (∀ (s : State), s.witnessUp = false ∨ s.clk.msc % 8 ≠ 0 → exec .heartbeatSend s = .next s) ∧
  (∀ (s : State), s.witnessUp = true → exec .heartbeat s = kept s (s.modPair (fun p => { p with arbOk := true, arbMsc := s.clk.msc }))) ∧
  (∀ (s : State), s.witnessUp = false → exec .heartbeat s = .next s) ∧
  (∀ (s : State), s.mgmt.pair.arbOk = true → s.mgmt.pair.arbMsc + 8 * s.mgmt.pair.arbMiss ≤ s.clk.msc →
    exec .arbiterLost s = kept s ((s.modPair (fun p => { p with arbOk := false })).raise evArbiterLost 0)) ∧
  (∀ (s : State), s.mgmt.pair.arbOk = false ∨ s.clk.msc < s.mgmt.pair.arbMsc + 8 * s.mgmt.pair.arbMiss → exec .arbiterLost s = .next s) ∧
  (∀ (s : State) (k : TokenIn), s.mgmt.pair.st = .unpaired ∨ k.pairId ≠ s.fld (prtA 0) 31 16 ∨ k.epoch ≤ s.epoch ∨
    Config.sm2Check s.mgmt.pair.arbKey (leBytes 2 k.pairId ++ leBytes 4 k.epoch ++ leBytes 8 k.serial) k.sig = false →
    exec (.token k) s = kept s ((s.pairCnt 6 1).raise evTokenRefused 0) ∧
    exec (.verdict (some k)) s = kept s (((s.modPair (fun p => { p with verdict := none })).pairCnt 6 1).raise evTokenRefused 0)) ∧
  (∀ (s : State) (k : TokenIn), s.tokenOk k = true → k.serial ≠ Config.serial → s.mgmt.pair.role = .active →
    exec (.token k) s = kept s (s.setReg (prtA 0x8) (BitVec.ofNat 64 k.epoch)).fence) ∧
  (∀ (s : State) (k : TokenIn), s.tokenOk k = true → k.serial = Config.serial → s.mgmt.pair.role = .standby →
    exec (.token k) s = kept s (s.setReg (prtA 0x8) (BitVec.ofNat 64 k.epoch)).takeover) ∧
  (∀ (s : State) (k : TokenIn), s.tokenOk k = true → k.serial = Config.serial ∧ s.mgmt.pair.role = .active ∨ k.serial ≠ Config.serial ∧ s.mgmt.pair.role = .standby →
    exec (.token k) s = kept s (s.setReg (prtA 0x8) (BitVec.ofNat 64 k.epoch))) ∧
  (∀ (s : State), s.takeover.mgmt.pair.role = .active ∧ s.takeover.mgmt.pair.st = .alone ∧ s.takeover.mgmt.pair.takeover = some (s.clk.msc + 2)) ∧
  (∀ (s : State), exec .deny s = .next s) ∧
  (∀ (s : State), exec (.verdict none) s = kept s (s.modPair (fun p => { p with verdict := none }))) ∧
  (∀ (s : State), ∃ t, exec .fenceN s = .next t ∧ t.mgmt.pair.role = .fenced ∧ t.mgmt.pair.st = s.mgmt.pair.st) ∧
  (∀ (s : State), s.mgmt.pair.role = .active → s.mgmt.pair.st ≠ .unpaired → s.fenceMs ≠ 0 →
    max s.mgmt.pair.hbMsc s.mgmt.pair.arbMsc + 8 * s.fenceMs ≤ s.clk.msc →
    ∃ t, exec .fenceTimeout s = .next t ∧ t.mgmt.pair.role = .fenced) ∧
  (∀ (s : State), s.mgmt.pair.role ≠ .active ∨ s.fenceMs = 0 ∨ s.clk.msc < max s.mgmt.pair.hbMsc s.mgmt.pair.arbMsc + 8 * s.fenceMs → exec .fenceTimeout s = .next s) ∧
  (∀ (s : State), s.syncOn = true → s.clk.running = true →
    exec .intervalRecordA s = kept s (s.emit (.link linkInterval ([0, s.clk.msc] ++ (List.range 96).map (fun q => (s.partADigest q (s.clk.msc - 1)).toNat))))) ∧
  (∀ (s : State), s.syncOn = true → s.clk.running = true → s.clk.phase = .afterCommit →
    ∃ t l, exec .intervalRecordB s = .next t ∧ t.mgmt.pair.hbSeq = s.mgmt.pair.hbSeq + 1 ∧
      t.out = s.out ++ [.link linkInterval ([1, s.mgmt.pair.hbSeq, s.clk.msc, s.mgmt.pair.role.code] ++ (List.range 384).map (fun sc => (s.sub sc).digest.toNat) ++ l)]) ∧
  (∀ (s : State) (r : IntervalRec), s.syncOn = false → exec .intervalRecordA s = .next s ∧ exec .intervalRecordB s = .next s ∧ exec (.intervalRecordReceive r) s = .next s) ∧
  (∀ (s : State) (ds : List W64), s.syncOn = true → s.mgmt.pair.role = .standby →
    let bad := (List.range 96).filter (fun q => ds.getD q 0 != s.partADigest q (s.clk.msc - 1))
    exec (.intervalRecordReceive (.partA s.clk.msc ds)) s =
      kept s ((bad.drop 8).foldl (fun s q => s.unsyncGroup q) ((bad.take 8).foldl (fun s q => s.emit (.link linkDigest [q]))
        (s.modPair (fun p => { p with asked := bad.take 8 }))))) ∧
  (∀ (s : State) (m n role : Nat) (ds : List W64) (cs us : List Nat) (ks : List (Nat × Bool)), s.syncOn = true → s.mgmt.pair.st = .paired →
    ∃ t, exec (.intervalRecordReceive (.partB m n role ds cs us ks)) s = .next t ∧ t.mgmt.pair.hbMsc = m ∧ t.mgmt.pair.missed = 0 ∧
      t.mgmt.pair.peerHb = true ∧ t.mgmt.pair.role = s.mgmt.pair.role ∧ t.pon = s.pon) ∧
  (∀ (s : State), s.mgmt.pair.st = .paired ∨ s.mgmt.pair.st = .joining → 240000 ≤ s.clk.cycle → s.mgmt.pair.hbMsc < s.clk.msc → s.mgmt.pair.missMsc ≠ some s.clk.msc →
    exec .hbMissed s = kept s ((s.modPair (fun p => { p with missed := p.missed + 1, missMsc := some s.clk.msc, peerHb := false })).pairCnt 5 1)) ∧
  (∀ (s : State), s.clk.msc ≤ s.mgmt.pair.hbMsc ∨ s.mgmt.pair.missMsc = some s.clk.msc ∨ s.clk.cycle < 240000 → exec .hbMissed s = .next s) ∧
  (∀ (s : State), s.mgmt.pair.st = .paired → s.mgmt.pair.arbOk = false → max 1 s.hbMiss ≤ s.mgmt.pair.missed ∨ s.mgmt.pair.lanes = 0#2 →
    exec .heartbeatLost s = kept s (((s.modPair (fun p => { p with peerHb := false })).setPairSt .broken s.mgmt.pair.role).raise evHeartbeatLost 0)) ∧
  (∀ (s : State), s.mgmt.pair.st = .paired → s.mgmt.pair.arbOk = true → max 1 s.hbMiss ≤ s.mgmt.pair.missed ∨ s.mgmt.pair.lanes = 0#2 →
    ∃ t, exec .heartbeatLost s = .next t ∧ t.mgmt.pair.st = .broken ∧ t.mgmt.pair.role = s.mgmt.pair.role ∧
      (s.mgmt.pair.role = .active → Out.link linkWitness [3] ∈ t.out) ∧
      (s.mgmt.pair.role = .standby → Out.link linkWitness [2, s.epoch, (s.reg (prtA 0x18)).toNat] ∈ t.out)) ∧
  (∀ (s : State), s.mgmt.pair.missed < max 1 s.hbMiss → s.mgmt.pair.lanes ≠ 0#2 → exec .heartbeatLost s = .next s) ∧
  (∀ (s : State) (q : Nat) (ds : List Nat), s.tells = true →
    (s.mgmt.pair.served < 8 → exec (.batchDigestRequest q ds) s = kept s ((s.modPair (fun p => { p with served := p.served + 1 })).emit
      (.link linkDigest (q :: (List.range 1408).map (fun b => s.batchDigest q b (s.clk.msc - 1)))))) ∧
    (8 ≤ s.mgmt.pair.served → exec (.batchDigestRequest q ds) s = .next s)) ∧
  (∀ (s : State) (q : Nat) (ds : List Nat), s.mgmt.pair.role = .standby → s.mgmt.pair.asked.contains q = true →
    exec (.batchDigestRequest q ds) s = kept s ((List.range 1408).foldl (fun s b =>
      if ds.getD b 0 = s.batchDigest q b (s.clk.msc - 1) then s else s.markUnsync (1408 * q + b))
      (s.modPair (fun p => { p with asked := p.asked.filter (· != q) })))) ∧
  (∀ (s : State) (q : Nat) (ds : List Nat), s.mgmt.pair.role = .standby → s.mgmt.pair.asked.contains q = false → exec (.batchDigestRequest q ds) s = .next s) ∧
  (∀ (s : State) (c : RowCopy), s.mgmt.pair.st = .paired ∨ s.mgmt.pair.st = .joining →
    (s.mgmt.pair.role = .standby → exec (.rowCopy c) s = kept s ((s.modPair (fun p => { p with copies := p.copies ++ [c] })).pairCnt 2 1)) ∧
    (s.mgmt.pair.role = .active → s.copyDue c.key = false → exec (.rowCopy c) s = .next s) ∧
    (s.mgmt.pair.role = .active → s.copyDue c.key = true →
      let u := s.modPair (fun p => { p with copyImg := some (p.copyImg.getD (s.grant.reports, s.grant.hints)) })
      exec (.rowCopy c) s = kept s (((u.modPair (fun p => { p with
        copied := p.copied ++ [c.key], peerUnsync := p.peerUnsync.set 0 c.key 0 })).pairCnt 2 1).emit (.link linkRow (c.key :: u.copyWords c.key))))) ∧
  (∀ (s : State) (sc : Nat) (b : FwdBook), s.mgmt.pair.excluded.contains (sc, b.msc) = true → s.mgmt.pair.forwarded.length < s.forwardLimit →
    let u := (s.modPair (fun p => { p with
      excluded := p.excluded.filter (· != (sc, b.msc)), forwarded := p.forwarded ++ [(sc, b.msc)] })).pairCnt 3 1
    (∀ k, s.mgmt.pair.role = .active → (s.sub sc).books.find? (fun k => k.msc == b.msc) = some k →
      exec (.roadbookForward sc b) s = kept s (u.emit (.link linkBook ([sc, b.msc] ++ (k.bursts.map Burst.words).flatten)))) ∧
    (s.mgmt.pair.role = .standby → exec (.roadbookForward sc b) s = kept s (u.replaceBook sc b))) ∧
  (∀ (s : State) (sc : Nat) (b : FwdBook), s.mgmt.pair.excluded.contains (sc, b.msc) = false ∨ s.forwardLimit ≤ s.mgmt.pair.forwarded.length → exec (.roadbookForward sc b) s = .next s) ∧
  (∀ (s : State) (d : Decision) (h : HintRec), s.mgmt.pair.role ≠ .standby → exec (.decisionRecord d) s = .next s ∧ exec (.hintRecord h) s = .next s) ∧
  (∀ (s : State) (sc t : Nat) (r : TermRec), s.mgmt.pair.role = .standby → SMap.wf (fun _ => ({} : Term)) s.pon.terms = true → r.act = 4 →
    ∃ u, exec (.decisionRecord (.term sc t r)) s = .next u ∧ (u.term sc t).act = .operation ∧ (u.term sc t).eqd = r.eqd ∧
      (u.term sc t).driftF = r.driftF ∧ (u.term sc t).serial = r.serial) ∧
  (∀ (s : State) (sc t i w : Nat) (l : List Nat), s.mgmt.pair.role = .standby → i = 1 ∨ i = 2 →
    exec (.decisionRecord (.key sc t i w l)) s = kept s (s.takeKey sc t i w (padTo 16 (Config.unwrap [] l)))) ∧
  (∀ (s : State) (sc t : Nat) (w : DecAt), s.mgmt.pair.role = .standby → exec (.decisionRecord (.loss sc t w)) s =
    kept s { s with deferred := pendInsert s.deferred ⟨w.e, w.acc, 3, 512 * sc + t, w.moment, none, .termLoss sc t⟩ }) ∧
  (∀ (s : State) (sc t u vid pt : Nat) (r : SnRsp) (f : DnFrame) (l m : List Nat) (w : LightSpan) (d : Bool), s.mgmt.pair.role = .standby →
    exec (.snResponse sc r) s = .next s ∧ exec (.rangingProcess sc t) s = .next s ∧ exec (.rangingWindowClose sc t) s = .next s ∧
    exec (.rangingTimePeriodEnd sc t) s = .next s ∧ exec (.terminalLost sc t) s = .next s ∧ exec (.upstreamPloam sc t l) s = .next s ∧
    exec (.upstreamOmci sc t l m) s = .next s ∧ exec (.rogueLight sc w d) s = .next s ∧ exec (.rogueObserveEnd sc) s = .next s ∧
    exec (.upstreamFrame f) s = .next s ∧ exec (.hintFrame u vid l) s = .next s ∧ exec (.frameDequeue pt) s = .next s) ∧
  (∀ (s : State) (h : HintRec), s.mgmt.pair.role = .standby → (s.unit h.unit).inst = true → (s.unit h.unit).dom = h.dom → h.target ≤ s.clk.msc + 4096 →
    s.earliest ≤ h.target → exec (.hintRecord h) s =
    kept s (s.takeHint h.unit ((h.demand + h.prio % 8 * 2 ^ 23) % 2 ^ 23) ((h.demand + h.prio % 8 * 2 ^ 23) / 2 ^ 23) h.target).2)

/-- Mailbox requests, the SMBus and out-of-band ports and the JTAG unlock do what R426 to R430 and R450 say. Formalises
R426, R427, R428, R429, R430, R442, R448, R449, R450 (derived). -/
def Obligations.MailboxRequestsAndSideInterfaces : Prop :=
  (∀ (s : State) (m : Nat), m < 3 → (s.mbx m).busy = true → s.fwServes = true → s.mbxOn m = true → mbxReqOk (s.mbx m).req = true → leAt (s.mbx m).req 0 2 = 1 → s.mbxBody m = [] →
    exec (.readSensors m) s = kept s (s.mbxAnswer m stOk s.sensorBytes)) ∧
  (∀ (s : State) (m : Nat) (first n : Nat), m < 3 → (s.mbx m).busy = true → s.fwServes = true → s.mbxOn m = true → mbxReqOk (s.mbx m).req = true → leAt (s.mbx m).req 0 2 = 2 → (s.mbxBody m).length = 4 → first = leAt (s.mbxBody m) 0 2 → n = leAt (s.mbxBody m) 2 2 → 1 ≤ n → n ≤ 16 → first + n ≤ 4096 →
    exec (.readRecord m) s = kept s (s.mbxAnswer m stOk (((List.range n).map (fun i => s.recBytes (first + i))).flatten))) ∧
  (∀ (s : State) (m : Nat), m < 3 → (s.mbx m).busy = true → s.fwServes = true → s.mbxOn m = true → mbxReqOk (s.mbx m).req = true → leAt (s.mbx m).req 0 2 = 2 → leAt (s.mbxBody m) 2 2 = 0 ∨ 16 < leAt (s.mbxBody m) 2 2 →
    exec (.readRecord m) s = kept s (s.mbxAnswer m stBadArg [])) ∧
  (∀ (s : State) (m : Nat), m < 3 → (s.mbx m).busy = true → s.fwServes = true → s.mbxOn m = true → mbxReqOk (s.mbx m).req = true → leAt (s.mbx m).req 0 2 = 3 → s.mbxBody m = [] →
    exec (.getCert m) s = kept s (s.mbxAnswer m stOk (if s.mgmt.pwr.certOk then leBytes 4 0 ++ Config.certificate else leBytes 4 1 ++ padTo 64 Config.identityKey))) ∧
  (∀ (s : State) (m : Nat), m < 3 → (s.mbx m).busy = true → s.fwServes = true → s.mbxOn m = true → mbxReqOk (s.mbx m).req = true → leAt (s.mbx m).req 0 2 = 4 → (s.mbxBody m).length = 32 →
    exec (.attest m) s = kept s (s.mbxAnswer m stOk (s.reportBody (s.mbxBody m) ++ padTo 64 (Config.sm2Sign (s.reportBody (s.mbxBody m)))))) ∧
  (∀ (s : State) (m : Nat) (w : W64) (t : State), m < 3 → (s.mbx m).busy = true → s.fwServes = true → s.mbxOn m = true → mbxReqOk (s.mbx m).req = true → leAt (s.mbx m).req 0 2 = 5 → s.mbxBody m = [] → s.random = (w, t) →
    exec (.mbxGetClearNonce m) s = kept s ((t.modRec (fun r => { r with nonce := some (w.toNat, t.clk.msc + 480000) })).mbxAnswer m stOk (leBytes 8 w.toNat ++ leBytes 8 (t.clk.msc + 480000)))) ∧
  (∀ (s : State) (m : Nat), m < 3 → (s.mbx m).busy = true → s.fwServes = true → s.mbxOn m = true → mbxReqOk (s.mbx m).req = true → leAt (s.mbx m).req 0 2 = 6 → (s.mbxBody m).length = 96 →
    exec (.mbxClearRecords m) s = kept s ((s.clearWith (s.mbxBody m)).2.mbxAnswer m (s.clearWith (s.mbxBody m)).1 [])) ∧
  (∀ (s : State) (m : Nat), m < 3 → (s.mbx m).busy = true → s.fwServes = true → s.mbxOn m = true → mbxReqOk (s.mbx m).req = true → leAt (s.mbx m).req 0 2 = 7 → s.mbxBody m = [] →
    exec (.readLr m) s = kept s (s.mbxAnswer m stOk s.lrBytes)) ∧
  (∀ (s : State) (m : Nat) (i n : Nat), m < 3 → (s.mbx m).busy = true → s.fwServes = true → s.mbxOn m = true → mbxReqOk (s.mbx m).req = true → leAt (s.mbx m).req 0 2 = 8 → (s.mbxBody m).length = 8 → i = leAt (s.mbxBody m) 0 4 → n = leAt (s.mbxBody m) 4 2 → 1 ≤ n → n ≤ 64 → leAt (s.mbxBody m) 6 2 = 0 → i < s.mgmt.rcd.ledger.length →
    exec (.mbxReadClearLedger m) s = kept s (s.mbxAnswer m stOk (s.ledgerBytes i n))) ∧
  (∀ (s : State) (m : Nat) (b d : List Nat), m < 3 → (s.mbx m).busy = true → s.fwServes = true → s.mbxOn m = true → mbxReqOk (s.mbx m).req = true → leAt (s.mbx m).req 0 2 = 9 → b = s.mbxBody m → moduleIoOk b = true → s.mbxFirst m = true → leAt b 3 1 = 0 →
    exec (.moduleIo m (some d)) s = kept s ((s.emit (.side (sideModule + leAt b 0 1) (sliceB b 1 3 ++ b.drop 8))).mbxAnswer m stOk (padTo (leAt b 4 2) d))) ∧
  (∀ (s : State) (m : Nat) (b : List Nat), m < 3 → (s.mbx m).busy = true → s.fwServes = true → s.mbxOn m = true → mbxReqOk (s.mbx m).req = true → leAt (s.mbx m).req 0 2 = 9 → b = s.mbxBody m → moduleIoOk b = true → s.mbxFirst m = true →
    exec (.moduleIo m none) s = kept s ((s.emit (.side (sideModule + leAt b 0 1) (sliceB b 1 3 ++ b.drop 8))).mbxAnswer m stNotFound [])) ∧
  (∀ (s : State) (m : Nat) (o : Option (List Nat)), mbxReqOk (s.mbx m).req = true → leAt (s.mbx m).req 0 2 = 9 →
    moduleIoOk (s.mbxBody m) = true → s.mbxFirst m = false → exec (.moduleIo m o) s = .next s) ∧
  (∀ (s : State) (m : Nat) (o : Option (List Nat)), (s.mbx m).busy = false ∨ s.fwServes = false ∨ s.mbxOn m = false → ∀ i ∈ [Instr.readSensors m, .readRecord m, .getCert m, .attest m, .mbxGetClearNonce m, .mbxClearRecords m, .readLr m, .mbxReadClearLedger m, .moduleIo m o, .mbxUpdStatus m], exec i s = .next s) ∧
  (∀ (s : State) (m : Nat) (o : Option (List Nat)), m < 3 → (s.mbx m).busy = true → s.fwServes = true → s.mbxOn m = true → mbxReqOk (s.mbx m).req = false → ∀ i ∈ [Instr.readSensors m, .readRecord m, .getCert m, .attest m, .mbxGetClearNonce m, .mbxClearRecords m, .readLr m, .mbxReadClearLedger m, .moduleIo m o], exec i s = kept s (s.mbxAnswer m stBadArg [])) ∧
  (∀ (s : State) (c : Nat) (l : List Nat), exec (.blockWrite c l false) s = .next s ∧ exec (.sendByte c false) s = .next s) ∧
  (∀ (s : State) (l : List Nat), s.smbEn = true → (s.mbx 1).busy = false → l.length ≤ 255 →
    exec (.blockWrite 0x10 l true) s = kept s (s.setMbx 1 { s.mbx 1 with req := l }) ∧
    exec (.blockWrite 0x11 l true) s = kept s (s.setMbx 1 { s.mbx 1 with req := (s.mbx 1).req ++ l })) ∧
  (∀ (s : State), s.smbEn = true → (s.mbx 1).busy = false →
    let t := s.setMbx 1 { s.mbx 1 with busy := true, turn := s.nextTurn, rsp := [], pos := 0, lastTag := some (leAt (s.mbx 1).req 4 4) }
    exec (.sendByte 0x12 true) s = kept s (if t.fwServes && !mbxReqOk (s.mbx 1).req then t.mbxAnswer 1 stBadArg [] else t)) ∧
  (∀ (s : State), s.smbEn = true → exec .readByte s = kept s (s.emit (.side sideSmb [b2n (s.mbx 1).busy]))) ∧
  (∀ (s : State), s.smbEn = true → exec .blockRead s = kept s ((s.setMbx 1 { s.mbx 1 with
    pos := (s.mbx 1).pos + (sliceB (s.mbx 1).rsp (s.mbx 1).pos 255).length }).emit (.side sideSmb (sliceB (s.mbx 1).rsp (s.mbx 1).pos 255)))) ∧
  (∀ (s : State) (c : Nat) (l : List Nat) (b : Bool), s.smbEn = false → exec (.blockWrite c l b) s = .next s ∧ exec (.sendByte c b) s = .next s ∧ exec .readByte s = .next s ∧ exec .blockRead s = .next s) ∧
  (∀ (s : State), s.alertN = true → exec .alertResponse s = kept s (s.emit (.side sideSmb [0x68 + s.mgmt.pwr.smbAddr % 8]))) ∧
  (∀ (s : State), s.alertN = false → exec .alertResponse s = .next s) ∧
  (∀ (s : State) (f : OobIn), s.oobEn = false ∨ f.toUs = false ∨ f.etype ≠ 0x88B6 → exec (.oobFrame f) s = .next s) ∧
  (∀ (s : State) (f : OobIn), s.oobEn = true → f.toUs = true → f.etype = 0x88B6 → f.off = 0 → f.frags = 0 → (s.mbx 2).busy = false →
    exec (.oobFrame f) s = kept s (if (s.mbx 2).lastTag = some (leAt f.bytes 4 4) then (s.setMbx 2 { s.mbx 2 with sender := f.src }).oobSend
      else (s.setMbx 2 { s.mbx 2 with req := f.bytes, sender := f.src }).mbxSubmit 2)) ∧
  (∀ (s : State), s.mgmt.dbg.locked = false → ∃ t l, exec .dbgChallenge s = .next t ∧ t.mgmt.dbg = { s.mgmt.dbg with challenge := some l } ∧
      l.length = 48 ∧ l.take 8 = leBytes 8 Config.serial) ∧
  (∀ (s : State) (l : List Nat), s.mgmt.dbg.locked = true → exec .dbgChallenge s = .next s ∧ exec (.dbgResponse l) s = .next s) ∧
  (∀ (s : State) (l g : List Nat), s.mgmt.dbg.locked = false → s.mgmt.dbg.challenge = some l → Config.sm2Check (Config.otpKeyHash 0) l g = true →
    exec (.dbgResponse g) s = kept s ((s.modDbg (fun x => { x with challenge := none, unlocked := true })).raise evDebugUnlocked 0)) ∧
  (∀ (s : State) (g : List Nat), s.mgmt.dbg.locked = false → s.mgmt.dbg.challenge = none →
    let t := s.modDbg (fun x => { x with challenge := none, fails := x.fails + 1, locked := decide (3 ≤ x.fails + 1) })
    exec (.dbgResponse g) s = kept s (if 3 ≤ s.mgmt.dbg.fails + 1 then t.raise evDebugLockout 0 else t))

/-- Conversions set their registers and flags, warn with hysteresis, and trip, as R431 to R433 say. Formalises R431, R432,
R433, R454 (derived). -/
def Obligations.SensorsAndThermalTrip : Prop :=
  (∀ (s : State) (n : Nat) (t : Int), 96 ≤ n ∨ s.mgmt.sens.trip = true ∨ s.sensorOk n = false → exec (.thermalConversion n t) s = .next s) ∧
  (∀ (s : State) (n : Nat) (t : Int), n < 96 → s.mgmt.sens.trip = false → s.sensorOk n = true → s.mgmt.sens.hot.get false n = true → 2000 ≤ t →
    ∃ u, exec (.thermalConversion n t) s = .next u ∧ u.mgmt.sens.trip = true ∧ u.clk.running = false ∧ Out.pin pinThermCrit 1 ∈ u.out) ∧
  (∀ (s : State) (n : Nat) (t : Int), n < 96 → s.mgmt.sens.trip = false → s.sensorOk n = true → s.mgmt.sens.hot.get false n = false → s.clk.running = true →
    SMap.wf (fun _ => false) s.mgmt.sens.hot = true →
    ∃ u, exec (.thermalConversion n t) s = .next u ∧ u.mgmt.sens.trip = false ∧ u.mgmt.sens.hot.get false n = decide (2000 ≤ t) ∧
      u.clk = s.clk ∧ u.pon = s.pon ∧ u.grant = s.grant ∧ u.data = s.data ∧ u.buf = s.buf ∧ u.cph = s.cph) ∧
  (∀ (s : State) (h : Nat) (t : Int), SMap.wf (fun _ => false) s.mgmt.sens.warn = true → SMap.wf (fun _ => false) s.mgmt.sens.crit = true →
    (s.judgeHotspot h t).mgmt.sens.warn.get false h = (decide (1600 ≤ t) || (s.mgmt.sens.warn.get false h && decide (1520 ≤ t))) ∧
    (s.judgeHotspot h t).mgmt.sens.crit.get false h = (decide (1760 ≤ t) || (s.mgmt.sens.crit.get false h && decide (1680 ≤ t)))) ∧
  (∀ (s : State) (n mv : Nat), n < 48 →
    let hi := decide (s.fld (mgtA (0x4300 + 4 * n)) 31 16 < mv)
    let lo := decide (mv < s.fld (mgtA (0x4300 + 4 * n)) 15 0)
    let t := ((s.setReg (mgtA (0x4200 + 4 * n)) (BitVec.ofNat 64 (b2n hi * 2 ^ 31 + b2n lo * 2 ^ 30 + mv % 65536))).sample 4 n mv).modSens
      (fun x => { x with volt := x.volt.set false n (hi || lo) });
    exec (.voltageConversion n mv) s = kept s (if (hi || lo) && !(s.mgmt.sens.volt.get false n) then t.raise evVoltWarn n else t)) ∧
  (∀ (s : State) (n mv : Nat), 48 ≤ n → exec (.voltageConversion n mv) s = .next s) ∧
  (∀ (s : State) (k v : Nat), k < 8 →
    let now := decide (95 ≤ v) || (s.mgmt.sens.hbm.get false k && decide (90 ≤ v))
    let t := (s.setReg (mgtA (0x4400 + 4 * k)) (BitVec.ofNat 64 (v % 256))).modSens (fun x => { x with hbm := x.hbm.set false k now });
    exec (.hbmTempRead k v) s = kept s (if now && !(s.mgmt.sens.hbm.get false k) then t.raise evHbmHot k else t)) ∧
  (∀ (s : State) (k v : Nat), 8 ≤ k → exec (.hbmTempRead k v) s = .next s)

/-- Records are bound, sampled, committed, read and cleared as R435 to R446 say. Formalises R437, R438, R440, R441, R442,
R443, R444, R445, R446, R447 (derived). -/
def Obligations.RecorderBindsSamplesAndClears : Prop :=
  (∀ (c : Desc) (s : State), Starts infoRecBind c s → let z := s.jrnStart c
    z.srcDomain (c.n1 % 16) c.n2 = none →
    exec (.recBind c) s = kept s ((z : State).complete c.acc { status := stNotFound })) ∧
  (∀ (c : Desc) (s : State), Starts infoRecBind c s → let z := s.jrnStart c
    ∀ d, z.srcDomain (c.n1 % 16) c.n2 = some d → c.dom ≠ 0 → c.n0 < 1024 ∨ d ≠ c.dom →
    exec (.recBind c) s = kept s ((z : State).complete c.acc { status := stDomain })) ∧
  (∀ (c : Desc) (s : State), Starts infoRecBind c s → let z := s.jrnStart c
    ∀ d, z.srcDomain (c.n1 % 16) c.n2 = some d → c.dom = 0 → (z.recd c.n0).bound = true ∨ (z.recd c.n0).h.count ≠ 0 →
    exec (.recBind c) s = kept s ((z : State).complete c.acc { status := stState })) ∧
  (∀ (c : Desc) (s : State), Starts infoRecBind c s → let z := s.jrnStart c
    ∀ d, z.srcDomain (c.n1 % 16) c.n2 = some d → c.dom = 0 ∨ 1024 ≤ c.n0 ∧ d = c.dom ∧ z.mgmt.rcd.recs.countWhere (fun _ y => y.bound && y.dom == c.dom) < 64 → (z.recd c.n0).bound = false → (z.recd c.n0).h.count = 0 →
    exec (.recBind c) s = kept s ((z.modRec (fun r => { r with recs := r.recs.set {} c.n0 { z.recd c.n0 with bound := true, unbind := false, kind := c.n1 % 16, log := c.n1 / 16 % 2 == 1, source := c.n2, base := c.n3, width := c.n4, dom := d } }) : State).complete c.acc { status := stOk })) ∧
  (∀ (c : Desc) (s : State), Starts infoRecUnbind c s → let z := s.jrnStart c
    c.dom ≠ 0 → (z.recd c.n0).dom ≠ c.dom →
    exec (.recUnbind c) s = kept s ((z : State).complete c.acc { status := stDomain })) ∧
  (∀ (c : Desc) (s : State), Starts infoRecUnbind c s → let z := s.jrnStart c
    c.dom = 0 ∨ (z.recd c.n0).dom = c.dom → (z.recd c.n0).bound = true →
    exec (.recUnbind c) s = kept s ((z.modRec (fun r => { r with recs := r.recs.set {} c.n0 { z.recd c.n0 with unbind := true } }) : State).complete c.acc { status := stOk })) ∧
  (∀ (c : Desc) (s : State), Starts infoRecRead c s → let z := s.jrnStart c
    c.dom = 0 →
    exec (.recRead c) s = kept s ((z.outBuf c (((List.range c.n1).map (fun i => z.recBytes (c.n0 + i))).flatten) : State).complete c.acc { status := stOk })) ∧
  (∀ (c : Desc) (s : State), Starts infoRecRead c s → let z := s.jrnStart c
    ∀ i, c.dom ≠ 0 → i < c.n1 → (z.recd (c.n0 + i)).dom ≠ c.dom →
    exec (.recRead c) s = kept s ((z : State).complete c.acc { status := stDomain })) ∧
  (∀ (c : Desc) (s : State), Starts infoGetClearNonce c s → let z := s.jrnStart c
    ∀ (w : W64) (t : State), z.random = (w, t) →
    exec (.getClearNonce c) s = kept s (((t.modRec (fun r => { r with nonce := some (w.toNat, t.clk.msc + 480000) })).outBuf c (leBytes 8 w.toNat ++ leBytes 8 (t.clk.msc + 480000)) : State).complete c.acc { status := stOk })) ∧
  (∀ (c : Desc) (s : State), Starts infoClearRecords c s → let z := s.jrnStart c
    ∀ n, z.tokenStatus (readToken c.inp) = n → n ≠ stOk →
    exec (.clearRecords c) s = kept s ((z.modRec (fun r => { r with nonce := none }) : State).complete c.acc { status := n })) ∧
  (∀ (c : Desc) (s : State), Starts infoClearRecords c s → let z := s.jrnStart c
    z.tokenStatus (readToken c.inp) = stOk → z.mgmt.rcd.ledger.length < clearLedgerMax →
    exec (.clearRecords c) s = kept s (((((z.modRec (fun r => { r with nonce := none })).clearRecords (readToken c.inp)).ledgerAppend (readToken c.inp)).raise evRecordsCleared z.mgmt.rcd.ledger.length : State).complete c.acc { status := stOk })) ∧
  (∀ (c : Desc) (s : State), Starts infoClearRecords c s → let z := s.jrnStart c
    z.tokenStatus (readToken c.inp) = stOk → clearLedgerMax ≤ z.mgmt.rcd.ledger.length →
    exec (.clearRecords c) s = kept s ((z.modRec (fun r => { r with nonce := none }) : State).complete c.acc { status := stNoRoom })) ∧
  (∀ (c : Desc) (s : State), Starts infoReadClearLedger c s → let z := s.jrnStart c
    z.mgmt.rcd.ledger.length ≤ c.n0 →
    exec (.readClearLedger c) s = kept s ((z : State).complete c.acc { status := stNotFound })) ∧
  (∀ (c : Desc) (s : State), Starts infoReadClearLedger c s → let z := s.jrnStart c
    c.n0 < z.mgmt.rcd.ledger.length →
    exec (.readClearLedger c) s = kept s ((z.outBuf c (z.ledgerBytes c.n0 c.n1) : State).complete c.acc { status := stOk })) ∧
  (∀ (c : Desc) (s : State), Starts infoSetClearKey c s → let z := s.jrnStart c
    c.dom ≠ 0 →
    exec (.setClearKey c) s = kept s ((z : State).complete c.acc { status := stDomain })) ∧
  (∀ (c : Desc) (s : State), Starts infoSetClearKey c s → let z := s.jrnStart c
    c.dom = 0 → z.mgmt.rcd.clearKey.isSome = true →
    exec (.setClearKey c) s = kept s ((z : State).complete c.acc { status := stState })) ∧
  (∀ (c : Desc) (s : State), Starts infoSetClearKey c s → let z := s.jrnStart c
    c.dom = 0 → z.mgmt.rcd.clearKey = none →
    exec (.setClearKey c) s = kept s ((z.modRec (fun r => { r with clearKey := some c.inp }) : State).complete c.acc { status := stOk })) ∧
  (∀ (s : State) (n e : Nat), s.mgmt.rcd.nonce = some (n, e) → e ≤ s.clk.msc → exec .nonceExpiry s = kept s (s.modRec (fun r => { r with nonce := none }))) ∧
  (∀ (s : State) (n e : Nat), s.mgmt.rcd.nonce = some (n, e) → s.clk.msc < e → exec .nonceExpiry s = .next s) ∧
  (∀ (a : Hist) (x : Rec) (v m : Nat), (a.take x v m).count = (a.count + 1) % 2 ^ 64 ∧ (a.take x v m).min = min a.min v ∧ (a.take x v m).max = max a.max v ∧
    (a.take x v m).minMsc = (if v < a.min then m else a.minMsc) ∧ (31 < binOf x v → (a.take x v m).bins = a.bins) ∧
    (binOf x v ≤ 31 → (a.take x v m).overflow = a.overflow ∧ (a.bins.get 0 (binOf x v) ≠ 0xFFFFFFFF →
      (a.take x v m).bins = a.bins.set 0 (binOf x v) (a.bins.get 0 (binOf x v) + 1)))) ∧
  (∀ (s : State) (k : Nat), s.clk.running = true → s.clk.msc % 8 = 0 → k < 4095 → exec (.recorderCommit k) s = kept s (s.recCommit k)) ∧
  (∀ (s : State) (k : Nat), SMap.wf (fun _ => ({} : Rec)) s.mgmt.rcd.recs = true → s.mgmt.rcd.degraded = false →
    ((s.recCommit k).mgmt.rcd.recs.get {} k).gen = ((s.mgmt.rcd.recs.get {} k).gen + 2) % 2 ^ 32 ∧
    ((s.recCommit k).mgmt.rcd.recs.get {} k).h = (s.mgmt.rcd.recs.get {} k).h.merge (s.mgmt.rcd.accs.get {} k) ∧
    ((s.recCommit k).mgmt.rcd.recs.get {} k).source = (s.mgmt.rcd.recs.get {} k).source ∧
    (∀ j, j ≠ k → (s.recCommit k).mgmt.rcd.recs.get {} j = s.mgmt.rcd.recs.get {} j)) ∧
  (∀ (s : State) (k : Nat), s.clk.msc % 8 ≠ 0 ∨ 4096 ≤ k → exec (.recorderCommit k) s = .next s) ∧
  (∀ (s : State), s.clk.running = true → s.clk.msc % 8000 = 0 →
    exec (.recorderMramCommit none) s = kept s ((s.modRec (fun r =>
      if s.clk.msc / 8000 % 2 = 0 then { r with mram0 := some (s.clk.msc, r.recs), mramOk := true }
      else { r with mram1 := some (s.clk.msc, r.recs), mramOk := true })).setReg
      (rcdA 0x10) (BitVec.ofNat 64 s.clk.msc)) ∧
    (∀ b, exec (.recorderMramCommit (some b)) s = kept s ((s.modRec (fun r => { r with mramOk := false })).lrWrite 0x03 b))) ∧
  (∀ (s : State) (o : Option Nat), s.clk.msc % 8000 ≠ 0 → exec (.recorderMramCommit o) s = .next s) ∧
  (∀ (s : State), s.mgmt.rcd.bank0 = true → s.mgmt.rcd.bank1 = true →
    exec (.recMemFail 0) s = kept s (((s.modRec (fun r => { r with bank0 := false })).lrWrite 0x01 0).raise evRecMemFail 0) ∧
    exec (.recMemFail 1) s = kept s (((s.modRec (fun r => { r with bank1 := false })).lrWrite 0x01 1).raise evRecMemFail 0)) ∧
  (∀ (s : State), s.mgmt.rcd.bank0 = true → s.mgmt.rcd.bank1 = false →
    exec (.recMemFail 0) s = kept s ((((s.modRec (fun r => { r with bank0 := false })).modRec RecSt.dropBins).lrWrite 0x02 0).raise evRecDegraded 0) ∧
    exec (.recMemFail 1) s = .next s)

/-- A download begins, takes pieces, is verified and aborted as R470 to R473, R483 and R484 say. Formalises R470, R471,
R472, R473, R477, R478, R483, R484 (derived). -/
def Obligations.UpdateDownloadVerifyAndStatus : Prop :=
  (∀ (c : Desc) (s : State), Starts infoUpdBegin c s → let z := s.jrnStart c
    manifestOk c.inp = false →
    exec (.updBegin c) s = kept s ((z : State).complete c.acc { status := stBadArg })) ∧
  (∀ (c : Desc) (s : State), Starts infoUpdBegin c s → let z := s.jrnStart c
    ∀ m, manifestOk c.inp = true → z.mgmt.upd.st ≠ .idle → z.mgmt.upd.man = some m → m.bytes = c.inp →
    exec (.updBegin c) s = kept s ((z : State).complete c.acc { status := stOk })) ∧
  (∀ (c : Desc) (s : State), Starts infoUpdBegin c s → let z := s.jrnStart c
    manifestOk c.inp = true → z.mgmt.upd.st ≠ .idle → (∀ m, z.mgmt.upd.man = some m → m.bytes ≠ c.inp) →
    exec (.updBegin c) s = kept s ((z : State).complete c.acc { status := stState })) ∧
  (∀ (c : Desc) (s : State), Starts infoUpdBegin c s → let z := s.jrnStart c
    ∀ m, manifestOk c.inp = true → z.mgmt.upd.st = .idle → m = readManifest c.inp → m.stepping ≠ 0xA1 ∨ m.svn < z.minSvn →
    exec (.updBegin c) s = kept s ((z : State).complete c.acc { status := stImageCheck })) ∧
  (∀ (c : Desc) (s : State), Starts infoUpdBegin c s → let z := s.jrnStart c
    ∀ m, manifestOk c.inp = true → z.mgmt.upd.st = .idle → m = readManifest c.inp → m.stepping = 0xA1 → z.minSvn ≤ m.svn → m.signed = false →
    exec (.updBegin c) s = kept s ((z : State).complete c.acc { status := stAuthFail })) ∧
  (∀ (c : Desc) (s : State), Starts infoUpdBegin c s → let z := s.jrnStart c
    ∀ m, manifestOk c.inp = true → z.mgmt.upd.st = .idle → m = readManifest c.inp → m.stepping = 0xA1 → z.minSvn ≤ m.svn → m.signed = true →
    exec (.updBegin c) s = kept s ((z.clearBitmap.modUpd (fun u => { u with st := .receiving, man := some m }) : State).complete c.acc { status := stOk })) ∧
  (∀ (c : Desc) (s : State), Starts infoUpdPiece c s → let z := s.jrnStart c
    z.bufCheck c.dom c.buf c.bufLen = false →
    exec (.updPiece c) s = kept s ((z.add64 (bpmA 0x128) 1 : State).complete c.acc { status := stBadArg })) ∧
  (∀ (c : Desc) (s : State), Starts infoUpdPiece c s → let z := s.jrnStart c
    ∀ (st r0 : Nat) (t : State), z.bufCheck c.dom c.buf c.bufLen = true → z.piece c.n0 ((padTo c.bufLen c.inp).take (c.bufLen - 32)) (sliceB (padTo c.bufLen c.inp) (c.bufLen - 32) 32) = (st, r0, t) →
    exec (.updPiece c) s = kept s ((t : State).complete c.acc { status := st, r0 := r0 })) ∧
  (∀ (s : State) (m : Manifest) (p : Nat) (d k : List Nat), s.mgmt.upd.man = some m →
    (s.mgmt.upd.st ≠ .receiving → s.mgmt.upd.st ≠ .received → s.piece p d k = (stState, 0, s)) ∧
    (s.mgmt.upd.st = .receiving → s.flashOk = true → p < m.pieces → d.length = m.pieceLen p →
      (s.pieceBit p = true → s.piece p d k = (stOk, 1, s.updCnt 2)) ∧
      (s.pieceBit p = false → sm3 d ≠ k ∨ sm3 d ≠ m.pieceDigests.getD p [] → s.piece p d k = (stImageCheck, 0, s.updCnt 1)) ∧
      (s.pieceBit p = false → sm3 d = k → sm3 d = m.pieceDigests.getD p [] → s.mgmt.pair.st ≠ .paired →
        s.piece p d k = (stOk, 0, if (List.range m.pieces).all (fun i => (s.pieceWrite p d).pieceBit i)
          then ((s.pieceWrite p d).modUpd (fun u => { u with st := .received })).raise evUpdateReady 0 else s.pieceWrite p d)))) ∧
  (∀ (c : Desc) (s : State), Starts infoUpdVerify c s → let z := s.jrnStart c
    z.mgmt.upd.st ≠ .received → z.mgmt.upd.st ≠ .verified →
    exec (.updVerify c) s = kept s ((z : State).complete c.acc { status := stState })) ∧
  (∀ (c : Desc) (s : State), Starts infoUpdVerify c s → let z := s.jrnStart c
    z.mgmt.upd.st = .received ∨ z.mgmt.upd.st = .verified →
    exec (.updVerify c) s = kept s ((z.updCnt 3).modUpd (fun u => { u with st := .verifying, verAcc := some c.acc }))) ∧
  (∀ (s : State) (acc : Nat) (m : Manifest), s.mgmt.upd.man = some m → s.mgmt.upd.st = .verifying → s.mgmt.upd.verAcc = some acc → m.signed = true →
    s.flashUp 0 = true → s.flashUp 1 = true → sm3 (s.mgmt.upd.slot 0 m.pieces) = m.imageDigest → sm3 (s.mgmt.upd.slot 1 m.pieces) = m.imageDigest →
    exec (.updVerifyDone acc) s = kept s (((s.modUpd (fun u => { u with st := .verified, verAcc := none })).raise evUpdateVerified 0).complete acc { status := stOk })) ∧
  (∀ (s : State) (acc : Nat) (m : Manifest), s.mgmt.upd.man = some m → s.mgmt.upd.st = .verifying → s.mgmt.upd.verAcc = some acc →
    s.flashUp 0 = true → sm3 (s.mgmt.upd.slot 0 m.pieces) ≠ m.imageDigest →
    let bad := (List.range m.pieces).filter (fun p => s.pieceWrong m p)
    let t := bad.foldl (fun s p => s.setBit (updA (0x20 + 4 * (p / 32))) (p % 32) false) s
    exec (.updVerifyDone acc) s = kept s ((t.modUpd (fun u => { u with st := .receiving, verAcc := none })).complete acc { status := stImageCheck, r0 := bad.length })) ∧
  (∀ (s : State) (acc : Nat), s.mgmt.upd.st ≠ .verifying ∨ s.mgmt.upd.verAcc ≠ some acc → exec (.updVerifyDone acc) s = .next s) ∧
  (∀ (c : Desc) (s : State), Starts infoConfirm c s → let z := s.jrnStart c
    z.mgmt.upd.st ≠ .trial →
    exec (.confirm c) s = kept s ((z : State).complete c.acc { status := stState })) ∧
  (∀ (c : Desc) (s : State), Starts infoConfirm c s → let z := s.jrnStart c
    z.mgmt.upd.st = .trial → z.mgmt.upd.started = false → z.mgmt.upd.cause = 0 → z.flashOk = true →
    exec (.confirm c) s = kept s ((z.confirm : State).complete c.acc { status := stOk })) ∧
  (∀ (s : State), s.confirm.mgmt.upd.st = .idle ∧ s.confirm.mgmt.wps = s.mgmt.conv ∧ s.confirm.mgmt.conv = [] ∧ s.confirm.mgmt.upd.staging = [] ∧
    (∀ m, s.mgmt.upd.man = some m → s.confirm.mgmt.pwr.minSvn = if m.raiseSvn then max s.mgmt.pwr.minSvn m.svn else s.mgmt.pwr.minSvn)) ∧
  (∀ (c : Desc) (s : State), Starts infoUpdFallback c s → let z := s.jrnStart c
    z.mgmt.upd.st ≠ .trial →
    exec (.updFallback c) s = kept s ((z : State).complete c.acc { status := stState })) ∧
  (∀ (c : Desc) (s : State), Starts infoUpdFallback c s → let z := s.jrnStart c
    z.mgmt.upd.st = .trial →
    exec (.updFallback c) s = kept s ((z.modUpd (fun u => { u with cause := 4 }) : State).complete c.acc { status := stOk })) ∧
  (∀ (c : Desc) (s : State), Starts infoUpdAbort c s → let z := s.jrnStart c
    z.mgmt.upd.st ≠ .receiving → z.mgmt.upd.st ≠ .received → z.mgmt.upd.st ≠ .verified →
    exec (.updAbort c) s = kept s ((z : State).complete c.acc { status := stState })) ∧
  (∀ (c : Desc) (s : State), Starts infoUpdAbort c s → let z := s.jrnStart c
    z.mgmt.upd.st = .receiving ∨ z.mgmt.upd.st = .received ∨ z.mgmt.upd.st = .verified →
    exec (.updAbort c) s = kept s (((z.clearBitmap.setFld (updA 0x0) 31 24 5).modUpd (fun u => { u with st := .idle }) : State).complete c.acc { status := stOk })) ∧
  (∀ (c : Desc) (s : State), Starts infoUpdStatus c s → let z := s.jrnStart c
    exec (.updStatus c) s = kept s ((z.outBuf c z.updBytes : State).complete c.acc { status := stOk })) ∧
  (∀ (s : State) (m : Nat), m < 3 → (s.mbx m).busy = true → s.fwServes = true → s.mbxOn m = true → mbxReqOk (s.mbx m).req = true → leAt (s.mbx m).req 0 2 = 0x11 →
    s.mbxBody m = [] → exec (.mbxUpdStatus m) s = kept s (s.mbxAnswer m stOk s.updBytes)) ∧
  (∀ (s : State) (m : Nat) (b : List Nat), m < 3 → (s.mbx m).busy = true → s.fwServes = true → s.mbxOn m = true → mbxReqOk (s.mbx m).req = true → leAt (s.mbx m).req 0 2 = 0x10 →
    b = s.mbxBody m → 40 ≤ b.length → leAt b 2 2 = 0 → leAt b 4 4 = 0 → leAt b 0 2 = 0xFFFF → (∀ x ∈ sliceB b 8 32, x = 0) →
    6 ≤ (b.drop 40).length → (b.drop 40).length = manifestLen (leAt (b.drop 40) 4 2) →
    let t := s.setMbx m { s.mbx m with frag := none }
    exec (.updFrag m) s = kept s ((t.updStart (b.drop 40)).2.mbxAnswer m (t.updStart (b.drop 40)).1 [])) ∧
  (∀ (s : State) (m : Nat) (b : List Nat), m < 3 → (s.mbx m).busy = true → s.fwServes = true → s.mbxOn m = true → mbxReqOk (s.mbx m).req = true → leAt (s.mbx m).req 0 2 = 0x10 →
    b = s.mbxBody m → b.length < 40 ∨ leAt b 2 2 ≠ 0 → exec (.updFrag m) s = kept s (s.mbxAnswer m stBadArg []))

/-- An activation swaps, pauses, boots in trial and falls back as R474 to R478 say. Formalises R474, R475, R476, R477,
R478, R481 (derived). -/
def Obligations.ActivationTrialAndFallback : Prop :=
  (∀ (c : Desc) (s : State), Starts infoActivate c s → let z := s.jrnStart c
    z.mgmt.upd.st = .trial →
    exec (.activate c) s = kept s ((z : State).complete c.acc { status := stOk })) ∧
  (∀ (c : Desc) (s : State), Starts infoActivate c s → let z := s.jrnStart c
    ∀ n, z.mgmt.upd.st ≠ .trial → z.swapStatus = n → n ≠ stOk →
    exec (.activate c) s = kept s ((z : State).complete c.acc { status := n })) ∧
  (∀ (c : Desc) (s : State), Starts infoActivate c s → let z := s.jrnStart c
    z.mgmt.upd.st ≠ .trial → z.swapStatus = stOk →
    exec (.activate c) s = kept s (z.modUpd (fun u => { u with st := .swapping, old := u.run, trials := if c.n0 = 0 then 3 else c.n0, blk := 0, swapped := false, openAcc := some c.acc, openAt := none, late := false, cause := 0 }))) ∧
  (∀ (c : Desc) (s : State), Starts infoActivateAt c s → let z := s.jrnStart c
    ∀ t, z.mgmt.upd.st ≠ .trial → t = devAt (pair64 c.p0 c.p1) c.n2 → t < z.time.dev + devAt 1 0 ∨ z.time.dev + devAt 86400 0 < t →
    exec (.activateAt c) s = kept s ((z : State).complete c.acc { status := stBadArg })) ∧
  (∀ (c : Desc) (s : State), Starts infoActivateAt c s → let z := s.jrnStart c
    ∀ t, z.mgmt.upd.st ≠ .trial → t = devAt (pair64 c.p0 c.p1) c.n2 → z.time.dev + devAt 1 0 ≤ t → t ≤ z.time.dev + devAt 86400 0 → z.pon.subs.any (fun e => e.2.road != .disabled) = true →
    exec (.activateAt c) s = kept s ((z : State).complete c.acc { status := stState })) ∧
  (∀ (c : Desc) (s : State), Starts infoActivateAt c s → let z := s.jrnStart c
    ∀ t, z.mgmt.upd.st ≠ .trial → t = devAt (pair64 c.p0 c.p1) c.n2 → z.time.dev + devAt 1 0 ≤ t → t ≤ z.time.dev + devAt 86400 0 → z.pon.subs.any (fun e => e.2.road != .disabled) = false → z.swapStatus = stOk →
    exec (.activateAt c) s = kept s (z.modUpd (fun u => { u with st := .swapping, old := u.run, trials := if c.n3 = 0 then 3 else c.n3, blk := 0, swapped := false, openAcc := some c.acc, openAt := some (pair64 c.p0 c.p1, c.n2), late := false, cause := 0 }))) ∧
  (∀ (s : State), (s.mgmt.upd.man = none ∨ s.mgmt.upd.st ≠ .verified ∨ s.flashOk = false ∨ s.mgmt.pair.st = .joining ∨ s.mgmt.pair.st = .broken) → s.swapStatus = stState) ∧
  (∀ (s : State) (m : Manifest) (i : Nat), s.mgmt.upd.man = some m → s.mgmt.upd.st = .swapping → s.mgmt.upd.swapped = false → i = s.mgmt.upd.blk → s.flashOk = true →
    exec (.swapBlock i) s = kept s ((s.setReg (updA 0x1C) (BitVec.ofNat 64 (i % 512))).modUpd (fun u => { u with
      staging := u.staging.set [] i (u.image.get [] i), image := u.image.set [] i ((if s.flashUp 0 then u.down0 else u.down1).get [] i), blk := i + 1
      swapped := decide (m.pieces ≤ i + 1) }))) ∧
  (∀ (s : State) (i : Nat), s.mgmt.upd.st ≠ .swapping ∨ i ≠ s.mgmt.upd.blk → exec (.swapBlock i) s = .next s) ∧
  (∀ (s : State), s.mgmt.upd.st = .swapping → s.mgmt.upd.swapped = true → s.mgmt.upd.openAt = none → s.paused = false → s.mgmt.cap = .idle → s.windowsPast = true →
    exec .activationPause s = kept s (((s.setBit (mgtA 0x0) 0 true).setFld (updA 0x0) 18 16 s.mgmt.upd.trials).modUpd (fun u => { u with bootDue := true, started := false }))) ∧
  (∀ (s : State), s.mgmt.upd.swapped = false ∨ s.windowsPast = false ∨ s.mgmt.cap = .waiting → exec .activationPause s = .next s) ∧
  (∀ (s : State) (sec ns : Nat), s.mgmt.upd.openAt = some (sec, ns) → s.mgmt.upd.st = .swapping → s.paused = false → s.mgmt.upd.late = false → devAt sec ns ≤ s.time.dev →
    exec .activateAtTime s = kept s (if s.mgmt.upd.swapped then s.beginPause else s.modUpd (fun u => { u with late := true }))) ∧
  (∀ (s : State) (sec ns : Nat), s.mgmt.upd.openAt = some (sec, ns) → s.time.dev < devAt sec ns → exec .activateAtTime s = .next s) ∧
  (∀ (s : State), s.mgmt.upd.bootDue = true → s.fld (updA 0x0) 18 16 = 0 →
    exec .bootInTrial s = kept s (s.modUpd (fun u => { u with bootDue := false, started := false, cause := 2 }))) ∧
  (∀ (s : State), s.mgmt.upd.bootDue = true → s.fld (updA 0x0) 18 16 ≠ 0 →
    exec .bootInTrial s = kept s ((s.setFld (updA 0x0) 18 16 (s.fld (updA 0x0) 18 16 - 1)).modUpd (fun u => { u with bootDue := false, started := true, run := u.man }))) ∧
  (∀ (s : State), s.mgmt.upd.bootDue = false → exec .bootInTrial s = .next s) ∧
  (∀ (s : State) (b : Bool), s.mgmt.upd.started = true → s.mgmt.upd.st = .swapping ∨ s.mgmt.upd.st = .trial →
    exec (.trialStart b true) s = kept s (s.modUpd (fun u => { u with started := false, cause := 3 })) ∧
    exec (.trialStart false false) s = kept s (s.modUpd (fun u => { u with started := false, cause := 6 }))) ∧
  (∀ (s : State), s.mgmt.upd.started = true → s.mgmt.upd.st = .swapping → s.paused = false →
    let t := s.modUpd (fun u => { u with started := false, st := .trial })
    let u : State := { t with mgmt := { t.mgmt with conv := convertAll t.mgmt.wps t.runWpf } };
    exec (.trialStart true false) s = kept s ((((u.raise evUpdateTrial (u.fld (updA 0x0) 18 16)).closeActivate stOk)).heldCapture)) ∧
  (∀ (s : State), s.mgmt.upd.started = true → s.mgmt.upd.st = .swapping → s.paused = true →
    let t := s.modUpd (fun u => { u with started := false, st := .trial })
    let u : State := { t with mgmt := { t.mgmt with conv := convertAll t.mgmt.wps t.runWpf } }
    let v := (u.setBit (mgtA 0x0) 0 false).replayDone u.wpLast;
    exec (.trialStart true false) s = kept s ((((v.raise evUpdateTrial (v.fld (updA 0x0) 18 16)).closeActivate stOk)).heldCapture)) ∧
  (∀ (s : State) (a f : Bool), s.mgmt.upd.started = false → exec (.trialStart a f) s = .next s ∧ exec .loaderRestart s = .next s) ∧
  (∀ (s : State), s.mgmt.upd.started = true → ∃ t, exec .loaderRestart s = .next t ∧ t.mgmt.upd.started = false ∧ t.mgmt.upd.bootDue = true ∧ t.mgmt.upd.st = s.mgmt.upd.st) ∧
  (∀ (s : State), s.mgmt.upd.cause ≠ 0 → s.mgmt.upd.st = .swapping ∨ s.mgmt.upd.st = .trial →
    let n := s.mgmt.upd.cause
    exec .fallback s = kept s ((((((s.revert n).setBit (mgtA 0x0) 0 false).replayDone (s.revert n).wpLast).raise evUpdateFallback n).closeActivate (if n = 3 then stFormat else stInternal)).heldCapture)) ∧
  (∀ (s : State), s.mgmt.upd.cause = 0 → exec .fallback s = .next s) ∧
  (∀ (s : State) (n : Nat), (s.revert n).mgmt.upd.st = .reverting ∧ (s.revert n).mgmt.upd.run = s.mgmt.upd.old ∧ (s.revert n).mgmt.wps = s.mgmt.wps) ∧
  (∀ (s : State) (i : Nat), s.mgmt.upd.st = .reverting → s.mgmt.upd.blk = i + 2 → s.flashOk = true →
    exec (.revertBlock (i + 1)) s = kept s ((s.setReg (updA 0x1C) (BitVec.ofNat 64 (2 ^ 31 + (i + 1) % 512))).modUpd (fun u => { u with image := u.image.set [] (i + 1) (u.staging.get [] (i + 1)), blk := i + 1 }))) ∧
  (∀ (s : State), s.mgmt.upd.st = .reverting → s.mgmt.upd.blk = 1 → s.flashOk = true →
    ∃ t, exec (.revertBlock 0) s = .next t ∧ t.mgmt.upd.st = .idle ∧ t.mgmt.conv = [] ∧ t.mgmt.wps = s.mgmt.wps) ∧
  (∀ (s : State) (i : Nat), s.mgmt.upd.st ≠ .reverting ∨ s.mgmt.upd.blk ≠ i + 1 → exec (.revertBlock i) s = .next s)

/-- Waypoints are triggered, captured, written, pinned and returned, and FACTORY_CLEAN erases, as R462 to R468 say.
Formalises R462, R463, R464, R465, R467, R468 (derived). -/
def Obligations.WaypointsTakenReturnedAndCleaned : Prop :=
  (∀ (s : State), 262144 ≤ s.mgmt.jrnSince ∨ 131072 ≤ s.mgmt.blkSince → s.mgmt.cap = .idle → s.paused = false →
    exec .waypointTrigger s = kept s { s with mgmt := { s.mgmt with cap := .armed, capAuto := true, capPin := false, capAcc := none, capHeld := false } }) ∧
  (∀ (s : State), 262144 ≤ s.mgmt.jrnSince ∨ 131072 ≤ s.mgmt.blkSince → s.mgmt.cap ≠ .idle ∨ s.paused = true →
    exec .waypointTrigger s = kept s { s with mgmt := { s.mgmt with capHeld := true } }) ∧
  (∀ (s : State), s.mgmt.jrnSince < 262144 → s.mgmt.blkSince < 131072 → exec .waypointTrigger s = .next s) ∧
  (∀ (s : State), s.mgmt.cap = .armed → s.clk.phase = .afterSnapshot → exec .waypointCapture s = kept s { s with mgmt := { s.mgmt with cap := .waiting } }) ∧
  (∀ (s : State), s.mgmt.cap ≠ .armed ∨ s.clk.phase ≠ .afterSnapshot → exec .waypointCapture s = .next s) ∧
  (∀ (s : State), s.mgmt.cap = .waiting → s.capWaits = false →
    let a0 := match s.wpLast with
      | some w => w.a
      | none => 0
    let a := s.host.jrn.foldl (fun (m : Nat) j => if j.exec.isSome then max m j.desc.acc else m) a0
    let late := (s.host.jrn.filter (fun j => j.exec.isNone && decide (j.desc.acc ≤ a))).map (fun j => j.desc.acc)
    let t := s.setWpMap (s.wpMap.set none (wpVictim s.wpMap) none);
    exec .waypointCopy s = kept s { t with mgmt := { t.mgmt with cap := .writing a s.clk.msc late, capCfg := s.capture } }) ∧
  (∀ (s : State), s.mgmt.cap ≠ .waiting ∨ s.capWaits = true → exec .waypointCopy s = .next s) ∧
  (∀ (s : State) (a msc k : Nat) (l : List Nat), s.mgmt.cap = .writing a msc l → s.mgmt.upd.st ≠ .trial → s.flashOk = true → k ≤ 114688 →
    s.mgmt.capAcc = none → s.mgmt.capHeld = false →
    ∃ t w, exec (.waypointDone true k) s = .next t ∧ t.mgmt.wps = s.mgmt.wps.set none (wpVictim s.mgmt.wps) (some w) ∧ t.mgmt.wpLatest = wpVictim s.mgmt.wps ∧
      w.ver = s.mgmt.wpVer + 1 ∧ w.a = a ∧ w.msc = msc ∧ w.size = k ∧ w.late = l ∧ w.cfg = s.mgmt.capCfg ∧ t.mgmt.wpVer = s.mgmt.wpVer + 1 ∧
      t.mgmt.jrnSince = 0 ∧ t.mgmt.blkSince = 0 ∧ t.mgmt.cap = .idle) ∧
  (∀ (s : State) (a msc k : Nat) (l : List Nat), s.mgmt.cap = .writing a msc l → s.mgmt.capAcc = none → s.mgmt.capHeld = false →
    ∃ t, exec (.waypointDone false k) s = .next t ∧ t.mgmt.wps = s.mgmt.wps ∧ t.mgmt.conv = s.mgmt.conv ∧ t.mgmt.wpLatest = s.mgmt.wpLatest ∧
      t.mgmt.jrnSince = s.mgmt.jrnSince ∧ t.host.jrn = s.host.jrn ∧ t.mgmt.cap = .idle) ∧
  (∀ (s : State) (b : Bool) (k : Nat), s.mgmt.cap = .idle ∨ s.mgmt.cap = .armed ∨ s.mgmt.cap = .waiting → exec (.waypointDone b k) s = .next s) ∧
  (∀ (c : Desc) (s : State), Starts infoTakeWaypoint c s → let z := s.jrnStart c
    z.mgmt.cap ≠ .idle ∨ z.flashOk = false →
    exec (.takeWaypoint c) s = kept s ((z : State).complete c.acc { status := stState })) ∧
  (∀ (c : Desc) (s : State), Starts infoTakeWaypoint c s → let z := s.jrnStart c
    z.mgmt.cap = .idle → z.flashOk = true → c.n0 = 1 → 4 ≤ wpPinned z.wpMap →
    exec (.takeWaypoint c) s = kept s ((z : State).complete c.acc { status := stNoRoom })) ∧
  (∀ (c : Desc) (s : State), Starts infoTakeWaypoint c s → let z := s.jrnStart c
    z.mgmt.cap = .idle → z.flashOk = true → c.n0 = 0 ∨ c.n0 = 1 ∧ wpPinned z.wpMap < 4 →
    exec (.takeWaypoint c) s = kept s ({ z with mgmt := { z.mgmt with cap := .armed, capAuto := false, capPin := c.n0 == 1, capAcc := some c.acc } })) ∧
  (∀ (c : Desc) (s : State), Starts infoReturnWaypoint c s → let z := s.jrnStart c
    wpFind z.wpMap (pair64 c.p0 c.p1) = none →
    exec (.returnWaypoint c) s = kept s ((z : State).complete c.acc { status := stNotFound })) ∧
  (∀ (c : Desc) (s : State), Starts infoReturnWaypoint c s → let z := s.jrnStart c
    ∀ k w, wpFind z.wpMap (pair64 c.p0 c.p1) = some (k, w) → z.mgmt.returns ≠ [] →
    exec (.returnWaypoint c) s = kept s ((z : State).complete c.acc { status := stState })) ∧
  (∀ (c : Desc) (s : State), Starts infoReturnWaypoint c s → let z := s.jrnStart c
    ∀ k w e, wpFind z.wpMap (pair64 c.p0 c.p1) = some (k, w) → z.mgmt.returns = [] → z.resolveE none c = .ok e → z.pendRoom = true → w.wpf < z.runWpfMin ∨ z.runWpf < w.wpf →
    exec (.returnWaypoint c) s = kept s ((z : State).complete c.acc { status := stFormat })) ∧
  (∀ (c : Desc) (s : State), Starts infoReturnWaypoint c s → let z := s.jrnStart c
    ∀ k w e, wpFind z.wpMap (pair64 c.p0 c.p1) = some (k, w) → z.mgmt.returns = [] → z.resolveE none c = .ok e → z.pendRoom = true → z.runWpfMin ≤ w.wpf → w.wpf ≤ z.runWpf →
    exec (.returnWaypoint c) s = kept s (((({ z with mgmt := { z.mgmt with returns := [(pair64 c.p0 c.p1, c.n2 == 1, w.cfg)] } } : State).add32 (wptA 0xAC) 1).defer c e (.waypointReturn (pair64 c.p0 c.p1) (c.n2 == 1)) : State).complete c.acc { status := stDeferred, msc := some e })) ∧
  (∀ (c : Desc) (s : State), Starts infoPinWaypoint c s → let z := s.jrnStart c
    wpFind z.wpMap (pair64 c.p0 c.p1) = none →
    exec (.pinWaypoint c) s = kept s ((z : State).complete c.acc { status := stNotFound })) ∧
  (∀ (c : Desc) (s : State), Starts infoPinWaypoint c s → let z := s.jrnStart c
    ∀ k w, wpFind z.wpMap (pair64 c.p0 c.p1) = some (k, w) → c.n2 = 1 → w.pinned = false → 4 ≤ wpPinned z.wpMap →
    exec (.pinWaypoint c) s = kept s ((z : State).complete c.acc { status := stNoRoom })) ∧
  (∀ (c : Desc) (s : State), Starts infoPinWaypoint c s → let z := s.jrnStart c
    ∀ k w, wpFind z.wpMap (pair64 c.p0 c.p1) = some (k, w) → c.n2 = 0 ∨ w.pinned = true ∨ wpPinned z.wpMap < 4 →
    exec (.pinWaypoint c) s = kept s ((z.setWpMap (z.wpMap.set none k (some { w with pinned := c.n2 == 1 })) : State).complete c.acc { status := stOk })) ∧
  (∀ (c : Desc) (s : State), Starts infoListWaypoints c s → let z := s.jrnStart c
    (∀ k < 8, z.wp k = none) →
    exec (.listWaypoints c) s = kept s ((z.outBuf c (List.replicate 256 0) : State).complete c.acc { status := stOk })) ∧
  (∀ (c : Desc) (s : State), Starts infoListWaypoints c s → ∃ t l, exec (.listWaypoints c) s = .next t ∧ l.length = 256 ∧ t = ({ ((s.jrnStart c).outBuf c l).complete c.acc { status := stOk } with pending := s.pending } : State)) ∧
  (∀ (c : Desc) (s : State), Starts infoReleaseHold c s → let z := s.jrnStart c
    z.mgmt.pwr.held = false →
    exec (.releaseHold c) s = kept s ((z : State).complete c.acc { status := stState })) ∧
  (∀ (c : Desc) (s : State), Starts infoReleaseHold c s → let z := s.jrnStart c
    ∀ e, z.mgmt.pwr.held = true → z.resolveE none c = .ok e → z.pendRoom = true →
    exec (.releaseHold c) s = kept s ((z.defer c e .releaseHold : State).complete c.acc { status := stDeferred, msc := some e })) ∧
  (∀ (c : Desc) (s : State), Starts infoFactoryClean c s → let z := s.jrnStart c
    ∀ n, z.cleanStatus (readToken c.inp) = n → n ≠ stOk →
    exec (.factoryClean c) s = kept s ((z.modRec (fun r => { r with nonce := none }) : State).complete c.acc { status := n })) ∧
  (∀ (c : Desc) (s : State), Starts infoFactoryClean c s → let z := s.jrnStart c
    z.cleanStatus (readToken c.inp) = stOk → z.mgmt.pair.st = .joining ∨ z.mgmt.pair.st = .paired ∨ z.mgmt.pair.st = .broken ∨ z.treesOff = false ∨ z.mgmt.upd.st.cleanable = false →
    exec (.factoryClean c) s = kept s ((z.modRec (fun r => { r with nonce := none }) : State).complete c.acc { status := stState })) ∧
  (∀ (c : Desc) (s : State), Starts infoFactoryClean c s → let z := s.jrnStart c
    z.cleanStatus (readToken c.inp) = stOk → z.mgmt.pair.st = .unpaired ∨ z.mgmt.pair.st = .alone → z.treesOff = true → z.mgmt.upd.st.cleanable = true →
    exec (.factoryClean c) s = kept s (((z.modRec (fun r => { r with nonce := none })).startErase (readToken c.inp) : State).complete c.acc { status := stOk })) ∧
  (∀ (s : State) (t : Token96), (s.startErase t).mgmt.pwr.erase = true ∧ (s.startErase t).mgmt.rcd.ledger.length = s.mgmt.rcd.ledger.length + 1)

/-- Lanes leave idle, train, are measured, fail and are lost as R490 to R497 say. Formalises R490, R491, R492, R493, R495,
R496, R497 (derived). -/
def Obligations.LanesLeaveIdleTrainAndFail : Prop :=
  (∀ (s : State) (l : Nat), l < 516 → s.laneSt l = lnIdle → s.laneWanted l = true →
    exec (.laneIdleExit l) s = kept s (if continuous l then (s.laneCnt l 5).setLaneSt l lnWaking
      else ((s.laneCnt l 5).setLaneSt l lnUp).modLane l (fun x => { x with upAt := s.clk.hubc }))) ∧
  (∀ (s : State) (l : Nat), s.laneSt l ≠ lnIdle ∨ s.laneWanted l = false → exec (.laneIdleExit l) s = .next s) ∧
  (∀ (s : State) (l : Nat), l < 516 → s.laneSt l = lnWaking → (s.lane l).fromExit = false →
    exec (.laneSignalDetect l) s = kept s (if s.reg (lneA l 0x20) = 0 then s.setLaneSt l lnTraining
      else ((s.setReg (lneA l 0x18) (s.reg (lneA l 0x20))).setBit (lneA l 4) 3 true).modLane l (fun x => { x with fromExit := true }))) ∧
  (∀ (s : State) (l : Nat), s.laneSt l ≠ lnWaking → exec (.laneSignalDetect l) s = .next s) ∧
  (∀ (s : State) (l : Nat) (c : W64), l < 516 → s.laneSt l = lnTraining → continuous l = true →
    exec (.laneTrainingDone l c) s = kept s (((s.setReg (lneA l 0x18) c).setReg (lneA l 0x20) c).laneUp l)) ∧
  (∀ (s : State) (l : Nat), SMap.wf regReset s.regs = true → l < 384 → (s.laneUp l).laneSt l = lnUp) ∧
  (∀ (s : State) (l : Nat) (c : W64), s.laneSt l ≠ lnTraining → exec (.laneTrainingDone l c) s = .next s) ∧
  (∀ (s : State) (l v h : Nat), continuous l = true → s.laneSt l = lnWaking → (s.lane l).fromExit = true →
    let t := s.recordMargin l v h
    (t.vThr l ≤ v → t.hThr l ≤ h → exec (.marginMeasurement l v h) s = kept s (t.laneUp l)) ∧
    (v < t.vThr l ∨ h < t.hThr l → exec (.marginMeasurement l v h) s = kept s ((((((t.setLaneSt l lnTraining).modLane l (fun x => { x with fromExit := false })).setBit
      (lneA l 4) 3 false).laneCnt l 0)).raise evLaneRetrain l))) ∧
  (∀ (s : State) (l v h : Nat) (w : W64) (t : State), continuous l = true → s.laneSt l = lnUp → s.draw = (w, t) →
    exec (.marginMeasurement l v h) s = kept s (((((t.setReg (lneA l 0x18) w).saveCoef l).recordMargin l v h)).judgeMargin l v h)) ∧
  (∀ (s : State) (l v h : Nat), s.bit (lneA l 4) 5 = false → v < s.vThr l ∨ h < s.hThr l → s.marginCount l ≤ (s.lane l).low + 1 →
    ∃ g, s.judgeMargin l v h = (((s.modLane l (fun x => { x with low := x.low + 1, good := g })).setBit (lneA l 4) 5 true).laneCnt l 1).raiseOnce evLaneMargin l l) ∧
  (∀ (s : State) (l v h : Nat), s.bit (lneA l 4) 5 = false → s.vThr l ≤ v → s.hThr l ≤ h →
    ∃ g, s.judgeMargin l v h = s.modLane l (fun x => { x with low := 0, good := g })) ∧
  (∀ (s : State) (l v h : Nat), continuous l = false ∨ s.laneSt l = lnTraining ∨ s.laneSt l = lnIdle ∨ s.laneSt l = lnLost → exec (.marginMeasurement l v h) s = .next s) ∧
  (∀ (s : State) (l : Nat), l = 514 ∨ l = 515 → s.laneSt l = lnUp → s.bit (lneA l 4) 4 = true →
    exec (.laneDown l) s = kept s (((s.setBit (lneA l 4) 4 false).add32 (lneA l (0x30 + 4 * 3)) 4).raiseOnce evLaneDown l l)) ∧
  (∀ (s : State) (l : Nat), l < 512 → s.laneSt l = lnUp →
    exec (.laneDown l) s = kept s (((((s.laneTo l lnTraining).modLane l (fun x => { x with low := 0, good := 0 })).laneCnt l 2).raiseOnce evLaneDown l l).laneChanged l)) ∧
  (∀ (s : State) (l : Nat), s.laneSt l ≠ lnUp → exec (.laneDown l) s = .next s) ∧
  (∀ (s : State) (l : Nat), l < 384 → s.laneSt l ≠ lnLost →
    let t := ((s.endTest l).laneTo l lnLost).modLane l (fun x => { x with low := 0, good := 0, fromExit := false })
    exec (.laneLost l) s = kept s ((t.raise evLaneLost l).outOfService l)) ∧
  (∀ (s : State), s.laneSt 514 ≠ lnLost →
    ∃ t, exec (.laneLost 514) s = .next t ∧ t.mgmt.pair.arbOk = false ∧ t.mgmt.pair.role = s.mgmt.pair.role) ∧
  (∀ (s : State) (l : Nat), 516 ≤ l ∨ s.laneSt l = lnLost → exec (.laneLost l) s = .next s) ∧
  (∀ (s : State) (l : Nat), l = 514 ∨ l = 515 → s.laneSt l = lnUp → exec (.commaAligned l) s = kept s (s.setBit (lneA l 4) 4 true)) ∧
  (∀ (s : State) (l : Nat), l < 514 ∨ s.laneSt l ≠ lnUp → exec (.commaAligned l) s = .next s) ∧
  (∀ (s : State) (l : Nat), l = 512 ∨ l = 513 → s.laneSt l = lnUp → s.mgmt.pair.st ≠ .unpaired →
    ∃ t, exec (.syncLaneRestore l) s = .next t ∧ t.mgmt.pair.lanes = (s.mgmt.pair.lanes ||| syncBit l) ∧ t.mgmt.pair.downAt = none) ∧
  (∀ (s : State) (l : Nat), l < 512 ∨ s.laneSt l ≠ lnUp → exec (.syncLaneRestore l) s = .next s)

/-- Ports are configured, come up and go down, and lanes are tested, as R498 to R505 say. Formalises R498, R499, R500,
R501, R502, R503, R504, R505 (derived). -/
def Obligations.UplinkPortsAndLaneTests : Prop :=
  (∀ (c : Desc) (s : State), Starts infoConfigPort c s → let z := s.jrnStart c
    ∀ u w, u = c.n0 % 128 → w = 2 ^ (c.n0 / 256 % 4) → (z.portsAt u w).any (fun k => (z.uport k).road != .disabled) = true →
    exec (.configPort c) s = kept s ((z : State).complete c.acc { status := stState })) ∧
  (∀ (c : Desc) (s : State), Starts infoConfigPort c s → let z := s.jrnStart c
    ∀ u w, u = c.n0 % 128 → w = 2 ^ (c.n0 / 256 % 4) → z.portsAt u w = [] → c.n0 / 2 ^ 15 = 1 →
    exec (.configPort c) s = kept s ((z : State).complete c.acc { status := stOk })) ∧
  (∀ (c : Desc) (s : State), Starts infoConfigPort c s → let z := s.jrnStart c
    ∀ u w, u = c.n0 % 128 → w = 2 ^ (c.n0 / 256 % 4) → z.portsAt u w = [] → c.n0 / 2 ^ 15 ≠ 1 →
    exec (.configPort c) s = kept s (((portLanes u w).foldl (fun s l => s.setBit (lneA l 0x8) 6 (c.n0 / 4096 % 2 == 1)) (z.setUport u { z.uport u with cfg := some (w, c.n0 / 4096 % 2, if c.n1 = 0 then 9728 else c.n1) }) : State).complete c.acc { status := stOk })) ∧
  (∀ (c : Desc) (s : State), Starts infoConfigPort c s → let z := s.jrnStart c
    ∀ u w, u = c.n0 % 128 → w = 2 ^ (c.n0 / 256 % 4) → z.portsAt u w = [u] → (z.uport u).road = .disabled → c.n0 / 2 ^ 15 = 1 →
    exec (.configPort c) s = kept s ((z.removePort u : State).complete c.acc { status := stOk })) ∧
  (∀ (c : Desc) (s : State), Starts infoPortUp c s → let z := s.jrnStart c
    (z.uport c.n0).cfg = none →
    exec (.portUp c) s = kept s ((z : State).complete c.acc { status := stNotFound })) ∧
  (∀ (c : Desc) (s : State), Starts infoPortUp c s → let z := s.jrnStart c
    ∀ k, (z.uport c.n0).cfg = some k → (z.uport c.n0).road = .enabled →
    exec (.portUp c) s = kept s ((z : State).complete c.acc { status := stOk })) ∧
  (∀ (c : Desc) (s : State), Starts infoPortUp c s → let z := s.jrnStart c
    ∀ k, (z.uport c.n0).cfg = some k → (z.uport c.n0).road = .disabled →
    exec (.portUp c) s = kept s (((portLanes c.n0 k.1).foldl (fun s l => s.endTest l) (z.setUport c.n0 { z.uport c.n0 with road := .enabled }) : State).complete c.acc { status := stOk })) ∧
  (∀ (c : Desc) (s : State), Starts infoPortUp c s → let z := s.jrnStart c
    ∀ k, (z.uport c.n0).cfg = some k → (z.uport c.n0).road = .draining →
    exec (.portUp c) s = kept s (z.setUport c.n0 { z.uport c.n0 with road := .resuming, upAcc := some c.acc })) ∧
  (∀ (c : Desc) (s : State), Starts infoPortDown c s → let z := s.jrnStart c
    (z.uport c.n0).cfg = none →
    exec (.portDown c) s = kept s ((z : State).complete c.acc { status := stNotFound })) ∧
  (∀ (c : Desc) (s : State), Starts infoPortDown c s → let z := s.jrnStart c
    ∀ k, (z.uport c.n0).cfg = some k → (z.uport c.n0).road = .disabled →
    exec (.portDown c) s = kept s ((z : State).complete c.acc { status := stOk })) ∧
  (∀ (c : Desc) (s : State), Starts infoPortDown c s → let z := s.jrnStart c
    ∀ k, (z.uport c.n0).cfg = some k → (z.uport c.n0).road = .resuming →
    exec (.portDown c) s = kept s ((z : State).complete c.acc { status := stState })) ∧
  (∀ (c : Desc) (s : State), Starts infoPortDown c s → let z := s.jrnStart c
    ∀ k, (z.uport c.n0).cfg = some k → (z.uport c.n0).road = .enabled →
    exec (.portDown c) s = kept s (((z.setUport c.n0 { z.uport c.n0 with road := .draining, downAcc := some c.acc }).freeQueues true (fun i => i / 512 == c.n0)).rclkCheckAll)) ∧
  (∀ (s : State) (u : Nat), (s.uport u).road = .resuming →
    exec (.portDrainEnd u) s = kept s (((s.setUport u { s.uport u with road := .enabled, downAcc := none, upAcc := none }).completeOk (s.uport u).downAcc).completeOk (s.uport u).upAcc)) ∧
  (∀ (s : State) (u w f m : Nat), (s.uport u).road = .draining → (s.uport u).cfg = some (w, f, m) →
    let t := (portLanes u w).foldl (fun s l => s.settleLane l) (s.setUport u { s.uport u with road := .disabled, downAcc := none, upAcc := none })
    exec (.portDrainEnd u) s = kept s ((t.portLinkEval u).completeOk (s.uport u).downAcc)) ∧
  (∀ (s : State) (u : Nat), (s.uport u).road = .enabled ∨ (s.uport u).road = .disabled → exec (.portDrainEnd u) s = .next s) ∧
  (∀ (s : State) (l : Nat), s.stage = 6 → l < 516 → exec (.testCtl l 0) s = kept s (((s.unlatch (lneA l 0x50)).endTest l).setReg (lneA l 0x50) 0)) ∧
  (∀ (s : State) (l : Nat) (w : W32), s.stage = 6 → l < 516 → w.toNat % 256 / 16 * 16 + w.toNat % 8 ≠ 0 → s.testable l = false ∨ s.laneSt l = lnLost →
    exec (.testCtl l w) s = kept s ((s.unlatch (lneA l 0x50)).setBit (lneA l 0x50) 8 true)) ∧
  (∀ (s : State) (l : Nat) (w : W32), s.stage = 6 → l < 516 → w.toNat % 256 / 16 * 16 + w.toNat % 8 ≠ 0 → s.testable l = true → s.laneSt l ≠ lnLost → testValue l w.toNat ≠ 0 →
    let t := ((s.unlatch (lneA l 0x50)).idleLane l).chkCount l
    exec (.testCtl l w) s = kept s (((t.setReg (lneA l 0x50) (BitVec.ofNat 64 (testValue l w.toNat))).setBit (lneA l 0x58) 16 false).laneTo l lnTest)) ∧
  (∀ (s : State) (l : Nat) (w : W32), s.stage ≠ 6 → exec (.testCtl l w) s = kept s (s.unlatch (lneA l 0x50)) ∧ exec (.injectW l w) s = kept s (s.unlatch (lneA l 0x54))) ∧
  (∀ (s : State) (l : Nat) (w : W32), s.stage = 6 → l < 516 → s.bit (lneA l 0x50) 6 = true →
    exec (.injectW l w) s = kept s ((s.unlatch (lneA l 0x54)).modLane l (fun x => { x with inject := w.toNat % 2 ^ 16, spacing := max 1 (w.toNat / 2 ^ 16 % 256) }))) ∧
  (∀ (s : State) (l : Nat) (w : W32), s.bit (lneA l 0x50) 6 = false → exec (.injectW l w) s = kept s (s.unlatch (lneA l 0x54))) ∧
  (∀ (s : State) (l : Nat), l < 516 → s.laneSt l = lnTest → s.bit (lneA l 0x50) 7 = true → exec (.checkerLock l) s = kept s (s.setBit (lneA l 0x58) 16 true)) ∧
  (∀ (s : State) (l : Nat), s.laneSt l ≠ lnTest ∨ s.bit (lneA l 0x50) 7 = false → exec (.checkerLock l) s = .next s) ∧
  (∀ (s : State) (l : Nat), l < 516 → s.bit (lneA l 0x58) 16 = true → exec (.checkerLockLoss l) s = kept s (((s.chkCount l).setBit (lneA l 0x58) 16 false).addHeld (lneA l 0x58) 15 0 1)) ∧
  (∀ (s : State) (l : Nat), s.bit (lneA l 0x58) 16 = false → exec (.checkerLockLoss l) s = .next s)

/-- Cold starts, warm resets, warnings and input switches act as R511 to R517, R526 and R527 say. Formalises R433, R513,
R515, R516, R517, R520, R526, R527 (derived). -/
def Obligations.SuppliesAndResets : Prop :=
  (∀ (s : State) (p : Straps), ∃ t : State, exec (.coldStart p) s = .next t ∧ t.clk.running = false ∧ t.deferred = [] ∧
    t.mgmt.sens.trip = false ∧ t.mgmt.pwr.warning = false ∧ t.mgmt.pwr.testModeN = p.testModeN ∧
    t.mgmt.pwr.flashOwn = p.flashOwnLow ∧ t.mgmt.pwr.resumeHold = p.resumeHold ∧ t.pending = s.pending) ∧
  (∀ (s : State) (h : Bool), s.stage ≠ 7 → s.mgmt.pwr.testModeN = true → s.mgmt.pwr.warning = false → s.mgmt.pwr.erase = false →
    s.time.servo ≠ .locked →
    ∃ t : State, exec (.warmReset 3 h) s = .next t ∧ t.clk.running = false ∧ t.deferred = [] ∧ t.data = {} ∧
      t.mgmt.sens.trip = false ∧ t.mgmt.pwr.resumeHold = h ∧ t.time.dev = s.time.dev ∧ t.time.servo = s.time.servo ∧
      t.mgmt.wps = s.mgmt.wps ∧ t.pending = s.pending) ∧
  (∀ (s : State) (k : Nat) (h : Bool), s.stage = 7 → exec (.warmReset k h) s = .next s) ∧
  (∀ (s : State) (h : Bool), s.mgmt.pwr.warning = true → exec (.warmReset 3 h) s = .next s) ∧
  (∀ (s : State) (k : Nat) (h : Bool), k ≠ 3 → s.mgmt.pwr.resetDue ≠ k → exec (.warmReset k h) s = .next s) ∧
  (∀ (s : State) (k : Nat) (h : Bool), k ≠ 3 → s.mgmt.sens.trip = true → exec (.warmReset k h) s = .next s) ∧
  (∀ s : State, SMap.wf regReset s.regs = true → s.mgmt.pwr.warning = false → s.stage ≠ 7 →
    ∃ t : State, exec .powerFailWarning s = .next t ∧ t.mgmt.pwr.warning = true ∧ t.mgmt.pwr.brown = false ∧ t.clk.running = false ∧
      t.deferred = [] ∧ t.mgmt.wps = s.mgmt.wps) ∧
  (∀ s : State, SMap.wf regReset s.regs = true → s.mgmt.pwr.warning = false → s.stage ≠ 7 →
    ∃ t : State, exec .brownout s = .next t ∧ t.mgmt.pwr.warning = true ∧ t.mgmt.pwr.brown = true ∧ t.clk.running = false ∧
      t.deferred = []) ∧
  (∀ s : State, s.mgmt.pwr.warning = true → exec .powerFailWarning s = .next s ∧ exec .brownout s = .next s) ∧
  (∀ s : State, s.mgmt.pwr.warning = true → s.mgmt.pwr.brown = false →
    exec .warningRelease s = kept s (s.modPwr (fun p => { p with resetDue := 5 }))) ∧
  (∀ s : State, s.mgmt.pwr.warning = false ∨ s.mgmt.pwr.brown = true → exec .warningRelease s = .next s) ∧
  (∀ (s : State) (b : Bool), s.mgmt.pwr.onBkp ≠ b →
    ∃ t : State, exec (.vaoSwitched b) s = kept s (t.raise evVaoSwitched (b2n b)) ∧ t.mgmt.pwr.onBkp = b ∧ t.mgmt.pwr.mainOk = !b ∧ t.clk = s.clk) ∧
  (∀ (s : State) (b : Bool), s.mgmt.pwr.onBkp = b → exec (.vaoSwitched b) s = .next s) ∧
  (∀ s : State, s.mgmt.pwr.onBkp = true →
    exec (.vaoSingle 0) s = kept s ((s.modPwr (fun p => { p with mainOk := false })).raise evVaoSingle 0) ∧ exec (.vaoSingle 1) s = .next s) ∧
  (∀ s : State, s.mgmt.pwr.onBkp = false →
    exec (.vaoSingle 1) s = kept s ((s.modPwr (fun p => { p with bkpOk := false })).raise evVaoSingle 1) ∧ exec (.vaoSingle 0) s = .next s) ∧
  (∀ s : State, ∃ t : State, exec .vaoLoss s = .next t ∧ t.clk.running = false ∧ t.deferred = [] ∧ t.mgmt.pwr.warning = false ∧
    t.mgmt.sens.trip = false ∧ t.mgmt.pwr.testModeN = s.mgmt.pwr.testModeN) ∧
  (∀ (s : State) (b : Bool), s.stage = 7 → exec (.flashOwnN b) s = kept s (s.modPwr (fun p => { p with flashOwn := b }))) ∧
  (∀ s : State, s.stage ≠ 7 → exec (.flashOwnN true) s = kept s (s.addHeld (pwrA 0xC) 31 16 1) ∧ exec (.flashOwnN false) s = .next s)

/-- Start-up passes through the stages of R521, and failures halt it or go on as R524 says. Formalises R64, R521, R524
(derived). -/
def Obligations.StartUpPassesThroughItsStages : Prop :=
  (∀ (s : State) (r : RomRes), s.mayBoot 0 = false → exec (.rom r) s = .next s) ∧
  (∀ (s : State) (r : RomRes), s.mayBoot 0 = true → r.romOk = true → r.otpCorr = none → r.otpUncorr = none → r.loader0 = true →
    s.mgmt.pwr.flashOwn = false → (s.health 9 0).st = .active →
    exec (.rom r) s = kept s ((s.modPwr (fun p => { p with bootFault := false })).setStage 1)) ∧
  (∀ (s : State) (r : RomRes) (n : Nat), s.mayBoot 0 = true → r.otpUncorr = some (n, true) → ∃ t : State, exec (.rom r) s = kept s (t.halt 1)) ∧
  (∀ (s : State) (r : RomRes), s.mayBoot 0 = true → r.otpUncorr = none → s.mgmt.pwr.flashOwn = true → ∃ t : State, exec (.rom r) s = kept s (t.halt 2)) ∧
  (∀ (s : State) (r : RomRes), s.mayBoot 0 = true → r.otpUncorr = none → r.loader0 = false → r.loader1 = false → ∃ t : State, exec (.rom r) s = kept s (t.halt 2)) ∧
  (∀ (s : State) (r : LoaderRes), s.mayBoot 1 = false → exec (.loader r) s = .next s) ∧
  (∀ (s : State) (r : LoaderRes), s.mayBoot 1 = true → s.mgmt.upd.st = .idle → r.image0 = true → r.image1 = true → r.cert = true →
    (s.health 9 0).st = .active →
    exec (.loader r) s = kept s ((s.modPwr (fun p => { p with certOk := true })).setStage 2)) ∧
  (∀ (s : State) (r : LoaderRes), s.mayBoot 1 = true → s.mgmt.upd.st = .idle → r.image0 = false → r.image1 = false →
    ∃ t : State, exec (.loader r) s = kept s (t.halt 3)) ∧
  (∀ (s : State) (r : PostRes), s.mayBoot 2 = false → exec (.postStage r) s = .next s) ∧
  (∀ (s : State) (r : PostRes), s.mayBoot 2 = true → 6 ∈ r.dies → ∃ t : State, exec (.postStage r) s = kept s (t.halt 4)) ∧
  (∀ (s : State) (r : PostRes), s.mayBoot 2 = true → 6 ∉ r.dies → r.mramBoth = true → ∃ t : State, exec (.postStage r) s = kept s (t.halt 5)) ∧
  (∀ (s : State) (r : PostRes), s.mayBoot 2 = true → 6 ∉ r.dies → r.mramBoth = false → r.mgmtAll = true →
    ∃ t : State, exec (.postStage r) s = kept s (t.halt 5) ∨ exec (.postStage r) s = kept s (t.halt 6)) ∧
  (∀ (s : State) (r : PostRes), s.mayBoot 2 = true →
    ∃ (t : State) (n : Nat), exec (.postStage r) s = kept s (t.halt n) ∨ exec (.postStage r) s = kept s (t.setStage 3)) ∧
  (∀ s : State, s.mayBoot 3 = false → exec .restore s = .next s) ∧
  (∀ s : State, s.mayBoot 3 = true → ∃ t : State, exec .restore s = kept s (t.setStage 4)) ∧
  (∀ s : State, s.mayBoot 4 = false ∨ s.mgmt.pwr.stageDone = true → exec .replay s = .next s) ∧
  (∀ s : State, s.mayBoot 4 = true → s.mgmt.pwr.stageDone = false →
    ∃ t : State, exec .replay s = .next t ∧ t.mgmt.pwr.stageDone = true ∧ t.pending = s.pending) ∧
  (∀ (s : State) (k : Nat), SMap.wf Sub.dflt s.pon.subs = true →
    (s.closeLedger.sub k).led.onRoad = 0 ∧ (s.closeLedger.sub k).led.discarded = (s.sub k).led.discarded + (s.sub k).led.onRoad) ∧
  (∀ s : State, s.mayBoot 4 = false ∨ s.mgmt.pwr.stageDone = false ∨ s.entriesDone = false → exec .links s = .next s) ∧
  (∀ s : State, s.mayBoot 4 = true → s.mgmt.pwr.stageDone = true → s.entriesDone = true →
    ∃ t : State, exec .links s = kept s (t.raise evRestarted (t.fld (pwrA 0x4) 3 0)))

/-- Commands leave the queue in their order, and a queue without register accesses is served to its end. Formalises
95_what_each_step_holds.md (derived). -/
def Obligations.EveryQueueIsServedInOrder : Prop :=
  (∀ (s t : State), step s = .next t → t.pending = s.pending.tail) ∧
  (∀ (s t : State), s.QueueWf → step s = .next t → t.QueueWf) ∧
  (∀ s : State, (∀ i ∈ s.pending, isAccess i = false) →
    ∃ t, Host.Core.run Sys2Proof.core s.pending.length s = .next t ∧ t.pending = [])

/-- Every step keeps the hub cycle below the next phase point of its interval, and so below 250,000. Formalises R38, R40
(derived). -/
def Obligations.ClockStaysBeforeItsNextPhasePoint : Prop :=
  ∀ (s t : State), s.clk.cycle < s.clk.phase.nextPoint → step s = .next t →
    t.clk.cycle < t.clk.phase.nextPoint ∧ t.clk.cycle < 250000

/-- An instruction of a grant program changes nothing outside the grant complex, its core's registers and the event queue.
Formalises R129, R157, R196, R198 (derived). -/
def Obligations.ProgramsTouchTheGrantComplexAlone : Prop :=
  (∀ (i : Instr) (st : Site) (s t : State), siteOf i = some st → exec i s = .next t →
    t.clk = s.clk ∧ t.time = s.time ∧ t.pon = s.pon ∧ t.doms = s.doms ∧ t.deferred = s.deferred ∧ t.data = s.data ∧
    t.buf = s.buf ∧ t.cph = s.cph ∧ t.host.rings = s.host.rings ∧ t.host.jrn = s.host.jrn ∧ t.mgmt.pair = s.mgmt.pair ∧
    t.mgmt.units = s.mgmt.units ∧ t.pending = s.pending) ∧
  (∀ (i : Instr) (st : Site) (s t : State), siteOf i = some st → SMap.wf regReset s.regs = true → exec i s = .next t →
    SMap.wf regReset t.regs = true ∧
    ∀ a, a < 0x1_0000 ∨ (0x2_0000 ≤ a ∧ a < gcrA st.core 0) ∨ gcrA st.core 0x1000 ≤ a → t.reg a = s.reg a)

/-- A command that completes leaves its execution record and, unless its ring discards, one completion entry. Formalises
R240, R264 (derived). -/
def Obligations.CompletionWritesRecordAndEntry : Prop :=
  (∀ (s : State) (n : Nat) (f : Fin) (j : Jrn), s.jrnFind n = some j → j.exec = none →
    (s.complete n f).jrnFind n ≠ none → (s.complete n f).executed n f.status) ∧
  (∀ (s : State) (n : Nat) (f : Fin) (j : Jrn), s.jrnFind n = some j → j.exec = none → f.status ≠ stInternal →
    s.bit (cmdA 0x0) 3 = false → (s.ring j.desc.ring).discard = false →
    (∀ k ∈ s.host.jrn, k.desc.ring = j.desc.ring → k.exec = none → knownOp k.desc.opcode = true ∨ k.desc.acc = n) → 
    ∃ x, (s.complete n f).host.cpls = s.host.cpls ++ [x] ∧ x.ring = j.desc.ring ∧ x.seq = j.desc.seq ∧ x.cookie = j.desc.cookie ∧
      x.status = f.status ∧ x.msc = f.msc.getD s.clk.msc ∧ (s.complete n f).regs = s.regs ∧ (s.complete n f).grant = s.grant ∧
      (s.complete n f).pon = s.pon) ∧
  (∀ (s : State) (n : Nat) (f : Fin) (j : Jrn) (e : ExecRec), s.jrnFind n = some j → j.exec = some e → (∀ k ∈ s.host.jrn, k.desc.ring = j.desc.ring → k.exec = none → knownOp k.desc.opcode = true ∨ k.desc.acc = n) → s.complete n f = s) ∧
  (∀ (s : State) (n : Nat) (f : Fin), s.jrnFind n = none → s.complete n f = s)

/-- A query changes nothing but its journal entry, its completion, its output buffer and the counters of a failed check.
Formalises R246, R258 (derived). -/
def Obligations.QueriesChangeNoObject : Prop :=
  ∀ (i : Instr) (s t : State), isPureQuery i = true → exec i s = .next t →
    t.clk = s.clk ∧ t.time = s.time ∧ t.pon = s.pon ∧ t.grant = s.grant ∧ t.doms = s.doms ∧ t.deferred = s.deferred ∧
    t.data = s.data ∧ t.buf = s.buf ∧ t.cph = s.cph ∧ t.mgmt.pair = s.mgmt.pair ∧ t.mgmt.units = s.mgmt.units ∧
    t.mgmt.wps = s.mgmt.wps ∧ t.mgmt.upd = s.mgmt.upd ∧ t.pending = s.pending
end

