-- ==== Sys2Proof/Laws/SMap.lean ====
section
/-! SUPPORT. Laws of the sparse maps: a read after a write, and that every write keeps the canonical form. -/

namespace Sys2Proof.Machine

variable {α : Type}

@[simp] theorem SMap.get_nil (d : α) (k : Nat) : SMap.get ([] : SMap α) d k = d := rfl

/-- What the rest of a map reads as at or below its lower bound: the default. -/
theorem SMap.get_below [DecidableEq α] {e : Nat → α} {m : SMap α} {b : Nat} (h : SMap.wfFrom e (some b) m = true)
    (d : α) {k : Nat} (hk : k ≤ b) : SMap.get m d k = d := by
  cases m with
  | nil => rfl
  | cons p r =>
    obtain ⟨j, v⟩ := p
    simp only [SMap.wfFrom, Bool.and_eq_true, decide_eq_true_eq] at h
    have hj : b < j := h.1.1
    simp only [SMap.get]
    rw [if_neg (by omega), if_pos (by omega)]

/-- A read after `put` at the same key. -/
theorem SMap.get_put_same (m : SMap α) (d : α) (k : Nat) (v : α) : (SMap.put m k v).get d k = v := by
  induction m with
  | nil => simp [SMap.put, SMap.get]
  | cons p r ih =>
    obtain ⟨j, w⟩ := p
    simp only [SMap.put]
    split
    · simp [SMap.get]
    · split
      · simp [SMap.get]
      · rename_i h1 h2
        simp only [SMap.get]
        rw [if_neg h1, if_neg h2, ih]

/-- A read after `put` at another key. -/
theorem SMap.get_put_other [DecidableEq α] {e : Nat → α} (m : SMap α) (b : Option Nat) (h : SMap.wfFrom e b m = true)
    (d : α) {j k : Nat} (v : α) (hjk : j ≠ k) : (SMap.put m k v).get d j = SMap.get m d j := by
  induction m generalizing b with
  | nil => simp only [SMap.put, SMap.get]; split <;> [omega; split <;> rfl]
  | cons p r ih =>
    obtain ⟨i, w⟩ := p
    have hr : SMap.wfFrom e (some i) r = true := by
      simp only [SMap.wfFrom, Bool.and_eq_true] at h; exact h.2
    simp only [SMap.put]
    split
    · rename_i h1
      subst h1
      simp only [SMap.get]
      rw [if_neg (Ne.symm hjk), if_neg (Ne.symm hjk)]
    · split
      · rename_i h1 h2
        simp only [SMap.get]
        rw [if_neg (Ne.symm hjk)]
        by_cases hlt : j < k
        · rw [if_pos hlt, if_neg (by omega), if_pos (by omega)]
        · rw [if_neg hlt]
      · simp only [SMap.get]
        split
        · rfl
        · split
          · rfl
          · exact ih (some i) hr

/-- A read after `del` at the same key. -/
theorem SMap.get_del_same [DecidableEq α] {e : Nat → α} (m : SMap α) (b : Option Nat) (h : SMap.wfFrom e b m = true)
    (d : α) (k : Nat) : (SMap.del m k).get d k = d := by
  induction m generalizing b with
  | nil => rfl
  | cons p r ih =>
    obtain ⟨i, w⟩ := p
    have hr : SMap.wfFrom e (some i) r = true := by
      simp only [SMap.wfFrom, Bool.and_eq_true] at h; exact h.2
    simp only [SMap.del]
    split
    · rename_i h1
      exact SMap.get_below hr d (by omega)
    · split
      · rename_i h1 h2
        simp only [SMap.get]
        rw [if_neg h1, if_pos h2]
      · rename_i h1 h2
        simp only [SMap.get]
        rw [if_neg h1, if_neg h2]
        exact ih (some i) hr

/-- A read after `del` at another key. -/
theorem SMap.get_del_other [DecidableEq α] {e : Nat → α} (m : SMap α) (b : Option Nat) (h : SMap.wfFrom e b m = true)
    (d : α) {j k : Nat} (hjk : j ≠ k) : (SMap.del m k).get d j = SMap.get m d j := by
  induction m generalizing b with
  | nil => rfl
  | cons p r ih =>
    obtain ⟨i, w⟩ := p
    have hr : SMap.wfFrom e (some i) r = true := by
      simp only [SMap.wfFrom, Bool.and_eq_true] at h; exact h.2
    simp only [SMap.del]
    split
    · rename_i h1
      simp only [SMap.get]
      rw [if_neg (by omega)]
      by_cases hlt : j < i
      · rw [if_pos hlt]; exact SMap.get_below hr d (by omega)
      · rw [if_neg hlt]
    · split
      · rfl
      · simp only [SMap.get]
        split
        · rfl
        · split
          · rfl
          · exact ih (some i) hr

/-- Read after write: the value written, and every other key as before. -/
theorem SMap.get_set [DecidableEq α] {e : Nat → α} {m : SMap α} (h : SMap.wf e m = true) (d : α) (j k : Nat) (v : α) :
    (SMap.set m d k v).get d j = if j = k then v else SMap.get m d j := by
  unfold SMap.set
  split
  · rename_i hv
    split
    · rename_i hjk; subst hjk; rw [hv]; exact SMap.get_del_same m none h d j
    · rename_i hjk; exact SMap.get_del_other m none h d hjk
  · split
    · rename_i hjk; subst hjk; exact SMap.get_put_same m d j v
    · rename_i hjk; exact SMap.get_put_other m none h d v hjk

/-- Every other key reads as before, whatever each key's default is. -/
theorem SMap.get_set_other [DecidableEq α] {e : Nat → α} {m : SMap α} (h : SMap.wf e m = true) (d d' : α) {j k : Nat} (v : α)
    (hjk : j ≠ k) : (SMap.set m d k v).get d' j = SMap.get m d' j := by
  unfold SMap.set
  split
  · exact SMap.get_del_other m none h d' hjk
  · exact SMap.get_put_other m none h d' v hjk

/-- The bound of a canonical form may be lowered. -/
theorem SMap.wfFrom_mono [DecidableEq α] {e : Nat → α} {m : SMap α} {a b : Nat} (hab : a ≤ b)
    (h : SMap.wfFrom e (some b) m = true) : SMap.wfFrom e (some a) m = true := by
  cases m with
  | nil => rfl
  | cons p r =>
    obtain ⟨j, v⟩ := p
    simp only [SMap.wfFrom, Bool.and_eq_true, decide_eq_true_eq] at h ⊢
    exact ⟨⟨by omega, h.1.2⟩, h.2⟩

/-- Dropping the bound. -/
theorem SMap.wfFrom_none [DecidableEq α] {e : Nat → α} {m : SMap α} {b : Option Nat}
    (h : SMap.wfFrom e b m = true) : SMap.wfFrom e none m = true := by
  cases m with
  | nil => rfl
  | cons p r =>
    obtain ⟨j, v⟩ := p
    simp only [SMap.wfFrom, Bool.and_eq_true, decide_eq_true_eq] at h ⊢
    exact ⟨⟨trivial, h.1.2⟩, h.2⟩

/-- A bound below the key written holds of the map written. -/
theorem SMap.wfFrom_put [DecidableEq α] {e : Nat → α} (m : SMap α) (b : Option Nat) (h : SMap.wfFrom e b m = true)
    {k : Nat} {v : α} (hv : v ≠ e k) (hb : ∀ a, b = some a → a < k) : SMap.wfFrom e b (SMap.put m k v) = true := by
  induction m generalizing b with
  | nil =>
    cases b with
    | none => simp [SMap.put, SMap.wfFrom, hv]
    | some a => simp [SMap.put, SMap.wfFrom, hv, hb a rfl]
  | cons p r ih =>
    obtain ⟨i, w⟩ := p
    have hr : SMap.wfFrom e (some i) r = true := by
      simp only [SMap.wfFrom, Bool.and_eq_true] at h; exact h.2
    have hw : w ≠ e i := by
      simp only [SMap.wfFrom, Bool.and_eq_true, decide_eq_true_eq] at h; exact h.1.2
    simp only [SMap.put]
    split
    · rename_i hik
      subst hik
      cases b with
      | none => simp [SMap.wfFrom, hv, hr]
      | some a => simp [SMap.wfFrom, hv, hr, hb a rfl]
    · split
      · rename_i h1 h2
        have hrest : SMap.wfFrom e (some k) ((i, w) :: r) = true := by
          simp [SMap.wfFrom, h2, hw, hr]
        cases b with
        | none => simp only [SMap.wfFrom]; simp [hv, h2, hw, hr]
        | some a => simp only [SMap.wfFrom]; simp [hv, hb a rfl, h2, hw, hr]
      · rename_i h1 h2
        have hi : SMap.wfFrom e (some i) (SMap.put r k v) = true := ih (some i) hr (fun a ha => by
          cases ha; omega)
        cases b with
        | none => simp [SMap.wfFrom, hw, hi]
        | some a =>
          have : a < i := by
            simp only [SMap.wfFrom, Bool.and_eq_true, decide_eq_true_eq] at h; exact h.1.1
          simp [SMap.wfFrom, hw, hi, this]

/-- `del` keeps the canonical form. -/
theorem SMap.wfFrom_del [DecidableEq α] {e : Nat → α} (m : SMap α) (b : Option Nat) (h : SMap.wfFrom e b m = true)
    (k : Nat) : SMap.wfFrom e b (SMap.del m k) = true := by
  induction m generalizing b with
  | nil => exact h
  | cons p r ih =>
    obtain ⟨i, w⟩ := p
    have hr : SMap.wfFrom e (some i) r = true := by
      simp only [SMap.wfFrom, Bool.and_eq_true] at h; exact h.2
    have hw : w ≠ e i := by
      simp only [SMap.wfFrom, Bool.and_eq_true, decide_eq_true_eq] at h; exact h.1.2
    simp only [SMap.del]
    split
    · cases b with
      | none => exact SMap.wfFrom_none hr
      | some a =>
        have : a < i := by
          simp only [SMap.wfFrom, Bool.and_eq_true, decide_eq_true_eq] at h; exact h.1.1
        exact SMap.wfFrom_mono (by omega) hr
    · split
      · exact h
      · have hi := ih (some i) hr
        cases b with
        | none => simp [SMap.wfFrom, hw, hi]
        | some a =>
          have : a < i := by
            simp only [SMap.wfFrom, Bool.and_eq_true, decide_eq_true_eq] at h; exact h.1.1
          simp [SMap.wfFrom, hw, hi, this]

/-- Every write keeps the canonical form. -/
theorem SMap.wf_set [DecidableEq α] {e : Nat → α} {m : SMap α} (h : SMap.wf e m = true) (k : Nat) (v : α) :
    SMap.wf e (SMap.set m (e k) k v) = true := by
  unfold SMap.set
  split
  · exact SMap.wfFrom_del m none h k
  · rename_i hv
    exact SMap.wfFrom_put m none h hv (fun a ha => by cases ha)

/-- Keeping some of the entries keeps the canonical form. -/
theorem SMap.wfFrom_keep [DecidableEq α] {e : Nat → α} (m : SMap α) (b : Option Nat) (h : SMap.wfFrom e b m = true)
    (p : Nat → Bool) : SMap.wfFrom e b (SMap.keep m p) = true := by
  induction m generalizing b with
  | nil => rfl
  | cons q r ih =>
    obtain ⟨i, w⟩ := q
    simp only [SMap.wfFrom, Bool.and_eq_true, decide_eq_true_eq] at h
    obtain ⟨⟨h1, h2⟩, h3⟩ := h
    have h4 := ih (some i) h3
    unfold SMap.keep at *
    rw [List.filter_cons]
    split
    · simp only [SMap.wfFrom, Bool.and_eq_true, decide_eq_true_eq]; exact ⟨⟨h1, h2⟩, h4⟩
    · cases b with
      | none => exact SMap.wfFrom_none h4
      | some a =>
        simp only [decide_eq_true_eq] at h1
        exact SMap.wfFrom_mono (by omega) h4

/-- Keeping some of the entries keeps the canonical form. -/
theorem SMap.wf_keep [DecidableEq α] {e : Nat → α} {m : SMap α} (h : SMap.wf e m = true) (p : Nat → Bool) :
    SMap.wf e (SMap.keep m p) = true := SMap.wfFrom_keep m none h p

/-- Replacing every entry, and dropping those that become the default, keeps the canonical form. -/
theorem SMap.wfFrom_mapAll [DecidableEq α] {e : Nat → α} (m : SMap α) (b : Option Nat) (h : SMap.wfFrom e b m = true)
    (f : Nat → α → α) : SMap.wfFrom e b (SMap.mapAll e m f) = true := by
  induction m generalizing b with
  | nil => rfl
  | cons q r ih =>
    obtain ⟨i, w⟩ := q
    simp only [SMap.wfFrom, Bool.and_eq_true, decide_eq_true_eq] at h
    obtain ⟨⟨h1, h2⟩, h3⟩ := h
    have h4 := ih (some i) h3
    unfold SMap.mapAll at *
    rw [List.map_cons, List.filter_cons]
    split
    · rename_i h5
      simp only [decide_eq_true_eq] at h5
      simp only [SMap.wfFrom, Bool.and_eq_true, decide_eq_true_eq]; exact ⟨⟨h1, h5⟩, h4⟩
    · cases b with
      | none => exact SMap.wfFrom_none h4
      | some a =>
        simp only [decide_eq_true_eq] at h1
        exact SMap.wfFrom_mono (by omega) h4

/-- Replacing every entry keeps the canonical form. -/
theorem SMap.wf_mapAll [DecidableEq α] {e : Nat → α} {m : SMap α} (h : SMap.wf e m = true) (f : Nat → α → α) :
    SMap.wf e (SMap.mapAll e m f) = true := SMap.wfFrom_mapAll m none h f

end Sys2Proof.Machine
end

