-- ==== Sys2Proof/Laws/State.lean ====
section
/-! SUPPORT. One lemma per field and update: what an update of one part of the state leaves as it was; and reads
after writes of the maps that hold the objects of the device. -/

namespace Sys2Proof.Machine

variable (s : State)

@[simp] theorem State.setReg_clk (a : Nat) (v : W64) : (s.setReg a v).clk = s.clk := rfl
@[simp] theorem State.setReg_latch (a : Nat) (v : W64) : (s.setReg a v).latch = s.latch := rfl
@[simp] theorem State.setReg_pendLow (a : Nat) (v : W64) : (s.setReg a v).pendLow = s.pendLow := rfl
@[simp] theorem State.setReg_host (a : Nat) (v : W64) : (s.setReg a v).host = s.host := rfl
@[simp] theorem State.setReg_doms (a : Nat) (v : W64) : (s.setReg a v).doms = s.doms := rfl
@[simp] theorem State.setReg_deferred (a : Nat) (v : W64) : (s.setReg a v).deferred = s.deferred := rfl
@[simp] theorem State.setReg_pon (a : Nat) (v : W64) : (s.setReg a v).pon = s.pon := rfl
@[simp] theorem State.setReg_grant (a : Nat) (v : W64) : (s.setReg a v).grant = s.grant := rfl
@[simp] theorem State.setReg_data (a : Nat) (v : W64) : (s.setReg a v).data = s.data := rfl
@[simp] theorem State.setReg_buf (a : Nat) (v : W64) : (s.setReg a v).buf = s.buf := rfl
@[simp] theorem State.setReg_cph (a : Nat) (v : W64) : (s.setReg a v).cph = s.cph := rfl
@[simp] theorem State.setReg_time (a : Nat) (v : W64) : (s.setReg a v).time = s.time := rfl
@[simp] theorem State.setReg_mgmt (a : Nat) (v : W64) : (s.setReg a v).mgmt = s.mgmt := rfl
@[simp] theorem State.setReg_out (a : Nat) (v : W64) : (s.setReg a v).out = s.out := rfl
@[simp] theorem State.setReg_freeCtr (a : Nat) (v : W64) : (s.setReg a v).freeCtr = s.freeCtr := rfl
@[simp] theorem State.setReg_pending (a : Nat) (v : W64) : (s.setReg a v).pending = s.pending := rfl

@[simp] theorem State.setFld_clk (a hi lo v : Nat) : (s.setFld a hi lo v).clk = s.clk := rfl
@[simp] theorem State.setFld_latch (a hi lo v : Nat) : (s.setFld a hi lo v).latch = s.latch := rfl
@[simp] theorem State.setFld_pendLow (a hi lo v : Nat) : (s.setFld a hi lo v).pendLow = s.pendLow := rfl
@[simp] theorem State.setFld_host (a hi lo v : Nat) : (s.setFld a hi lo v).host = s.host := rfl
@[simp] theorem State.setFld_doms (a hi lo v : Nat) : (s.setFld a hi lo v).doms = s.doms := rfl
@[simp] theorem State.setFld_deferred (a hi lo v : Nat) : (s.setFld a hi lo v).deferred = s.deferred := rfl
@[simp] theorem State.setFld_pon (a hi lo v : Nat) : (s.setFld a hi lo v).pon = s.pon := rfl
@[simp] theorem State.setFld_grant (a hi lo v : Nat) : (s.setFld a hi lo v).grant = s.grant := rfl
@[simp] theorem State.setFld_data (a hi lo v : Nat) : (s.setFld a hi lo v).data = s.data := rfl
@[simp] theorem State.setFld_buf (a hi lo v : Nat) : (s.setFld a hi lo v).buf = s.buf := rfl
@[simp] theorem State.setFld_cph (a hi lo v : Nat) : (s.setFld a hi lo v).cph = s.cph := rfl
@[simp] theorem State.setFld_time (a hi lo v : Nat) : (s.setFld a hi lo v).time = s.time := rfl
@[simp] theorem State.setFld_mgmt (a hi lo v : Nat) : (s.setFld a hi lo v).mgmt = s.mgmt := rfl
@[simp] theorem State.setFld_out (a hi lo v : Nat) : (s.setFld a hi lo v).out = s.out := rfl
@[simp] theorem State.setFld_freeCtr (a hi lo v : Nat) : (s.setFld a hi lo v).freeCtr = s.freeCtr := rfl
@[simp] theorem State.setFld_pending (a hi lo v : Nat) : (s.setFld a hi lo v).pending = s.pending := rfl

@[simp] theorem State.setBit_clk (a i : Nat) (b : Bool) : (s.setBit a i b).clk = s.clk := rfl
@[simp] theorem State.setBit_latch (a i : Nat) (b : Bool) : (s.setBit a i b).latch = s.latch := rfl
@[simp] theorem State.setBit_pendLow (a i : Nat) (b : Bool) : (s.setBit a i b).pendLow = s.pendLow := rfl
@[simp] theorem State.setBit_host (a i : Nat) (b : Bool) : (s.setBit a i b).host = s.host := rfl
@[simp] theorem State.setBit_doms (a i : Nat) (b : Bool) : (s.setBit a i b).doms = s.doms := rfl
@[simp] theorem State.setBit_deferred (a i : Nat) (b : Bool) : (s.setBit a i b).deferred = s.deferred := rfl
@[simp] theorem State.setBit_pon (a i : Nat) (b : Bool) : (s.setBit a i b).pon = s.pon := rfl
@[simp] theorem State.setBit_grant (a i : Nat) (b : Bool) : (s.setBit a i b).grant = s.grant := rfl
@[simp] theorem State.setBit_data (a i : Nat) (b : Bool) : (s.setBit a i b).data = s.data := rfl
@[simp] theorem State.setBit_buf (a i : Nat) (b : Bool) : (s.setBit a i b).buf = s.buf := rfl
@[simp] theorem State.setBit_cph (a i : Nat) (b : Bool) : (s.setBit a i b).cph = s.cph := rfl
@[simp] theorem State.setBit_time (a i : Nat) (b : Bool) : (s.setBit a i b).time = s.time := rfl
@[simp] theorem State.setBit_mgmt (a i : Nat) (b : Bool) : (s.setBit a i b).mgmt = s.mgmt := rfl
@[simp] theorem State.setBit_out (a i : Nat) (b : Bool) : (s.setBit a i b).out = s.out := rfl
@[simp] theorem State.setBit_freeCtr (a i : Nat) (b : Bool) : (s.setBit a i b).freeCtr = s.freeCtr := rfl
@[simp] theorem State.setBit_pending (a i : Nat) (b : Bool) : (s.setBit a i b).pending = s.pending := rfl

@[simp] theorem State.add32_clk (a n : Nat) : (s.add32 a n).clk = s.clk := rfl
@[simp] theorem State.add32_latch (a n : Nat) : (s.add32 a n).latch = s.latch := rfl
@[simp] theorem State.add32_pendLow (a n : Nat) : (s.add32 a n).pendLow = s.pendLow := rfl
@[simp] theorem State.add32_host (a n : Nat) : (s.add32 a n).host = s.host := rfl
@[simp] theorem State.add32_doms (a n : Nat) : (s.add32 a n).doms = s.doms := rfl
@[simp] theorem State.add32_deferred (a n : Nat) : (s.add32 a n).deferred = s.deferred := rfl
@[simp] theorem State.add32_pon (a n : Nat) : (s.add32 a n).pon = s.pon := rfl
@[simp] theorem State.add32_grant (a n : Nat) : (s.add32 a n).grant = s.grant := rfl
@[simp] theorem State.add32_data (a n : Nat) : (s.add32 a n).data = s.data := rfl
@[simp] theorem State.add32_buf (a n : Nat) : (s.add32 a n).buf = s.buf := rfl
@[simp] theorem State.add32_cph (a n : Nat) : (s.add32 a n).cph = s.cph := rfl
@[simp] theorem State.add32_time (a n : Nat) : (s.add32 a n).time = s.time := rfl
@[simp] theorem State.add32_mgmt (a n : Nat) : (s.add32 a n).mgmt = s.mgmt := rfl
@[simp] theorem State.add32_out (a n : Nat) : (s.add32 a n).out = s.out := rfl
@[simp] theorem State.add32_freeCtr (a n : Nat) : (s.add32 a n).freeCtr = s.freeCtr := rfl
@[simp] theorem State.add32_pending (a n : Nat) : (s.add32 a n).pending = s.pending := rfl

@[simp] theorem State.add64_clk (a n : Nat) : (s.add64 a n).clk = s.clk := rfl
@[simp] theorem State.add64_latch (a n : Nat) : (s.add64 a n).latch = s.latch := rfl
@[simp] theorem State.add64_pendLow (a n : Nat) : (s.add64 a n).pendLow = s.pendLow := rfl
@[simp] theorem State.add64_host (a n : Nat) : (s.add64 a n).host = s.host := rfl
@[simp] theorem State.add64_doms (a n : Nat) : (s.add64 a n).doms = s.doms := rfl
@[simp] theorem State.add64_deferred (a n : Nat) : (s.add64 a n).deferred = s.deferred := rfl
@[simp] theorem State.add64_pon (a n : Nat) : (s.add64 a n).pon = s.pon := rfl
@[simp] theorem State.add64_grant (a n : Nat) : (s.add64 a n).grant = s.grant := rfl
@[simp] theorem State.add64_data (a n : Nat) : (s.add64 a n).data = s.data := rfl
@[simp] theorem State.add64_buf (a n : Nat) : (s.add64 a n).buf = s.buf := rfl
@[simp] theorem State.add64_cph (a n : Nat) : (s.add64 a n).cph = s.cph := rfl
@[simp] theorem State.add64_time (a n : Nat) : (s.add64 a n).time = s.time := rfl
@[simp] theorem State.add64_mgmt (a n : Nat) : (s.add64 a n).mgmt = s.mgmt := rfl
@[simp] theorem State.add64_out (a n : Nat) : (s.add64 a n).out = s.out := rfl
@[simp] theorem State.add64_freeCtr (a n : Nat) : (s.add64 a n).freeCtr = s.freeCtr := rfl
@[simp] theorem State.add64_pending (a n : Nat) : (s.add64 a n).pending = s.pending := rfl

@[simp] theorem State.addHeld_clk (a hi lo n : Nat) : (s.addHeld a hi lo n).clk = s.clk := rfl
@[simp] theorem State.addHeld_latch (a hi lo n : Nat) : (s.addHeld a hi lo n).latch = s.latch := rfl
@[simp] theorem State.addHeld_pendLow (a hi lo n : Nat) : (s.addHeld a hi lo n).pendLow = s.pendLow := rfl
@[simp] theorem State.addHeld_host (a hi lo n : Nat) : (s.addHeld a hi lo n).host = s.host := rfl
@[simp] theorem State.addHeld_doms (a hi lo n : Nat) : (s.addHeld a hi lo n).doms = s.doms := rfl
@[simp] theorem State.addHeld_deferred (a hi lo n : Nat) : (s.addHeld a hi lo n).deferred = s.deferred := rfl
@[simp] theorem State.addHeld_pon (a hi lo n : Nat) : (s.addHeld a hi lo n).pon = s.pon := rfl
@[simp] theorem State.addHeld_grant (a hi lo n : Nat) : (s.addHeld a hi lo n).grant = s.grant := rfl
@[simp] theorem State.addHeld_data (a hi lo n : Nat) : (s.addHeld a hi lo n).data = s.data := rfl
@[simp] theorem State.addHeld_buf (a hi lo n : Nat) : (s.addHeld a hi lo n).buf = s.buf := rfl
@[simp] theorem State.addHeld_cph (a hi lo n : Nat) : (s.addHeld a hi lo n).cph = s.cph := rfl
@[simp] theorem State.addHeld_time (a hi lo n : Nat) : (s.addHeld a hi lo n).time = s.time := rfl
@[simp] theorem State.addHeld_mgmt (a hi lo n : Nat) : (s.addHeld a hi lo n).mgmt = s.mgmt := rfl
@[simp] theorem State.addHeld_out (a hi lo n : Nat) : (s.addHeld a hi lo n).out = s.out := rfl
@[simp] theorem State.addHeld_freeCtr (a hi lo n : Nat) : (s.addHeld a hi lo n).freeCtr = s.freeCtr := rfl
@[simp] theorem State.addHeld_pending (a hi lo n : Nat) : (s.addHeld a hi lo n).pending = s.pending := rfl

@[simp] theorem State.setStage_clk (n : Nat) : (s.setStage n).clk = s.clk := rfl
@[simp] theorem State.setStage_latch (n : Nat) : (s.setStage n).latch = s.latch := rfl
@[simp] theorem State.setStage_pendLow (n : Nat) : (s.setStage n).pendLow = s.pendLow := rfl
@[simp] theorem State.setStage_host (n : Nat) : (s.setStage n).host = s.host := rfl
@[simp] theorem State.setStage_doms (n : Nat) : (s.setStage n).doms = s.doms := rfl
@[simp] theorem State.setStage_deferred (n : Nat) : (s.setStage n).deferred = s.deferred := rfl
@[simp] theorem State.setStage_pon (n : Nat) : (s.setStage n).pon = s.pon := rfl
@[simp] theorem State.setStage_grant (n : Nat) : (s.setStage n).grant = s.grant := rfl
@[simp] theorem State.setStage_data (n : Nat) : (s.setStage n).data = s.data := rfl
@[simp] theorem State.setStage_buf (n : Nat) : (s.setStage n).buf = s.buf := rfl
@[simp] theorem State.setStage_cph (n : Nat) : (s.setStage n).cph = s.cph := rfl
@[simp] theorem State.setStage_time (n : Nat) : (s.setStage n).time = s.time := rfl
@[simp] theorem State.setStage_mgmt (n : Nat) : (s.setStage n).mgmt = s.mgmt := rfl
@[simp] theorem State.setStage_out (n : Nat) : (s.setStage n).out = s.out := rfl
@[simp] theorem State.setStage_freeCtr (n : Nat) : (s.setStage n).freeCtr = s.freeCtr := rfl
@[simp] theorem State.setStage_pending (n : Nat) : (s.setStage n).pending = s.pending := rfl

@[simp] theorem State.setLaneSt_clk (l x : Nat) : (s.setLaneSt l x).clk = s.clk := rfl
@[simp] theorem State.setLaneSt_latch (l x : Nat) : (s.setLaneSt l x).latch = s.latch := rfl
@[simp] theorem State.setLaneSt_pendLow (l x : Nat) : (s.setLaneSt l x).pendLow = s.pendLow := rfl
@[simp] theorem State.setLaneSt_host (l x : Nat) : (s.setLaneSt l x).host = s.host := rfl
@[simp] theorem State.setLaneSt_doms (l x : Nat) : (s.setLaneSt l x).doms = s.doms := rfl
@[simp] theorem State.setLaneSt_deferred (l x : Nat) : (s.setLaneSt l x).deferred = s.deferred := rfl
@[simp] theorem State.setLaneSt_pon (l x : Nat) : (s.setLaneSt l x).pon = s.pon := rfl
@[simp] theorem State.setLaneSt_grant (l x : Nat) : (s.setLaneSt l x).grant = s.grant := rfl
@[simp] theorem State.setLaneSt_data (l x : Nat) : (s.setLaneSt l x).data = s.data := rfl
@[simp] theorem State.setLaneSt_buf (l x : Nat) : (s.setLaneSt l x).buf = s.buf := rfl
@[simp] theorem State.setLaneSt_cph (l x : Nat) : (s.setLaneSt l x).cph = s.cph := rfl
@[simp] theorem State.setLaneSt_time (l x : Nat) : (s.setLaneSt l x).time = s.time := rfl
@[simp] theorem State.setLaneSt_mgmt (l x : Nat) : (s.setLaneSt l x).mgmt = s.mgmt := rfl
@[simp] theorem State.setLaneSt_out (l x : Nat) : (s.setLaneSt l x).out = s.out := rfl
@[simp] theorem State.setLaneSt_freeCtr (l x : Nat) : (s.setLaneSt l x).freeCtr = s.freeCtr := rfl
@[simp] theorem State.setLaneSt_pending (l x : Nat) : (s.setLaneSt l x).pending = s.pending := rfl

@[simp] theorem State.emit_clk (o : Out) : (s.emit o).clk = s.clk := rfl
@[simp] theorem State.emit_regs (o : Out) : (s.emit o).regs = s.regs := rfl
@[simp] theorem State.emit_latch (o : Out) : (s.emit o).latch = s.latch := rfl
@[simp] theorem State.emit_pendLow (o : Out) : (s.emit o).pendLow = s.pendLow := rfl
@[simp] theorem State.emit_host (o : Out) : (s.emit o).host = s.host := rfl
@[simp] theorem State.emit_doms (o : Out) : (s.emit o).doms = s.doms := rfl
@[simp] theorem State.emit_deferred (o : Out) : (s.emit o).deferred = s.deferred := rfl
@[simp] theorem State.emit_pon (o : Out) : (s.emit o).pon = s.pon := rfl
@[simp] theorem State.emit_grant (o : Out) : (s.emit o).grant = s.grant := rfl
@[simp] theorem State.emit_data (o : Out) : (s.emit o).data = s.data := rfl
@[simp] theorem State.emit_buf (o : Out) : (s.emit o).buf = s.buf := rfl
@[simp] theorem State.emit_cph (o : Out) : (s.emit o).cph = s.cph := rfl
@[simp] theorem State.emit_time (o : Out) : (s.emit o).time = s.time := rfl
@[simp] theorem State.emit_mgmt (o : Out) : (s.emit o).mgmt = s.mgmt := rfl
@[simp] theorem State.emit_freeCtr (o : Out) : (s.emit o).freeCtr = s.freeCtr := rfl
@[simp] theorem State.emit_pending (o : Out) : (s.emit o).pending = s.pending := rfl

@[simp] theorem State.setVec_clk (fn v : Nat) (x : Vec) : (s.setVec fn v x).clk = s.clk := rfl
@[simp] theorem State.setVec_regs (fn v : Nat) (x : Vec) : (s.setVec fn v x).regs = s.regs := rfl
@[simp] theorem State.setVec_latch (fn v : Nat) (x : Vec) : (s.setVec fn v x).latch = s.latch := rfl
@[simp] theorem State.setVec_pendLow (fn v : Nat) (x : Vec) : (s.setVec fn v x).pendLow = s.pendLow := rfl
@[simp] theorem State.setVec_doms (fn v : Nat) (x : Vec) : (s.setVec fn v x).doms = s.doms := rfl
@[simp] theorem State.setVec_deferred (fn v : Nat) (x : Vec) : (s.setVec fn v x).deferred = s.deferred := rfl
@[simp] theorem State.setVec_pon (fn v : Nat) (x : Vec) : (s.setVec fn v x).pon = s.pon := rfl
@[simp] theorem State.setVec_grant (fn v : Nat) (x : Vec) : (s.setVec fn v x).grant = s.grant := rfl
@[simp] theorem State.setVec_data (fn v : Nat) (x : Vec) : (s.setVec fn v x).data = s.data := rfl
@[simp] theorem State.setVec_buf (fn v : Nat) (x : Vec) : (s.setVec fn v x).buf = s.buf := rfl
@[simp] theorem State.setVec_cph (fn v : Nat) (x : Vec) : (s.setVec fn v x).cph = s.cph := rfl
@[simp] theorem State.setVec_time (fn v : Nat) (x : Vec) : (s.setVec fn v x).time = s.time := rfl
@[simp] theorem State.setVec_mgmt (fn v : Nat) (x : Vec) : (s.setVec fn v x).mgmt = s.mgmt := rfl
@[simp] theorem State.setVec_out (fn v : Nat) (x : Vec) : (s.setVec fn v x).out = s.out := rfl
@[simp] theorem State.setVec_freeCtr (fn v : Nat) (x : Vec) : (s.setVec fn v x).freeCtr = s.freeCtr := rfl
@[simp] theorem State.setVec_pending (fn v : Nat) (x : Vec) : (s.setVec fn v x).pending = s.pending := rfl

@[simp] theorem State.setRing_clk (r : Nat) (x : Ring) : (s.setRing r x).clk = s.clk := rfl
@[simp] theorem State.setRing_regs (r : Nat) (x : Ring) : (s.setRing r x).regs = s.regs := rfl
@[simp] theorem State.setRing_latch (r : Nat) (x : Ring) : (s.setRing r x).latch = s.latch := rfl
@[simp] theorem State.setRing_pendLow (r : Nat) (x : Ring) : (s.setRing r x).pendLow = s.pendLow := rfl
@[simp] theorem State.setRing_doms (r : Nat) (x : Ring) : (s.setRing r x).doms = s.doms := rfl
@[simp] theorem State.setRing_deferred (r : Nat) (x : Ring) : (s.setRing r x).deferred = s.deferred := rfl
@[simp] theorem State.setRing_pon (r : Nat) (x : Ring) : (s.setRing r x).pon = s.pon := rfl
@[simp] theorem State.setRing_grant (r : Nat) (x : Ring) : (s.setRing r x).grant = s.grant := rfl
@[simp] theorem State.setRing_data (r : Nat) (x : Ring) : (s.setRing r x).data = s.data := rfl
@[simp] theorem State.setRing_buf (r : Nat) (x : Ring) : (s.setRing r x).buf = s.buf := rfl
@[simp] theorem State.setRing_cph (r : Nat) (x : Ring) : (s.setRing r x).cph = s.cph := rfl
@[simp] theorem State.setRing_time (r : Nat) (x : Ring) : (s.setRing r x).time = s.time := rfl
@[simp] theorem State.setRing_mgmt (r : Nat) (x : Ring) : (s.setRing r x).mgmt = s.mgmt := rfl
@[simp] theorem State.setRing_out (r : Nat) (x : Ring) : (s.setRing r x).out = s.out := rfl
@[simp] theorem State.setRing_freeCtr (r : Nat) (x : Ring) : (s.setRing r x).freeCtr = s.freeCtr := rfl
@[simp] theorem State.setRing_pending (r : Nat) (x : Ring) : (s.setRing r x).pending = s.pending := rfl

@[simp] theorem State.jrnMod_clk (acc : Nat) (f : Jrn → Jrn) : (s.jrnMod acc f).clk = s.clk := rfl
@[simp] theorem State.jrnMod_regs (acc : Nat) (f : Jrn → Jrn) : (s.jrnMod acc f).regs = s.regs := rfl
@[simp] theorem State.jrnMod_latch (acc : Nat) (f : Jrn → Jrn) : (s.jrnMod acc f).latch = s.latch := rfl
@[simp] theorem State.jrnMod_pendLow (acc : Nat) (f : Jrn → Jrn) : (s.jrnMod acc f).pendLow = s.pendLow := rfl
@[simp] theorem State.jrnMod_doms (acc : Nat) (f : Jrn → Jrn) : (s.jrnMod acc f).doms = s.doms := rfl
@[simp] theorem State.jrnMod_deferred (acc : Nat) (f : Jrn → Jrn) : (s.jrnMod acc f).deferred = s.deferred := rfl
@[simp] theorem State.jrnMod_pon (acc : Nat) (f : Jrn → Jrn) : (s.jrnMod acc f).pon = s.pon := rfl
@[simp] theorem State.jrnMod_grant (acc : Nat) (f : Jrn → Jrn) : (s.jrnMod acc f).grant = s.grant := rfl
@[simp] theorem State.jrnMod_data (acc : Nat) (f : Jrn → Jrn) : (s.jrnMod acc f).data = s.data := rfl
@[simp] theorem State.jrnMod_buf (acc : Nat) (f : Jrn → Jrn) : (s.jrnMod acc f).buf = s.buf := rfl
@[simp] theorem State.jrnMod_cph (acc : Nat) (f : Jrn → Jrn) : (s.jrnMod acc f).cph = s.cph := rfl
@[simp] theorem State.jrnMod_time (acc : Nat) (f : Jrn → Jrn) : (s.jrnMod acc f).time = s.time := rfl
@[simp] theorem State.jrnMod_mgmt (acc : Nat) (f : Jrn → Jrn) : (s.jrnMod acc f).mgmt = s.mgmt := rfl
@[simp] theorem State.jrnMod_out (acc : Nat) (f : Jrn → Jrn) : (s.jrnMod acc f).out = s.out := rfl
@[simp] theorem State.jrnMod_freeCtr (acc : Nat) (f : Jrn → Jrn) : (s.jrnMod acc f).freeCtr = s.freeCtr := rfl
@[simp] theorem State.jrnMod_pending (acc : Nat) (f : Jrn → Jrn) : (s.jrnMod acc f).pending = s.pending := rfl

@[simp] theorem State.setSub_clk (sc : Nat) (x : Sub) : (s.setSub sc x).clk = s.clk := rfl
@[simp] theorem State.setSub_regs (sc : Nat) (x : Sub) : (s.setSub sc x).regs = s.regs := rfl
@[simp] theorem State.setSub_latch (sc : Nat) (x : Sub) : (s.setSub sc x).latch = s.latch := rfl
@[simp] theorem State.setSub_pendLow (sc : Nat) (x : Sub) : (s.setSub sc x).pendLow = s.pendLow := rfl
@[simp] theorem State.setSub_host (sc : Nat) (x : Sub) : (s.setSub sc x).host = s.host := rfl
@[simp] theorem State.setSub_doms (sc : Nat) (x : Sub) : (s.setSub sc x).doms = s.doms := rfl
@[simp] theorem State.setSub_deferred (sc : Nat) (x : Sub) : (s.setSub sc x).deferred = s.deferred := rfl
@[simp] theorem State.setSub_grant (sc : Nat) (x : Sub) : (s.setSub sc x).grant = s.grant := rfl
@[simp] theorem State.setSub_data (sc : Nat) (x : Sub) : (s.setSub sc x).data = s.data := rfl
@[simp] theorem State.setSub_buf (sc : Nat) (x : Sub) : (s.setSub sc x).buf = s.buf := rfl
@[simp] theorem State.setSub_cph (sc : Nat) (x : Sub) : (s.setSub sc x).cph = s.cph := rfl
@[simp] theorem State.setSub_time (sc : Nat) (x : Sub) : (s.setSub sc x).time = s.time := rfl
@[simp] theorem State.setSub_mgmt (sc : Nat) (x : Sub) : (s.setSub sc x).mgmt = s.mgmt := rfl
@[simp] theorem State.setSub_out (sc : Nat) (x : Sub) : (s.setSub sc x).out = s.out := rfl
@[simp] theorem State.setSub_freeCtr (sc : Nat) (x : Sub) : (s.setSub sc x).freeCtr = s.freeCtr := rfl
@[simp] theorem State.setSub_pending (sc : Nat) (x : Sub) : (s.setSub sc x).pending = s.pending := rfl

@[simp] theorem State.modSub_clk (sc : Nat) (f : Sub → Sub) : (s.modSub sc f).clk = s.clk := rfl
@[simp] theorem State.modSub_regs (sc : Nat) (f : Sub → Sub) : (s.modSub sc f).regs = s.regs := rfl
@[simp] theorem State.modSub_latch (sc : Nat) (f : Sub → Sub) : (s.modSub sc f).latch = s.latch := rfl
@[simp] theorem State.modSub_pendLow (sc : Nat) (f : Sub → Sub) : (s.modSub sc f).pendLow = s.pendLow := rfl
@[simp] theorem State.modSub_host (sc : Nat) (f : Sub → Sub) : (s.modSub sc f).host = s.host := rfl
@[simp] theorem State.modSub_doms (sc : Nat) (f : Sub → Sub) : (s.modSub sc f).doms = s.doms := rfl
@[simp] theorem State.modSub_deferred (sc : Nat) (f : Sub → Sub) : (s.modSub sc f).deferred = s.deferred := rfl
@[simp] theorem State.modSub_grant (sc : Nat) (f : Sub → Sub) : (s.modSub sc f).grant = s.grant := rfl
@[simp] theorem State.modSub_data (sc : Nat) (f : Sub → Sub) : (s.modSub sc f).data = s.data := rfl
@[simp] theorem State.modSub_buf (sc : Nat) (f : Sub → Sub) : (s.modSub sc f).buf = s.buf := rfl
@[simp] theorem State.modSub_cph (sc : Nat) (f : Sub → Sub) : (s.modSub sc f).cph = s.cph := rfl
@[simp] theorem State.modSub_time (sc : Nat) (f : Sub → Sub) : (s.modSub sc f).time = s.time := rfl
@[simp] theorem State.modSub_mgmt (sc : Nat) (f : Sub → Sub) : (s.modSub sc f).mgmt = s.mgmt := rfl
@[simp] theorem State.modSub_out (sc : Nat) (f : Sub → Sub) : (s.modSub sc f).out = s.out := rfl
@[simp] theorem State.modSub_freeCtr (sc : Nat) (f : Sub → Sub) : (s.modSub sc f).freeCtr = s.freeCtr := rfl
@[simp] theorem State.modSub_pending (sc : Nat) (f : Sub → Sub) : (s.modSub sc f).pending = s.pending := rfl

@[simp] theorem State.setTerm_clk (sc t : Nat) (x : Term) : (s.setTerm sc t x).clk = s.clk := rfl
@[simp] theorem State.setTerm_regs (sc t : Nat) (x : Term) : (s.setTerm sc t x).regs = s.regs := rfl
@[simp] theorem State.setTerm_latch (sc t : Nat) (x : Term) : (s.setTerm sc t x).latch = s.latch := rfl
@[simp] theorem State.setTerm_pendLow (sc t : Nat) (x : Term) : (s.setTerm sc t x).pendLow = s.pendLow := rfl
@[simp] theorem State.setTerm_host (sc t : Nat) (x : Term) : (s.setTerm sc t x).host = s.host := rfl
@[simp] theorem State.setTerm_doms (sc t : Nat) (x : Term) : (s.setTerm sc t x).doms = s.doms := rfl
@[simp] theorem State.setTerm_deferred (sc t : Nat) (x : Term) : (s.setTerm sc t x).deferred = s.deferred := rfl
@[simp] theorem State.setTerm_grant (sc t : Nat) (x : Term) : (s.setTerm sc t x).grant = s.grant := rfl
@[simp] theorem State.setTerm_data (sc t : Nat) (x : Term) : (s.setTerm sc t x).data = s.data := rfl
@[simp] theorem State.setTerm_buf (sc t : Nat) (x : Term) : (s.setTerm sc t x).buf = s.buf := rfl
@[simp] theorem State.setTerm_cph (sc t : Nat) (x : Term) : (s.setTerm sc t x).cph = s.cph := rfl
@[simp] theorem State.setTerm_time (sc t : Nat) (x : Term) : (s.setTerm sc t x).time = s.time := rfl
@[simp] theorem State.setTerm_mgmt (sc t : Nat) (x : Term) : (s.setTerm sc t x).mgmt = s.mgmt := rfl
@[simp] theorem State.setTerm_out (sc t : Nat) (x : Term) : (s.setTerm sc t x).out = s.out := rfl
@[simp] theorem State.setTerm_freeCtr (sc t : Nat) (x : Term) : (s.setTerm sc t x).freeCtr = s.freeCtr := rfl
@[simp] theorem State.setTerm_pending (sc t : Nat) (x : Term) : (s.setTerm sc t x).pending = s.pending := rfl

@[simp] theorem State.modTerm_clk (sc t : Nat) (f : Term → Term) : (s.modTerm sc t f).clk = s.clk := rfl
@[simp] theorem State.modTerm_regs (sc t : Nat) (f : Term → Term) : (s.modTerm sc t f).regs = s.regs := rfl
@[simp] theorem State.modTerm_latch (sc t : Nat) (f : Term → Term) : (s.modTerm sc t f).latch = s.latch := rfl
@[simp] theorem State.modTerm_pendLow (sc t : Nat) (f : Term → Term) : (s.modTerm sc t f).pendLow = s.pendLow := rfl
@[simp] theorem State.modTerm_host (sc t : Nat) (f : Term → Term) : (s.modTerm sc t f).host = s.host := rfl
@[simp] theorem State.modTerm_doms (sc t : Nat) (f : Term → Term) : (s.modTerm sc t f).doms = s.doms := rfl
@[simp] theorem State.modTerm_deferred (sc t : Nat) (f : Term → Term) : (s.modTerm sc t f).deferred = s.deferred := rfl
@[simp] theorem State.modTerm_grant (sc t : Nat) (f : Term → Term) : (s.modTerm sc t f).grant = s.grant := rfl
@[simp] theorem State.modTerm_data (sc t : Nat) (f : Term → Term) : (s.modTerm sc t f).data = s.data := rfl
@[simp] theorem State.modTerm_buf (sc t : Nat) (f : Term → Term) : (s.modTerm sc t f).buf = s.buf := rfl
@[simp] theorem State.modTerm_cph (sc t : Nat) (f : Term → Term) : (s.modTerm sc t f).cph = s.cph := rfl
@[simp] theorem State.modTerm_time (sc t : Nat) (f : Term → Term) : (s.modTerm sc t f).time = s.time := rfl
@[simp] theorem State.modTerm_mgmt (sc t : Nat) (f : Term → Term) : (s.modTerm sc t f).mgmt = s.mgmt := rfl
@[simp] theorem State.modTerm_out (sc t : Nat) (f : Term → Term) : (s.modTerm sc t f).out = s.out := rfl
@[simp] theorem State.modTerm_freeCtr (sc t : Nat) (f : Term → Term) : (s.modTerm sc t f).freeCtr = s.freeCtr := rfl
@[simp] theorem State.modTerm_pending (sc t : Nat) (f : Term → Term) : (s.modTerm sc t f).pending = s.pending := rfl

@[simp] theorem State.setCore_clk (g : Nat) (x : Core) : (s.setCore g x).clk = s.clk := rfl
@[simp] theorem State.setCore_regs (g : Nat) (x : Core) : (s.setCore g x).regs = s.regs := rfl
@[simp] theorem State.setCore_latch (g : Nat) (x : Core) : (s.setCore g x).latch = s.latch := rfl
@[simp] theorem State.setCore_pendLow (g : Nat) (x : Core) : (s.setCore g x).pendLow = s.pendLow := rfl
@[simp] theorem State.setCore_host (g : Nat) (x : Core) : (s.setCore g x).host = s.host := rfl
@[simp] theorem State.setCore_doms (g : Nat) (x : Core) : (s.setCore g x).doms = s.doms := rfl
@[simp] theorem State.setCore_deferred (g : Nat) (x : Core) : (s.setCore g x).deferred = s.deferred := rfl
@[simp] theorem State.setCore_pon (g : Nat) (x : Core) : (s.setCore g x).pon = s.pon := rfl
@[simp] theorem State.setCore_data (g : Nat) (x : Core) : (s.setCore g x).data = s.data := rfl
@[simp] theorem State.setCore_buf (g : Nat) (x : Core) : (s.setCore g x).buf = s.buf := rfl
@[simp] theorem State.setCore_cph (g : Nat) (x : Core) : (s.setCore g x).cph = s.cph := rfl
@[simp] theorem State.setCore_time (g : Nat) (x : Core) : (s.setCore g x).time = s.time := rfl
@[simp] theorem State.setCore_mgmt (g : Nat) (x : Core) : (s.setCore g x).mgmt = s.mgmt := rfl
@[simp] theorem State.setCore_out (g : Nat) (x : Core) : (s.setCore g x).out = s.out := rfl
@[simp] theorem State.setCore_freeCtr (g : Nat) (x : Core) : (s.setCore g x).freeCtr = s.freeCtr := rfl
@[simp] theorem State.setCore_pending (g : Nat) (x : Core) : (s.setCore g x).pending = s.pending := rfl

@[simp] theorem State.modCore_clk (g : Nat) (f : Core → Core) : (s.modCore g f).clk = s.clk := rfl
@[simp] theorem State.modCore_regs (g : Nat) (f : Core → Core) : (s.modCore g f).regs = s.regs := rfl
@[simp] theorem State.modCore_latch (g : Nat) (f : Core → Core) : (s.modCore g f).latch = s.latch := rfl
@[simp] theorem State.modCore_pendLow (g : Nat) (f : Core → Core) : (s.modCore g f).pendLow = s.pendLow := rfl
@[simp] theorem State.modCore_host (g : Nat) (f : Core → Core) : (s.modCore g f).host = s.host := rfl
@[simp] theorem State.modCore_doms (g : Nat) (f : Core → Core) : (s.modCore g f).doms = s.doms := rfl
@[simp] theorem State.modCore_deferred (g : Nat) (f : Core → Core) : (s.modCore g f).deferred = s.deferred := rfl
@[simp] theorem State.modCore_pon (g : Nat) (f : Core → Core) : (s.modCore g f).pon = s.pon := rfl
@[simp] theorem State.modCore_data (g : Nat) (f : Core → Core) : (s.modCore g f).data = s.data := rfl
@[simp] theorem State.modCore_buf (g : Nat) (f : Core → Core) : (s.modCore g f).buf = s.buf := rfl
@[simp] theorem State.modCore_cph (g : Nat) (f : Core → Core) : (s.modCore g f).cph = s.cph := rfl
@[simp] theorem State.modCore_time (g : Nat) (f : Core → Core) : (s.modCore g f).time = s.time := rfl
@[simp] theorem State.modCore_mgmt (g : Nat) (f : Core → Core) : (s.modCore g f).mgmt = s.mgmt := rfl
@[simp] theorem State.modCore_out (g : Nat) (f : Core → Core) : (s.modCore g f).out = s.out := rfl
@[simp] theorem State.modCore_freeCtr (g : Nat) (f : Core → Core) : (s.modCore g f).freeCtr = s.freeCtr := rfl
@[simp] theorem State.modCore_pending (g : Nat) (f : Core → Core) : (s.modCore g f).pending = s.pending := rfl

@[simp] theorem State.setGroup_clk (q : Nat) (x : Group) : (s.setGroup q x).clk = s.clk := rfl
@[simp] theorem State.setGroup_regs (q : Nat) (x : Group) : (s.setGroup q x).regs = s.regs := rfl
@[simp] theorem State.setGroup_latch (q : Nat) (x : Group) : (s.setGroup q x).latch = s.latch := rfl
@[simp] theorem State.setGroup_pendLow (q : Nat) (x : Group) : (s.setGroup q x).pendLow = s.pendLow := rfl
@[simp] theorem State.setGroup_host (q : Nat) (x : Group) : (s.setGroup q x).host = s.host := rfl
@[simp] theorem State.setGroup_doms (q : Nat) (x : Group) : (s.setGroup q x).doms = s.doms := rfl
@[simp] theorem State.setGroup_deferred (q : Nat) (x : Group) : (s.setGroup q x).deferred = s.deferred := rfl
@[simp] theorem State.setGroup_pon (q : Nat) (x : Group) : (s.setGroup q x).pon = s.pon := rfl
@[simp] theorem State.setGroup_data (q : Nat) (x : Group) : (s.setGroup q x).data = s.data := rfl
@[simp] theorem State.setGroup_buf (q : Nat) (x : Group) : (s.setGroup q x).buf = s.buf := rfl
@[simp] theorem State.setGroup_cph (q : Nat) (x : Group) : (s.setGroup q x).cph = s.cph := rfl
@[simp] theorem State.setGroup_time (q : Nat) (x : Group) : (s.setGroup q x).time = s.time := rfl
@[simp] theorem State.setGroup_mgmt (q : Nat) (x : Group) : (s.setGroup q x).mgmt = s.mgmt := rfl
@[simp] theorem State.setGroup_out (q : Nat) (x : Group) : (s.setGroup q x).out = s.out := rfl
@[simp] theorem State.setGroup_freeCtr (q : Nat) (x : Group) : (s.setGroup q x).freeCtr = s.freeCtr := rfl
@[simp] theorem State.setGroup_pending (q : Nat) (x : Group) : (s.setGroup q x).pending = s.pending := rfl

@[simp] theorem State.modGroup_clk (q : Nat) (f : Group → Group) : (s.modGroup q f).clk = s.clk := rfl
@[simp] theorem State.modGroup_regs (q : Nat) (f : Group → Group) : (s.modGroup q f).regs = s.regs := rfl
@[simp] theorem State.modGroup_latch (q : Nat) (f : Group → Group) : (s.modGroup q f).latch = s.latch := rfl
@[simp] theorem State.modGroup_pendLow (q : Nat) (f : Group → Group) : (s.modGroup q f).pendLow = s.pendLow := rfl
@[simp] theorem State.modGroup_host (q : Nat) (f : Group → Group) : (s.modGroup q f).host = s.host := rfl
@[simp] theorem State.modGroup_doms (q : Nat) (f : Group → Group) : (s.modGroup q f).doms = s.doms := rfl
@[simp] theorem State.modGroup_deferred (q : Nat) (f : Group → Group) : (s.modGroup q f).deferred = s.deferred := rfl
@[simp] theorem State.modGroup_pon (q : Nat) (f : Group → Group) : (s.modGroup q f).pon = s.pon := rfl
@[simp] theorem State.modGroup_data (q : Nat) (f : Group → Group) : (s.modGroup q f).data = s.data := rfl
@[simp] theorem State.modGroup_buf (q : Nat) (f : Group → Group) : (s.modGroup q f).buf = s.buf := rfl
@[simp] theorem State.modGroup_cph (q : Nat) (f : Group → Group) : (s.modGroup q f).cph = s.cph := rfl
@[simp] theorem State.modGroup_time (q : Nat) (f : Group → Group) : (s.modGroup q f).time = s.time := rfl
@[simp] theorem State.modGroup_mgmt (q : Nat) (f : Group → Group) : (s.modGroup q f).mgmt = s.mgmt := rfl
@[simp] theorem State.modGroup_out (q : Nat) (f : Group → Group) : (s.modGroup q f).out = s.out := rfl
@[simp] theorem State.modGroup_freeCtr (q : Nat) (f : Group → Group) : (s.modGroup q f).freeCtr = s.freeCtr := rfl
@[simp] theorem State.modGroup_pending (q : Nat) (f : Group → Group) : (s.modGroup q f).pending = s.pending := rfl

@[simp] theorem State.setUnit_clk (u : Nat) (x : AUnit) : (s.setUnit u x).clk = s.clk := rfl
@[simp] theorem State.setUnit_regs (u : Nat) (x : AUnit) : (s.setUnit u x).regs = s.regs := rfl
@[simp] theorem State.setUnit_latch (u : Nat) (x : AUnit) : (s.setUnit u x).latch = s.latch := rfl
@[simp] theorem State.setUnit_pendLow (u : Nat) (x : AUnit) : (s.setUnit u x).pendLow = s.pendLow := rfl
@[simp] theorem State.setUnit_host (u : Nat) (x : AUnit) : (s.setUnit u x).host = s.host := rfl
@[simp] theorem State.setUnit_doms (u : Nat) (x : AUnit) : (s.setUnit u x).doms = s.doms := rfl
@[simp] theorem State.setUnit_deferred (u : Nat) (x : AUnit) : (s.setUnit u x).deferred = s.deferred := rfl
@[simp] theorem State.setUnit_pon (u : Nat) (x : AUnit) : (s.setUnit u x).pon = s.pon := rfl
@[simp] theorem State.setUnit_data (u : Nat) (x : AUnit) : (s.setUnit u x).data = s.data := rfl
@[simp] theorem State.setUnit_buf (u : Nat) (x : AUnit) : (s.setUnit u x).buf = s.buf := rfl
@[simp] theorem State.setUnit_cph (u : Nat) (x : AUnit) : (s.setUnit u x).cph = s.cph := rfl
@[simp] theorem State.setUnit_time (u : Nat) (x : AUnit) : (s.setUnit u x).time = s.time := rfl
@[simp] theorem State.setUnit_mgmt (u : Nat) (x : AUnit) : (s.setUnit u x).mgmt = s.mgmt := rfl
@[simp] theorem State.setUnit_out (u : Nat) (x : AUnit) : (s.setUnit u x).out = s.out := rfl
@[simp] theorem State.setUnit_freeCtr (u : Nat) (x : AUnit) : (s.setUnit u x).freeCtr = s.freeCtr := rfl
@[simp] theorem State.setUnit_pending (u : Nat) (x : AUnit) : (s.setUnit u x).pending = s.pending := rfl

@[simp] theorem State.modUnit_clk (u : Nat) (f : AUnit → AUnit) : (s.modUnit u f).clk = s.clk := rfl
@[simp] theorem State.modUnit_regs (u : Nat) (f : AUnit → AUnit) : (s.modUnit u f).regs = s.regs := rfl
@[simp] theorem State.modUnit_latch (u : Nat) (f : AUnit → AUnit) : (s.modUnit u f).latch = s.latch := rfl
@[simp] theorem State.modUnit_pendLow (u : Nat) (f : AUnit → AUnit) : (s.modUnit u f).pendLow = s.pendLow := rfl
@[simp] theorem State.modUnit_host (u : Nat) (f : AUnit → AUnit) : (s.modUnit u f).host = s.host := rfl
@[simp] theorem State.modUnit_doms (u : Nat) (f : AUnit → AUnit) : (s.modUnit u f).doms = s.doms := rfl
@[simp] theorem State.modUnit_deferred (u : Nat) (f : AUnit → AUnit) : (s.modUnit u f).deferred = s.deferred := rfl
@[simp] theorem State.modUnit_pon (u : Nat) (f : AUnit → AUnit) : (s.modUnit u f).pon = s.pon := rfl
@[simp] theorem State.modUnit_data (u : Nat) (f : AUnit → AUnit) : (s.modUnit u f).data = s.data := rfl
@[simp] theorem State.modUnit_buf (u : Nat) (f : AUnit → AUnit) : (s.modUnit u f).buf = s.buf := rfl
@[simp] theorem State.modUnit_cph (u : Nat) (f : AUnit → AUnit) : (s.modUnit u f).cph = s.cph := rfl
@[simp] theorem State.modUnit_time (u : Nat) (f : AUnit → AUnit) : (s.modUnit u f).time = s.time := rfl
@[simp] theorem State.modUnit_mgmt (u : Nat) (f : AUnit → AUnit) : (s.modUnit u f).mgmt = s.mgmt := rfl
@[simp] theorem State.modUnit_out (u : Nat) (f : AUnit → AUnit) : (s.modUnit u f).out = s.out := rfl
@[simp] theorem State.modUnit_freeCtr (u : Nat) (f : AUnit → AUnit) : (s.modUnit u f).freeCtr = s.freeCtr := rfl
@[simp] theorem State.modUnit_pending (u : Nat) (f : AUnit → AUnit) : (s.modUnit u f).pending = s.pending := rfl

@[simp] theorem State.setCtx_clk (st : Site) (c : Ctx) : (s.setCtx st c).clk = s.clk := rfl
@[simp] theorem State.setCtx_regs (st : Site) (c : Ctx) : (s.setCtx st c).regs = s.regs := rfl
@[simp] theorem State.setCtx_latch (st : Site) (c : Ctx) : (s.setCtx st c).latch = s.latch := rfl
@[simp] theorem State.setCtx_pendLow (st : Site) (c : Ctx) : (s.setCtx st c).pendLow = s.pendLow := rfl
@[simp] theorem State.setCtx_host (st : Site) (c : Ctx) : (s.setCtx st c).host = s.host := rfl
@[simp] theorem State.setCtx_doms (st : Site) (c : Ctx) : (s.setCtx st c).doms = s.doms := rfl
@[simp] theorem State.setCtx_deferred (st : Site) (c : Ctx) : (s.setCtx st c).deferred = s.deferred := rfl
@[simp] theorem State.setCtx_pon (st : Site) (c : Ctx) : (s.setCtx st c).pon = s.pon := rfl
@[simp] theorem State.setCtx_data (st : Site) (c : Ctx) : (s.setCtx st c).data = s.data := rfl
@[simp] theorem State.setCtx_buf (st : Site) (c : Ctx) : (s.setCtx st c).buf = s.buf := rfl
@[simp] theorem State.setCtx_cph (st : Site) (c : Ctx) : (s.setCtx st c).cph = s.cph := rfl
@[simp] theorem State.setCtx_time (st : Site) (c : Ctx) : (s.setCtx st c).time = s.time := rfl
@[simp] theorem State.setCtx_mgmt (st : Site) (c : Ctx) : (s.setCtx st c).mgmt = s.mgmt := rfl
@[simp] theorem State.setCtx_out (st : Site) (c : Ctx) : (s.setCtx st c).out = s.out := rfl
@[simp] theorem State.setCtx_freeCtr (st : Site) (c : Ctx) : (s.setCtx st c).freeCtr = s.freeCtr := rfl
@[simp] theorem State.setCtx_pending (st : Site) (c : Ctx) : (s.setCtx st c).pending = s.pending := rfl

@[simp] theorem State.modData_clk (f : DataSt → DataSt) : (s.modData f).clk = s.clk := rfl
@[simp] theorem State.modData_regs (f : DataSt → DataSt) : (s.modData f).regs = s.regs := rfl
@[simp] theorem State.modData_latch (f : DataSt → DataSt) : (s.modData f).latch = s.latch := rfl
@[simp] theorem State.modData_pendLow (f : DataSt → DataSt) : (s.modData f).pendLow = s.pendLow := rfl
@[simp] theorem State.modData_host (f : DataSt → DataSt) : (s.modData f).host = s.host := rfl
@[simp] theorem State.modData_doms (f : DataSt → DataSt) : (s.modData f).doms = s.doms := rfl
@[simp] theorem State.modData_deferred (f : DataSt → DataSt) : (s.modData f).deferred = s.deferred := rfl
@[simp] theorem State.modData_pon (f : DataSt → DataSt) : (s.modData f).pon = s.pon := rfl
@[simp] theorem State.modData_grant (f : DataSt → DataSt) : (s.modData f).grant = s.grant := rfl
@[simp] theorem State.modData_buf (f : DataSt → DataSt) : (s.modData f).buf = s.buf := rfl
@[simp] theorem State.modData_cph (f : DataSt → DataSt) : (s.modData f).cph = s.cph := rfl
@[simp] theorem State.modData_time (f : DataSt → DataSt) : (s.modData f).time = s.time := rfl
@[simp] theorem State.modData_mgmt (f : DataSt → DataSt) : (s.modData f).mgmt = s.mgmt := rfl
@[simp] theorem State.modData_out (f : DataSt → DataSt) : (s.modData f).out = s.out := rfl
@[simp] theorem State.modData_freeCtr (f : DataSt → DataSt) : (s.modData f).freeCtr = s.freeCtr := rfl
@[simp] theorem State.modData_pending (f : DataSt → DataSt) : (s.modData f).pending = s.pending := rfl

@[simp] theorem State.setFlow_clk (f : Nat) (x : Flow) : (s.setFlow f x).clk = s.clk := rfl
@[simp] theorem State.setFlow_regs (f : Nat) (x : Flow) : (s.setFlow f x).regs = s.regs := rfl
@[simp] theorem State.setFlow_latch (f : Nat) (x : Flow) : (s.setFlow f x).latch = s.latch := rfl
@[simp] theorem State.setFlow_pendLow (f : Nat) (x : Flow) : (s.setFlow f x).pendLow = s.pendLow := rfl
@[simp] theorem State.setFlow_host (f : Nat) (x : Flow) : (s.setFlow f x).host = s.host := rfl
@[simp] theorem State.setFlow_doms (f : Nat) (x : Flow) : (s.setFlow f x).doms = s.doms := rfl
@[simp] theorem State.setFlow_deferred (f : Nat) (x : Flow) : (s.setFlow f x).deferred = s.deferred := rfl
@[simp] theorem State.setFlow_pon (f : Nat) (x : Flow) : (s.setFlow f x).pon = s.pon := rfl
@[simp] theorem State.setFlow_grant (f : Nat) (x : Flow) : (s.setFlow f x).grant = s.grant := rfl
@[simp] theorem State.setFlow_buf (f : Nat) (x : Flow) : (s.setFlow f x).buf = s.buf := rfl
@[simp] theorem State.setFlow_cph (f : Nat) (x : Flow) : (s.setFlow f x).cph = s.cph := rfl
@[simp] theorem State.setFlow_time (f : Nat) (x : Flow) : (s.setFlow f x).time = s.time := rfl
@[simp] theorem State.setFlow_mgmt (f : Nat) (x : Flow) : (s.setFlow f x).mgmt = s.mgmt := rfl
@[simp] theorem State.setFlow_out (f : Nat) (x : Flow) : (s.setFlow f x).out = s.out := rfl
@[simp] theorem State.setFlow_freeCtr (f : Nat) (x : Flow) : (s.setFlow f x).freeCtr = s.freeCtr := rfl
@[simp] theorem State.setFlow_pending (f : Nat) (x : Flow) : (s.setFlow f x).pending = s.pending := rfl

@[simp] theorem State.setPipe_clk (p : Nat) (x : Pipe) : (s.setPipe p x).clk = s.clk := rfl
@[simp] theorem State.setPipe_regs (p : Nat) (x : Pipe) : (s.setPipe p x).regs = s.regs := rfl
@[simp] theorem State.setPipe_latch (p : Nat) (x : Pipe) : (s.setPipe p x).latch = s.latch := rfl
@[simp] theorem State.setPipe_pendLow (p : Nat) (x : Pipe) : (s.setPipe p x).pendLow = s.pendLow := rfl
@[simp] theorem State.setPipe_host (p : Nat) (x : Pipe) : (s.setPipe p x).host = s.host := rfl
@[simp] theorem State.setPipe_doms (p : Nat) (x : Pipe) : (s.setPipe p x).doms = s.doms := rfl
@[simp] theorem State.setPipe_deferred (p : Nat) (x : Pipe) : (s.setPipe p x).deferred = s.deferred := rfl
@[simp] theorem State.setPipe_pon (p : Nat) (x : Pipe) : (s.setPipe p x).pon = s.pon := rfl
@[simp] theorem State.setPipe_grant (p : Nat) (x : Pipe) : (s.setPipe p x).grant = s.grant := rfl
@[simp] theorem State.setPipe_buf (p : Nat) (x : Pipe) : (s.setPipe p x).buf = s.buf := rfl
@[simp] theorem State.setPipe_cph (p : Nat) (x : Pipe) : (s.setPipe p x).cph = s.cph := rfl
@[simp] theorem State.setPipe_time (p : Nat) (x : Pipe) : (s.setPipe p x).time = s.time := rfl
@[simp] theorem State.setPipe_mgmt (p : Nat) (x : Pipe) : (s.setPipe p x).mgmt = s.mgmt := rfl
@[simp] theorem State.setPipe_out (p : Nat) (x : Pipe) : (s.setPipe p x).out = s.out := rfl
@[simp] theorem State.setPipe_freeCtr (p : Nat) (x : Pipe) : (s.setPipe p x).freeCtr = s.freeCtr := rfl
@[simp] theorem State.setPipe_pending (p : Nat) (x : Pipe) : (s.setPipe p x).pending = s.pending := rfl

@[simp] theorem State.setUport_clk (u : Nat) (x : UPort) : (s.setUport u x).clk = s.clk := rfl
@[simp] theorem State.setUport_regs (u : Nat) (x : UPort) : (s.setUport u x).regs = s.regs := rfl
@[simp] theorem State.setUport_latch (u : Nat) (x : UPort) : (s.setUport u x).latch = s.latch := rfl
@[simp] theorem State.setUport_pendLow (u : Nat) (x : UPort) : (s.setUport u x).pendLow = s.pendLow := rfl
@[simp] theorem State.setUport_host (u : Nat) (x : UPort) : (s.setUport u x).host = s.host := rfl
@[simp] theorem State.setUport_doms (u : Nat) (x : UPort) : (s.setUport u x).doms = s.doms := rfl
@[simp] theorem State.setUport_deferred (u : Nat) (x : UPort) : (s.setUport u x).deferred = s.deferred := rfl
@[simp] theorem State.setUport_pon (u : Nat) (x : UPort) : (s.setUport u x).pon = s.pon := rfl
@[simp] theorem State.setUport_grant (u : Nat) (x : UPort) : (s.setUport u x).grant = s.grant := rfl
@[simp] theorem State.setUport_data (u : Nat) (x : UPort) : (s.setUport u x).data = s.data := rfl
@[simp] theorem State.setUport_buf (u : Nat) (x : UPort) : (s.setUport u x).buf = s.buf := rfl
@[simp] theorem State.setUport_cph (u : Nat) (x : UPort) : (s.setUport u x).cph = s.cph := rfl
@[simp] theorem State.setUport_time (u : Nat) (x : UPort) : (s.setUport u x).time = s.time := rfl
@[simp] theorem State.setUport_out (u : Nat) (x : UPort) : (s.setUport u x).out = s.out := rfl
@[simp] theorem State.setUport_freeCtr (u : Nat) (x : UPort) : (s.setUport u x).freeCtr = s.freeCtr := rfl
@[simp] theorem State.setUport_pending (u : Nat) (x : UPort) : (s.setUport u x).pending = s.pending := rfl

@[simp] theorem State.modBuf_clk (f : BufSt → BufSt) : (s.modBuf f).clk = s.clk := rfl
@[simp] theorem State.modBuf_regs (f : BufSt → BufSt) : (s.modBuf f).regs = s.regs := rfl
@[simp] theorem State.modBuf_latch (f : BufSt → BufSt) : (s.modBuf f).latch = s.latch := rfl
@[simp] theorem State.modBuf_pendLow (f : BufSt → BufSt) : (s.modBuf f).pendLow = s.pendLow := rfl
@[simp] theorem State.modBuf_host (f : BufSt → BufSt) : (s.modBuf f).host = s.host := rfl
@[simp] theorem State.modBuf_doms (f : BufSt → BufSt) : (s.modBuf f).doms = s.doms := rfl
@[simp] theorem State.modBuf_deferred (f : BufSt → BufSt) : (s.modBuf f).deferred = s.deferred := rfl
@[simp] theorem State.modBuf_pon (f : BufSt → BufSt) : (s.modBuf f).pon = s.pon := rfl
@[simp] theorem State.modBuf_grant (f : BufSt → BufSt) : (s.modBuf f).grant = s.grant := rfl
@[simp] theorem State.modBuf_data (f : BufSt → BufSt) : (s.modBuf f).data = s.data := rfl
@[simp] theorem State.modBuf_cph (f : BufSt → BufSt) : (s.modBuf f).cph = s.cph := rfl
@[simp] theorem State.modBuf_time (f : BufSt → BufSt) : (s.modBuf f).time = s.time := rfl
@[simp] theorem State.modBuf_mgmt (f : BufSt → BufSt) : (s.modBuf f).mgmt = s.mgmt := rfl
@[simp] theorem State.modBuf_out (f : BufSt → BufSt) : (s.modBuf f).out = s.out := rfl
@[simp] theorem State.modBuf_freeCtr (f : BufSt → BufSt) : (s.modBuf f).freeCtr = s.freeCtr := rfl
@[simp] theorem State.modBuf_pending (f : BufSt → BufSt) : (s.modBuf f).pending = s.pending := rfl

@[simp] theorem State.modCph_clk (f : CphSt → CphSt) : (s.modCph f).clk = s.clk := rfl
@[simp] theorem State.modCph_regs (f : CphSt → CphSt) : (s.modCph f).regs = s.regs := rfl
@[simp] theorem State.modCph_latch (f : CphSt → CphSt) : (s.modCph f).latch = s.latch := rfl
@[simp] theorem State.modCph_pendLow (f : CphSt → CphSt) : (s.modCph f).pendLow = s.pendLow := rfl
@[simp] theorem State.modCph_host (f : CphSt → CphSt) : (s.modCph f).host = s.host := rfl
@[simp] theorem State.modCph_doms (f : CphSt → CphSt) : (s.modCph f).doms = s.doms := rfl
@[simp] theorem State.modCph_deferred (f : CphSt → CphSt) : (s.modCph f).deferred = s.deferred := rfl
@[simp] theorem State.modCph_pon (f : CphSt → CphSt) : (s.modCph f).pon = s.pon := rfl
@[simp] theorem State.modCph_grant (f : CphSt → CphSt) : (s.modCph f).grant = s.grant := rfl
@[simp] theorem State.modCph_data (f : CphSt → CphSt) : (s.modCph f).data = s.data := rfl
@[simp] theorem State.modCph_buf (f : CphSt → CphSt) : (s.modCph f).buf = s.buf := rfl
@[simp] theorem State.modCph_time (f : CphSt → CphSt) : (s.modCph f).time = s.time := rfl
@[simp] theorem State.modCph_mgmt (f : CphSt → CphSt) : (s.modCph f).mgmt = s.mgmt := rfl
@[simp] theorem State.modCph_out (f : CphSt → CphSt) : (s.modCph f).out = s.out := rfl
@[simp] theorem State.modCph_freeCtr (f : CphSt → CphSt) : (s.modCph f).freeCtr = s.freeCtr := rfl
@[simp] theorem State.modCph_pending (f : CphSt → CphSt) : (s.modCph f).pending = s.pending := rfl

@[simp] theorem State.setKeySlot_clk (k : Nat) (x : KeySlot) : (s.setKeySlot k x).clk = s.clk := rfl
@[simp] theorem State.setKeySlot_regs (k : Nat) (x : KeySlot) : (s.setKeySlot k x).regs = s.regs := rfl
@[simp] theorem State.setKeySlot_latch (k : Nat) (x : KeySlot) : (s.setKeySlot k x).latch = s.latch := rfl
@[simp] theorem State.setKeySlot_pendLow (k : Nat) (x : KeySlot) : (s.setKeySlot k x).pendLow = s.pendLow := rfl
@[simp] theorem State.setKeySlot_host (k : Nat) (x : KeySlot) : (s.setKeySlot k x).host = s.host := rfl
@[simp] theorem State.setKeySlot_doms (k : Nat) (x : KeySlot) : (s.setKeySlot k x).doms = s.doms := rfl
@[simp] theorem State.setKeySlot_deferred (k : Nat) (x : KeySlot) : (s.setKeySlot k x).deferred = s.deferred := rfl
@[simp] theorem State.setKeySlot_pon (k : Nat) (x : KeySlot) : (s.setKeySlot k x).pon = s.pon := rfl
@[simp] theorem State.setKeySlot_grant (k : Nat) (x : KeySlot) : (s.setKeySlot k x).grant = s.grant := rfl
@[simp] theorem State.setKeySlot_data (k : Nat) (x : KeySlot) : (s.setKeySlot k x).data = s.data := rfl
@[simp] theorem State.setKeySlot_buf (k : Nat) (x : KeySlot) : (s.setKeySlot k x).buf = s.buf := rfl
@[simp] theorem State.setKeySlot_time (k : Nat) (x : KeySlot) : (s.setKeySlot k x).time = s.time := rfl
@[simp] theorem State.setKeySlot_mgmt (k : Nat) (x : KeySlot) : (s.setKeySlot k x).mgmt = s.mgmt := rfl
@[simp] theorem State.setKeySlot_out (k : Nat) (x : KeySlot) : (s.setKeySlot k x).out = s.out := rfl
@[simp] theorem State.setKeySlot_freeCtr (k : Nat) (x : KeySlot) : (s.setKeySlot k x).freeCtr = s.freeCtr := rfl
@[simp] theorem State.setKeySlot_pending (k : Nat) (x : KeySlot) : (s.setKeySlot k x).pending = s.pending := rfl

@[simp] theorem State.setSa_clk (k : Nat) (x : Sa) : (s.setSa k x).clk = s.clk := rfl
@[simp] theorem State.setSa_regs (k : Nat) (x : Sa) : (s.setSa k x).regs = s.regs := rfl
@[simp] theorem State.setSa_latch (k : Nat) (x : Sa) : (s.setSa k x).latch = s.latch := rfl
@[simp] theorem State.setSa_pendLow (k : Nat) (x : Sa) : (s.setSa k x).pendLow = s.pendLow := rfl
@[simp] theorem State.setSa_host (k : Nat) (x : Sa) : (s.setSa k x).host = s.host := rfl
@[simp] theorem State.setSa_doms (k : Nat) (x : Sa) : (s.setSa k x).doms = s.doms := rfl
@[simp] theorem State.setSa_deferred (k : Nat) (x : Sa) : (s.setSa k x).deferred = s.deferred := rfl
@[simp] theorem State.setSa_pon (k : Nat) (x : Sa) : (s.setSa k x).pon = s.pon := rfl
@[simp] theorem State.setSa_grant (k : Nat) (x : Sa) : (s.setSa k x).grant = s.grant := rfl
@[simp] theorem State.setSa_data (k : Nat) (x : Sa) : (s.setSa k x).data = s.data := rfl
@[simp] theorem State.setSa_buf (k : Nat) (x : Sa) : (s.setSa k x).buf = s.buf := rfl
@[simp] theorem State.setSa_time (k : Nat) (x : Sa) : (s.setSa k x).time = s.time := rfl
@[simp] theorem State.setSa_mgmt (k : Nat) (x : Sa) : (s.setSa k x).mgmt = s.mgmt := rfl
@[simp] theorem State.setSa_out (k : Nat) (x : Sa) : (s.setSa k x).out = s.out := rfl
@[simp] theorem State.setSa_freeCtr (k : Nat) (x : Sa) : (s.setSa k x).freeCtr = s.freeCtr := rfl
@[simp] theorem State.setSa_pending (k : Nat) (x : Sa) : (s.setSa k x).pending = s.pending := rfl

@[simp] theorem State.setSecy_clk (u : Nat) (x : SecY) : (s.setSecy u x).clk = s.clk := rfl
@[simp] theorem State.setSecy_regs (u : Nat) (x : SecY) : (s.setSecy u x).regs = s.regs := rfl
@[simp] theorem State.setSecy_latch (u : Nat) (x : SecY) : (s.setSecy u x).latch = s.latch := rfl
@[simp] theorem State.setSecy_pendLow (u : Nat) (x : SecY) : (s.setSecy u x).pendLow = s.pendLow := rfl
@[simp] theorem State.setSecy_host (u : Nat) (x : SecY) : (s.setSecy u x).host = s.host := rfl
@[simp] theorem State.setSecy_doms (u : Nat) (x : SecY) : (s.setSecy u x).doms = s.doms := rfl
@[simp] theorem State.setSecy_deferred (u : Nat) (x : SecY) : (s.setSecy u x).deferred = s.deferred := rfl
@[simp] theorem State.setSecy_pon (u : Nat) (x : SecY) : (s.setSecy u x).pon = s.pon := rfl
@[simp] theorem State.setSecy_grant (u : Nat) (x : SecY) : (s.setSecy u x).grant = s.grant := rfl
@[simp] theorem State.setSecy_data (u : Nat) (x : SecY) : (s.setSecy u x).data = s.data := rfl
@[simp] theorem State.setSecy_buf (u : Nat) (x : SecY) : (s.setSecy u x).buf = s.buf := rfl
@[simp] theorem State.setSecy_time (u : Nat) (x : SecY) : (s.setSecy u x).time = s.time := rfl
@[simp] theorem State.setSecy_mgmt (u : Nat) (x : SecY) : (s.setSecy u x).mgmt = s.mgmt := rfl
@[simp] theorem State.setSecy_out (u : Nat) (x : SecY) : (s.setSecy u x).out = s.out := rfl
@[simp] theorem State.setSecy_freeCtr (u : Nat) (x : SecY) : (s.setSecy u x).freeCtr = s.freeCtr := rfl
@[simp] theorem State.setSecy_pending (u : Nat) (x : SecY) : (s.setSecy u x).pending = s.pending := rfl

@[simp] theorem State.modTime_clk (f : TimeSt → TimeSt) : (s.modTime f).clk = s.clk := rfl
@[simp] theorem State.modTime_regs (f : TimeSt → TimeSt) : (s.modTime f).regs = s.regs := rfl
@[simp] theorem State.modTime_latch (f : TimeSt → TimeSt) : (s.modTime f).latch = s.latch := rfl
@[simp] theorem State.modTime_pendLow (f : TimeSt → TimeSt) : (s.modTime f).pendLow = s.pendLow := rfl
@[simp] theorem State.modTime_host (f : TimeSt → TimeSt) : (s.modTime f).host = s.host := rfl
@[simp] theorem State.modTime_doms (f : TimeSt → TimeSt) : (s.modTime f).doms = s.doms := rfl
@[simp] theorem State.modTime_deferred (f : TimeSt → TimeSt) : (s.modTime f).deferred = s.deferred := rfl
@[simp] theorem State.modTime_pon (f : TimeSt → TimeSt) : (s.modTime f).pon = s.pon := rfl
@[simp] theorem State.modTime_grant (f : TimeSt → TimeSt) : (s.modTime f).grant = s.grant := rfl
@[simp] theorem State.modTime_data (f : TimeSt → TimeSt) : (s.modTime f).data = s.data := rfl
@[simp] theorem State.modTime_buf (f : TimeSt → TimeSt) : (s.modTime f).buf = s.buf := rfl
@[simp] theorem State.modTime_cph (f : TimeSt → TimeSt) : (s.modTime f).cph = s.cph := rfl
@[simp] theorem State.modTime_mgmt (f : TimeSt → TimeSt) : (s.modTime f).mgmt = s.mgmt := rfl
@[simp] theorem State.modTime_out (f : TimeSt → TimeSt) : (s.modTime f).out = s.out := rfl
@[simp] theorem State.modTime_freeCtr (f : TimeSt → TimeSt) : (s.modTime f).freeCtr = s.freeCtr := rfl
@[simp] theorem State.modTime_pending (f : TimeSt → TimeSt) : (s.modTime f).pending = s.pending := rfl

@[simp] theorem State.setHealth_clk (cls u : Nat) (x : Health) : (s.setHealth cls u x).clk = s.clk := rfl
@[simp] theorem State.setHealth_regs (cls u : Nat) (x : Health) : (s.setHealth cls u x).regs = s.regs := rfl
@[simp] theorem State.setHealth_latch (cls u : Nat) (x : Health) : (s.setHealth cls u x).latch = s.latch := rfl
@[simp] theorem State.setHealth_pendLow (cls u : Nat) (x : Health) : (s.setHealth cls u x).pendLow = s.pendLow := rfl
@[simp] theorem State.setHealth_host (cls u : Nat) (x : Health) : (s.setHealth cls u x).host = s.host := rfl
@[simp] theorem State.setHealth_doms (cls u : Nat) (x : Health) : (s.setHealth cls u x).doms = s.doms := rfl
@[simp] theorem State.setHealth_deferred (cls u : Nat) (x : Health) : (s.setHealth cls u x).deferred = s.deferred := rfl
@[simp] theorem State.setHealth_pon (cls u : Nat) (x : Health) : (s.setHealth cls u x).pon = s.pon := rfl
@[simp] theorem State.setHealth_grant (cls u : Nat) (x : Health) : (s.setHealth cls u x).grant = s.grant := rfl
@[simp] theorem State.setHealth_data (cls u : Nat) (x : Health) : (s.setHealth cls u x).data = s.data := rfl
@[simp] theorem State.setHealth_buf (cls u : Nat) (x : Health) : (s.setHealth cls u x).buf = s.buf := rfl
@[simp] theorem State.setHealth_cph (cls u : Nat) (x : Health) : (s.setHealth cls u x).cph = s.cph := rfl
@[simp] theorem State.setHealth_time (cls u : Nat) (x : Health) : (s.setHealth cls u x).time = s.time := rfl
@[simp] theorem State.setHealth_out (cls u : Nat) (x : Health) : (s.setHealth cls u x).out = s.out := rfl
@[simp] theorem State.setHealth_freeCtr (cls u : Nat) (x : Health) : (s.setHealth cls u x).freeCtr = s.freeCtr := rfl
@[simp] theorem State.setHealth_pending (cls u : Nat) (x : Health) : (s.setHealth cls u x).pending = s.pending := rfl

@[simp] theorem State.modPair_clk (f : Pair → Pair) : (s.modPair f).clk = s.clk := rfl
@[simp] theorem State.modPair_regs (f : Pair → Pair) : (s.modPair f).regs = s.regs := rfl
@[simp] theorem State.modPair_latch (f : Pair → Pair) : (s.modPair f).latch = s.latch := rfl
@[simp] theorem State.modPair_pendLow (f : Pair → Pair) : (s.modPair f).pendLow = s.pendLow := rfl
@[simp] theorem State.modPair_host (f : Pair → Pair) : (s.modPair f).host = s.host := rfl
@[simp] theorem State.modPair_doms (f : Pair → Pair) : (s.modPair f).doms = s.doms := rfl
@[simp] theorem State.modPair_deferred (f : Pair → Pair) : (s.modPair f).deferred = s.deferred := rfl
@[simp] theorem State.modPair_pon (f : Pair → Pair) : (s.modPair f).pon = s.pon := rfl
@[simp] theorem State.modPair_grant (f : Pair → Pair) : (s.modPair f).grant = s.grant := rfl
@[simp] theorem State.modPair_data (f : Pair → Pair) : (s.modPair f).data = s.data := rfl
@[simp] theorem State.modPair_buf (f : Pair → Pair) : (s.modPair f).buf = s.buf := rfl
@[simp] theorem State.modPair_cph (f : Pair → Pair) : (s.modPair f).cph = s.cph := rfl
@[simp] theorem State.modPair_time (f : Pair → Pair) : (s.modPair f).time = s.time := rfl
@[simp] theorem State.modPair_out (f : Pair → Pair) : (s.modPair f).out = s.out := rfl
@[simp] theorem State.modPair_freeCtr (f : Pair → Pair) : (s.modPair f).freeCtr = s.freeCtr := rfl
@[simp] theorem State.modPair_pending (f : Pair → Pair) : (s.modPair f).pending = s.pending := rfl

@[simp] theorem State.modPwr_clk (f : Pwr → Pwr) : (s.modPwr f).clk = s.clk := rfl
@[simp] theorem State.modPwr_regs (f : Pwr → Pwr) : (s.modPwr f).regs = s.regs := rfl
@[simp] theorem State.modPwr_latch (f : Pwr → Pwr) : (s.modPwr f).latch = s.latch := rfl
@[simp] theorem State.modPwr_pendLow (f : Pwr → Pwr) : (s.modPwr f).pendLow = s.pendLow := rfl
@[simp] theorem State.modPwr_host (f : Pwr → Pwr) : (s.modPwr f).host = s.host := rfl
@[simp] theorem State.modPwr_doms (f : Pwr → Pwr) : (s.modPwr f).doms = s.doms := rfl
@[simp] theorem State.modPwr_deferred (f : Pwr → Pwr) : (s.modPwr f).deferred = s.deferred := rfl
@[simp] theorem State.modPwr_pon (f : Pwr → Pwr) : (s.modPwr f).pon = s.pon := rfl
@[simp] theorem State.modPwr_grant (f : Pwr → Pwr) : (s.modPwr f).grant = s.grant := rfl
@[simp] theorem State.modPwr_data (f : Pwr → Pwr) : (s.modPwr f).data = s.data := rfl
@[simp] theorem State.modPwr_buf (f : Pwr → Pwr) : (s.modPwr f).buf = s.buf := rfl
@[simp] theorem State.modPwr_cph (f : Pwr → Pwr) : (s.modPwr f).cph = s.cph := rfl
@[simp] theorem State.modPwr_time (f : Pwr → Pwr) : (s.modPwr f).time = s.time := rfl
@[simp] theorem State.modPwr_out (f : Pwr → Pwr) : (s.modPwr f).out = s.out := rfl
@[simp] theorem State.modPwr_freeCtr (f : Pwr → Pwr) : (s.modPwr f).freeCtr = s.freeCtr := rfl
@[simp] theorem State.modPwr_pending (f : Pwr → Pwr) : (s.modPwr f).pending = s.pending := rfl

@[simp] theorem State.modUpd_clk (f : Upd → Upd) : (s.modUpd f).clk = s.clk := rfl
@[simp] theorem State.modUpd_regs (f : Upd → Upd) : (s.modUpd f).regs = s.regs := rfl
@[simp] theorem State.modUpd_latch (f : Upd → Upd) : (s.modUpd f).latch = s.latch := rfl
@[simp] theorem State.modUpd_pendLow (f : Upd → Upd) : (s.modUpd f).pendLow = s.pendLow := rfl
@[simp] theorem State.modUpd_host (f : Upd → Upd) : (s.modUpd f).host = s.host := rfl
@[simp] theorem State.modUpd_doms (f : Upd → Upd) : (s.modUpd f).doms = s.doms := rfl
@[simp] theorem State.modUpd_deferred (f : Upd → Upd) : (s.modUpd f).deferred = s.deferred := rfl
@[simp] theorem State.modUpd_pon (f : Upd → Upd) : (s.modUpd f).pon = s.pon := rfl
@[simp] theorem State.modUpd_grant (f : Upd → Upd) : (s.modUpd f).grant = s.grant := rfl
@[simp] theorem State.modUpd_data (f : Upd → Upd) : (s.modUpd f).data = s.data := rfl
@[simp] theorem State.modUpd_buf (f : Upd → Upd) : (s.modUpd f).buf = s.buf := rfl
@[simp] theorem State.modUpd_cph (f : Upd → Upd) : (s.modUpd f).cph = s.cph := rfl
@[simp] theorem State.modUpd_time (f : Upd → Upd) : (s.modUpd f).time = s.time := rfl
@[simp] theorem State.modUpd_out (f : Upd → Upd) : (s.modUpd f).out = s.out := rfl
@[simp] theorem State.modUpd_freeCtr (f : Upd → Upd) : (s.modUpd f).freeCtr = s.freeCtr := rfl
@[simp] theorem State.modUpd_pending (f : Upd → Upd) : (s.modUpd f).pending = s.pending := rfl

@[simp] theorem State.modRec_clk (f : RecSt → RecSt) : (s.modRec f).clk = s.clk := rfl
@[simp] theorem State.modRec_regs (f : RecSt → RecSt) : (s.modRec f).regs = s.regs := rfl
@[simp] theorem State.modRec_latch (f : RecSt → RecSt) : (s.modRec f).latch = s.latch := rfl
@[simp] theorem State.modRec_pendLow (f : RecSt → RecSt) : (s.modRec f).pendLow = s.pendLow := rfl
@[simp] theorem State.modRec_host (f : RecSt → RecSt) : (s.modRec f).host = s.host := rfl
@[simp] theorem State.modRec_doms (f : RecSt → RecSt) : (s.modRec f).doms = s.doms := rfl
@[simp] theorem State.modRec_deferred (f : RecSt → RecSt) : (s.modRec f).deferred = s.deferred := rfl
@[simp] theorem State.modRec_pon (f : RecSt → RecSt) : (s.modRec f).pon = s.pon := rfl
@[simp] theorem State.modRec_grant (f : RecSt → RecSt) : (s.modRec f).grant = s.grant := rfl
@[simp] theorem State.modRec_data (f : RecSt → RecSt) : (s.modRec f).data = s.data := rfl
@[simp] theorem State.modRec_buf (f : RecSt → RecSt) : (s.modRec f).buf = s.buf := rfl
@[simp] theorem State.modRec_cph (f : RecSt → RecSt) : (s.modRec f).cph = s.cph := rfl
@[simp] theorem State.modRec_time (f : RecSt → RecSt) : (s.modRec f).time = s.time := rfl
@[simp] theorem State.modRec_out (f : RecSt → RecSt) : (s.modRec f).out = s.out := rfl
@[simp] theorem State.modRec_freeCtr (f : RecSt → RecSt) : (s.modRec f).freeCtr = s.freeCtr := rfl
@[simp] theorem State.modRec_pending (f : RecSt → RecSt) : (s.modRec f).pending = s.pending := rfl

@[simp] theorem State.modSens_clk (f : Sens → Sens) : (s.modSens f).clk = s.clk := rfl
@[simp] theorem State.modSens_regs (f : Sens → Sens) : (s.modSens f).regs = s.regs := rfl
@[simp] theorem State.modSens_latch (f : Sens → Sens) : (s.modSens f).latch = s.latch := rfl
@[simp] theorem State.modSens_pendLow (f : Sens → Sens) : (s.modSens f).pendLow = s.pendLow := rfl
@[simp] theorem State.modSens_host (f : Sens → Sens) : (s.modSens f).host = s.host := rfl
@[simp] theorem State.modSens_doms (f : Sens → Sens) : (s.modSens f).doms = s.doms := rfl
@[simp] theorem State.modSens_deferred (f : Sens → Sens) : (s.modSens f).deferred = s.deferred := rfl
@[simp] theorem State.modSens_pon (f : Sens → Sens) : (s.modSens f).pon = s.pon := rfl
@[simp] theorem State.modSens_grant (f : Sens → Sens) : (s.modSens f).grant = s.grant := rfl
@[simp] theorem State.modSens_data (f : Sens → Sens) : (s.modSens f).data = s.data := rfl
@[simp] theorem State.modSens_buf (f : Sens → Sens) : (s.modSens f).buf = s.buf := rfl
@[simp] theorem State.modSens_cph (f : Sens → Sens) : (s.modSens f).cph = s.cph := rfl
@[simp] theorem State.modSens_time (f : Sens → Sens) : (s.modSens f).time = s.time := rfl
@[simp] theorem State.modSens_out (f : Sens → Sens) : (s.modSens f).out = s.out := rfl
@[simp] theorem State.modSens_freeCtr (f : Sens → Sens) : (s.modSens f).freeCtr = s.freeCtr := rfl
@[simp] theorem State.modSens_pending (f : Sens → Sens) : (s.modSens f).pending = s.pending := rfl

@[simp] theorem State.modLane_clk (l : Nat) (f : Lane → Lane) : (s.modLane l f).clk = s.clk := rfl
@[simp] theorem State.modLane_regs (l : Nat) (f : Lane → Lane) : (s.modLane l f).regs = s.regs := rfl
@[simp] theorem State.modLane_latch (l : Nat) (f : Lane → Lane) : (s.modLane l f).latch = s.latch := rfl
@[simp] theorem State.modLane_pendLow (l : Nat) (f : Lane → Lane) : (s.modLane l f).pendLow = s.pendLow := rfl
@[simp] theorem State.modLane_host (l : Nat) (f : Lane → Lane) : (s.modLane l f).host = s.host := rfl
@[simp] theorem State.modLane_doms (l : Nat) (f : Lane → Lane) : (s.modLane l f).doms = s.doms := rfl
@[simp] theorem State.modLane_deferred (l : Nat) (f : Lane → Lane) : (s.modLane l f).deferred = s.deferred := rfl
@[simp] theorem State.modLane_pon (l : Nat) (f : Lane → Lane) : (s.modLane l f).pon = s.pon := rfl
@[simp] theorem State.modLane_grant (l : Nat) (f : Lane → Lane) : (s.modLane l f).grant = s.grant := rfl
@[simp] theorem State.modLane_data (l : Nat) (f : Lane → Lane) : (s.modLane l f).data = s.data := rfl
@[simp] theorem State.modLane_buf (l : Nat) (f : Lane → Lane) : (s.modLane l f).buf = s.buf := rfl
@[simp] theorem State.modLane_cph (l : Nat) (f : Lane → Lane) : (s.modLane l f).cph = s.cph := rfl
@[simp] theorem State.modLane_time (l : Nat) (f : Lane → Lane) : (s.modLane l f).time = s.time := rfl
@[simp] theorem State.modLane_out (l : Nat) (f : Lane → Lane) : (s.modLane l f).out = s.out := rfl
@[simp] theorem State.modLane_freeCtr (l : Nat) (f : Lane → Lane) : (s.modLane l f).freeCtr = s.freeCtr := rfl
@[simp] theorem State.modLane_pending (l : Nat) (f : Lane → Lane) : (s.modLane l f).pending = s.pending := rfl

@[simp] theorem State.setModule_clk (die m : Nat) (x : Module) : (s.setModule die m x).clk = s.clk := rfl
@[simp] theorem State.setModule_regs (die m : Nat) (x : Module) : (s.setModule die m x).regs = s.regs := rfl
@[simp] theorem State.setModule_latch (die m : Nat) (x : Module) : (s.setModule die m x).latch = s.latch := rfl
@[simp] theorem State.setModule_pendLow (die m : Nat) (x : Module) : (s.setModule die m x).pendLow = s.pendLow := rfl
@[simp] theorem State.setModule_host (die m : Nat) (x : Module) : (s.setModule die m x).host = s.host := rfl
@[simp] theorem State.setModule_doms (die m : Nat) (x : Module) : (s.setModule die m x).doms = s.doms := rfl
@[simp] theorem State.setModule_deferred (die m : Nat) (x : Module) : (s.setModule die m x).deferred = s.deferred := rfl
@[simp] theorem State.setModule_pon (die m : Nat) (x : Module) : (s.setModule die m x).pon = s.pon := rfl
@[simp] theorem State.setModule_grant (die m : Nat) (x : Module) : (s.setModule die m x).grant = s.grant := rfl
@[simp] theorem State.setModule_data (die m : Nat) (x : Module) : (s.setModule die m x).data = s.data := rfl
@[simp] theorem State.setModule_buf (die m : Nat) (x : Module) : (s.setModule die m x).buf = s.buf := rfl
@[simp] theorem State.setModule_cph (die m : Nat) (x : Module) : (s.setModule die m x).cph = s.cph := rfl
@[simp] theorem State.setModule_time (die m : Nat) (x : Module) : (s.setModule die m x).time = s.time := rfl
@[simp] theorem State.setModule_out (die m : Nat) (x : Module) : (s.setModule die m x).out = s.out := rfl
@[simp] theorem State.setModule_freeCtr (die m : Nat) (x : Module) : (s.setModule die m x).freeCtr = s.freeCtr := rfl
@[simp] theorem State.setModule_pending (die m : Nat) (x : Module) : (s.setModule die m x).pending = s.pending := rfl

/-! Reads after writes. -/

/-- A register read after a register write. -/
theorem State.reg_setReg {s : State} (h : SMap.wf regReset s.regs = true) (a b : Nat) (v : W64) :
    (s.setReg a v).reg b = if b = a then v else s.reg b := by
  unfold State.reg State.setReg
  by_cases e : b = a
  · subst e; rw [SMap.get_set h]
  · simp only [if_neg e]
    have := SMap.get_set_other h (regReset a) (regReset b) (j := b) (k := a) v e
    exact this

/-- A register write keeps the register file in its canonical form. -/
theorem State.setReg_wf {s : State} (h : SMap.wf regReset s.regs = true) (a : Nat) (v : W64) :
    SMap.wf regReset (s.setReg a v).regs = true := SMap.wf_set h a v

/-- So do the writes of a field, of a bit, and of the counters. -/
theorem State.setFld_wf {s : State} (h : SMap.wf regReset s.regs = true) (a hi lo v : Nat) :
    SMap.wf regReset (s.setFld a hi lo v).regs = true := State.setReg_wf h _ _

theorem State.setBit_wf {s : State} (h : SMap.wf regReset s.regs = true) (a i : Nat) (b : Bool) :
    SMap.wf regReset (s.setBit a i b).regs = true := State.setReg_wf h _ _

theorem State.add32_wf {s : State} (h : SMap.wf regReset s.regs = true) (a n : Nat) :
    SMap.wf regReset (s.add32 a n).regs = true := State.setReg_wf h _ _

theorem State.add64_wf {s : State} (h : SMap.wf regReset s.regs = true) (a n : Nat) :
    SMap.wf regReset (s.add64 a n).regs = true := State.setReg_wf h _ _

theorem State.addHeld_wf {s : State} (h : SMap.wf regReset s.regs = true) (a hi lo n : Nat) :
    SMap.wf regReset (s.addHeld a hi lo n).regs = true := State.setReg_wf h _ _

/-- A sub-channel read after a sub-channel write. -/
theorem State.sub_setSub {s : State} (h : SMap.wf Sub.dflt s.pon.subs = true) (j k : Nat) (x : Sub) :
    (s.setSub k x).sub j = if j = k then x else s.sub j := by
  unfold State.sub State.setSub
  by_cases e : j = k
  · subst e; rw [SMap.get_set h]
  · simp only [if_neg e]
    exact SMap.get_set_other h (Sub.dflt k) (Sub.dflt j) (j := j) (k := k) x e

/-- A core read after a core write. -/
theorem State.core_setCore {s : State} (h : SMap.wf Core.dflt s.grant.cores = true) (j k : Nat) (x : Core) :
    (s.setCore k x).core j = if j = k then x else s.core j := by
  unfold State.core State.setCore
  by_cases e : j = k
  · subst e; rw [SMap.get_set h]
  · simp only [if_neg e]
    exact SMap.get_set_other h (Core.dflt k) (Core.dflt j) (j := j) (k := k) x e

/-- A ring read after a ring write. -/
theorem State.ring_setRing {s : State} (h : SMap.wf (fun _ => ({} : Ring)) s.host.rings = true) (j k : Nat) (x : Ring) :
    (s.setRing k x).ring j = if j = k then x else s.ring j := SMap.get_set h {} j k x

/-- A planning group read after a write of one. -/
theorem State.group_setGroup {s : State} (h : SMap.wf (fun _ => ({} : Group)) s.grant.groups = true) (j k : Nat) (x : Group) :
    (s.setGroup k x).group j = if j = k then x else s.group j := SMap.get_set h {} j k x

/-- An allocation unit read after a write of one. -/
theorem State.unit_setUnit {s : State} (h : SMap.wf (fun _ => ({} : AUnit)) s.grant.units = true) (j k : Nat) (x : AUnit) :
    (s.setUnit k x).unit j = if j = k then x else s.unit j := SMap.get_set h {} j k x

/-- A flow read after a write of one. -/
theorem State.flow_setFlow {s : State} (h : SMap.wf (fun _ => ({} : Flow)) s.data.flows = true) (j k : Nat) (x : Flow) :
    (s.setFlow k x).flow j = if j = k then x else s.flow j := SMap.get_set h {} j k x

end Sys2Proof.Machine
end

