-- ==== Sys2Proof/Laws/Ops.lean ====
section
/-! SUPPORT. What raising an event, signalling a vector and completing a command leave as it was (R240, R264, R267
to R269). -/

namespace Sys2Proof.Machine

variable (s : State)

@[simp] theorem State.sendVec_clk (fn v : Nat) : (s.sendVec fn v).clk = s.clk := by
  rfl
@[simp] theorem State.sendVec_latch (fn v : Nat) : (s.sendVec fn v).latch = s.latch := by
  rfl
@[simp] theorem State.sendVec_pendLow (fn v : Nat) : (s.sendVec fn v).pendLow = s.pendLow := by
  rfl
@[simp] theorem State.sendVec_doms (fn v : Nat) : (s.sendVec fn v).doms = s.doms := by
  rfl
@[simp] theorem State.sendVec_deferred (fn v : Nat) : (s.sendVec fn v).deferred = s.deferred := by
  rfl
@[simp] theorem State.sendVec_pon (fn v : Nat) : (s.sendVec fn v).pon = s.pon := by
  rfl
@[simp] theorem State.sendVec_grant (fn v : Nat) : (s.sendVec fn v).grant = s.grant := by
  rfl
@[simp] theorem State.sendVec_data (fn v : Nat) : (s.sendVec fn v).data = s.data := by
  rfl
@[simp] theorem State.sendVec_buf (fn v : Nat) : (s.sendVec fn v).buf = s.buf := by
  rfl
@[simp] theorem State.sendVec_cph (fn v : Nat) : (s.sendVec fn v).cph = s.cph := by
  rfl
@[simp] theorem State.sendVec_time (fn v : Nat) : (s.sendVec fn v).time = s.time := by
  rfl
@[simp] theorem State.sendVec_freeCtr (fn v : Nat) : (s.sendVec fn v).freeCtr = s.freeCtr := by
  rfl
@[simp] theorem State.sendVec_pending (fn v : Nat) : (s.sendVec fn v).pending = s.pending := by
  rfl
@[simp] theorem State.sendVec_host_rings (fn v : Nat) : (s.sendVec fn v).host.rings = s.host.rings := by
  rfl
@[simp] theorem State.sendVec_host_jrn (fn v : Nat) : (s.sendVec fn v).host.jrn = s.host.jrn := by
  rfl
@[simp] theorem State.sendVec_host_acceptNum (fn v : Nat) : (s.sendVec fn v).host.acceptNum = s.host.acceptNum := by
  rfl
@[simp] theorem State.sendVec_host_jrnExtra (fn v : Nat) : (s.sendVec fn v).host.jrnExtra = s.host.jrnExtra := by
  rfl
@[simp] theorem State.sendVec_host_cpls (fn v : Nat) : (s.sendVec fn v).host.cpls = s.host.cpls := by
  rfl
@[simp] theorem State.sendVec_host_numVfs (fn v : Nat) : (s.sendVec fn v).host.numVfs = s.host.numVfs := by
  rfl
@[simp] theorem State.sendVec_host_once (fn v : Nat) : (s.sendVec fn v).host.once = s.host.once := by
  rfl
@[simp] theorem State.sendVec_mgmt (fn v : Nat) : (s.sendVec fn v).mgmt = s.mgmt := by
  rfl
@[simp] theorem State.sendVec_regs (fn v : Nat) : (s.sendVec fn v).regs = s.regs := by
  rfl
@[simp] theorem State.signal_clk (fn v : Nat) : (s.signal fn v).clk = s.clk := by
  simp only [State.signal]; split <;> [rfl; (split <;> [rfl; (split <;> rfl)])]
@[simp] theorem State.signal_latch (fn v : Nat) : (s.signal fn v).latch = s.latch := by
  simp only [State.signal]; split <;> [rfl; (split <;> [rfl; (split <;> rfl)])]
@[simp] theorem State.signal_pendLow (fn v : Nat) : (s.signal fn v).pendLow = s.pendLow := by
  simp only [State.signal]; split <;> [rfl; (split <;> [rfl; (split <;> rfl)])]
@[simp] theorem State.signal_doms (fn v : Nat) : (s.signal fn v).doms = s.doms := by
  simp only [State.signal]; split <;> [rfl; (split <;> [rfl; (split <;> rfl)])]
@[simp] theorem State.signal_deferred (fn v : Nat) : (s.signal fn v).deferred = s.deferred := by
  simp only [State.signal]; split <;> [rfl; (split <;> [rfl; (split <;> rfl)])]
@[simp] theorem State.signal_pon (fn v : Nat) : (s.signal fn v).pon = s.pon := by
  simp only [State.signal]; split <;> [rfl; (split <;> [rfl; (split <;> rfl)])]
@[simp] theorem State.signal_grant (fn v : Nat) : (s.signal fn v).grant = s.grant := by
  simp only [State.signal]; split <;> [rfl; (split <;> [rfl; (split <;> rfl)])]
@[simp] theorem State.signal_data (fn v : Nat) : (s.signal fn v).data = s.data := by
  simp only [State.signal]; split <;> [rfl; (split <;> [rfl; (split <;> rfl)])]
@[simp] theorem State.signal_buf (fn v : Nat) : (s.signal fn v).buf = s.buf := by
  simp only [State.signal]; split <;> [rfl; (split <;> [rfl; (split <;> rfl)])]
@[simp] theorem State.signal_cph (fn v : Nat) : (s.signal fn v).cph = s.cph := by
  simp only [State.signal]; split <;> [rfl; (split <;> [rfl; (split <;> rfl)])]
@[simp] theorem State.signal_time (fn v : Nat) : (s.signal fn v).time = s.time := by
  simp only [State.signal]; split <;> [rfl; (split <;> [rfl; (split <;> rfl)])]
@[simp] theorem State.signal_freeCtr (fn v : Nat) : (s.signal fn v).freeCtr = s.freeCtr := by
  simp only [State.signal]; split <;> [rfl; (split <;> [rfl; (split <;> rfl)])]
@[simp] theorem State.signal_pending (fn v : Nat) : (s.signal fn v).pending = s.pending := by
  simp only [State.signal]; split <;> [rfl; (split <;> [rfl; (split <;> rfl)])]
@[simp] theorem State.signal_host_rings (fn v : Nat) : (s.signal fn v).host.rings = s.host.rings := by
  simp only [State.signal]; split <;> [rfl; (split <;> [rfl; (split <;> rfl)])]
@[simp] theorem State.signal_host_jrn (fn v : Nat) : (s.signal fn v).host.jrn = s.host.jrn := by
  simp only [State.signal]; split <;> [rfl; (split <;> [rfl; (split <;> rfl)])]
@[simp] theorem State.signal_host_acceptNum (fn v : Nat) : (s.signal fn v).host.acceptNum = s.host.acceptNum := by
  simp only [State.signal]; split <;> [rfl; (split <;> [rfl; (split <;> rfl)])]
@[simp] theorem State.signal_host_jrnExtra (fn v : Nat) : (s.signal fn v).host.jrnExtra = s.host.jrnExtra := by
  simp only [State.signal]; split <;> [rfl; (split <;> [rfl; (split <;> rfl)])]
@[simp] theorem State.signal_host_cpls (fn v : Nat) : (s.signal fn v).host.cpls = s.host.cpls := by
  simp only [State.signal]; split <;> [rfl; (split <;> [rfl; (split <;> rfl)])]
@[simp] theorem State.signal_host_numVfs (fn v : Nat) : (s.signal fn v).host.numVfs = s.host.numVfs := by
  simp only [State.signal]; split <;> [rfl; (split <;> [rfl; (split <;> rfl)])]
@[simp] theorem State.signal_host_once (fn v : Nat) : (s.signal fn v).host.once = s.host.once := by
  simp only [State.signal]; split <;> [rfl; (split <;> [rfl; (split <;> rfl)])]
@[simp] theorem State.signal_mgmt (fn v : Nat) : (s.signal fn v).mgmt = s.mgmt := by
  simp only [State.signal]; split <;> [rfl; (split <;> [rfl; (split <;> rfl)])]
@[simp] theorem State.signal_regs (fn v : Nat) : (s.signal fn v).regs = s.regs := by
  simp only [State.signal]; split <;> [rfl; (split <;> [rfl; (split <;> rfl)])]
@[simp] theorem State.evSignal_clk (n : Nat) : (s.evSignal n).clk = s.clk := by
  simp only [State.evSignal]; split <;> simp
@[simp] theorem State.evSignal_latch (n : Nat) : (s.evSignal n).latch = s.latch := by
  simp only [State.evSignal]; split <;> simp
@[simp] theorem State.evSignal_pendLow (n : Nat) : (s.evSignal n).pendLow = s.pendLow := by
  simp only [State.evSignal]; split <;> simp
@[simp] theorem State.evSignal_doms (n : Nat) : (s.evSignal n).doms = s.doms := by
  simp only [State.evSignal]; split <;> simp
@[simp] theorem State.evSignal_deferred (n : Nat) : (s.evSignal n).deferred = s.deferred := by
  simp only [State.evSignal]; split <;> simp
@[simp] theorem State.evSignal_pon (n : Nat) : (s.evSignal n).pon = s.pon := by
  simp only [State.evSignal]; split <;> simp
@[simp] theorem State.evSignal_grant (n : Nat) : (s.evSignal n).grant = s.grant := by
  simp only [State.evSignal]; split <;> simp
@[simp] theorem State.evSignal_data (n : Nat) : (s.evSignal n).data = s.data := by
  simp only [State.evSignal]; split <;> simp
@[simp] theorem State.evSignal_buf (n : Nat) : (s.evSignal n).buf = s.buf := by
  simp only [State.evSignal]; split <;> simp
@[simp] theorem State.evSignal_cph (n : Nat) : (s.evSignal n).cph = s.cph := by
  simp only [State.evSignal]; split <;> simp
@[simp] theorem State.evSignal_time (n : Nat) : (s.evSignal n).time = s.time := by
  simp only [State.evSignal]; split <;> simp
@[simp] theorem State.evSignal_freeCtr (n : Nat) : (s.evSignal n).freeCtr = s.freeCtr := by
  simp only [State.evSignal]; split <;> simp
@[simp] theorem State.evSignal_pending (n : Nat) : (s.evSignal n).pending = s.pending := by
  simp only [State.evSignal]; split <;> simp
@[simp] theorem State.evSignal_host_rings (n : Nat) : (s.evSignal n).host.rings = s.host.rings := by
  simp only [State.evSignal]; split <;> simp
@[simp] theorem State.evSignal_host_jrn (n : Nat) : (s.evSignal n).host.jrn = s.host.jrn := by
  simp only [State.evSignal]; split <;> simp
@[simp] theorem State.evSignal_host_acceptNum (n : Nat) : (s.evSignal n).host.acceptNum = s.host.acceptNum := by
  simp only [State.evSignal]; split <;> simp
@[simp] theorem State.evSignal_host_jrnExtra (n : Nat) : (s.evSignal n).host.jrnExtra = s.host.jrnExtra := by
  simp only [State.evSignal]; split <;> simp
@[simp] theorem State.evSignal_host_cpls (n : Nat) : (s.evSignal n).host.cpls = s.host.cpls := by
  simp only [State.evSignal]; split <;> simp
@[simp] theorem State.evSignal_host_numVfs (n : Nat) : (s.evSignal n).host.numVfs = s.host.numVfs := by
  simp only [State.evSignal]; split <;> simp
@[simp] theorem State.evSignal_host_once (n : Nat) : (s.evSignal n).host.once = s.host.once := by
  simp only [State.evSignal]; split <;> simp
@[simp] theorem State.evSignal_mgmt (n : Nat) : (s.evSignal n).mgmt = s.mgmt := by
  simp only [State.evSignal]; split <;> simp
@[simp] theorem State.evSignal_regs (n : Nat) : (s.evSignal n).regs = s.regs := by
  simp only [State.evSignal]; split <;> simp
@[simp] theorem State.evqWrite_clk (e : EvRec) : (s.evqWrite e).2.clk = s.clk := by
  simp only [State.evqWrite]; split <;> simp
@[simp] theorem State.evqWrite_latch (e : EvRec) : (s.evqWrite e).2.latch = s.latch := by
  simp only [State.evqWrite]; split <;> simp
@[simp] theorem State.evqWrite_pendLow (e : EvRec) : (s.evqWrite e).2.pendLow = s.pendLow := by
  simp only [State.evqWrite]; split <;> simp
@[simp] theorem State.evqWrite_doms (e : EvRec) : (s.evqWrite e).2.doms = s.doms := by
  simp only [State.evqWrite]; split <;> simp
@[simp] theorem State.evqWrite_deferred (e : EvRec) : (s.evqWrite e).2.deferred = s.deferred := by
  simp only [State.evqWrite]; split <;> simp
@[simp] theorem State.evqWrite_pon (e : EvRec) : (s.evqWrite e).2.pon = s.pon := by
  simp only [State.evqWrite]; split <;> simp
@[simp] theorem State.evqWrite_grant (e : EvRec) : (s.evqWrite e).2.grant = s.grant := by
  simp only [State.evqWrite]; split <;> simp
@[simp] theorem State.evqWrite_data (e : EvRec) : (s.evqWrite e).2.data = s.data := by
  simp only [State.evqWrite]; split <;> simp
@[simp] theorem State.evqWrite_buf (e : EvRec) : (s.evqWrite e).2.buf = s.buf := by
  simp only [State.evqWrite]; split <;> simp
@[simp] theorem State.evqWrite_cph (e : EvRec) : (s.evqWrite e).2.cph = s.cph := by
  simp only [State.evqWrite]; split <;> simp
@[simp] theorem State.evqWrite_time (e : EvRec) : (s.evqWrite e).2.time = s.time := by
  simp only [State.evqWrite]; split <;> simp
@[simp] theorem State.evqWrite_freeCtr (e : EvRec) : (s.evqWrite e).2.freeCtr = s.freeCtr := by
  simp only [State.evqWrite]; split <;> simp
@[simp] theorem State.evqWrite_pending (e : EvRec) : (s.evqWrite e).2.pending = s.pending := by
  simp only [State.evqWrite]; split <;> simp
@[simp] theorem State.evqWrite_host_rings (e : EvRec) : (s.evqWrite e).2.host.rings = s.host.rings := by
  simp only [State.evqWrite]; split <;> simp
@[simp] theorem State.evqWrite_host_jrn (e : EvRec) : (s.evqWrite e).2.host.jrn = s.host.jrn := by
  simp only [State.evqWrite]; split <;> simp
@[simp] theorem State.evqWrite_host_acceptNum (e : EvRec) : (s.evqWrite e).2.host.acceptNum = s.host.acceptNum := by
  simp only [State.evqWrite]; split <;> simp
@[simp] theorem State.evqWrite_host_jrnExtra (e : EvRec) : (s.evqWrite e).2.host.jrnExtra = s.host.jrnExtra := by
  simp only [State.evqWrite]; split <;> simp
@[simp] theorem State.evqWrite_host_cpls (e : EvRec) : (s.evqWrite e).2.host.cpls = s.host.cpls := by
  simp only [State.evqWrite]; split <;> simp
@[simp] theorem State.evqWrite_host_numVfs (e : EvRec) : (s.evqWrite e).2.host.numVfs = s.host.numVfs := by
  simp only [State.evqWrite]; split <;> simp
@[simp] theorem State.evqWrite_host_once (e : EvRec) : (s.evqWrite e).2.host.once = s.host.once := by
  simp only [State.evqWrite]; split <;> simp
@[simp] theorem State.evqWrite_mgmt (e : EvRec) : (s.evqWrite e).2.mgmt = s.mgmt := by
  simp only [State.evqWrite]; split <;> simp

/-- Writing an event record keeps the register file in its canonical form. -/
theorem State.evqWrite_wf (e : EvRec) (h : SMap.wf regReset s.regs = true) : SMap.wf regReset (s.evqWrite e).2.regs = true := by
  simp only [State.evqWrite]
  split
  · exact State.setReg_wf h _ _
  · exact State.add32_wf h _ _

/-- What raising a source leaves: everything but the event registers, the held records, the vectors, the count of
raises and what has been sent. -/
theorem State.raise_frame (n arg : Nat) :
    (s.raise n arg).clk = s.clk ∧
    (s.raise n arg).latch = s.latch ∧
    (s.raise n arg).pendLow = s.pendLow ∧
    (s.raise n arg).doms = s.doms ∧
    (s.raise n arg).deferred = s.deferred ∧
    (s.raise n arg).pon = s.pon ∧
    (s.raise n arg).grant = s.grant ∧
    (s.raise n arg).data = s.data ∧
    (s.raise n arg).buf = s.buf ∧
    (s.raise n arg).cph = s.cph ∧
    (s.raise n arg).time = s.time ∧
    (s.raise n arg).freeCtr = s.freeCtr ∧
    (s.raise n arg).pending = s.pending ∧
    (s.raise n arg).host.rings = s.host.rings ∧
    (s.raise n arg).host.jrn = s.host.jrn ∧
    (s.raise n arg).host.acceptNum = s.host.acceptNum ∧
    (s.raise n arg).host.jrnExtra = s.host.jrnExtra ∧
    (s.raise n arg).host.cpls = s.host.cpls ∧
    (s.raise n arg).host.numVfs = s.host.numVfs ∧
    (s.raise n arg).host.once = s.host.once ∧
    { (s.raise n arg).mgmt with rcd := s.mgmt.rcd } = s.mgmt := by
  unfold State.raise
  split
  · simp
  · simp only
    split
    · split
      · split
        · rename_i t h
          have ht := congrArg Prod.snd h
          simp only at ht
          subst ht
          simp
        · rename_i t h
          have ht := congrArg Prod.snd h
          simp only at ht
          subst ht
          simp
      · split <;> simp
    · simp

/-- Raising a source keeps the register file in its canonical form. -/
theorem State.raise_wf (n arg : Nat) (h : SMap.wf regReset s.regs = true) : SMap.wf regReset (s.raise n arg).regs = true := by
  unfold State.raise
  split
  · exact h
  · simp only
    have h1 : SMap.wf regReset ((s.add32 (evcA (0x6000 + 4 * n)) 1).setBit (evcA (0x8000 + 4 * (n / 32))) (n % 32) true).regs = true :=
      State.setBit_wf (State.add32_wf h _ _) _ _ _
    split
    · split
      · split
        · rename_i t e
          have ht := congrArg Prod.snd e
          simp only at ht
          subst ht
          rw [State.evSignal_regs]
          exact State.evqWrite_wf _ _ h1
        · rename_i t e
          have ht := congrArg Prod.snd e
          simp only at ht
          subst ht
          exact State.evqWrite_wf _ _ h1
      · split
        · exact h1
        · exact State.add32_wf h1 _ _
    · exact h1

@[simp] theorem State.raise_clk (n arg : Nat) : (s.raise n arg).clk = s.clk := by
  have h := s.raise_frame n arg
  simp only [h]
@[simp] theorem State.raise_latch (n arg : Nat) : (s.raise n arg).latch = s.latch := by
  have h := s.raise_frame n arg
  simp only [h]
@[simp] theorem State.raise_pendLow (n arg : Nat) : (s.raise n arg).pendLow = s.pendLow := by
  have h := s.raise_frame n arg
  simp only [h]
@[simp] theorem State.raise_doms (n arg : Nat) : (s.raise n arg).doms = s.doms := by
  have h := s.raise_frame n arg
  simp only [h]
@[simp] theorem State.raise_deferred (n arg : Nat) : (s.raise n arg).deferred = s.deferred := by
  have h := s.raise_frame n arg
  simp only [h]
@[simp] theorem State.raise_pon (n arg : Nat) : (s.raise n arg).pon = s.pon := by
  have h := s.raise_frame n arg
  simp only [h]
@[simp] theorem State.raise_grant (n arg : Nat) : (s.raise n arg).grant = s.grant := by
  have h := s.raise_frame n arg
  simp only [h]
@[simp] theorem State.raise_data (n arg : Nat) : (s.raise n arg).data = s.data := by
  have h := s.raise_frame n arg
  simp only [h]
@[simp] theorem State.raise_buf (n arg : Nat) : (s.raise n arg).buf = s.buf := by
  have h := s.raise_frame n arg
  simp only [h]
@[simp] theorem State.raise_cph (n arg : Nat) : (s.raise n arg).cph = s.cph := by
  have h := s.raise_frame n arg
  simp only [h]
@[simp] theorem State.raise_time (n arg : Nat) : (s.raise n arg).time = s.time := by
  have h := s.raise_frame n arg
  simp only [h]
@[simp] theorem State.raise_freeCtr (n arg : Nat) : (s.raise n arg).freeCtr = s.freeCtr := by
  have h := s.raise_frame n arg
  simp only [h]
@[simp] theorem State.raise_pending (n arg : Nat) : (s.raise n arg).pending = s.pending := by
  have h := s.raise_frame n arg
  simp only [h]
@[simp] theorem State.raise_host_rings (n arg : Nat) : (s.raise n arg).host.rings = s.host.rings := by
  have h := s.raise_frame n arg
  simp only [h]
@[simp] theorem State.raise_host_jrn (n arg : Nat) : (s.raise n arg).host.jrn = s.host.jrn := by
  have h := s.raise_frame n arg
  simp only [h]
@[simp] theorem State.raise_host_acceptNum (n arg : Nat) : (s.raise n arg).host.acceptNum = s.host.acceptNum := by
  have h := s.raise_frame n arg
  simp only [h]
@[simp] theorem State.raise_host_jrnExtra (n arg : Nat) : (s.raise n arg).host.jrnExtra = s.host.jrnExtra := by
  have h := s.raise_frame n arg
  simp only [h]
@[simp] theorem State.raise_host_cpls (n arg : Nat) : (s.raise n arg).host.cpls = s.host.cpls := by
  have h := s.raise_frame n arg
  simp only [h]
@[simp] theorem State.raise_host_numVfs (n arg : Nat) : (s.raise n arg).host.numVfs = s.host.numVfs := by
  have h := s.raise_frame n arg
  simp only [h]
@[simp] theorem State.raise_host_once (n arg : Nat) : (s.raise n arg).host.once = s.host.once := by
  have h := s.raise_frame n arg
  simp only [h]
@[simp] theorem State.raiseOnce_clk (n key arg : Nat) : (s.raiseOnce n key arg).clk = s.clk := by
  simp only [State.raiseOnce]; split <;> simp
@[simp] theorem State.raiseOnce_latch (n key arg : Nat) : (s.raiseOnce n key arg).latch = s.latch := by
  simp only [State.raiseOnce]; split <;> simp
@[simp] theorem State.raiseOnce_pendLow (n key arg : Nat) : (s.raiseOnce n key arg).pendLow = s.pendLow := by
  simp only [State.raiseOnce]; split <;> simp
@[simp] theorem State.raiseOnce_doms (n key arg : Nat) : (s.raiseOnce n key arg).doms = s.doms := by
  simp only [State.raiseOnce]; split <;> simp
@[simp] theorem State.raiseOnce_deferred (n key arg : Nat) : (s.raiseOnce n key arg).deferred = s.deferred := by
  simp only [State.raiseOnce]; split <;> simp
@[simp] theorem State.raiseOnce_pon (n key arg : Nat) : (s.raiseOnce n key arg).pon = s.pon := by
  simp only [State.raiseOnce]; split <;> simp
@[simp] theorem State.raiseOnce_grant (n key arg : Nat) : (s.raiseOnce n key arg).grant = s.grant := by
  simp only [State.raiseOnce]; split <;> simp
@[simp] theorem State.raiseOnce_data (n key arg : Nat) : (s.raiseOnce n key arg).data = s.data := by
  simp only [State.raiseOnce]; split <;> simp
@[simp] theorem State.raiseOnce_buf (n key arg : Nat) : (s.raiseOnce n key arg).buf = s.buf := by
  simp only [State.raiseOnce]; split <;> simp
@[simp] theorem State.raiseOnce_cph (n key arg : Nat) : (s.raiseOnce n key arg).cph = s.cph := by
  simp only [State.raiseOnce]; split <;> simp
@[simp] theorem State.raiseOnce_time (n key arg : Nat) : (s.raiseOnce n key arg).time = s.time := by
  simp only [State.raiseOnce]; split <;> simp
@[simp] theorem State.raiseOnce_freeCtr (n key arg : Nat) : (s.raiseOnce n key arg).freeCtr = s.freeCtr := by
  simp only [State.raiseOnce]; split <;> simp
@[simp] theorem State.raiseOnce_pending (n key arg : Nat) : (s.raiseOnce n key arg).pending = s.pending := by
  simp only [State.raiseOnce]; split <;> simp
@[simp] theorem State.raiseOnce_host_rings (n key arg : Nat) : (s.raiseOnce n key arg).host.rings = s.host.rings := by
  simp only [State.raiseOnce]; split <;> simp
@[simp] theorem State.raiseOnce_host_jrn (n key arg : Nat) : (s.raiseOnce n key arg).host.jrn = s.host.jrn := by
  simp only [State.raiseOnce]; split <;> simp
@[simp] theorem State.raiseOnce_host_acceptNum (n key arg : Nat) : (s.raiseOnce n key arg).host.acceptNum = s.host.acceptNum := by
  simp only [State.raiseOnce]; split <;> simp
@[simp] theorem State.raiseOnce_host_jrnExtra (n key arg : Nat) : (s.raiseOnce n key arg).host.jrnExtra = s.host.jrnExtra := by
  simp only [State.raiseOnce]; split <;> simp
@[simp] theorem State.raiseOnce_host_cpls (n key arg : Nat) : (s.raiseOnce n key arg).host.cpls = s.host.cpls := by
  simp only [State.raiseOnce]; split <;> simp
@[simp] theorem State.raiseOnce_host_numVfs (n key arg : Nat) : (s.raiseOnce n key arg).host.numVfs = s.host.numVfs := by
  simp only [State.raiseOnce]; split <;> simp

/-- Raising a source at most once per interval keeps the canonical form too. -/
theorem State.raiseOnce_wf (n key arg : Nat) (h : SMap.wf regReset s.regs = true) :
    SMap.wf regReset (s.raiseOnce n key arg).regs = true := by
  simp only [State.raiseOnce]
  split
  · exact h
  · exact State.raise_wf _ _ _ h

end Sys2Proof.Machine
end

