-- ==== Sys2Proof/Laws/Commands.lean ====
section
/-! SUPPORT. What a command that starts does, and the record it leaves (R254 to R258, R264). -/

namespace Sys2Proof.Machine

/-- A command that starts answers what its body answers on the state in which its journal entry is marked started. -/
theorem runCmd_starts {i : CmdInfo} {b : Body} {c : Desc} {s : State} (h : Starts i c s) :
    runCmd i b c s = match b none c (s.jrnStart c) with
      | (.wait, _) => s
      | (.opened, t) => t
      | (.fin f, t) => t.complete c.acc f := by
  obtain ⟨h1, h2, h3, h4, h7, h5⟩ := h
  have h6 : s.jrnDone c = false := by
    unfold State.jrnDone
    cases hj : s.jrnFind c.acc with
    | some j => simp [h2 j hj]
    | none =>
      cases hw : s.wpLast with
      | none => rfl
      | some w =>
        have := h3 hj w hw
        exact Bool.and_eq_false_imp.2 (fun _ => decide_eq_false (by omega))
  unfold runCmd
  rw [if_neg (by simp [h1]), if_neg (by simp [h6]), if_neg (by simp [h4])]
  simp only [runChecked, h5, if_neg (show ¬(((none : Option ExecRec).isNone && decide (2 ≤ c.upsets)) = true) by simp; omega)]
  all_goals
    generalize b none c (s.jrnStart c) = x
    obtain ⟨r, t⟩ := x
    cases r <;> rfl

/-- The checks of R258 pass just when they name no status; they then change nothing. -/
theorem check_none {i : CmdInfo} {c : Desc} {s : State} (h : (i.check c s).1 = none) : i.check c s = (none, s) := by
  unfold CmdInfo.check at *
  by_cases h1 : i.descErr c = true
  · rw [if_pos h1] at h; cases h
  · rw [if_neg h1] at h ⊢
    by_cases h2 : (isDom0 i.op && c.dom != 0) = true
    · rw [if_pos h2] at h; cases h
    · rw [if_neg h2] at h ⊢
      by_cases h3 : (!i.query && s.domRoad c.dom != .enabled) = true
      · rw [if_pos h3] at h; cases h
      · rw [if_neg h3] at h ⊢
        by_cases h4 : (s.mgmt.pair.role == .standby && !i.query && famOf i.op != 0x0C) = true
        · rw [if_pos h4] at h; cases h
        · rw [if_neg h4] at h ⊢
          cases hb : i.buf with
          | none => rfl
          | inp len =>
            simp only [hb] at h ⊢
            by_cases h0 : c.bufLen = 0
            · rw [if_pos h0] at h; cases h
            · rw [if_neg h0] at h ⊢
              by_cases h5 : (c.inpBad || !len c.bufLen) = true
              · rw [if_pos h5] at h; cases h
              · rw [if_neg h5]
          | inpOpt len =>
            simp only [hb] at h ⊢
            by_cases h5 : c.bufLen = 0
            · rw [if_pos h5]
            · rw [if_neg h5] at h ⊢
              by_cases h6 : (c.inpBad || !len c.bufLen) = true
              · rw [if_pos h6] at h; cases h
              · rw [if_neg h6]
          | out need =>
            simp only [hb] at h ⊢
            by_cases h5 : (s.bufCheck c.dom c.buf c.bufLen && decide (need c ≤ c.bufLen)) = true
            · rw [if_pos h5]
            · rw [if_neg h5] at h; cases h

/-- A command starts in a state whose journal does not hold it, in which no waypoint is confirmed, nothing holds it
back and every check passes. -/
theorem starts_fresh {i : CmdInfo} {c : Desc} {s : State} (h1 : s.serving = true) (h2 : s.jrnFind c.acc = none)
    (h3 : s.wpLast = none) (h4 : s.mustWait c = false) (h6 : c.upsets < 2)
    (h5 : (i.check c (s.jrnStart c)).1 = none) : Starts i c s := by
  refine ⟨h1, ?_, ?_, h4, h6, check_none h5⟩
  · intro j hj
    rw [h2] at hj
    cases hj
  · intro _ w hw
    rw [h3] at hw
    cases hw

/-! What a completion leaves: everything but the journal, the completions and ring that carry it, one counter and what
has been sent (R240, R264). -/

/-- Two states that agree on all but registers, host interface and what has been sent. -/
def State.SameRest (s t : State) : Prop :=
  t.clk = s.clk ∧
  t.latch = s.latch ∧
  t.pendLow = s.pendLow ∧
  t.doms = s.doms ∧
  t.deferred = s.deferred ∧
  t.pon = s.pon ∧
  t.grant = s.grant ∧
  t.data = s.data ∧
  t.buf = s.buf ∧
  t.cph = s.cph ∧
  t.time = s.time ∧
  t.mgmt = s.mgmt ∧
  t.freeCtr = s.freeCtr ∧
  t.pending = s.pending

theorem State.SameRest.refl (s : State) : s.SameRest s := by simp [State.SameRest]

theorem State.SameRest.trans {s t u : State} (h : s.SameRest t) (k : t.SameRest u) : s.SameRest u := by
  simp_all [State.SameRest]

theorem State.jrnTrim_rest (s : State) : s.SameRest s.jrnTrim := by
  unfold State.jrnTrim; split <;> exact .refl s

/-- A state that differs at most in registers, host interface and what has been sent. -/
theorem State.same_rest (s : State) (r : SMap W64) (h : HostSt) (o : List Out) :
    s.SameRest { s with regs := r, host := h, out := o } := by simp [State.SameRest]

theorem State.finish_rest (s : State) (n : Nat) (x : Fin) : s.SameRest (s.finish n x) := by
  unfold State.finish
  split
  · exact .refl s
  · split
    · exact .refl s
    · simp only; repeat' split
      all_goals first
        | exact .trans (State.same_rest s _ _ _) (State.jrnTrim_rest _)
        | exact State.same_rest s _ _ _

theorem State.endUnknown_rest (s : State) (r : Nat) : s.SameRest (s.endUnknown r) := by
  unfold State.endUnknown
  generalize List.filter _ _ = l
  induction l generalizing s with
  | nil => exact .refl s
  | cons j l ih =>
    simp only [List.foldl_cons]
    split
    · exact ih s
    · exact .trans (State.finish_rest s _ _) (ih _)

/-- All that a completion leaves as it was. -/
theorem State.complete_rest (s : State) (n : Nat) (x : Fin) : s.SameRest (s.complete n x) := by
  unfold State.complete
  split
  · exact .refl s
  · exact .trans (State.finish_rest s n x) (State.endUnknown_rest _ _)

@[simp] theorem State.jrnTrim_clk (s : State) : s.jrnTrim.clk = s.clk := (s.jrnTrim_rest).1
@[simp] theorem State.complete_clk (s : State) (n : Nat) (x : Fin) : (s.complete n x).clk = s.clk := (s.complete_rest n x).1
@[simp] theorem State.jrnTrim_latch (s : State) : s.jrnTrim.latch = s.latch := (s.jrnTrim_rest).2.1
@[simp] theorem State.complete_latch (s : State) (n : Nat) (x : Fin) : (s.complete n x).latch = s.latch := (s.complete_rest n x).2.1
@[simp] theorem State.jrnTrim_pendLow (s : State) : s.jrnTrim.pendLow = s.pendLow := (s.jrnTrim_rest).2.2.1
@[simp] theorem State.complete_pendLow (s : State) (n : Nat) (x : Fin) : (s.complete n x).pendLow = s.pendLow := (s.complete_rest n x).2.2.1
@[simp] theorem State.jrnTrim_doms (s : State) : s.jrnTrim.doms = s.doms := (s.jrnTrim_rest).2.2.2.1
@[simp] theorem State.complete_doms (s : State) (n : Nat) (x : Fin) : (s.complete n x).doms = s.doms := (s.complete_rest n x).2.2.2.1
@[simp] theorem State.jrnTrim_deferred (s : State) : s.jrnTrim.deferred = s.deferred := (s.jrnTrim_rest).2.2.2.2.1
@[simp] theorem State.complete_deferred (s : State) (n : Nat) (x : Fin) : (s.complete n x).deferred = s.deferred := (s.complete_rest n x).2.2.2.2.1
@[simp] theorem State.jrnTrim_pon (s : State) : s.jrnTrim.pon = s.pon := (s.jrnTrim_rest).2.2.2.2.2.1
@[simp] theorem State.complete_pon (s : State) (n : Nat) (x : Fin) : (s.complete n x).pon = s.pon := (s.complete_rest n x).2.2.2.2.2.1
@[simp] theorem State.jrnTrim_grant (s : State) : s.jrnTrim.grant = s.grant := (s.jrnTrim_rest).2.2.2.2.2.2.1
@[simp] theorem State.complete_grant (s : State) (n : Nat) (x : Fin) : (s.complete n x).grant = s.grant := (s.complete_rest n x).2.2.2.2.2.2.1
@[simp] theorem State.jrnTrim_data (s : State) : s.jrnTrim.data = s.data := (s.jrnTrim_rest).2.2.2.2.2.2.2.1
@[simp] theorem State.complete_data (s : State) (n : Nat) (x : Fin) : (s.complete n x).data = s.data := (s.complete_rest n x).2.2.2.2.2.2.2.1
@[simp] theorem State.jrnTrim_buf (s : State) : s.jrnTrim.buf = s.buf := (s.jrnTrim_rest).2.2.2.2.2.2.2.2.1
@[simp] theorem State.complete_buf (s : State) (n : Nat) (x : Fin) : (s.complete n x).buf = s.buf := (s.complete_rest n x).2.2.2.2.2.2.2.2.1
@[simp] theorem State.jrnTrim_cph (s : State) : s.jrnTrim.cph = s.cph := (s.jrnTrim_rest).2.2.2.2.2.2.2.2.2.1
@[simp] theorem State.complete_cph (s : State) (n : Nat) (x : Fin) : (s.complete n x).cph = s.cph := (s.complete_rest n x).2.2.2.2.2.2.2.2.2.1
@[simp] theorem State.jrnTrim_time (s : State) : s.jrnTrim.time = s.time := (s.jrnTrim_rest).2.2.2.2.2.2.2.2.2.2.1
@[simp] theorem State.complete_time (s : State) (n : Nat) (x : Fin) : (s.complete n x).time = s.time := (s.complete_rest n x).2.2.2.2.2.2.2.2.2.2.1
@[simp] theorem State.jrnTrim_mgmt (s : State) : s.jrnTrim.mgmt = s.mgmt := (s.jrnTrim_rest).2.2.2.2.2.2.2.2.2.2.2.1
@[simp] theorem State.complete_mgmt (s : State) (n : Nat) (x : Fin) : (s.complete n x).mgmt = s.mgmt := (s.complete_rest n x).2.2.2.2.2.2.2.2.2.2.2.1
@[simp] theorem State.jrnTrim_freeCtr (s : State) : s.jrnTrim.freeCtr = s.freeCtr := (s.jrnTrim_rest).2.2.2.2.2.2.2.2.2.2.2.2.1
@[simp] theorem State.complete_freeCtr (s : State) (n : Nat) (x : Fin) : (s.complete n x).freeCtr = s.freeCtr := (s.complete_rest n x).2.2.2.2.2.2.2.2.2.2.2.2.1
@[simp] theorem State.jrnTrim_pending (s : State) : s.jrnTrim.pending = s.pending := (s.jrnTrim_rest).2.2.2.2.2.2.2.2.2.2.2.2.2
@[simp] theorem State.complete_pending (s : State) (n : Nat) (x : Fin) : (s.complete n x).pending = s.pending := (s.complete_rest n x).2.2.2.2.2.2.2.2.2.2.2.2.2

end Sys2Proof.Machine
end

