-- ==== Sys2Proof/Laws/Prepolet.lean ====
section
/-! SUPPORT. What issuing one instruction of a grant program does (R129, R162, R165, R196). -/

namespace Sys2Proof.Machine

/-- An instruction of a context that can issue, and whose successor lies in the entry, does what its effect says. -/
theorem instr_issuing {s : State} {st : Site} {c : Ctx} (w : W32) (f : Ctx → Eff) (h : Issuing s st c) :
    s.instr st w f = match f c with
      | .exc n => s.progExc st w n
      | .stall => (s.setCtx st { c with stalled := some w }).gcrCount st.core 7
      | .go c' => s.goesOn st c' (c.pc + 1)
      | .jump pc => if (s.progAt st).stop c.entry ≤ pc then s.progExc st w 7 else (s.issuedOne st).setCtx st { c with pc := pc }
      | .back c' pc => (s.issuedOne st).setCtx st { c' with pc := pc } := by
  obtain ⟨h1, h0, h2⟩ := h
  have h3 : ¬ (s.progAt st).stop c.entry ≤ c.pc + 1 := by omega
  unfold State.instr
  rw [h1]
  simp only [Ctx.heldBy, h0, Option.any_none, Bool.false_eq_true, if_false, Option.isSome_none]
  cases f c with
  | exc n => simp only [if_neg h3]; split <;> rfl
  | go c' => simp only [if_neg h3]; rfl
  | jump pc => rfl
  | back c' pc => rfl
  | stall => simp only [if_neg h3]

/-- A legal instruction goes on; an illegal one raises ILLEGAL. -/
theorem instr_legal {s : State} {st : Site} {c : Ctx} (w : W32) (ill : Ctx → Bool) (g : Ctx → Ctx) (h : Issuing s st c) :
    s.instr st w (fun c => legal (ill c) (g c)) =
      if ill c then s.progExc st w 1 else s.goesOn st (g c) (c.pc + 1) := by
  rw [instr_issuing w _ h]
  unfold legal
  cases ill c <;> rfl

/-- The state after an instruction that goes on has the queue of the state before. -/
@[simp] theorem goesOn_pending (s : State) (st : Site) (c : Ctx) (pc : Nat) : (s.goesOn st c pc).pending = s.pending := by
  simp only [State.goesOn, State.issuedOne]
  split <;> rfl

/-- So it is the answer as it stands. -/
theorem kept_goesOn (s : State) (st : Site) (c : Ctx) (pc : Nat) : kept s (s.goesOn st c pc) = .next (s.goesOn st c pc) := by
  unfold kept
  have := goesOn_pending s st c pc
  rw [← this]

end Sys2Proof.Machine
end

