-- ==== Sys2Proof/Tests/Slice0.lean ====
section
/-! SUPPORT. Tests: an ill-formed term for each check of WellFormed; worked results of single steps with expected
values taken from the spec's tables; and for every statement with hypotheses a state and operands that meet them. -/

namespace Sys2Proof.Tests

open Sys2Proof Sys2Proof.Machine

/-! One theorem after another, so that the check needs few threads and little memory. -/

set_option Elab.async false

/-! Ill-formed commands are refused. -/

/-- A descriptor of no operation. -/
def dz : Desc := ⟨0, 9, 0xFFFF, 0, 0, 0, 0, 0, 0, 0, 0, 0, 0, 0, 0, 0, 0, 0, [], false, 0⟩
abbrev badOp : Desc := dz
/-- A function field that selects no operation, and a condition field that selects none. -/
def badFn : FmtO := ⟨0, 0, 0, 0, 0xEF⟩
def badCond : FmtB := ⟨7, 0, 0⟩

/-- A site has a core below 104 and a context below 4 (R21, R129). -/
theorem test_wf_site_0 :
    (∀ x1, (Instr.iadd ⟨104, 0⟩ x1).wf = false) ∧
    (∀ x1, (Instr.isub ⟨104, 0⟩ x1).wf = false) ∧
    (∀ x1, (Instr.iand ⟨104, 0⟩ x1).wf = false) ∧
    (∀ x1, (Instr.ior ⟨104, 0⟩ x1).wf = false) ∧
    (∀ x1, (Instr.ixor ⟨104, 0⟩ x1).wf = false) ∧
    (∀ x1, (Instr.andn ⟨104, 0⟩ x1).wf = false) ∧
    (∀ x1, (Instr.shl ⟨104, 0⟩ x1).wf = false) ∧
    (∀ x1, (Instr.shr ⟨104, 0⟩ x1).wf = false) ∧
    (∀ x1, (Instr.sra ⟨104, 0⟩ x1).wf = false) ∧
    (∀ x1, (Instr.mul ⟨104, 0⟩ x1).wf = false) ∧
    (∀ x1, (Instr.mulhu ⟨104, 0⟩ x1).wf = false) ∧
    (∀ x1, (Instr.minu ⟨104, 0⟩ x1).wf = false) ∧
    (∀ x1, (Instr.maxu ⟨104, 0⟩ x1).wf = false) ∧
    (∀ x1, (Instr.mins ⟨104, 0⟩ x1).wf = false) ∧
    (∀ x1, (Instr.maxs ⟨104, 0⟩ x1).wf = false) ∧
    (∀ x1, (Instr.cmpEq ⟨104, 0⟩ x1).wf = false) ∧
    (∀ x1, (Instr.cmpNe ⟨104, 0⟩ x1).wf = false) ∧
    (∀ x1, (Instr.cmpLtu ⟨104, 0⟩ x1).wf = false) ∧
    (∀ x1, (Instr.cmpLeu ⟨104, 0⟩ x1).wf = false) ∧
    (∀ x1, (Instr.cmpLts ⟨104, 0⟩ x1).wf = false) ∧
    (∀ x1, (Instr.cmpLes ⟨104, 0⟩ x1).wf = false) ∧
    (∀ x1, (Instr.spc ⟨104, 0⟩ x1).wf = false) ∧
    (∀ x1, (Instr.addi ⟨104, 0⟩ x1).wf = false) ∧
    (∀ x1, (Instr.andi ⟨104, 0⟩ x1).wf = false) ∧
    (∀ x1, (Instr.ori ⟨104, 0⟩ x1).wf = false) ∧
    (∀ x1, (Instr.xori ⟨104, 0⟩ x1).wf = false) ∧
    (∀ x1, (Instr.shli ⟨104, 0⟩ x1).wf = false) ∧
    (∀ x1, (Instr.shri ⟨104, 0⟩ x1).wf = false) ∧
    (∀ x1, (Instr.ldh0 ⟨104, 0⟩ x1).wf = false) ∧
    (∀ x1, (Instr.ldh1 ⟨104, 0⟩ x1).wf = false) := by
  refine ⟨?_, ?_, ?_, ?_, ?_, ?_, ?_, ?_, ?_, ?_, ?_, ?_, ?_, ?_, ?_, ?_, ?_, ?_, ?_, ?_, ?_, ?_, ?_, ?_, ?_, ?_, ?_, ?_, ?_, ?_⟩ <;> intros <;> rfl

/-- A site has a core below 104 and a context below 4 (R21, R129). -/
theorem test_wf_site_1 :
    (∀ x1, (Instr.ldh2 ⟨104, 0⟩ x1).wf = false) ∧
    (∀ x1, (Instr.ldh3 ⟨104, 0⟩ x1).wf = false) ∧
    (∀ x1, (Instr.kld ⟨104, 0⟩ x1).wf = false) ∧
    (∀ x1, (Instr.vadd ⟨104, 0⟩ x1).wf = false) ∧
    (∀ x1, (Instr.vsub ⟨104, 0⟩ x1).wf = false) ∧
    (∀ x1, (Instr.vand ⟨104, 0⟩ x1).wf = false) ∧
    (∀ x1, (Instr.vor ⟨104, 0⟩ x1).wf = false) ∧
    (∀ x1, (Instr.vxor ⟨104, 0⟩ x1).wf = false) ∧
    (∀ x1, (Instr.vandn ⟨104, 0⟩ x1).wf = false) ∧
    (∀ x1, (Instr.vshl ⟨104, 0⟩ x1).wf = false) ∧
    (∀ x1, (Instr.vshr ⟨104, 0⟩ x1).wf = false) ∧
    (∀ x1, (Instr.vsra ⟨104, 0⟩ x1).wf = false) ∧
    (∀ x1, (Instr.vmul ⟨104, 0⟩ x1).wf = false) ∧
    (∀ x1, (Instr.vmulhu ⟨104, 0⟩ x1).wf = false) ∧
    (∀ x1, (Instr.vmov ⟨104, 0⟩ x1).wf = false) ∧
    (∀ x1, (Instr.vcmpEq ⟨104, 0⟩ x1).wf = false) ∧
    (∀ x1, (Instr.vcmpNe ⟨104, 0⟩ x1).wf = false) ∧
    (∀ x1, (Instr.vcmpLtu ⟨104, 0⟩ x1).wf = false) ∧
    (∀ x1, (Instr.vcmpLeu ⟨104, 0⟩ x1).wf = false) ∧
    (∀ x1, (Instr.vcmpLts ⟨104, 0⟩ x1).wf = false) ∧
    (∀ x1, (Instr.vcmpLes ⟨104, 0⟩ x1).wf = false) ∧
    (∀ x1, (Instr.vsatuAdd ⟨104, 0⟩ x1).wf = false) ∧
    (∀ x1, (Instr.vsatuSub ⟨104, 0⟩ x1).wf = false) ∧
    (∀ x1, (Instr.vsatsAdd ⟨104, 0⟩ x1).wf = false) ∧
    (∀ x1, (Instr.vsatsSub ⟨104, 0⟩ x1).wf = false) ∧
    (∀ x1, (Instr.vminu ⟨104, 0⟩ x1).wf = false) ∧
    (∀ x1, (Instr.vmins ⟨104, 0⟩ x1).wf = false) ∧
    (∀ x1, (Instr.vmaxu ⟨104, 0⟩ x1).wf = false) ∧
    (∀ x1, (Instr.vmaxs ⟨104, 0⟩ x1).wf = false) ∧
    (∀ x1, (Instr.vsel ⟨104, 0⟩ x1).wf = false) := by
  refine ⟨?_, ?_, ?_, ?_, ?_, ?_, ?_, ?_, ?_, ?_, ?_, ?_, ?_, ?_, ?_, ?_, ?_, ?_, ?_, ?_, ?_, ?_, ?_, ?_, ?_, ?_, ?_, ?_, ?_, ?_⟩ <;> intros <;> rfl

/-- A site has a core below 104 and a context below 4 (R21, R129). -/
theorem test_wf_site_2 :
    (∀ x1, (Instr.vbcast ⟨104, 0⟩ x1).wf = false) ∧
    (∀ x1, (Instr.vext ⟨104, 0⟩ x1).wf = false) ∧
    (∀ x1, (Instr.vins ⟨104, 0⟩ x1).wf = false) ∧
    (∀ x1, (Instr.viota ⟨104, 0⟩ x1).wf = false) ∧
    (∀ x1, (Instr.vsum ⟨104, 0⟩ x1).wf = false) ∧
    (∀ x1, (Instr.vrminu ⟨104, 0⟩ x1).wf = false) ∧
    (∀ x1, (Instr.vrmaxu ⟨104, 0⟩ x1).wf = false) ∧
    (∀ x1, (Instr.vror ⟨104, 0⟩ x1).wf = false) ∧
    (∀ x1, (Instr.ppopc ⟨104, 0⟩ x1).wf = false) ∧
    (∀ x1, (Instr.pfirst ⟨104, 0⟩ x1).wf = false) ∧
    (∀ x1, (Instr.vaddi ⟨104, 0⟩ x1).wf = false) ∧
    (∀ x1, (Instr.vli ⟨104, 0⟩ x1).wf = false) ∧
    (∀ x1, (Instr.vshli ⟨104, 0⟩ x1).wf = false) ∧
    (∀ x1, (Instr.vshri ⟨104, 0⟩ x1).wf = false) ∧
    (∀ x1, (Instr.vandi ⟨104, 0⟩ x1).wf = false) ∧
    (∀ x1, (Instr.pand ⟨104, 0⟩ x1).wf = false) ∧
    (∀ x1, (Instr.por ⟨104, 0⟩ x1).wf = false) ∧
    (∀ x1, (Instr.pxor ⟨104, 0⟩ x1).wf = false) ∧
    (∀ x1, (Instr.pandn ⟨104, 0⟩ x1).wf = false) ∧
    (∀ x1, (Instr.pnot ⟨104, 0⟩ x1).wf = false) ∧
    (∀ x1, (Instr.ptos ⟨104, 0⟩ x1).wf = false) ∧
    (∀ x1, (Instr.pfroms ⟨104, 0⟩ x1).wf = false) ∧
    (∀ x1, (Instr.bkt ⟨104, 0⟩ x1).wf = false) ∧
    (∀ x1, (Instr.sld ⟨104, 0⟩ x1).wf = false) ∧
    (∀ x1, (Instr.sst ⟨104, 0⟩ x1).wf = false) ∧
    (∀ x1, (Instr.cld ⟨104, 0⟩ x1).wf = false) ∧
    (∀ x1, (Instr.cst ⟨104, 0⟩ x1).wf = false) ∧
    (∀ x1, (Instr.rpt ⟨104, 0⟩ x1).wf = false) ∧
    (∀ x1, (Instr.hnt ⟨104, 0⟩ x1).wf = false) ∧
    (∀ x1, (Instr.tbl ⟨104, 0⟩ x1).wf = false) := by
  refine ⟨?_, ?_, ?_, ?_, ?_, ?_, ?_, ?_, ?_, ?_, ?_, ?_, ?_, ?_, ?_, ?_, ?_, ?_, ?_, ?_, ?_, ?_, ?_, ?_, ?_, ?_, ?_, ?_, ?_, ?_⟩ <;> intros <;> rfl

/-- A site has a core below 104 and a context below 4 (R21, R129). -/
theorem test_wf_site_3 :
    (∀ x1, (Instr.wait ⟨104, 0⟩ x1).wf = false) ∧
    (∀ x1, (Instr.fenceI ⟨104, 0⟩ x1).wf = false) ∧
    (∀ x1, (Instr.gemit ⟨104, 0⟩ x1).wf = false) ∧
    (∀ x1, (Instr.br ⟨104, 0⟩ x1).wf = false) ∧
    (∀ x1, (Instr.brAny ⟨104, 0⟩ x1).wf = false) ∧
    (∀ x1, (Instr.brNone ⟨104, 0⟩ x1).wf = false) ∧
    (∀ x1, (Instr.brAll ⟨104, 0⟩ x1).wf = false) ∧
    (∀ x1, (Instr.brNall ⟨104, 0⟩ x1).wf = false) ∧
    (∀ x1, (Instr.loopI ⟨104, 0⟩ x1).wf = false) ∧
    (∀ x1, (Instr.endl ⟨104, 0⟩ x1).wf = false) ∧
    (∀ x1, (Instr.halt ⟨104, 0⟩ x1).wf = false) ∧
    (Instr.coreUpset ⟨104, 0⟩).wf = false := by
  refine ⟨?_, ?_, ?_, ?_, ?_, ?_, ?_, ?_, ?_, ?_, ?_, ?_⟩ <;> intros <;> rfl

/-- The function or condition field selects the mnemonic (chapter 06). -/
theorem test_wf_function_0 :
    (Instr.iadd ⟨0, 0⟩ badFn).wf = false ∧
    (Instr.isub ⟨0, 0⟩ badFn).wf = false ∧
    (Instr.iand ⟨0, 0⟩ badFn).wf = false ∧
    (Instr.ior ⟨0, 0⟩ badFn).wf = false ∧
    (Instr.ixor ⟨0, 0⟩ badFn).wf = false ∧
    (Instr.andn ⟨0, 0⟩ badFn).wf = false ∧
    (Instr.shl ⟨0, 0⟩ badFn).wf = false ∧
    (Instr.shr ⟨0, 0⟩ badFn).wf = false ∧
    (Instr.sra ⟨0, 0⟩ badFn).wf = false ∧
    (Instr.mul ⟨0, 0⟩ badFn).wf = false ∧
    (Instr.mulhu ⟨0, 0⟩ badFn).wf = false ∧
    (Instr.minu ⟨0, 0⟩ badFn).wf = false ∧
    (Instr.maxu ⟨0, 0⟩ badFn).wf = false ∧
    (Instr.mins ⟨0, 0⟩ badFn).wf = false ∧
    (Instr.maxs ⟨0, 0⟩ badFn).wf = false ∧
    (Instr.cmpEq ⟨0, 0⟩ badFn).wf = false ∧
    (Instr.cmpNe ⟨0, 0⟩ badFn).wf = false ∧
    (Instr.cmpLtu ⟨0, 0⟩ badFn).wf = false ∧
    (Instr.cmpLeu ⟨0, 0⟩ badFn).wf = false ∧
    (Instr.cmpLts ⟨0, 0⟩ badFn).wf = false ∧
    (Instr.cmpLes ⟨0, 0⟩ badFn).wf = false ∧
    (Instr.vadd ⟨0, 0⟩ badFn).wf = false ∧
    (Instr.vsub ⟨0, 0⟩ badFn).wf = false ∧
    (Instr.vand ⟨0, 0⟩ badFn).wf = false ∧
    (Instr.vor ⟨0, 0⟩ badFn).wf = false ∧
    (Instr.vxor ⟨0, 0⟩ badFn).wf = false ∧
    (Instr.vandn ⟨0, 0⟩ badFn).wf = false ∧
    (Instr.vshl ⟨0, 0⟩ badFn).wf = false ∧
    (Instr.vshr ⟨0, 0⟩ badFn).wf = false ∧
    (Instr.vsra ⟨0, 0⟩ badFn).wf = false := by
  refine ⟨?_, ?_, ?_, ?_, ?_, ?_, ?_, ?_, ?_, ?_, ?_, ?_, ?_, ?_, ?_, ?_, ?_, ?_, ?_, ?_, ?_, ?_, ?_, ?_, ?_, ?_, ?_, ?_, ?_, ?_⟩ <;> rfl

/-- The function or condition field selects the mnemonic (chapter 06). -/
theorem test_wf_function_1 :
    (Instr.vmul ⟨0, 0⟩ badFn).wf = false ∧
    (Instr.vmulhu ⟨0, 0⟩ badFn).wf = false ∧
    (Instr.vmov ⟨0, 0⟩ badFn).wf = false ∧
    (Instr.vcmpEq ⟨0, 0⟩ badFn).wf = false ∧
    (Instr.vcmpNe ⟨0, 0⟩ badFn).wf = false ∧
    (Instr.vcmpLtu ⟨0, 0⟩ badFn).wf = false ∧
    (Instr.vcmpLeu ⟨0, 0⟩ badFn).wf = false ∧
    (Instr.vcmpLts ⟨0, 0⟩ badFn).wf = false ∧
    (Instr.vcmpLes ⟨0, 0⟩ badFn).wf = false ∧
    (Instr.vsatuAdd ⟨0, 0⟩ badFn).wf = false ∧
    (Instr.vsatuSub ⟨0, 0⟩ badFn).wf = false ∧
    (Instr.vsatsAdd ⟨0, 0⟩ badFn).wf = false ∧
    (Instr.vsatsSub ⟨0, 0⟩ badFn).wf = false ∧
    (Instr.vminu ⟨0, 0⟩ badFn).wf = false ∧
    (Instr.vmins ⟨0, 0⟩ badFn).wf = false ∧
    (Instr.vmaxu ⟨0, 0⟩ badFn).wf = false ∧
    (Instr.vmaxs ⟨0, 0⟩ badFn).wf = false ∧
    (Instr.vbcast ⟨0, 0⟩ badFn).wf = false ∧
    (Instr.vext ⟨0, 0⟩ badFn).wf = false ∧
    (Instr.vins ⟨0, 0⟩ badFn).wf = false ∧
    (Instr.viota ⟨0, 0⟩ badFn).wf = false ∧
    (Instr.vsum ⟨0, 0⟩ badFn).wf = false ∧
    (Instr.vrminu ⟨0, 0⟩ badFn).wf = false ∧
    (Instr.vrmaxu ⟨0, 0⟩ badFn).wf = false ∧
    (Instr.vror ⟨0, 0⟩ badFn).wf = false ∧
    (Instr.ppopc ⟨0, 0⟩ badFn).wf = false ∧
    (Instr.pfirst ⟨0, 0⟩ badFn).wf = false ∧
    (Instr.pand ⟨0, 0⟩ badFn).wf = false ∧
    (Instr.por ⟨0, 0⟩ badFn).wf = false ∧
    (Instr.pxor ⟨0, 0⟩ badFn).wf = false := by
  refine ⟨?_, ?_, ?_, ?_, ?_, ?_, ?_, ?_, ?_, ?_, ?_, ?_, ?_, ?_, ?_, ?_, ?_, ?_, ?_, ?_, ?_, ?_, ?_, ?_, ?_, ?_, ?_, ?_, ?_, ?_⟩ <;> rfl

/-- The function or condition field selects the mnemonic (chapter 06). -/
theorem test_wf_function_2 :
    (Instr.pandn ⟨0, 0⟩ badFn).wf = false ∧
    (Instr.pnot ⟨0, 0⟩ badFn).wf = false ∧
    (Instr.ptos ⟨0, 0⟩ badFn).wf = false ∧
    (Instr.pfroms ⟨0, 0⟩ badFn).wf = false ∧
    (Instr.br ⟨0, 0⟩ badCond).wf = false ∧
    (Instr.brAny ⟨0, 0⟩ badCond).wf = false ∧
    (Instr.brNone ⟨0, 0⟩ badCond).wf = false ∧
    (Instr.brAll ⟨0, 0⟩ badCond).wf = false ∧
    (Instr.brNall ⟨0, 0⟩ badCond).wf = false := by
  refine ⟨?_, ?_, ?_, ?_, ?_, ?_, ?_, ?_, ?_⟩ <;> rfl

/-- A descriptor names its row's opcode (R242). -/
theorem test_wf_opcode_0 :
    (Instr.enable badOp).wf = false ∧
    (Instr.disable badOp).wf = false ∧
    (Instr.setRoadLength badOp).wf = false ∧
    (Instr.setSubchParams badOp).wf = false ∧
    (Instr.setDiscovery badOp).wf = false ∧
    (Instr.resetTree badOp).wf = false ∧
    (Instr.addTerminal badOp).wf = false ∧
    (Instr.removeTerminal badOp).wf = false ∧
    (Instr.deactivateTerminal badOp).wf = false ∧
    (Instr.disableSerial badOp).wf = false ∧
    (Instr.enableSerial badOp).wf = false ∧
    (Instr.setBurstProfile badOp).wf = false ∧
    (Instr.setRanging badOp).wf = false ∧
    (Instr.rangeTerminal badOp).wf = false ∧
    (Instr.isolateRogue badOp).wf = false ∧
    (Instr.readUnknown badOp).wf = false ∧
    (Instr.readTerminal badOp).wf = false ∧
    (Instr.readSubchAct badOp).wf = false ∧
    (Instr.sendPloam badOp).wf = false ∧
    (Instr.sendOmci badOp).wf = false ∧
    (Instr.bindTerminalRx badOp).wf = false ∧
    (Instr.installUnit badOp).wf = false ∧
    (Instr.retireUnit badOp).wf = false ∧
    (Instr.modifyUnit badOp).wf = false ∧
    (Instr.postHint badOp).wf = false ∧
    (Instr.setHintVlan badOp).wf = false ∧
    (Instr.readUnitLedger badOp).wf = false ∧
    (Instr.createFlow badOp).wf = false ∧
    (Instr.destroyFlow badOp).wf = false ∧
    (Instr.modifyFlow badOp).wf = false := by
  refine ⟨?_, ?_, ?_, ?_, ?_, ?_, ?_, ?_, ?_, ?_, ?_, ?_, ?_, ?_, ?_, ?_, ?_, ?_, ?_, ?_, ?_, ?_, ?_, ?_, ?_, ?_, ?_, ?_, ?_, ?_⟩ <;> rfl

/-- A descriptor names its row's opcode (R242). -/
theorem test_wf_opcode_1 :
    (Instr.readFlow badOp).wf = false ∧
    (Instr.joinFlood badOp).wf = false ∧
    (Instr.leaveFlood badOp).wf = false ∧
    (Instr.setFlowSched badOp).wf = false ∧
    (Instr.setNodeSched badOp).wf = false ∧
    (Instr.setPolicer badOp).wf = false ∧
    (Instr.setPortSched badOp).wf = false ∧
    (Instr.setGateList badOp).wf = false ∧
    (Instr.readQueue badOp).wf = false ∧
    (Instr.setSteer badOp).wf = false ∧
    (Instr.addEntry badOp).wf = false ∧
    (Instr.deleteEntry badOp).wf = false ∧
    (Instr.searchEntry badOp).wf = false ∧
    (Instr.nextEntry badOp).wf = false ∧
    (Instr.walkEnd badOp).wf = false ∧
    (Instr.flushByPort badOp).wf = false ∧
    (Instr.rehash badOp).wf = false ∧
    (Instr.configPort badOp).wf = false ∧
    (Instr.portUp badOp).wf = false ∧
    (Instr.portDown badOp).wf = false ∧
    (Instr.setCipher badOp).wf = false ∧
    (Instr.setKeyPolicy badOp).wf = false ∧
    (Instr.installPonKey badOp).wf = false ∧
    (Instr.switchPonKey badOp).wf = false ∧
    (Instr.configSecy badOp).wf = false ∧
    (Instr.installSa badOp).wf = false ∧
    (Instr.enableSa badOp).wf = false ∧
    (Instr.removeSa badOp).wf = false ∧
    (Instr.readSa badOp).wf = false ∧
    (Instr.rekeyTerminal badOp).wf = false := by
  refine ⟨?_, ?_, ?_, ?_, ?_, ?_, ?_, ?_, ?_, ?_, ?_, ?_, ?_, ?_, ?_, ?_, ?_, ?_, ?_, ?_, ?_, ?_, ?_, ?_, ?_, ?_, ?_, ?_, ?_, ?_⟩ <;> rfl

/-- A descriptor names its row's opcode (R242). -/
theorem test_wf_opcode_2 :
    (Instr.loadProgram badOp).wf = false ∧
    (Instr.activateProgram badOp).wf = false ∧
    (Instr.activateProgramCancel badOp).wf = false ∧
    (Instr.writeTable badOp).wf = false ∧
    (Instr.readTable badOp).wf = false ∧
    (Instr.readCoreDiag badOp).wf = false ∧
    (Instr.takeWaypoint badOp).wf = false ∧
    (Instr.returnWaypoint badOp).wf = false ∧
    (Instr.pinWaypoint badOp).wf = false ∧
    (Instr.listWaypoints badOp).wf = false ∧
    (Instr.releaseHold badOp).wf = false ∧
    (Instr.factoryClean badOp).wf = false ∧
    (Instr.updBegin badOp).wf = false ∧
    (Instr.updPiece badOp).wf = false ∧
    (Instr.updVerify badOp).wf = false ∧
    (Instr.activate badOp).wf = false ∧
    (Instr.activateAt badOp).wf = false ∧
    (Instr.confirm badOp).wf = false ∧
    (Instr.updFallback badOp).wf = false ∧
    (Instr.updAbort badOp).wf = false ∧
    (Instr.updStatus badOp).wf = false ∧
    (Instr.recBind badOp).wf = false ∧
    (Instr.recUnbind badOp).wf = false ∧
    (Instr.recRead badOp).wf = false ∧
    (Instr.getClearNonce badOp).wf = false ∧
    (Instr.clearRecords badOp).wf = false ∧
    (Instr.readClearLedger badOp).wf = false ∧
    (Instr.setClearKey badOp).wf = false ∧
    (Instr.setTime badOp).wf = false ∧
    (Instr.setPtpPort badOp).wf = false := by
  refine ⟨?_, ?_, ?_, ?_, ?_, ?_, ?_, ?_, ?_, ?_, ?_, ?_, ?_, ?_, ?_, ?_, ?_, ?_, ?_, ?_, ?_, ?_, ?_, ?_, ?_, ?_, ?_, ?_, ?_, ?_⟩ <;> rfl

/-- A descriptor names its row's opcode (R242). -/
theorem test_wf_opcode_3 :
    (Instr.bindPtpRx badOp).wf = false ∧
    (Instr.sendPtp badOp).wf = false ∧
    (Instr.computeTod badOp).wf = false ∧
    (Instr.pairConfig badOp).wf = false ∧
    (Instr.pairJoin badOp).wf = false ∧
    (Instr.pairLeave badOp).wf = false ∧
    (Instr.switchOver badOp).wf = false ∧
    (Instr.forceActive badOp).wf = false ∧
    (Instr.treePair badOp).wf = false ∧
    (Instr.treeUnpair badOp).wf = false ∧
    (Instr.switchTree badOp).wf = false ∧
    (Instr.readPair badOp).wf = false ∧
    (Instr.openDomain badOp).wf = false ∧
    (Instr.teardownDomain badOp).wf = false ∧
    (Instr.registerWindow badOp).wf = false ∧
    (Instr.removeWindow badOp).wf = false ∧
    (Instr.setHostPool badOp).wf = false ∧
    (Instr.postBuffers badOp).wf = false ∧
    (Instr.reclaimBuffers badOp).wf = false ∧
    (Instr.setPoolLayout badOp).wf = false ∧
    (Instr.growPool badOp).wf = false ∧
    (Instr.readPools badOp).wf = false ∧
    (Instr.retireHw badOp).wf = false ∧
    (Instr.returnHw badOp).wf = false ∧
    (Instr.runSelfTest badOp).wf = false ∧
    (Instr.readHealth badOp).wf = false := by
  refine ⟨?_, ?_, ?_, ?_, ?_, ?_, ?_, ?_, ?_, ?_, ?_, ?_, ?_, ?_, ?_, ?_, ?_, ?_, ?_, ?_, ?_, ?_, ?_, ?_, ?_, ?_⟩ <;> rfl

/-- Indices and bytes out of the range that their rule gives are refused. -/
theorem test_wf_range_0 :
    (Instr.roadbookDelivery 384).wf = false ∧
    (∀ x1 x3, (Instr.burstReception 384 x1 0 x3).wf = false) ∧
    (∀ x1 x3, (Instr.burstReception 0 x1 2048 x3).wf = false) ∧
    (∀ x1 x3, (Instr.burstOutcome 384 x1 0 x3).wf = false) ∧
    (∀ x1 x3, (Instr.burstOutcome 0 x1 2048 x3).wf = false) ∧
    (Instr.maintWindow 96).wf = false ∧
    (Instr.memoryOpComplete 104 0 0).wf = false ∧
    (Instr.memoryOpComplete 0 4 0).wf = false ∧
    (Instr.memoryOpComplete 0 0 480).wf = false ∧
    (Instr.coreLost 104).wf = false ∧
    (Instr.coreSpareLoaded 104).wf = false ∧
    (Instr.channelUnitLost 2 0 0).wf = false ∧
    (Instr.channelUnitLost 0 4 0).wf = false ∧
    (Instr.channelUnitLost 0 0 104).wf = false ∧
    (∀ x1, (Instr.snResponse 384 x1).wf = false) ∧
    (∀ x2, (Instr.registrationResponse 384 0 x2).wf = false) ∧
    (∀ x2, (Instr.registrationResponse 0 512 x2).wf = false) ∧
    (Instr.rangingProcess 384 0).wf = false ∧
    (Instr.rangingProcess 0 512).wf = false ∧
    (Instr.rangingWindowClose 384 0).wf = false ∧
    (Instr.rangingWindowClose 0 512).wf = false ∧
    (Instr.rangingTimePeriodEnd 384 0).wf = false ∧
    (Instr.rangingTimePeriodEnd 0 512).wf = false ∧
    (Instr.terminalLost 384 0).wf = false ∧
    (Instr.terminalLost 0 512).wf = false ∧
    (Instr.upstreamPloam 384 0 []).wf = false ∧
    (Instr.upstreamPloam 0 512 []).wf = false ∧
    (Instr.upstreamPloam 0 0 [256]).wf = false ∧
    (Instr.upstreamOmci 384 0 [] []).wf = false ∧
    (Instr.upstreamOmci 0 512 [] []).wf = false := by
  refine ⟨?_, ?_, ?_, ?_, ?_, ?_, ?_, ?_, ?_, ?_, ?_, ?_, ?_, ?_, ?_, ?_, ?_, ?_, ?_, ?_, ?_, ?_, ?_, ?_, ?_, ?_, ?_, ?_, ?_, ?_⟩ <;> intros <;> rfl

/-- Indices and bytes out of the range that their rule gives are refused. -/
theorem test_wf_range_1 :
    (Instr.upstreamOmci 0 0 [256] []).wf = false ∧
    (Instr.upstreamOmci 0 0 [] [256]).wf = false ∧
    (Instr.recoveryPeriodEnd 384).wf = false ∧
    (∀ x1 x2, (Instr.rogueLight 384 x1 x2).wf = false) ∧
    (Instr.rogueObserveEnd 384).wf = false ∧
    (Instr.keyReport 384 0 []).wf = false ∧
    (Instr.keyReport 0 512 []).wf = false ∧
    (Instr.keyReport 0 0 [256]).wf = false ∧
    (Instr.rekeyTimer 384 0).wf = false ∧
    (Instr.rekeyTimer 0 512).wf = false ∧
    (Instr.keyRequestTimeout 384 0).wf = false ∧
    (Instr.keyRequestTimeout 0 512).wf = false ∧
    (Instr.hintFrame 128 0 []).wf = false ∧
    (Instr.hintFrame 0 4096 []).wf = false ∧
    (Instr.hintFrame 0 0 [256]).wf = false ∧
    (∀ x1, (Instr.ptpFrameTrap 129 x1).wf = false) ∧
    (Instr.learn 8).wf = false ∧
    (Instr.learnNotice 8).wf = false ∧
    (Instr.stashReturn 8).wf = false ∧
    (Instr.ageingSweep 8 0).wf = false ∧
    (Instr.freezeExpiry 8 0 0 0).wf = false ∧
    (Instr.freezeExpiry 0 (2 ^ 48) 0 0).wf = false ∧
    (Instr.freezeExpiry 0 0 4096 0).wf = false ∧
    (Instr.freezeExpiry 0 0 0 64).wf = false ∧
    (Instr.walkTimeout 8).wf = false ∧
    (∀ x1, (Instr.flushDone 8 x1).wf = false) ∧
    (Instr.rehashDone 8).wf = false ∧
    (Instr.cacheRefill 4 0).wf = false ∧
    (Instr.cacheRefill 0 17).wf = false ∧
    (∀ x1, (Instr.dataWriteTimeout 4 x1).wf = false) := by
  refine ⟨?_, ?_, ?_, ?_, ?_, ?_, ?_, ?_, ?_, ?_, ?_, ?_, ?_, ?_, ?_, ?_, ?_, ?_, ?_, ?_, ?_, ?_, ?_, ?_, ?_, ?_, ?_, ?_, ?_, ?_⟩ <;> intros <;> rfl

/-- Indices and bytes out of the range that their rule gives are refused. -/
theorem test_wf_range_2 :
    (∀ x2, (Instr.hbmUncorrectable 8 0 x2).wf = false) ∧
    (∀ x2, (Instr.hbmUncorrectable 0 32 x2).wf = false) ∧
    (Instr.hbmPcDetour 8 0).wf = false ∧
    (Instr.hbmPcDetour 0 32).wf = false ∧
    (∀ x1, (Instr.tail 1009 x1).wf = false) ∧
    (∀ x1 x2, (Instr.descriptorAcceptance 1009 x1 x2).wf = false) ∧
    (∀ x1, (Instr.completionPost 1009 x1).wf = false) ∧
    (Instr.ringEnable 1009).wf = false ∧
    (Instr.ringDisable 1009).wf = false ∧
    (Instr.ringStopDone 1009).wf = false ∧
    (∀ x1, (Instr.cplHead 1009 x1).wf = false) ∧
    (Instr.vectorSignal 64 0).wf = false ∧
    (Instr.ledgerSel 384).wf = false ∧
    (∀ x1, (Instr.plSel 192 x1).wf = false) ∧
    (Instr.plReadDone 192).wf = false ∧
    (Instr.rclkResume 2).wf = false ∧
    (∀ x1, (Instr.warmReq 64 x1).wf = false) ∧
    (∀ x1, (Instr.testCtl 516 x1).wf = false) ∧
    (∀ x1, (Instr.injectW 516 x1).wf = false) ∧
    (Instr.portDrainEnd 128).wf = false ∧
    (Instr.readSensors 3).wf = false ∧
    (Instr.readRecord 3).wf = false ∧
    (Instr.getCert 3).wf = false ∧
    (Instr.attest 3).wf = false ∧
    (Instr.mbxGetClearNonce 3).wf = false ∧
    (Instr.mbxClearRecords 3).wf = false ∧
    (Instr.readLr 3).wf = false ∧
    (Instr.mbxReadClearLedger 3).wf = false ∧
    (∀ x1, (Instr.moduleIo 3 x1).wf = false) ∧
    (Instr.updFrag 3).wf = false := by
  refine ⟨?_, ?_, ?_, ?_, ?_, ?_, ?_, ?_, ?_, ?_, ?_, ?_, ?_, ?_, ?_, ?_, ?_, ?_, ?_, ?_, ?_, ?_, ?_, ?_, ?_, ?_, ?_, ?_, ?_, ?_⟩ <;> intros <;> rfl

/-- Indices and bytes out of the range that their rule gives are refused. -/
theorem test_wf_range_3 :
    (Instr.mbxUpdStatus 3).wf = false ∧
    (∀ x2, (Instr.blockWrite 256 [] x2).wf = false) ∧
    (∀ x2, (Instr.blockWrite 0 [256] x2).wf = false) ∧
    (∀ x1, (Instr.sendByte 256 x1).wf = false) ∧
    (Instr.dbgResponse [256]).wf = false ∧
    (∀ x1, (Instr.thermalConversion 96 x1).wf = false) ∧
    (∀ x1, (Instr.voltageConversion 48 x1).wf = false) ∧
    (∀ x1, (Instr.hbmTempRead 8 x1).wf = false) ∧
    (Instr.recorderCommit 4096).wf = false ∧
    (Instr.recMemFail 2).wf = false ∧
    (Instr.swapBlock 512).wf = false ∧
    (Instr.revertBlock 512).wf = false ∧
    (∀ x1, (Instr.batchDigestRequest 96 x1).wf = false) ∧
    (∀ x1, (Instr.roadbookForward 384 x1).wf = false) ∧
    (Instr.syncLaneRestore 516).wf = false ∧
    (Instr.d2dFlitRetry 6 0).wf = false ∧
    (Instr.d2dFlitRetry 0 4).wf = false ∧
    (∀ x1 x2 x3, (Instr.d2dLaneRepair 6 x1 x2 x3).wf = false) ∧
    (Instr.laneIdleExit 516).wf = false ∧
    (∀ x1, (Instr.laneTrainingDone 516 x1).wf = false) ∧
    (∀ x1 x2, (Instr.marginMeasurement 516 x1 x2).wf = false) ∧
    (Instr.laneDown 516).wf = false ∧
    (Instr.laneLost 516).wf = false ∧
    (Instr.commaAligned 516).wf = false ∧
    (Instr.vaoSingle 2).wf = false ∧
    (Instr.laneSignalDetect 516).wf = false ∧
    (Instr.vectorUnmask 64 0).wf = false ∧
    (Instr.checkerLock 516).wf = false ∧
    (Instr.checkerLockLoss 516).wf = false := by
  refine ⟨?_, ?_, ?_, ?_, ?_, ?_, ?_, ?_, ?_, ?_, ?_, ?_, ?_, ?_, ?_, ?_, ?_, ?_, ?_, ?_, ?_, ?_, ?_, ?_, ?_, ?_, ?_, ?_, ?_⟩ <;> intros <;> rfl

/-- The other checks: objects, units of a class, frames, ports, lock registers, accesses, records. -/
theorem test_wf_other :
    (Instr.drainDone .subch 384).wf = false ∧ (Instr.drainDone .term 196608).wf = false ∧
    (Instr.drainDone .unit 1048576).wf = false ∧ (Instr.drainDone .flow 1048576).wf = false ∧
    (Instr.drainDone .domain 64).wf = false ∧ (Instr.unitFault 11 0).wf = false ∧ (Instr.unitFault 0 104).wf = false ∧
    (Instr.faultWindowExpiry 6 24).wf = false ∧ (Instr.katTest 3 1408 true).wf = false ∧
    (Instr.selfTestRotation 4 2048 true).wf = false ∧ (Instr.cipherChunk ⟨false, 4, 0, 0, false, 0, 0, [], none⟩).wf = false ∧
    (Instr.cipherChunk ⟨true, 0, 1024, 0, false, 0, 0, [], none⟩).wf = false ∧
    (Instr.uplinkFrameIngress ⟨128, 64, true, false, none, [], 0, 0, 0, none, (0, 0), []⟩).wf = false ∧
    (Instr.uplinkFrameIngress ⟨0, 64, true, false, none, [⟨0x8100, 0, false, 4096⟩], 0, 0, 0, none, (0, 0), []⟩).wf = false ∧
    (Instr.upstreamFrame ⟨384, 0, 0, 0, 0, 0, 64, [], 0, 0, true⟩).wf = false ∧
    (Instr.frameDequeue 384).wf = false ∧ (Instr.gateEntryExpiry 640).wf = false ∧ (Instr.gateListActive 511).wf = false ∧
    (Instr.registerWrite ⟨64, 0, 0, 4⟩ 0).wf = false ∧ (Instr.wrongWidthAccess ⟨0, 1, 0, 4⟩ false).wf = false ∧
    (Instr.registerRead ⟨0, 0, 0x4000000, 4⟩).wf = false ∧
    (Instr.hintRecord ⟨64, 0, 0, 0, 0⟩).wf = false ∧ (Instr.functionLevelReset 0).wf = false ∧
    (Instr.functionLevelReset 64).wf = false ∧ (Instr.rogueLight 0 ⟨1, 0⟩ false).wf = false ∧
    (Instr.d2dLaneRepair 0 ⟨4, 0⟩ 0 false).wf = false ∧ (Instr.d2dLaneRepair 0 ⟨0, 2⟩ 0 false).wf = false := by
  refine ⟨?_, ?_, ?_, ?_, ?_, ?_, ?_, ?_, ?_, ?_, ?_, ?_, ?_, ?_, ?_, ?_, ?_, ?_, ?_, ?_, ?_, ?_, ?_, ?_, ?_, ?_, ?_⟩ <;> rfl

/-- A descriptor whose fields do not fit, and a lock write at an address that holds no lock (R11, R237). -/
theorem test_wf_descriptor :
    (Instr.enable { dz with opcode := 0x0101, flags := 256 }).wf = false ∧
    (Instr.enable { dz with opcode := 0x0101, inp := [256] }).wf = false ∧
    (Instr.journalEntryRecord { dz with ring := 1024 } none).wf = false ∧
    (Instr.ctlLock 0).wf = false := by decide

/-! States and commands that the worked examples and the witnesses use. -/

/-- A host command with these parameters and input bytes, for domain `d`. -/
def cmd (op : Nat) (p : List Nat) (inp : List Nat := []) (d : Nat := 0) : Desc :=
  ⟨0, 9, op, 0, d, 0, 0, 0, inp.length, 0, 0, if inp.isEmpty then 0 else 64, BitVec.ofNat 32 (p.getD 0 0),
    BitVec.ofNat 32 (p.getD 1 0), BitVec.ofNat 32 (p.getD 2 0), BitVec.ofNat 32 (p.getD 3 0),
    BitVec.ofNat 32 (p.getD 4 0), BitVec.ofNat 32 (p.getD 5 0), inp, false, 0⟩
/-- A host command with an output buffer of `n` bytes. -/
def cmdOut (op : Nat) (p : List Nat) (n : Nat) (d : Nat := 0) : Desc := { cmd op p [] d with bufLen := n, buf := 64 }
/-- The device serving, with a management core and a running generator. -/
def w0 : State :=
  { (State.reset.setReg 0xF0000 6).setReg (mgtA 0) 0x10 with
    clk := ⟨true, 1000, 5000, .afterSnapshot, 240005000⟩ }
/-- Whether the premises of `Starts` hold for a command the journal does not list. -/
def startsB (i : CmdInfo) (c : Desc) (s : State) : Bool :=
  s.serving && (s.jrnFind c.acc).isNone && s.wpLast.isNone && !s.mustWait c && decide (c.upsets < 2) &&
    (i.check c (s.jrnStart c)).1.isNone
theorem starts_of {i : CmdInfo} {c : Desc} {s : State} (h : startsB i c s = true) : Starts i c s := by
  simp only [startsB, Bool.and_eq_true, Bool.not_eq_true', Option.isNone_iff_eq_none, decide_eq_true_eq] at h
  exact starts_fresh h.1.1.1.1.1 h.1.1.1.1.2 h.1.1.1.2 h.1.1.2 h.1.2 h.2
/-- A pair whose first component is known. -/
theorem pair_of {α : Type} {x : Bool × α} {b : Bool} (h : x.1 = b) : x = (b, x.2) := by
  cases x
  cases h
  rfl
/-- Terminals of sub-channel 0 in every activation state: the terminal of number `t` in the state of code `t`. -/
def wP : State :=
  ((((((((((w0.setSub 0 { w0.sub 0 with road := .enabled, lit := true }).setSub 2 { w0.sub 2 with road := .draining }).setTerm
    0 1 { act := .registered, serial := 0x11 }).setTerm 0 2 { act := .discovered, serial := 0x12 }).setTerm
    0 3 { act := .ranging, serial := 0x13 }).setTerm 0 4 { act := .operation, road := .enabled, serial := 0x14 }).setTerm
    0 5 { act := .draining, serial := 0x15 }).setTerm 0 6 { act := .disabled, serial := 0x16 }).setTerm
    0 7 { act := .operation, road := .enabled, pre := { valid := true, stamp := 1000#24 } }).setTerm
    0 8 { act := .registered, dom := 5 }).setReg (subA 0 8) 100
/-- Windows of roadbook 990 on sub-channel 0 for every terminal and for terminals 3 and 7. -/
def wA : State :=
  ((((wP.modSub 0 (fun x => { x with disc := { x.disc with recovery := some 1000, windows := [⟨990, none, false, 100, 50, false⟩,
      ⟨990, some 3, true, 300, 50, false⟩] } })).modTerm 0 4 (fun x => { x with rtFrame := some 900, held := some 5, emptyRun := 8 })).modTerm
    0 7 (fun x => { x with rtFrame := some 1000 })).setTerm 0 10 { act := .ranging, resp := some (100, [1, 2], {}) }).setTerm
    0 11 { act := .ranging, resp := some (8000001, [1, 2], {}) }
/-- Allocation units 0 to 3: enabled, installed by a change still to come, draining, another domain's. -/
def wU : State :=
  (((((wP.setUnit 0 { inst := true, sc := 0, term := 4, alloc := 1024, road := .enabled }).setUnit
    1 { inst := true, sc := 0, term := 4, alloc := 1025, installE := some 1002 }).setUnit
    2 { inst := true, sc := 0, term := 4, alloc := 1026, road := .draining, drainE := some 999 }).setUnit
    3 { inst := true, dom := 5, alloc := 1027 }).setUnit 4 { inst := true, sc := 0, term := 4, road := .resuming, drainE := some 996 }).setUnit
    5 { inst := true, sc := 0, term := 4, road := .draining, drainE := some 996 }
/-- Planning groups 0 to 3: nothing loaded, loaded, admitted, armed for milestones 1000 and 1002. -/
def wG : State :=
  (((w0.setGroup 1 { shadow := .loaded }).setGroup 2 { shadow := .admitted }).setGroup 3 { shadow := .armed, swapMsc := 1000 }).setGroup
    4 { shadow := .armed, swapMsc := 1002 }
/-- A load in the journal whose image is too short. -/
def wV : State :=
  { (w0.jrnStart (cmd 0x0701 [1, 0, 0, 0] [1, 2])) with grant := { w0.grant with verifying := [(9, [0])] } }
/-- A flow block on terminal 4 of sub-channel 0, kind 0 (1:1), with an XGEM port and an outer VID. -/
def flowBlk (xgem vid : Nat) : List Nat := leBytes 2 0 ++ leBytes 2 4 ++ leBytes 2 xgem ++ [1, 0] ++ leBytes 2 vid ++ List.replicate 54 0
/-- Flows 0 to 2: enabled; another domain's; enabled and a member of its flood list. -/
def wF : State :=
  ((((wP.setFlow 0 { inst := true, sc := 0, term := 4, xgem := 1024, kind := 1, outerVid := 3, road := .enabled }).setFlow
    1 { inst := true, dom := 5, road := .enabled }).setFlow 2 { inst := true, sc := 47, term := 4, outerVid := 2, road := .enabled }).setFlow
    3 { inst := true, sc := 0, road := .resuming, drainE := some 996 }).setPipe 0 { floods := [(2, [2])] }
/-- A learned entry of MAC `m` on VLAN 7 and an ADD_ENTRY block. -/
def ent (m : Nat) : MacEnt := ⟨m, 7, 0, false, false, true, true, 5, 0, 5, 0, 0, 0, 0, 0⟩
def entBlk (mac vid port : Nat) : List Nat := leBytes 6 mac ++ leBytes 2 vid ++ [0, 18, 0, 0] ++ leBytes 4 port ++ List.replicate 16 0
/-- Pipeline 0 with one entry in its stash, pipeline 1 rehashing. -/
def wM : State := (w0.setPipe 0 { stash := [(0, some (ent 1))] }).setPipe 1 { rehash := some (8, 3#32) }
/-- Nine MAC addresses with one pair of candidate buckets: eight fill both buckets, the ninth is in the stash. -/
def wN : State :=
  w0.setPipe 0 { table := [(5784, some (ent 0x0)), (5785, some (ent 0x105ec76f1)), (5786, some (ent 0x20bd8ede2)), (5787, some (ent 0x30e349b13)), 
      (257004, some (ent 0x417b1dbc4)), (257005, some (ent 0x5125dad35)), (257006, some (ent 0x61c693626)), (257007, some (ent 0x7198540d7))]
                 stash := [(0, some (ent 0x82f63b788))] }
/-- Uplink port 0 up, port 1 down; VLAN 8 of port 0 steered to 1:1 flow 0 and VLAN 9 to none; a hint VLAN. -/
def wB : State :=
  { (((wF.setUport 0 { cfg := some (1, 0, 1518), road := .enabled, link := true }).setFlow
      4 { inst := true, sc := 0, term := 4, xgem := 1030, outerVid := 8, innerNone := true, keyHeld := true, road := .enabled }).setFlow
      5 { inst := true, sc := 0, term := 4, xgem := 1031, encrypt := true, road := .enabled }).modData (fun d =>
        { d with steer := [(8, ⟨true, 0, 0, 0⟩), (9, ⟨true, 0, 0, 0⟩)] }) with
    grant := { wF.grant with hintVlans := [(0, 11, 5)] } }
/-- The same with a burst of terminal 4 in roadbook 990 that ARRIVED. -/
def wBb : State :=
  wB.modSub 0 (fun x => { x with books := [⟨990, [⟨.data, 4, 0, 0, 100, [⟨some 0, 1024, 50, 0, false, false⟩], some .arrived, true, none⟩], true⟩] })
/-- A good frame of `n` bytes on uplink port 0 in VLAN `v`, and a downstream one of terminal 4. -/
def upf (n v : Nat) : UpFrame := ⟨0, n, true, false, none, [⟨0x8100, 0, false, v⟩], 1, 2, 0x0800, none, (0, 0), []⟩
def dnf (x k n : Nat) : DnFrame := ⟨0, 990, 0, 0, x, k, n, [], 1, 2, true⟩
/-- Units of class 5: 0 retired; cores 3 lost, 5 lost with a detour to the loading core 96. -/
def wH : State :=
  ((((w0.setHealth 5 0 { st := .retired }).setHealth 5 1 { win := 300 }).setHealth 5 2 { openMsc := some 1000 }).setCore
    3 { st := .lost }).setCore 5 { st := .lost, detour := some (96, 0) } |>.setCore 96 { st := .loading }
/-- As built, no core has a detour. -/
theorem w0_no_detour (h : Nat) : (w0.core h).detour = none := by
  show (Core.dflt h).detour = none
  unfold Core.dflt
  split <;> rfl
/-- Keys: two used fingerprints, a broadcast key, security associations and key exchanges. -/
def wK : State :=
  (((((wP.setKeySlot 98304 { prints := [keyPrint (List.replicate 16 1)] }).setKeySlot 98306 { key := some [1] }).setKeySlot
    8 { prints := [keyPrint (List.replicate 16 1)] }).modCph (fun c => { c with sas := [
      (1, { prints := [keyPrint (List.replicate 32 0)] }), (3, { inst := true, st := saExhausted }),
      (4, { inst := true, port := 5, st := saEnabled }), (5, { inst := true, port := 5 }), (6, { inst := true, rx := true }),
      (7, { inst := true, dom := 3 })] })).setKex 0 4 { openMiss := some 1 }).setKex
    0 7 { openMiss := some 2 }
/-- An INSTALL_SA block of 80 bytes: the first word, the slot and the first packet number. -/
def saBlk (w slot pn : Nat) : List Nat :=
  leBytes 2 w ++ leBytes 2 slot ++ List.replicate 60 0 ++ leBytes 8 pn ++ List.replicate 8 0
/-- A scheduling block: unlimited rates and weight 1. -/
def schBlk : List Nat := leBytes 8 (2 ^ 64 - 1) ++ List.replicate 8 0 ++ [1] ++ List.replicate 47 0
/-- Queues: flow 0 holds a frame, port 512 has a pending gate list, the flow and the queue sampled at cycle 200,596 and
16,282 are there. -/
def wQ : State :=
  { ((((wB.modData (fun d => { d with flowQ := [(0, { frames := [⟨64, 0, 0, 0, none, 0, none, [], 0, 0, 0⟩] })], polS := [(1, { enabled := true })] })).setPort
      512 { pend := some (5, none) }).setFlow 671743 { inst := true }).setUport 81 { cfg := some (1, 0, 1518) }).setFlow 6 { inst := true } with
    doms := [(63, { road := .enabled })]
    host := { wB.host with numVfs := 63 } }
/-- A fingerprint that a slot keeps is found. -/
theorem reused_self (k : List Nat) : reused [keyPrint k] k = true := by simp [reused]
/-- Domains 1 to 4: disabled, enabled with windows and pools, draining, resuming; domain 5 with sixteen windows. -/
def wDm : State :=
  { w0 with
    host := { w0.host with numVfs := 6 }
    doms := [(2, { road := .enabled, windows := [(0, 4096, 4096)], pool4 := ⟨128, [4096]⟩, pool5 := ⟨128, []⟩ }), (3, { road := .draining }),
      (4, { road := .resuming }),
      (5, { road := .enabled, windows := (List.range 16).map (fun i => (i, 8192 * i, 4096)), pool4 := ⟨64, List.replicate 4096 0⟩ })] }
/-- Domain 6 with one empty window. -/
def wDn : State := { wDm with doms := wDm.doms ++ [(6, { road := .enabled, windows := [(0, 4096, 4096)] })] }
/-- Rings 0 to 4: running, running with twenty completions not consumed, stopping, restored, stopping with its work done;
ring 5 running with a descriptor of the wrong sequence. -/
def wR : State :=
  { w0.setReg (cmdA 0) 1 with
    host := { w0.host with
      rings := [(0, { st := .running, tail := 1 }), (1, { st := .running, cplTail := 20 }), (2, { st := .stopping, dhead := 5 }),
        (3, { st := .restored }), (4, { st := .stopping }), (5, { st := .running, tail := 2 })]
      cpls := [⟨0, 0, 0, 0, 0, 0, 0, 0, false, false, true, 9⟩, ⟨5, 0x0101, 0, 0, 0, 0, 0, 0, false, false, false, 9⟩]
      vecs := [(0, { waiting := true, masked := false }), (1, { waiting := true }), (2, { last := some 240005001 }), (3, { pba := true })] } }
/-- Uplink port 0 is up and traps PTP frames, port 1 is configured and down. -/
def wT : State :=
  ((w0.setUport 0 { cfg := some (1, 0, 1518), road := .enabled, link := true }).setUport 1 { cfg := some (1, 0, 1518) }).modTime
    (fun t => { t with ptpPorts := [(0, { trap := true })] })
/-- A pair with its state, role and lanes of the sync link. -/
def wPr (st : PairSt) (r : Role) (l : BitVec 2) : State := w0.modPair (fun p => { p with st := st, role := r, lanes := l })
/-- An active device whose witness link is up. -/
def wW : State := (((wPr .paired .active 3).setBit (prtA 0) 10 true).setLaneSt 514 4).setBit (lneA 514 4) 4 true
/-- Tree 0 paired with tree 48, the head-end tree's sub-channel out of service; tree 1 on its protect tree. -/
def wTp : State :=
  ((w0.modSub 0 (fun x => { x with oos := true })).setTreePair 0 (some { p := 48 })).setTreePair 1 (some { p := 49, onProtect := true })
    |>.setTreePair 2 (some { p := 50 })
/-- A request in mailbox `m`. -/
def wX (m op : Nat) (body : List Nat) : State :=
  w0.setMbx m { req := leBytes 2 op ++ leBytes 2 (8 + body.length) ++ [0, 0, 0, 0] ++ body, busy := true }
/-- A manifest of one piece of 100 bytes for a device of stepping `k`. -/
def man (k : Nat) : List Nat :=
  leBytes 4 0x4D460001 ++ leBytes 2 1 ++ [k, 0] ++ leBytes 4 100 ++ leBytes 2 65535 ++ leBytes 2 1 ++ leBytes 2 1 ++
    List.replicate 174 0
/-- A download in a state, with one piece in each slot. -/
def wUp (st : UpdSt) : State :=
  w0.modUpd (fun u => { u with st := st, man := some (readManifest (man 0xA1)), down0 := [(0, [1])], down1 := [(0, [1])] })
/-- A waypoint, and two of them: version 5 in slot 1, pinned version 6 in slot 2. -/
def wpt (v : Nat) (p : Bool) : Waypoint := ⟨v, 1, 3, 900, 1, p, false, [], {}⟩
def wWp : State :=
  { w0 with mgmt := { w0.mgmt with wps := [(1, some (wpt 5 false)), (2, some (wpt 6 true))], upd := { w0.mgmt.upd with
    run := some { readManifest (man 0xA1) with wpfWrite := 1, wpfReadMin := 1 } } } }
/-- Four pinned waypoints and one that is not. -/
def wW4 : State :=
  { w0 with mgmt := { w0.mgmt with wps := [(1, some (wpt 5 true)), (2, some (wpt 6 true)), (3, some (wpt 7 true)),
    (4, some (wpt 8 true)), (5, some (wpt 9 false))] } }
/-- Uplink ports 0, 4, 8 and 12: enabled, disabled, draining, resuming. -/
def wC : State :=
  (((w0.setUport 0 { cfg := some (1, 0, 1518), road := .enabled }).setUport 4 { cfg := some (1, 0, 1518) }).setUport
    8 { cfg := some (1, 0, 1518), road := .draining }).setUport 12 { cfg := some (1, 0, 1518), road := .resuming }
/-- A roadbook of interval 990 on sub-channel 0 with two bursts still out and one received. -/
def wBk : State :=
  wP.modSub 0 (fun x => { x with books := [⟨990, [⟨.data, 4, 0, 0, 100, [], none, false, none⟩, ⟨.data, 4, 0, 200, 100, [], some .arrived, true, none⟩,
      ⟨.data, 4, 0, 400, 100, [], none, false, none⟩], true⟩] })
/-- A digest has 32 bytes, so it is not the empty string. -/
theorem sm3_ne (l : List Nat) : sm3 l ≠ [] := by
  intro h
  have e := congrArg List.length h
  have f : (sm3 l).length = 32 := by simp [sm3, padTo]; omega
  rw [f] at e
  cases e
/-- Context 3 of core 95 runs a plan batch: register S1 names its first tag, whose load is done; one loop is open. -/
def cI : Ctx :=
  { run := .ready, batch := 5, s := [(1, 192)], v := [], p := [(1, 0xF0)], loops := [⟨1, 2, 0⟩], tags := [⟨.cld, 0xFF, 5, [], true, []⟩] }
def cJ : Ctx := { cI with loops := [⟨1, 1, 0⟩], tags := [⟨.rpt, 0xFF, 5, [], false, []⟩] }
def wI : State :=
  { ((wG.setGroup 95 { slot0 := { planLen := 16384, planBound := 100 } }).setCtx ⟨95, 2⟩ cJ).setCtx ⟨95, 3⟩ cI with
    grant := { (((wG.setGroup 95 { slot0 := { planLen := 16384, planBound := 100 } }).setCtx ⟨95, 2⟩ cJ).setCtx ⟨95, 3⟩ cI).grant with
      laneUnit := [(laneKey 95 5 7, some 0)] } }
/-- A roadbook built and accepted with a ledger record waiting; a maintenance window that owes unit 1 its entry; a
command in the journal. -/
def wRec : State :=
  let s := w0.modSub 0 (fun x => { x with built := some ⟨1000, [], false⟩, accepted := true })
  { s with pon := { s.pon with recPending := some ⟨1000, true, []⟩ } }
def wMw : State :=
  { (wU.setGroup 0 { slot0 := { instLen := 5, instBound := 20 } }) with
    clk := { wU.clk with cycle := 196000 }, deferred := [⟨1002, 9, 0, 0, 0, none, .unitInstall 1⟩] }
theorem mw_other : ∀ p ∈ wMw.deferred, ∀ v d, p.change = .waypointReturn v d → p.e ≠ wMw.clk.msc + 2 := by
  intro p hp v d e
  rw [List.mem_singleton.mp hp] at e
  cases e
theorem mw_td : ∀ p ∈ wMw.deferred, ∀ d b, p.change = .domainTeardown d b → p.e ≠ wMw.clk.msc + 2 := by
  intro p hp v d e
  rw [List.mem_singleton.mp hp] at e
  cases e
theorem mw_core : ∀ p ∈ wMw.deferred, ∀ a b, p.change = .coreDetour a b → p.e ≠ wMw.clk.msc + 2 := by
  intro p hp v d e
  rw [List.mem_singleton.mp hp] at e
  cases e
def wJ : State := w0.jrnStart (cmd 0x0101 [4])

/-! Worked examples of the spec. -/

/-- The program of the worked example of chapter 06 (a minimal PLAN), word for word. -/
def progMini : List Nat :=
  [0x08200000, 0xC8A12000, 0xD4050000, 0x90050100, 0x68000009, 0x6C000009, 0x642007D0, 0x4C000900, 0x6440000B,
    0xDC001100, 0xEC000000]
/-- The words of the worked example of chapter 07 (two buckets with hints): PLAN 0 to 41 and INSTALL 42 to 53. -/
def progTwo : List Nat :=
  [0x08200000, 0xC0402000, 0xC8612000, 0xCC812000, 0xD4020000, 0xD4030000, 0x90820104, 0x90A20105, 0x90C20106,
    0x90E20107, 0x91020101, 0x6D080010, 0x91220108, 0x88863918, 0x90030100, 0x6C200018, 0x44610111, 0x68400009,
    0x6C420009, 0x54427B00, 0xD4040000, 0x90640100, 0x6C23001A, 0x44810111, 0x68230009, 0x6C210009, 0x50420C00,
    0x51450111, 0x4D625100, 0x516B4900, 0x51840111, 0x44AB6103, 0x65A0000A, 0x65C0000D, 0x55AE6D00, 0x65C0002F,
    0x55AE6C00, 0x94022104, 0x94022905, 0xC4A22000, 0xDC0B6900, 0xEC000000, 0xC0402000, 0xD4020000, 0x90C20106,
    0x90E20107, 0x6C860010, 0x68840004, 0x6CA70010, 0x68A50004, 0x94022104, 0x94022905, 0xC4622000, 0xEC000000]
def progOf (l : List Nat) (n m : Nat) : Prog :=
  { loaded := true, insn := (List.range l.length).map (fun i => (i, BitVec.ofNat 32 (l.getD i 0))), planLen := n
    instStart := if m = 0 then 0 else n, instLen := m }

/-- The occupancy of the minimal PLAN is 191 (chapter 06), so its context cost is 191 + 3 × 11. -/
theorem test_minimal_plan : (progOf progMini 11 0).bounds = ⟨224, 56, 0, 0⟩ := by decide +kernel
/-- CTX_BOUND 394, PLAN_BOUND 99 and ENTRY_BOUND 195 of chapter 07's example, with no word illegal. -/
theorem test_two_buckets : (progOf progTwo 42 12).bounds = ⟨394, 99, 195, 0⟩ ∧
    progTwo.all (fun w => !illegalWord (BitVec.ofNat 32 w)) = true ∧ batchCap 99 = 1408 := by decide +kernel
/-- WAIT, RPT and GEMIT words of chapter 06, derived there field by field. -/
theorem test_words : (⟨0, 0, 2, 1, 0⟩ : FmtO).word 0x37 = 0xDC001100#32 ∧ (⟨5, 1, 1, 0⟩ : FmtM).word 0x32 = 0xC8A12000#32 ∧
    (⟨0, 5, 0, 0, 0⟩ : FmtO).word 0x35 = 0xD4050000#32 := by decide

/-- Context before BKT in "Two lanes in one plan" (chapter 07): lane 2 and lane 5. -/
def ctxTwo : Ctx :=
  { run := .ready, p := [(1, 0x24)], v := [(34, 1200), (37, 2000), (42, 5000), (45, 8000), (50, 0x7D0064), (53, 0x7D0064),
      (58, 0x1F4012C), (61, 0x1F4012C), (66, 2400)] }
/-- Lane k ends with a committed credit of c - 10,000 and a peak credit of q. -/
def laneOk (x : Host.Outcome State Fault Refusal) (k c q : Nat) : Bool :=
  match x with
  | .next t => ((t.ctx ⟨95, 0⟩).rv 4 k).toInt == (c : Int) - 10000 && ((t.ctx ⟨95, 0⟩).rv 5 k).toNat == q
  | _ => false
/-- BKT with TAKE: c = -1,100 and q = 2,900 on lane 2, both at their caps on lane 5. -/
theorem test_two_lanes :
    laneOk (exec (.bkt ⟨95, 0⟩ ⟨4, 6, 7, 1, 0x18⟩) (wI.setCtx ⟨95, 0⟩ ctxTwo)) 2 8900 2900 = true ∧
    laneOk (exec (.bkt ⟨95, 0⟩ ⟨4, 6, 7, 1, 0x18⟩) (wI.setCtx ⟨95, 0⟩ ctxTwo)) 5 12000 8000 = true := by decide +kernel

/-- An allocation of terminal slot `k` of `n` units with this priority, DBRu and EARLY. -/
def al (k n p : Nat) (d e : Bool) : AAlloc := ⟨k, some k, 1024 + k, n, p, d, false, e, false⟩
/-- The bursts of the worked example of chapter 05 (one X roadbook), in their order of admission. -/
def bkX : List ABurst :=
  [⟨false, 20, 1, [al 4 6000 1 true false]⟩, ⟨false, 12, 2, [al 3 15000 4 false false]⟩,
    ⟨false, 9, 0, [al 1 10000 4 true false, al 2 8000 4 true false]⟩, ⟨false, 5, 3, [al 0 1000 7 true true]⟩].foldl
    (fun l b => insertBurst 7400010 b l) []
/-- Its starts and lengths, the start times of its allocations, and one shrink, to 2,233 units. -/
theorem test_one_roadbook :
    let r := bkX.foldl (fun (r : ARes) b => r.place (w0.sub 1) 1 b) { gaps := [(0, 38880)] }
    r.placed.map (fun b => (b.term, b.start, b.len)) = [(5, 0, 1088), (9, 1088, 19308), (12, 20396, 16057), (20, 36453, 2427)] ∧
    (r.placed.map (fun b => b.allocs.map (fun a => a.start))).flatten = [13, 1148, 0xFFFF, 20415, 36488] ∧
    (r.placed.map (fun b => b.allocs.map (fun a => a.size))).flatten = [1000, 10000, 8000, 15000, 2233] ∧
    r.shrink = 1 ∧ r.drop = 0 ∧ r.gaps = [] := by decide +kernel

/-- The block addresses worked out under R5: sub-channel X of tree 137 and its serial lane 275. -/
theorem test_addresses : subA 275 0 = 0x01226000 ∧ lneA 275 0 = 0x00889800 := by decide
/-- Credits of an AES tree and of an SM4 tree (chapter 12). -/
theorem test_credits : cipherCost 0 false + cipherCost 3 false = 446 ∧ cipherCost 0 true + cipherCost 3 true = 1338 := by decide
/-- Finish tags of chapter 09's example: frames of 1,508 bytes at weights 3 and 1. -/
theorem test_weights : Sched.finish { weight := 3 } 1508 = 32942763 ∧ Sched.finish { weight := 1, s := 65885526 } 1508 = 164713814 ∧
    Sched.finish { weight := 3, s := 98828289 } 1508 = 131771052 := by decide


/-! For every statement with hypotheses, a state and operands that meet them, clause by clause. -/

/-- Hypotheses of `Obligations.ScalarOperateResults`. -/
theorem witness_ScalarOperateResults :
    (∃ (s : State) (st : Site) (f : FmtO) (c : Ctx), Issuing s st c ∧ f.pr = 0 ∧ f.fn = 0) ∧
    (∃ (s : State) (st : Site) (f : FmtO) (c : Ctx), Issuing s st c ∧ (f.pr ≠ 0 ∨ f.fn ≠ 0)) ∧
    (∃ (s : State) (st : Site) (f : FmtO) (c : Ctx), Issuing s st c ∧ f.pr = 0 ∧ f.fn = 1) ∧
    (∃ (s : State) (st : Site) (f : FmtO) (c : Ctx), Issuing s st c ∧ (f.pr ≠ 0 ∨ f.fn ≠ 1)) ∧
    (∃ (s : State) (st : Site) (f : FmtO) (c : Ctx), Issuing s st c ∧ f.pr = 0 ∧ f.fn = 2) ∧
    (∃ (s : State) (st : Site) (f : FmtO) (c : Ctx), Issuing s st c ∧ (f.pr ≠ 0 ∨ f.fn ≠ 2)) ∧
    (∃ (s : State) (st : Site) (f : FmtO) (c : Ctx), Issuing s st c ∧ f.pr = 0 ∧ f.fn = 3) ∧
    (∃ (s : State) (st : Site) (f : FmtO) (c : Ctx), Issuing s st c ∧ (f.pr ≠ 0 ∨ f.fn ≠ 3)) ∧
    (∃ (s : State) (st : Site) (f : FmtO) (c : Ctx), Issuing s st c ∧ f.pr = 0 ∧ f.fn = 4) ∧
    (∃ (s : State) (st : Site) (f : FmtO) (c : Ctx), Issuing s st c ∧ (f.pr ≠ 0 ∨ f.fn ≠ 4)) ∧
    (∃ (s : State) (st : Site) (f : FmtO) (c : Ctx), Issuing s st c ∧ f.pr = 0 ∧ f.fn = 5) ∧
    (∃ (s : State) (st : Site) (f : FmtO) (c : Ctx), Issuing s st c ∧ (f.pr ≠ 0 ∨ f.fn ≠ 5)) ∧
    (∃ (s : State) (st : Site) (f : FmtO) (c : Ctx), Issuing s st c ∧ f.pr = 0 ∧ f.fn = 6) ∧
    (∃ (s : State) (st : Site) (f : FmtO) (c : Ctx), Issuing s st c ∧ (f.pr ≠ 0 ∨ f.fn ≠ 6)) ∧
    (∃ (s : State) (st : Site) (f : FmtO) (c : Ctx), Issuing s st c ∧ f.pr = 0 ∧ f.fn = 7) ∧
    (∃ (s : State) (st : Site) (f : FmtO) (c : Ctx), Issuing s st c ∧ (f.pr ≠ 0 ∨ f.fn ≠ 7)) ∧
    (∃ (s : State) (st : Site) (f : FmtO) (c : Ctx), Issuing s st c ∧ f.pr = 0 ∧ f.fn = 8) ∧
    (∃ (s : State) (st : Site) (f : FmtO) (c : Ctx), Issuing s st c ∧ (f.pr ≠ 0 ∨ f.fn ≠ 8)) ∧
    (∃ (s : State) (st : Site) (f : FmtO) (c : Ctx), Issuing s st c ∧ f.pr = 0 ∧ f.fn = 9) ∧
    (∃ (s : State) (st : Site) (f : FmtO) (c : Ctx), Issuing s st c ∧ (f.pr ≠ 0 ∨ f.fn ≠ 9)) ∧
    (∃ (s : State) (st : Site) (f : FmtO) (c : Ctx), Issuing s st c ∧ f.pr = 0 ∧ f.fn = 10) ∧
    (∃ (s : State) (st : Site) (f : FmtO) (c : Ctx), Issuing s st c ∧ (f.pr ≠ 0 ∨ f.fn ≠ 10)) ∧
    (∃ (s : State) (st : Site) (f : FmtO) (c : Ctx), Issuing s st c ∧ f.pr = 0 ∧ f.fn = 12) ∧
    (∃ (s : State) (st : Site) (f : FmtO) (c : Ctx), Issuing s st c ∧ (f.pr ≠ 0 ∨ f.fn ≠ 12)) ∧
    (∃ (s : State) (st : Site) (f : FmtO) (c : Ctx), Issuing s st c ∧ f.pr = 0 ∧ f.fn = 13) ∧
    (∃ (s : State) (st : Site) (f : FmtO) (c : Ctx), Issuing s st c ∧ (f.pr ≠ 0 ∨ f.fn ≠ 13)) ∧
    (∃ (s : State) (st : Site) (f : FmtO) (c : Ctx), Issuing s st c ∧ f.pr = 0 ∧ f.fn = 14) ∧
    (∃ (s : State) (st : Site) (f : FmtO) (c : Ctx), Issuing s st c ∧ (f.pr ≠ 0 ∨ f.fn ≠ 14)) ∧
    (∃ (s : State) (st : Site) (f : FmtO) (c : Ctx), Issuing s st c ∧ f.pr = 0 ∧ f.fn = 15) ∧
    (∃ (s : State) (st : Site) (f : FmtO) (c : Ctx), Issuing s st c ∧ (f.pr ≠ 0 ∨ f.fn ≠ 15)) :=
  ⟨⟨wI, ⟨95, 3⟩, ⟨7, 7, 7, 0, 0⟩, cI, ⟨by decide +kernel, by decide +kernel⟩, by decide +kernel⟩,
   ⟨wI, ⟨95, 3⟩, ⟨7, 7, 7, 7, 255⟩, cI, ⟨by decide +kernel, by decide +kernel⟩, by decide +kernel⟩,
   ⟨wI, ⟨95, 3⟩, ⟨7, 7, 7, 0, 1⟩, cI, ⟨by decide +kernel, by decide +kernel⟩, by decide +kernel⟩,
   ⟨wI, ⟨95, 3⟩, ⟨7, 7, 7, 7, 255⟩, cI, ⟨by decide +kernel, by decide +kernel⟩, by decide +kernel⟩,
   ⟨wI, ⟨95, 3⟩, ⟨7, 7, 7, 0, 2⟩, cI, ⟨by decide +kernel, by decide +kernel⟩, by decide +kernel⟩,
   ⟨wI, ⟨95, 3⟩, ⟨7, 7, 7, 7, 255⟩, cI, ⟨by decide +kernel, by decide +kernel⟩, by decide +kernel⟩,
   ⟨wI, ⟨95, 3⟩, ⟨7, 7, 7, 0, 3⟩, cI, ⟨by decide +kernel, by decide +kernel⟩, by decide +kernel⟩,
   ⟨wI, ⟨95, 3⟩, ⟨7, 7, 7, 7, 255⟩, cI, ⟨by decide +kernel, by decide +kernel⟩, by decide +kernel⟩,
   ⟨wI, ⟨95, 3⟩, ⟨7, 7, 7, 0, 4⟩, cI, ⟨by decide +kernel, by decide +kernel⟩, by decide +kernel⟩,
   ⟨wI, ⟨95, 3⟩, ⟨7, 7, 7, 7, 255⟩, cI, ⟨by decide +kernel, by decide +kernel⟩, by decide +kernel⟩,
   ⟨wI, ⟨95, 3⟩, ⟨7, 7, 7, 0, 5⟩, cI, ⟨by decide +kernel, by decide +kernel⟩, by decide +kernel⟩,
   ⟨wI, ⟨95, 3⟩, ⟨7, 7, 7, 7, 255⟩, cI, ⟨by decide +kernel, by decide +kernel⟩, by decide +kernel⟩,
   ⟨wI, ⟨95, 3⟩, ⟨7, 7, 7, 0, 6⟩, cI, ⟨by decide +kernel, by decide +kernel⟩, by decide +kernel⟩,
   ⟨wI, ⟨95, 3⟩, ⟨7, 7, 7, 7, 255⟩, cI, ⟨by decide +kernel, by decide +kernel⟩, by decide +kernel⟩,
   ⟨wI, ⟨95, 3⟩, ⟨7, 7, 7, 0, 7⟩, cI, ⟨by decide +kernel, by decide +kernel⟩, by decide +kernel⟩,
   ⟨wI, ⟨95, 3⟩, ⟨7, 7, 7, 7, 255⟩, cI, ⟨by decide +kernel, by decide +kernel⟩, by decide +kernel⟩,
   ⟨wI, ⟨95, 3⟩, ⟨7, 7, 7, 0, 8⟩, cI, ⟨by decide +kernel, by decide +kernel⟩, by decide +kernel⟩,
   ⟨wI, ⟨95, 3⟩, ⟨7, 7, 7, 7, 255⟩, cI, ⟨by decide +kernel, by decide +kernel⟩, by decide +kernel⟩,
   ⟨wI, ⟨95, 3⟩, ⟨7, 7, 7, 0, 9⟩, cI, ⟨by decide +kernel, by decide +kernel⟩, by decide +kernel⟩,
   ⟨wI, ⟨95, 3⟩, ⟨7, 7, 7, 7, 255⟩, cI, ⟨by decide +kernel, by decide +kernel⟩, by decide +kernel⟩,
   ⟨wI, ⟨95, 3⟩, ⟨7, 7, 7, 0, 10⟩, cI, ⟨by decide +kernel, by decide +kernel⟩, by decide +kernel⟩,
   ⟨wI, ⟨95, 3⟩, ⟨7, 7, 7, 7, 255⟩, cI, ⟨by decide +kernel, by decide +kernel⟩, by decide +kernel⟩,
   ⟨wI, ⟨95, 3⟩, ⟨7, 7, 7, 0, 12⟩, cI, ⟨by decide +kernel, by decide +kernel⟩, by decide +kernel⟩,
   ⟨wI, ⟨95, 3⟩, ⟨7, 7, 7, 7, 255⟩, cI, ⟨by decide +kernel, by decide +kernel⟩, by decide +kernel⟩,
   ⟨wI, ⟨95, 3⟩, ⟨7, 7, 7, 0, 13⟩, cI, ⟨by decide +kernel, by decide +kernel⟩, by decide +kernel⟩,
   ⟨wI, ⟨95, 3⟩, ⟨7, 7, 7, 7, 255⟩, cI, ⟨by decide +kernel, by decide +kernel⟩, by decide +kernel⟩,
   ⟨wI, ⟨95, 3⟩, ⟨7, 7, 7, 0, 14⟩, cI, ⟨by decide +kernel, by decide +kernel⟩, by decide +kernel⟩,
   ⟨wI, ⟨95, 3⟩, ⟨7, 7, 7, 7, 255⟩, cI, ⟨by decide +kernel, by decide +kernel⟩, by decide +kernel⟩,
   ⟨wI, ⟨95, 3⟩, ⟨7, 7, 7, 0, 15⟩, cI, ⟨by decide +kernel, by decide +kernel⟩, by decide +kernel⟩,
   ⟨wI, ⟨95, 3⟩, ⟨7, 7, 7, 7, 255⟩, cI, ⟨by decide +kernel, by decide +kernel⟩, by decide +kernel⟩⟩

/-- Hypotheses of `Obligations.ScalarComparePredicate`. -/
theorem witness_ScalarComparePredicate :
    (∃ (s : State) (st : Site) (c : Ctx), Issuing s st c) ∧
    (∃ (s : State) (st : Site) (f : FmtO) (c : Ctx), Issuing s st c ∧ (f.pr ≠ 0 ∨ 8 ≤ f.d.toNat ∨ f.fn ≠ 0)) ∧
    (∃ (s : State) (st : Site) (f : FmtO) (c : Ctx), Issuing s st c ∧ f.pr = 0 ∧ f.d.toNat < 8 ∧ f.fn = 1) ∧
    (∃ (s : State) (st : Site) (f : FmtO) (c : Ctx), Issuing s st c ∧ (f.pr ≠ 0 ∨ 8 ≤ f.d.toNat ∨ f.fn ≠ 1)) ∧
    (∃ (s : State) (st : Site) (f : FmtO) (c : Ctx), Issuing s st c ∧ f.pr = 0 ∧ f.d.toNat < 8 ∧ f.fn = 2) ∧
    (∃ (s : State) (st : Site) (f : FmtO) (c : Ctx), Issuing s st c ∧ (f.pr ≠ 0 ∨ 8 ≤ f.d.toNat ∨ f.fn ≠ 2)) ∧
    (∃ (s : State) (st : Site) (f : FmtO) (c : Ctx), Issuing s st c ∧ f.pr = 0 ∧ f.d.toNat < 8 ∧ f.fn = 3) ∧
    (∃ (s : State) (st : Site) (f : FmtO) (c : Ctx), Issuing s st c ∧ (f.pr ≠ 0 ∨ 8 ≤ f.d.toNat ∨ f.fn ≠ 3)) ∧
    (∃ (s : State) (st : Site) (f : FmtO) (c : Ctx), Issuing s st c ∧ f.pr = 0 ∧ f.d.toNat < 8 ∧ f.fn = 4) ∧
    (∃ (s : State) (st : Site) (f : FmtO) (c : Ctx), Issuing s st c ∧ (f.pr ≠ 0 ∨ 8 ≤ f.d.toNat ∨ f.fn ≠ 4)) ∧
    (∃ (s : State) (st : Site) (f : FmtO) (c : Ctx), Issuing s st c ∧ f.pr = 0 ∧ f.d.toNat < 8 ∧ f.fn = 5) ∧
    (∃ (s : State) (st : Site) (f : FmtO) (c : Ctx), Issuing s st c ∧ (f.pr ≠ 0 ∨ 8 ≤ f.d.toNat ∨ f.fn ≠ 5)) ∧
    (∃ (s : State) (st : Site) (f : FmtO) (c : Ctx), Issuing s st c ∧ f.pr = 0 ∧ f.a = 0 ∧ f.b = 0 ∧ f.fn.toNat < 9) ∧
    (∃ (s : State) (st : Site) (f : FmtO) (c : Ctx), Issuing s st c ∧ (f.pr ≠ 0 ∨ f.a ≠ 0 ∨ f.b ≠ 0 ∨ 9 ≤
      f.fn.toNat)) :=
  ⟨⟨wI, ⟨95, 3⟩, cI, ⟨by decide +kernel, by decide +kernel⟩⟩,
   ⟨wI, ⟨95, 3⟩, ⟨7, 7, 7, 7, 255⟩, cI, ⟨by decide +kernel, by decide +kernel⟩, by decide +kernel⟩,
   ⟨wI, ⟨95, 3⟩, ⟨7, 7, 7, 0, 1⟩, cI, ⟨by decide +kernel, by decide +kernel⟩, by decide +kernel⟩,
   ⟨wI, ⟨95, 3⟩, ⟨7, 7, 7, 7, 255⟩, cI, ⟨by decide +kernel, by decide +kernel⟩, by decide +kernel⟩,
   ⟨wI, ⟨95, 3⟩, ⟨7, 7, 7, 0, 2⟩, cI, ⟨by decide +kernel, by decide +kernel⟩, by decide +kernel⟩,
   ⟨wI, ⟨95, 3⟩, ⟨7, 7, 7, 7, 255⟩, cI, ⟨by decide +kernel, by decide +kernel⟩, by decide +kernel⟩,
   ⟨wI, ⟨95, 3⟩, ⟨7, 7, 7, 0, 3⟩, cI, ⟨by decide +kernel, by decide +kernel⟩, by decide +kernel⟩,
   ⟨wI, ⟨95, 3⟩, ⟨7, 7, 7, 7, 255⟩, cI, ⟨by decide +kernel, by decide +kernel⟩, by decide +kernel⟩,
   ⟨wI, ⟨95, 3⟩, ⟨7, 7, 7, 0, 4⟩, cI, ⟨by decide +kernel, by decide +kernel⟩, by decide +kernel⟩,
   ⟨wI, ⟨95, 3⟩, ⟨7, 7, 7, 7, 255⟩, cI, ⟨by decide +kernel, by decide +kernel⟩, by decide +kernel⟩,
   ⟨wI, ⟨95, 3⟩, ⟨7, 7, 7, 0, 5⟩, cI, ⟨by decide +kernel, by decide +kernel⟩, by decide +kernel⟩,
   ⟨wI, ⟨95, 3⟩, ⟨7, 7, 7, 7, 255⟩, cI, ⟨by decide +kernel, by decide +kernel⟩, by decide +kernel⟩,
   ⟨wI, ⟨95, 3⟩, ⟨7, 0, 0, 0, 0⟩, cI, ⟨by decide +kernel, by decide +kernel⟩, by decide +kernel⟩,
   ⟨wI, ⟨95, 3⟩, ⟨7, 7, 7, 7, 255⟩, cI, ⟨by decide +kernel, by decide +kernel⟩, by decide +kernel⟩⟩

/-- Hypotheses of `Obligations.ImmediateResults`. -/
theorem witness_ImmediateResults :
    (∃ (s : State) (st : Site) (c : Ctx), Issuing s st c) ∧
    (∃ (s : State) (st : Site) (c : Ctx), Issuing s st c) ∧
    (∃ (s : State) (st : Site) (c : Ctx), Issuing s st c) ∧
    (∃ (s : State) (st : Site) (c : Ctx), Issuing s st c) ∧
    (∃ (s : State) (st : Site) (f : FmtI) (c : Ctx), Issuing s st c ∧ f.imm.toNat < 64) ∧
    (∃ (s : State) (st : Site) (f : FmtI) (c : Ctx), Issuing s st c ∧ f.imm.toNat < 64) ∧
    (∃ (s : State) (st : Site) (c : Ctx), Issuing s st c) ∧
    (∃ (s : State) (st : Site) (c : Ctx), Issuing s st c) ∧
    (∃ (s : State) (st : Site) (c : Ctx), Issuing s st c) ∧
    (∃ (s : State) (st : Site) (c : Ctx), Issuing s st c) ∧
    (∃ (s : State) (st : Site) (f : FmtI) (c : Ctx), Issuing s st c ∧ ((c.rs f.a) + f.imm.setWidth 64).toNat < 2048) ∧
    (∃ (s : State) (st : Site) (f : FmtI) (c : Ctx), Issuing s st c ∧ f.d.toNat < 16 ∧ f.a.toNat < 16) ∧
    (∃ (s : State) (st : Site) (f : FmtI) (c : Ctx), Issuing s st c ∧ f.d.toNat < 16 ∧ f.a.toNat < 16 ∧ f.a = 0) ∧
    (∃ (s : State) (st : Site) (f : FmtI) (c : Ctx), Issuing s st c ∧ f.d.toNat < 16 ∧ f.a.toNat < 16 ∧ f.imm.toNat <
      32) ∧
    (∃ (s : State) (st : Site) (f : FmtI) (c : Ctx), Issuing s st c ∧ f.d.toNat < 16 ∧ f.a.toNat < 16 ∧ f.imm.toNat <
      32) ∧
    (∃ (s : State) (st : Site) (f : FmtI) (c : Ctx), Issuing s st c ∧ f.d.toNat < 16 ∧ f.a.toNat < 16) :=
  ⟨⟨wI, ⟨95, 3⟩, cI, ⟨by decide +kernel, by decide +kernel⟩⟩,
   ⟨wI, ⟨95, 3⟩, cI, ⟨by decide +kernel, by decide +kernel⟩⟩,
   ⟨wI, ⟨95, 3⟩, cI, ⟨by decide +kernel, by decide +kernel⟩⟩,
   ⟨wI, ⟨95, 3⟩, cI, ⟨by decide +kernel, by decide +kernel⟩⟩,
   ⟨wI, ⟨95, 3⟩, ⟨15, 15, 63⟩, cI, ⟨by decide +kernel, by decide +kernel⟩, by decide +kernel⟩,
   ⟨wI, ⟨95, 3⟩, ⟨15, 15, 63⟩, cI, ⟨by decide +kernel, by decide +kernel⟩, by decide +kernel⟩,
   ⟨wI, ⟨95, 3⟩, cI, ⟨by decide +kernel, by decide +kernel⟩⟩,
   ⟨wI, ⟨95, 3⟩, cI, ⟨by decide +kernel, by decide +kernel⟩⟩,
   ⟨wI, ⟨95, 3⟩, cI, ⟨by decide +kernel, by decide +kernel⟩⟩,
   ⟨wI, ⟨95, 3⟩, cI, ⟨by decide +kernel, by decide +kernel⟩⟩,
   ⟨wI, ⟨95, 3⟩, ⟨15, 15, 2047⟩, cI, ⟨by decide +kernel, by decide +kernel⟩, by decide +kernel⟩,
   ⟨wI, ⟨95, 3⟩, ⟨15, 15, 65535⟩, cI, ⟨by decide +kernel, by decide +kernel⟩, by decide +kernel⟩,
   ⟨wI, ⟨95, 3⟩, ⟨15, 0, 65535⟩, cI, ⟨by decide +kernel, by decide +kernel⟩, by decide +kernel⟩,
   ⟨wI, ⟨95, 3⟩, ⟨15, 15, 31⟩, cI, ⟨by decide +kernel, by decide +kernel⟩, by decide +kernel⟩,
   ⟨wI, ⟨95, 3⟩, ⟨15, 15, 31⟩, cI, ⟨by decide +kernel, by decide +kernel⟩, by decide +kernel⟩,
   ⟨wI, ⟨95, 3⟩, ⟨15, 15, 65535⟩, cI, ⟨by decide +kernel, by decide +kernel⟩, by decide +kernel⟩⟩

/-- Hypotheses of `Obligations.VectorOperateAndCompareResults`. -/
theorem witness_VectorOperateAndCompareResults :
    (∃ (s : State) (st : Site) (f : FmtO) (c : Ctx), Issuing s st c ∧ f.d.toNat < 16 ∧ f.a.toNat < 16 ∧ ((f.fn.toNat
      < 16 → f.b.toNat < 16)) ∧ f.fn.toNat < 32) ∧
    (∃ (s : State) (st : Site) (f : FmtO) (c : Ctx), Issuing s st c ∧ f.d.toNat < 16 ∧ f.a.toNat < 16 ∧ ((f.fn.toNat
      < 16 → f.b.toNat < 16)) ∧ f.fn.toNat < 32 ∧ f.fn.toNat % 16 = 1) ∧
    (∃ (s : State) (st : Site) (f : FmtO) (c : Ctx), Issuing s st c ∧ f.d.toNat < 16 ∧ f.a.toNat < 16 ∧ ((f.fn.toNat
      < 16 → f.b.toNat < 16)) ∧ f.fn.toNat < 32 ∧ f.fn.toNat % 16 = 2) ∧
    (∃ (s : State) (st : Site) (f : FmtO) (c : Ctx), Issuing s st c ∧ f.d.toNat < 16 ∧ f.a.toNat < 16 ∧ ((f.fn.toNat
      < 16 → f.b.toNat < 16)) ∧ f.fn.toNat < 32 ∧ f.fn.toNat % 16 = 3) ∧
    (∃ (s : State) (st : Site) (f : FmtO) (c : Ctx), Issuing s st c ∧ f.d.toNat < 16 ∧ f.a.toNat < 16 ∧ ((f.fn.toNat
      < 16 → f.b.toNat < 16)) ∧ f.fn.toNat < 32 ∧ f.fn.toNat % 16 = 4) ∧
    (∃ (s : State) (st : Site) (f : FmtO) (c : Ctx), Issuing s st c ∧ f.d.toNat < 16 ∧ f.a.toNat < 16 ∧ ((f.fn.toNat
      < 16 → f.b.toNat < 16)) ∧ f.fn.toNat < 32 ∧ f.fn.toNat % 16 = 5) ∧
    (∃ (s : State) (st : Site) (f : FmtO) (c : Ctx), Issuing s st c ∧ f.d.toNat < 16 ∧ f.a.toNat < 16 ∧ ((f.fn.toNat
      < 16 → f.b.toNat < 16)) ∧ f.fn.toNat < 32 ∧ f.fn.toNat % 16 = 6) ∧
    (∃ (s : State) (st : Site) (f : FmtO) (c : Ctx), Issuing s st c ∧ f.d.toNat < 16 ∧ f.a.toNat < 16 ∧ ((f.fn.toNat
      < 16 → f.b.toNat < 16)) ∧ f.fn.toNat < 32 ∧ f.fn.toNat % 16 = 7) ∧
    (∃ (s : State) (st : Site) (f : FmtO) (c : Ctx), Issuing s st c ∧ f.d.toNat < 16 ∧ f.a.toNat < 16 ∧ ((f.fn.toNat
      < 16 → f.b.toNat < 16)) ∧ f.fn.toNat < 32 ∧ f.fn.toNat % 16 = 8) ∧
    (∃ (s : State) (st : Site) (f : FmtO) (c : Ctx), Issuing s st c ∧ f.d.toNat < 16 ∧ f.a.toNat < 16 ∧ ((f.fn.toNat
      < 16 → f.b.toNat < 16)) ∧ f.fn.toNat < 32 ∧ f.fn.toNat % 16 = 9) ∧
    (∃ (s : State) (st : Site) (f : FmtO) (c : Ctx), Issuing s st c ∧ f.d.toNat < 16 ∧ f.a.toNat < 16 ∧ ((f.fn.toNat
      < 16 → f.b.toNat < 16)) ∧ f.fn.toNat < 32 ∧ f.fn.toNat % 16 = 10) ∧
    (∃ (s : State) (st : Site) (f : FmtO) (c : Ctx), Issuing s st c ∧ f.fn = 11 ∧ f.b = 0 ∧ f.d.toNat < 16 ∧
      f.a.toNat < 16) ∧
    (∃ (s : State) (st : Site) (f : FmtO) (c : Ctx), Issuing s st c ∧ 1 ≤ f.d.toNat ∧ f.d.toNat < 8 ∧ f.a.toNat < 16
      ∧ ((f.fn.toNat < 16 → f.b.toNat < 16)) ∧ f.fn.toNat < 32) :=
  ⟨⟨wI, ⟨95, 3⟩, ⟨7, 7, 7, 0, 0⟩, cI, ⟨by decide +kernel, by decide +kernel⟩, by decide +kernel⟩,
   ⟨wI, ⟨95, 3⟩, ⟨7, 7, 7, 0, 1⟩, cI, ⟨by decide +kernel, by decide +kernel⟩, by decide +kernel⟩,
   ⟨wI, ⟨95, 3⟩, ⟨7, 7, 7, 0, 2⟩, cI, ⟨by decide +kernel, by decide +kernel⟩, by decide +kernel⟩,
   ⟨wI, ⟨95, 3⟩, ⟨7, 7, 7, 0, 3⟩, cI, ⟨by decide +kernel, by decide +kernel⟩, by decide +kernel⟩,
   ⟨wI, ⟨95, 3⟩, ⟨7, 7, 7, 0, 4⟩, cI, ⟨by decide +kernel, by decide +kernel⟩, by decide +kernel⟩,
   ⟨wI, ⟨95, 3⟩, ⟨7, 7, 7, 0, 5⟩, cI, ⟨by decide +kernel, by decide +kernel⟩, by decide +kernel⟩,
   ⟨wI, ⟨95, 3⟩, ⟨7, 7, 7, 0, 6⟩, cI, ⟨by decide +kernel, by decide +kernel⟩, by decide +kernel⟩,
   ⟨wI, ⟨95, 3⟩, ⟨7, 7, 7, 0, 7⟩, cI, ⟨by decide +kernel, by decide +kernel⟩, by decide +kernel⟩,
   ⟨wI, ⟨95, 3⟩, ⟨7, 7, 7, 0, 8⟩, cI, ⟨by decide +kernel, by decide +kernel⟩, by decide +kernel⟩,
   ⟨wI, ⟨95, 3⟩, ⟨7, 7, 7, 0, 9⟩, cI, ⟨by decide +kernel, by decide +kernel⟩, by decide +kernel⟩,
   ⟨wI, ⟨95, 3⟩, ⟨7, 7, 7, 0, 10⟩, cI, ⟨by decide +kernel, by decide +kernel⟩, by decide +kernel⟩,
   ⟨wI, ⟨95, 3⟩, ⟨7, 7, 0, 0, 11⟩, cI, ⟨by decide +kernel, by decide +kernel⟩, by decide +kernel⟩,
   ⟨wI, ⟨95, 3⟩, ⟨7, 7, 7, 0, 0⟩, cI, ⟨by decide +kernel, by decide +kernel⟩, by decide +kernel⟩⟩

/-- Hypotheses of `Obligations.VectorSaturateAndMinMax`. -/
theorem witness_VectorSaturateAndMinMax :
    (∃ (s : State) (st : Site) (c : Ctx), Issuing s st c) ∧
    (∃ (s : State) (st : Site) (f : FmtO) (c : Ctx), Issuing s st c ∧ (¬(f.d.toNat < 16 ∧ f.a.toNat < 16 ∧
      (f.fn.toNat < 16 → f.b.toNat < 16) ∧ f.fn.toNat < 32) ∨ f.fn.toNat % 16 ≠ 0)) ∧
    (∃ (s : State) (st : Site) (f : FmtO) (c : Ctx), Issuing s st c ∧ ((f.d.toNat < 16 ∧ f.a.toNat < 16 ∧ (f.fn.toNat
      < 16 → f.b.toNat < 16) ∧ f.fn.toNat < 32)) ∧ f.fn.toNat % 16 = 1) ∧
    (∃ (s : State) (st : Site) (f : FmtO) (c : Ctx), Issuing s st c ∧ (¬(f.d.toNat < 16 ∧ f.a.toNat < 16 ∧
      (f.fn.toNat < 16 → f.b.toNat < 16) ∧ f.fn.toNat < 32) ∨ f.fn.toNat % 16 ≠ 1)) ∧
    (∃ (s : State) (st : Site) (f : FmtO) (c : Ctx), Issuing s st c ∧ ((f.d.toNat < 16 ∧ f.a.toNat < 16 ∧ (f.fn.toNat
      < 16 → f.b.toNat < 16) ∧ f.fn.toNat < 32)) ∧ f.fn.toNat % 16 = 2) ∧
    (∃ (s : State) (st : Site) (f : FmtO) (c : Ctx), Issuing s st c ∧ (¬(f.d.toNat < 16 ∧ f.a.toNat < 16 ∧
      (f.fn.toNat < 16 → f.b.toNat < 16) ∧ f.fn.toNat < 32) ∨ f.fn.toNat % 16 ≠ 2)) ∧
    (∃ (s : State) (st : Site) (f : FmtO) (c : Ctx), Issuing s st c ∧ ((f.d.toNat < 16 ∧ f.a.toNat < 16 ∧ (f.fn.toNat
      < 16 → f.b.toNat < 16) ∧ f.fn.toNat < 32)) ∧ f.fn.toNat % 16 = 3) ∧
    (∃ (s : State) (st : Site) (f : FmtO) (c : Ctx), Issuing s st c ∧ (¬(f.d.toNat < 16 ∧ f.a.toNat < 16 ∧
      (f.fn.toNat < 16 → f.b.toNat < 16) ∧ f.fn.toNat < 32) ∨ f.fn.toNat % 16 ≠ 3)) ∧
    (∃ (s : State) (st : Site) (f : FmtO) (c : Ctx), Issuing s st c ∧ ((f.d.toNat < 16 ∧ f.a.toNat < 16 ∧ (f.fn.toNat
      < 16 → f.b.toNat < 16) ∧ f.fn.toNat < 32)) ∧ f.fn.toNat % 16 = 0) ∧
    (∃ (s : State) (st : Site) (f : FmtO) (c : Ctx), Issuing s st c ∧ (¬(f.d.toNat < 16 ∧ f.a.toNat < 16 ∧
      (f.fn.toNat < 16 → f.b.toNat < 16) ∧ f.fn.toNat < 32) ∨ f.fn.toNat % 16 ≠ 0)) ∧
    (∃ (s : State) (st : Site) (f : FmtO) (c : Ctx), Issuing s st c ∧ ((f.d.toNat < 16 ∧ f.a.toNat < 16 ∧ (f.fn.toNat
      < 16 → f.b.toNat < 16) ∧ f.fn.toNat < 32)) ∧ f.fn.toNat % 16 = 1) ∧
    (∃ (s : State) (st : Site) (f : FmtO) (c : Ctx), Issuing s st c ∧ (¬(f.d.toNat < 16 ∧ f.a.toNat < 16 ∧
      (f.fn.toNat < 16 → f.b.toNat < 16) ∧ f.fn.toNat < 32) ∨ f.fn.toNat % 16 ≠ 1)) ∧
    (∃ (s : State) (st : Site) (f : FmtO) (c : Ctx), Issuing s st c ∧ ((f.d.toNat < 16 ∧ f.a.toNat < 16 ∧ (f.fn.toNat
      < 16 → f.b.toNat < 16) ∧ f.fn.toNat < 32)) ∧ f.fn.toNat % 16 = 0) ∧
    (∃ (s : State) (st : Site) (f : FmtO) (c : Ctx), Issuing s st c ∧ (¬(f.d.toNat < 16 ∧ f.a.toNat < 16 ∧
      (f.fn.toNat < 16 → f.b.toNat < 16) ∧ f.fn.toNat < 32) ∨ f.fn.toNat % 16 ≠ 0)) ∧
    (∃ (s : State) (st : Site) (f : FmtO) (c : Ctx), Issuing s st c ∧ ((f.d.toNat < 16 ∧ f.a.toNat < 16 ∧ (f.fn.toNat
      < 16 → f.b.toNat < 16) ∧ f.fn.toNat < 32)) ∧ f.fn.toNat % 16 = 1) ∧
    (∃ (s : State) (st : Site) (f : FmtO) (c : Ctx), Issuing s st c ∧ (¬(f.d.toNat < 16 ∧ f.a.toNat < 16 ∧
      (f.fn.toNat < 16 → f.b.toNat < 16) ∧ f.fn.toNat < 32) ∨ f.fn.toNat % 16 ≠ 1)) :=
  ⟨⟨wI, ⟨95, 3⟩, cI, ⟨by decide +kernel, by decide +kernel⟩⟩,
   ⟨wI, ⟨95, 3⟩, ⟨7, 7, 7, 7, 255⟩, cI, ⟨by decide +kernel, by decide +kernel⟩, by decide +kernel⟩,
   ⟨wI, ⟨95, 3⟩, ⟨7, 7, 7, 0, 1⟩, cI, ⟨by decide +kernel, by decide +kernel⟩, by decide +kernel⟩,
   ⟨wI, ⟨95, 3⟩, ⟨7, 7, 7, 7, 255⟩, cI, ⟨by decide +kernel, by decide +kernel⟩, by decide +kernel⟩,
   ⟨wI, ⟨95, 3⟩, ⟨7, 7, 7, 0, 2⟩, cI, ⟨by decide +kernel, by decide +kernel⟩, by decide +kernel⟩,
   ⟨wI, ⟨95, 3⟩, ⟨7, 7, 7, 7, 255⟩, cI, ⟨by decide +kernel, by decide +kernel⟩, by decide +kernel⟩,
   ⟨wI, ⟨95, 3⟩, ⟨7, 7, 7, 0, 3⟩, cI, ⟨by decide +kernel, by decide +kernel⟩, by decide +kernel⟩,
   ⟨wI, ⟨95, 3⟩, ⟨7, 7, 7, 7, 255⟩, cI, ⟨by decide +kernel, by decide +kernel⟩, by decide +kernel⟩,
   ⟨wI, ⟨95, 3⟩, ⟨7, 7, 7, 0, 0⟩, cI, ⟨by decide +kernel, by decide +kernel⟩, by decide +kernel⟩,
   ⟨wI, ⟨95, 3⟩, ⟨7, 7, 7, 7, 255⟩, cI, ⟨by decide +kernel, by decide +kernel⟩, by decide +kernel⟩,
   ⟨wI, ⟨95, 3⟩, ⟨7, 7, 7, 0, 1⟩, cI, ⟨by decide +kernel, by decide +kernel⟩, by decide +kernel⟩,
   ⟨wI, ⟨95, 3⟩, ⟨7, 7, 7, 7, 255⟩, cI, ⟨by decide +kernel, by decide +kernel⟩, by decide +kernel⟩,
   ⟨wI, ⟨95, 3⟩, ⟨7, 7, 7, 0, 0⟩, cI, ⟨by decide +kernel, by decide +kernel⟩, by decide +kernel⟩,
   ⟨wI, ⟨95, 3⟩, ⟨7, 7, 7, 7, 255⟩, cI, ⟨by decide +kernel, by decide +kernel⟩, by decide +kernel⟩,
   ⟨wI, ⟨95, 3⟩, ⟨7, 7, 7, 0, 1⟩, cI, ⟨by decide +kernel, by decide +kernel⟩, by decide +kernel⟩,
   ⟨wI, ⟨95, 3⟩, ⟨7, 7, 7, 7, 255⟩, cI, ⟨by decide +kernel, by decide +kernel⟩, by decide +kernel⟩⟩

/-- Hypotheses of `Obligations.VectorSelectAndMove`. -/
theorem witness_VectorSelectAndMove :
    (∃ (s : State) (st : Site) (f : FmtO) (c : Ctx), Issuing s st c ∧ f.fn = 0 ∧ f.d.toNat < 16 ∧ f.a.toNat < 16 ∧
      f.b.toNat < 16) ∧
    (∃ (s : State) (st : Site) (f : FmtO) (c : Ctx), Issuing s st c ∧ ¬(f.fn = 0 ∧ f.d.toNat < 16 ∧ f.a.toNat < 16 ∧
      f.b.toNat < 16)) ∧
    (∃ (s : State) (st : Site) (f : FmtO) (c : Ctx), Issuing s st c ∧ f.fn = 0 ∧ f.b = 0 ∧ f.d.toNat < 16) ∧
    (∃ (s : State) (st : Site) (f : FmtO) (c : Ctx), Issuing s st c ∧ ¬(f.fn = 0 ∧ f.b = 0 ∧ f.d.toNat < 16)) ∧
    (∃ (s : State) (st : Site) (f : FmtO) (c : Ctx), Issuing s st c ∧ f.fn = 1 ∧ f.pr = 0 ∧ f.b.toNat < 8 ∧ f.a.toNat
      < 16) ∧
    (∃ (s : State) (st : Site) (f : FmtO) (c : Ctx), Issuing s st c ∧ ¬(f.fn = 1 ∧ f.pr = 0 ∧ f.b.toNat < 8 ∧
      f.a.toNat < 16)) ∧
    (∃ (s : State) (st : Site) (f : FmtO) (c : Ctx), Issuing s st c ∧ f.fn = 2 ∧ f.pr = 0 ∧ f.b.toNat < 8 ∧ f.d.toNat
      < 16) ∧
    (∃ (s : State) (st : Site) (f : FmtO) (c : Ctx), Issuing s st c ∧ ¬(f.fn = 2 ∧ f.pr = 0 ∧ f.b.toNat < 8 ∧
      f.d.toNat < 16)) ∧
    (∃ (s : State) (st : Site) (f : FmtO) (c : Ctx), Issuing s st c ∧ f.fn = 3 ∧ f.a = 0 ∧ f.b = 0 ∧ f.d.toNat < 16) ∧
    (∃ (s : State) (st : Site) (f : FmtO) (c : Ctx), Issuing s st c ∧ ¬(f.fn = 3 ∧ f.a = 0 ∧ f.b = 0 ∧ f.d.toNat <
      16)) :=
  ⟨⟨wI, ⟨95, 3⟩, ⟨7, 7, 7, 0, 0⟩, cI, ⟨by decide +kernel, by decide +kernel⟩, by decide +kernel⟩,
   ⟨wI, ⟨95, 3⟩, ⟨7, 7, 7, 7, 255⟩, cI, ⟨by decide +kernel, by decide +kernel⟩, by decide +kernel⟩,
   ⟨wI, ⟨95, 3⟩, ⟨7, 7, 0, 0, 0⟩, cI, ⟨by decide +kernel, by decide +kernel⟩, by decide +kernel⟩,
   ⟨wI, ⟨95, 3⟩, ⟨7, 7, 7, 7, 255⟩, cI, ⟨by decide +kernel, by decide +kernel⟩, by decide +kernel⟩,
   ⟨wI, ⟨95, 3⟩, ⟨7, 7, 7, 0, 1⟩, cI, ⟨by decide +kernel, by decide +kernel⟩, by decide +kernel⟩,
   ⟨wI, ⟨95, 3⟩, ⟨7, 7, 7, 7, 255⟩, cI, ⟨by decide +kernel, by decide +kernel⟩, by decide +kernel⟩,
   ⟨wI, ⟨95, 3⟩, ⟨7, 7, 7, 0, 2⟩, cI, ⟨by decide +kernel, by decide +kernel⟩, by decide +kernel⟩,
   ⟨wI, ⟨95, 3⟩, ⟨7, 7, 7, 7, 255⟩, cI, ⟨by decide +kernel, by decide +kernel⟩, by decide +kernel⟩,
   ⟨wI, ⟨95, 3⟩, ⟨7, 0, 0, 0, 3⟩, cI, ⟨by decide +kernel, by decide +kernel⟩, by decide +kernel⟩,
   ⟨wI, ⟨95, 3⟩, ⟨7, 7, 7, 7, 255⟩, cI, ⟨by decide +kernel, by decide +kernel⟩, by decide +kernel⟩⟩

/-- Hypotheses of `Obligations.ReductionsAndPredicateResults`. -/
theorem witness_ReductionsAndPredicateResults :
    (∃ (s : State) (st : Site) (f : FmtO) (c : Ctx), Issuing s st c ∧ f.b = 0 ∧ f.fn = 0 ∧ f.a.toNat < 16) ∧
    (∃ (s : State) (st : Site) (f : FmtO) (c : Ctx), Issuing s st c ∧ f.b = 0 ∧ f.fn = 1 ∧ f.a.toNat < 16) ∧
    (∃ (s : State) (st : Site) (f : FmtO) (c : Ctx), Issuing s st c ∧ f.b = 0 ∧ f.fn = 2 ∧ f.a.toNat < 16) ∧
    (∃ (s : State) (st : Site) (f : FmtO) (c : Ctx), Issuing s st c ∧ f.b = 0 ∧ f.fn = 3 ∧ f.a.toNat < 16) ∧
    (∃ (s : State) (st : Site) (f : FmtO) (c : Ctx), Issuing s st c ∧ f.b = 0 ∧ f.fn = 4 ∧ f.a = 0) ∧
    (∃ (s : State) (st : Site) (f : FmtO) (c : Ctx), Issuing s st c ∧ f.b = 0 ∧ f.fn = 5 ∧ f.a = 0) ∧
    (∃ (s : State) (st : Site) (f : FmtO) (c : Ctx), Issuing s st c ∧ f.d.toNat < 8 ∧ f.a.toNat < 8 ∧ f.b.toNat < 8 ∧
      f.fn = 0) ∧
    (∃ (s : State) (st : Site) (f : FmtO) (c : Ctx), Issuing s st c ∧ f.d.toNat < 8 ∧ f.a.toNat < 8 ∧ f.b.toNat < 8 ∧
      f.fn = 1) ∧
    (∃ (s : State) (st : Site) (f : FmtO) (c : Ctx), Issuing s st c ∧ f.d.toNat < 8 ∧ f.a.toNat < 8 ∧ f.b.toNat < 8 ∧
      f.fn = 2) ∧
    (∃ (s : State) (st : Site) (f : FmtO) (c : Ctx), Issuing s st c ∧ f.d.toNat < 8 ∧ f.a.toNat < 8 ∧ f.b.toNat < 8 ∧
      f.fn = 3) ∧
    (∃ (s : State) (st : Site) (f : FmtO) (c : Ctx), Issuing s st c ∧ f.d.toNat < 8 ∧ f.a.toNat < 8 ∧ f.b.toNat < 8 ∧
      f.fn = 4 ∧ f.b = 0) ∧
    (∃ (s : State) (st : Site) (f : FmtO) (c : Ctx), Issuing s st c ∧ f.fn = 5 ∧ f.b = 0 ∧ f.pr = 0 ∧ f.a.toNat < 8) ∧
    (∃ (s : State) (st : Site) (f : FmtO) (c : Ctx), Issuing s st c ∧ f.fn = 6 ∧ f.b = 0 ∧ f.d.toNat < 8) ∧
    (∃ (s : State) (st : Site) (f : FmtO) (c : Ctx), Issuing s st c ∧ f.fn.toNat < 32 ∧ f.d.toNat % 2 = 0 ∧ f.d.toNat
      < 16 ∧ f.a.toNat < 16 ∧ f.b.toNat < 16) :=
  ⟨⟨wI, ⟨95, 3⟩, ⟨7, 7, 0, 0, 0⟩, cI, ⟨by decide +kernel, by decide +kernel⟩, by decide +kernel⟩,
   ⟨wI, ⟨95, 3⟩, ⟨7, 7, 0, 0, 1⟩, cI, ⟨by decide +kernel, by decide +kernel⟩, by decide +kernel⟩,
   ⟨wI, ⟨95, 3⟩, ⟨7, 7, 0, 0, 2⟩, cI, ⟨by decide +kernel, by decide +kernel⟩, by decide +kernel⟩,
   ⟨wI, ⟨95, 3⟩, ⟨7, 7, 0, 0, 3⟩, cI, ⟨by decide +kernel, by decide +kernel⟩, by decide +kernel⟩,
   ⟨wI, ⟨95, 3⟩, ⟨7, 0, 0, 0, 4⟩, cI, ⟨by decide +kernel, by decide +kernel⟩, by decide +kernel⟩,
   ⟨wI, ⟨95, 3⟩, ⟨7, 0, 0, 0, 5⟩, cI, ⟨by decide +kernel, by decide +kernel⟩, by decide +kernel⟩,
   ⟨wI, ⟨95, 3⟩, ⟨7, 7, 7, 0, 0⟩, cI, ⟨by decide +kernel, by decide +kernel⟩, by decide +kernel⟩,
   ⟨wI, ⟨95, 3⟩, ⟨7, 7, 7, 0, 1⟩, cI, ⟨by decide +kernel, by decide +kernel⟩, by decide +kernel⟩,
   ⟨wI, ⟨95, 3⟩, ⟨7, 7, 7, 0, 2⟩, cI, ⟨by decide +kernel, by decide +kernel⟩, by decide +kernel⟩,
   ⟨wI, ⟨95, 3⟩, ⟨7, 7, 7, 0, 3⟩, cI, ⟨by decide +kernel, by decide +kernel⟩, by decide +kernel⟩,
   ⟨wI, ⟨95, 3⟩, ⟨7, 7, 0, 0, 4⟩, cI, ⟨by decide +kernel, by decide +kernel⟩, by decide +kernel⟩,
   ⟨wI, ⟨95, 3⟩, ⟨7, 7, 0, 0, 5⟩, cI, ⟨by decide +kernel, by decide +kernel⟩, by decide +kernel⟩,
   ⟨wI, ⟨95, 3⟩, ⟨7, 7, 0, 0, 6⟩, cI, ⟨by decide +kernel, by decide +kernel⟩, by decide +kernel⟩,
   ⟨wI, ⟨95, 3⟩, ⟨14, 15, 15, 7, 31⟩, cI, ⟨by decide +kernel, by decide +kernel⟩, by decide +kernel⟩⟩

/-- Hypotheses of `Obligations.StagingReadsAndWrites`. -/
theorem witness_StagingReadsAndWrites :
    (∃ (s : State) (st : Site) (f : FmtO) (c : Ctx) (i : Nat) (t : Tag), Issuing s st c ∧ (c.rs f.a).toNat = 64 *
      st.ctx + i ∧ c.tags[i]? = some t ∧ t.kind ≠ .cst ∧ t.done = true ∧ f.b = 0 ∧ f.d.toNat < 16 ∧ f.fn.toNat <
      t.kind.words) ∧
    (∃ (s : State) (st : Site) (f : FmtO) (c : Ctx) (i : Nat) (t : Tag), Issuing s st c ∧ (c.rs f.a).toNat = 64 *
      st.ctx + i ∧ c.tags[i]? = some t ∧ t.kind = .cld ∧ t.done = true ∧ f.d = 0 ∧ f.b.toNat < 16 ∧ f.fn.toNat < 16 ∧
      SMap.wf (fun _ => 0#32) t.slot = true) :=
  ⟨⟨wI, ⟨95, 3⟩, ⟨7, 1, 0, 0, 0⟩, cI, 0, ⟨.cld, 0xFF, 5, [], true, []⟩, ⟨by decide +kernel, by decide +kernel⟩,
  by decide +kernel⟩,
   ⟨wI, ⟨95, 3⟩, ⟨0, 1, 7, 0, 0⟩, cI, 0, ⟨.cld, 0xFF, 5, [], true, []⟩, ⟨by decide +kernel, by decide +kernel⟩,
     by decide +kernel⟩⟩

/-- Hypotheses of `Obligations.MemoryOperationsWaitAndFence`. -/
theorem witness_MemoryOperationsWaitAndFence :
    (∃ (s : State) (st : Site) (f : FmtM) (c : Ctx) (i : Nat) (t : Tag), c.tags.length < 64 ∧ IssuingWord s st c
      (f.word 0x31) ∧ s.inFlight st.core .cst < 32 ∧ f.off = 0 ∧ (c.rs f.base).toNat = 64 * st.ctx + i ∧ c.tags[i]? =
      some t ∧ t.kind = .cld ∧ t.done = true) ∧
    (∃ (s : State) (st : Site) (f : FmtM) (c : Ctx), c.tags.length < 64 ∧ IssuingWord s st c (f.word 0x32) ∧
      s.inFlight st.core .rpt < 64 ∧ ((c.rs f.base).toNat + f.off.toNat) < 1408 ∧ s.isBound (s.groupAt st) ((c.rs
      f.base).toNat + f.off.toNat) = true) ∧
    (∃ (s : State) (st : Site) (f : FmtM) (c : Ctx), c.tags.length < 64 ∧ IssuingWord s st c (f.word 0x33) ∧
      s.inFlight st.core .hnt < 64 ∧ ((c.rs f.base).toNat + f.off.toNat) < 1408 ∧ s.isBound (s.groupAt st) ((c.rs
      f.base).toNat + f.off.toNat) = true) ∧
    (∃ (s : State) (st : Site) (f : FmtM) (c : Ctx), c.tags.length < 64 ∧ IssuingWord s st c (f.word 0x34) ∧
      s.inFlight st.core .tbl < 96 ∧ f.base.toNat < 16 ∧ ((∀ k < 8, (c.rp f.pr.toNat).getLsbD k = true → (c.rv
      f.base.toNat k).toNat + f.off.toNat < 65536))) ∧
    (∃ (s : State) (st : Site) (f : FmtM) (c : Ctx), Issuing s st c ∧ c.tags.length < 64 ∧ 32 ≤ s.inFlight st.core
      .cld ∧ f.base = 0 ∧ f.off = 0) ∧
    (∃ (s : State) (st : Site) (f : FmtO) (c : Ctx) (w : W32), s.canIssue st = some c ∧ c.stalled = some w ∧ w ≠
      f.word 0x00) ∧
    (∃ (s : State) (st : Site) (f : FmtO) (c : Ctx), Issuing s st c ∧ f.d = 0 ∧ f.b = 0 ∧ f.pr = 0 ∧ f.fn = 0 ∧
      ((((c.rs f.a).toNat) < 64 * st.ctx ∨ 64 * st.ctx + c.tags.length ≤ ((c.rs f.a).toNat)))) ∧
    (∃ (s : State) (st : Site) (f : FmtO) (c : Ctx) (i : Nat) (t : Tag), Issuing s st c ∧ f.d = 0 ∧ f.b = 0 ∧ f.pr =
      0 ∧ f.fn = 0 ∧ ((c.rs f.a).toNat) = 64 * st.ctx + i ∧ c.tags[i]? = some t) ∧
    (∃ (s : State) (st : Site) (f : FmtO) (c : Ctx), Issuing s st c ∧ f.d = 0 ∧ f.b = 0 ∧ f.pr = 0 ∧ f.fn = 0 ∧ f.a =
      0) ∧
    (∃ (s : State) (g : Nat) (k : Nat) (i : Nat) (t : Tag), g < 104 ∧ k < 4 ∧ i < 64 ∧ (s.ctx ⟨g, k⟩).tags[i]? = some
      t ∧ t.done = false) ∧
    (∃ (s : State) (st : Site) (f : FmtM) (c : Ctx), c.tags.length < 64 ∧ IssuingWord s st c (f.word 0x30) ∧
      s.inFlight st.core .cld < 32 ∧ f.base = 0 ∧ f.off = 0) :=
  ⟨⟨wI, ⟨95, 3⟩, ⟨31, 1, 7, 0⟩, cI, 0, ⟨.cld, 0xFF, 5, [], true, []⟩, by decide +kernel, ⟨by decide +kernel,
  by decide +kernel⟩, by decide +kernel, by decide +kernel, by decide +kernel, by decide +kernel, by decide +kernel,
  by decide +kernel⟩,
   ⟨wI, ⟨95, 3⟩, ⟨31, 0, 7, 5⟩, cI, by decide +kernel, ⟨by decide +kernel, by decide +kernel⟩, by decide +kernel,
     by decide +kernel, by decide +kernel⟩,
   ⟨wI, ⟨95, 3⟩, ⟨31, 0, 7, 5⟩, cI, by decide +kernel, ⟨by decide +kernel, by decide +kernel⟩, by decide +kernel,
     by decide +kernel, by decide +kernel⟩,
   ⟨wI, ⟨95, 3⟩, ⟨31, 15, 7, 5⟩, cI, by decide +kernel, ⟨by decide +kernel, by decide +kernel⟩, by decide +kernel,
     by decide +kernel, by decide +kernel⟩,
   ⟨wI.setCtx ⟨95, 1⟩ { cI with tags := List.replicate 32 ⟨.cld, 0xFF, 5, [], false, []⟩ }, ⟨95, 3⟩, ⟨31, 0, 7, 0⟩,
     cI, ⟨by decide +kernel, by decide +kernel⟩, by decide +kernel⟩,
   ⟨wI.setCtx ⟨95, 3⟩ { cI with stalled := some 5 }, ⟨95, 3⟩, ⟨0, 0, 0, 0, 0⟩, { cI with stalled := some 5 }, 5#32,
     by decide +kernel⟩,
   ⟨wI, ⟨95, 3⟩, ⟨0, 0, 0, 0, 0⟩, cI, ⟨by decide +kernel, by decide +kernel⟩, by decide +kernel⟩,
   ⟨wI, ⟨95, 3⟩, ⟨0, 1, 0, 0, 0⟩, cI, 0, ⟨.cld, 0xFF, 5, [], true, []⟩, ⟨by decide +kernel, by decide +kernel⟩,
     by decide +kernel⟩,
   ⟨wI, ⟨95, 3⟩, ⟨0, 0, 0, 0, 0⟩, cI, ⟨by decide +kernel, by decide +kernel⟩, by decide +kernel⟩,
   ⟨wI, 95, 2, 0, ⟨.rpt, 0xFF, 5, [], false, []⟩, by decide +kernel⟩,
   ⟨wI, ⟨95, 3⟩, ⟨31, 0, 7, 0⟩, cI, by decide +kernel, ⟨by decide +kernel, by decide +kernel⟩, by decide +kernel⟩⟩

/-- Hypotheses of `Obligations.GrantEmission`. -/
theorem witness_GrantEmission :
    ∃ (s : State) (st : Site) (f : FmtO) (c : Ctx), Issuing s st c ∧ f.d = 0 ∧ f.fn = 0 ∧ f.a.toNat < 16 ∧ f.b.toNat
      < 16 ∧ c.entry = .plan ∧ SMap.wf (fun _ => (none : Option Grant)) c.pend = true :=
  ⟨wI, ⟨95, 3⟩, ⟨0, 7, 7, 0, 0⟩, cI, ⟨by decide +kernel, by decide +kernel⟩, by decide +kernel⟩

/-- Hypotheses of `Obligations.BranchesAndLoops`. -/
theorem witness_BranchesAndLoops :
    (∃ (s : State) (st : Site) (f : FmtB) (c : Ctx), Issuing s st c ∧ 1 ≤ f.n.toNat ∧ f.n.toNat < 16384 ∧ c.pc +
      f.n.toNat < (s.progAt st).stop c.entry) ∧
    (∃ (s : State) (st : Site) (f : FmtB) (c : Ctx), Issuing s st c ∧ 1 ≤ f.n.toNat ∧ f.n.toNat < 16384 ∧ c.pc +
      f.n.toNat < (s.progAt st).stop c.entry ∧ f.cond = 1) ∧
    (∃ (s : State) (st : Site) (f : FmtB) (c : Ctx), Issuing s st c ∧ 1 ≤ f.n.toNat ∧ f.n.toNat < 16384 ∧ c.pc +
      f.n.toNat < (s.progAt st).stop c.entry ∧ f.cond = 2) ∧
    (∃ (s : State) (st : Site) (f : FmtB) (c : Ctx), Issuing s st c ∧ 1 ≤ f.n.toNat ∧ f.n.toNat < 16384 ∧ c.pc +
      f.n.toNat < (s.progAt st).stop c.entry ∧ f.cond = 3) ∧
    (∃ (s : State) (st : Site) (f : FmtB) (c : Ctx), Issuing s st c ∧ 1 ≤ f.n.toNat ∧ f.n.toNat < 16384 ∧ c.pc +
      f.n.toNat < (s.progAt st).stop c.entry ∧ f.cond = 4) ∧
    (∃ (s : State) (st : Site) (f : FmtB) (c : Ctx), Issuing s st c ∧ f.cond = 0 ∧ f.pr = 0 ∧ 1 ≤ f.n.toNat ∧
      f.n.toNat ≤ 4096 ∧ c.loops.length < 4) ∧
    (∃ (s : State) (st : Site) (f : FmtB) (c : Ctx) (e : LoopEnt) (r : List LoopEnt), Issuing s st c ∧ f.cond = 0 ∧
      f.pr = 0 ∧ f.n = 0 ∧ c.loops = e :: r ∧ 1 < e.left) ∧
    (∃ (s : State) (st : Site) (f : FmtB) (c : Ctx) (e : LoopEnt) (r : List LoopEnt), Issuing s st c ∧ f.cond = 0 ∧
      f.pr = 0 ∧ f.n = 0 ∧ c.loops = e :: r ∧ e.left ≤ 1) ∧
    (∃ f : FmtB, f.pr = 1 ∧ cI.rp f.pr.toNat ≠ 0#8 ∧ cI.rp f.pr.toNat ≠ 0xFF#8) ∧
    (∃ f : FmtB, cI.rp f.pr.toNat = 0xFF#8) ∧
    (∃ f : FmtB, cI.rp f.pr.toNat = 0#8) :=
  ⟨⟨wI, ⟨95, 3⟩, ⟨0, 0, 16383⟩, cI, ⟨by decide +kernel, by decide +kernel⟩, by decide +kernel⟩,
   ⟨wI, ⟨95, 3⟩, ⟨1, 0, 16383⟩, cI, ⟨by decide +kernel, by decide +kernel⟩, by decide +kernel⟩,
   ⟨wI, ⟨95, 3⟩, ⟨2, 0, 16383⟩, cI, ⟨by decide +kernel, by decide +kernel⟩, by decide +kernel⟩,
   ⟨wI, ⟨95, 3⟩, ⟨3, 0, 16383⟩, cI, ⟨by decide +kernel, by decide +kernel⟩, by decide +kernel⟩,
   ⟨wI, ⟨95, 3⟩, ⟨4, 0, 16383⟩, cI, ⟨by decide +kernel, by decide +kernel⟩, by decide +kernel⟩,
   ⟨wI, ⟨95, 3⟩, ⟨0, 0, 4096⟩, cI, ⟨by decide +kernel, by decide +kernel⟩, by decide +kernel⟩,
   ⟨wI, ⟨95, 3⟩, ⟨0, 0, 0⟩, cI, ⟨1, 2, 0⟩, [], ⟨by decide +kernel, by decide +kernel⟩, by decide +kernel⟩,
   ⟨wI, ⟨95, 2⟩, ⟨0, 0, 0⟩, cJ, ⟨1, 1, 0⟩, [], ⟨by decide +kernel, by decide +kernel⟩, by decide +kernel⟩,
   ⟨⟨1, 1, 1⟩, by decide +kernel⟩,
   ⟨⟨1, 0, 1⟩, by decide +kernel⟩,
   ⟨⟨1, 2, 1⟩, by decide +kernel⟩⟩

/-- Hypotheses of `Obligations.HaltAndIllegalEndTheBatch`. -/
theorem witness_HaltAndIllegalEndTheBatch :
    (∃ (s : State) (st : Site) (f : FmtB) (c : Ctx), s.canIssue st = some c ∧ c.stalled = none ∧ f.cond = 0 ∧ f.pr =
      0 ∧ f.n = 0 ∧ c.entry = .plan) ∧
    (∃ (s : State) (st : Site) (f : FmtB) (c : Ctx), s.canIssue st = some c ∧ c.stalled = none ∧ f.cond = 0 ∧ f.pr =
      0 ∧ f.n = 0 ∧ (c.entry = .install ∨ c.entry = .retire)) ∧
    (∃ (s : State) (st : Site) (f : FmtB) (c : Ctx), s.canIssue st = some c ∧ c.stalled = none ∧ f.cond = 0 ∧ f.pr =
      0 ∧ f.n = 0 ∧ c.entry = .plan ∧ SMap.wf (fun _ => (none : Option Grant)) s.grant.released = true ∧ SMap.wf
      Core.dflt s.grant.cores = true) ∧
    (∃ (s : State) (st : Site), st.core < 104 ∧ st.ctx < 4 ∧ (s.ctx st).run ≠ .idle ∧ (s.ctx st).entry = .plan ∧
      (s.ctx st).upsets = 0 ∧ s.clk.cycle + (s.progAt st).planBound ≤ 196000 ∧ SMap.wf (fun _ => ({} : Ctx))
      s.grant.ctxs = true) ∧
    (∃ (s : State) (st : Site), st.core < 104 ∧ st.ctx < 4 ∧ (s.ctx st).run ≠ .idle ∧ (s.ctx st).entry = .plan ∧
      (((s.ctx st).upsets ≠ 0 ∨ 196000 < (((s.gcrCount st.core 1).countError 0 st.core).raiseOnce evCoreUpset st.core
      st.core).clk.cycle + (s.progAt st).planBound))) ∧
    (∃ (s : State) (st : Site), st.core < 104 ∧ st.ctx < 4 ∧ (s.ctx st).run ≠ .idle ∧ ((s.ctx st).entry = .install ∨
      (s.ctx st).entry = .retire) ∧ ((s.ctx st).upsets = 0 ∧ max (s.progAt st).instBound (s.progAt st).retBound + 32
      ≤ (((s.gcrCount st.core 1).countError 0 st.core).raiseOnce evCoreUpset st.core st.core).winLeft)) ∧
    (∃ (s : State) (st : Site), st.core < 104 ∧ st.ctx < 4 ∧ (s.ctx st).run ≠ .idle ∧ ((s.ctx st).entry = .install ∨
      (s.ctx st).entry = .retire) ∧ ¬((s.ctx st).upsets = 0 ∧ max (s.progAt st).instBound (s.progAt st).retBound + 32
      ≤ (((s.gcrCount st.core 1).countError 0 st.core).raiseOnce evCoreUpset st.core st.core).winLeft)) ∧
    (∃ (s : State) (st : Site), st.core < 104 ∧ st.ctx < 4 ∧ (s.ctx st).run = .idle) ∧
    (∃ (s : State) (st : Site) (f : FmtB) (c : Ctx), s.canIssue st = some c ∧ c.stalled = none ∧ c.entry = .plan ∧
      SMap.wf Core.dflt s.grant.cores = true ∧ f.n = 0) ∧
    (∃ (s : State) (st : Site) (f : FmtO) (c : Ctx), s.canIssue st = some c ∧ c.stalled = none ∧ c.entry = .plan ∧
      SMap.wf Core.dflt s.grant.cores = true ∧ f.pr ≠ 0) :=
  ⟨⟨wI, ⟨95, 3⟩, (⟨0, 0, 0⟩ : FmtB), cI, by decide +kernel⟩,
   ⟨(wI.setGroup 95 { slot0 := { planLen := 16384, planBound := 100, instLen := 10, instBound := 20 } }).setCtx ⟨95,
     3⟩ { cI with entry := .install }, ⟨95, 3⟩, (⟨0, 0, 0⟩ : FmtB), { cI with entry := .install }, by decide +kernel⟩,
   ⟨wI, ⟨95, 3⟩, (⟨0, 0, 0⟩ : FmtB), cI, by decide +kernel⟩,
   ⟨wI, ⟨95, 3⟩, by decide +kernel⟩,
   ⟨wI.setCtx ⟨95, 3⟩ { cI with upsets := 1 }, ⟨95, 3⟩, by decide +kernel⟩,
   ⟨{ (wI.setGroup 95 { slot0 := { planLen := 16384, planBound := 100, instLen := 10, instBound := 20 } }).setCtx ⟨95, 3⟩ { cI with entry := .install } with clk := { wI.clk with cycle := 200000 } },
     ⟨95, 3⟩, by decide +kernel⟩,
   ⟨(wI.setGroup 95 { slot0 := { planLen := 16384, planBound := 100, instLen := 10, instBound := 20 } }).setCtx ⟨95,
     3⟩ { cI with entry := .install, upsets := 1 }, ⟨95, 3⟩, by decide +kernel⟩,
   ⟨wI, ⟨95, 0⟩, by decide +kernel⟩,
   ⟨wI, ⟨95, 3⟩, (⟨0, 0, 0⟩ : FmtB), cI, by decide +kernel⟩,
   ⟨wI, ⟨95, 3⟩, ⟨0, 0, 0, 1, 0⟩, cI, by decide +kernel⟩⟩

/-- Hypotheses of `Obligations.StepRunsTheFrontCommand`. -/
theorem witness_StepRunsTheFrontCommand :
    (∃ (c : Instr) (r : List Instr) (s : State), s.pending = c :: r) ∧
    (∃ (s : State), s.pending = [] ∧ s.clk.running = true ∧ s.clk.cycle + 1 < s.clk.phase.nextPoint) ∧
    (∃ (s : State), s.pending = [] ∧ s.clk.running = true ∧ s.clk.phase.nextPoint ≤ s.clk.cycle + 1) ∧
    (∃ (s : State), s.pending = [] ∧ s.clk.running = false) :=
  ⟨⟨.milestone, [], { w0 with pending := [.milestone] }, by decide +kernel⟩,
   ⟨w0, by decide +kernel⟩,
   ⟨{ w0 with clk := { w0.clk with cycle := 195999, phase := .afterSnapshot } }, by decide +kernel⟩,
   ⟨State.reset, by decide +kernel⟩⟩

/-- Hypotheses of `Obligations.IntervalPhasePoints`. -/
theorem witness_IntervalPhasePoints :
    (∃ (s : State) (i : Instr) (p : Phase), (i, p) ∈ [(Instr.milestone, Phase.afterDelivery), (.snapshot,
      .afterMilestone), (.planDeadline, .afterSnapshot), (.commitPoint, .afterDeadline), (.deliveryDeadline,
      .afterCommit)] ∧ (s.clk.running = false ∨ s.clk.phase ≠ p)) ∧
    (∃ s : State, s.clk.running = true ∧ s.clk.phase = .afterDelivery) ∧
    (∃ s : State, s.clk.running = true ∧ s.clk.phase = .afterMilestone) ∧
    (∃ s : State, s.clk.running = true ∧ s.clk.phase = .afterSnapshot) ∧
    (∃ s : State, s.clk.running = true ∧ s.clk.phase = .afterDeadline) ∧
    (∃ s : State, s.clk.running = true ∧ s.clk.phase = .afterCommit ∧ SMap.wf Sub.dflt s.pon.subs = true ∧ SMap.wf
      regReset s.regs = true) :=
  ⟨⟨w0, .milestone, .afterDelivery, by decide +kernel⟩,
   ⟨{ w0 with clk := { w0.clk with cycle := 5000, phase := .afterDelivery } }, by decide +kernel⟩,
   ⟨{ w0 with clk := { w0.clk with cycle := 5000, phase := .afterMilestone } }, by decide +kernel⟩,
   ⟨{ w0 with clk := { w0.clk with cycle := 5000, phase := .afterSnapshot } }, by decide +kernel⟩,
   ⟨{ w0 with clk := { w0.clk with cycle := 5000, phase := .afterDeadline } }, by decide +kernel⟩,
   ⟨{ w0 with clk := { w0.clk with cycle := 232000, phase := .afterCommit } }, by decide +kernel⟩⟩

/-- Hypotheses of `Obligations.RoadbookAcceptanceAndRecord`. -/
theorem witness_RoadbookAcceptanceAndRecord :
    (∃ (s : State) (sc : Nat), s.clk.running = true ∧ s.clk.phase = .afterCommit ∧ (s.sub sc).built.isSome = true ∧
      (s.sub sc).accepted = false) ∧
    (∃ (s : State), s.clk.phase ≠ .afterCommit) ∧
    (∃ (s : State), (s.health 8 0).st.alive = false ∧ (s.health 8 1).st.alive = false) ∧
    (∃ (s : State) (sc : Nat) (k : Book), ((s.health 8 0).st.alive = true ∨ (s.health 8 1).st.alive = true) ∧
      s.pon.recPending.isSome = true ∧ SMap.wf Sub.dflt s.pon.subs = true ∧ (s.sub sc).built = some k ∧ (s.sub
      sc).accepted = true ∧ (s.sub sc).oos = false) ∧
    (∃ (s : State), SMap.wf (fun _ => ({} : Report)) s.grant.reports = true) :=
  ⟨⟨{ w0.modSub 0 (fun x => { x with built := some ⟨1000, [], false⟩ }) with clk := { w0.clk with cycle := 232000, phase := .afterCommit } },
  0, by decide +kernel⟩,
   ⟨w0, by decide +kernel⟩,
   ⟨(w0.setHealth 8 0 { st := .lost }).setHealth 8 1 { st := .lost }, by decide +kernel⟩,
   ⟨wRec, 0, ⟨1000, [], false⟩, by decide +kernel⟩,
   ⟨w0, by decide +kernel⟩⟩

/-- Hypotheses of `Obligations.MaintenanceWindowRunsEntries`. -/
theorem witness_MaintenanceWindowRunsEntries :
    ∃ (s : State) (q : Nat) (g : Nat) (u : Nat), s.clk.running = true ∧ 5 ≤ s.stage ∧ 196000 ≤ s.clk.cycle ∧ s.coreOf
      q = some g ∧ (s.core g).st ≠ .lost ∧ (s.core g).group = some q ∧ ((∀ p ∈ s.deferred, ∀ v d, p.change =
      .waypointReturn v d → p.e ≠ s.clk.msc + 2)) ∧ ((∀ p ∈ s.deferred, ∀ d b, p.change = .domainTeardown d b → p.e ≠
      s.clk.msc + 2)) ∧ s.windowEntries q (s.clk.msc + 2) = [(u, .install)] ∧ ((∀ p ∈ s.deferred, ∀ a b, p.change =
      .coreDetour a b → p.e ≠ s.clk.msc + 2)) ∧ s.mgmt.pair.kat = [] ∧ ((s.group q).prog (s.entrySlot q
      .install)).instLen ≠ 0 ∧ (s.group q).entries = [] ∧ (s.ctx ⟨g, 0⟩).run = .idle ∧ SMap.wf (fun _ => ({} : Ctx))
      s.grant.ctxs = true ∧ SMap.wf (fun _ => ({} : Group)) s.grant.groups = true :=
  ⟨wMw, 0, 0, 1, by decide +kernel, by decide +kernel, by decide +kernel, by decide +kernel, by decide +kernel,
    by decide +kernel, mw_other, mw_td, by decide +kernel, mw_core, by decide +kernel, by decide +kernel,
    by decide +kernel, by decide +kernel, by decide +kernel, by decide +kernel⟩

/-- Hypotheses of `Obligations.OneOutcomeForEachBurst`. -/
theorem witness_OneOutcomeForEachBurst :
    (∃ (s : State) (sc : Nat) (m : Nat) (i : Nat) (k : Book) (b : Burst), SMap.wf Sub.dflt s.pon.subs = true ∧ (s.sub
      sc).books.find? (fun k => k.msc == m) = some k ∧ k.counted = true ∧ k.bursts[i]? = some b ∧ b.outcome = none ∧
      m + (s.sub sc).len ≤ s.clk.msc + 1) ∧
    (∃ (s : State) (sc : Nat) (m : Nat) (i : Nat) (k : Book) (b : Burst) (o : Outc), (s.sub sc).books.find? (fun k =>
      k.msc == m) = some k ∧ k.bursts[i]? = some b ∧ b.outcome = some o) ∧
    (∃ (s : State) (sc : Nat) (m : Nat) (i : Nat) (k : Book) (b : Burst), (s.sub sc).books.find? (fun k => k.msc ==
      m) = some k ∧ k.bursts[i]? = some b ∧ b.received = false ∧ m + (s.sub sc).len ≤ s.clk.msc + 1 ∧ ((b.kind ==
      .data || b.kind == .ploamOnly) && (s.sub sc).follows (m * frameUnits (s.sub sc) + b.start)) = true) ∧
    (∃ (s : State) (sc : Nat) (m : Nat) (i : Nat) (k : Book) (b : Burst), (s.sub sc).books.find? (fun k => k.msc ==
      m) = some k ∧ k.bursts[i]? = some b ∧ b.received = false ∧ m + (s.sub sc).len ≤ s.clk.msc + 1 ∧ ((b.kind ==
      .data || b.kind == .ploamOnly) && (s.sub sc).follows (m * frameUnits (s.sub sc) + b.start)) = false) ∧
    (∃ (s : State) (sc : Nat) (b : Burst) (rx : BurstRx), (s.sub sc).oos = false ∧ b.kind = .data ∧ s.burstDiscarded
      sc b = false ∧ (s.term sc b.term).rtFrame = none ∧ rx.overlap = true) ∧
    (∃ (s : State) (sc : Nat) (b : Burst) (rx : BurstRx), (s.sub sc).oos = false ∧ b.kind = .data ∧ s.burstDiscarded
      sc b = false ∧ (s.term sc b.term).rtFrame = none ∧ rx.overlap = false ∧ s.lightOf sc rx = false) ∧
    (∃ (s : State) (sc : Nat) (b : Burst) (rx : BurstRx), (s.sub sc).oos = false ∧ b.kind = .data ∧ s.burstDiscarded
      sc b = false ∧ (s.term sc b.term).rtFrame = none ∧ rx.overlap = false ∧ s.lightOf sc rx = true ∧ rx.delim =
      true ∧ rx.offset < -((s.sub sc).phaseTol)) ∧
    (∃ (s : State) (sc : Nat) (b : Burst) (rx : BurstRx), (s.sub sc).oos = false ∧ b.kind = .data ∧ s.burstDiscarded
      sc b = false ∧ (s.term sc b.term).rtFrame = none ∧ rx.overlap = false ∧ s.lightOf sc rx = true ∧ rx.delim =
      true ∧ -((s.sub sc).phaseTol) ≤ rx.offset ∧ ((s.sub sc).phaseTol) < rx.offset) ∧
    (∃ (s : State) (sc : Nat) (m : Nat) (b : Burst) (rx : BurstRx), (s.sub sc).oos = false ∧ b.kind = .data ∧
      s.burstDiscarded sc b = false ∧ (s.term sc b.term).rtFrame = none ∧ rx.overlap = false ∧ s.lightOf sc rx = true
      ∧ ((rx.delim = true → -((s.sub sc).phaseTol) ≤ rx.offset ∧ rx.offset ≤ ((s.sub sc).phaseTol))) ∧ (rx.lock =
      false ∨ rx.delim = false ∨ rx.clean = false ∨ rx.lost = true ∨ s.hitByLoss sc m b = true)) ∧
    (∃ (s : State) (sc : Nat) (m : Nat) (b : Burst) (rx : BurstRx), (s.sub sc).oos = false ∧ b.kind = .data ∧
      s.burstDiscarded sc b = false ∧ (s.term sc b.term).rtFrame = none ∧ rx.overlap = false ∧ s.lightOf sc rx = true
      ∧ rx.delim = true ∧ -((s.sub sc).phaseTol) ≤ rx.offset ∧ rx.offset ≤ ((s.sub sc).phaseTol) ∧ rx.lock = true ∧
      rx.clean = true ∧ rx.lost = false ∧ s.hitByLoss sc m b = false) :=
  ⟨⟨wBk, 0, 990, 0, (⟨990, [⟨.data, 4, 0, 0, 100, [], none, false, none⟩, ⟨.data, 4, 0, 200, 100, [], some .arrived,
  true, none⟩, ⟨.data, 4, 0, 400, 100, [], none, false, none⟩], true⟩ : Book), (⟨.data, 4, 0, 0, 100, [], none,
  false, none⟩ : Burst), by decide +kernel⟩,
   ⟨wBk, 0, 990, 1, (⟨990, [⟨.data, 4, 0, 0, 100, [], none, false, none⟩, ⟨.data, 4, 0, 200, 100, [], some .arrived,
     true, none⟩, ⟨.data, 4, 0, 400, 100, [], none, false, none⟩], true⟩ : Book), (⟨.data, 4, 0, 200, 100, [], some
     .arrived, true, none⟩ : Burst), .arrived, by decide +kernel⟩,
   ⟨wBk, 0, 990, 2, (⟨990, [⟨.data, 4, 0, 0, 100, [], none, false, none⟩, ⟨.data, 4, 0, 200, 100, [], some .arrived,
     true, none⟩, ⟨.data, 4, 0, 400, 100, [], none, false, none⟩], true⟩ : Book), (⟨.data, 4, 0, 400, 100, [], none,
     false, none⟩ : Burst), by decide +kernel⟩,
   ⟨wBk, 0, 990, 0, (⟨990, [⟨.data, 4, 0, 0, 100, [], none, false, none⟩, ⟨.data, 4, 0, 200, 100, [], some .arrived,
     true, none⟩, ⟨.data, 4, 0, 400, 100, [], none, false, none⟩], true⟩ : Book), (⟨.data, 4, 0, 0, 100, [], none,
     false, none⟩ : Burst), by decide +kernel⟩,
   ⟨wP, 0, (⟨.data, 4, 0, 0, 100, [], none, false, none⟩ : Burst), (⟨true, false, false, false, true, true, true, 0,
     true, false, 0, 0, [], 0, []⟩ : BurstRx), by decide +kernel⟩,
   ⟨wP, 0, (⟨.data, 4, 0, 0, 100, [], none, false, none⟩ : Burst), (⟨false, false, false, false, false, true, true,
     0, true, false, 0, 0, [], 0, []⟩ : BurstRx), by decide +kernel⟩,
   ⟨wP, 0, (⟨.data, 4, 0, 0, 100, [], none, false, none⟩ : Burst), (⟨true, false, false, false, false, true, true,
     -321, true, false, 0, 0, [], 0, []⟩ : BurstRx), by decide +kernel⟩,
   ⟨wP, 0, (⟨.data, 4, 0, 0, 100, [], none, false, none⟩ : Burst), (⟨true, false, false, false, false, true, true,
     321, true, false, 0, 0, [], 0, []⟩ : BurstRx), by decide +kernel⟩,
   ⟨wP, 0, 990, (⟨.data, 4, 0, 0, 100, [], none, false, none⟩ : Burst), (⟨true, false, false, false, false, true,
     true, 0, false, false, 0, 0, [], 0, []⟩ : BurstRx), by decide +kernel⟩,
   ⟨wP, 0, 990, (⟨.data, 4, 0, 0, 100, [], none, false, none⟩ : Burst), (⟨true, false, false, false, false, true,
     true, 320, true, false, 0, 0, [], 0, []⟩ : BurstRx), by decide +kernel⟩⟩

/-- Hypotheses of `Obligations.DrainsEndAndLedgerBalances`. -/
theorem witness_DrainsEndAndLedgerBalances :
    (∃ (s : State) (sc : Nat) (e : Nat), (s.sub sc).drainE = some e ∧ s.roadClear sc e = false ∧
      s.mgmt.pair.trees.get none (sc / 2) = none) ∧
    (∃ (s : State) (sc : Nat) (e : Nat), (s.sub sc).drainE = some e ∧ s.roadClear sc e = true ∧ s.mgmt.pair.trees.get
      none (sc / 2) = none ∧ SMap.wf Sub.dflt s.pon.subs = true ∧ (s.sub sc).road = .draining) ∧
    (∃ (s : State) (sc : Nat) (e : Nat), (s.sub sc).drainE = some e ∧ s.roadClear sc e = true ∧ s.mgmt.pair.trees.get
      none (sc / 2) = none ∧ SMap.wf Sub.dflt s.pon.subs = true ∧ (s.sub sc).road = .resuming) ∧
    (∃ (s : State) (sc : Nat) (t : Nat) (e : Nat), t < 512 ∧ (s.term sc t).drainE = some e ∧ s.roadClear sc e =
      false) ∧
    (∃ (s : State) (sc : Nat) (t : Nat) (e : Nat), t < 512 ∧ (s.term sc t).drainE = some e ∧ s.roadClear sc e = true
      ∧ (s.term sc t).act = .draining ∧ (s.term sc t).road = .draining) ∧
    (∃ (s : State) (sc : Nat) (t : Nat) (e : Nat), t < 512 ∧ (s.term sc t).drainE = some e ∧ s.roadClear sc e = true
      ∧ (s.term sc t).act ≠ .draining ∧ ((s.term sc t).road = .resuming ∨ (s.term sc t).road = .draining)) ∧
    (∃ (s : State) (u : Nat) (e : Nat), (s.unit u).drainE = some e ∧ s.roadClear (s.unit u).sc e = false) ∧
    (∃ (s : State) (u : Nat) (e : Nat), (s.unit u).drainE = some e ∧ s.roadClear (s.unit u).sc e = true ∧ (s.unit
      u).road = .draining) ∧
    (∃ (s : State) (u : Nat) (e : Nat), (s.unit u).drainE = some e ∧ s.roadClear (s.unit u).sc e = true ∧ (s.unit
      u).road = .resuming) ∧
    (∃ (s : State) (f : Nat) (e : Nat), (s.flow f).drainE = some e ∧ s.roadClear (s.flow f).sc e = false) ∧
    (∃ (s : State) (f : Nat) (e : Nat), (s.flow f).drainE = some e ∧ s.roadClear (s.flow f).sc e = true ∧ (s.flow
      f).road = .draining) ∧
    (∃ (s : State) (f : Nat) (e : Nat), (s.flow f).drainE = some e ∧ s.roadClear (s.flow f).sc e = true ∧ (s.flow
      f).road = .resuming) ∧
    (∃ (s : State) (d : Nat) (e : Nat), (s.domE d).drainE = some e ∧ SMap.wf (fun _ => ({} : Dom)) s.doms = true ∧
      (s.domainEmpty d = false ∨ (s.come (some e) = false))) ∧
    (∃ (s : State) (d : Nat) (e : Nat), (s.domE d).drainE = some e ∧ SMap.wf (fun _ => ({} : Dom)) s.doms = true ∧
      s.domainEmpty d = true ∧ s.come (some e) = true ∧ (s.domE d).road = .draining) :=
  ⟨⟨wP.modSub 2 (fun x => { x with drainE := some 997 }), 2, 997, by decide +kernel⟩,
   ⟨wP.modSub 2 (fun x => { x with drainE := some 996 }), 2, 996, by decide +kernel⟩,
   ⟨wP.modSub 2 (fun x => { x with road := .resuming, drainE := some 996 }), 2, 996, by decide +kernel⟩,
   ⟨wP.setTerm 0 12 { act := .draining, road := .draining, drainE := some 997 }, 0, 12, 997, by decide +kernel⟩,
   ⟨wP.setTerm 0 12 { act := .draining, road := .draining, drainE := some 996 }, 0, 12, 996, by decide +kernel⟩,
   ⟨wP.setTerm 0 12 { act := .ranging, road := .resuming, drainE := some 996 }, 0, 12, 996, by decide +kernel⟩,
   ⟨wU, 2, 999, by decide +kernel⟩,
   ⟨wU, 5, 996, by decide +kernel⟩,
   ⟨wU, 4, 996, by decide +kernel⟩,
   ⟨wF.setFlow 6 { inst := true, sc := 0, term := 4, road := .draining, drainE := some 997 }, 6, 997,
     by decide +kernel⟩,
   ⟨wF.setFlow 6 { inst := true, sc := 0, term := 4, road := .draining, drainE := some 996 }, 6, 996,
     by decide +kernel⟩,
   ⟨wF, 3, 996, by decide +kernel⟩,
   ⟨{ wDm with doms := [(3, { road := .draining, drainE := some 1001 })] }, 3, 1001, by decide +kernel⟩,
   ⟨{ wDm with doms := [(3, { road := .draining, drainE := some 999 })] }, 3, 999, by decide +kernel⟩⟩

/-- Hypotheses of `Obligations.SubchannelCommands`. -/
theorem witness_SubchannelCommands :
    (∃ (c : Desc) (s : State) (e : _), Starts infoEnable c s ∧ c.n0 < 384 ∧ (s.jrnStart c).isProtect (c.n0 / 2) =
      false ∧ ((s.jrnStart c).sub c.n0).isPending = false ∧ ((s.jrnStart c).sub c.n0).road = .disabled ∧ guardShort
      ((s.jrnStart c).sub c.n0) c.n0 ((s.jrnStart c).sub c.n0).guardBits ((s.jrnStart c).brstWidth c.n0 + 4) = false
      ∧ (s.jrnStart c).chRoom c.n0 = true ∧ (s.jrnStart c).reserved (scDie c.n0) + (s.jrnStart c).creditNeed c.n0 ≤
      (s.jrnStart c).budget (scDie c.n0) ∧ (s.jrnStart c).resolveE none c = .ok e ∧ (s.jrnStart c).pendFits 1 = true) ∧
    (∃ (c : Desc) (s : State) (e : _), Starts infoEnable c s ∧ c.n0 < 384 ∧ (s.jrnStart c).isProtect (c.n0 / 2) =
      false ∧ ((s.jrnStart c).sub c.n0).isPending = false ∧ ((s.jrnStart c).sub c.n0).road = .draining ∧ guardShort
      ((s.jrnStart c).sub c.n0) c.n0 ((s.jrnStart c).sub c.n0).guardBits ((s.jrnStart c).brstWidth c.n0 + 4) = false
      ∧ (s.jrnStart c).chRoom c.n0 = true ∧ (s.jrnStart c).reserved (scDie c.n0) + (s.jrnStart c).creditNeed c.n0 ≤
      (s.jrnStart c).budget (scDie c.n0) ∧ (s.jrnStart c).resolveE none c = .ok e ∧ (s.jrnStart c).pendFits 0 = true) ∧
    (∃ (c : Desc) (s : State) (e : _), Starts infoDisable c s ∧ c.n0 < 384 ∧ (s.jrnStart c).isProtect (c.n0 / 2) =
      false ∧ ((s.jrnStart c).sub c.n0).isPending = false ∧ ((s.jrnStart c).sub c.n0).road = .enabled ∧ (s.jrnStart
      c).resolveE none c = .ok e ∧ (s.jrnStart c).pendFits 1 = true) ∧
    (∃ (c : Desc) (s : State), Starts infoSetRoadLength c s ∧ (s.jrnStart c).isProtect (c.n0 / 2) = false ∧
      ((s.jrnStart c).sub c.n0).road = .disabled) ∧
    (∃ (c : Desc) (s : State), Starts infoSetRoadLength c s ∧ ((s.jrnStart c).sub c.n0).road ≠ .disabled) ∧
    (∃ (c : Desc) (s : State), Starts infoSetSubchParams c s ∧ (s.jrnStart c).isProtect (c.n0 / 2) = false ∧
      ((s.jrnStart c).sub c.n0).road = .disabled ∧ (s.jrnStart c).paramsOk c.n0 c.inp = true) ∧
    (∃ (c : Desc) (s : State), Starts infoSetSubchParams c s ∧ ((s.jrnStart c).sub c.n0).road ≠ .disabled ∧
      (s.jrnStart c).paramsOk c.n0 c.inp = true) ∧
    (∃ (c : Desc) (s : State), Starts infoSetDiscovery c s ∧ (s.jrnStart c).isProtect (c.n0 / 2) = false ∧ c.n2 % 2 ^
      16 + c.n2 / 2 ^ 16 ≤ ((s.jrnStart c).len c.n0 - 1) * 125) ∧
    (∃ (c : Desc) (s : State), Starts infoSetDiscovery c s ∧ (s.jrnStart c).isProtect (c.n0 / 2) = false ∧
      ((s.jrnStart c).len c.n0 - 1) * 125 < c.n2 % 2 ^ 16 + c.n2 / 2 ^ 16) ∧
    (∃ (c : Desc) (s : State), Starts infoResetTree c s ∧ (s.jrnStart c).isProtect c.n0 = false ∧ ((s.jrnStart c).sub
      (2 * c.n0)).road = .disabled ∧ ((s.jrnStart c).sub (2 * c.n0 + 1)).road = .disabled) ∧
    (∃ (c : Desc) (s : State), Starts infoResetTree c s ∧ (((s.jrnStart c).sub (2 * c.n0)).road ≠ .disabled ∨
      ((s.jrnStart c).sub (2 * c.n0 + 1)).road ≠ .disabled)) :=
  ⟨⟨cmd infoEnable.op [4], wP, ((State.jrnStart (wP) (cmd infoEnable.op [4])).resolveE none (cmd infoEnable.op
  [4])).toOption.getD 0, starts_of (by decide +kernel), by decide +kernel⟩,
   ⟨cmd infoEnable.op [2], wP, ((State.jrnStart (wP) (cmd infoEnable.op [2])).resolveE none (cmd infoEnable.op
     [2])).toOption.getD 0, starts_of (by decide +kernel), by decide +kernel⟩,
   ⟨cmd infoDisable.op [0], wP, ((State.jrnStart (wP) (cmd infoDisable.op [0])).resolveE none (cmd infoDisable.op
     [0])).toOption.getD 0, starts_of (by decide +kernel), by decide +kernel⟩,
   ⟨cmd infoSetRoadLength.op [4, 6], wP, starts_of (by decide +kernel), by decide +kernel⟩,
   ⟨cmd infoSetRoadLength.op [0, 2], wP, starts_of (by decide +kernel), by decide +kernel⟩,
   ⟨cmd infoSetSubchParams.op [4] (([2, 0] ++ leBytes 2 1280 ++ leBytes 2 320 ++ List.replicate 10 0 ++ (leBytes 2
     512 ++ [64, 1] ++ List.replicate 12 0) ++ (leBytes 2 256 ++ [64, 1] ++ List.replicate 12 0) ++ (leBytes 2 128 ++
     [32, 0] ++ List.replicate 12 0) ++ (leBytes 2 64 ++ [32, 0] ++ List.replicate 12 0))), wP, starts_of
     (by decide +kernel), by decide +kernel⟩,
   ⟨cmd infoSetSubchParams.op [0] (([2, 0] ++ leBytes 2 1280 ++ leBytes 2 320 ++ List.replicate 10 0 ++ (leBytes 2
     512 ++ [64, 1] ++ List.replicate 12 0) ++ (leBytes 2 256 ++ [64, 1] ++ List.replicate 12 0) ++ (leBytes 2 128 ++
     [32, 0] ++ List.replicate 12 0) ++ (leBytes 2 64 ++ [32, 0] ++ List.replicate 12 0))), wP, starts_of
     (by decide +kernel), by decide +kernel⟩,
   ⟨cmd infoSetDiscovery.op [0, 8, 500], wP, starts_of (by decide +kernel), by decide +kernel⟩,
   ⟨cmd infoSetDiscovery.op [0, 8, 501], wP, starts_of (by decide +kernel), by decide +kernel⟩,
   ⟨cmd infoResetTree.op [2], wP, starts_of (by decide +kernel), by decide +kernel⟩,
   ⟨cmd infoResetTree.op [1], wP, starts_of (by decide +kernel), by decide +kernel⟩⟩

/-- Hypotheses of `Obligations.TerminalObjectCommands`. -/
theorem witness_TerminalObjectCommands :
    (∃ (c : Desc) (s : State), Starts infoAddTerminal c s ∧ ((s.jrnStart c).term c.psc c.pt).act = .free ∧
      (s.jrnStart c).isProtect (c.psc / 2) = false ∧ (s.jrnStart c).underTest c.psc c.pt = false ∧ ((s.jrnStart
      c).termsOf c.psc).any (fun t => ((s.jrnStart c).term c.psc t).serial == snOf c) = false) ∧
    (∃ (c : Desc) (s : State) (a : ActSt), Starts infoRemoveTerminal c s ∧ (a = .registered ∨ a = .disabled) ∧
      ((s.jrnStart c).term c.psc c.pt).act = a ∧ ((s.jrnStart c).term c.psc c.pt).dom = c.dom ∧ (s.jrnStart
      c).isProtect (c.psc / 2) = false ∧ (s.jrnStart c).underTest c.psc c.pt = false ∧ (s.jrnStart c).termUsed c.psc
      c.pt = false) ∧
    (∃ (c : Desc) (s : State) (a : ActSt), Starts infoRemoveTerminal c s ∧ a ≠ .free ∧ a ≠ .registered ∧ a ≠
      .disabled ∧ ((s.jrnStart c).term c.psc c.pt).act = a ∧ ((s.jrnStart c).term c.psc c.pt).dom = c.dom ∧
      (s.jrnStart c).isProtect (c.psc / 2) = false ∧ (s.jrnStart c).underTest c.psc c.pt = false) ∧
    (∃ (c : Desc) (s : State) (e : _), Starts infoDeactivateTerminal c s ∧ ((s.jrnStart c).term c.psc c.pt).act =
      .operation ∧ ((s.jrnStart c).term c.psc c.pt).dom = c.dom ∧ (s.jrnStart c).isProtect (c.psc / 2) = false ∧
      (s.jrnStart c).underTest c.psc c.pt = false ∧ (s.jrnStart c).shutPending c.psc c.pt = false ∧ (s.jrnStart
      c).resolveE none c = .ok e ∧ (s.jrnStart c).pendRoom = true) ∧
    (∃ (c : Desc) (s : State) (a : ActSt), Starts infoDeactivateTerminal c s ∧ (a = .registered ∨ a = .disabled) ∧
      ((s.jrnStart c).term c.psc c.pt).act = a ∧ ((s.jrnStart c).term c.psc c.pt).dom = c.dom ∧ (s.jrnStart
      c).isProtect (c.psc / 2) = false ∧ (s.jrnStart c).underTest c.psc c.pt = false ∧ (s.jrnStart c).shutPending
      c.psc c.pt = false) ∧
    (∃ (c : Desc) (s : State) (e : _), Starts infoDisableSerial c s ∧ ((s.jrnStart c).term c.psc c.pt).act =
      .operation ∧ ((s.jrnStart c).term c.psc c.pt).dom = c.dom ∧ (s.jrnStart c).isProtect (c.psc / 2) = false ∧
      (s.jrnStart c).underTest c.psc c.pt = false ∧ (s.jrnStart c).shutPending c.psc c.pt = false ∧ (s.jrnStart
      c).resolveE none c = .ok e ∧ (s.jrnStart c).pendRoom = true) ∧
    (∃ (c : Desc) (s : State), Starts infoEnableSerial c s ∧ ((s.jrnStart c).term c.psc c.pt).act = .disabled ∧
      ((s.jrnStart c).term c.psc c.pt).dom = c.dom ∧ (s.jrnStart c).isProtect (c.psc / 2) = false ∧ (s.jrnStart
      c).underTest c.psc c.pt = false) ∧
    (∃ (c : Desc) (s : State) (e : _), Starts infoRangeTerminal c s ∧ ((s.jrnStart c).term c.psc c.pt).act =
      .operation ∧ ((s.jrnStart c).term c.psc c.pt).dom = c.dom ∧ (s.jrnStart c).isProtect (c.psc / 2) = false ∧
      (s.jrnStart c).underTest c.psc c.pt = false ∧ (s.jrnStart c).resolveE none c = .ok e ∧ (s.jrnStart c).pendRoom
      = true) ∧
    (∃ (c : Desc) (s : State) (a : ActSt), Starts infoRangeTerminal c s ∧ a ≠ .free ∧ a ≠ .operation ∧ ((s.jrnStart
      c).term c.psc c.pt).act = a ∧ ((s.jrnStart c).term c.psc c.pt).dom = c.dom ∧ (s.jrnStart c).isProtect (c.psc /
      2) = false ∧ (s.jrnStart c).underTest c.psc c.pt = false) ∧
    (∃ (c : Desc) (s : State), Starts infoReadTerminal c s ∧ ((s.jrnStart c).term c.psc c.pt).act = .free) ∧
    (∃ (c : Desc) (s : State), Starts infoReadTerminal c s ∧ ((s.jrnStart c).term c.psc c.pt).act ≠ .free ∧
      ((s.jrnStart c).term c.psc c.pt).dom ≠ c.dom) :=
  ⟨⟨cmd infoAddTerminal.op [589824, 0x77], wP, starts_of (by decide +kernel), by decide +kernel⟩,
   ⟨cmd infoRemoveTerminal.op [65536], wP, ActSt.registered, starts_of (by decide +kernel), by decide +kernel⟩,
   ⟨cmd infoRemoveTerminal.op [262144], wP, ActSt.operation, starts_of (by decide +kernel), by decide +kernel⟩,
   ⟨cmd infoDeactivateTerminal.op [262144], wP, ((State.jrnStart (wP) (cmd infoDeactivateTerminal.op
     [262144])).resolveE none (cmd infoDeactivateTerminal.op [262144])).toOption.getD 0, starts_of
     (by decide +kernel), by decide +kernel⟩,
   ⟨cmd infoDeactivateTerminal.op [393216], wP, ActSt.disabled, starts_of (by decide +kernel), by decide +kernel⟩,
   ⟨cmd infoDisableSerial.op [262144, 1], wP, ((State.jrnStart (wP) (cmd infoDisableSerial.op [262144, 1])).resolveE
     none (cmd infoDisableSerial.op [262144, 1])).toOption.getD 0, starts_of (by decide +kernel), by decide +kernel⟩,
   ⟨cmd infoEnableSerial.op [393216], wP, starts_of (by decide +kernel), by decide +kernel⟩,
   ⟨cmd infoRangeTerminal.op [262144], wP, ((State.jrnStart (wP) (cmd infoRangeTerminal.op [262144])).resolveE none
     (cmd infoRangeTerminal.op [262144])).toOption.getD 0, starts_of (by decide +kernel), by decide +kernel⟩,
   ⟨cmd infoRangeTerminal.op [131072], wP, ActSt.discovered, starts_of (by decide +kernel), by decide +kernel⟩,
   ⟨cmdOut infoReadTerminal.op  [589824] 64, wP, starts_of (by decide +kernel), by decide +kernel⟩,
   ⟨cmdOut infoReadTerminal.op  [524288] 64, wP, starts_of (by decide +kernel), by decide +kernel⟩⟩

/-- Hypotheses of `Obligations.TerminalSettingCommands`. -/
theorem witness_TerminalSettingCommands :
    (∃ (c : Desc) (s : State) (e : _) (a : ActSt), Starts infoSetBurstProfile c s ∧ a ≠ .free ∧ ((s.jrnStart c).term
      c.psc c.pt).act = a ∧ ((s.jrnStart c).term c.psc c.pt).dom = c.dom ∧ (s.jrnStart c).isProtect (c.psc / 2) =
      false ∧ (s.jrnStart c).underTest c.psc c.pt = false ∧ c.n1 ≠ 0 ∧ ((s.jrnStart c).term c.psc c.pt).pre.valid =
      true ∧ ((s.jrnStart c).term c.psc c.pt).pre.fault = false ∧ ((s.jrnStart c).term c.psc c.pt).pre.pend = false ∧
      (s.jrnStart c).preAge ((s.jrnStart c).term c.psc c.pt).pre ≤ (s.jrnStart c).preloadAge c.psc ∧ (s.jrnStart
      c).resolveE none c = .ok e ∧ (s.jrnStart c).pendRoom = true) ∧
    (∃ (c : Desc) (s : State) (a : ActSt), Starts infoSetBurstProfile c s ∧ a ≠ .free ∧ ((s.jrnStart c).term c.psc
      c.pt).act = a ∧ ((s.jrnStart c).term c.psc c.pt).dom = c.dom ∧ (s.jrnStart c).isProtect (c.psc / 2) = false ∧
      (s.jrnStart c).underTest c.psc c.pt = false ∧ c.n1 ≠ 0 ∧ ((((s.jrnStart c).term c.psc c.pt).pre.valid = false ∨
      ((s.jrnStart c).term c.psc c.pt).pre.fault = true ∨ ((s.jrnStart c).term c.psc c.pt).pre.pend = true ∨
      (s.jrnStart c).preloadAge c.psc < (s.jrnStart c).preAge ((s.jrnStart c).term c.psc c.pt).pre))) ∧
    (∃ (c : Desc) (s : State), Starts infoSetRanging c s ∧ c.dom = 0 ∧ c.n1 % 2 ^ 16 ≤ ((s.jrnStart c).sub
      c.n0).phaseTol ∧ (s.jrnStart c).isProtect (c.n0 / 2) = false) ∧
    (∃ (c : Desc) (s : State), Starts infoIsolateRogue c s ∧ c.dom = 0 ∧ (s.jrnStart c).isProtect (c.n0 / 2) = false
      ∧ c.n1 = 0 ∧ ((s.jrnStart c).sub c.n0).rogue.running = false) ∧
    (∃ (c : Desc) (s : State), Starts infoIsolateRogue c s ∧ c.dom = 0 ∧ (s.jrnStart c).isProtect (c.n0 / 2) = false
      ∧ c.n1 = 0 ∧ ((s.jrnStart c).sub c.n0).rogue.running = true) ∧
    (∃ (c : Desc) (s : State), Starts infoIsolateRogue c s ∧ c.dom = 0 ∧ (s.jrnStart c).isProtect (c.n0 / 2) = false
      ∧ c.n1 = 1 ∧ ((s.jrnStart c).sub c.n0).rogue.test = none) ∧
    (∃ (c : Desc) (s : State), Starts infoReadUnknown c s ∧ c.dom = 0) ∧
    (∃ (c : Desc) (s : State) (a : ActSt), Starts infoReadTerminal c s ∧ a ≠ .free ∧ ((s.jrnStart c).term c.psc
      c.pt).act = a ∧ ((s.jrnStart c).term c.psc c.pt).dom = c.dom ∧ (s.jrnStart c).isProtect (c.psc / 2) = false ∧
      (s.jrnStart c).underTest c.psc c.pt = false) ∧
    (∃ (c : Desc) (s : State), Starts infoReadSubchAct c s ∧ c.dom = 0) ∧
    (∃ (c : Desc) (s : State) (p : _) (b : _) (t : _), Starts infoSendPloam c s ∧ plHandled (c.inp.getD 2 0) = false
      ∧ c.n0 < 2 ^ 31 ∧ c.n0 / 2 ^ 16 % 2 ^ 15 = c.pt ∧ ((s.jrnStart c).term c.psc c.pt).act ≠ .free ∧ ((s.jrnStart
      c).term c.psc c.pt).dom = c.dom ∧ (s.jrnStart c).isProtect (c.psc / 2) = false ∧ (s.jrnStart c).underTest c.psc
      c.pt = false ∧ ((s.jrnStart c).sub c.psc).lit = true ∧ (s.jrnStart c).takeBuf 16 48 = (some (p, b), t)) ∧
    (∃ (c : Desc) (s : State) (p : _) (b : _) (t : _), Starts infoSendPloam c s ∧ plHandled (c.inp.getD 2 0) = true ∧
      c.n0 < 2 ^ 31 ∧ c.n0 / 2 ^ 16 % 2 ^ 15 = c.pt ∧ ((s.jrnStart c).term c.psc c.pt).act ≠ .free ∧ ((s.jrnStart
      c).term c.psc c.pt).dom = c.dom ∧ (s.jrnStart c).isProtect (c.psc / 2) = false ∧ (s.jrnStart c).underTest c.psc
      c.pt = false ∧ ((s.jrnStart c).sub c.psc).lit = true ∧ (s.jrnStart c).takeBuf 16 48 = (some (p, b), t)) ∧
    (∃ (c : Desc) (s : State) (p : _) (b : _) (t : _), Starts infoSendOmci c s ∧ ((s.jrnStart c).term c.psc c.pt).act
      = .operation ∧ ((s.jrnStart c).term c.psc c.pt).dom = c.dom ∧ (s.jrnStart c).isProtect (c.psc / 2) = false ∧
      (s.jrnStart c).underTest c.psc c.pt = false ∧ ((s.jrnStart c).sub c.psc).lit = true ∧ (((s.jrnStart c).sub
      c.psc).dsq.filter (fun m => m.kind == 1 && m.term == c.pt)).length < 16 ∧ (s.jrnStart c).takeBuf 16 (c.bufLen +
      4) = (some (p, b), t)) ∧
    (∃ (c : Desc) (s : State), Starts infoBindTerminalRx c s) :=
  ⟨⟨cmd infoSetBurstProfile.op [458752, 1], wP, ((State.jrnStart (wP) (cmd infoSetBurstProfile.op [458752, 1])).resolveE
  none (cmd infoSetBurstProfile.op [458752, 1])).toOption.getD 0, ActSt.operation, starts_of (by decide +kernel),
  by decide +kernel⟩,
   ⟨cmd infoSetBurstProfile.op [262144, 3], wP, ActSt.operation, starts_of (by decide +kernel), by decide +kernel⟩,
   ⟨cmd infoSetRanging.op [0, 100, 1], wP, starts_of (by decide +kernel), by decide +kernel⟩,
   ⟨cmd infoIsolateRogue.op [0, 0], wP, starts_of (by decide +kernel), by decide +kernel⟩,
   ⟨cmd infoIsolateRogue.op [0, 0], wP.modRogue 0 (fun r => { r with running := true }), starts_of
     (by decide +kernel), by decide +kernel⟩,
   ⟨cmd infoIsolateRogue.op [0, 1], wP, starts_of (by decide +kernel), by decide +kernel⟩,
   ⟨cmdOut infoReadUnknown.op  [0] 512, wP, starts_of (by decide +kernel), by decide +kernel⟩,
   ⟨cmdOut infoReadTerminal.op  [262144] 64, wP, ActSt.operation, starts_of (by decide +kernel), by decide +kernel⟩,
   ⟨cmdOut infoReadSubchAct.op  [0] 16, wP, starts_of (by decide +kernel), by decide +kernel⟩,
   ⟨cmd infoSendPloam.op [262144] (0 :: 4 :: 0x55 :: List.replicate 37 0), wP, (((State.jrnStart (wP) (cmd
     infoSendPloam.op [262144] (0 :: 4 :: 0x55 :: List.replicate 37 0))).takeBuf 16 48).1.getD (0, 0)).1,
     (((State.jrnStart (wP) (cmd infoSendPloam.op [262144] (0 :: 4 :: 0x55 :: List.replicate 37 0))).takeBuf 16
     48).1.getD (0, 0)).2, ((State.jrnStart (wP) (cmd infoSendPloam.op [262144] (0 :: 4 :: 0x55 :: List.replicate 37
     0))).takeBuf 16 48).2, starts_of (by decide +kernel), by decide +kernel⟩,
   ⟨cmd infoSendPloam.op [262144] (0 :: 4 :: plAssign :: List.replicate 37 0), wP, (((State.jrnStart (wP) (cmd
     infoSendPloam.op [262144] (0 :: 4 :: plAssign :: List.replicate 37 0))).takeBuf 16 48).1.getD (0, 0)).1,
     (((State.jrnStart (wP) (cmd infoSendPloam.op [262144] (0 :: 4 :: plAssign :: List.replicate 37 0))).takeBuf 16
     48).1.getD (0, 0)).2, ((State.jrnStart (wP) (cmd infoSendPloam.op [262144] (0 :: 4 :: plAssign :: List.replicate
     37 0))).takeBuf 16 48).2, starts_of (by decide +kernel), by decide +kernel⟩,
   ⟨cmd infoSendOmci.op [262144, 0] (List.replicate 44 7), wP, (((State.jrnStart (wP) (cmd infoSendOmci.op [262144,
     0] (List.replicate 44 7))).takeBuf 16 ((cmd infoSendOmci.op [262144, 0] (List.replicate 44 7)).bufLen +
     4)).1.getD (0, 0)).1, (((State.jrnStart (wP) (cmd infoSendOmci.op [262144, 0] (List.replicate 44 7))).takeBuf 16
     ((cmd infoSendOmci.op [262144, 0] (List.replicate 44 7)).bufLen + 4)).1.getD (0, 0)).2, ((State.jrnStart (wP)
     (cmd infoSendOmci.op [262144, 0] (List.replicate 44 7))).takeBuf 16 ((cmd infoSendOmci.op [262144, 0]
     (List.replicate 44 7)).bufLen + 4)).2, starts_of (by decide +kernel), by decide +kernel⟩,
   ⟨cmd infoBindTerminalRx.op [3, 5], wP, starts_of (by decide +kernel)⟩⟩

/-- Hypotheses of `Obligations.ActivationMovesATerminal`. -/
theorem witness_ActivationMovesATerminal :
    (∃ (s : State) (sc : Nat) (t : Nat) (r : SnRsp) (w : Window), (s.sub sc).disc.windows.find? (fun w =>
      w.term.isNone && decide (w.book ≤ s.clk.msc) && w.holds r.t) = some w ∧ r.collided = false ∧ (s.termsOf
      sc).find? (fun t => (s.term sc t).serial == r.serial) = some t ∧ (s.term sc t).act = .registered ∧ s.standby =
      false) ∧
    (∃ (s : State) (sc : Nat) (r : SnRsp), (s.sub sc).disc.windows.find? (fun w => w.term.isNone && decide (w.book ≤
      s.clk.msc) && w.holds r.t) = none) ∧
    (∃ (s : State) (sc : Nat) (t : Nat) (r : RegRsp) (w : Window), (s.sub sc).disc.windows.find? (fun w => w.term ==
      some t && !w.closed && decide (w.book ≤ s.clk.msc) && w.holds r.t) = some w ∧ (s.term sc t).act = .ranging ∧
      s.standby = false) ∧
    (∃ (s : State) (sc : Nat) (t : Nat) (r : RegRsp) (w : Window), (s.sub sc).disc.windows.find? (fun w => w.term ==
      some t && !w.closed && decide (w.book ≤ s.clk.msc) && w.holds r.t) = some w ∧ (s.term sc t).act = .ranging ∧
      s.standby = true) ∧
    (∃ (s : State) (sc : Nat) (t : Nat) (rtt : Nat) (id : List Nat) (pre : Preload), (s.term sc t).resp = some (rtt,
      id, pre) ∧ (s.term sc t).act = .ranging ∧ (s.term sc t).regId = none ∧ s.standby = false ∧ rtt ≤ ((s.sub
      sc).len - 1) * 2000000) ∧
    (∃ (s : State) (sc : Nat) (t : Nat) (rtt : Nat) (id : List Nat) (pre : Preload), (s.term sc t).resp = some (rtt,
      id, pre) ∧ (s.term sc t).act = .ranging ∧ (s.term sc t).regId = none ∧ s.standby = false ∧ ((s.sub sc).len - 1)
      * 2000000 < rtt) ∧
    (∃ (s : State) (sc : Nat) (t : Nat) (w : Window), (s.sub sc).disc.windows.find? (fun w => w.term == some t &&
      !w.closed) = some w ∧ (w.start : Int) + w.len ≤ s.since w.book ∧ (s.term sc t).act = .ranging ∧ (s.term sc
      t).misses = 0 ∧ s.standby = false) ∧
    (∃ (s : State) (sc : Nat) (t : Nat) (w : Window), (s.sub sc).disc.windows.find? (fun w => w.term == some t &&
      !w.closed) = some w ∧ (w.start : Int) + w.len ≤ s.since w.book ∧ (s.term sc t).act = .ranging ∧ (s.term sc
      t).misses ≠ 0 ∧ (s.term sc t).rerange = false ∧ s.standby = false) ∧
    (∃ (s : State) (sc : Nat) (t : Nat) (f : Nat) (d : Int), (s.term sc t).rtFrame = some f ∧ f + s.len sc + 1 ≤
      s.clk.msc ∧ (s.term sc t).held = some d ∧ s.standby = false) ∧
    (∃ (s : State) (sc : Nat) (t : Nat) (f : Nat), (s.term sc t).rtFrame = some f ∧ s.clk.msc < f + s.len sc) ∧
    (∃ (s : State) (sc : Nat) (t : Nat), (s.term sc t).act = .operation ∧ (s.term sc t).road = .enabled ∧ (s.term sc
      t).drainE = none ∧ (s.sub sc).lostLimit ≤ (s.term sc t).emptyRun ∧ s.deferred.any (fun p => p.change ==
      .termLoss sc t) = false ∧ s.standby = false) :=
  ⟨⟨wA, 0, 1, (⟨0x11, 120, false⟩ : SnRsp), (⟨990, none, false, 100, 50, false⟩ : Window), by decide +kernel⟩,
   ⟨wA, 0, (⟨0x11, 151, false⟩ : SnRsp), by decide +kernel⟩,
   ⟨wA, 0, 3, (⟨350, [], 0, 0⟩ : RegRsp), (⟨990, some 3, true, 300, 50, false⟩ : Window), by decide +kernel⟩,
   ⟨wA.modPair (fun p => { p with role := .standby }), 0, 3, (⟨350, [], 0, 0⟩ : RegRsp), (⟨990, some 3, true, 300,
     50, false⟩ : Window), by decide +kernel⟩,
   ⟨wA, 0, 10, 100, [1, 2], ({} : Preload), by decide +kernel⟩,
   ⟨wA, 0, 11, 8000001, [1, 2], ({} : Preload), by decide +kernel⟩,
   ⟨wA, 0, 3, (⟨990, some 3, true, 300, 50, false⟩ : Window), by decide +kernel⟩,
   ⟨wA.modTerm 0 3 (fun x => { x with misses := 1 }), 0, 3, (⟨990, some 3, true, 300, 50, false⟩ : Window),
     by decide +kernel⟩,
   ⟨wA, 0, 4, 900, 5, by decide +kernel⟩,
   ⟨wA, 0, 7, 1000, by decide +kernel⟩,
   ⟨wA, 0, 4, by decide +kernel⟩⟩

/-- Hypotheses of `Obligations.UpstreamMessagesAndRecovery`. -/
theorem witness_UpstreamMessagesAndRecovery :
    (∃ (s : State) (sc : Nat) (t : Nat) (msg : List Nat), upHandled (msg.getD 2 0) = false ∧ ((s.term sc t).act =
      .discovered ∨ (s.term sc t).act = .ranging ∨ (s.term sc t).act = .operation) ∧ s.standby = false) ∧
    (∃ (s : State) (sc : Nat) (t : Nat) (msg : List Nat) (mic : List Nat), (s.term sc t).act ≠ .free ∧ s.standby =
      false ∧ padTo 4 (Config.mic (s.term sc t).omciKey (0 :: msg)) = mic) ∧
    (∃ (s : State) (sc : Nat) (t : Nat) (msg : List Nat) (mic : List Nat), (s.term sc t).act ≠ .free ∧ s.standby =
      false ∧ padTo 4 (Config.mic (s.term sc t).omciKey (0 :: msg)) ≠ mic) ∧
    (∃ (s : State) (sc : Nat) (e : Nat), (s.sub sc).disc.recovery = some e ∧ e ≤ s.clk.msc) ∧
    (∃ (s : State) (sc : Nat) (a : Nat) (b : Nat) (t : Nat) (delim : Bool), SMap.wf Sub.dflt s.pon.subs = true ∧
      (s.sub sc).road ≠ .disabled ∧ s.standby = false ∧ (s.sub sc).rogue.light ≤ (1600 * (frameUnits (s.sub sc) *
      guBits sc : Nat)) ∧ (1600 * (frameUnits (s.sub sc) * guBits sc : Nat)) < (s.sub sc).rogue.light + s.rogueLen sc
      a b delim ∧ s.lastSlot sc a = some t ∧ 1 + (((s.sub sc).rogue.hist.take 7).filter (fun b => b)).length < 4) ∧
    (∃ (s : State) (sc : Nat) (k : Nat) (e : Nat), (s.sub sc).rogue.test = some (k, e) ∧ e + s.len sc + 9 ≤ s.clk.msc
      ∧ (s.sub sc).rogue.seenAfter = false ∧ (s.sub sc).rogue.seenBefore = true ∧ (s.term sc k).act = .disabled ∧
      s.standby = false) ∧
    (∃ (s : State) (sc : Nat) (k : Nat) (e : Nat), (s.sub sc).rogue.test = some (k, e) ∧ s.clk.msc < e + s.len sc +
      9) ∧
    (∃ (s : State) (kind : Nat) (die : Nat) (u : Nat), kind < 2 ∧ die < 4 ∧ u < 104 ∧ (s.health (1 + kind % 2) (die *
      104 + u)).st ≠ .lost ∧ s.chServes kind die u = none ∧ ((∀ sc, (s.sub sc).chDetour = [] ∧ s.chPending sc kind ≠
      some u))) ∧
    (∃ (s : State) (kind : Nat) (die : Nat) (u : Nat) (sc : Nat) (k : _), kind < 2 ∧ die < 4 ∧ u < 104 ∧ (s.health (1
      + kind % 2) (die * 104 + u)).st ≠ .lost ∧ s.chServes kind die u = some sc ∧ (((s.setUnitSt (1 + kind % 2) (die
      * 104 + u) .lost).chLossNow sc).sub sc).chDetour.find? (fun d => d.1 == kind && d.2.1 == u) = none ∧
      ((s.setUnitSt (1 + kind % 2) (die * 104 + u) .lost).chLossNow sc).chPending sc kind = none ∧ ((s.setUnitSt (1 +
      kind % 2) (die * 104 + u) .lost).chLossNow sc).freeChUnit kind die = some k) ∧
    (∃ (s : State) (kind : Nat) (die : Nat) (u : Nat) (sc : Nat), kind < 2 ∧ die < 4 ∧ u < 104 ∧ (s.health (1 + kind
      % 2) (die * 104 + u)).st ≠ .lost ∧ s.chServes kind die u = some sc ∧ (((s.setUnitSt (1 + kind % 2) (die * 104 +
      u) .lost).chLossNow sc).sub sc).chDetour.find? (fun d => d.1 == kind && d.2.1 == u) = none ∧ ((s.setUnitSt (1 +
      kind % 2) (die * 104 + u) .lost).chLossNow sc).chPending sc kind = none ∧ ((s.setUnitSt (1 + kind % 2) (die *
      104 + u) .lost).chLossNow sc).freeChUnit kind die = none) :=
  ⟨⟨wP, 0, 4, [0, 0, 0x77], by decide +kernel⟩,
   ⟨wP, 0, 4, [1, 2], padTo 4 (Config.mic (wP.term 0 4).omciKey [0, 1, 2]), by decide +kernel, by decide +kernel,
     rfl⟩,
   ⟨wP, 0, 4, [1, 2], padTo 4 (Config.mic (wP.term 0 4).omciKey [0, 1, 2]) ++ [0], by decide +kernel,
     by decide +kernel, by simp⟩,
   ⟨wA, 0, 1000, by decide +kernel⟩,
   ⟨wBk, 0, 0, 1601, 4, false, by decide +kernel⟩,
   ⟨wP.modRogue 0 (fun r => { r with test := some (6, 986), seenBefore := true }), 0, 6, 986, by decide +kernel⟩,
   ⟨wP.modRogue 0 (fun r => { r with test := some (6, 987) }), 0, 6, 987, by decide +kernel⟩,
   ⟨w0, 0, 3, 103, by decide +kernel, by decide +kernel, by decide +kernel, by decide +kernel, by decide +kernel, fun
     _ => ⟨rfl, fun h => nomatch (show (none : Option Nat) = some 103 from h)⟩⟩,
   ⟨wP, 0, 0, 0, 0, 96, by decide +kernel⟩,
   ⟨(List.range 8).foldl (fun s i => s.setUnitSt 1 (96 + i) .retired) wP, 0, 0, 0, 0, by decide +kernel⟩⟩

/-- Hypotheses of `Obligations.AllocationUnitCommands`. -/
theorem witness_AllocationUnitCommands :
    (∃ (c : Desc) (s : State) (e : Nat) (b : Nat) (k : Nat) (u : State), Starts infoInstallUnit c s ∧ ((s.jrnStart
      c).term (c.n2 % 2 ^ 16) (c.n2 / 2 ^ 16)).act ≠ .free ∧ ((s.jrnStart c).term (c.n2 % 2 ^ 16) (c.n2 / 2 ^
      16)).dom = c.dom ∧ ((s.jrnStart c).unit c.n0).inst = false ∧ (s.jrnStart c).grant.units.any (fun e => e.2.inst
      && e.1 != c.n0 && e.2.sc == c.n2 % 2 ^ 16 && e.2.alloc == c.n1) = false ∧ (s.jrnStart c).isProtect (c.n2 % 2 ^
      16 / 2) = false ∧ (s.jrnStart c).underTest (c.n2 % 2 ^ 16) (c.n2 / 2 ^ 16) = false ∧ (s.jrnStart
      c).resolveEntry none c (groupOf (c.n2 % 2 ^ 16 / 2)) .install 0 = .ok e ∧ (s.jrnStart c).pendRoom = true ∧
      ((c.dom = 0 ∨ (s.jrnStart c).unitsOf c.dom < ((s.jrnStart c).domE c.dom).quota.units)) ∧ (s.jrnStart
      c).placeUnit (groupOf (c.n2 % 2 ^ 16 / 2)) = .ok (b, k) ∧ u = (((s.jrnStart c).setUnit c.n0
      { inst := true, alloc := c.n1, sc := c.n2 % 2 ^ 16, term := c.n2 / 2 ^ 16, dom := c.dom, installE := some e, group := groupOf (c.n2 % 2 ^ 16 / 2), batch := b, lane := k, params := wordsOf c.inp 12 }).bindLane
      c.n0 (groupOf (c.n2 % 2 ^ 16 / 2)) b k).defer c e (.unitInstall c.n0)) ∧
    (∃ (c : Desc) (s : State), Starts infoInstallUnit c s ∧ ((s.jrnStart c).term (c.n2 % 2 ^ 16) (c.n2 / 2 ^ 16)).act
      ≠ .free ∧ ((s.jrnStart c).term (c.n2 % 2 ^ 16) (c.n2 / 2 ^ 16)).dom = c.dom ∧ ((s.jrnStart c).unit c.n0).inst =
      true ∧ ((s.jrnStart c).unit c.n0).dom = c.dom ∧ ((s.jrnStart c).unit c.n0).road = .enabled) ∧
    (∃ (c : Desc) (s : State) (e : _), Starts infoRetireUnit c s ∧ ((s.jrnStart c).unit c.n0).inst = true ∧
      ((s.jrnStart c).unit c.n0).dom = c.dom ∧ ((s.jrnStart c).unit c.n0).retireE = none ∧ ((s.jrnStart c).unit
      c.n0).road = .enabled ∧ (s.jrnStart c).isProtect (((s.jrnStart c).unit c.n0).sc / 2) = false ∧ (s.jrnStart
      c).resolveEntry none c ((s.jrnStart c).unit c.n0).group .retire (((s.jrnStart c).unit c.n0).installE.getD 0) =
      .ok e ∧ (s.jrnStart c).pendRoom = true ∧ ((s.jrnStart c).unit c.n0).installE = none) ∧
    (∃ (c : Desc) (s : State), Starts infoRetireUnit c s ∧ ((s.jrnStart c).unit c.n0).inst = false) ∧
    (∃ (c : Desc) (s : State), Starts infoRetireUnit c s ∧ ((s.jrnStart c).unit c.n0).inst = true ∧ ((s.jrnStart
      c).unit c.n0).dom = c.dom ∧ ((s.jrnStart c).unit c.n0).road = .draining) ∧
    (∃ (c : Desc) (s : State) (e : _), Starts infoModifyUnit c s ∧ ((s.jrnStart c).unit c.n0).inst = true ∧
      ((s.jrnStart c).unit c.n0).dom = c.dom ∧ (s.jrnStart c).isProtect (((s.jrnStart c).unit c.n0).sc / 2) = false ∧
      (s.jrnStart c).resolveE none c = .ok e ∧ ((s.jrnStart c).unit c.n0).installE = none ∧ ((s.jrnStart c).unit
      c.n0).retireE = none ∧ ((s.jrnStart c).unit c.n0).drainE = none ∧ (s.jrnStart c).pendRoom = true) ∧
    (∃ (c : Desc) (s : State), Starts infoPostHint c s ∧ ((s.jrnStart c).unit c.n0).inst = true ∧ ((s.jrnStart
      c).unit c.n0).dom = c.dom ∧ (s.jrnStart c).clk.msc + 4096 < pair64 c.p2 c.p3) ∧
    (∃ (c : Desc) (s : State), Starts infoPostHint c s ∧ ((s.jrnStart c).unit c.n0).inst = true ∧ ((s.jrnStart
      c).unit c.n0).dom = c.dom ∧ pair64 c.p2 c.p3 ≤ (s.jrnStart c).clk.msc + 4096 ∧ pair64 c.p2 c.p3 < (s.jrnStart
      c).earliestAck) ∧
    (∃ (c : Desc) (s : State), Starts infoPostHint c s ∧ ((s.jrnStart c).unit c.n0).inst = true ∧ ((s.jrnStart
      c).unit c.n0).dom = c.dom ∧ pair64 c.p2 c.p3 ≤ (s.jrnStart c).clk.msc + 4096 ∧ (s.jrnStart c).earliestAck ≤
      pair64 c.p2 c.p3 ∧ (s.jrnStart c).mgmt.pair.role ≠ .active ∧ ((s.jrnStart c).clk.cycle < 4000 ∨ 232000 ≤
      (s.jrnStart c).clk.cycle)) ∧
    (∃ (c : Desc) (s : State), Starts infoPostHint c s ∧ ((s.jrnStart c).unit c.n0).inst = true ∧ ((s.jrnStart
      c).unit c.n0).dom = c.dom ∧ pair64 c.p2 c.p3 ≤ (s.jrnStart c).clk.msc + 4096 ∧ (s.jrnStart c).earliestAck ≤
      pair64 c.p2 c.p3 ∧ (s.jrnStart c).mgmt.pair.role ≠ .active ∧ 4000 ≤ (s.jrnStart c).clk.cycle ∧ (s.jrnStart
      c).clk.cycle < 232000 ∧ (s.jrnStart c).grant.hintQ.length < 65536) ∧
    (∃ (c : Desc) (s : State), Starts infoSetHintVlan c s ∧ c.dom = 0 ∧ c.n1 / 2 ^ 8 = 0 ∧ ((s.jrnStart
      c).grant.hintVlans.filter (fun e => !(e.1 == c.n0 % 2 ^ 16 && e.2.1 == c.n0 / 2 ^ 16))).length < 64) ∧
    (∃ (c : Desc) (s : State), Starts infoReadUnitLedger c s ∧ ((s.jrnStart c).unit c.n0).inst = true ∧ ((s.jrnStart
      c).unit c.n0).dom = c.dom) ∧
    (∃ (c : Desc) (s : State), Starts infoReadUnitLedger c s ∧ ((s.jrnStart c).unit c.n0).inst = false) :=
  ⟨⟨cmd infoInstallUnit.op [7, 1030, 262144], wU, (((wU).jrnStart (cmd infoInstallUnit.op [7, 1030,
  262144])).resolveEntry none (cmd infoInstallUnit.op [7, 1030, 262144]) (groupOf ((cmd infoInstallUnit.op [7, 1030,
  262144]).n2 % 2 ^ 16 / 2)) .install 0).toOption.getD 0, 0, 0, _, starts_of (by decide +kernel), by decide +kernel,
  by decide +kernel, by decide +kernel, by decide +kernel, by decide +kernel, by decide +kernel, by decide +kernel,
  by decide +kernel, by decide +kernel, by decide +kernel, rfl⟩,
   ⟨cmd infoInstallUnit.op [0, 1024, 262144], wU, starts_of (by decide +kernel), by decide +kernel⟩,
   ⟨cmd infoRetireUnit.op [0, 1], wU, (((wU).jrnStart (cmd infoRetireUnit.op [0, 1])).resolveEntry none (cmd
     infoRetireUnit.op [0, 1]) (((wU).jrnStart (cmd infoRetireUnit.op [0, 1])).unit (cmd infoRetireUnit.op [0,
     1]).n0).group .retire ((((wU).jrnStart (cmd infoRetireUnit.op [0, 1])).unit (cmd infoRetireUnit.op [0,
     1]).n0).installE.getD 0)).toOption.getD 0, starts_of (by decide +kernel), by decide +kernel⟩,
   ⟨cmd infoRetireUnit.op [99], wU, starts_of (by decide +kernel), by decide +kernel⟩,
   ⟨cmd infoRetireUnit.op [2], wU, starts_of (by decide +kernel), by decide +kernel⟩,
   ⟨cmd infoModifyUnit.op [0, 0] (List.replicate 48 0), wU, (((wU).jrnStart (cmd infoModifyUnit.op [0, 0]
     (List.replicate 48 0))).resolveE none (cmd infoModifyUnit.op [0, 0] (List.replicate 48 0))).toOption.getD 0,
     starts_of (by decide +kernel), by decide +kernel⟩,
   ⟨cmd infoPostHint.op [0, 0, 5097], wU, starts_of (by decide +kernel), by decide +kernel⟩,
   ⟨cmd infoPostHint.op [0, 0, 1001], wU, starts_of (by decide +kernel), by decide +kernel⟩,
   ⟨cmd infoPostHint.op [0, 0, 5096], { wU with clk := { wU.clk with cycle := 3999 } }, starts_of
     (by decide +kernel), by decide +kernel⟩,
   ⟨cmd infoPostHint.op [0, 0, 1002], wU, starts_of (by decide +kernel), by decide +kernel⟩,
   ⟨cmd infoSetHintVlan.op [65536, 3], wU, starts_of (by decide +kernel), by decide +kernel⟩,
   ⟨cmdOut infoReadUnitLedger.op  [0] 32, wU, starts_of (by decide +kernel), by decide +kernel⟩,
   ⟨cmdOut infoReadUnitLedger.op  [99] 32, wU, starts_of (by decide +kernel), by decide +kernel⟩⟩

/-- Hypotheses of `Obligations.ProgramAndTableCommands`. -/
theorem witness_ProgramAndTableCommands :
    (∃ (c : Desc) (s : State) (u : _), Starts infoLoadProgram c s ∧ c.groups.any (fun q => ((s.jrnStart c).group
      q).shadow == .armed || ((s.jrnStart c).group q).shadow == .loaded) = false ∧ u = (s.jrnStart c).setShadows
      c.groups (readImage c.inp (decide (c.n3 = 1))).prog .loaded) ∧
    (∃ (c : Desc) (s : State), Starts infoLoadProgram c s ∧ c.groups.any (fun q => ((s.jrnStart c).group q).shadow ==
      .armed || ((s.jrnStart c).group q).shadow == .loaded) = true) ∧
    (∃ (c : Desc) (s : State) (e : _), Starts infoActivateProgram c s ∧ (s.jrnStart c).resolveE none c = .ok e ∧
      c.groups ≠ [] ∧ c.groups.any (fun q => ((s.jrnStart c).group q).shadow != .admitted) = false ∧ c.groups.any
      (fun q => decide (batchCap (((s.jrnStart c).group q).prog (1 - ((s.jrnStart c).group q).active)).planBound <
      ((s.jrnStart c).boundBatches q).length)) = false ∧ (s.jrnStart c).pendRoom = true ∧ c.groups.all (fun q =>
      ((s.jrnStart c).arm c.groups e).windowsFit q e) = true) ∧
    (∃ (c : Desc) (s : State) (e : _), Starts infoActivateProgram c s ∧ (s.jrnStart c).resolveE none c = .ok e ∧
      c.groups ≠ [] ∧ c.groups.any (fun q => ((s.jrnStart c).group q).shadow != .admitted) = true) ∧
    (∃ (c : Desc) (s : State) (q : _) (r : _), Starts infoActivateProgramCancel c s ∧ c.groups = q :: r ∧
      c.groups.any (fun p => ((s.jrnStart c).group p).shadow != .armed || ((s.jrnStart c).group p).swapMsc !=
      ((s.jrnStart c).group q).swapMsc) = false ∧ (s.jrnStart c).earliestAck ≤ ((s.jrnStart c).group q).swapMsc ∧
      c.groups.all (fun p => ((s.jrnStart c).disarm c.groups).windowsFit p ((s.jrnStart c).group q).swapMsc) = true) ∧
    (∃ (c : Desc) (s : State) (q : _) (r : _), Starts infoActivateProgramCancel c s ∧ c.groups = q :: r ∧
      c.groups.any (fun p => ((s.jrnStart c).group p).shadow != .armed || ((s.jrnStart c).group p).swapMsc !=
      ((s.jrnStart c).group q).swapMsc) = false ∧ ((s.jrnStart c).group q).swapMsc < (s.jrnStart c).earliestAck) ∧
    (∃ (c : Desc) (s : State), Starts infoWriteTable c s ∧ 5 ≤ (s.jrnStart c).stage ∧ (s.jrnStart c).clk.running =
      true ∧ (s.jrnStart c).grant.tableCopy = [] ∧ (s.jrnStart c).grant.tableCount + c.n1 ≤ 4096) ∧
    (∃ (c : Desc) (s : State), Starts infoReadTable c s) ∧
    (∃ (c : Desc) (s : State), Starts infoReadCoreDiag c s) ∧
    (∃ (s : State) (acc : Nat) (qs : List Nat) (j : Jrn) (a : _) (i : _), s.grant.verifying.find? (fun e => e.1 ==
      acc) = some (acc, qs) ∧ s.jrnFind acc = some j ∧ verify j.desc.inp (decide (j.desc.n3 = 1)) = .error (a, i)) ∧
    (∃ (s : State), s.grant.tableWaits = [] ∧ s.grant.tableCopy ≠ []) ∧
    (∃ (s : State), s.grant.tableCopy = []) :=
  ⟨⟨cmd infoLoadProgram.op [5, 0, 0, 1] (List.replicate 96 0), wG, _, starts_of (by decide +kernel), by decide +kernel,
  rfl⟩,
   ⟨cmd infoLoadProgram.op [2] (List.replicate 96 0), wG, starts_of (by decide +kernel), by decide +kernel⟩,
   ⟨cmd infoActivateProgram.op [4], wG, (((wG).jrnStart (cmd infoActivateProgram.op [4])).resolveE none (cmd
     infoActivateProgram.op [4])).toOption.getD 0, starts_of (by decide +kernel), by decide +kernel⟩,
   ⟨cmd infoActivateProgram.op [2], wG, (((wG).jrnStart (cmd infoActivateProgram.op [2])).resolveE none (cmd
     infoActivateProgram.op [2])).toOption.getD 0, starts_of (by decide +kernel), by decide +kernel⟩,
   ⟨cmd infoActivateProgramCancel.op [16, 0, 0, 1], wG, 4, ([] : List Nat), starts_of (by decide +kernel),
     by decide +kernel⟩,
   ⟨cmd infoActivateProgramCancel.op [8, 0, 0, 1], wG, 3, ([] : List Nat), starts_of (by decide +kernel),
     by decide +kernel⟩,
   ⟨cmd infoWriteTable.op [65535, 1] (List.replicate 32 0), wG, starts_of (by decide +kernel), by decide +kernel⟩,
   ⟨cmdOut infoReadTable.op  [65535, 1] 32, wG, starts_of (by decide +kernel)⟩,
   ⟨cmdOut infoReadCoreDiag.op  [103] 16, wG, starts_of (by decide +kernel)⟩,
   ⟨wV, 9, [0], (⟨cmd 0x0701 [1, 0, 0, 0] [1, 2], true, none, false, false, none, none⟩ : Jrn), 1, 0xFFFF_FFFF,
     by decide +kernel⟩,
   ⟨{ w0 with grant := { w0.grant with tableCopy := [(0, 1)] } }, by decide +kernel⟩,
   ⟨w0, by decide +kernel⟩⟩

/-- Hypotheses of `Obligations.RoadbookAssembly`. -/
theorem witness_RoadbookAssembly :
    ∃ (r : ARes) (x : Sub) (sc : Nat) (p : Nat) (b : ABurst), b.allocs ≠ [] ∧ firstFit r.gaps (burstUnits x sc b.prof
      b.allocs) = some p :=
  ⟨{ gaps := [(0, 10), (20, 100000)] }, wP.sub 0, 0, 20, ⟨false, 4, 0, [⟨0, none, 1024, 100, 0, false, false, false,
    false⟩]⟩, by decide +kernel⟩

/-- Hypotheses of `Obligations.FlowCommands`. -/
theorem witness_FlowCommands :
    (∃ (c : Desc) (s : State) (b : _), Starts infoCreateFlow c s ∧ b = readFlowBlk c.inp ∧ ((s.jrnStart c).term b.sc
      b.term).act ≠ .free ∧ ((s.jrnStart c).term b.sc b.term).dom = c.dom ∧ (s.jrnStart c).isProtect (b.sc / 2) =
      false ∧ (s.jrnStart c).underTest b.sc b.term = false ∧ ((c.dom = 0 ∨ (s.jrnStart c).flowsOf c.dom <
      ((s.jrnStart c).domE c.dom).quota.flows)) ∧ ((s.jrnStart c).flow c.n0).inst = false ∧ ((s.jrnStart c).uport
      b.uPort).cfg ≠ none ∧ (s.jrnStart c).xgemFlow b.sc b.xgem = none ∧ (s.jrnStart c).keyFlow (pipeOfSub b.sc)
      (b.flow c.dom).key = none) ∧
    (∃ (c : Desc) (s : State) (b : _), Starts infoCreateFlow c s ∧ b = readFlowBlk c.inp ∧ ((s.jrnStart c).term b.sc
      b.term).act ≠ .free ∧ ((s.jrnStart c).term b.sc b.term).dom = c.dom ∧ (s.jrnStart c).isProtect (b.sc / 2) =
      false ∧ (s.jrnStart c).underTest b.sc b.term = false ∧ ((c.dom = 0 ∨ (s.jrnStart c).flowsOf c.dom <
      ((s.jrnStart c).domE c.dom).quota.flows)) ∧ ((s.jrnStart c).flow c.n0).inst = true ∧ ((s.jrnStart c).flow
      c.n0).road = .enabled) ∧
    (∃ (c : Desc) (s : State) (e : _), Starts infoDestroyFlow c s ∧ ((s.jrnStart c).flow c.n0).inst = true ∧
      ((s.jrnStart c).flow c.n0).dom = c.dom ∧ ((s.jrnStart c).flow c.n0).destroyE = none ∧ ((s.jrnStart c).flow
      c.n0).road = .enabled ∧ (s.jrnStart c).resolveE none c = .ok e ∧ (s.jrnStart c).pendRoom = true) ∧
    (∃ (c : Desc) (s : State) (x : _) (b : _), Starts infoModifyFlow c s ∧ ((s.jrnStart c).flow c.n0).inst = true ∧
      ((s.jrnStart c).flow c.n0).dom = c.dom ∧ x = (s.jrnStart c).flow c.n0 ∧ b = readFlowBlk c.inp ∧ (b.sc, b.term,
      b.xgem, b.kind, b.encrypt, b.outerVid, b.innerVid, b.innerNone) = (x.sc, x.term, x.xgem, x.kind, x.encrypt,
      x.outerVid, x.innerVid, x.innerNone) ∧ ((s.jrnStart c).uport b.uPort).cfg ≠ none) ∧
    (∃ (c : Desc) (s : State), Starts infoModifyFlow c s ∧ ((s.jrnStart c).flow c.n0).inst = true ∧ ((s.jrnStart
      c).flow c.n0).dom = c.dom ∧ (readFlowBlk c.inp).sc ≠ ((s.jrnStart c).flow c.n0).sc) ∧
    (∃ (c : Desc) (s : State), Starts infoReadFlow c s ∧ ((s.jrnStart c).flow c.n0).inst = true ∧ ((s.jrnStart
      c).flow c.n0).dom = c.dom) ∧
    (∃ (c : Desc) (s : State), Starts infoReadFlow c s ∧ ((s.jrnStart c).flow c.n0).inst = false) ∧
    (∃ (c : Desc) (s : State), Starts infoReadFlow c s ∧ ((s.jrnStart c).flow c.n0).inst = true ∧ ((s.jrnStart
      c).flow c.n0).dom ≠ c.dom) ∧
    (∃ (c : Desc) (s : State) (f : _) (x : _), Starts infoJoinFlood c s ∧ ((s.jrnStart c).flow c.n0).inst = true ∧
      ((s.jrnStart c).flow c.n0).dom = c.dom ∧ ((s.jrnStart c).flow c.n0).road = .enabled ∧ f = (s.jrnStart c).flow
      c.n0 ∧ x = (s.jrnStart c).pipe (pipeOfSub f.sc) ∧ (x.flood (floodKey f.dom f.outerVid)).contains c.n0 = false ∧
      (x.flood (floodKey f.dom f.outerVid)).length < 65535 ∧ ((x.flood (floodKey f.dom f.outerVid) ≠ [] ∨
      x.floods.length < 4096)) ∧ x.floods.foldl (fun n e => n + e.2.length) 0 < 131072) ∧
    (∃ (c : Desc) (s : State), Starts infoLeaveFlood c s ∧ ((s.jrnStart c).flow c.n0).inst = true ∧ ((s.jrnStart
      c).flow c.n0).dom = c.dom ∧ (((s.jrnStart c).pipe (pipeOfSub ((s.jrnStart c).flow c.n0).sc)).flood (floodKey
      ((s.jrnStart c).flow c.n0).dom ((s.jrnStart c).flow c.n0).outerVid)).contains c.n0 = true) ∧
    (∃ (c : Desc) (s : State), Starts infoLeaveFlood c s ∧ ((s.jrnStart c).flow c.n0).inst = true ∧ ((s.jrnStart
      c).flow c.n0).dom = c.dom ∧ (((s.jrnStart c).pipe (pipeOfSub ((s.jrnStart c).flow c.n0).sc)).flood (floodKey
      ((s.jrnStart c).flow c.n0).dom ((s.jrnStart c).flow c.n0).outerVid)).contains c.n0 = false) :=
  ⟨⟨cmd infoCreateFlow.op [9] (flowBlk 2000 0), wF.setUport 0 { cfg := some (1, 0, 1518) }, _, starts_of
  (by decide +kernel), rfl, by decide +kernel, by decide +kernel, by decide +kernel, by decide +kernel,
  by decide +kernel, by decide +kernel, by decide +kernel, by decide +kernel, by decide +kernel⟩,
   ⟨cmd infoCreateFlow.op [0] (flowBlk 2000 0), wF, _, starts_of (by decide +kernel), rfl, by decide +kernel,
     by decide +kernel, by decide +kernel, by decide +kernel, by decide +kernel, by decide +kernel,
     by decide +kernel⟩,
   ⟨cmd infoDestroyFlow.op [0, 1], wF, (((wF).jrnStart (cmd infoDestroyFlow.op [0, 1])).resolveE none (cmd
     infoDestroyFlow.op [0, 1])).toOption.getD 0, starts_of (by decide +kernel), by decide +kernel⟩,
   ⟨cmd infoModifyFlow.op [0] (flowBlk 1024 3), wF.setUport 0 { cfg := some (1, 0, 1518) }, _, _, starts_of
     (by decide +kernel), by decide +kernel, by decide +kernel, rfl, rfl,
     (by simp only [Prod.mk.injEq]; decide +kernel), by decide +kernel⟩,
   ⟨cmd infoModifyFlow.op [2] (flowBlk 1024 3), wF, starts_of (by decide +kernel), by decide +kernel⟩,
   ⟨cmdOut infoReadFlow.op  [0] 64, wF, starts_of (by decide +kernel), by decide +kernel⟩,
   ⟨cmdOut infoReadFlow.op  [9] 64, wF, starts_of (by decide +kernel), by decide +kernel⟩,
   ⟨cmdOut infoReadFlow.op  [1] 64, wF, starts_of (by decide +kernel), by decide +kernel⟩,
   ⟨cmd infoJoinFlood.op [0], wF, _, _, starts_of (by decide +kernel), by decide +kernel, by decide +kernel,
     by decide +kernel, rfl, rfl, by decide +kernel, by decide +kernel, by decide +kernel, by decide +kernel⟩,
   ⟨cmd infoLeaveFlood.op [2], wF, starts_of (by decide +kernel), by decide +kernel⟩,
   ⟨cmd infoLeaveFlood.op [0], wF, starts_of (by decide +kernel), by decide +kernel⟩⟩

/-- Hypotheses of `Obligations.ForwardingTableCommands`. -/
theorem witness_ForwardingTableCommands :
    (∃ (c : Desc) (s : State), Starts infoSetSteer c s ∧ c.dom = 0) ∧
    (∃ (c : Desc) (s : State) (e : _) (w : _) (i : _), Starts infoAddEntry c s ∧ e = (s.jrnStart c).readEntry c.inp ∧
      e.uplink = true ∧ ((c.dom = 0 ∨ e.dom = c.dom)) ∧ w = (s.jrnStart c).learnAll c.n0 ∧ (w.pipe c.n0).find (keyOf
      e) = some i) ∧
    (∃ (c : Desc) (s : State) (e : _) (w : _) (y : _), Starts infoAddEntry c s ∧ e = (s.jrnStart c).readEntry c.inp ∧
      e.uplink = true ∧ ((c.dom = 0 ∨ e.dom = c.dom)) ∧ w = (s.jrnStart c).learnAll c.n0 ∧ (w.pipe c.n0).find (keyOf
      e) = none ∧ w.entryQuota e.dom = false ∧ (w.pipe c.n0).insert e = some y) ∧
    (∃ (c : Desc) (s : State) (w : _) (i : _), Starts infoDeleteEntry c s ∧ w = (s.jrnStart c).learnAll c.n0 ∧
      (w.pipe c.n0).find (keyArg c) = some i ∧ ((c.dom = 0 ∨ (keyArg c).dom = c.dom))) ∧
    (∃ (c : Desc) (s : State), Starts infoDeleteEntry c s ∧ (((s.jrnStart c).learnAll c.n0).pipe c.n0).find (keyArg
      c) = none) ∧
    (∃ (c : Desc) (s : State) (e : _), Starts infoSearch c s ∧ (((s.jrnStart c).pipe c.n0).find (keyArg c)).bind
      ((s.jrnStart c).pipe c.n0).at = some e ∧ ((c.dom = 0 ∨ e.dom = c.dom))) ∧
    (∃ (c : Desc) (s : State), Starts infoSearch c s ∧ (((s.jrnStart c).pipe c.n0).find (keyArg c)).bind ((s.jrnStart
      c).pipe c.n0).at = none) ∧
    (∃ (c : Desc) (s : State) (w : _) (all : _), Starts infoNext c s ∧ c.n0 < 8 ∧ w = (s.jrnStart c).walkExpire c.n0
      ∧ all = (w.pipe c.n0).entries.filter (fun e => decide (cursorPos c.n1 ≤ e.1) && (c.dom == 0 || e.2.dom ==
      c.dom)) ∧ all.length ≤ 1024 ∧ 32 * all.length ≤ c.bufLen) ∧
    (∃ (c : Desc) (s : State), Starts infoWalkEnd c s) ∧
    (∃ (c : Desc) (s : State) (ps : List Nat) (w : State) (fl : Flush), Starts infoFlushByPort c s ∧ 2 ^ 31 ≤ c.n0 ∧
      ps = (List.range 8).filter (fun p => (if c.n1 % 256 = 0 then 255 else c.n1 % 256) / 2 ^ p % 2 == 1) ∧ w =
      ps.foldl (fun (s : State) (p : Nat) => s.learnAll p) (s.jrnStart c) ∧ fl = ⟨c.acc, c.dom, true, c.n0 % 2 ^ 20,
      decide (2 ^ 8 ≤ c.n1), (s.jrnStart c).data.flushNo + 1, 0⟩) ∧
    (∃ (c : Desc) (s : State), Starts infoRehash c s ∧ c.dom = 0 ∧ ((s.jrnStart c).pipe c.n0).rehash = none ∧ c.n1 ≠
      0) ∧
    (∃ (c : Desc) (s : State), Starts infoRehash c s ∧ c.dom = 0 ∧ ((s.jrnStart c).pipe c.n0).rehash.isSome = true) :=
  ⟨⟨cmd infoSetSteer.op [127 + 65536 * 4095, 31 + 256 * 63], w0, starts_of (by decide +kernel), by decide +kernel⟩,
   ⟨cmd infoAddEntry.op [0] (entBlk 1 7 5), wM, _, _, 262144, starts_of (by decide +kernel), rfl, by decide +kernel,
     by decide +kernel, rfl, by decide +kernel⟩,
   ⟨cmd infoAddEntry.op [0] (entBlk 9 7 5), wM, _, _, ((((((wM).jrnStart (cmd infoAddEntry.op [0] (entBlk 9 7
     5))).learnAll (cmd infoAddEntry.op [0] (entBlk 9 7 5)).n0).pipe (cmd infoAddEntry.op [0] (entBlk 9 7
     5)).n0).insert (((wM).jrnStart (cmd infoAddEntry.op [0] (entBlk 9 7 5))).readEntry (cmd infoAddEntry.op [0]
     (entBlk 9 7 5)).inp)).getD {}), starts_of (by decide +kernel), rfl, by decide +kernel, by decide +kernel, rfl,
     by decide +kernel, by decide +kernel, by decide +kernel⟩,
   ⟨cmd infoDeleteEntry.op [0, 458752, 1, 0], wM, _, 262144, starts_of (by decide +kernel), rfl, by decide +kernel,
     by decide +kernel⟩,
   ⟨cmd infoDeleteEntry.op [0, 458752, 9, 0], wM, starts_of (by decide +kernel), by decide +kernel⟩,
   ⟨cmdOut infoSearch.op  [0, 458752, 1, 0] 32, wM, ent 1, starts_of (by decide +kernel), by decide +kernel⟩,
   ⟨cmdOut infoSearch.op  [0, 458752, 9, 0] 32, wM, starts_of (by decide +kernel), by decide +kernel⟩,
   ⟨cmdOut infoNext.op  [0, 0] 64, wM, _, _, starts_of (by decide +kernel), by decide +kernel, rfl, rfl,
     by decide +kernel, by decide +kernel⟩,
   ⟨cmd infoWalkEnd.op [7], wM, starts_of (by decide +kernel)⟩,
   ⟨cmd infoFlushByPort.op [2147483653, 0], wM, _, _, _, starts_of (by decide +kernel), by decide +kernel, rfl, rfl,
     rfl⟩,
   ⟨cmd infoRehash.op [0, 5], wM, starts_of (by decide +kernel), by decide +kernel⟩,
   ⟨cmd infoRehash.op [1, 5], wM, starts_of (by decide +kernel), by decide +kernel⟩⟩

/-- Hypotheses of `Obligations.TablesLearnAgeAndFlush`. -/
theorem witness_TablesLearnAgeAndFlush :
    (∃ (s : State) (p : Nat) (r : LearnReq) (l : List LearnReq), (s.pipe p).learnQ = r :: l) ∧
    (∃ (s : State) (p : Nat) (i : Nat) (r : LearnReq) (e : MacEnt), (s.pipe p).find ⟨r.dom, r.vid, r.mac⟩ = some i ∧
      (s.pipe p).at i = some e ∧ e.uplink = r.uplink ∧ e.port = r.port) ∧
    (∃ (s : State) (p : Nat) (i : Nat) (n : Notice) (e : MacEnt), s.data.notices.find? (fun n => n.pipe == p) = some
      n ∧ (s.pipe p).find ⟨n.dom, n.vid, n.mac⟩ = some i ∧ (s.pipe p).at i = some e ∧ e.stat = false ∧ e.learnCycle <
      n.cycle) ∧
    (∃ (s : State) (p : Nat), (s.pipe p).walk.isSome = true) ∧
    (∃ (s : State) (p : Nat) (i : Nat) (m : MacEnt) (z : _), (s.pipe p).walk = none ∧ (s.pipe p).stash = [(i, some
      m)] ∧ ((s.pipe p).put (262144 + i) none).place m = some z) ∧
    (∃ (s : State) (p : Nat) (i : Nat) (m : MacEnt), (s.pipe p).walk = none ∧ (s.pipe p).stash = [(i, some m)] ∧
      ((s.pipe p).put (262144 + i) none).place m = none) ∧
    (∃ (s : State), (s.reg (fwdA 4)).toNat = 0) ∧
    (∃ (s : State) (p : Nat) (b : Nat), s.sweepDue p b = false) ∧
    (∃ (s : State) (p : Nat) (b : Nat) (i : Nat) (e : MacEnt), (s.reg (fwdA 4)).toNat ≠ 0 ∧ b < 65536 ∧ i ∈ slotsOf b
      ∧ s.sweepDue p b = true ∧ (s.pipe p).learnQ = [] ∧ (s.pipe p).at i = some e ∧ ((∀ j ∈ slotsOf b, j ≠ i →
      (s.pipe p).at j = none)) ∧ e.stat = false ∧ SMap.wf (fun _ => ({} : Pipe)) s.data.pipes = true ∧ SMap.wf (fun _
      => (none : Option MacEnt)) (s.pipe p).table = true ∧ e.hit = true) ∧
    (∃ (s : State) (p : Nat) (b : Nat) (i : Nat) (e : MacEnt), (s.reg (fwdA 4)).toNat ≠ 0 ∧ b < 65536 ∧ i ∈ slotsOf b
      ∧ s.sweepDue p b = true ∧ (s.pipe p).learnQ = [] ∧ (s.pipe p).at i = some e ∧ ((∀ j ∈ slotsOf b, j ≠ i →
      (s.pipe p).at j = none)) ∧ e.stat = false ∧ SMap.wf (fun _ => ({} : Pipe)) s.data.pipes = true ∧ SMap.wf (fun _
      => (none : Option MacEnt)) (s.pipe p).table = true ∧ e.hit = false) ∧
    (∃ (s : State) (p : Nat) (mac : Nat) (vid : Nat) (dom : Nat) (i : Nat) (e : MacEnt), (s.pipe p).find ⟨dom, vid,
      mac⟩ = some i ∧ (s.pipe p).at i = some e ∧ e.frozen = true ∧ (s.ms32 + 2 ^ 32 - e.freezeMs) % 2 ^ 32 < 2 ^ 31) ∧
    (∃ (s : State) (p : Nat) (t : Nat), (s.pipe p).walk = some t ∧ t + 20000000 ≤ s.clk.hubc) ∧
    (∃ (s : State) (p : Nat) (acc : Nat) (f : Flush), (s.pipe p).learnQ = [] ∧ (s.pipe p).flushes.find? (fun f =>
      f.acc == acc) = some f ∧ ((List.range 8).find? (fun q => ((s.setPipe p
      { ((s.pipe p).keepIf (fun e => !f.takes e)) with flushes := (s.pipe p).flushes.filter (fun g => g.acc != acc) }).pipe
      q).flushes.any (fun g => g.acc == acc)) = none)) ∧
    (∃ (s : State) (p : Nat) (acc : Nat) (seed : W32) (y : Pipe), (s.pipe p).walk = none ∧ (s.pipe p).rehash = some
      (acc, seed) ∧ (s.pipe p).rebuild seed = (y, 0)) :=
  ⟨⟨w0.setPipe 0 { learnQ := [⟨1, 7, 0, true, 5⟩] }, 0, ⟨1, 7, 0, true, 5⟩, [], by decide +kernel⟩,
   ⟨wM, 0, 262144, ⟨1, 7, 0, true, 5⟩, ent 1, by decide +kernel⟩,
   ⟨wM.modData (fun d => { d with notices := [⟨0, 1, 1, 7, 0, 10⟩] }), 0, 262144, ⟨0, 1, 1, 7, 0, 10⟩, ent 1,
     by decide +kernel⟩,
   ⟨w0.setPipe 0 { walk := some 0 }, 0, by decide +kernel⟩,
   ⟨wM, 0, 0, ent 1, ((((wM).pipe (0)).put (262144 + (0)) none).place (ent 1)).getD {}, by decide +kernel⟩,
   ⟨wN, 0, 0, ent 0x82f63b788, by decide +kernel⟩,
   ⟨w0.setReg (fwdA 4) 0, by decide +kernel⟩,
   ⟨(w0.setReg (fwdA 4) 1).setPipe 0 { swept := [(65535, some w0.ns)] }, 0, 65535, by decide +kernel⟩,
   ⟨(w0.setReg (fwdA 4) 1).setPipe 0 { table := [(40, some (ent 1))] }, 0, 10, 40, ent 1, by decide +kernel⟩,
   ⟨(w0.setReg (fwdA 4) 1).setPipe 0 { table := [(43, some { ent 1 with hit := false })] }, 0, 10, 43,
     { ent 1 with hit := false }, by decide +kernel⟩,
   ⟨w0.setPipe 0 { stash := [(0, some { ent 1 with frozen := true, freezeMs := 100 })] }, 0, 1, 7, 0, 262144,
     { ent 1 with frozen := true, freezeMs := 100 }, by decide +kernel⟩,
   ⟨w0.setPipe 0 { walk := some 0 }, 0, 0, by decide +kernel⟩,
   ⟨wM.setPipe 0 { flushes := [⟨9, 0, true, 5, false, 10, 0⟩] }, 0, 9, ⟨9, 0, true, 5, false, 10, 0⟩,
     by decide +kernel⟩,
   ⟨wM, 1, 8, 3#32, { seed := 3#32 }, by decide +kernel⟩⟩

/-- Hypotheses of `Obligations.FramesAreSteeredAndBridged`. -/
theorem witness_FramesAreSteeredAndBridged :
    (∃ (s : State) (f : UpFrame), (s.uport f.u).cfg = none) ∧
    (∃ (s : State) (f : UpFrame) (w : Nat) (l : Nat) (m : Nat), (s.uport f.u).cfg = some (w, l, m) ∧ s.portUp f.u =
      true ∧ f.fcsOk = false) ∧
    (∃ (s : State) (f : UpFrame) (w : Nat) (l : Nat) (m : Nat), (s.uport f.u).cfg = some (w, l, m) ∧ s.portUp f.u =
      true ∧ f.fcsOk = true ∧ m < f.len) ∧
    (∃ (s : State) (f : UpFrame) (w : Nat) (l : Nat) (m : Nat), (s.uport f.u).cfg = some (w, l, m) ∧ s.portUp f.u =
      true ∧ f.fcsOk = true ∧ f.len ≤ m ∧ f.len < 64) ∧
    (∃ (s : State) (f : UpFrame) (w : Nat) (l : Nat) (m : Nat), (s.uport f.u).cfg = some (w, l, m) ∧ s.portUp f.u =
      true ∧ f.fcsOk = true ∧ f.len ≤ m ∧ 64 ≤ f.len ∧ f.ctrl = true) ∧
    (∃ (s : State) (f : UpFrame) (w : Nat) (l : Nat) (m : Nat) (v : State) (y : State), (s.uport f.u).cfg = some (w,
      l, m) ∧ s.portUp f.u = true ∧ f.fcsOk = true ∧ f.len ≤ m ∧ 64 ≤ f.len ∧ f.ctrl = false ∧ f.etype ≠ 0x8808 ∧
      f.etype ≠ 0x88B5 ∧ (((s.fecCounts f).uplCnt f.u 0 1).uplCnt f.u 1 f.len).secReceive f.u f.sec = (true, v) ∧
      v.trapped f.u f.timing = false ∧ v.standby = false ∧ v.d2dTake (4 + f.u / 64) 0 f.len = (true, y) ∧
      (v.data.steer.get {} (4096 * f.u + f.vid.getD 0 % 4096)).valid = false) ∧
    (∃ (s : State) (f : UpFrame) (w : Nat) (l : Nat) (m : Nat) (v : State) (y : State) (z : State), (s.uport f.u).cfg
      = some (w, l, m) ∧ s.portUp f.u = true ∧ f.fcsOk = true ∧ f.len ≤ m ∧ 64 ≤ f.len ∧ f.ctrl = false ∧ f.etype ≠
      0x8808 ∧ f.etype ≠ 0x88B5 ∧ (((s.fecCounts f).uplCnt f.u 0 1).uplCnt f.u 1 f.len).secReceive f.u f.sec = (true,
      v) ∧ v.trapped f.u f.timing = false ∧ v.standby = false ∧ v.d2dTake (4 + f.u / 64) 0 f.len = (true, y) ∧
      (v.data.steer.get {} (4096 * f.u + f.vid.getD 0 % 4096)).valid = true ∧ y.pipeTake (v.data.steer.get {} (4096 *
      f.u + f.vid.getD 0 % 4096)).pipe 0 = (false, z)) ∧
    (∃ (s : State) (f : UpFrame) (w : Nat) (l : Nat) (m : Nat) (v : State) (y : State) (z : State), (s.uport f.u).cfg
      = some (w, l, m) ∧ s.portUp f.u = true ∧ f.fcsOk = true ∧ f.len ≤ m ∧ 64 ≤ f.len ∧ f.ctrl = false ∧ f.etype ≠
      0x8808 ∧ f.etype ≠ 0x88B5 ∧ (((s.fecCounts f).uplCnt f.u 0 1).uplCnt f.u 1 f.len).secReceive f.u f.sec = (true,
      v) ∧ v.trapped f.u f.timing = false ∧ v.standby = false ∧ v.d2dTake (4 + f.u / 64) 0 f.len = (true, y) ∧
      (v.data.steer.get {} (4096 * f.u + f.vid.getD 0 % 4096)).valid = true ∧ (v.data.steer.get {} (4096 * f.u +
      f.vid.getD 0 % 4096)).mode = 0 ∧ f.len ≤ 9728 ∧ y.pipeTake (v.data.steer.get {} (4096 * f.u + f.vid.getD 0 %
      4096)).pipe 0 = (true, z) ∧ z.keyFlow (v.data.steer.get {} (4096 * f.u + f.vid.getD 0 % 4096)).pipe
      ((v.data.steer.get {} (4096 * f.u + f.vid.getD 0 % 4096)).dom, f.vid.getD 0, f.inner) = none) ∧
    (∃ (s : State) (f : UpFrame) (w : Nat) (l : Nat) (m : Nat) (v : State) (y : State) (z : State) (i : _), (s.uport
      f.u).cfg = some (w, l, m) ∧ s.portUp f.u = true ∧ f.fcsOk = true ∧ f.len ≤ m ∧ 64 ≤ f.len ∧ f.ctrl = false ∧
      f.etype ≠ 0x8808 ∧ f.etype ≠ 0x88B5 ∧ (((s.fecCounts f).uplCnt f.u 0 1).uplCnt f.u 1 f.len).secReceive f.u
      f.sec = (true, v) ∧ v.trapped f.u f.timing = false ∧ v.standby = false ∧ v.d2dTake (4 + f.u / 64) 0 f.len =
      (true, y) ∧ (v.data.steer.get {} (4096 * f.u + f.vid.getD 0 % 4096)).valid = true ∧ (v.data.steer.get {} (4096
      * f.u + f.vid.getD 0 % 4096)).mode = 0 ∧ f.len ≤ 9728 ∧ y.pipeTake (v.data.steer.get {} (4096 * f.u +
      f.vid.getD 0 % 4096)).pipe 0 = (true, z) ∧ z.keyFlow (v.data.steer.get {} (4096 * f.u + f.vid.getD 0 %
      4096)).pipe ((v.data.steer.get {} (4096 * f.u + f.vid.getD 0 % 4096)).dom, f.vid.getD 0, f.inner) = some i) ∧
    (∃ (s : State) (f : DnFrame), s.xgemFlow f.sc f.xgem = none) ∧
    (∃ (s : State) (f : DnFrame) (i : Nat), s.xgemFlow f.sc f.xgem = some i ∧ s.carrier f = none ∧ s.standby = false) ∧
    (∃ (s : State) (f : DnFrame) (i : Nat) (b : Burst) (a : Alloc), s.xgemFlow f.sc f.xgem = some i ∧ s.carrier f =
      some (b, a) ∧ s.standby = false ∧ s.upDiscarded b a ((s.flow i).under f.m) = true) ∧
    (∃ (s : State) (f : DnFrame) (i : Nat) (b : Burst) (a : Alloc), s.xgemFlow f.sc f.xgem = some i ∧ s.carrier f =
      some (b, a) ∧ s.standby = false ∧ s.upDiscarded b a ((s.flow i).under f.m) = false ∧ f.key = 0 ∧ ((s.flow
      i).under f.m).encrypt = true) ∧
    (∃ (s : State) (f : DnFrame) (i : Nat) (b : Burst) (a : Alloc), s.xgemFlow f.sc f.xgem = some i ∧ s.carrier f =
      some (b, a) ∧ s.standby = false ∧ s.upDiscarded b a ((s.flow i).under f.m) = false ∧ s.upKey ((s.flow i).under
      f.m) f.key = true ∧ ((((s.flow i).under f.m).encrypt = true → f.key ≠ 0)) ∧ f.last = false) ∧
    (∃ (s : State) (f : DnFrame) (i : Nat) (b : Burst) (a : Alloc) (n : Nat) (v : State) (w : State), s.xgemFlow f.sc
      f.xgem = some i ∧ s.carrier f = some (b, a) ∧ s.standby = false ∧ s.upDiscarded b a ((s.flow i).under f.m) =
      false ∧ s.upKey ((s.flow i).under f.m) f.key = true ∧ ((((s.flow i).under f.m).encrypt = true → f.key ≠ 0)) ∧
      f.last = true ∧ n = s.data.frags.get 0 i + f.len ∧ ((s.flow i).under f.m).kind ≠ 2 ∧ n ≤ 9728 ∧ (s.setFrag i
      0).d2dTake (scDie ((s.flow i).under f.m).sc) 0 n = (true, v) ∧ v.pipeTake (pipeOfSub ((s.flow i).under f.m).sc)
      1 = (true, w)) ∧
    (∃ (s : State) (u : Nat) (vid : Nat), s.hintVlan u vid = none) ∧
    (∃ (s : State) (u : Nat) (vid : Nat) (d : Nat) (l : List Nat), s.portUp u = true ∧ s.hintVlan u vid = some d ∧
      hintFrameOk l = false ∧ s.standby = false) ∧
    (∃ (s : State) (u : Nat) (vid : Nat) (d : Nat) (l : List Nat), s.portUp u = true ∧ s.hintVlan u vid = some d ∧
      hintFrameOk l = true ∧ s.standby = false) :=
  ⟨⟨w0, upf 100 7, by decide +kernel⟩,
   ⟨wB, { upf 100 7 with fcsOk := false }, 1, 0, 1518, by decide +kernel⟩,
   ⟨wB, upf 1519 7, 1, 0, 1518, by decide +kernel⟩,
   ⟨wB, upf 63 7, 1, 0, 1518, by decide +kernel⟩,
   ⟨wB, { upf 64 7 with ctrl := true }, 1, 0, 1518, by decide +kernel⟩,
   ⟨wB, upf 64 7, 1, 0, 1518, (((((wB).fecCounts (upf 64 7)).uplCnt (upf 64 7).u 0 1).uplCnt (upf 64 7).u 1 (upf 64
     7).len).secReceive (upf 64 7).u (upf 64 7).sec).2, (((((((wB).fecCounts (upf 64 7)).uplCnt (upf 64 7).u 0
     1).uplCnt (upf 64 7).u 1 (upf 64 7).len).secReceive (upf 64 7).u (upf 64 7).sec).2).d2dTake (4 + (upf 64 7).u /
     64) 0 (upf 64 7).len).2, by decide +kernel, by decide +kernel, by decide +kernel, by decide +kernel,
     by decide +kernel, by decide +kernel, by decide +kernel, by decide +kernel, pair_of (by decide +kernel),
     by decide +kernel, by decide +kernel, pair_of (by decide +kernel), by decide +kernel⟩,
   ⟨wB.modData (fun d => { d with pipeLoad := [(0, 500000)] }), upf 1518 8, 1, 0, 1518, (((((wB.modData (fun d =>
     { d with pipeLoad := [(0, 500000)] })).fecCounts (upf 1518 8)).uplCnt (upf 1518 8).u 0 1).uplCnt (upf 1518 8).u
     1 (upf 1518 8).len).secReceive (upf 1518 8).u (upf 1518 8).sec).2, (((((((wB.modData (fun d =>
     { d with pipeLoad := [(0, 500000)] })).fecCounts (upf 1518 8)).uplCnt (upf 1518 8).u 0 1).uplCnt (upf 1518 8).u
     1 (upf 1518 8).len).secReceive (upf 1518 8).u (upf 1518 8).sec).2).d2dTake (4 + (upf 1518 8).u / 64) 0 (upf 1518
     8).len).2, (((((((((wB.modData (fun d => { d with pipeLoad := [(0, 500000)] })).fecCounts (upf 1518 8)).uplCnt
     (upf 1518 8).u 0 1).uplCnt (upf 1518 8).u 1 (upf 1518 8).len).secReceive (upf 1518 8).u (upf 1518
     8).sec).2).d2dTake (4 + (upf 1518 8).u / 64) 0 (upf 1518 8).len).2).pipeTake (((((((wB.modData (fun d =>
     { d with pipeLoad := [(0, 500000)] })).fecCounts (upf 1518 8)).uplCnt (upf 1518 8).u 0 1).uplCnt (upf 1518 8).u
     1 (upf 1518 8).len).secReceive (upf 1518 8).u (upf 1518 8).sec).2).data.steer.get {} (4096 * (upf 1518 8).u +
     (upf 1518 8).vid.getD 0 % 4096)).pipe 0).2, by decide +kernel, by decide +kernel, by decide +kernel,
     by decide +kernel, by decide +kernel, by decide +kernel, by decide +kernel, by decide +kernel, pair_of
     (by decide +kernel), by decide +kernel, by decide +kernel, pair_of (by decide +kernel), by decide +kernel,
     pair_of (by decide +kernel)⟩,
   ⟨wB, upf 1518 9, 1, 0, 1518, (((((wB).fecCounts (upf 1518 9)).uplCnt (upf 1518 9).u 0 1).uplCnt (upf 1518 9).u 1
     (upf 1518 9).len).secReceive (upf 1518 9).u (upf 1518 9).sec).2, (((((((wB).fecCounts (upf 1518 9)).uplCnt (upf
     1518 9).u 0 1).uplCnt (upf 1518 9).u 1 (upf 1518 9).len).secReceive (upf 1518 9).u (upf 1518 9).sec).2).d2dTake
     (4 + (upf 1518 9).u / 64) 0 (upf 1518 9).len).2, (((((((((wB).fecCounts (upf 1518 9)).uplCnt (upf 1518 9).u 0
     1).uplCnt (upf 1518 9).u 1 (upf 1518 9).len).secReceive (upf 1518 9).u (upf 1518 9).sec).2).d2dTake (4 + (upf
     1518 9).u / 64) 0 (upf 1518 9).len).2).pipeTake (((((((wB).fecCounts (upf 1518 9)).uplCnt (upf 1518 9).u 0
     1).uplCnt (upf 1518 9).u 1 (upf 1518 9).len).secReceive (upf 1518 9).u (upf 1518 9).sec).2).data.steer.get {}
     (4096 * (upf 1518 9).u + (upf 1518 9).vid.getD 0 % 4096)).pipe 0).2, by decide +kernel, by decide +kernel,
     by decide +kernel, by decide +kernel, by decide +kernel, by decide +kernel, by decide +kernel,
     by decide +kernel, pair_of (by decide +kernel), by decide +kernel, by decide +kernel, pair_of
     (by decide +kernel), by decide +kernel, by decide +kernel, by decide +kernel, pair_of (by decide +kernel),
     by decide +kernel⟩,
   ⟨wB, upf 1518 8, 1, 0, 1518, (((((wB).fecCounts (upf 1518 8)).uplCnt (upf 1518 8).u 0 1).uplCnt (upf 1518 8).u 1
     (upf 1518 8).len).secReceive (upf 1518 8).u (upf 1518 8).sec).2, (((((((wB).fecCounts (upf 1518 8)).uplCnt (upf
     1518 8).u 0 1).uplCnt (upf 1518 8).u 1 (upf 1518 8).len).secReceive (upf 1518 8).u (upf 1518 8).sec).2).d2dTake
     (4 + (upf 1518 8).u / 64) 0 (upf 1518 8).len).2, (((((((((wB).fecCounts (upf 1518 8)).uplCnt (upf 1518 8).u 0
     1).uplCnt (upf 1518 8).u 1 (upf 1518 8).len).secReceive (upf 1518 8).u (upf 1518 8).sec).2).d2dTake (4 + (upf
     1518 8).u / 64) 0 (upf 1518 8).len).2).pipeTake (((((((wB).fecCounts (upf 1518 8)).uplCnt (upf 1518 8).u 0
     1).uplCnt (upf 1518 8).u 1 (upf 1518 8).len).secReceive (upf 1518 8).u (upf 1518 8).sec).2).data.steer.get {}
     (4096 * (upf 1518 8).u + (upf 1518 8).vid.getD 0 % 4096)).pipe 0).2, 4, by decide +kernel, by decide +kernel,
     by decide +kernel, by decide +kernel, by decide +kernel, by decide +kernel, by decide +kernel,
     by decide +kernel, pair_of (by decide +kernel), by decide +kernel, by decide +kernel, pair_of
     (by decide +kernel), by decide +kernel, by decide +kernel, by decide +kernel, pair_of (by decide +kernel),
     by decide +kernel⟩,
   ⟨wB, dnf 9999 0 100, by decide +kernel⟩,
   ⟨wB, dnf 1030 0 100, 4, by decide +kernel⟩,
   ⟨wBb.modSub 0 (fun x => { x with road := .draining, discard := true, drainE := some 1000 }), dnf 1030 0 100, 4,
     (⟨.data, 4, 0, 0, 100, [⟨some 0, 1024, 50, 0, false, false⟩], some .arrived, true, none⟩ : Burst), (⟨some 0,
     1024, 50, 0, false, false⟩ : Alloc), by decide +kernel⟩,
   ⟨wBb, dnf 1031 0 100, 5, (⟨.data, 4, 0, 0, 100, [⟨some 0, 1024, 50, 0, false, false⟩], some .arrived, true, none⟩
     : Burst), (⟨some 0, 1024, 50, 0, false, false⟩ : Alloc), by decide +kernel⟩,
   ⟨wBb, { dnf 1030 0 100 with last := false }, 4, (⟨.data, 4, 0, 0, 100, [⟨some 0, 1024, 50, 0, false, false⟩], some
     .arrived, true, none⟩ : Burst), (⟨some 0, 1024, 50, 0, false, false⟩ : Alloc), by decide +kernel⟩,
   ⟨wBb, dnf 1030 0 9728, 4, (⟨.data, 4, 0, 0, 100, [⟨some 0, 1024, 50, 0, false, false⟩], some .arrived, true, none⟩
     : Burst), (⟨some 0, 1024, 50, 0, false, false⟩ : Alloc), _, (((wBb).setFrag (4) 0).d2dTake (scDie (((wBb).flow
     (4)).under (dnf 1030 0 9728).m).sc) 0 ((wBb).data.frags.get 0 (4) + (dnf 1030 0 9728).len)).2, (((((wBb).setFrag
     (4) 0).d2dTake (scDie (((wBb).flow (4)).under (dnf 1030 0 9728).m).sc) 0 ((wBb).data.frags.get 0 (4) + (dnf 1030
     0 9728).len)).2).pipeTake (pipeOfSub (((wBb).flow (4)).under (dnf 1030 0 9728).m).sc) 1).2, by decide +kernel,
     by decide +kernel, by decide +kernel, by decide +kernel, by decide +kernel, by decide +kernel,
     by decide +kernel, rfl, by decide +kernel, by decide +kernel, pair_of (by decide +kernel), pair_of
     (by decide +kernel)⟩,
   ⟨wB, 0, 12, by decide +kernel⟩,
   ⟨wB, 0, 11, 5, [1, 65, 0, 0], by decide +kernel⟩,
   ⟨wB, 0, 11, 5, ([1, 1, 0, 0] ++ List.replicate 20 0), by decide +kernel⟩⟩

/-- Hypotheses of `Obligations.HardwareCommandsAndSelfTests`. -/
theorem witness_HardwareCommandsAndSelfTests :
    (∃ (c : Desc) (s : State), Starts infoRetireHw c s ∧ ((s.jrnStart c).health (hwCls c) (hwUnit c)).st = .retired) ∧
    (∃ (c : Desc) (s : State), Starts infoRetireHw c s ∧ (hwCls c = 7 ∨ hwCls c = 8 ∨ hwCls c = 9) ∧ ((s.jrnStart
      c).health (hwCls c) (hwUnit c)).st = .active ∧ (s.jrnStart c).hasSpare (hwCls c) = false) ∧
    (∃ (c : Desc) (s : State) (e : _), Starts infoRetireHw c s ∧ hwCls c ≤ 2 ∧ (((s.jrnStart c).health (hwCls c)
      (hwUnit c)).st = .active ∨ ((s.jrnStart c).health (hwCls c) (hwUnit c)).st = .spare) ∧ (s.jrnStart c).resolveE
      none c = .ok e ∧ (s.jrnStart c).pendRoom = true) ∧
    (∃ (c : Desc) (s : State), Starts infoRetireHw c s ∧ 2 < hwCls c ∧ (hwCls c < 7 ∨ hwCls c = 10) ∧ c.effect = 0 ∧
      ((s.jrnStart c).health (hwCls c) (hwUnit c)).st = .active) ∧
    (∃ (c : Desc) (s : State), Starts infoRetireHw c s ∧ 2 < hwCls c ∧ (hwCls c < 7 ∨ hwCls c = 10) ∧ c.effect = 0 ∧
      ((s.jrnStart c).health (hwCls c) (hwUnit c)).st = .spare) ∧
    (∃ (c : Desc) (s : State), Starts infoReturnHw c s ∧ ((s.jrnStart c).health (hwCls c) (hwUnit c)).st ≠ .retired) ∧
    (∃ (c : Desc) (s : State) (v : _) (w : _), Starts infoReturnHw c s ∧ 0 < hwCls c ∧ hwCls c ≠ 7 ∧ ((s.jrnStart
      c).health (hwCls c) (hwUnit c)).st = .retired ∧ (s.jrnStart c).draw = (v, w)) ∧
    (∃ (c : Desc) (s : State), Starts infoRunSelfTest c s ∧ ((s.jrnStart c).health (hwCls c) (hwUnit c)).st =
      .active) ∧
    (∃ (c : Desc) (s : State) (v : _) (w : _), Starts infoRunSelfTest c s ∧ ((s.jrnStart c).health (hwCls c) (hwUnit
      c)).st = .spare ∧ (s.jrnStart c).draw = (v, w)) ∧
    (∃ (c : Desc) (s : State), Starts infoReadHealth c s) ∧
    (∃ (s : State) (cls : Nat) (u : Nat), cls ≤ 10 ∧ u < clsUnits cls ∧ (s.health cls u).st = .spare) ∧
    (∃ (s : State) (cls : Nat) (u : Nat), cls < 8 ∧ (s.health cls u).st ≠ .spare) ∧
    (∃ (s : State), s.writable = true) ∧
    (∃ (s : State), s.bit (sprA 0x200) 31 = true) ∧
    (∃ (s : State), s.bit (sprA 0x200) 31 = false) :=
  ⟨⟨cmd infoRetireHw.op [83886080], wH, starts_of (by decide +kernel), by decide +kernel⟩,
   ⟨cmd infoRetireHw.op [134217728], wH, starts_of (by decide +kernel), by decide +kernel⟩,
   ⟨cmd infoRetireHw.op [95], w0, (((w0).jrnStart (cmd infoRetireHw.op [95])).resolveE none (cmd infoRetireHw.op
     [95])).toOption.getD 0, starts_of (by decide +kernel), by decide +kernel⟩,
   ⟨cmd infoRetireHw.op [50331648], w0, starts_of (by decide +kernel), by decide +kernel⟩,
   ⟨cmd infoRetireHw.op [50331984], w0, starts_of (by decide +kernel), by decide +kernel⟩,
   ⟨cmd infoReturnHw.op [83886081], wH, starts_of (by decide +kernel), by decide +kernel⟩,
   ⟨cmd infoReturnHw.op [83886080], wH, (((wH).jrnStart (cmd infoReturnHw.op [83886080])).draw).1, (((wH).jrnStart
     (cmd infoReturnHw.op [83886080])).draw).2, starts_of (by decide +kernel), by decide +kernel, by decide +kernel,
     by decide +kernel, rfl⟩,
   ⟨cmd infoRunSelfTest.op [167772255], w0, starts_of (by decide +kernel), by decide +kernel⟩,
   ⟨cmd infoRunSelfTest.op [117440515], w0, (((w0).jrnStart (cmd infoRunSelfTest.op [117440515])).draw).1,
     (((w0).jrnStart (cmd infoRunSelfTest.op [117440515])).draw).2, starts_of (by decide +kernel), by decide +kernel,
     rfl⟩,
   ⟨cmdOut infoReadHealth.op  [167772255] 16, w0, starts_of (by decide +kernel)⟩,
   ⟨w0, 7, 3, by decide +kernel⟩,
   ⟨w0, 7, 0, by decide +kernel⟩,
   ⟨w0, by decide +kernel⟩,
   ⟨w0.setReg (sprA 0x200) (BitVec.ofNat 64 (2 ^ 31)), by decide +kernel⟩,
   ⟨w0, by decide +kernel⟩⟩

/-- Hypotheses of `Obligations.FaultsAndDetours`. -/
theorem witness_FaultsAndDetours :
    (∃ (s : State) (g : Nat), (s.core g).st = .lost) ∧
    (∃ (s : State) (g : Nat), g < 104 ∧ (s.core g).st ≠ .lost ∧ (s.core g).group = none ∧ ((∀ h, (s.core h).detour =
      none)) ∧ SMap.wf Core.dflt s.grant.cores = true) ∧
    (∃ (s : State) (g : Nat) (q : Nat) (k : Nat), g < 104 ∧ (s.core g).st ≠ .lost ∧ (s.core g).group = some q ∧ ((∀
      h, (s.core h).detour = none)) ∧ SMap.wf Core.dflt s.grant.cores = true ∧
      ({ (((s.stopCtxs g).setCoreSt g .lost).raise evCoreLost g) with deferred := (((s.stopCtxs g).setCoreSt g .lost).raise evCoreLost g).deferred.filter (fun p => match p.change with | .coreDetour h _ => h != g | _ => true) }).freeCore
      = some k) ∧
    (∃ (s : State) (g : Nat) (k : Nat) (d : Nat), (s.core g).st = .lost ∧ (s.core g).detour = some (k, d) ∧ (s.core
      k).st = .loading) ∧
    (∃ (s : State) (g : Nat), (s.core g).st ≠ .lost) ∧
    (∃ (s : State) (cls : Nat) (u : Nat), (s.health cls u).win < s.faultK cls) ∧
    (∃ (s : State) (cls : Nat) (u : Nat), cls ≤ 10 ∧ u < clsUnits cls ∧ s.faultK cls ≤ (s.health cls u).win ∧
      (s.health cls u).st = .active) ∧
    (∃ (s : State) (cls : Nat) (u : Nat) (m : Nat), cls ≤ 10 ∧ u < clsUnits cls ∧ (s.health cls u).openMsc = some m ∧
      m + s.faultW cls ≤ s.clk.msc ∧ (s.health cls u).win < s.faultK cls) ∧
    (∃ (s : State) (cls : Nat) (u : Nat) (m : Nat), (s.health cls u).openMsc = some m ∧ s.clk.msc < m + s.faultW cls) ∧
    (∃ (s : State) (die : Nat) (m : Nat), die < 6 ∧ m < 4 ∧ (s.module die m).lost = false) ∧
    (∃ (s : State) (die : Nat) (m : Nat), (s.module die m).lost = true) ∧
    (∃ (s : State) (die : Nat) (m : Nat) (r : Nat), die < 6 ∧ m < 4 ∧ (s.module die m).lost = false ∧ (if r = 0 then
      (s.module die m).repaired0 else (s.module die m).repaired1) < 4) ∧
    (∃ (s : State) (die : Nat) (m : Nat) (r : Nat), die < 6 ∧ m < 4 ∧ (s.module die m).lost = false ∧ (if r = 0 then
      (s.module die m).repaired0 else (s.module die m).repaired1) = 4) ∧
    (∃ (s : State) (die : Nat) (m : Nat), (s.module die m).lost = true) :=
  ⟨⟨wH, 3, by decide +kernel⟩,
   ⟨w0, 103, by decide +kernel, by decide +kernel, by decide +kernel, (w0_no_detour), by decide +kernel⟩,
   ⟨w0, 95, 95, 96, by decide +kernel, by decide +kernel, by decide +kernel, (w0_no_detour), by decide +kernel,
     by decide +kernel⟩,
   ⟨wH, 5, 96, 0, by decide +kernel⟩,
   ⟨wH, 0, by decide +kernel⟩,
   ⟨w0, 0, 0, by decide +kernel⟩,
   ⟨wH, 5, 1, by decide +kernel⟩,
   ⟨{ wH with clk := { wH.clk with msc := 2 ^ 40 } }, 5, 2, 1000, by decide +kernel⟩,
   ⟨wH, 5, 2, 1000, by decide +kernel⟩,
   ⟨w0, 5, 3, by decide +kernel⟩,
   ⟨w0.setModule 5 3 { lost := true }, 5, 3, by decide +kernel⟩,
   ⟨w0.setModule 5 3 { repaired0 := 4, repaired1 := 3 }, 5, 3, 1, by decide +kernel⟩,
   ⟨w0.setModule 5 3 { repaired1 := 4 }, 5, 3, 1, by decide +kernel⟩,
   ⟨w0.setModule 5 3 { lost := true }, 5, 3, by decide +kernel⟩⟩

/-- Hypotheses of `Obligations.KeyAndCipherCommands`. -/
theorem witness_KeyAndCipherCommands :
    (∃ (c : Desc) (s : State), Starts infoSetCipher c s ∧ c.dom = 0 ∧ (s.jrnStart c).isProtect (c.n0 / 2) = false ∧
      ((s.jrnStart c).sub c.n0).road = .disabled) ∧
    (∃ (c : Desc) (s : State), Starts infoSetCipher c s ∧ c.dom = 0 ∧ ((s.jrnStart c).sub c.n0).road ≠ .disabled) ∧
    (∃ (c : Desc) (s : State), Starts infoSetKeyPolicy c s ∧ c.dom = 0 ∧ (s.jrnStart c).isProtect (c.n0 / 2) = false) ∧
    (∃ (c : Desc) (s : State) (k : _), Starts infoInstallPonKey c s ∧ c.dom = 0 ∧ k = 131072 * (c.n0 % 4) + c.n0 / 4
      ∧ reused ((s.jrnStart c).keySlot k).prints c.inp = true) ∧
    (∃ (c : Desc) (s : State) (k : _), Starts infoInstallPonKey c s ∧ c.dom = 0 ∧ k = 131072 * (c.n0 % 4) + c.n0 / 4
      ∧ reused ((s.jrnStart c).keySlot k).prints c.inp = false) ∧
    (∃ (c : Desc) (s : State), Starts infoSwitchPonKey c s ∧ c.dom = 0 ∧ (s.jrnStart c).isProtect (c.n0 / 2) = false
      ∧ ((s.jrnStart c).keySlot (bcastSlot c.n0 c.n1)).key = none) ∧
    (∃ (c : Desc) (s : State) (k : _), Starts infoSwitchPonKey c s ∧ c.dom = 0 ∧ (s.jrnStart c).isProtect (c.n0 / 2)
      = false ∧ ((s.jrnStart c).keySlot (bcastSlot c.n0 c.n1)).key = some k) ∧
    (∃ (c : Desc) (s : State), Starts infoConfigSecy c s ∧ c.dom = 0 ∧ (s.jrnStart c).portSecured c.n0 = true) ∧
    (∃ (c : Desc) (s : State), Starts infoConfigSecy c s ∧ c.dom = 0 ∧ (s.jrnStart c).portSecured c.n0 = false) ∧
    (∃ (c : Desc) (s : State) (k : _) (x : _), Starts infoInstallSa c s ∧ leAt c.inp 0 2 < 1024 ∧ leAt c.inp 2 2 <
      2048 ∧ leAt c.inp 0x1C 4 = 0 ∧ leAt c.inp 0x48 8 = 0 ∧ k = saKey (leAt c.inp 0 2 % 128 / 64) (leAt c.inp 2 2) ∧
      x = readSaBlock c.inp c.dom ((s.jrnStart c).sa k).prints ∧ ((x.rx = true ∨ x.pn ≠ 0)) ∧ c.dom = 0 ∧
      ((((s.jrnStart c).sa k).inst = true → ((s.jrnStart c).sa k).dom = 0)) ∧ reused ((s.jrnStart c).sa k).prints
      x.key = true) ∧
    (∃ (c : Desc) (s : State) (k : _) (x : _), Starts infoInstallSa c s ∧ leAt c.inp 0 2 < 1024 ∧ leAt c.inp 2 2 <
      2048 ∧ leAt c.inp 0x1C 4 = 0 ∧ leAt c.inp 0x48 8 = 0 ∧ k = saKey (leAt c.inp 0 2 % 128 / 64) (leAt c.inp 2 2) ∧
      x = readSaBlock c.inp c.dom ((s.jrnStart c).sa k).prints ∧ x.rx = false ∧ x.pn ≠ 0 ∧ c.dom = 0 ∧ ((((s.jrnStart
      c).sa k).inst = true → ((s.jrnStart c).sa k).dom = 0)) ∧ reused ((s.jrnStart c).sa k).prints x.key = false ∧
      (s.jrnStart c).otherSa k x (fun y => y.sci != x.sci) = false ∧ (s.jrnStart c).otherSa k x (fun y => y.sci ==
      x.sci && y.an == x.an) = false) ∧
    (∃ (c : Desc) (s : State), Starts infoEnableSa c s ∧ ((s.jrnStart c).sa (saOf c)).inst = false) ∧
    (∃ (c : Desc) (s : State), Starts infoEnableSa c s ∧ ((s.jrnStart c).sa (saOf c)).inst = true ∧ ((s.jrnStart
      c).sa (saOf c)).dom = c.dom ∧ ((s.jrnStart c).sa (saOf c)).rx = false ∧ ((((s.jrnStart c).sa (saOf c)).st =
      saExhausted ∨ pnMax < ((s.jrnStart c).sa (saOf c)).pn))) ∧
    (∃ (c : Desc) (s : State) (j : _) (w : _), Starts infoEnableSa c s ∧ ((s.jrnStart c).sa (saOf c)).inst = true ∧
      ((s.jrnStart c).sa (saOf c)).dom = c.dom ∧ ((s.jrnStart c).sa (saOf c)).rx = false ∧ ((s.jrnStart c).sa (saOf
      c)).st ≠ saExhausted ∧ ((s.jrnStart c).sa (saOf c)).pn ≤ pnMax ∧ (s.jrnStart c).txSa ((s.jrnStart c).sa (saOf
      c)).port = some j ∧ j ≠ saOf c ∧ w = ((s.jrnStart c).setSa j
      { (s.jrnStart c).sa j with st := saStopped }).forgetExh ((s.jrnStart c).sa (saOf c)).port (fun _ => true)) ∧
    (∃ (c : Desc) (s : State), Starts infoEnableSa c s ∧ ((s.jrnStart c).sa (saOf c)).inst = true ∧ ((s.jrnStart
      c).sa (saOf c)).dom = c.dom ∧ ((s.jrnStart c).sa (saOf c)).rx = true) ∧
    (∃ (c : Desc) (s : State), Starts infoRemoveSa c s ∧ ((s.jrnStart c).sa (saOf c)).inst = true ∧ ((s.jrnStart
      c).sa (saOf c)).dom = c.dom) ∧
    (∃ (c : Desc) (s : State), Starts infoRemoveSa c s ∧ ((s.jrnStart c).sa (saOf c)).inst = true ∧ ((s.jrnStart
      c).sa (saOf c)).dom ≠ c.dom) ∧
    (∃ (c : Desc) (s : State), Starts infoReadSa c s ∧ ((s.jrnStart c).sa (saOf c)).inst = true ∧ ((s.jrnStart c).sa
      (saOf c)).dom = c.dom) ∧
    (∃ (c : Desc) (s : State), Starts infoRekeyTerminal c s ∧ ((s.jrnStart c).term (c.n0 % 2 ^ 16) (c.n0 / 2 ^
      16)).act = .operation ∧ ((s.jrnStart c).term (c.n0 % 2 ^ 16) (c.n0 / 2 ^ 16)).dom = c.dom ∧ (s.jrnStart
      c).isProtect (c.n0 % 2 ^ 16 / 2) = false ∧ (s.jrnStart c).underTest (c.n0 % 2 ^ 16) (c.n0 / 2 ^ 16) = false) ∧
    (∃ (c : Desc) (s : State), Starts infoRekeyTerminal c s ∧ ((s.jrnStart c).term (c.n0 % 2 ^ 16) (c.n0 / 2 ^
      16)).act = .free) :=
  ⟨⟨cmd infoSetCipher.op [4, 1], wP, starts_of (by decide +kernel), by decide +kernel⟩,
   ⟨cmd infoSetCipher.op [0, 1], wP, starts_of (by decide +kernel), by decide +kernel⟩,
   ⟨cmd infoSetKeyPolicy.op [383, 60], wP, starts_of (by decide +kernel), by decide +kernel⟩,
   ⟨cmd infoInstallPonKey.op [393216] (List.replicate 16 1), wK, _, starts_of (by decide +kernel), by decide +kernel,
     rfl, reused_self (List.replicate 16 1)⟩,
   ⟨cmd infoInstallPonKey.op [393220] (List.replicate 16 1), wK, _, starts_of (by decide +kernel), by decide +kernel,
     rfl, by decide +kernel⟩,
   ⟨cmd infoSwitchPonKey.op [0, 1], wK, starts_of (by decide +kernel), by decide +kernel⟩,
   ⟨cmd infoSwitchPonKey.op [1, 1], wK, [1], starts_of (by decide +kernel), by decide +kernel⟩,
   ⟨cmd infoConfigSecy.op [5, 0], wK, starts_of (by decide +kernel), by decide +kernel⟩,
   ⟨cmd infoConfigSecy.op [127, 0], wK, starts_of (by decide +kernel), by decide +kernel⟩,
   ⟨cmd infoInstallSa.op [] (saBlk 128 1 0), wK, _, _, starts_of (by decide +kernel), by decide +kernel,
     by decide +kernel, by decide +kernel, by decide +kernel, rfl, rfl, by decide +kernel, by decide +kernel,
     by decide +kernel, reused_self (List.replicate 32 0)⟩,
   ⟨cmd infoInstallSa.op [] (saBlk 9 2 1), wK, _, _, starts_of (by decide +kernel), by decide +kernel,
     by decide +kernel, by decide +kernel, by decide +kernel, rfl, rfl, by decide +kernel, by decide +kernel,
     by decide +kernel, by decide +kernel, by decide +kernel, by decide +kernel, by decide +kernel⟩,
   ⟨cmd infoEnableSa.op [4094], wK, starts_of (by decide +kernel), by decide +kernel⟩,
   ⟨cmd infoEnableSa.op [6], wK, starts_of (by decide +kernel), by decide +kernel⟩,
   ⟨cmd infoEnableSa.op [10], wK, 4, _, starts_of (by decide +kernel), by decide +kernel, by decide +kernel,
     by decide +kernel, by decide +kernel, by decide +kernel, by decide +kernel, by decide +kernel, rfl⟩,
   ⟨cmd infoEnableSa.op [12], wK, starts_of (by decide +kernel), by decide +kernel⟩,
   ⟨cmd infoRemoveSa.op [8], wK, starts_of (by decide +kernel), by decide +kernel⟩,
   ⟨cmd infoRemoveSa.op [14], wK, starts_of (by decide +kernel), by decide +kernel⟩,
   ⟨cmdOut infoReadSa.op  [8] 32, wK, starts_of (by decide +kernel), by decide +kernel⟩,
   ⟨cmd infoRekeyTerminal.op [262144], wK, starts_of (by decide +kernel), by decide +kernel⟩,
   ⟨cmd infoRekeyTerminal.op [589824], wK, starts_of (by decide +kernel), by decide +kernel⟩⟩

/-- Hypotheses of `Obligations.KeyExchangeAndChunks`. -/
theorem witness_KeyExchangeAndChunks :
    (∃ (s : State) (sc : Nat) (t : Nat), (s.kex sc t).openMiss = none) ∧
    (∃ (s : State) (sc : Nat) (t : Nat) (n : Nat), (s.kex sc t).openMiss = some n ∧ (s.term sc t).act = .operation ∧
      (s.kex sc t).full = true) ∧
    (∃ (s : State) (sc : Nat) (t : Nat) (n : Nat) (k : List Nat), (s.kex sc t).openMiss = some n ∧ (s.term sc t).act
      = .operation ∧ (s.kex sc t).full = false ∧ reused (s.keySlot (uniSlot sc t (s.kex sc t).other)).prints k =
      true) ∧
    (∃ (s : State) (sc : Nat) (t : Nat) (n : Nat) (k : List Nat), (s.kex sc t).openMiss = some n ∧ (s.term sc t).act
      = .operation ∧ (s.kex sc t).full = false ∧ (s.term sc t).dom = 0 ∧ reused (s.keySlot (uniSlot sc t (s.kex sc
      t).other)).prints k = false) ∧
    (∃ (s : State) (sc : Nat) (t : Nat), s.clk.msc + (s.kex sc t).stag % (8000 * (s.subCph sc).rekeyS) < (s.kex sc
      t).started + (8000 * (s.subCph sc).rekeyS)) ∧
    (∃ (s : State) (sc : Nat) (t : Nat), (s.kex sc t).started + (8000 * (s.subCph sc).rekeyS) ≤ s.clk.msc + (s.kex sc
      t).stag % (8000 * (s.subCph sc).rekeyS) ∧ (s.term sc t).act = .operation ∧ (s.kex sc t).openMiss = none ∧
      s.standby = false) ∧
    (∃ (s : State) (sc : Nat) (t : Nat) (n : Nat), (s.kex sc t).openMiss = some n ∧ (s.term sc t).act = .operation ∧
      (s.kex sc t).started + 800 ≤ s.clk.msc ∧ n < 2) ∧
    (∃ (s : State) (sc : Nat) (t : Nat), (s.kex sc t).openMiss = some 2 ∧ (s.term sc t).act = .operation ∧ (s.kex sc
      t).started + 800 ≤ s.clk.msc) ∧
    (∃ (s : State) (q : ChunkReq), s.chunkOk q = true ∧ q.trunk = false ∧ (q.block = 0 ∨ s.cph.cut.get false (chunkId
      q) = false) ∧ (s.keySlot (131072 * q.die + q.slot)).key = none) ∧
    (∃ (s : State) (q : ChunkReq), q.block ≠ 0 ∧ s.cph.cut.get false (chunkId q) = true) ∧
    (∃ (s : State) (q : ChunkReq) (k : List Nat), s.chunkOk q = true ∧ q.trunk = false ∧ (s.keySlot (131072 * q.die +
      q.slot)).key = some k ∧ q.block = 0 ∧ q.retry = none) ∧
    (∃ (s : State) (q : ChunkReq) (k : List Nat) (u : Nat), s.chunkOk q = true ∧ q.trunk = false ∧ (s.keySlot (131072
      * q.die + q.slot)).key = some k ∧ q.block ≠ 0 ∧ s.cph.cut.get false (chunkId q) = false ∧ q.retry = some (u,
      true)) ∧
    (∃ (s : State) (q : ChunkReq), s.chunkOk q = true ∧ q.trunk = true ∧ (q.block = 0 ∨ s.cph.cut.get false (chunkId
      q) = false) ∧ 200000 * s.cphUnits 4 q.die UnitSt.inService < 15 * (s.cph.macLoad.get 0 q.die + chunkCost q)) ∧
    (∃ (s : State) (u : Nat), (s.health 3 u).st = .retired) ∧
    (∃ (s : State) (u : Nat), u < 1408 ∧ (s.health 3 u).st = .spare ∧ ((s.health 3 u).testMsc = 0 ∨ (s.health 3
      u).testMsc + s.katPeriod ≤ s.clk.msc)) :=
  ⟨⟨wK, 0, 1, by decide +kernel⟩,
   ⟨wK.setKex 0 4 { openMiss := some 1, zeroAt := some (1100, 1) }, 0, 4, 1, by decide +kernel⟩,
   ⟨wK, 0, 4, 1, (List.replicate 16 1), by decide +kernel, by decide +kernel, by decide +kernel, reused_self
     (List.replicate 16 1)⟩,
   ⟨wK, 0, 7, 2, [2], by decide +kernel⟩,
   ⟨wK, 0, 4, by decide +kernel⟩,
   ⟨{ wP with clk := { wP.clk with msc := 28800000 } }, 0, 4, by decide +kernel⟩,
   ⟨wK, 0, 4, 1, by decide +kernel⟩,
   ⟨wK, 0, 7, by decide +kernel⟩,
   ⟨wK, ⟨false, 0, 0, 98304, false, 0, 0, [], none⟩, by decide +kernel⟩,
   ⟨wK.modCph (fun c => { c with cut := [(196612, true)] }), ⟨false, 0, 0, 98306, false, 0, 64, [], none⟩,
     by decide +kernel⟩,
   ⟨wK, ⟨false, 0, 0, 98306, false, 0, 0, [], none⟩, [1], by decide +kernel⟩,
   ⟨wK, ⟨false, 0, 0, 98306, false, 0, 64, [], some (7, true)⟩, [1], 7, by decide +kernel⟩,
   ⟨wK.modCph (fun c => { c with macLoad := [(0, 200000 * 1024)] }), ⟨true, 0, 0, 4, false, 0, 0, [], none⟩,
     by decide +kernel⟩,
   ⟨wH.setHealth 3 0 { st := .retired }, 0, by decide +kernel⟩,
   ⟨w0, 336, by decide +kernel⟩⟩

/-- Hypotheses of `Obligations.SchedulingCommandsAndDequeue`. -/
theorem witness_SchedulingCommandsAndDequeue :
    (∃ (c : Desc) (s : State), Starts infoSetFlowSched c s ∧ ((s.jrnStart c).flow c.n0).inst = true ∧ ((s.jrnStart
      c).flow c.n0).dom = c.dom) ∧
    (∃ (c : Desc) (s : State), Starts infoSetFlowSched c s ∧ ((s.jrnStart c).flow c.n0).inst = false) ∧
    (∃ (c : Desc) (s : State), Starts infoSetNodeSched c s ∧ qKind c = 1 ∧ (s.jrnStart c).qObj 1 (qIdx c) = (true,
      c.dom)) ∧
    (∃ (c : Desc) (s : State), Starts infoSetNodeSched c s ∧ qKind c = 2 ∧ (s.jrnStart c).qObj 2 (qIdx c) = (true,
      c.dom)) ∧
    (∃ (c : Desc) (s : State), Starts infoSetNodeSched c s ∧ qKind c = 3 ∧ (s.jrnStart c).qObj 3 (qIdx c) = (true,
      c.dom)) ∧
    (∃ (c : Desc) (s : State) (d : _), Starts infoSetNodeSched c s ∧ (s.jrnStart c).qObj (qKind c) (qIdx c) = (false,
      d)) ∧
    (∃ (c : Desc) (s : State) (i : _), Starts infoSetPolicer c s ∧ i = c.n0 % 2 ^ 20 ∧ ((s.jrnStart c).flow i).inst =
      true ∧ ((s.jrnStart c).flow i).dom = c.dom ∧ 2 ^ 31 ≤ c.n0 ∧ ((s.jrnStart c).data.polS.get {} i).enabled =
      false) ∧
    (∃ (c : Desc) (s : State) (i : _) (p : _), Starts infoSetPolicer c s ∧ i = c.n0 % 2 ^ 20 ∧ p = (s.jrnStart
      c).data.polS.get {} i ∧ ((s.jrnStart c).flow i).inst = true ∧ ((s.jrnStart c).flow i).dom = c.dom ∧ 2 ^ 31 ≤
      c.n0 ∧ p.enabled = true) ∧
    (∃ (c : Desc) (s : State), Starts infoSetPortSched c s ∧ c.dom = 0) ∧
    (∃ (c : Desc) (s : State), Starts infoSetPortSched c s ∧ c.dom ≠ 0) ∧
    (∃ (c : Desc) (s : State), Starts infoSetGateList c s ∧ c.dom = 0 ∧ ((s.jrnStart c).port c.n0).pend = none) ∧
    (∃ (c : Desc) (s : State) (p : _), Starts infoSetGateList c s ∧ c.dom = 0 ∧ ((s.jrnStart c).port c.n0).pend =
      some p) ∧
    (∃ (c : Desc) (s : State), Starts (infoReadQueue c) c s ∧ c.n1 = 0 ∧ (s.jrnStart c).qObj (qKind c) (qIdx c) =
      (true, c.dom)) ∧
    (∃ (c : Desc) (s : State) (w : _), Starts (infoReadQueue c) c s ∧ c.n1 = 1 ∧ (s.jrnStart c).qObj 0 (qIdx c) =
      (true, c.dom) ∧ qKind c = 0 ∧ w = (s.jrnStart c).outBuf c ((s.jrnStart c).queueBytes 0 (qIdx c))) ∧
    (∃ (s : State) (pt : Nat) (i : Nat), (pt < 384 ∨ (512 ≤ pt ∧ pt < 640)) ∧ (s.look pt).select pt = some i ∧
      s.standby = false) ∧
    (∃ (s : State) (pt : Nat), (pt < 384 ∨ (512 ≤ pt ∧ pt < 640)) ∧ (s.look pt).select pt = none ∧ s.standby = false) ∧
    (∃ (pt : Nat), (pt < 384 ∨ (512 ≤ pt ∧ pt < 640))) ∧
    (∃ (pt : Nat), 640 ≤ pt) ∧
    (∃ (s : State) (pt : Nat) (ts : Nat) (l : Option GateList), (s.port pt).pend = some (ts, l) ∧ ts ≤ s.devNs) ∧
    (∃ (s : State) (pt : Nat) (ts : Nat) (l : Option GateList), (s.port pt).pend = some (ts, l) ∧ s.devNs < ts) ∧
    (∃ (s : State) (f : Nat), s.data.samplerOn = true ∧ s.clk.running = true ∧ f < 16384 ∧ s.clk.cycle = 4000 + 12 *
      f ∧ (s.flow (16384 * (s.clk.msc % 64) + f)).inst = true) ∧
    (∃ (s : State) (q : Nat), s.data.samplerOn = true ∧ s.clk.running = true ∧ q < 1024 ∧ s.clk.cycle = 4006 + 12 * q
      ∧ s.classThere (1024 * (s.clk.msc % 64) + q) = true) ∧
    (∃ (s : State), (s.data.samplerOn = false ∨ s.clk.cycle < 4000 ∨ (s.clk.cycle - 4000) % 6 ≠ 0)) :=
  ⟨⟨cmd infoSetFlowSched.op [0] schBlk, wF, starts_of (by decide +kernel), by decide +kernel⟩,
   ⟨cmd infoSetFlowSched.op [9] schBlk, wF, starts_of (by decide +kernel), by decide +kernel⟩,
   ⟨cmd infoSetNodeSched.op [1073741824 + 4] schBlk, wQ, starts_of (by decide +kernel), by decide +kernel⟩,
   ⟨cmd infoSetNodeSched.op [2147483648] schBlk, wQ, starts_of (by decide +kernel), by decide +kernel⟩,
   ⟨cmd infoSetNodeSched.op [3221225472] schBlk, wQ, starts_of (by decide +kernel), by decide +kernel⟩,
   ⟨cmd infoSetNodeSched.op [1073741824 + 9] schBlk, wQ, (((wQ).jrnStart (cmd infoSetNodeSched.op [1073741824 + 9]
     schBlk)).qObj (qKind (cmd infoSetNodeSched.op [1073741824 + 9] schBlk)) (qIdx (cmd infoSetNodeSched.op
     [1073741824 + 9] schBlk))).2, starts_of (by decide +kernel), pair_of (by decide +kernel)⟩,
   ⟨cmd infoSetPolicer.op [2147483648, 1, 2, 64, 64], wQ, _, starts_of (by decide +kernel), rfl, by decide +kernel,
     by decide +kernel, by decide +kernel, by decide +kernel⟩,
   ⟨cmd infoSetPolicer.op [2147483649, 1, 2, 64, 64], wQ.setFlow 1 { inst := true }, _, _, starts_of
     (by decide +kernel), rfl, rfl, by decide +kernel, by decide +kernel, by decide +kernel, by decide +kernel⟩,
   ⟨cmd infoSetPortSched.op [639, 255], w0, starts_of (by decide +kernel), by decide +kernel⟩,
   ⟨cmd infoSetPortSched.op [639, 255] [] 2, wDm, starts_of (by decide +kernel), by decide +kernel⟩,
   ⟨cmd infoSetGateList.op [383] (List.replicate 16 0), wQ, starts_of (by decide +kernel), by decide +kernel⟩,
   ⟨cmd infoSetGateList.op [512] (List.replicate 16 0), wQ, (5, none), starts_of (by decide +kernel),
     by decide +kernel⟩,
   ⟨cmdOut 0x0415 [0, 0] 96, wQ, starts_of (by decide +kernel), by decide +kernel⟩,
   ⟨cmdOut 0x0415 [0, 1] 96, wQ, _, starts_of (by decide +kernel), by decide +kernel, by decide +kernel,
     by decide +kernel, rfl⟩,
   ⟨wQ, 0, 0, by decide +kernel⟩,
   ⟨wQ, 639, by decide +kernel⟩,
   ⟨383, by decide +kernel⟩,
   ⟨640, by decide +kernel⟩,
   ⟨wQ.modTime (fun t => { t with dev := 5 * 65536 }), 512, 5, none, by decide +kernel⟩,
   ⟨wQ, 512, 5, none, by decide +kernel⟩,
   ⟨{ wQ with clk := { wQ.clk with cycle := 200596 } }, 16383, by decide +kernel⟩,
   ⟨{ wQ with clk := { wQ.clk with cycle := 16282 } }, 1023, by decide +kernel⟩,
   ⟨w0, by decide +kernel⟩⟩

/-- Hypotheses of `Obligations.DomainCommands`. -/
theorem witness_DomainCommands :
    (∃ (c : Desc) (s : State), Starts infoOpenDomain c s ∧ c.n0 ≤ (s.jrnStart c).host.numVfs ∧ ((s.jrnStart c).domE
      c.n0).road = .disabled) ∧
    (∃ (c : Desc) (s : State), Starts infoOpenDomain c s ∧ c.n0 ≤ (s.jrnStart c).host.numVfs ∧ (((s.jrnStart c).domE
      c.n0).road = .enabled ∨ ((s.jrnStart c).domE c.n0).road = .resuming)) ∧
    (∃ (c : Desc) (s : State), Starts infoOpenDomain c s ∧ (s.jrnStart c).host.numVfs < c.n0) ∧
    (∃ (c : Desc) (s : State) (e : _), Starts infoOpenDomain c s ∧ c.n0 ≤ (s.jrnStart c).host.numVfs ∧ ((s.jrnStart
      c).domE c.n0).road = .draining ∧ (s.jrnStart c).resolveE none c = .ok e) ∧
    (∃ (c : Desc) (s : State) (e : _), Starts infoTeardownDomain c s ∧ ((s.jrnStart c).domE c.n0).road = .enabled ∧
      ((s.jrnStart c).domE c.n0).teardownE = none ∧ (s.jrnStart c).resolveE none c = .ok e ∧ (s.jrnStart c).pendRoom
      = true) ∧
    (∃ (c : Desc) (s : State), Starts infoTeardownDomain c s ∧ ((s.jrnStart c).domE c.n0).road = .disabled) ∧
    (∃ (c : Desc) (s : State), Starts infoTeardownDomain c s ∧ (((s.jrnStart c).domE c.n0).road = .draining ∨
      ((s.jrnStart c).domE c.n0).road = .resuming)) :=
  ⟨⟨cmd infoOpenDomain.op [1], wDm, starts_of (by decide +kernel), by decide +kernel⟩,
   ⟨cmd infoOpenDomain.op [4], wDm, starts_of (by decide +kernel), by decide +kernel⟩,
   ⟨cmd infoOpenDomain.op [7], wDm, starts_of (by decide +kernel), by decide +kernel⟩,
   ⟨cmd infoOpenDomain.op [3], wDm, (((wDm).jrnStart (cmd infoOpenDomain.op [3])).resolveE none (cmd
     infoOpenDomain.op [3])).toOption.getD 0, starts_of (by decide +kernel), by decide +kernel⟩,
   ⟨cmd infoTeardownDomain.op [2, 1], wDm, (((wDm).jrnStart (cmd infoTeardownDomain.op [2, 1])).resolveE none (cmd
     infoTeardownDomain.op [2, 1])).toOption.getD 0, starts_of (by decide +kernel), by decide +kernel⟩,
   ⟨cmd infoTeardownDomain.op [1], wDm, starts_of (by decide +kernel), by decide +kernel⟩,
   ⟨cmd infoTeardownDomain.op [3], wDm, starts_of (by decide +kernel), by decide +kernel⟩⟩

/-- Hypotheses of `Obligations.BufferPoolsAndWindows`. -/
theorem witness_BufferPoolsAndWindows :
    (∃ (c : Desc) (s : State) (a : _) (n : _) (i : _), Starts infoRegisterWindow c s ∧ a = pair64 c.p0 c.p1 ∧ n =
      pair64 c.p2 c.p3 ∧ i < 16 ∧ ((s.jrnStart c).domE c.dom).windows.any (fun w => w.1 == i) = false ∧ ((s.jrnStart
      c).domE c.dom).windows.any (fun w => decide (a < w.2.1 + w.2.2 ∧ w.2.1 < a + n)) = true) ∧
    (∃ (c : Desc) (s : State), Starts infoRegisterWindow c s ∧ ((∀ i < 16, ((s.jrnStart c).domE c.dom).windows.any
      (fun w => w.1 == i) = true))) ∧
    (∃ (c : Desc) (s : State) (a : _) (n : _) (x : _) (i : _), Starts infoRegisterWindow c s ∧ a = pair64 c.p0 c.p1 ∧
      n = pair64 c.p2 c.p3 ∧ x = (s.jrnStart c).domE c.dom ∧ x.windows.any (fun w => decide (a < w.2.1 + w.2.2 ∧
      w.2.1 < a + n)) = false ∧ i < 16 ∧ x.windows.any (fun w => w.1 == i) = false ∧ ((∀ j < i, x.windows.any (fun w
      => w.1 == j) = true))) ∧
    (∃ (c : Desc) (s : State), Starts infoRemoveWindow c s ∧ ((s.jrnStart c).domE c.dom).windows.find? (fun w =>
      w.2.1 == pair64 c.p0 c.p1) = none) ∧
    (∃ (c : Desc) (s : State) (w : _) (p : _) (a : _), Starts infoRemoveWindow c s ∧ ((s.jrnStart c).domE
      c.dom).windows.find? (fun w => w.2.1 == pair64 c.p0 c.p1) = some w ∧ p ∈ [4, 5, 6, 7] ∧ a ∈ (((s.jrnStart
      c).domE c.dom).hpool p).posts ∧ w.2.1 ≤ a ∧ a < w.2.1 + w.2.2) ∧
    (∃ (c : Desc) (s : State) (w : _), Starts infoRemoveWindow c s ∧ ((s.jrnStart c).domE c.dom).windows.find? (fun w
      => w.2.1 == pair64 c.p0 c.p1) = some w ∧ ((∀ p ∈ [4, 5, 6, 7], (((s.jrnStart c).domE c.dom).hpool p).posts =
      []))) ∧
    (∃ (c : Desc) (s : State), Starts infoSetHostPool c s ∧ (((s.jrnStart c).domE c.dom).hpool c.n0).posts = []) ∧
    (∃ (c : Desc) (s : State), Starts infoSetHostPool c s ∧ (((s.jrnStart c).domE c.dom).hpool c.n0).posts ≠ []) ∧
    (∃ (c : Desc) (s : State) (h : _), Starts infoPostBuffers c s ∧ h = ((s.jrnStart c).domE c.dom).hpool c.n0 ∧ ((∀
      a ∈ addrsOf c, a % 64 = 0 ∧ (s.jrnStart c).inWindow c.dom a h.size = true)) ∧ h.size ≠ 0 ∧ h.posts.length +
      (addrsOf c).length ≤ 4096) ∧
    (∃ (c : Desc) (s : State) (h : _), Starts infoPostBuffers c s ∧ h = ((s.jrnStart c).domE c.dom).hpool c.n0 ∧ ((∀
      a ∈ addrsOf c, a % 64 = 0 ∧ (s.jrnStart c).inWindow c.dom a h.size = true)) ∧ h.size ≠ 0 ∧ 4096 <
      h.posts.length + (addrsOf c).length) ∧
    (∃ (c : Desc) (s : State) (i : _), Starts infoPostBuffers c s ∧ (addrsOf c).findIdx? (fun a => !(a % 64 == 0 &&
      (((s.jrnStart c).domE c.dom).hpool c.n0).size != 0 && (s.jrnStart c).inWindow c.dom a (((s.jrnStart c).domE
      c.dom).hpool c.n0).size)) = some i) ∧
    (∃ (c : Desc) (s : State) (h : _), Starts infoReclaimBuffers c s ∧ h = ((s.jrnStart c).domE c.dom).hpool c.n0) ∧
    (∃ (c : Desc) (s : State), Starts infoSetPoolLayout c s ∧ c.dom = 0) ∧
    (∃ (c : Desc) (s : State), Starts infoSetPoolLayout c s ∧ c.dom ≠ 0) ∧
    (∃ (c : Desc) (s : State), Starts infoGrowPool c s ∧ c.dom = 0 ∧ (s.jrnStart c).buf.unassigned < c.n1) ∧
    (∃ (c : Desc) (s : State), Starts infoGrowPool c s ∧ c.dom = 0 ∧ c.n1 ≤ (s.jrnStart c).buf.unassigned) ∧
    (∃ (c : Desc) (s : State), Starts infoGrowPool c s ∧ c.dom ≠ 0) ∧
    (∃ (c : Desc) (s : State) (x : _), Starts infoReadPools c s ∧ x = (s.jrnStart c).domE c.dom) ∧
    (∃ (s : State) (acc : Nat) (p : Nat) (g : Nat), s.buf.grow.find? (fun g => g.1 == acc) = some (acc, p, g)) ∧
    (∃ (s : State) (acc : Nat), s.buf.grow.find? (fun g => g.1 == acc) = none) ∧
    (∃ (s : State) (p : Nat) (k : Nat), p < 4 ∧ k < 17 ∧ ((s.pool p).caches.get [] k).length < s.cacheRefill) ∧
    (∃ (s : State) (p : Nat) (k : Nat), s.cacheRefill ≤ ((s.pool p).caches.get [] k).length) ∧
    (∃ (s : State), (s.pool 0).size ≤ 134217728) ∧
    (∃ (s : State), 134217728 < (s.pool 0).size) ∧
    (∃ (st : Nat) (pc : Nat), st < 8 ∧ pc < 32) ∧
    (∃ (s : State) (st : Nat) (pc : Nat) (b : Nat), st < 8 ∧ pc < 32 ∧ (s.countError 5 (32 * st + pc)).listOfPc (32 *
      st + pc) = some (b % s.buf.nlists)) ∧
    (∃ (s : State) (st : Nat) (pc : Nat) (v : Nat) (j : Nat), st < 8 ∧ pc < 32 ∧ s.buf.copies.find? (fun c => c.1 ==
      32 * st + pc) = some (32 * st + pc, v) ∧ s.listOfPc (32 * st + pc) = some j) ∧
    (∃ (s : State) (st : Nat) (pc : Nat), s.buf.copies.find? (fun c => c.1 == 32 * st + pc) = none) :=
  ⟨⟨cmd infoRegisterWindow.op [4096, 0, 4096, 0] [] 2, wDm, _, _, 1, starts_of (by decide +kernel), rfl, rfl,
  by decide +kernel, by decide +kernel, by decide +kernel⟩,
   ⟨cmd infoRegisterWindow.op [1048576, 0, 4096, 0] [] 5, wDm, starts_of (by decide +kernel), by decide +kernel⟩,
   ⟨cmd infoRegisterWindow.op [8192, 0, 4096, 0] [] 2, wDn, _, _, _, 1, starts_of (by decide +kernel), rfl, rfl, rfl,
     by decide +kernel, by decide +kernel, by decide +kernel, by decide +kernel⟩,
   ⟨cmd infoRemoveWindow.op [1048576] [] 2, wDm, starts_of (by decide +kernel), by decide +kernel⟩,
   ⟨cmd infoRemoveWindow.op [4096] [] 2, wDm, (0, 4096, 4096), 4, 4096, starts_of (by decide +kernel),
     by decide +kernel⟩,
   ⟨cmd infoRemoveWindow.op [4096] [] 6, wDn, (0, 4096, 4096), starts_of (by decide +kernel), by decide +kernel⟩,
   ⟨cmd infoSetHostPool.op [5, 65536] [] 2, wDm, starts_of (by decide +kernel), by decide +kernel⟩,
   ⟨cmd infoSetHostPool.op [4, 64] [] 2, wDm, starts_of (by decide +kernel), by decide +kernel⟩,
   ⟨cmd infoPostBuffers.op [5] (leBytes 8 8064) 2, wDm, _, starts_of (by decide +kernel), rfl, by decide +kernel,
     by decide +kernel, by decide +kernel⟩,
   ⟨cmd infoPostBuffers.op [4] (leBytes 8 0) 5, wDm, _, starts_of (by decide +kernel), rfl, by decide +kernel,
     by decide +kernel, by decide +kernel⟩,
   ⟨cmd infoPostBuffers.op [5] (leBytes 8 8128) 2, wDm, 0, starts_of (by decide +kernel), by decide +kernel⟩,
   ⟨cmdOut infoReclaimBuffers.op  [4] 32768, w0, _, starts_of (by decide +kernel), rfl⟩,
   ⟨cmd infoSetPoolLayout.op [16, 536870936, 805306400, 1342177310], w0, starts_of (by decide +kernel),
     by decide +kernel⟩,
   ⟨cmd infoSetPoolLayout.op [16, 536870936, 805306400, 1342177310] [] 2, wDm, starts_of (by decide +kernel),
     by decide +kernel⟩,
   ⟨cmd infoGrowPool.op [0, 17], w0, starts_of (by decide +kernel), by decide +kernel⟩,
   ⟨cmd infoGrowPool.op [0, 16], w0, starts_of (by decide +kernel), by decide +kernel⟩,
   ⟨cmd infoGrowPool.op [0, 16] [] 2, wDm, starts_of (by decide +kernel), by decide +kernel⟩,
   ⟨cmdOut infoReadPools.op  [] 64, w0, _, starts_of (by decide +kernel), rfl⟩,
   ⟨{ w0 with buf := { w0.buf with grow := [(9, 0, 1)] } }, 9, 0, 1, by decide +kernel⟩,
   ⟨w0, 9, by decide +kernel⟩,
   ⟨w0, 3, 16, by decide +kernel⟩,
   ⟨w0.setPool 0 { w0.pool 0 with caches := [(16, List.replicate 64 0)] }, 0, 16, by decide +kernel⟩,
   ⟨w0, by decide +kernel⟩,
   ⟨w0.setPool 0 { w0.pool 0 with size := 134217729 }, by decide +kernel⟩,
   ⟨7, 31, by decide +kernel⟩,
   ⟨w0, 0, 0, 0, by decide +kernel⟩,
   ⟨{ w0 with buf := { w0.buf with copies := [(0, 30)] } }, 0, 0, 30, 0, by decide +kernel⟩,
   ⟨w0, 0, 0, by decide +kernel⟩⟩

/-- Hypotheses of `Obligations.RingsAcceptAndPost`. -/
theorem witness_RingsAcceptAndPost :
    (∃ (s : State) (r : Nat) (v : W32), (s.ring r).st = .running ∧ (v - (s.ring r).dhead).toNat ≤ 2 ^ (s.ring
      r).log2) ∧
    (∃ (s : State) (r : Nat) (v : W32), (s.ring r).st = .running ∧ 2 ^ (s.ring r).log2 < (v - (s.ring
      r).dhead).toNat) ∧
    (∃ (s : State) (r : Nat), (s.ring r).st ≠ .running) ∧
    (∃ (s : State) (r : Nat) (v : W32), ((s.ring r).st = .running ∨ (s.ring r).st = .stopping) ∧ 2 ^ (s.ring r).log2
      < ((s.ring r).cplTail - v).toNat) ∧
    (∃ (s : State) (r : Nat) (v : W32), ((s.ring r).cplTail - v).toNat ≤ 2 ^ (s.ring r).log2) ∧
    (∃ (s : State) (r : Nat), s.stage = 6 ∧ r < 1009 ∧ (ringFn r = 0 ∨ ringJ r < (s.domE (ringFn r)).quota.rings) ∧
      (s.ring r).st = .disabled) ∧
    (∃ (s : State) (r : Nat), s.stage = 6 ∧ 64 ≤ r ∧ r < 1009 ∧ (s.domE (ringFn r)).quota.rings ≤ ringJ r) ∧
    (∃ (s : State) (r : Nat), s.stage = 6 ∧ r < 1009 ∧ (ringFn r = 0 ∨ ringJ r < (s.domE (ringFn r)).quota.rings) ∧
      (s.ring r).st = .stopping) ∧
    (∃ (s : State) (r : Nat), s.stage = 6 ∧ r < 1009 ∧ (ringFn r = 0 ∨ ringJ r < (s.domE (ringFn r)).quota.rings) ∧
      (s.ring r).st = .restored) ∧
    (∃ (s : State) (r : Nat), (s.ring r).st = .running) ∧
    (∃ (s : State) (r : Nat), (s.ring r).st = .faulted) ∧
    (∃ (s : State) (r : Nat), ((s.ring r).st = .disabled ∨ (s.ring r).st = .restored)) ∧
    (∃ (s : State) (r : Nat), (s.ring r).st = .stopping ∧ (s.ring r).cdone = (s.ring r).dhead ∧ (s.ring r).heldEnable
      = false) ∧
    (∃ (s : State) (r : Nat), (s.ring r).st = .stopping ∧ (s.ring r).cdone = (s.ring r).dhead ∧ (s.ring r).heldEnable
      = true) ∧
    (∃ (s : State) (r : Nat), (s.ring r).cdone ≠ (s.ring r).dhead) ∧
    (∃ (s : State) (r : Nat) (d : Desc), SMap.wf (fun _ => ({} : Ring)) s.host.rings = true ∧ (s.ring r).st =
      .running ∧ s.bit (pwrA 0xC) 0 = false ∧ s.bit (cmdA 0x0) 0 = true ∧ (s.ring r).tail = (s.ring r).dhead + 1#32 ∧
      d.seq = (s.ring r).dhead ∧ d.inp = [] ∧ inputOp d.opcode = false ∧ knownOp d.opcode = true ∧ d.opcode ≠ 0x0902
      ∧ s.bit (cmdA 0x0) 2 = false ∧ s.bit (cmdA 0x0) 3 = false ∧ s.jrnBlocks + 3 ≤ 262144) ∧
    (∃ (s : State) (r : Nat) (d : Desc), (s.ring r).st = .running ∧ s.bit (pwrA 0xC) 0 = false ∧ s.bit (cmdA 0x0) 0 =
      true ∧ (s.ring r).tail ≠ (s.ring r).dhead ∧ d.seq ≠ (s.ring r).dhead ∧ s.jrnBlocks ≤ 262144) ∧
    (∃ (s : State) (r : Nat), (s.ring r).st = .disabled) ∧
    (∃ (s : State) (r : Nat) (c : Cpl), (s.ring r).st = .running ∧ s.cplFull r = false ∧ (s.ring r).irqEn = false ∧
      s.host.cpls.find? (fun c => c.ring == r) = some c ∧ c.receive = true) ∧
    (∃ (s : State) (r : Nat) (c : Cpl), (s.ring r).st = .running ∧ s.cplFull r = false ∧ (s.ring r).irqEn = false ∧
      s.host.cpls.find? (fun c => c.ring == r) = some c ∧ c.receive = false) ∧
    (∃ (s : State) (r : Nat), s.cplFull r = true) ∧
    (∃ (s : State) (r : Nat) (c : Cpl), (s.ring r).st = .running ∧ s.cplFull r = false ∧ s.host.cpls.find? (fun c =>
      c.ring == r) = some c) ∧
    (∃ (s : State), s.bit (cmdA 0x0) 3 = true) ∧
    (∃ (s : State), s.bit (cmdA 0x0) 3 = false) ∧
    (∃ (s : State) (fn : Nat) (v : Nat), (s.vec fn v).waiting = true ∧ (s.vec fn v).last.getD 0 + s.minGap fn v ≤
      s.clk.hubc ∧ (s.vec fn v).masked = false) ∧
    (∃ (s : State) (fn : Nat) (v : Nat), (s.vec fn v).waiting = true ∧ (s.vec fn v).last.getD 0 + s.minGap fn v ≤
      s.clk.hubc ∧ (s.vec fn v).masked = true) ∧
    (∃ (s : State) (fn : Nat) (v : Nat), s.clk.hubc < (s.vec fn v).last.getD 0 + s.minGap fn v) ∧
    (∃ (s : State) (fn : Nat) (v : Nat), (s.vec fn v).pba = false) ∧
    (∃ (s : State) (fn : Nat) (v : Nat), (s.vec fn v).pba = true) :=
  ⟨⟨wR, 0, 16, by decide +kernel⟩,
   ⟨wR, 0, 17, by decide +kernel⟩,
   ⟨wR, 63, by decide +kernel⟩,
   ⟨wR, 1, 3, by decide +kernel⟩,
   ⟨wR, 1, 4, by decide +kernel⟩,
   ⟨wR, 63, by decide +kernel⟩,
   ⟨wR, 1008, by decide +kernel⟩,
   ⟨wR, 2, by decide +kernel⟩,
   ⟨wR, 3, by decide +kernel⟩,
   ⟨wR, 0, by decide +kernel⟩,
   ⟨wR.setRing 9 { st := .faulted }, 9, by decide +kernel⟩,
   ⟨wR, 63, by decide +kernel⟩,
   ⟨wR, 4, by decide +kernel⟩,
   ⟨wR.setRing 9 { st := .stopping, heldEnable := true }, 9, by decide +kernel⟩,
   ⟨wR, 2, by decide +kernel⟩,
   ⟨wR, 0, cmd 0x0101 [4], by decide +kernel⟩,
   ⟨wR, 5, { cmd 0x0101 [4] with seq := 1 }, by decide +kernel⟩,
   ⟨wR, 63, by decide +kernel⟩,
   ⟨wR, 0, ⟨0, 0, 0, 0, 0, 0, 0, 0, false, false, true, 9⟩, by decide +kernel⟩,
   ⟨wR, 5, ⟨5, 0x0101, 0, 0, 0, 0, 0, 0, false, false, false, 9⟩, by decide +kernel⟩,
   ⟨wR, 1, by decide +kernel⟩,
   ⟨wR, 5, ⟨5, 0x0101, 0, 0, 0, 0, 0, 0, false, false, false, 9⟩, by decide +kernel⟩,
   ⟨w0.setReg (cmdA 0) 8, by decide +kernel⟩,
   ⟨w0, by decide +kernel⟩,
   ⟨wR, 0, 0, by decide +kernel⟩,
   ⟨wR, 0, 1, by decide +kernel⟩,
   ⟨wR, 0, 2, by decide +kernel⟩,
   ⟨wR, 0, 0, by decide +kernel⟩,
   ⟨wR, 0, 3, by decide +kernel⟩⟩

/-- Hypotheses of `Obligations.FunctionsAndEventQueue`. -/
theorem witness_FunctionsAndEventQueue :
    (∃ (s : State), (s.stage < 3 ∨ s.stage = 7)) ∧
    (∃ (s : State), s.bit (evcA 0x8) 31 = true) ∧
    (∃ (s : State), 3 ≤ s.stage ∧ s.stage ≠ 7 ∧ s.bit (evcA 0x8) 31 = false ∧ s.host.held = []) ∧
    (∃ (s : State) (v : Nat), (v = 0 ∨ s.host.numVfs < v)) ∧
    (∃ (s : State) (v : Nat), 1 ≤ v ∧ v ≤ s.host.numVfs ∧ v < 64) ∧
    (∃ (s : State), SMap.wf regReset s.regs = true) ∧
    (∃ (s : State), s.mgmt.pwr.perst = true) ∧
    (∃ (s : State), s.mgmt.pwr.perst = false) ∧
    (∃ (s : State), s.mgmt.pair.role ≠ .standby) ∧
    (∃ (s : State), s.mgmt.pair.role = .standby ∧ s.serving = true) :=
  ⟨⟨State.reset, by decide +kernel⟩,
   ⟨w0.setBit (evcA 0x8) 31 true, by decide +kernel⟩,
   ⟨w0, by decide +kernel⟩,
   ⟨wDm, 7, by decide +kernel⟩,
   ⟨wDm, 5, by decide +kernel⟩,
   ⟨w0, by decide +kernel⟩,
   ⟨w0.modPwr (fun p => { p with perst := true }), by decide +kernel⟩,
   ⟨w0, by decide +kernel⟩,
   ⟨w0, by decide +kernel⟩,
   ⟨w0.modPair (fun p => { p with role := .standby }), by decide +kernel⟩⟩

/-- Hypotheses of `Obligations.RegisterAccesses`. -/
theorem witness_RegisterAccesses :
    (∃ (s : State) (x : Access), s.addrOf x = none) ∧
    (∃ (s : State) (x : Access), isConfig x = false ∧ s.addrOf x = none) ∧
    (∃ (s : State) (x : Access), s.addrOf x = none) ∧
    (∃ (s : State) (x : Access) (a : Nat), s.addrOf x = some a ∧ s.unreachable = false ∧ widthOk a x.width = false) ∧
    (∃ (s : State) (x : Access) (a : Nat) (ra : RegAt), s.addrOf x = some a ∧ s.unreachable = false ∧ widthOk a
      x.width = true ∧ s.available a false = true ∧ regAt a = some ra ∧ ra.reg.w64 = false ∧ s.latchAt a = none ∧
      (ra.blk.blk = .glb ∨ ra.blk.blk = .fwd ∨ ra.blk.blk = .tmg)) ∧
    (∃ (ra : RegAt), (ra.blk.blk = .glb ∨ ra.blk.blk = .fwd ∨ ra.blk.blk = .tmg) ∧ ra.reg.flds.any (fun f => f.acc ==
      .rc) = true) ∧
    (∃ (s : State) (x : Access) (a : Nat) (ra : RegAt), s.addrOf x = some a ∧ s.unreachable = false ∧ x.width = 4 ∧ a
      % 4 = 0 ∧ s.available a false = true ∧ regAt a = some ra ∧ ra.reg.w64 = true ∧ ra.byte = 0 ∧ ra.blk.blk = .fwd) ∧
    (∃ (s : State) (x : Access) (a : Nat) (ra : RegAt), isConfig x = false ∧ s.addrOf x = some a ∧ s.unreachable =
      false ∧ x.width = 4 ∧ a % 4 = 0 ∧ s.available a true = true ∧ regAt a = some ra ∧ ra.reg.w64 = true ∧ ra.byte =
      0) ∧
    (∃ (s : State) (x : Access) (a : Nat) (ra : RegAt), isConfig x = false ∧ s.addrOf x = some a ∧ s.unreachable =
      false ∧ x.width = 4 ∧ a % 4 = 0 ∧ s.available a true = true ∧ regAt a = some ra ∧ ra.reg.w64 = false ∧
      ra.blk.blk = .fwd) ∧
    (∃ (fs : List Fld) (old : Nat), ((∀ f ∈ fs, f.acc = .ro ∨ f.acc = .rc ∨ f.acc = .wo)) ∧ old < 2 ^ 64 ∧ ((∀ f ∈
      fs, f.lo ≤ f.hi))) ∧
    (∃ (fs : List Fld) (old : Nat), ((∀ f ∈ fs, f.acc = .rwl)) ∧ old < 2 ^ 64 ∧ ((∀ f ∈ fs, f.lo ≤ f.hi))) ∧
    (∃ (s : State) (a : Nat) (ra : RegAt), regAt a = some ra ∧ ra.blk.lock = some (a - blockOf a) ∧ s.available a
      true = true ∧ s.unreachable = false) ∧
    (∃ (a : Nat), regAt a = none) ∧
    (∃ (s : State) (sc : Nat), s.stage = 6 ∧ sc < 384) ∧
    (∃ (s : State) (sc : Nat), (s.stage ≠ 6 ∨ 384 ≤ sc)) ∧
    (∃ (s : State), s.bit (mstA 0x50) 31 = true ∧ SMap.wf regReset s.regs = true) ∧
    (∃ (s : State), s.bit (mstA 0x50) 31 = false) ∧
    (∃ (s : State) (c : Nat), s.stage = 6 ∧ c < 192) ∧
    (∃ (s : State) (c : Nat) (p : PlPort), s.pon.plPorts.get {} c = p ∧ p.busy = true) ∧
    (∃ (s : State) (c : Nat), (s.pon.plPorts.get {} c).busy = false) ∧
    (∃ (s : State), s.unreachable = true) ∧
    (∃ (s : State) (fn : Nat) (w : W32), s.unreachable = false ∧ (s.stage = 7 ∨ fn ≠ 0 ∨ w.toNat / 256 % 256 ≠ 0xA5)) ∧
    (∃ (s : State) (w : W32), s.unreachable = false ∧ s.stage ≠ 7 ∧ w.toNat % 2 = 1 ∧ w.toNat / 256 % 256 = 0xA5 ∧
      s.bit (pwrA 0x18) 0 = false) :=
  ⟨⟨w0, ⟨1, 0, 0, 4⟩, by decide +kernel⟩,
   ⟨w0, ⟨63, 0, 0, 4⟩, by decide +kernel⟩,
   ⟨w0, ⟨0, 1, 0, 4⟩, by decide +kernel⟩,
   ⟨w0, ⟨0, 0, 2, 4⟩, 2, by decide +kernel⟩,
   ⟨w0, ⟨0, 0, 0x70000, 4⟩, 0x70000, (regAt 0x70000).get (by decide +kernel), by decide +kernel, by decide +kernel,
     by decide +kernel, by decide +kernel, (Option.some_get (by decide +kernel)).symm, by decide +kernel,
     by decide +kernel, by decide +kernel⟩,
   ⟨(regAt 0x70010).get (by decide +kernel), by decide +kernel⟩,
   ⟨w0, ⟨0, 0, 0x70010, 4⟩, 0x70010, (regAt 0x70010).get (by decide +kernel), by decide +kernel, by decide +kernel,
     by decide +kernel, by decide +kernel, by decide +kernel, (Option.some_get (by decide +kernel)).symm,
     by decide +kernel, by decide +kernel, by decide +kernel⟩,
   ⟨w0, ⟨0, 0, 0x70010, 4⟩, 0x70010, (regAt 0x70010).get (by decide +kernel), by decide +kernel, by decide +kernel,
     by decide +kernel, by decide +kernel, by decide +kernel, by decide +kernel, (Option.some_get
     (by decide +kernel)).symm, by decide +kernel, by decide +kernel⟩,
   ⟨w0, ⟨0, 0, 0x70000, 4⟩, 0x70000, (regAt 0x70000).get (by decide +kernel), by decide +kernel, by decide +kernel,
     by decide +kernel, by decide +kernel, by decide +kernel, by decide +kernel, (Option.some_get
     (by decide +kernel)).symm, by decide +kernel, by decide +kernel⟩,
   ⟨[⟨7, 0, .ro, 0⟩, ⟨15, 8, .rc, 0⟩, ⟨63, 16, .wo, 0⟩], 2 ^ 64 - 1, by decide +kernel⟩,
   ⟨[⟨63, 0, .rwl, 0⟩], 2 ^ 64 - 1, by decide +kernel⟩,
   ⟨w0, 0x70008, (regAt 0x70008).get (by decide +kernel), (Option.some_get (by decide +kernel)).symm,
     by decide +kernel, by decide +kernel, by decide +kernel⟩,
   ⟨0x7FFFC, by decide +kernel⟩,
   ⟨w0, 383, by decide +kernel⟩,
   ⟨State.reset, 0, by decide +kernel⟩,
   ⟨w0.setBit (mstA 0x50) 31 true, by decide +kernel⟩,
   ⟨w0, by decide +kernel⟩,
   ⟨w0, 191, by decide +kernel⟩,
   ⟨w0.setPlPort 0 { busy := true }, 0, { busy := true }, by decide +kernel⟩,
   ⟨w0, 0, by decide +kernel⟩,
   ⟨{ w0 with mgmt := { w0.mgmt with pwr := { w0.mgmt.pwr with perst := true } } }, by decide +kernel⟩,
   ⟨w0, 1, 0xA500#32, by decide +kernel⟩,
   ⟨w0, 0xA501#32, by decide +kernel⟩⟩

/-- Hypotheses of `Obligations.TimeServoAndPtp`. -/
theorem witness_TimeServoAndPtp :
    (∃ (c : Desc) (s : State), Starts infoSetTime c s ∧ (s.jrnStart c).stepAllowed = false) ∧
    (∃ (c : Desc) (s : State) (t : _), Starts infoSetTime c s ∧ (s.jrnStart c).stepAllowed = true ∧ t = (c.n0 + 2 ^
      32 * c.n1) * secUnits + c.n2 * 65536 + c.n3) ∧
    (∃ (c : Desc) (s : State), Starts infoSetPtpPort c s ∧ (s.jrnStart c).ptpPortOk c.n0 = false) ∧
    (∃ (c : Desc) (s : State), Starts infoSetPtpPort c s ∧ (s.jrnStart c).ptpPortOk c.n0 = true) ∧
    (∃ (c : Desc) (s : State), Starts infoBindPtpRx c s) ∧
    (∃ (c : Desc) (s : State), Starts infoSendPtp c s ∧ (s.jrnStart c).ptpPortOk c.n0 = false) ∧
    (∃ (c : Desc) (s : State), Starts infoSendPtp c s ∧ (s.jrnStart c).ptpPortOk c.n0 = true ∧ (s.jrnStart c).ptpUp
      c.n0 = false) ∧
    (∃ (c : Desc) (s : State), Starts infoSendPtp c s ∧ (s.jrnStart c).ptpPortOk c.n0 = true ∧ (s.jrnStart c).ptpUp
      c.n0 = true) ∧
    (∃ (c : Desc) (s : State), Starts infoComputeTod c s ∧ (c.n1 + 2 ^ 32 * c.n2 < (s.jrnStart c).clk.msc + 2 ∨
      (s.jrnStart c).clk.msc + 2 ^ 24 < c.n1 + 2 ^ 32 * c.n2)) ∧
    (∃ (c : Desc) (s : State) (n : _) (t : _), Starts infoComputeTod c s ∧ n = c.n1 + 2 ^ 32 * c.n2 ∧ (s.jrnStart
      c).clk.msc + 2 ≤ n ∧ n ≤ (s.jrnStart c).clk.msc + 2 ^ 24 ∧ t = n * intervalUnits + 4096 * (if c.n0 % 2 = 0 then
      (s.jrnStart c).fld (timA 0x54) 31 16 else (s.jrnStart c).fld (timA 0x54) 15 0)) ∧
    (∃ (s : State) (acc : Nat) (u : Nat) (o : Nat) (one : Bool) (l : List Nat), s.time.ptpTx.find? (fun e => e.1 ==
      acc) = some (acc, u, one, o, l) ∧ s.time.ptpTx.find? (fun e => e.2.1 == u) = some (acc, u, one, o, l) ∧ s.ptpUp
      u = false) ∧
    (∃ (s : State) (acc : Nat) (u : Nat) (o : Nat) (one : Bool) (l : List Nat), s.time.ptpTx.find? (fun e => e.1 ==
      acc) = some (acc, u, one, o, l) ∧ s.time.ptpTx.find? (fun e => e.2.1 == u) = some (acc, u, one, o, l) ∧ s.ptpUp
      u = true) ∧
    (∃ (s : State) (acc : Nat), s.time.ptpTx.find? (fun e => e.1 == acc) = none) ∧
    (∃ (s : State) (u : Nat) (f : PtpFrame), (if f.esmc then (s.time.ptpPorts.get {} u).esmc else
      (s.time.ptpPorts.get {} u).trap) = false) ∧
    (∃ (s : State) (u : Nat) (f : PtpFrame), s.ptpPortOk u = true ∧ s.ptpUp u = true ∧ s.time.ptpRx = none ∧ (if
      f.esmc then (s.time.ptpPorts.get {} u).esmc else (s.time.ptpPorts.get {} u).trap) = true) ∧
    (∃ (s : State) (u : Nat) (r : Nat) (k : Nat) (a : Nat) (f : PtpFrame) (l : List Nat), s.ptpPortOk u = true ∧
      s.ptpUp u = true ∧ s.time.ptpRx = some (r, k) ∧ (if f.esmc then (s.time.ptpPorts.get {} u).esmc else
      (s.time.ptpPorts.get {} u).trap) = true ∧ s.domRoad 0 = .enabled ∧ ((s.domE 0).hpool k).posts = a :: l ∧ 16 +
      f.bytes.length ≤ ((s.domE 0).hpool k).size ∧ s.recvRoom r = true) ∧
    (∃ (s : State), 3 ≤ s.stage ∧ s.stage ≠ 7) ∧
    (∃ (s : State) (w : W64), s.stage = 6 ∧ (s.jumpLimit : Int) * 65536 < w.toInt.natAbs) ∧
    (∃ (s : State) (w : W64), s.stage = 6 ∧ (w.toInt.natAbs : Int) ≤ (s.jumpLimit : Int) * 65536) ∧
    (∃ (s : State), s.stage ≠ 6) ∧
    (∃ (s : State), (s.time.servo = .acquiring ∨ s.time.servo = .locked) ∧ s.time.lastApplied + s.holdTimeout *
      2000000 ≤ s.clk.hubc) ∧
    (∃ (s : State), (s.time.servo = .freerun ∨ s.time.servo = .holdover ∨ s.clk.hubc < s.time.lastApplied +
      s.holdTimeout * 2000000)) ∧
    (∃ (s : State), s.time.startWait = true ∧ s.fld (timA 0x2C) 15 0 * 2000000 ≤ s.clk.hubc ∧ 3 ≤ s.stage ∧ s.stage <
      7) ∧
    (∃ (s : State), s.time.startWait = false) ∧
    (∃ (s : State), s.time.valid = true ∧ s.bit (timA 0x58) 0 = true ∧ s.time.dev % secUnits < tickUnits) ∧
    (∃ (s : State), s.bit (timA 0x58) 0 = false) ∧
    (∃ (s : State), s.bit (timA 0x58) 1 = true) ∧
    (∃ (s : State), s.bit (timA 0x58) 1 = false) ∧
    (∃ (s : State) (k : Nat), k < 2 ∧ s.bit (timA (0x70 + 4 * k)) 29 = true ∧ s.rclkOk k = true ∧ (s.mgmt.lanes.get
      {} (s.fld (timA (0x70 + 4 * k)) 9 0)).upAt + 20000000 ≤ s.clk.hubc) ∧
    (∃ (s : State) (k : Nat), s.rclkOk k = false) :=
  ⟨⟨cmd infoSetTime.op [0, 65535, 999999999, 65535], wP.modTime (fun t => { t with valid := true }), starts_of
  (by decide +kernel), by decide +kernel⟩,
   ⟨cmd infoSetTime.op [0, 65535, 999999999, 65535], w0, _, starts_of (by decide +kernel), by decide +kernel, rfl⟩,
   ⟨cmd infoSetPtpPort.op [0, 3], w0, starts_of (by decide +kernel), by decide +kernel⟩,
   ⟨cmd infoSetPtpPort.op [0, 3], wT, starts_of (by decide +kernel), by decide +kernel⟩,
   ⟨cmd infoBindPtpRx.op [63, 7], w0, starts_of (by decide +kernel)⟩,
   ⟨cmd infoSendPtp.op [0, 1, 0] (List.replicate 60 0), w0, starts_of (by decide +kernel), by decide +kernel⟩,
   ⟨cmd infoSendPtp.op [1, 1, 16] (List.replicate 60 0), wT, starts_of (by decide +kernel), by decide +kernel⟩,
   ⟨cmd infoSendPtp.op [0, 1, 16] (List.replicate 60 0), wT, starts_of (by decide +kernel), by decide +kernel⟩,
   ⟨cmdOut infoComputeTod.op  [383, 1001] 32, w0, starts_of (by decide +kernel), by decide +kernel⟩,
   ⟨cmdOut infoComputeTod.op  [383, 1002] 32, w0, _, ((cmdOut infoComputeTod.op  [383, 1002] 32).n1 + 2 ^ 32 *
     (cmdOut infoComputeTod.op  [383, 1002] 32).n2) * intervalUnits + 4096 * (if (cmdOut infoComputeTod.op  [383,
     1002] 32).n0 % 2 = 0 then ((w0).jrnStart (cmdOut infoComputeTod.op  [383, 1002] 32)).fld (timA 0x54) 31 16 else
     ((w0).jrnStart (cmdOut infoComputeTod.op  [383, 1002] 32)).fld (timA 0x54) 15 0), starts_of (by decide +kernel),
     rfl, by decide +kernel, by decide +kernel, by decide +kernel⟩,
   ⟨wT.modTime (fun t => { t with ptpTx := [(9, 1, true, 16, [])] }), 9, 1, 16, true, [], rfl, rfl,
     by decide +kernel⟩,
   ⟨wT.modTime (fun t => { t with ptpTx := [(9, 0, true, 16, [])] }), 9, 0, 16, true, [], rfl, rfl,
     by decide +kernel⟩,
   ⟨w0, 9, by decide +kernel⟩,
   ⟨w0, 0, (⟨false, 0, []⟩ : PtpFrame), by decide +kernel⟩,
   ⟨wT, 0, (⟨false, 0, []⟩ : PtpFrame), by decide +kernel⟩,
   ⟨{ wT with time := { wT.time with ptpRx := some (0, 4) }, doms := [(0, { pool4 := ⟨64, [4096]⟩ })], host := wR.host },
     0, 0, 4, 4096, (⟨false, 0, []⟩ : PtpFrame), [], by decide +kernel⟩,
   ⟨w0, by decide +kernel⟩,
   ⟨w0, 0x7FFFFFFFFFFFFFFF#64, by decide +kernel⟩,
   ⟨w0, 0#64, by decide +kernel⟩,
   ⟨State.reset, by decide +kernel⟩,
   ⟨{ w0 with time := { w0.time with servo := .locked }, clk := { w0.clk with hubc := 2 ^ 40 } }, by decide +kernel⟩,
   ⟨w0, by decide +kernel⟩,
   ⟨{ w0 with time := { w0.time with startWait := true }, clk := { w0.clk with hubc := 2 ^ 40 } }, by decide +kernel⟩,
   ⟨w0, by decide +kernel⟩,
   ⟨(w0.setBit (timA 0x58) 0 true).modTime (fun t => { t with valid := true }), by decide +kernel⟩,
   ⟨w0.setBit (timA 0x58) 0 false, by decide +kernel⟩,
   ⟨w0.setBit (timA 0x58) 1 true, by decide +kernel⟩,
   ⟨w0.setBit (timA 0x58) 1 false, by decide +kernel⟩,
   ⟨((w0.setReg (timA 0x70) (BitVec.ofNat 64 (5 * 2 ^ 29 + 515))).setLaneSt 515 4), 0, by decide +kernel⟩,
   ⟨w0, 1, by decide +kernel⟩⟩

/-- Hypotheses of `Obligations.PairAndTreePairCommands`. -/
theorem witness_PairAndTreePairCommands :
    (∃ (c : Desc) (s : State), Starts infoPairConfig c s ∧ (s.jrnStart c).mgmt.pair.st ≠ .unpaired ∧ (s.jrnStart
      c).mgmt.pair.st ≠ .alone) ∧
    (∃ (c : Desc) (s : State) (u : State), Starts infoPairConfig c s ∧ ((s.jrnStart c).mgmt.pair.st = .unpaired ∨
      (s.jrnStart c).mgmt.pair.st = .alone) ∧ u = (((s.jrnStart c).setReg (prtA 0) (BitVec.ofNat 64 (c.n0 * 2 ^ 16 +
      c.n1 / 2 ^ 16 % 2 * 2 ^ 9 + c.n1 / 2 ^ 17 * 2 ^ 10 + c.n1 % 256))).setReg (prtA 0xC) (BitVec.ofNat 64
      c.n2)).modPair (fun p => { p with arbKey := c.inp, arbMiss := c.n1 / 256 % 256 })) ∧
    (∃ (c : Desc) (s : State), Starts infoPairJoin c s ∧ ((s.jrnStart c).mgmt.pair.st ≠ .alone ∨ (s.jrnStart
      c).mgmt.pair.role ≠ .active ∨ (s.jrnStart c).treesOff = false ∨ (s.jrnStart c).mgmt.pair.lanes = 0#2)) ∧
    (∃ (c : Desc) (s : State), Starts infoPairJoin c s ∧ (s.jrnStart c).mgmt.pair.st = .alone ∧ (s.jrnStart
      c).mgmt.pair.role = .active ∧ (s.jrnStart c).treesOff = true ∧ (s.jrnStart c).mgmt.pair.lanes ≠ 0#2) ∧
    (∃ (c : Desc) (s : State) (u : State), Starts infoPairLeave c s ∧ (s.jrnStart c).mgmt.pair.joinAcc = none ∧ c.n0
      = 0 ∧ u = (((s.jrnStart c).modPair (fun p =>
      { p with joinAcc := none, base := none, unsync := [], copies := [], kat := [], verdict := none, arbOk := false, peerHb := false, swapE := none, missed := 0, lanes := 0#2 })).setPairSt
      .unpaired .none).setPairWait false) ∧
    (∃ (c : Desc) (s : State) (t : State) (u : State), Starts infoPairLeave c s ∧ (s.jrnStart c).mgmt.pair.joinAcc =
      none ∧ (s.jrnStart c).mgmt.pair.role = .standby ∧ c.n0 = 1 ∧ t = (List.range 384).foldl (fun s sc =>
      s.discardRoad sc) (s.jrnStart c) ∧ u = ((t.modPair (fun p =>
      { p with joinAcc := none, base := none, unsync := [], copies := [], kat := [], verdict := none, arbOk := false, peerHb := false, swapE := none, missed := 0, lanes := 0#2 })).setPairSt
      .unpaired .none).setPairWait false) ∧
    (∃ (c : Desc) (s : State), Starts infoSwitchOver c s ∧ ((s.jrnStart c).mgmt.pair.st ≠ .paired ∨ (s.jrnStart
      c).mgmt.pair.role ≠ .active)) ∧
    (∃ (c : Desc) (s : State) (e : _), Starts infoSwitchOver c s ∧ (s.jrnStart c).mgmt.pair.st = .paired ∧
      (s.jrnStart c).mgmt.pair.role = .active ∧ (s.jrnStart c).resolveE none c = .ok e ∧ (s.jrnStart c).pendRoom =
      true) ∧
    (∃ (c : Desc) (s : State), Starts infoForceActive c s ∧ ((s.jrnStart c).mgmt.pair.role ≠ .standby ∨ (s.jrnStart
      c).mgmt.pair.st ≠ .broken ∨ (s.jrnStart c).mgmt.pair.downAt = none)) ∧
    (∃ (c : Desc) (s : State) (h : _), Starts infoForceActive c s ∧ (s.jrnStart c).mgmt.pair.downAt = some h ∧
      (s.jrnStart c).clk.hubc < h + ((s.jrnStart c).fenceMs + 2) * 2000000) ∧
    (∃ (c : Desc) (s : State) (h : _), Starts infoForceActive c s ∧ (s.jrnStart c).mgmt.pair.role = .standby ∧
      (s.jrnStart c).mgmt.pair.st = .broken ∧ (s.jrnStart c).mgmt.pair.downAt = some h ∧ h + ((s.jrnStart c).fenceMs
      + 2) * 2000000 ≤ (s.jrnStart c).clk.hubc) ∧
    (∃ (c : Desc) (s : State), Starts infoTreePair c s ∧ (((s.jrnStart c).pairOf (c.n0 % 256)).isSome = true ∨
      ((s.jrnStart c).pairOf (c.n0 / 256)).isSome = true ∨ ((s.jrnStart c).sub (2 * (c.n0 / 256))).road ≠ .disabled ∨
      (s.jrnStart c).treeEmpty (c.n0 / 256) = false)) ∧
    (∃ (c : Desc) (s : State) (w : _) (p : _), Starts infoTreePair c s ∧ w = c.n0 % 256 ∧ p = c.n0 / 256 ∧
      (s.jrnStart c).pairOf w = none ∧ (s.jrnStart c).pairOf p = none ∧ ((∀ k ∈ [2 * p, 2 * p + 1], ((s.jrnStart
      c).sub k).road = .disabled ∧ ((s.jrnStart c).sub k).isPending = false)) ∧ (s.jrnStart c).treeEmpty p = true ∧
      (s.jrnStart c).budget (p / 48) < (s.jrnStart c).reserved (p / 48) + (cipherCost ((s.jrnStart c).sub (2 *
      w)).rate ((s.jrnStart c).subCph (2 * w)).sm4 + cipherCost ((s.jrnStart c).sub (2 * w + 1)).rate ((s.jrnStart
      c).subCph (2 * w + 1)).sm4)) ∧
    (∃ (c : Desc) (s : State) (w : Nat) (p : Nat) (u : State), Starts infoTreePair c s ∧ w = c.n0 % 256 ∧ p = c.n0 /
      256 ∧ (s.jrnStart c).pairOf w = none ∧ (s.jrnStart c).pairOf p = none ∧ ((∀ k ∈ [2 * p, 2 * p + 1],
      ((s.jrnStart c).sub k).road = .disabled ∧ ((s.jrnStart c).sub k).isPending = false ∧ (s.jrnStart c).chRoom k =
      true)) ∧ (s.jrnStart c).treeEmpty p = true ∧ (s.jrnStart c).reserved (p / 48) + ((s.jrnStart c).creditNeedOf (2
      * w) + (s.jrnStart c).creditNeedOf (2 * w + 1)) ≤ (s.jrnStart c).budget (p / 48) ∧ u = ((s.jrnStart c).chBind
      (2 * p)).chBind (2 * p + 1)) ∧
    (∃ (c : Desc) (s : State), Starts infoTreeUnpair c s ∧ (s.jrnStart c).mgmt.pair.trees.get none c.n0 = none) ∧
    (∃ (c : Desc) (s : State) (p : _), Starts infoTreeUnpair c s ∧ (s.jrnStart c).mgmt.pair.trees.get none c.n0 =
      some p ∧ p.onProtect = true) ∧
    (∃ (c : Desc) (s : State) (p : _), Starts infoTreeUnpair c s ∧ (s.jrnStart c).mgmt.pair.trees.get none c.n0 =
      some p ∧ p.onProtect = false) ∧
    (∃ (c : Desc) (s : State), Starts infoSwitchTree c s ∧ (s.jrnStart c).mgmt.pair.trees.get none (c.n0 % 256) =
      none) ∧
    (∃ (c : Desc) (s : State) (p : _), Starts infoSwitchTree c s ∧ (s.jrnStart c).mgmt.pair.trees.get none (c.n0 %
      256) = some p ∧ c.n0 / 256 = 0 ∧ (s.jrnStart c).switchCause (c.n0 % 256) = true) ∧
    (∃ (c : Desc) (s : State) (p : _) (e : _), Starts infoSwitchTree c s ∧ (s.jrnStart c).mgmt.pair.trees.get none
      (c.n0 % 256) = some p ∧ (c.n0 / 256 = 1 ∨ (s.jrnStart c).switchCause (c.n0 % 256) = false) ∧ (s.jrnStart
      c).resolveE none c = .ok e ∧ (s.jrnStart c).pendRoom = true) ∧
    (∃ (c : Desc) (s : State), Starts infoReadPair c s) ∧
    (∃ (s : State), s.mgmt.pair.st = .joining ∧ s.mgmt.pair.role = .standby ∧ s.mgmt.pair.unsyncCount = 0 ∧ 16 ≤
      s.mgmt.pair.agree) ∧
    (∃ (s : State), s.mgmt.pair.st = .joining ∧ s.mgmt.pair.role = .active ∧ s.mgmt.pair.peerUnsync = [] ∧ 16 ≤
      s.mgmt.pair.agree) ∧
    (∃ (s : State), s.mgmt.pair.st = .joining ∧ s.mgmt.pair.role = .standby ∧ s.mgmt.pair.joinAcc = none) ∧
    (∃ (s : State), s.mgmt.pair.st = .joining ∧ s.mgmt.pair.role = .standby ∧ (s.mgmt.pair.unsyncCount ≠ 0 ∨
      s.mgmt.pair.agree < 16)) ∧
    (∃ (s : State) (a : Nat), s.mgmt.pair.st = .joining ∧ s.mgmt.pair.joinAcc = some a) ∧
    (∃ (s : State), s.mgmt.pair.st ≠ .joining) :=
  ⟨⟨cmd infoPairConfig.op [65535, 515, 65535] (List.replicate 32 0), wPr .paired .active 3, starts_of
  (by decide +kernel), by decide +kernel⟩,
   ⟨cmd infoPairConfig.op [65535, 576, 0] (List.replicate 32 0), w0, _, starts_of (by decide +kernel),
     by decide +kernel, rfl⟩,
   ⟨cmd infoPairJoin.op [], w0, starts_of (by decide +kernel), by decide +kernel⟩,
   ⟨cmd infoPairJoin.op [], wPr .alone .active 1, starts_of (by decide +kernel), by decide +kernel⟩,
   ⟨cmd infoPairLeave.op [0], w0, _, starts_of (by decide +kernel), by decide +kernel, by decide +kernel, rfl⟩,
   ⟨cmd infoPairLeave.op [1], wPr .paired .standby 3, _, _, starts_of (by decide +kernel), by decide +kernel,
     by decide +kernel, by decide +kernel, rfl, rfl⟩,
   ⟨cmd infoSwitchOver.op [], w0, starts_of (by decide +kernel), by decide +kernel⟩,
   ⟨cmd infoSwitchOver.op [], wPr .paired .active 3, (((wPr .paired .active 3).jrnStart (cmd infoSwitchOver.op
     [])).resolveE none (cmd infoSwitchOver.op [])).toOption.getD 0, starts_of (by decide +kernel),
     by decide +kernel, by decide +kernel, rfl, by decide +kernel⟩,
   ⟨cmd infoForceActive.op [], w0, starts_of (by decide +kernel), by decide +kernel⟩,
   ⟨cmd infoForceActive.op [], (wPr .broken .standby 0).modPair (fun p => { p with downAt := some 240005000 }),
     240005000, starts_of (by decide +kernel), by decide +kernel⟩,
   ⟨cmd infoForceActive.op [], (wPr .broken .standby 0).modPair (fun p => { p with downAt := some 0 }), 0, starts_of
     (by decide +kernel), by decide +kernel⟩,
   ⟨cmd infoTreePair.op [48], wP, starts_of (by decide +kernel), by decide +kernel⟩,
   ⟨cmd infoTreePair.op [304], w0.setSubCph 90 { credits := 10 ^ 9 }, _, _, starts_of (by decide +kernel), rfl, rfl,
     by decide +kernel, by decide +kernel, by decide +kernel, by decide +kernel, by decide +kernel⟩,
   ⟨cmd infoTreePair.op [48 * 256 + 47], w0, _, _, _, starts_of (by decide +kernel), rfl, rfl, by decide +kernel,
     by decide +kernel, by decide +kernel, by decide +kernel, by decide +kernel, rfl⟩,
   ⟨cmd infoTreeUnpair.op [191], w0, starts_of (by decide +kernel), by decide +kernel⟩,
   ⟨cmd infoTreeUnpair.op [1], wTp, { p := 49, onProtect := true }, starts_of (by decide +kernel), by decide +kernel⟩,
   ⟨cmd infoTreeUnpair.op [0], wTp, { p := 48 }, starts_of (by decide +kernel), by decide +kernel⟩,
   ⟨cmd infoSwitchTree.op [191], w0, starts_of (by decide +kernel), by decide +kernel⟩,
   ⟨cmd infoSwitchTree.op [0], wTp, { p := 48 }, starts_of (by decide +kernel), by decide +kernel⟩,
   ⟨cmd infoSwitchTree.op [256], wTp, { p := 48 }, (((wTp).jrnStart (cmd infoSwitchTree.op [256])).resolveE none (cmd
     infoSwitchTree.op [256])).toOption.getD 0, starts_of (by decide +kernel), by decide +kernel⟩,
   ⟨cmdOut infoReadPair.op  [] 64, w0, starts_of (by decide +kernel)⟩,
   ⟨(wPr .joining .standby 3).modPair (fun p => { p with agree := 16 }), by decide +kernel⟩,
   ⟨(wPr .joining .active 3).modPair (fun p => { p with agree := 16 }), by decide +kernel⟩,
   ⟨wPr .joining .standby 3, by decide +kernel⟩,
   ⟨(wPr .joining .standby 3).modPair (fun p => { p with agree := 15 }), by decide +kernel⟩,
   ⟨(wPr .joining .active 3).modPair (fun p => { p with joinAcc := some 9 }), 9, by decide +kernel⟩,
   ⟨w0, by decide +kernel⟩⟩

/-- Hypotheses of `Obligations.LockstepFencingAndTakeover`. -/
theorem witness_LockstepFencingAndTakeover :
    (∃ (s : State), s.witnessUp = true ∧ s.clk.running = true ∧ s.clk.msc % 8 = 0) ∧
    (∃ (s : State), (s.witnessUp = false ∨ s.clk.msc % 8 ≠ 0)) ∧
    (∃ (s : State), s.witnessUp = true) ∧
    (∃ (s : State), s.witnessUp = false) ∧
    (∃ (s : State), s.mgmt.pair.arbOk = true ∧ s.mgmt.pair.arbMsc + 8 * s.mgmt.pair.arbMiss ≤ s.clk.msc) ∧
    (∃ (s : State), (s.mgmt.pair.arbOk = false ∨ s.clk.msc < s.mgmt.pair.arbMsc + 8 * s.mgmt.pair.arbMiss)) ∧
    (∃ (s : State) (k : TokenIn), (s.mgmt.pair.st = .unpaired ∨ k.pairId ≠ s.fld (prtA 0) 31 16 ∨ k.epoch ≤ s.epoch ∨
      Config.sm2Check s.mgmt.pair.arbKey (leBytes 2 k.pairId ++ leBytes 4 k.epoch ++ leBytes 8 k.serial) k.sig =
      false)) ∧
    (∃ (s : State), s.mgmt.pair.role = .active ∧ s.mgmt.pair.st ≠ .unpaired ∧ s.fenceMs ≠ 0 ∧ max s.mgmt.pair.hbMsc
      s.mgmt.pair.arbMsc + 8 * s.fenceMs ≤ s.clk.msc) ∧
    (∃ (s : State), (s.mgmt.pair.role ≠ .active ∨ s.fenceMs = 0 ∨ s.clk.msc < max s.mgmt.pair.hbMsc
      s.mgmt.pair.arbMsc + 8 * s.fenceMs)) ∧
    (∃ (s : State), s.syncOn = true ∧ s.clk.running = true) ∧
    (∃ (s : State), s.syncOn = true ∧ s.clk.running = true ∧ s.clk.phase = .afterCommit) ∧
    (∃ (s : State), s.syncOn = false) ∧
    (∃ (s : State), s.syncOn = true ∧ s.mgmt.pair.role = .standby) ∧
    (∃ (s : State), s.syncOn = true ∧ s.mgmt.pair.st = .paired) ∧
    (∃ (s : State), (s.mgmt.pair.st = .paired ∨ s.mgmt.pair.st = .joining) ∧ 240000 ≤ s.clk.cycle ∧ s.mgmt.pair.hbMsc
      < s.clk.msc ∧ s.mgmt.pair.missMsc ≠ some s.clk.msc) ∧
    (∃ (s : State), (s.clk.msc ≤ s.mgmt.pair.hbMsc ∨ s.mgmt.pair.missMsc = some s.clk.msc ∨ s.clk.cycle < 240000)) ∧
    (∃ (s : State), s.mgmt.pair.st = .paired ∧ s.mgmt.pair.arbOk = false ∧ (max 1 s.hbMiss ≤ s.mgmt.pair.missed ∨
      s.mgmt.pair.lanes = 0#2)) ∧
    (∃ (s : State), s.mgmt.pair.st = .paired ∧ s.mgmt.pair.arbOk = true ∧ (max 1 s.hbMiss ≤ s.mgmt.pair.missed ∨
      s.mgmt.pair.lanes = 0#2)) ∧
    (∃ (s : State), s.mgmt.pair.missed < max 1 s.hbMiss ∧ s.mgmt.pair.lanes ≠ 0#2) ∧
    (∃ (s : State), s.tells = true ∧ s.mgmt.pair.served < 8) ∧
    (∃ (s : State), s.tells = true ∧ 8 ≤ s.mgmt.pair.served) ∧
    (∃ (s : State) (q : Nat), s.mgmt.pair.role = .standby ∧ s.mgmt.pair.asked.contains q = true) ∧
    (∃ (s : State) (q : Nat), s.mgmt.pair.role = .standby ∧ s.mgmt.pair.asked.contains q = false) ∧
    (∃ (s : State), (s.mgmt.pair.st = .paired ∨ s.mgmt.pair.st = .joining) ∧ s.mgmt.pair.role = .standby) ∧
    (∃ (s : State) (c : RowCopy), (s.mgmt.pair.st = .paired ∨ s.mgmt.pair.st = .joining) ∧ s.mgmt.pair.role = .active
      ∧ s.copyDue c.key = false) ∧
    (∃ (s : State) (c : RowCopy), (s.mgmt.pair.st = .paired ∨ s.mgmt.pair.st = .joining) ∧ s.mgmt.pair.role = .active
      ∧ s.copyDue c.key = true) ∧
    (∃ (s : State) (sc : Nat) (b : FwdBook) (k : _), s.mgmt.pair.excluded.contains (sc, b.msc) = true ∧
      s.mgmt.pair.forwarded.length < s.forwardLimit ∧ s.mgmt.pair.role = .active ∧ (s.sub sc).books.find? (fun k =>
      k.msc == b.msc) = some k) ∧
    (∃ (s : State) (sc : Nat) (b : FwdBook), s.mgmt.pair.excluded.contains (sc, b.msc) = true ∧
      s.mgmt.pair.forwarded.length < s.forwardLimit ∧ s.mgmt.pair.role = .standby) ∧
    (∃ (s : State) (sc : Nat) (b : FwdBook), (s.mgmt.pair.excluded.contains (sc, b.msc) = false ∨ s.forwardLimit ≤
      s.mgmt.pair.forwarded.length)) ∧
    (∃ (s : State), s.mgmt.pair.role ≠ .standby) ∧
    (∃ (s : State) (r : TermRec), s.mgmt.pair.role = .standby ∧ SMap.wf (fun _ => ({} : Term)) s.pon.terms = true ∧
      r.act = 4) ∧
    (∃ (s : State) (i : Nat), s.mgmt.pair.role = .standby ∧ (i = 1 ∨ i = 2)) ∧
    (∃ (s : State), s.mgmt.pair.role = .standby) ∧
    (∃ (s : State), s.mgmt.pair.role = .standby) ∧
    (∃ (s : State) (h : HintRec), s.mgmt.pair.role = .standby ∧ (s.unit h.unit).inst = true ∧ (s.unit h.unit).dom =
      h.dom ∧ h.target ≤ s.clk.msc + 4096 ∧ s.earliest ≤ h.target) :=
  ⟨⟨wW, by decide +kernel⟩,
   ⟨w0, by decide +kernel⟩,
   ⟨wW, by decide +kernel⟩,
   ⟨w0, by decide +kernel⟩,
   ⟨(wPr .paired .active 3).modPair (fun p => { p with arbOk := true }), by decide +kernel⟩,
   ⟨w0, by decide +kernel⟩,
   ⟨w0, ⟨0, 0, 0, []⟩, by decide +kernel⟩,
   ⟨(wPr .paired .active 3).setReg (prtA 0xC) 125, by decide +kernel⟩,
   ⟨w0, by decide +kernel⟩,
   ⟨(wPr .paired .active 3), by decide +kernel⟩,
   ⟨{ (wPr .paired .active 3) with clk := { w0.clk with phase := .afterCommit } }, by decide +kernel⟩,
   ⟨w0, by decide +kernel⟩,
   ⟨(wPr .paired .standby 3), by decide +kernel⟩,
   ⟨(wPr .paired .standby 3), by decide +kernel⟩,
   ⟨{ (wPr .paired .active 3) with clk := { w0.clk with cycle := 240000 } }, by decide +kernel⟩,
   ⟨w0, by decide +kernel⟩,
   ⟨(wPr .paired .standby 0), by decide +kernel⟩,
   ⟨(wPr .paired .standby 0).modPair (fun p => { p with arbOk := true }), by decide +kernel⟩,
   ⟨(wPr .paired .active 3), by decide +kernel⟩,
   ⟨(wPr .paired .active 3).modPair (fun p => { p with served := 7 }), by decide +kernel⟩,
   ⟨(wPr .paired .active 3).modPair (fun p => { p with served := 8 }), by decide +kernel⟩,
   ⟨(wPr .paired .standby 3).modPair (fun p => { p with asked := [95] }), 95, by decide +kernel⟩,
   ⟨(wPr .paired .standby 3), 95, by decide +kernel⟩,
   ⟨(wPr .paired .standby 3), by decide +kernel⟩,
   ⟨{ ((wPr .paired .active 3).modPair (fun p => { p with peerUnsync := [(5, 900), (7, 901)] })) with clk := { w0.clk with cycle := 197999 } },
     (⟨5, [], [], []⟩ : RowCopy), by decide +kernel⟩,
   ⟨{ ((wPr .paired .active 3).modPair (fun p => { p with peerUnsync := [(5, 900), (7, 901)] })) with clk := { w0.clk with cycle := 198000 } },
     (⟨5, [], [], []⟩ : RowCopy), by decide +kernel⟩,
   ⟨wBk.modPair (fun p =>
     { p with role := .active, lanes := 3, excluded := [(0, 990)], forwarded := List.replicate 47 (1, 989) }), 0,
     (⟨990, []⟩ : FwdBook), (⟨990, [⟨.data, 4, 0, 0, 100, [], none, false, none⟩, ⟨.data, 4, 0, 200, 100, [], some
     .arrived, true, none⟩, ⟨.data, 4, 0, 400, 100, [], none, false, none⟩], true⟩ : Book), by decide +kernel⟩,
   ⟨wBk.modPair (fun p =>
     { p with role := .standby, lanes := 3, excluded := [(0, 990)], forwarded := List.replicate 47 (1, 989) }), 0,
     (⟨990, []⟩ : FwdBook), by decide +kernel⟩,
   ⟨w0, 0, (⟨990, []⟩ : FwdBook), by decide +kernel⟩,
   ⟨(wPr .paired .active 3), by decide +kernel⟩,
   ⟨(wPr .paired .standby 3), (⟨4, 0, 17, 0, 0, 0, 100, -3, 5, none, none, 0, 0, 0, 0, false, none, false⟩ :
     TermRec), by decide +kernel⟩,
   ⟨(wPr .paired .standby 3), 2, by decide +kernel⟩,
   ⟨(wPr .paired .standby 3), by decide +kernel⟩,
   ⟨(wPr .paired .standby 3), by decide +kernel⟩,
   ⟨wU.modPair (fun p => { p with role := .standby }), ⟨0, 0, 5, 0, 5096⟩, by decide +kernel⟩⟩

/-- Hypotheses of `Obligations.MailboxRequestsAndSideInterfaces`. -/
theorem witness_MailboxRequestsAndSideInterfaces :
    (∃ (s : State) (m : Nat), m < 3 ∧ (s.mbx m).busy = true ∧ s.fwServes = true ∧ s.mbxOn m = true ∧ mbxReqOk (s.mbx
      m).req = true ∧ leAt (s.mbx m).req 0 2 = 1 ∧ s.mbxBody m = []) ∧
    (∃ (s : State) (m : Nat) (first : Nat) (n : Nat), m < 3 ∧ (s.mbx m).busy = true ∧ s.fwServes = true ∧ s.mbxOn m =
      true ∧ mbxReqOk (s.mbx m).req = true ∧ leAt (s.mbx m).req 0 2 = 2 ∧ (s.mbxBody m).length = 4 ∧ first = leAt
      (s.mbxBody m) 0 2 ∧ n = leAt (s.mbxBody m) 2 2 ∧ 1 ≤ n ∧ n ≤ 16 ∧ first + n ≤ 4096) ∧
    (∃ (s : State) (m : Nat), m < 3 ∧ (s.mbx m).busy = true ∧ s.fwServes = true ∧ s.mbxOn m = true ∧ mbxReqOk (s.mbx
      m).req = true ∧ leAt (s.mbx m).req 0 2 = 2 ∧ (leAt (s.mbxBody m) 2 2 = 0 ∨ 16 < leAt (s.mbxBody m) 2 2)) ∧
    (∃ (s : State) (m : Nat), m < 3 ∧ (s.mbx m).busy = true ∧ s.fwServes = true ∧ s.mbxOn m = true ∧ mbxReqOk (s.mbx
      m).req = true ∧ leAt (s.mbx m).req 0 2 = 3 ∧ s.mbxBody m = []) ∧
    (∃ (s : State) (m : Nat), m < 3 ∧ (s.mbx m).busy = true ∧ s.fwServes = true ∧ s.mbxOn m = true ∧ mbxReqOk (s.mbx
      m).req = true ∧ leAt (s.mbx m).req 0 2 = 4 ∧ (s.mbxBody m).length = 32) ∧
    (∃ (s : State) (m : Nat) (w : W64) (t : State), m < 3 ∧ (s.mbx m).busy = true ∧ s.fwServes = true ∧ s.mbxOn m =
      true ∧ mbxReqOk (s.mbx m).req = true ∧ leAt (s.mbx m).req 0 2 = 5 ∧ s.mbxBody m = [] ∧ s.random = (w, t)) ∧
    (∃ (s : State) (m : Nat), m < 3 ∧ (s.mbx m).busy = true ∧ s.fwServes = true ∧ s.mbxOn m = true ∧ mbxReqOk (s.mbx
      m).req = true ∧ leAt (s.mbx m).req 0 2 = 6 ∧ (s.mbxBody m).length = 96) ∧
    (∃ (s : State) (m : Nat), m < 3 ∧ (s.mbx m).busy = true ∧ s.fwServes = true ∧ s.mbxOn m = true ∧ mbxReqOk (s.mbx
      m).req = true ∧ leAt (s.mbx m).req 0 2 = 7 ∧ s.mbxBody m = []) ∧
    (∃ (s : State) (m : Nat) (i : Nat) (n : Nat), m < 3 ∧ (s.mbx m).busy = true ∧ s.fwServes = true ∧ s.mbxOn m =
      true ∧ mbxReqOk (s.mbx m).req = true ∧ leAt (s.mbx m).req 0 2 = 8 ∧ (s.mbxBody m).length = 8 ∧ i = leAt
      (s.mbxBody m) 0 4 ∧ n = leAt (s.mbxBody m) 4 2 ∧ 1 ≤ n ∧ n ≤ 64 ∧ leAt (s.mbxBody m) 6 2 = 0 ∧ i <
      s.mgmt.rcd.ledger.length) ∧
    (∃ (s : State) (m : Nat) (b : List Nat), m < 3 ∧ (s.mbx m).busy = true ∧ s.fwServes = true ∧ s.mbxOn m = true ∧
      mbxReqOk (s.mbx m).req = true ∧ leAt (s.mbx m).req 0 2 = 9 ∧ b = s.mbxBody m ∧ moduleIoOk b = true ∧ s.mbxFirst
      m = true ∧ leAt b 3 1 = 0) ∧
    (∃ (s : State) (m : Nat) (b : List Nat), m < 3 ∧ (s.mbx m).busy = true ∧ s.fwServes = true ∧ s.mbxOn m = true ∧
      mbxReqOk (s.mbx m).req = true ∧ leAt (s.mbx m).req 0 2 = 9 ∧ b = s.mbxBody m ∧ moduleIoOk b = true ∧ s.mbxFirst
      m = true) ∧
    (∃ (s : State) (m : Nat), mbxReqOk (s.mbx m).req = true ∧ leAt (s.mbx m).req 0 2 = 9 ∧ moduleIoOk (s.mbxBody m) =
      true ∧ s.mbxFirst m = false) ∧
    (∃ (s : State) (m : Nat) (m : _), ((s.mbx m).busy = false ∨ s.fwServes = false ∨ s.mbxOn m = false)) ∧
    (∃ (s : State) (m : Nat) (m : _), m < 3 ∧ (s.mbx m).busy = true ∧ s.fwServes = true ∧ s.mbxOn m = true ∧ mbxReqOk
      (s.mbx m).req = false) ∧
    (∃ (s : State) (l : List Nat), s.smbEn = true ∧ (s.mbx 1).busy = false ∧ l.length ≤ 255) ∧
    (∃ (s : State), s.smbEn = true ∧ (s.mbx 1).busy = false) ∧
    (∃ (s : State), s.smbEn = true) ∧
    (∃ (s : State), s.smbEn = true) ∧
    (∃ (s : State), s.smbEn = false) ∧
    (∃ (s : State), s.alertN = true) ∧
    (∃ (s : State), s.alertN = false) ∧
    (∃ (s : State) (f : OobIn), (s.oobEn = false ∨ f.toUs = false ∨ f.etype ≠ 0x88B6)) ∧
    (∃ (s : State) (f : OobIn), s.oobEn = true ∧ f.toUs = true ∧ f.etype = 0x88B6 ∧ f.off = 0 ∧ f.frags = 0 ∧ (s.mbx
      2).busy = false) ∧
    (∃ (s : State), s.mgmt.dbg.locked = false) ∧
    (∃ (s : State), s.mgmt.dbg.locked = true) ∧
    (∃ (s : State), s.mgmt.dbg.locked = false ∧ s.mgmt.dbg.challenge = none) :=
  ⟨⟨wX 2 1 [], 2, by decide +kernel⟩,
   ⟨wX 2 2 [0xF0, 0x0F, 16, 0], 2, _, _, by decide +kernel, by decide +kernel, by decide +kernel, by decide +kernel,
     by decide +kernel, by decide +kernel, by decide +kernel, rfl, rfl, by decide +kernel, by decide +kernel,
     by decide +kernel⟩,
   ⟨wX 0 2 [0, 0, 17, 0], 0, by decide +kernel⟩,
   ⟨wX 1 3 [], 1, by decide +kernel⟩,
   ⟨wX 0 4 (List.replicate 32 0), 0, by decide +kernel⟩,
   ⟨wX 0 5 [], 0, ((wX 0 5 []).random).1, ((wX 0 5 []).random).2, by decide +kernel, by decide +kernel,
     by decide +kernel, by decide +kernel, by decide +kernel, by decide +kernel, by decide +kernel, rfl⟩,
   ⟨wX 0 6 (List.replicate 96 0), 0, by decide +kernel⟩,
   ⟨wX 0 7 [], 0, by decide +kernel⟩,
   ⟨(wX 0 8 [0, 0, 0, 0, 64, 0, 0, 0]).modRec (fun r => { r with ledger := [⟨0, 0, 0, 1, 0, []⟩] }), 0, _, _,
     by decide +kernel, by decide +kernel, by decide +kernel, by decide +kernel, by decide +kernel,
     by decide +kernel, by decide +kernel, rfl, rfl, by decide +kernel, by decide +kernel, by decide +kernel,
     by decide +kernel⟩,
   ⟨wX 0 9 [11, 127, 0, 0, 128, 0, 0, 0], 0, _, by decide +kernel, by decide +kernel, by decide +kernel,
     by decide +kernel, by decide +kernel, by decide +kernel, rfl, by decide +kernel, by decide +kernel,
     by decide +kernel⟩,
   ⟨wX 0 9 [0, 0, 0, 1, 1, 0, 0, 0, 7], 0, _, by decide +kernel, by decide +kernel, by decide +kernel,
     by decide +kernel, by decide +kernel, by decide +kernel, rfl, by decide +kernel, by decide +kernel⟩,
   ⟨((wX 0 9 [0, 0, 0, 1, 1, 0, 0, 0, 7]).setMbx 0
     { (wX 0 9 [0, 0, 0, 1, 1, 0, 0, 0, 7]).mbx 0 with turn := 2 }).setMbx 2
     { (wX 2 9 [0, 0, 0, 1, 1, 0, 0, 0, 7]).mbx 2 with turn := 1 }, 0, by decide +kernel⟩,
   ⟨w0, 0, 0, by decide +kernel⟩,
   ⟨wX 0 0x12 [], 0, 0, by decide +kernel⟩,
   ⟨w0.setBit (mgtA 4) 0 true, List.replicate 255 0, by decide +kernel⟩,
   ⟨w0.setBit (mgtA 4) 0 true, by decide +kernel⟩,
   ⟨w0.setBit (mgtA 4) 0 true, by decide +kernel⟩,
   ⟨w0, by decide +kernel⟩,
   ⟨w0.setBit (mgtA 4) 0 false, by decide +kernel⟩,
   ⟨w0.setReg 0xF0000 7, by decide +kernel⟩,
   ⟨w0, by decide +kernel⟩,
   ⟨w0, ⟨false, 0, 0, 0, 0, []⟩, by decide +kernel⟩,
   ⟨(w0.setBit (mgtA 4) 1 true).setLaneSt 515 4, ⟨true, 0x88B6, 0, 0, 0, []⟩, by decide +kernel⟩,
   ⟨w0, by decide +kernel⟩,
   ⟨w0.modDbg (fun d => { d with locked := true }), by decide +kernel⟩,
   ⟨w0, by decide +kernel⟩⟩

/-- Hypotheses of `Obligations.SensorsAndThermalTrip`. -/
theorem witness_SensorsAndThermalTrip :
    (∃ (s : State) (n : Nat), (96 ≤ n ∨ s.mgmt.sens.trip = true ∨ s.sensorOk n = false)) ∧
    (∃ (s : State) (n : Nat) (t : Int), n < 96 ∧ s.mgmt.sens.trip = false ∧ s.sensorOk n = true ∧ s.mgmt.sens.hot.get
      false n = true ∧ 2000 ≤ t) ∧
    (∃ (s : State) (n : Nat), n < 96 ∧ s.mgmt.sens.trip = false ∧ s.sensorOk n = true ∧ s.mgmt.sens.hot.get false n =
      false ∧ s.clk.running = true ∧ SMap.wf (fun _ => false) s.mgmt.sens.hot = true) ∧
    (∃ (s : State), SMap.wf (fun _ => false) s.mgmt.sens.warn = true ∧ SMap.wf (fun _ => false) s.mgmt.sens.crit =
      true) ∧
    (∃ (n : Nat), n < 48) ∧
    (∃ (n : Nat), 48 ≤ n) ∧
    (∃ (k : Nat), k < 8) ∧
    (∃ (k : Nat), 8 ≤ k) :=
  ⟨⟨w0, 96, by decide +kernel⟩,
   ⟨w0.modSens (fun x => { x with hot := [(95, true)] }), 95, 2000, by decide +kernel⟩,
   ⟨w0, 95, by decide +kernel⟩,
   ⟨w0, by decide +kernel⟩,
   ⟨47, by decide +kernel⟩,
   ⟨48, by decide +kernel⟩,
   ⟨7, by decide +kernel⟩,
   ⟨8, by decide +kernel⟩⟩

/-- Hypotheses of `Obligations.RecorderBindsSamplesAndClears`. -/
theorem witness_RecorderBindsSamplesAndClears :
    (∃ (c : Desc) (s : State), Starts infoRecBind c s ∧ (s.jrnStart c).srcDomain (c.n1 % 16) c.n2 = none) ∧
    (∃ (c : Desc) (s : State) (d : _), Starts infoRecBind c s ∧ (s.jrnStart c).srcDomain (c.n1 % 16) c.n2 = some d ∧
      c.dom ≠ 0 ∧ (c.n0 < 1024 ∨ d ≠ c.dom)) ∧
    (∃ (c : Desc) (s : State) (d : _), Starts infoRecBind c s ∧ (s.jrnStart c).srcDomain (c.n1 % 16) c.n2 = some d ∧
      c.dom = 0 ∧ (((s.jrnStart c).recd c.n0).bound = true ∨ ((s.jrnStart c).recd c.n0).h.count ≠ 0)) ∧
    (∃ (c : Desc) (s : State) (d : _), Starts infoRecBind c s ∧ (s.jrnStart c).srcDomain (c.n1 % 16) c.n2 = some d ∧
      (c.dom = 0 ∨ 1024 ≤ c.n0 ∧ d = c.dom ∧ (s.jrnStart c).mgmt.rcd.recs.countWhere (fun _ y => y.bound && y.dom ==
      c.dom) < 64) ∧ ((s.jrnStart c).recd c.n0).bound = false ∧ ((s.jrnStart c).recd c.n0).h.count = 0) ∧
    (∃ (c : Desc) (s : State), Starts infoRecUnbind c s ∧ c.dom ≠ 0 ∧ ((s.jrnStart c).recd c.n0).dom ≠ c.dom) ∧
    (∃ (c : Desc) (s : State), Starts infoRecUnbind c s ∧ (c.dom = 0 ∨ ((s.jrnStart c).recd c.n0).dom = c.dom) ∧
      ((s.jrnStart c).recd c.n0).bound = true) ∧
    (∃ (c : Desc) (s : State), Starts infoRecRead c s ∧ c.dom = 0) ∧
    (∃ (c : Desc) (s : State) (i : _), Starts infoRecRead c s ∧ c.dom ≠ 0 ∧ i < c.n1 ∧ ((s.jrnStart c).recd (c.n0 +
      i)).dom ≠ c.dom) ∧
    (∃ (c : Desc) (s : State) (w : W64) (t : State), Starts infoGetClearNonce c s ∧ (s.jrnStart c).random = (w, t)) ∧
    (∃ (c : Desc) (s : State) (n : _), Starts infoClearRecords c s ∧ (s.jrnStart c).tokenStatus (readToken c.inp) = n
      ∧ n ≠ stOk) ∧
    (∃ (c : Desc) (s : State), Starts infoReadClearLedger c s ∧ (s.jrnStart c).mgmt.rcd.ledger.length ≤ c.n0) ∧
    (∃ (c : Desc) (s : State), Starts infoReadClearLedger c s ∧ c.n0 < (s.jrnStart c).mgmt.rcd.ledger.length) ∧
    (∃ (c : Desc) (s : State), Starts infoSetClearKey c s ∧ c.dom ≠ 0) ∧
    (∃ (c : Desc) (s : State), Starts infoSetClearKey c s ∧ c.dom = 0 ∧ (s.jrnStart c).mgmt.rcd.clearKey.isSome =
      true) ∧
    (∃ (c : Desc) (s : State), Starts infoSetClearKey c s ∧ c.dom = 0 ∧ (s.jrnStart c).mgmt.rcd.clearKey = none) ∧
    (∃ (s : State) (n : Nat) (e : Nat), s.mgmt.rcd.nonce = some (n, e) ∧ e ≤ s.clk.msc) ∧
    (∃ (s : State) (n : Nat) (e : Nat), s.mgmt.rcd.nonce = some (n, e) ∧ s.clk.msc < e) ∧
    (∃ (x : Rec) (v : Nat), 31 < binOf x v) ∧
    (∃ (x : Rec) (v : Nat), binOf x v ≤ 31) ∧
    (∃ (a : Hist) (x : Rec) (v : Nat), binOf x v ≤ 31 ∧ a.bins.get 0 (binOf x v) ≠ 0xFFFFFFFF) ∧
    (∃ (s : State) (k : Nat), s.clk.running = true ∧ s.clk.msc % 8 = 0 ∧ k < 4095) ∧
    (∃ (s : State), SMap.wf (fun _ => ({} : Rec)) s.mgmt.rcd.recs = true ∧ s.mgmt.rcd.degraded = false) ∧
    (∃ (s : State), SMap.wf (fun _ => ({} : Rec)) s.mgmt.rcd.recs = true ∧ s.mgmt.rcd.degraded = false) ∧
    (∃ (s : State), SMap.wf (fun _ => ({} : Rec)) s.mgmt.rcd.recs = true ∧ s.mgmt.rcd.degraded = false) ∧
    (∃ (s : State) (k : Nat) (j : _), SMap.wf (fun _ => ({} : Rec)) s.mgmt.rcd.recs = true ∧ s.mgmt.rcd.degraded =
      false ∧ j ≠ k) ∧
    (∃ (s : State) (k : Nat), (s.clk.msc % 8 ≠ 0 ∨ 4096 ≤ k)) ∧
    (∃ (s : State), s.clk.running = true ∧ s.clk.msc % 8000 = 0) ∧
    (∃ (s : State), s.clk.msc % 8000 ≠ 0) ∧
    (∃ (s : State), s.mgmt.rcd.bank0 = true ∧ s.mgmt.rcd.bank1 = true) ∧
    (∃ (s : State), s.mgmt.rcd.bank0 = true ∧ s.mgmt.rcd.bank1 = false) :=
  ⟨⟨cmd infoRecBind.op [0, 1, 9, 0, 1], w0, starts_of (by decide +kernel), by decide +kernel⟩,
   ⟨cmd infoRecBind.op [1023, 0, 5, 0, 1] [] 2, wDm, 0, starts_of (by decide +kernel), by decide +kernel⟩,
   ⟨cmd infoRecBind.op [0, 0, 383, 0, 1], (w0.modRec (fun r => { r with recs := [(0, { bound := true })] })), 0,
     starts_of (by decide +kernel), by decide +kernel⟩,
   ⟨cmd infoRecBind.op [4095, 31 - 24, 383, 0, 1], w0, 0, starts_of (by decide +kernel), by decide +kernel⟩,
   ⟨cmd infoRecUnbind.op [0] [] 2, wDm, starts_of (by decide +kernel), by decide +kernel⟩,
   ⟨cmd infoRecUnbind.op [0], (w0.modRec (fun r => { r with recs := [(0, { bound := true })] })), starts_of
     (by decide +kernel), by decide +kernel⟩,
   ⟨cmdOut infoRecRead.op  [4095, 1] 192, w0, starts_of (by decide +kernel), by decide +kernel⟩,
   ⟨{ cmdOut infoRecRead.op [0, 16] 3072 6 with buf := 4096 }, wDn, 15, starts_of (by decide +kernel),
     by decide +kernel⟩,
   ⟨cmdOut infoGetClearNonce.op  [] 16, w0, (((w0).jrnStart (cmdOut infoGetClearNonce.op  [] 16)).random).1,
     (((w0).jrnStart (cmdOut infoGetClearNonce.op  [] 16)).random).2, starts_of (by decide +kernel), rfl⟩,
   ⟨cmd infoClearRecords.op [] (List.replicate 96 0), w0, stBadArg, starts_of (by decide +kernel), by decide +kernel⟩,
   ⟨cmdOut infoReadClearLedger.op  [0, 1] 32, w0, starts_of (by decide +kernel), by decide +kernel⟩,
   ⟨cmdOut infoReadClearLedger.op  [0, 64] 2048, w0.modRec (fun r => { r with ledger := [⟨0, 0, 0, 1, 0, []⟩] }),
     starts_of (by decide +kernel), by decide +kernel⟩,
   ⟨cmd infoSetClearKey.op [] (List.replicate 32 0) 2, wDm, starts_of (by decide +kernel), by decide +kernel⟩,
   ⟨cmd infoSetClearKey.op [] (List.replicate 32 0), w0.modRec (fun r => { r with clearKey := some [1] }), starts_of
     (by decide +kernel), by decide +kernel⟩,
   ⟨cmd infoSetClearKey.op [] (List.replicate 32 0), w0, starts_of (by decide +kernel), by decide +kernel⟩,
   ⟨w0.modRec (fun r => { r with nonce := some (1, 1000) }), 1, 1000, by decide +kernel⟩,
   ⟨w0.modRec (fun r => { r with nonce := some (1, 1001) }), 1, 1001, by decide +kernel⟩,
   ⟨{}, 32, by decide +kernel⟩,
   ⟨{}, 31, by decide +kernel⟩,
   ⟨{}, {}, 31, by decide +kernel⟩,
   ⟨w0, 4094, by decide +kernel⟩,
   ⟨w0, by decide +kernel⟩,
   ⟨w0, by decide +kernel⟩,
   ⟨w0, by decide +kernel⟩,
   ⟨w0, 0, 4095, by decide +kernel⟩,
   ⟨w0, 4096, by decide +kernel⟩,
   ⟨{ w0 with clk := { w0.clk with msc := 8000 } }, by decide +kernel⟩,
   ⟨w0, by decide +kernel⟩,
   ⟨w0, by decide +kernel⟩,
   ⟨w0.modRec (fun r => { r with bank1 := false }), by decide +kernel⟩⟩

/-- Hypotheses of `Obligations.UpdateDownloadVerifyAndStatus`. -/
theorem witness_UpdateDownloadVerifyAndStatus :
    (∃ (c : Desc) (s : State), Starts infoUpdBegin c s ∧ manifestOk c.inp = false) ∧
    (∃ (c : Desc) (s : State) (m : _), Starts infoUpdBegin c s ∧ manifestOk c.inp = true ∧ (s.jrnStart c).mgmt.upd.st
      ≠ .idle ∧ (s.jrnStart c).mgmt.upd.man = some m ∧ m.bytes = c.inp) ∧
    (∃ (c : Desc) (s : State), Starts infoUpdBegin c s ∧ manifestOk c.inp = true ∧ (s.jrnStart c).mgmt.upd.st ≠ .idle
      ∧ ((∀ m, (s.jrnStart c).mgmt.upd.man = some m → m.bytes ≠ c.inp))) ∧
    (∃ (c : Desc) (s : State) (m : _), Starts infoUpdBegin c s ∧ manifestOk c.inp = true ∧ (s.jrnStart c).mgmt.upd.st
      = .idle ∧ m = readManifest c.inp ∧ (m.stepping ≠ 0xA1 ∨ m.svn < (s.jrnStart c).minSvn)) ∧
    (∃ (c : Desc) (s : State), Starts infoUpdPiece c s ∧ (s.jrnStart c).bufCheck c.dom c.buf c.bufLen = false) ∧
    (∃ (s : State) (m : Manifest), s.mgmt.upd.man = some m ∧ s.mgmt.upd.st ≠ .receiving ∧ s.mgmt.upd.st ≠ .received) ∧
    (∃ (s : State) (m : Manifest) (p : Nat) (d : List Nat), s.mgmt.upd.man = some m ∧ s.mgmt.upd.st = .receiving ∧
      s.flashOk = true ∧ p < m.pieces ∧ d.length = m.pieceLen p ∧ s.pieceBit p = true) ∧
    (∃ (s : State) (m : Manifest) (p : Nat) (d : List Nat) (k : List Nat), s.mgmt.upd.man = some m ∧ s.mgmt.upd.st =
      .receiving ∧ s.flashOk = true ∧ p < m.pieces ∧ d.length = m.pieceLen p ∧ s.pieceBit p = false ∧ (sm3 d ≠ k ∨
      sm3 d ≠ m.pieceDigests.getD p [])) ∧
    (∃ (s : State) (m : Manifest) (p : Nat) (d : List Nat) (k : List Nat), s.mgmt.upd.man = some m ∧ s.mgmt.upd.st =
      .receiving ∧ s.flashOk = true ∧ p < m.pieces ∧ d.length = m.pieceLen p ∧ s.pieceBit p = false ∧ sm3 d = k ∧ sm3
      d = m.pieceDigests.getD p [] ∧ s.mgmt.pair.st ≠ .paired) ∧
    (∃ (c : Desc) (s : State), Starts infoUpdVerify c s ∧ (s.jrnStart c).mgmt.upd.st ≠ .received ∧ (s.jrnStart
      c).mgmt.upd.st ≠ .verified) ∧
    (∃ (c : Desc) (s : State), Starts infoUpdVerify c s ∧ ((s.jrnStart c).mgmt.upd.st = .received ∨ (s.jrnStart
      c).mgmt.upd.st = .verified)) ∧
    (∃ (s : State) (acc : Nat) (m : Manifest), s.mgmt.upd.man = some m ∧ s.mgmt.upd.st = .verifying ∧
      s.mgmt.upd.verAcc = some acc ∧ s.flashUp 0 = true ∧ sm3 (s.mgmt.upd.slot 0 m.pieces) ≠ m.imageDigest) ∧
    (∃ (s : State) (acc : Nat), (s.mgmt.upd.st ≠ .verifying ∨ s.mgmt.upd.verAcc ≠ some acc)) ∧
    (∃ (c : Desc) (s : State), Starts infoConfirm c s ∧ (s.jrnStart c).mgmt.upd.st ≠ .trial) ∧
    (∃ (c : Desc) (s : State), Starts infoConfirm c s ∧ (s.jrnStart c).mgmt.upd.st = .trial ∧ (s.jrnStart
      c).mgmt.upd.started = false ∧ (s.jrnStart c).mgmt.upd.cause = 0 ∧ (s.jrnStart c).flashOk = true) ∧
    (∃ (c : Desc) (s : State), Starts infoUpdFallback c s ∧ (s.jrnStart c).mgmt.upd.st ≠ .trial) ∧
    (∃ (c : Desc) (s : State), Starts infoUpdFallback c s ∧ (s.jrnStart c).mgmt.upd.st = .trial) ∧
    (∃ (c : Desc) (s : State), Starts infoUpdAbort c s ∧ (s.jrnStart c).mgmt.upd.st ≠ .receiving ∧ (s.jrnStart
      c).mgmt.upd.st ≠ .received ∧ (s.jrnStart c).mgmt.upd.st ≠ .verified) ∧
    (∃ (c : Desc) (s : State), Starts infoUpdAbort c s ∧ ((s.jrnStart c).mgmt.upd.st = .receiving ∨ (s.jrnStart
      c).mgmt.upd.st = .received ∨ (s.jrnStart c).mgmt.upd.st = .verified)) ∧
    (∃ (c : Desc) (s : State), Starts infoUpdStatus c s) ∧
    (∃ (s : State) (m : Nat), m < 3 ∧ (s.mbx m).busy = true ∧ s.fwServes = true ∧ s.mbxOn m = true ∧ mbxReqOk (s.mbx
      m).req = true ∧ leAt (s.mbx m).req 0 2 = 0x11 ∧ s.mbxBody m = []) ∧
    (∃ (s : State) (m : Nat) (b : List Nat), m < 3 ∧ (s.mbx m).busy = true ∧ s.fwServes = true ∧ s.mbxOn m = true ∧
      mbxReqOk (s.mbx m).req = true ∧ leAt (s.mbx m).req 0 2 = 0x10 ∧ b = s.mbxBody m ∧ 40 ≤ b.length ∧ leAt b 2 2 =
      0 ∧ leAt b 4 4 = 0 ∧ leAt b 0 2 = 0xFFFF ∧ ((∀ x ∈ sliceB b 8 32, x = 0)) ∧ 6 ≤ (b.drop 40).length ∧ (b.drop
      40).length = manifestLen (leAt (b.drop 40) 4 2)) ∧
    (∃ (s : State) (m : Nat) (b : List Nat), m < 3 ∧ (s.mbx m).busy = true ∧ s.fwServes = true ∧ s.mbxOn m = true ∧
      mbxReqOk (s.mbx m).req = true ∧ leAt (s.mbx m).req 0 2 = 0x10 ∧ b = s.mbxBody m ∧ (b.length < 40 ∨ leAt b 2 2 ≠
      0)) :=
  ⟨⟨cmd infoUpdBegin.op [] [0], w0, starts_of (by decide +kernel), by decide +kernel⟩,
   ⟨cmd infoUpdBegin.op [] (man 0xA1), wUp .receiving, readManifest (man 0xA1), starts_of (by decide +kernel),
     by decide +kernel⟩,
   ⟨cmd infoUpdBegin.op [] (man 0xA2), wUp .receiving, starts_of (by decide +kernel), by decide +kernel,
     by decide +kernel, by intro m h; cases h; decide +kernel⟩,
   ⟨cmd infoUpdBegin.op [] (man 0xA2), w0, _, starts_of (by decide +kernel), by decide +kernel, by decide +kernel,
     rfl, Or.inl (by decide +kernel)⟩,
   ⟨{ cmd infoUpdPiece.op [0] [0] with buf := 1 }, w0, starts_of (by decide +kernel), by decide +kernel⟩,
   ⟨wUp .verified, readManifest (man 0xA1), by decide +kernel⟩,
   ⟨(wUp .receiving).setReg (updA 0x20) 1, readManifest (man 0xA1), 0, List.replicate 100 0, by decide +kernel⟩,
   ⟨wUp .receiving, readManifest (man 0xA1), 0, List.replicate 100 0, [], by decide +kernel, by decide +kernel,
     by decide +kernel, by decide +kernel, by decide +kernel, by decide +kernel, Or.inl (sm3_ne _)⟩,
   ⟨(wUp .receiving).modUpd (fun u =>
     { u with man := some { readManifest (man 0xA1) with pieceDigests := [sm3 (List.replicate 100 0)] } }),
     { readManifest (man 0xA1) with pieceDigests := [sm3 (List.replicate 100 0)] }, 0, List.replicate 100 0, sm3
     (List.replicate 100 0), rfl, by decide +kernel, by decide +kernel, by decide +kernel, by decide +kernel,
     by decide +kernel, rfl, rfl, by decide +kernel⟩,
   ⟨cmd infoUpdVerify.op [], w0, starts_of (by decide +kernel), by decide +kernel⟩,
   ⟨cmd infoUpdVerify.op [], wUp .received, starts_of (by decide +kernel), by decide +kernel⟩,
   ⟨(wUp .verifying).modUpd (fun u =>
     { u with verAcc := some 9, man := some { readManifest (man 0xA1) with imageDigest := [] } }), 9,
     { readManifest (man 0xA1) with imageDigest := [] }, by decide +kernel, by decide +kernel, by decide +kernel,
     by decide +kernel, sm3_ne _⟩,
   ⟨w0, 9, by decide +kernel⟩,
   ⟨cmd infoConfirm.op [], w0, starts_of (by decide +kernel), by decide +kernel⟩,
   ⟨cmd infoConfirm.op [], wUp .trial, starts_of (by decide +kernel), by decide +kernel⟩,
   ⟨cmd infoUpdFallback.op [], w0, starts_of (by decide +kernel), by decide +kernel⟩,
   ⟨cmd infoUpdFallback.op [], wUp .trial, starts_of (by decide +kernel), by decide +kernel⟩,
   ⟨cmd infoUpdAbort.op [], wUp .verifying, starts_of (by decide +kernel), by decide +kernel⟩,
   ⟨cmd infoUpdAbort.op [], wUp .verified, starts_of (by decide +kernel), by decide +kernel⟩,
   ⟨cmdOut infoUpdStatus.op  [] 96, w0, starts_of (by decide +kernel)⟩,
   ⟨wX 0 0x11 [], 0, by decide +kernel⟩,
   ⟨wX 0 0x10 (([0xFF, 0xFF] ++ List.replicate 38 0) ++ man 0xA1), 0, _, by decide +kernel, by decide +kernel,
     by decide +kernel, by decide +kernel, by decide +kernel, by decide +kernel, rfl, by decide +kernel,
     by decide +kernel, by decide +kernel, by decide +kernel, by decide +kernel, by decide +kernel,
     by decide +kernel⟩,
   ⟨wX 0 0x10 [], 0, _, by decide +kernel, by decide +kernel, by decide +kernel, by decide +kernel,
     by decide +kernel, by decide +kernel, rfl, by decide +kernel⟩⟩

/-- Hypotheses of `Obligations.ActivationTrialAndFallback`. -/
theorem witness_ActivationTrialAndFallback :
    (∃ (c : Desc) (s : State), Starts infoActivate c s ∧ (s.jrnStart c).mgmt.upd.st = .trial) ∧
    (∃ (c : Desc) (s : State) (n : _), Starts infoActivate c s ∧ (s.jrnStart c).mgmt.upd.st ≠ .trial ∧ (s.jrnStart
      c).swapStatus = n ∧ n ≠ stOk) ∧
    (∃ (c : Desc) (s : State), Starts infoActivate c s ∧ (s.jrnStart c).mgmt.upd.st ≠ .trial ∧ (s.jrnStart
      c).swapStatus = stOk) ∧
    (∃ (c : Desc) (s : State) (t : _), Starts infoActivateAt c s ∧ (s.jrnStart c).mgmt.upd.st ≠ .trial ∧ t = devAt
      (pair64 c.p0 c.p1) c.n2 ∧ (t < (s.jrnStart c).time.dev + devAt 1 0 ∨ (s.jrnStart c).time.dev + devAt 86400 0 <
      t)) ∧
    (∃ (c : Desc) (s : State) (t : _), Starts infoActivateAt c s ∧ (s.jrnStart c).mgmt.upd.st ≠ .trial ∧ t = devAt
      (pair64 c.p0 c.p1) c.n2 ∧ (s.jrnStart c).time.dev + devAt 1 0 ≤ t ∧ t ≤ (s.jrnStart c).time.dev + devAt 86400 0
      ∧ (s.jrnStart c).pon.subs.any (fun e => e.2.road != .disabled) = true) ∧
    (∃ (c : Desc) (s : State) (t : _), Starts infoActivateAt c s ∧ (s.jrnStart c).mgmt.upd.st ≠ .trial ∧ t = devAt
      (pair64 c.p0 c.p1) c.n2 ∧ (s.jrnStart c).time.dev + devAt 1 0 ≤ t ∧ t ≤ (s.jrnStart c).time.dev + devAt 86400 0
      ∧ (s.jrnStart c).pon.subs.any (fun e => e.2.road != .disabled) = false ∧ (s.jrnStart c).swapStatus = stOk) ∧
    (∃ (s : State), ((s.mgmt.upd.man = none ∨ s.mgmt.upd.st ≠ .verified ∨ s.flashOk = false ∨ s.mgmt.pair.st =
      .joining ∨ s.mgmt.pair.st = .broken))) ∧
    (∃ (s : State) (m : Manifest) (i : Nat), s.mgmt.upd.man = some m ∧ s.mgmt.upd.st = .swapping ∧ s.mgmt.upd.swapped
      = false ∧ i = s.mgmt.upd.blk ∧ s.flashOk = true) ∧
    (∃ (s : State) (i : Nat), (s.mgmt.upd.st ≠ .swapping ∨ i ≠ s.mgmt.upd.blk)) ∧
    (∃ (s : State), s.mgmt.upd.st = .swapping ∧ s.mgmt.upd.swapped = true ∧ s.mgmt.upd.openAt = none ∧ s.paused =
      false ∧ s.mgmt.cap = .idle ∧ s.windowsPast = true) ∧
    (∃ (s : State), (s.mgmt.upd.swapped = false ∨ s.windowsPast = false ∨ s.mgmt.cap = .waiting)) ∧
    (∃ (s : State) (sec : Nat) (ns : Nat), s.mgmt.upd.openAt = some (sec, ns) ∧ s.mgmt.upd.st = .swapping ∧ s.paused
      = false ∧ s.mgmt.upd.late = false ∧ devAt sec ns ≤ s.time.dev) ∧
    (∃ (s : State) (sec : Nat) (ns : Nat), s.mgmt.upd.openAt = some (sec, ns) ∧ s.time.dev < devAt sec ns) ∧
    (∃ (s : State), s.mgmt.upd.bootDue = true ∧ s.fld (updA 0x0) 18 16 = 0) ∧
    (∃ (s : State), s.mgmt.upd.bootDue = true ∧ s.fld (updA 0x0) 18 16 ≠ 0) ∧
    (∃ (s : State), s.mgmt.upd.bootDue = false) ∧
    (∃ (s : State), s.mgmt.upd.started = true ∧ (s.mgmt.upd.st = .swapping ∨ s.mgmt.upd.st = .trial)) ∧
    (∃ (s : State), s.mgmt.upd.started = true ∧ s.mgmt.upd.st = .swapping ∧ s.paused = false) ∧
    (∃ (s : State), s.mgmt.upd.started = true ∧ s.mgmt.upd.st = .swapping ∧ s.paused = true) ∧
    (∃ (s : State), s.mgmt.upd.started = false) ∧
    (∃ (s : State), s.mgmt.upd.started = true) ∧
    (∃ (s : State), s.mgmt.upd.cause ≠ 0 ∧ (s.mgmt.upd.st = .swapping ∨ s.mgmt.upd.st = .trial)) ∧
    (∃ (s : State), s.mgmt.upd.cause = 0) ∧
    (∃ (s : State) (i : Nat), s.mgmt.upd.st = .reverting ∧ s.mgmt.upd.blk = i + 2 ∧ s.flashOk = true) ∧
    (∃ (s : State), s.mgmt.upd.st = .reverting ∧ s.mgmt.upd.blk = 1 ∧ s.flashOk = true) ∧
    (∃ (s : State) (i : Nat), (s.mgmt.upd.st ≠ .reverting ∨ s.mgmt.upd.blk ≠ i + 1)) :=
  ⟨⟨cmd infoActivate.op [7], wUp .trial, starts_of (by decide +kernel), by decide +kernel⟩,
   ⟨cmd infoActivate.op [0], w0, stState, starts_of (by decide +kernel), by decide +kernel⟩,
   ⟨cmd infoActivate.op [0], wUp .verified, starts_of (by decide +kernel), by decide +kernel⟩,
   ⟨cmd infoActivateAt.op [0], w0, _, starts_of (by decide +kernel), by decide +kernel, rfl, by decide +kernel⟩,
   ⟨cmd infoActivateAt.op [86400, 0, 0, 7], wP, _, starts_of (by decide +kernel), by decide +kernel, rfl,
     by decide +kernel, by decide +kernel, by decide +kernel⟩,
   ⟨cmd infoActivateAt.op [1, 0, 0, 0], wUp .verified, _, starts_of (by decide +kernel), by decide +kernel, rfl,
     by decide +kernel, by decide +kernel, by decide +kernel, by decide +kernel⟩,
   ⟨w0, by decide +kernel⟩,
   ⟨wUp .swapping, readManifest (man 0xA1), 0, by decide +kernel⟩,
   ⟨w0, 0, by decide +kernel⟩,
   ⟨(wUp .swapping).modUpd (fun u => { u with swapped := true }), by decide +kernel⟩,
   ⟨w0, by decide +kernel⟩,
   ⟨(wUp .swapping).modUpd (fun u => { u with openAt := some (0, 0) }), 0, 0, by decide +kernel⟩,
   ⟨(wUp .swapping).modUpd (fun u => { u with openAt := some (0, 1) }), 0, 1, by decide +kernel⟩,
   ⟨((wUp .swapping).modUpd (fun u => { u with bootDue := true })).setFld (updA 0) 18 16 0, by decide +kernel⟩,
   ⟨((wUp .swapping).modUpd (fun u => { u with bootDue := true })).setFld (updA 0) 18 16 1, by decide +kernel⟩,
   ⟨w0, by decide +kernel⟩,
   ⟨(wUp .swapping).modUpd (fun u => { u with started := true }), by decide +kernel⟩,
   ⟨(wUp .swapping).modUpd (fun u => { u with started := true }), by decide +kernel⟩,
   ⟨((wUp .swapping).modUpd (fun u => { u with started := true })).setBit (mgtA 0) 0 true, by decide +kernel⟩,
   ⟨w0, by decide +kernel⟩,
   ⟨(wUp .trial).modUpd (fun u => { u with started := true }), by decide +kernel⟩,
   ⟨(wUp .trial).modUpd (fun u => { u with cause := 1 }), by decide +kernel⟩,
   ⟨w0, by decide +kernel⟩,
   ⟨(wUp .reverting).modUpd (fun u => { u with blk := 2 }), 0, by decide +kernel⟩,
   ⟨(wUp .reverting).modUpd (fun u => { u with blk := 1 }), by decide +kernel⟩,
   ⟨w0, 0, by decide +kernel⟩⟩

/-- Hypotheses of `Obligations.WaypointsTakenReturnedAndCleaned`. -/
theorem witness_WaypointsTakenReturnedAndCleaned :
    (∃ (s : State), (262144 ≤ s.mgmt.jrnSince ∨ 131072 ≤ s.mgmt.blkSince) ∧ s.mgmt.cap = .idle ∧ s.paused = false) ∧
    (∃ (s : State), (262144 ≤ s.mgmt.jrnSince ∨ 131072 ≤ s.mgmt.blkSince) ∧ (s.mgmt.cap ≠ .idle ∨ s.paused = true)) ∧
    (∃ (s : State), s.mgmt.jrnSince < 262144 ∧ s.mgmt.blkSince < 131072) ∧
    (∃ (s : State), s.mgmt.cap = .armed ∧ s.clk.phase = .afterSnapshot) ∧
    (∃ (s : State), (s.mgmt.cap ≠ .armed ∨ s.clk.phase ≠ .afterSnapshot)) ∧
    (∃ (s : State), s.mgmt.cap = .waiting ∧ s.capWaits = false) ∧
    (∃ (s : State), (s.mgmt.cap ≠ .waiting ∨ s.capWaits = true)) ∧
    (∃ (s : State) (a : Nat) (msc : Nat) (k : Nat) (l : List Nat), s.mgmt.cap = .writing a msc l ∧ s.mgmt.upd.st ≠
      .trial ∧ s.flashOk = true ∧ k ≤ 114688 ∧ s.mgmt.capAcc = none ∧ s.mgmt.capHeld = false) ∧
    (∃ (s : State) (a : Nat) (msc : Nat) (l : List Nat), s.mgmt.cap = .writing a msc l ∧ s.mgmt.capAcc = none ∧
      s.mgmt.capHeld = false) ∧
    (∃ (s : State), (s.mgmt.cap = .idle ∨ s.mgmt.cap = .armed ∨ s.mgmt.cap = .waiting)) ∧
    (∃ (c : Desc) (s : State), Starts infoTakeWaypoint c s ∧ ((s.jrnStart c).mgmt.cap ≠ .idle ∨ (s.jrnStart
      c).flashOk = false)) ∧
    (∃ (c : Desc) (s : State), Starts infoTakeWaypoint c s ∧ (s.jrnStart c).mgmt.cap = .idle ∧ (s.jrnStart c).flashOk
      = true ∧ c.n0 = 1 ∧ 4 ≤ wpPinned (s.jrnStart c).wpMap) ∧
    (∃ (c : Desc) (s : State), Starts infoTakeWaypoint c s ∧ (s.jrnStart c).mgmt.cap = .idle ∧ (s.jrnStart c).flashOk
      = true ∧ (c.n0 = 0 ∨ c.n0 = 1 ∧ wpPinned (s.jrnStart c).wpMap < 4)) ∧
    (∃ (c : Desc) (s : State), Starts infoReturnWaypoint c s ∧ wpFind (s.jrnStart c).wpMap (pair64 c.p0 c.p1) = none) ∧
    (∃ (c : Desc) (s : State) (k : _) (w : _), Starts infoReturnWaypoint c s ∧ wpFind (s.jrnStart c).wpMap (pair64
      c.p0 c.p1) = some (k, w) ∧ (s.jrnStart c).mgmt.returns ≠ []) ∧
    (∃ (c : Desc) (s : State) (k : _) (w : _) (e : _), Starts infoReturnWaypoint c s ∧ wpFind (s.jrnStart c).wpMap
      (pair64 c.p0 c.p1) = some (k, w) ∧ (s.jrnStart c).mgmt.returns = [] ∧ (s.jrnStart c).resolveE none c = .ok e ∧
      (s.jrnStart c).pendRoom = true ∧ (w.wpf < (s.jrnStart c).runWpfMin ∨ (s.jrnStart c).runWpf < w.wpf)) ∧
    (∃ (c : Desc) (s : State) (k : _) (w : _) (e : _), Starts infoReturnWaypoint c s ∧ wpFind (s.jrnStart c).wpMap
      (pair64 c.p0 c.p1) = some (k, w) ∧ (s.jrnStart c).mgmt.returns = [] ∧ (s.jrnStart c).resolveE none c = .ok e ∧
      (s.jrnStart c).pendRoom = true ∧ (s.jrnStart c).runWpfMin ≤ w.wpf ∧ w.wpf ≤ (s.jrnStart c).runWpf) ∧
    (∃ (c : Desc) (s : State), Starts infoPinWaypoint c s ∧ wpFind (s.jrnStart c).wpMap (pair64 c.p0 c.p1) = none) ∧
    (∃ (c : Desc) (s : State) (k : _) (w : _), Starts infoPinWaypoint c s ∧ wpFind (s.jrnStart c).wpMap (pair64 c.p0
      c.p1) = some (k, w) ∧ c.n2 = 1 ∧ w.pinned = false ∧ 4 ≤ wpPinned (s.jrnStart c).wpMap) ∧
    (∃ (c : Desc) (s : State) (k : _) (w : _), Starts infoPinWaypoint c s ∧ wpFind (s.jrnStart c).wpMap (pair64 c.p0
      c.p1) = some (k, w) ∧ (c.n2 = 0 ∨ w.pinned = true ∨ wpPinned (s.jrnStart c).wpMap < 4)) ∧
    (∃ (c : Desc) (s : State), Starts infoListWaypoints c s ∧ ((∀ k < 8, (s.jrnStart c).wp k = none))) ∧
    (∃ (c : Desc) (s : State), Starts infoListWaypoints c s) ∧
    (∃ (c : Desc) (s : State), Starts infoReleaseHold c s ∧ (s.jrnStart c).mgmt.pwr.held = false) ∧
    (∃ (c : Desc) (s : State) (e : _), Starts infoReleaseHold c s ∧ (s.jrnStart c).mgmt.pwr.held = true ∧ (s.jrnStart
      c).resolveE none c = .ok e ∧ (s.jrnStart c).pendRoom = true) ∧
    (∃ (c : Desc) (s : State) (n : _), Starts infoFactoryClean c s ∧ (s.jrnStart c).cleanStatus (readToken c.inp) = n
      ∧ n ≠ stOk) :=
  ⟨⟨{ w0 with mgmt := { w0.mgmt with jrnSince := 262144 } }, by decide +kernel⟩,
   ⟨{ w0 with mgmt := { w0.mgmt with blkSince := 131072, cap := .armed } }, by decide +kernel⟩,
   ⟨{ w0 with mgmt := { w0.mgmt with jrnSince := 262143, blkSince := 131071 } }, by decide +kernel⟩,
   ⟨{ w0 with mgmt := { w0.mgmt with cap := .armed } }, by decide +kernel⟩,
   ⟨w0, by decide +kernel⟩,
   ⟨{ w0 with mgmt := { w0.mgmt with cap := .waiting } }, by decide +kernel⟩,
   ⟨w0, by decide +kernel⟩,
   ⟨{ w0 with mgmt := { w0.mgmt with cap := .writing 3 900 [] } }, 3, 900, 114688, [], by decide +kernel⟩,
   ⟨{ w0 with mgmt := { w0.mgmt with cap := .writing 3 900 [] } }, 3, 900, [], by decide +kernel⟩,
   ⟨w0, by decide +kernel⟩,
   ⟨cmd infoTakeWaypoint.op [0], { w0 with mgmt := { w0.mgmt with cap := .armed } }, starts_of (by decide +kernel),
     by decide +kernel⟩,
   ⟨cmd infoTakeWaypoint.op [1], wW4, starts_of (by decide +kernel), by decide +kernel⟩,
   ⟨cmd infoTakeWaypoint.op [1], wWp, starts_of (by decide +kernel), by decide +kernel⟩,
   ⟨cmd infoReturnWaypoint.op [4], wWp, starts_of (by decide +kernel), by decide +kernel⟩,
   ⟨cmd infoReturnWaypoint.op [5], { wWp with mgmt := { wWp.mgmt with returns := [(5, false, {})] } }, 1, wpt 5
     false, starts_of (by decide +kernel), by decide +kernel⟩,
   ⟨cmd infoReturnWaypoint.op [5],
     { wWp with mgmt := { wWp.mgmt with wps := [(1, some { wpt 5 false with wpf := 0 })], upd := { wWp.mgmt.upd with run := some { readManifest (man 0xA1) with wpfReadMin := 1 } } } },
     1, { wpt 5 false with wpf := 0 },
     ((({ wWp with mgmt := { wWp.mgmt with wps := [(1, some { wpt 5 false with wpf := 0 })], upd := { wWp.mgmt.upd with run := some { readManifest (man 0xA1) with wpfReadMin := 1 } } } }).jrnStart
     (cmd infoReturnWaypoint.op [5])).resolveE none (cmd infoReturnWaypoint.op [5])).toOption.getD 0, starts_of
     (by decide +kernel), by decide +kernel⟩,
   ⟨cmd infoReturnWaypoint.op [5, 0, 1], wWp, 1, wpt 5 false, (((wWp).jrnStart (cmd infoReturnWaypoint.op [5, 0,
     1])).resolveE none (cmd infoReturnWaypoint.op [5, 0, 1])).toOption.getD 0, starts_of (by decide +kernel),
     by decide +kernel⟩,
   ⟨cmd infoPinWaypoint.op [4, 0, 1], wWp, starts_of (by decide +kernel), by decide +kernel⟩,
   ⟨cmd infoPinWaypoint.op [9, 0, 1], wW4, 5, wpt 9 false, starts_of (by decide +kernel), by decide +kernel⟩,
   ⟨cmd infoPinWaypoint.op [5, 0, 1], wWp, 1, wpt 5 false, starts_of (by decide +kernel), by decide +kernel⟩,
   ⟨cmdOut infoListWaypoints.op  [] 256, w0, starts_of (by decide +kernel), by decide +kernel⟩,
   ⟨cmdOut infoListWaypoints.op  [] 256, wWp, starts_of (by decide +kernel)⟩,
   ⟨cmd infoReleaseHold.op [], w0, starts_of (by decide +kernel), by decide +kernel⟩,
   ⟨cmd infoReleaseHold.op [], w0.modPwr (fun p => { p with held := true }), (((w0.modPwr (fun p =>
     { p with held := true })).jrnStart (cmd infoReleaseHold.op [])).resolveE none (cmd infoReleaseHold.op
     [])).toOption.getD 0, starts_of (by decide +kernel), by decide +kernel⟩,
   ⟨cmd infoFactoryClean.op [] (List.replicate 96 0), w0, stBadArg, starts_of (by decide +kernel), by decide +kernel⟩⟩

/-- Hypotheses of `Obligations.LanesLeaveIdleTrainAndFail`. -/
theorem witness_LanesLeaveIdleTrainAndFail :
    (∃ (s : State) (l : Nat), l < 516 ∧ s.laneSt l = lnIdle ∧ s.laneWanted l = true) ∧
    (∃ (s : State) (l : Nat), (s.laneSt l ≠ lnIdle ∨ s.laneWanted l = false)) ∧
    (∃ (s : State) (l : Nat), l < 516 ∧ s.laneSt l = lnWaking ∧ (s.lane l).fromExit = false) ∧
    (∃ (s : State) (l : Nat), s.laneSt l ≠ lnWaking) ∧
    (∃ (s : State) (l : Nat), l < 516 ∧ s.laneSt l = lnTraining ∧ continuous l = true) ∧
    (∃ (s : State) (l : Nat), SMap.wf regReset s.regs = true ∧ l < 384) ∧
    (∃ (s : State) (l : Nat), s.laneSt l ≠ lnTraining) ∧
    (∃ (s : State) (l : Nat) (v : Nat) (h : Nat), continuous l = true ∧ s.laneSt l = lnWaking ∧ (s.lane l).fromExit =
      true ∧ (s.recordMargin l v h).vThr l ≤ v ∧ (s.recordMargin l v h).hThr l ≤ h) ∧
    (∃ (s : State) (l : Nat) (v : Nat) (h : Nat), continuous l = true ∧ s.laneSt l = lnWaking ∧ (s.lane l).fromExit =
      true ∧ (v < (s.recordMargin l v h).vThr l ∨ h < (s.recordMargin l v h).hThr l)) ∧
    (∃ (s : State) (l : Nat) (w : W64) (t : State), continuous l = true ∧ s.laneSt l = lnUp ∧ s.draw = (w, t)) ∧
    (∃ (s : State) (l : Nat) (v : Nat) (h : Nat), s.bit (lneA l 4) 5 = false ∧ (v < s.vThr l ∨ h < s.hThr l) ∧
      s.marginCount l ≤ (s.lane l).low + 1) ∧
    (∃ (s : State) (l : Nat) (v : Nat) (h : Nat), s.bit (lneA l 4) 5 = false ∧ s.vThr l ≤ v ∧ s.hThr l ≤ h) ∧
    (∃ (s : State) (l : Nat), (continuous l = false ∨ s.laneSt l = lnTraining ∨ s.laneSt l = lnIdle ∨ s.laneSt l =
      lnLost)) ∧
    (∃ (s : State) (l : Nat), (l = 514 ∨ l = 515) ∧ s.laneSt l = lnUp ∧ s.bit (lneA l 4) 4 = true) ∧
    (∃ (s : State) (l : Nat), l < 512 ∧ s.laneSt l = lnUp) ∧
    (∃ (s : State) (l : Nat), s.laneSt l ≠ lnUp) ∧
    (∃ (s : State) (l : Nat), l < 384 ∧ s.laneSt l ≠ lnLost) ∧
    (∃ (s : State), s.laneSt 514 ≠ lnLost) ∧
    (∃ (s : State) (l : Nat), (516 ≤ l ∨ s.laneSt l = lnLost)) ∧
    (∃ (s : State) (l : Nat), (l = 514 ∨ l = 515) ∧ s.laneSt l = lnUp) ∧
    (∃ (s : State) (l : Nat), (l < 514 ∨ s.laneSt l ≠ lnUp)) ∧
    (∃ (s : State) (l : Nat), (l = 512 ∨ l = 513) ∧ s.laneSt l = lnUp ∧ s.mgmt.pair.st ≠ .unpaired) ∧
    (∃ (s : State) (l : Nat), (l < 512 ∨ s.laneSt l ≠ lnUp)) :=
  ⟨⟨wP, 0, by decide +kernel⟩,
   ⟨w0, 1, by decide +kernel⟩,
   ⟨(w0.setLaneSt 515 2), 515, by decide +kernel⟩,
   ⟨w0, 0, by decide +kernel⟩,
   ⟨(w0.setLaneSt 515 3), 515, by decide +kernel⟩,
   ⟨w0, 383, by decide +kernel⟩,
   ⟨w0, 0, by decide +kernel⟩,
   ⟨(w0.setLaneSt 514 2).modLane 514 (fun x => { x with fromExit := true }), 514, 65535, 65535, by decide +kernel⟩,
   ⟨(w0.setLaneSt 514 2).modLane 514 (fun x => { x with fromExit := true }), 514, 0, 0, by decide +kernel⟩,
   ⟨(w0.setLaneSt 512 4), 512, (((w0.setLaneSt 512 4)).draw).1, (((w0.setLaneSt 512 4)).draw).2, by decide +kernel,
     by decide +kernel, rfl⟩,
   ⟨(w0.setReg (lneA 512 0xC) 0x101).modLane 512 (fun x => { x with low := 255 }), 512, 0, 0, by decide +kernel⟩,
   ⟨w0, 512, 255, 255, by decide +kernel⟩,
   ⟨w0, 0, by decide +kernel⟩,
   ⟨(w0.setLaneSt 515 4).setBit (lneA 515 4) 4 true, 515, by decide +kernel⟩,
   ⟨(w0.setLaneSt 511 4), 511, by decide +kernel⟩,
   ⟨w0, 0, by decide +kernel⟩,
   ⟨w0, 383, by decide +kernel⟩,
   ⟨w0, by decide +kernel⟩,
   ⟨w0, 516, by decide +kernel⟩,
   ⟨(w0.setLaneSt 514 4), 514, by decide +kernel⟩,
   ⟨w0, 513, by decide +kernel⟩,
   ⟨(wPr .paired .active 3).setLaneSt 513 4, 513, by decide +kernel⟩,
   ⟨w0, 511, by decide +kernel⟩⟩

/-- Hypotheses of `Obligations.UplinkPortsAndLaneTests`. -/
theorem witness_UplinkPortsAndLaneTests :
    (∃ (c : Desc) (s : State) (u : _) (w : _), Starts infoConfigPort c s ∧ u = c.n0 % 128 ∧ w = 2 ^ (c.n0 / 256 % 4)
      ∧ ((s.jrnStart c).portsAt u w).any (fun k => ((s.jrnStart c).uport k).road != .disabled) = true) ∧
    (∃ (c : Desc) (s : State) (u : _) (w : _), Starts infoConfigPort c s ∧ u = c.n0 % 128 ∧ w = 2 ^ (c.n0 / 256 % 4)
      ∧ (s.jrnStart c).portsAt u w = [] ∧ c.n0 / 2 ^ 15 = 1) ∧
    (∃ (c : Desc) (s : State) (u : _) (w : _), Starts infoConfigPort c s ∧ u = c.n0 % 128 ∧ w = 2 ^ (c.n0 / 256 % 4)
      ∧ (s.jrnStart c).portsAt u w = [] ∧ c.n0 / 2 ^ 15 ≠ 1) ∧
    (∃ (c : Desc) (s : State) (u : _) (w : _), Starts infoConfigPort c s ∧ u = c.n0 % 128 ∧ w = 2 ^ (c.n0 / 256 % 4)
      ∧ (s.jrnStart c).portsAt u w = [u] ∧ ((s.jrnStart c).uport u).road = .disabled ∧ c.n0 / 2 ^ 15 = 1) ∧
    (∃ (c : Desc) (s : State), Starts infoPortUp c s ∧ ((s.jrnStart c).uport c.n0).cfg = none) ∧
    (∃ (c : Desc) (s : State) (k : _), Starts infoPortUp c s ∧ ((s.jrnStart c).uport c.n0).cfg = some k ∧
      ((s.jrnStart c).uport c.n0).road = .enabled) ∧
    (∃ (c : Desc) (s : State) (k : _), Starts infoPortUp c s ∧ ((s.jrnStart c).uport c.n0).cfg = some k ∧
      ((s.jrnStart c).uport c.n0).road = .disabled) ∧
    (∃ (c : Desc) (s : State) (k : _), Starts infoPortUp c s ∧ ((s.jrnStart c).uport c.n0).cfg = some k ∧
      ((s.jrnStart c).uport c.n0).road = .draining) ∧
    (∃ (c : Desc) (s : State), Starts infoPortDown c s ∧ ((s.jrnStart c).uport c.n0).cfg = none) ∧
    (∃ (c : Desc) (s : State) (k : _), Starts infoPortDown c s ∧ ((s.jrnStart c).uport c.n0).cfg = some k ∧
      ((s.jrnStart c).uport c.n0).road = .disabled) ∧
    (∃ (c : Desc) (s : State) (k : _), Starts infoPortDown c s ∧ ((s.jrnStart c).uport c.n0).cfg = some k ∧
      ((s.jrnStart c).uport c.n0).road = .resuming) ∧
    (∃ (c : Desc) (s : State) (k : _), Starts infoPortDown c s ∧ ((s.jrnStart c).uport c.n0).cfg = some k ∧
      ((s.jrnStart c).uport c.n0).road = .enabled) ∧
    (∃ (s : State) (u : Nat), (s.uport u).road = .resuming) ∧
    (∃ (s : State) (u : Nat) (w : Nat) (f : Nat) (m : Nat), (s.uport u).road = .draining ∧ (s.uport u).cfg = some (w,
      f, m)) ∧
    (∃ (s : State) (u : Nat), ((s.uport u).road = .enabled ∨ (s.uport u).road = .disabled)) ∧
    (∃ (s : State) (l : Nat), s.stage = 6 ∧ l < 516) ∧
    (∃ (s : State) (l : Nat) (w : W32), s.stage = 6 ∧ l < 516 ∧ w.toNat % 256 / 16 * 16 + w.toNat % 8 ≠ 0 ∧
      (s.testable l = false ∨ s.laneSt l = lnLost)) ∧
    (∃ (s : State) (l : Nat) (w : W32), s.stage = 6 ∧ l < 516 ∧ w.toNat % 256 / 16 * 16 + w.toNat % 8 ≠ 0 ∧
      s.testable l = true ∧ s.laneSt l ≠ lnLost ∧ testValue l w.toNat ≠ 0) ∧
    (∃ (s : State), s.stage ≠ 6) ∧
    (∃ (s : State) (l : Nat), s.stage = 6 ∧ l < 516 ∧ s.bit (lneA l 0x50) 6 = true) ∧
    (∃ (s : State) (l : Nat), s.bit (lneA l 0x50) 6 = false) ∧
    (∃ (s : State) (l : Nat), l < 516 ∧ s.laneSt l = lnTest ∧ s.bit (lneA l 0x50) 7 = true) ∧
    (∃ (s : State) (l : Nat), (s.laneSt l ≠ lnTest ∨ s.bit (lneA l 0x50) 7 = false)) ∧
    (∃ (s : State) (l : Nat), l < 516 ∧ s.bit (lneA l 0x58) 16 = true) ∧
    (∃ (s : State) (l : Nat), s.bit (lneA l 0x58) 16 = false) :=
  ⟨⟨cmd infoConfigPort.op [0, 64], wC, _, _, starts_of (by decide +kernel), rfl, rfl, by decide +kernel⟩,
   ⟨cmd infoConfigPort.op [127 + 2 ^ 15, 0], wC, _, _, starts_of (by decide +kernel), rfl, rfl, by decide +kernel,
     by decide +kernel⟩,
   ⟨cmd infoConfigPort.op [16 + 4096 + 256 * 2, 9728], wC, _, _, starts_of (by decide +kernel), rfl, rfl,
     by decide +kernel, by decide +kernel⟩,
   ⟨cmd infoConfigPort.op [4 + 2 ^ 15, 0], wC, _, _, starts_of (by decide +kernel), rfl, rfl, by decide +kernel,
     by decide +kernel, by decide +kernel⟩,
   ⟨cmd infoPortUp.op [127], wC, starts_of (by decide +kernel), by decide +kernel⟩,
   ⟨cmd infoPortUp.op [0], wC, (1, 0, 1518), starts_of (by decide +kernel), by decide +kernel⟩,
   ⟨cmd infoPortUp.op [4], wC, (1, 0, 1518), starts_of (by decide +kernel), by decide +kernel⟩,
   ⟨cmd infoPortUp.op [8], wC, (1, 0, 1518), starts_of (by decide +kernel), by decide +kernel⟩,
   ⟨cmd infoPortDown.op [127], wC, starts_of (by decide +kernel), by decide +kernel⟩,
   ⟨cmd infoPortDown.op [4], wC, (1, 0, 1518), starts_of (by decide +kernel), by decide +kernel⟩,
   ⟨cmd infoPortDown.op [12], wC, (1, 0, 1518), starts_of (by decide +kernel), by decide +kernel⟩,
   ⟨cmd infoPortDown.op [0], wC, (1, 0, 1518), starts_of (by decide +kernel), by decide +kernel⟩,
   ⟨wC, 12, by decide +kernel⟩,
   ⟨wC, 8, 1, 0, 1518, by decide +kernel⟩,
   ⟨wC, 4, by decide +kernel⟩,
   ⟨w0, 515, by decide +kernel⟩,
   ⟨wP, 0, 1, by decide +kernel⟩,
   ⟨w0, 0, 1, by decide +kernel⟩,
   ⟨State.reset, by decide +kernel⟩,
   ⟨w0.setBit (lneA 515 0x50) 6 true, 515, by decide +kernel⟩,
   ⟨w0, 0, by decide +kernel⟩,
   ⟨(w0.setLaneSt 515 5).setBit (lneA 515 0x50) 7 true, 515, by decide +kernel⟩,
   ⟨w0, 0, by decide +kernel⟩,
   ⟨w0.setBit (lneA 515 0x58) 16 true, 515, by decide +kernel⟩,
   ⟨w0, 0, by decide +kernel⟩⟩

/-- Hypotheses of `Obligations.SuppliesAndResets`. -/
theorem witness_SuppliesAndResets :
    (∃ (s : State), s.stage ≠ 7 ∧ s.mgmt.pwr.testModeN = true ∧ s.mgmt.pwr.warning = false ∧ s.mgmt.pwr.erase = false
      ∧ s.time.servo ≠ .locked) ∧
    (∃ (s : State), s.stage = 7) ∧
    (∃ (s : State), s.mgmt.pwr.warning = true) ∧
    (∃ (s : State) (k : Nat), k ≠ 3 ∧ s.mgmt.pwr.resetDue ≠ k) ∧
    (∃ (s : State) (k : Nat), k ≠ 3 ∧ s.mgmt.sens.trip = true) ∧
    (∃ (s : State), SMap.wf regReset s.regs = true ∧ s.mgmt.pwr.warning = false ∧ s.stage ≠ 7) ∧
    (∃ (s : State), SMap.wf regReset s.regs = true ∧ s.mgmt.pwr.warning = false ∧ s.stage ≠ 7) ∧
    (∃ (s : State), s.mgmt.pwr.warning = true) ∧
    (∃ (s : State), s.mgmt.pwr.warning = true ∧ s.mgmt.pwr.brown = false) ∧
    (∃ (s : State), (s.mgmt.pwr.warning = false ∨ s.mgmt.pwr.brown = true)) ∧
    (∃ (s : State) (b : Bool), s.mgmt.pwr.onBkp ≠ b) ∧
    (∃ (s : State) (b : Bool), s.mgmt.pwr.onBkp = b) ∧
    (∃ (s : State), s.mgmt.pwr.onBkp = true) ∧
    (∃ (s : State), s.mgmt.pwr.onBkp = false) ∧
    (∃ (s : State), s.stage = 7) ∧
    (∃ (s : State), s.stage ≠ 7) :=
  ⟨⟨w0, by decide +kernel⟩,
   ⟨(w0.setReg 0xF0000 7), by decide +kernel⟩,
   ⟨w0.modPwr (fun p => { p with warning := true }), by decide +kernel⟩,
   ⟨w0, 4, by decide +kernel⟩,
   ⟨w0.modSens (fun x => { x with trip := true }), 4, by decide +kernel⟩,
   ⟨w0, by decide +kernel⟩,
   ⟨w0, by decide +kernel⟩,
   ⟨w0.modPwr (fun p => { p with warning := true }), by decide +kernel⟩,
   ⟨w0.modPwr (fun p => { p with warning := true }), by decide +kernel⟩,
   ⟨w0, by decide +kernel⟩,
   ⟨w0, true, by decide +kernel⟩,
   ⟨w0, false, by decide +kernel⟩,
   ⟨w0.modPwr (fun p => { p with onBkp := true }), by decide +kernel⟩,
   ⟨w0, by decide +kernel⟩,
   ⟨(w0.setReg 0xF0000 7), by decide +kernel⟩,
   ⟨w0, by decide +kernel⟩⟩

/-- Hypotheses of `Obligations.StartUpPassesThroughItsStages`. -/
theorem witness_StartUpPassesThroughItsStages :
    (∃ (s : State), s.mayBoot 0 = false) ∧
    (∃ (s : State) (r : RomRes), s.mayBoot 0 = true ∧ r.romOk = true ∧ r.otpCorr = none ∧ r.otpUncorr = none ∧
      r.loader0 = true ∧ s.mgmt.pwr.flashOwn = false ∧ (s.health 9 0).st = .active) ∧
    (∃ (s : State) (r : RomRes) (n : Nat), s.mayBoot 0 = true ∧ r.otpUncorr = some (n, true)) ∧
    (∃ (s : State) (r : RomRes), s.mayBoot 0 = true ∧ r.otpUncorr = none ∧ s.mgmt.pwr.flashOwn = true) ∧
    (∃ (s : State) (r : RomRes), s.mayBoot 0 = true ∧ r.otpUncorr = none ∧ r.loader0 = false ∧ r.loader1 = false) ∧
    (∃ (s : State), s.mayBoot 1 = false) ∧
    (∃ (s : State) (r : LoaderRes), s.mayBoot 1 = true ∧ s.mgmt.upd.st = .idle ∧ r.image0 = true ∧ r.image1 = true ∧
      r.cert = true ∧ (s.health 9 0).st = .active) ∧
    (∃ (s : State) (r : LoaderRes), s.mayBoot 1 = true ∧ s.mgmt.upd.st = .idle ∧ r.image0 = false ∧ r.image1 = false) ∧
    (∃ (s : State), s.mayBoot 2 = false) ∧
    (∃ (s : State) (r : PostRes), s.mayBoot 2 = true ∧ 6 ∈ r.dies) ∧
    (∃ (s : State) (r : PostRes), s.mayBoot 2 = true ∧ 6 ∉ r.dies ∧ r.mramBoth = true) ∧
    (∃ (s : State) (r : PostRes), s.mayBoot 2 = true ∧ 6 ∉ r.dies ∧ r.mramBoth = false ∧ r.mgmtAll = true) ∧
    (∃ (s : State), s.mayBoot 2 = true) ∧
    (∃ (s : State), s.mayBoot 3 = false) ∧
    (∃ (s : State), s.mayBoot 3 = true) ∧
    (∃ (s : State), (s.mayBoot 4 = false ∨ s.mgmt.pwr.stageDone = true)) ∧
    (∃ (s : State), s.mayBoot 4 = true ∧ s.mgmt.pwr.stageDone = false) ∧
    (∃ (s : State), SMap.wf Sub.dflt s.pon.subs = true) ∧
    (∃ (s : State), (s.mayBoot 4 = false ∨ s.mgmt.pwr.stageDone = false ∨ s.entriesDone = false)) ∧
    (∃ (s : State), s.mayBoot 4 = true ∧ s.mgmt.pwr.stageDone = true ∧ s.entriesDone = true) :=
  ⟨⟨w0, by decide +kernel⟩,
   ⟨(w0.setReg 0xF0000 0), ⟨true, none, none, true, true⟩, by decide +kernel⟩,
   ⟨(w0.setReg 0xF0000 0), ⟨true, none, some (5, true), true, true⟩, 5, by decide +kernel⟩,
   ⟨(w0.setReg 0xF0000 0).modPwr (fun p => { p with flashOwn := true }), ⟨true, none, none, true, true⟩,
     by decide +kernel⟩,
   ⟨(w0.setReg 0xF0000 0), ⟨true, none, none, false, false⟩, by decide +kernel⟩,
   ⟨w0, by decide +kernel⟩,
   ⟨(w0.setReg 0xF0000 1), ⟨true, true, true, true⟩, by decide +kernel⟩,
   ⟨(w0.setReg 0xF0000 1), ⟨false, false, true, true⟩, by decide +kernel⟩,
   ⟨w0, by decide +kernel⟩,
   ⟨(w0.setReg 0xF0000 2), ⟨[], [6], false, false, []⟩, by decide +kernel⟩,
   ⟨(w0.setReg 0xF0000 2), ⟨[], [], true, false, []⟩, by decide +kernel⟩,
   ⟨(w0.setReg 0xF0000 2), ⟨[], [], false, true, []⟩, by decide +kernel⟩,
   ⟨(w0.setReg 0xF0000 2), by decide +kernel⟩,
   ⟨w0, by decide +kernel⟩,
   ⟨(w0.setReg 0xF0000 3), by decide +kernel⟩,
   ⟨w0, by decide +kernel⟩,
   ⟨(w0.setReg 0xF0000 4), by decide +kernel⟩,
   ⟨wP, by decide +kernel⟩,
   ⟨w0, by decide +kernel⟩,
   ⟨(w0.setReg 0xF0000 4).modPwr (fun p => { p with stageDone := true }), by decide +kernel⟩⟩

/-- Hypotheses of `Obligations.CompletionWritesRecordAndEntry`. -/
theorem witness_CompletionWritesRecordAndEntry :
    (∃ (s : State) (n : Nat) (f : Fin) (j : Jrn), s.jrnFind n = some j ∧ j.exec = none ∧ (s.complete n f).jrnFind n ≠
      none) ∧
    (∃ (s : State) (n : Nat) (f : Fin) (j : Jrn), s.jrnFind n = some j ∧ j.exec = none ∧ f.status ≠ stInternal ∧
      s.bit (cmdA 0x0) 3 = false ∧ (s.ring j.desc.ring).discard = false ∧ ((∀ k ∈ s.host.jrn, k.desc.ring =
      j.desc.ring → k.exec = none → knownOp k.desc.opcode = true ∨ k.desc.acc = n))) ∧
    (∃ (s : State) (n : Nat) (j : Jrn) (e : ExecRec), s.jrnFind n = some j ∧ j.exec = some e ∧ ((∀ k ∈ s.host.jrn,
      k.desc.ring = j.desc.ring → k.exec = none → knownOp k.desc.opcode = true ∨ k.desc.acc = n))) ∧
    (∃ (s : State) (n : Nat), s.jrnFind n = none) :=
  ⟨⟨wJ, 9, ⟨0, 0, 0, none⟩, ⟨cmd 0x0101 [4], true, none, false, false, none, none⟩, by decide +kernel⟩,
   ⟨wJ, 9, ⟨0, 0, 0, none⟩, ⟨cmd 0x0101 [4], true, none, false, false, none, none⟩, by decide +kernel⟩,
   ⟨wJ.complete 9 ⟨0, 0, 0, none⟩, 9, ⟨cmd 0x0101 [4], false, some ⟨0, 1000, 0, 0⟩, false, false, none, none⟩, ⟨0,
     1000, 0, 0⟩, by decide +kernel⟩,
   ⟨w0, 9, by decide +kernel⟩⟩


/-! Premises that rest on the free signature check (Config.sm2Check) hold where the check passes or fails. -/

theorem ofLe_leBytes (n : Nat) : ∀ x, x < 256 ^ n → ofLe (leBytes n x) = x := by
  induction n with
  | zero => intro x h; simp only [Nat.pow_zero] at h; simp only [leBytes, ofLe]; omega
  | succ n ih =>
    intro x h
    have e : x / 256 < 256 ^ n := by rw [Nat.pow_succ] at h; omega
    simp only [leBytes, ofLe, ih _ e]
    omega
/-- The bytes of a token (R443) with this device's serial number and nonce 77. -/
def tok (magic : Nat) : List Nat :=
  leBytes 4 magic ++ [0, 0, 0, 0, 0, 0, 0, 0, 0, 0, 0, 0] ++ leBytes 8 Config.serial ++ leBytes 8 77 ++ List.replicate 64 0
theorem tok_serial (m : Nat) : (readToken (tok m)).serial = Config.serial := by
  show ofLe (leBytes 8 Config.serial) = Config.serial
  exact ofLe_leBytes 8 _ Config.serialWord.isLt
theorem tok_nonce (m : Nat) : (readToken (tok m)).nonce = 77 := by
  simp [readToken, tok, leAt, leBytes, sliceB, ofLe]
/-- Nonce 77 is outstanding and the clear key is there; and with a ledger that is full. -/
def wTk : State := w0.modRec (fun r => { r with nonce := some (77, 2000), clearKey := some [1] })
def wTkFull : State := wTk.modRec (fun r => { r with ledger := List.replicate clearLedgerMax ⟨0, 0, 0, 0, 0, []⟩ })
theorem tok_clear (h : ∀ k b g, Config.sm2Check k b g = true) {s : State} (k : List Nat) (n : s.nonceOk 77 = true)
    (e : s.mgmt.rcd.clearKey = some k) : s.tokenStatus (readToken (tok 0x434C0001)) = stOk := by
  have a : (readToken (tok 0x434C0001)).magic = 0x434C0001 ∧ (readToken (tok 0x434C0001)).flags = 0 ∧
    (readToken (tok 0x434C0001)).zero = 0 ∧ (readToken (tok 0x434C0001)).first = 0 ∧
    (readToken (tok 0x434C0001)).count = 0 := by decide +kernel
  simp [State.tokenStatus, tok_serial, tok_nonce, n, h, e, a]
theorem tok_clean (h : ∀ k b g, Config.sm2Check k b g = true) {s : State} (n : s.nonceOk 77 = true) :
    s.cleanStatus (readToken (tok 0x46430001)) = stOk := by
  have a : (readToken (tok 0x46430001)).magic = 0x46430001 ∧ (readToken (tok 0x46430001)).flags = 0 ∧
    (readToken (tok 0x46430001)).zero = 0 ∧ (readToken (tok 0x46430001)).first = 0 ∧
    (readToken (tok 0x46430001)).count = 0 := by decide +kernel
  simp [State.cleanStatus, tok_serial, tok_nonce, n, h, a]

/-- Hypotheses on a valid TOKEN of `Obligations.LockstepFencingAndTakeover`. -/
theorem witness_Token (h : ∀ k b g, Config.sm2Check k b g = true) :
    (∃ (s : State) (k : TokenIn), s.tokenOk k = true ∧ k.serial ≠ Config.serial ∧ s.mgmt.pair.role = .active) ∧
    (∃ (s : State) (k : TokenIn), s.tokenOk k = true ∧ k.serial = Config.serial ∧ s.mgmt.pair.role = .standby) ∧
    (∃ (s : State) (k : TokenIn), s.tokenOk k = true ∧ k.serial = Config.serial ∧ s.mgmt.pair.role = .active) ∧
    ∃ (s : State) (k : TokenIn), s.tokenOk k = true ∧ k.serial ≠ Config.serial ∧ s.mgmt.pair.role = .standby := by
  have a : ∀ r n, (wPr .alone r 1#2).tokenOk ⟨0, 1, n, []⟩ = true := by
    intro r n
    have b : (wPr .alone r 1#2).fld (prtA 0) 31 16 = 0 ∧ (wPr .alone r 1#2).epoch = 0 := by cases r <;> decide +kernel
    have c : (wPr .alone r 1#2).mgmt.pair.st = .alone := rfl
    simp [State.tokenOk, h, b, c]
  exact ⟨⟨_, _, a .active (Config.serial + 1), by simp, rfl⟩, ⟨_, _, a .standby Config.serial, rfl, rfl⟩,
    ⟨_, _, a .active Config.serial, rfl, rfl⟩, ⟨_, _, a .standby (Config.serial + 1), by simp, rfl⟩⟩

/-- Hypotheses on a signed token of `Obligations.RecorderBindsSamplesAndClears`. -/
theorem witness_ClearRecords (h : ∀ k b g, Config.sm2Check k b g = true) :
    (∃ (c : Desc) (s : State), Starts infoClearRecords c s ∧ (s.jrnStart c).tokenStatus (readToken c.inp) = stOk ∧
      (s.jrnStart c).mgmt.rcd.ledger.length < clearLedgerMax) ∧
    ∃ (c : Desc) (s : State), Starts infoClearRecords c s ∧ (s.jrnStart c).tokenStatus (readToken c.inp) = stOk ∧
      clearLedgerMax ≤ (s.jrnStart c).mgmt.rcd.ledger.length :=
  ⟨⟨cmd infoClearRecords.op [] (tok 0x434C0001), wTk, starts_of (by decide +kernel), tok_clear h [1] (by decide +kernel) rfl,
     by decide +kernel⟩,
   ⟨cmd infoClearRecords.op [] (tok 0x434C0001), wTkFull, starts_of (by decide +kernel),
     tok_clear h [1] (by decide +kernel) rfl,
     Nat.le_of_eq (List.length_replicate (n := clearLedgerMax)).symm⟩⟩

/-- Hypotheses on a signed token of `Obligations.WaypointsTakenReturnedAndCleaned`. -/
theorem witness_FactoryClean (h : ∀ k b g, Config.sm2Check k b g = true) :
    (∃ (c : Desc) (s : State), Starts infoFactoryClean c s ∧ (s.jrnStart c).cleanStatus (readToken c.inp) = stOk ∧
      (s.jrnStart c).mgmt.pair.st = .paired) ∧
    ∃ (c : Desc) (s : State), Starts infoFactoryClean c s ∧ (s.jrnStart c).cleanStatus (readToken c.inp) = stOk ∧
      (s.jrnStart c).mgmt.pair.st = .unpaired ∧ (s.jrnStart c).treesOff = true ∧
      (s.jrnStart c).mgmt.upd.st.cleanable = true :=
  ⟨⟨cmd infoFactoryClean.op [] (tok 0x46430001), wTk.modPair (fun p => { p with st := .paired }),
     starts_of (by decide +kernel), tok_clean h (by decide +kernel), by decide +kernel⟩,
   ⟨cmd infoFactoryClean.op [] (tok 0x46430001), wTk, starts_of (by decide +kernel), tok_clean h (by decide +kernel),
     by decide +kernel⟩⟩

theorem minSvn_w0 (c : Desc) : (w0.jrnStart c).minSvn ≤ 65535 := by
  have e : (w0.jrnStart c).mgmt.pwr.minSvn = 0 := by
    simp only [State.jrnStart]; split <;> rfl
  simp only [State.minSvn, e]
  omega

/-- Hypotheses on the signature of a manifest of `Obligations.UpdateDownloadVerifyAndStatus`, passing and failing. -/
theorem witness_Manifest (r : Bool) (h : ∀ k b g, Config.sm2Check k b g = r) :
    ∃ (c : Desc) (s : State) (m : Manifest), Starts infoUpdBegin c s ∧ manifestOk c.inp = true ∧
      (s.jrnStart c).mgmt.upd.st = .idle ∧ m = readManifest c.inp ∧ m.stepping = 0xA1 ∧
      (s.jrnStart c).minSvn ≤ m.svn ∧ m.signed = r :=
  ⟨cmd infoUpdBegin.op [] (man 0xA1), w0, _, starts_of (by decide +kernel), by decide +kernel, by decide +kernel, rfl,
    by decide +kernel, minSvn_w0 _, h _ _ _⟩
theorem witness_Verified (h : ∀ k b g, Config.sm2Check k b g = true) :
    ∃ (s : State) (acc : Nat) (m : Manifest), s.mgmt.upd.man = some m ∧ s.mgmt.upd.st = .verifying ∧
      s.mgmt.upd.verAcc = some acc ∧ m.signed = true ∧ s.flashUp 0 = true ∧ s.flashUp 1 = true ∧
      sm3 (s.mgmt.upd.slot 0 m.pieces) = m.imageDigest ∧ sm3 (s.mgmt.upd.slot 1 m.pieces) = m.imageDigest :=
  ⟨(wUp .verifying).modUpd (fun u => { u with verAcc := some 9, man := some { readManifest (man 0xA1) with
      imageDigest := sm3 [1] } }), 9, { readManifest (man 0xA1) with imageDigest := sm3 [1] }, rfl, rfl, rfl, h _ _ _,
    by decide +kernel, by decide +kernel, rfl, rfl⟩
/-- Hypotheses on a debug response of `Obligations.MailboxRequestsAndSideInterfaces`. -/
theorem witness_Response (h : ∀ k b g, Config.sm2Check k b g = true) :
    ∃ (s : State) (l g : List Nat), s.mgmt.dbg.locked = false ∧ s.mgmt.dbg.challenge = some l ∧
      Config.sm2Check (Config.otpKeyHash 0) l g = true :=
  ⟨w0.modDbg (fun x => { x with challenge := some [1] }), [1], [], by decide +kernel, rfl, h _ _ _⟩
theorem triple_of (x : Nat × Nat × State) : ∃ st r0 t, x = (st, r0, t) := ⟨x.1, x.2.1, x.2.2, rfl⟩
/-- Hypotheses on the answer of UPD_PIECE of `Obligations.UpdateDownloadVerifyAndStatus`. -/
theorem witness_Piece :
    ∃ (c : Desc) (s : State), Starts infoUpdPiece c s ∧ (s.jrnStart c).bufCheck c.dom c.buf c.bufLen = true ∧
      ∃ st r0 t, (s.jrnStart c).piece c.n0 ((padTo c.bufLen c.inp).take (c.bufLen - 32))
        (sliceB (padTo c.bufLen c.inp) (c.bufLen - 32) 32) = (st, r0, t) :=
  ⟨cmd infoUpdPiece.op [0] (List.replicate 132 0), wUp .receiving, starts_of (by decide +kernel), by decide +kernel,
    triple_of _⟩

/-! Statements over steps that answer a next state. -/

/-- Whether an outcome is a next state. -/
def goesOn (x : Host.Outcome State Fault Refusal) : Bool :=
  match x with
  | .next _ => true
  | _ => false
theorem next_of {x : Host.Outcome State Fault Refusal} (h : goesOn x = true) : ∃ t, x = .next t := by
  cases x with
  | next t => exact ⟨t, rfl⟩
  | fault _ => cases h
  | refused _ => cases h
/-- Hypotheses of `Obligations.EveryQueueIsServedInOrder`. -/
theorem witness_EveryQueueIsServedInOrder :
    ∃ s : State, s.QueueWf ∧ s.pending = [.readPair (cmdOut infoReadPair.op [] 64), .iadd ⟨95, 3⟩ ⟨0, 0, 0, 0, 0⟩] ∧
      (∀ i ∈ s.pending, isAccess i = false) ∧ ∃ t, step s = .next t :=
  ⟨{ wI with pending := [.readPair (cmdOut infoReadPair.op [] 64), .iadd ⟨95, 3⟩ ⟨0, 0, 0, 0, 0⟩] },
    by unfold State.QueueWf; decide +kernel, rfl, by decide +kernel, next_of (by decide +kernel)⟩

/-- Hypotheses of `Obligations.ClockStaysBeforeItsNextPhasePoint`, at the last cycle before a phase point. -/
theorem witness_ClockStaysBeforeItsNextPhasePoint :
    ∃ s : State, s.clk.cycle = 195999 ∧ s.clk.cycle < s.clk.phase.nextPoint ∧ ∃ t, step s = .next t :=
  ⟨{ w0 with clk := { w0.clk with cycle := 195999 }, pending := [.planDeadline] }, rfl, by decide +kernel,
    next_of (by decide +kernel)⟩

/-- Hypotheses of `Obligations.ProgramsTouchTheGrantComplexAlone`. -/
theorem witness_ProgramsTouchTheGrantComplexAlone :
    ∃ (i : Instr) (st : Site) (s : State), siteOf i = some st ∧ SMap.wf regReset s.regs = true ∧
      s.canIssue st = some cI ∧ ∃ t, exec i s = .next t :=
  ⟨.iadd ⟨95, 3⟩ ⟨0, 0, 0, 0, 0⟩, _, wI, rfl, by decide +kernel, by decide +kernel, next_of (by decide +kernel)⟩

/-- Hypotheses of `Obligations.QueriesChangeNoObject`. -/
theorem witness_QueriesChangeNoObject :
    ∃ (i : Instr) (s : State), isPureQuery i = true ∧ Starts infoReadPair (cmdOut infoReadPair.op [] 64) s ∧
      ∃ t, exec i s = .next t :=
  ⟨.readPair (cmdOut infoReadPair.op [] 64), w0, rfl, starts_of (by decide +kernel), next_of (by decide +kernel)⟩

/-! An image that passes the verifier. -/

/-- An image of one HALT (R199 to R211) around its digest. -/
def imgA : List Nat := leBytes 4 0x50504C31 ++ [1, 0, 0, 0, 1, 0, 0, 0, 0, 0, 1, 0] ++
  List.replicate 8 0 ++ [4, 0, 0, 0, 1, 0, 0, 0] ++ List.replicate 32 0
def imgB : List Nat := leBytes 4 0xEC000000
def imgHalt (d : List Nat) : List Nat := imgA ++ (d ++ imgB)
theorem img_digest (d : List Nat) (h : d.length = 32) (e : sm3 (imgA ++ imgB) = d) : digestBad (imgHalt d) = false := by
  have a : (imgHalt d).take 64 = imgA := List.take_left' rfl
  have b : (imgHalt d).drop 96 = imgB := by
    have : imgHalt d = (imgA ++ d) ++ imgB := by simp [imgHalt]
    rw [this]; exact List.drop_left' (by simp [h, imgA, leBytes])
  have c : sliceB (imgHalt d) 64 32 = d := by
    have : (imgHalt d).drop 64 = d ++ imgB := List.drop_left' rfl
    rw [sliceB, this]; exact List.take_left' h
  simp [digestBad, a, b, c, e]
theorem img_low (d : List Nat) (o n : Nat) (h : o + n ≤ 64) : leAt (imgHalt d) o n = leAt imgA o n := by
  have l : imgA.length = 64 := by decide +kernel
  have e : sliceB (imgHalt d) o n = sliceB imgA o n := by
    rw [sliceB, imgHalt, List.drop_append_of_le_length (by omega),
      List.take_append_of_le_length (by rw [List.length_drop]; omega)]
    rfl
  rw [leAt, e]
  rfl
theorem img_word (d : List Nat) (h : d.length = 32) : leAt (imgHalt d) 96 4 = leAt imgB 0 4 := by
  have l : imgA.length = 64 := by decide +kernel
  have e : imgHalt d = (imgA ++ d) ++ imgB := by simp [imgHalt]
  have g : (imgHalt d).drop 96 = imgB := by rw [e]; exact List.drop_left' (by simp [h, l])
  simp only [leAt, sliceB, g, List.drop_zero]
/-- What the image holds. -/
def imProg : Prog :=
  { loaded := true, insn := [(0, 0xEC000000#32)], const := [], planStart := 0, planLen := 1, instStart := 0, instLen := 0
    retStart := 0, retLen := 0, digest := [], reduced := false }
theorem img_read (d : List Nat) (h : d.length = 32) : readImage (imgHalt d) false =
    ⟨{ imProg with digest := sliceB (imgHalt d) 64 32 }, 4, 1, 0⟩ := by
  have w := img_word d h
  have c : leAt imgA 8 2 = 1 ∧ leAt imgA 10 2 = 0 ∧ leAt imgA 12 2 = 0 ∧ leAt imgA 14 2 = 1 ∧ leAt imgA 16 2 = 0 ∧
    leAt imgA 18 2 = 0 ∧ leAt imgA 20 2 = 0 ∧ leAt imgA 22 2 = 0 ∧ leAt imgA 24 4 = 4 ∧ leAt imgA 28 2 = 1 ∧
    leAt imgA 30 2 = 0 ∧ leAt imgB 0 4 = 0xEC000000 := by decide +kernel
  have r : (List.range 1).foldl (fun (m : SMap W32) i => m.set 0#32 i (BitVec.ofNat 32 (leAt (imgHalt d) (96 + 4 * i) 4))) [] =
      imProg.insn := by
    simp only [List.range_succ, List.range_zero, List.nil_append, List.foldl, Nat.mul_zero, Nat.add_zero, w, c]
    decide +kernel
  have t (o n : Nat) (q : o + n ≤ 64) := img_low d o n q
  simp only [readImage, t 8 2 (by decide), t 10 2 (by decide), t 12 2 (by decide), t 14 2 (by decide),
    t 16 2 (by decide), t 18 2 (by decide), t 20 2 (by decide), t 22 2 (by decide), t 24 4 (by decide),
    t 28 2 (by decide), t 30 2 (by decide), c, r]
  rfl
theorem img_ok (d : List Nat) (h : d.length = 32) (e : sm3 (imgA ++ imgB) = d) :
    ∃ p, verify (imgHalt d) false = .ok p := by
  have l : (imgHalt d).length = 100 := by
    have a : imgA.length = 64 ∧ imgB.length = 4 := by decide +kernel
    simp [imgHalt, h, a]
  have c : leAt imgA 8 2 = 1 ∧ leAt imgA 10 2 = 0 ∧ leAt imgA 0 4 = 0x50504C31 ∧ leAt imgA 4 2 = 1 ∧
    leAt imgA 6 2 = 0 ∧ leAt imgA 40 24 = 0 := by decide +kernel
  have t (o n : Nat) (q : o + n ≤ 64) := img_low d o n q
  have a : headerBad (imgHalt d) = false := by
    simp [headerBad, l, t 8 2 (by decide), t 10 2 (by decide), t 0 4 (by decide), t 4 2 (by decide),
      t 6 2 (by decide), t 40 24 (by decide), c, imageLen]
  have b := img_digest d h e
  have f0 : extentBad imProg 1 = false := by decide +kernel
  have f1 : minOf ((imProg.extents.map (fun e => (List.range e.2).map (fun i => e.1 + i))).flatten.filter
    (fun i => illegalWord (imProg.word i))) = none := by decide +kernel
  have f2 : minOf ((imProg.extents.map (fun e => controlBad imProg.word e.1 e.2)).flatten) = none := by decide +kernel
  have f3 : minOf (((imProg.extents.map (fun e => extentReg imProg.look e.1 e.2)).map (fun r => r.tags)).flatten) = none := by
    decide +kernel
  have f4 : minOf ((((imProg.extents.map (fun e => extentReg imProg.look e.1 e.2)).map (fun r => r.pre)).flatten.filter
    (fun e => e.2.testBit 64)).map (fun e => e.1)) = none := by decide +kernel
  have f5 : minOf ((imProg.extents.map (fun e => (List.range e.2).map (fun i => e.1 + i))).flatten.filter
    (fun i => wOp (imProg.word i) == 0x37 &&
      !decide (imProg.planStart ≤ i ∧ i < imProg.planStart + imProg.planLen))) = none := by decide +kernel
  have f6 : imProg.bounds = ⟨4, 1, 0, 0⟩ := by decide +kernel
  obtain ⟨p, hp⟩ : ∃ p, p = { imProg with digest := sliceB (imgHalt d) 64 32 } := ⟨_, rfl⟩
  have r := img_read d h
  rw [← hp] at r
  have g0 : extentBad p 1 = extentBad imProg 1 := by rw [hp]; rfl
  have g1 : p.extents = imProg.extents := by rw [hp]; rfl
  have g2 : p.word = imProg.word := by rw [hp]; rfl
  have g3 : p.look = imProg.look := by rw [hp]; rfl
  have g4 : p.bounds = imProg.bounds := by rw [hp]; rfl
  have g5 : p.planStart = imProg.planStart ∧ p.planLen = imProg.planLen := by rw [hp]; exact ⟨rfl, rfl⟩
  refine ⟨{ p with planBound := 1, instBound := 0, retBound := 0 }, ?_⟩
  simp only [verify, a, b, r, t 8 2 (by decide), c, g0, f0, g1, g2, f1, f2, g3, f3, f4, g5, f5, g4, f6]
  rfl
/-- The command that loads the image, in the journal, with its verification under way. -/
def cmdHalt : Desc := cmd 0x0701 [1, 0, 0, 0] (imgHalt (sm3 (imgA ++ imgB)))
def wVok : State := { (w0.jrnStart cmdHalt) with grant := { w0.grant with verifying := [(9, [0])] } }
/-- Hypotheses on an image that passes of `Obligations.ProgramAndTableCommands`. -/
theorem witness_ImagePasses :
    ∃ (s : State) (acc : Nat) (qs : List Nat) (j : Jrn), s.grant.verifying.find? (fun e => e.1 == acc) = some (acc, qs) ∧
      s.jrnFind acc = some j ∧ (∃ p, verify j.desc.inp (decide (j.desc.n3 = 1)) = .ok p) ∧
      ({ s with grant := { s.grant with verifying := s.grant.verifying.filter (fun e => e.1 != acc) } } : State).digests.length
        < 32 := by
  refine ⟨wVok, 9, [0], { desc := cmdHalt, started := true }, by decide +kernel, ?_, ?_, by decide +kernel⟩
  · rfl
  · have l : (sm3 (imgA ++ imgB)).length = 32 := by simp [sm3, padTo]; omega
    exact img_ok _ l rfl

end Sys2Proof.Tests
end

namespace Sys2Proof.Machine

/-- What changes nothing but the queue that it keeps changes nothing. -/
theorem kept_self (s : State) : kept s s = .next s := rfl

/-! SUPPORT. Sparse maps: their keys, and a read after every entry was replaced. -/

/-- The keys of a canonical map rise strictly, all above its bound. -/
theorem SMap.keys_rise {α : Type} [DecidableEq α] {e : Nat → α} (m : SMap α) (b : Option Nat)
    (h : SMap.wfFrom e b m = true) :
    (m.map Prod.fst).Pairwise (· < ·) ∧ ∀ a, b = some a → ∀ k ∈ m.map Prod.fst, a < k := by
  induction m generalizing b with
  | nil => simp
  | cons p r ih =>
    obtain ⟨i, w⟩ := p
    simp only [SMap.wfFrom, Bool.and_eq_true] at h
    obtain ⟨⟨hb, -⟩, hr⟩ := h
    obtain ⟨hrise, habove⟩ := ih (some i) hr
    have hi := habove i rfl
    refine ⟨List.pairwise_cons.2 ⟨hi, hrise⟩, ?_⟩
    rintro a rfl k hk
    have ha : a < i := of_decide_eq_true hb
    rcases List.mem_cons.1 hk with rfl | hk
    · exact ha
    · exact ha.trans (hi k hk)

/-- No key of a canonical map is listed twice. -/
theorem SMap.keys_nodup {α : Type} [DecidableEq α] {e : Nat → α} {m : SMap α} (h : SMap.wf e m = true) :
    (m.map Prod.fst).Nodup := (SMap.keys_rise m none h).1.imp Nat.ne_of_lt

/-- A key that reads other than its default is listed. -/
theorem SMap.mem_keys_of_get_ne {α : Type} {m : SMap α} {d : α} {k : Nat} (h : SMap.get m d k ≠ d) :
    k ∈ m.map Prod.fst := by
  induction m with
  | nil => exact absurd rfl h
  | cons p r ih =>
    obtain ⟨i, w⟩ := p
    simp only [SMap.get] at h
    split at h
    · rename_i hik; simp [hik]
    · split at h
      · exact absurd rfl h
      · exact List.mem_cons_of_mem _ (ih h)

/-- A read after every entry was replaced, where `f` keeps the default: what `f` makes of the entry. -/
theorem SMap.get_mapAll {α : Type} [DecidableEq α] {e : Nat → α} {f : Nat → α → α} {k : Nat} (hf : f k (e k) = e k)
    (m : SMap α) (b : Option Nat) (h : SMap.wfFrom e b m = true) :
    SMap.get (SMap.mapAll e m f) (e k) k = f k (SMap.get m (e k) k) := by
  induction m generalizing b with
  | nil => exact hf.symm
  | cons p r ih =>
    obtain ⟨i, w⟩ := p
    have hr : SMap.wfFrom e (some i) r = true := by
      simp only [SMap.wfFrom, Bool.and_eq_true] at h; exact h.2
    have hrest : SMap.get (SMap.mapAll e r f) (e k) k = f k (SMap.get r (e k) k) := ih (some i) hr
    have hbelow : k ≤ i → SMap.get (SMap.mapAll e r f) (e k) k = e k :=
      SMap.get_below (SMap.wfFrom_mapAll r _ hr f) (e k)
    have hcons : SMap.mapAll e ((i, w) :: r) f =
        if f i w ≠ e i then (i, f i w) :: SMap.mapAll e r f else SMap.mapAll e r f := by
      simp only [SMap.mapAll, List.map_cons, List.filter_cons, decide_eq_true_eq]
    rw [hcons]
    rcases Nat.lt_trichotomy i k with hik | rfl | hki
    · have hg : SMap.get ((i, w) :: r) (e k) k = SMap.get r (e k) k := by
        rw [SMap.get, if_neg (by omega), if_neg (by omega)]
      rw [hg, ← hrest]
      split
      · rw [SMap.get, if_neg (by omega), if_neg (by omega)]
      · rfl
    · rw [SMap.get, if_pos rfl]
      split
      · rw [SMap.get, if_pos rfl]
      · rename_i hd; rw [hbelow le_rfl, not_not.1 hd]
    · have hg : SMap.get ((i, w) :: r) (e k) k = e k := by rw [SMap.get, if_neg (by omega), if_pos hki]
      rw [hg, hf]
      split
      · rw [SMap.get, if_neg (by omega), if_pos hki]
      · exact hbelow hki.le

/-! SUPPORT. The ledger record (R62 to R65): what counting one sub-channel's roadbook leaves of the others. -/

/-- Sub-channel `sc` and the pending ledger record stay as they were, and the sub-channels stay in canonical form. -/
structure State.KeepsSub (sc : Nat) (s t : State) : Prop where
  wf : SMap.wf Sub.dflt t.pon.subs = true
  sub : t.sub sc = s.sub sc
  recPending : t.pon.recPending = s.pon.recPending

section
variable {s t u : State} {sc j : Nat}

theorem State.KeepsSub.refl (h : SMap.wf Sub.dflt s.pon.subs = true) : State.KeepsSub sc s s := ⟨h, rfl, rfl⟩

theorem State.KeepsSub.trans (h : State.KeepsSub sc s t) (k : State.KeepsSub sc t u) : State.KeepsSub sc s u :=
  ⟨k.wf, k.sub.trans h.sub, k.recPending.trans h.recPending⟩

/-- A further step that leaves the sub-channels and the record. -/
theorem State.KeepsSub.trans_pon (h : State.KeepsSub sc s t) (hp : u.pon = t.pon) : State.KeepsSub sc s u := by
  refine ⟨by rw [hp]; exact h.wf, .trans ?_ h.sub, hp ▸ h.recPending⟩
  unfold State.sub
  rw [hp]

/-- Steps that each keep a sub-channel keep it all together. -/
theorem State.KeepsSub.foldl {β : Type} {f : State → β → State} (l : List β)
    (hf : ∀ s, SMap.wf Sub.dflt s.pon.subs = true → ∀ b ∈ l, State.KeepsSub sc s (f s b))
    (h : SMap.wf Sub.dflt s.pon.subs = true) : State.KeepsSub sc s (l.foldl f s) := by
  induction l generalizing s with
  | nil => exact .refl h
  | cons b l ih =>
    have hb := hf s h b (List.mem_cons_self ..)
    exact hb.trans (ih (fun s hs c hc => hf s hs c (List.mem_cons_of_mem _ hc)) hb.wf)

/-- A write of another sub-channel. -/
theorem State.KeepsSub.setSub (h : SMap.wf Sub.dflt s.pon.subs = true) (hj : sc ≠ j) (x : Sub) :
    State.KeepsSub sc s (s.setSub j x) := ⟨SMap.wf_set h _ _, by rw [State.sub_setSub h, if_neg hj], rfl⟩

/-- Two changes of another sub-channel. -/
theorem State.KeepsSub.modSub_modSub (h : SMap.wf Sub.dflt s.pon.subs = true) (hj : sc ≠ j) (f g : Sub → Sub) :
    State.KeepsSub sc s ((s.modSub j f).modSub j g) :=
  have hf : State.KeepsSub sc s (s.modSub j f) := .setSub h hj _
  hf.trans (.setSub hf.wf hj _)

end

/-- Steps that each leave the sub-channels and the record leave them all together. -/
theorem State.foldl_pon {β : Type} {f : State → β → State} (hf : ∀ s b, (f s b).pon = s.pon) (l : List β) (s : State) :
    (l.foldl f s).pon = s.pon := by
  induction l generalizing s with
  | nil => rfl
  | cons b l ih => exact (ih (f s b)).trans (hf s b)

@[simp] theorem State.grantRows_pon (s : State) (l : List Burst) (f : W32 → W32) : (s.grantRows l f).pon = s.pon := by
  refine State.foldl_pon (fun s b => State.foldl_pon (fun s a => ?_) _ s) l s
  split <;> rfl

@[simp] theorem State.sample_pon (s : State) (kind src v : Nat) : (s.sample kind src v).pon = s.pon := rfl

section
variable {s : State} {sc j : Nat}

/-- All that an outcome does to the sub-channels: nothing, or it enters its burst and the totals (R61, R62). -/
theorem State.writeOutcome_pon (s : State) (j m i : Nat) (o : Outc) :
    (s.writeOutcome j m i o).pon = s.pon ∨
    (s.writeOutcome j m i o).pon = ((s.modBurst j m i (fun b => { b with outcome := some o, received := true })).modSub j
      (fun x => { x with led := x.led.count o })).pon := by
  unfold State.writeOutcome
  split
  · exact .inl rfl
  split
  · exact .inl rfl
  split
  · exact .inl rfl
  · refine .inr ((State.sample_pon ..).trans (State.foldl_pon (fun s a => ?_) _ _))
    split <;> rfl

/-- An outcome of another sub-channel. -/
theorem State.writeOutcome_keepsSub (h : SMap.wf Sub.dflt s.pon.subs = true) (hj : sc ≠ j) (m i : Nat) (o : Outc) :
    State.KeepsSub sc s (s.writeOutcome j m i o) := by
  rcases s.writeOutcome_pon j m i o with hp | hp
  · exact (State.KeepsSub.refl h).trans_pon hp
  · exact (State.KeepsSub.modSub_modSub h hj _ _).trans_pon hp

/-- The road of another sub-channel is discarded. -/
theorem State.discardRoad_keepsSub (h : SMap.wf Sub.dflt s.pon.subs = true) (hj : sc ≠ j) :
    State.KeepsSub sc s (s.discardRoad j) :=
  .foldl _ (fun _ hs _ _ => .foldl _ (fun _ hs' _ _ => State.writeOutcome_keepsSub hs' hj _ _ _) hs) h

/-- The roadbook of another sub-channel is counted. -/
theorem State.countBook_keepsSub (h : SMap.wf Sub.dflt s.pon.subs = true) (hj : sc ≠ j) :
    State.KeepsSub sc s (s.countBook j) := by
  simp only [State.countBook]
  split
  · exact .refl h
  split
  · exact .refl h
  rename_i k _ _
  have hbook := State.KeepsSub.setSub h hj (s := s)
  have hrows : ∀ x, State.KeepsSub sc s ((s.setSub j x).grantRows k.bursts (fun n => n + 1)) := fun x =>
    (hbook x).trans_pon (State.grantRows_pon ..)
  split
  · exact (hrows _).trans (State.discardRoad_keepsSub (hrows _).wf hj)
  · exact hrows _

/-- What counting the accepted roadbook of a sub-channel in service does to it (R62, R65). -/
theorem State.sub_countBook {k : Book} (h : SMap.wf Sub.dflt s.pon.subs = true) (hb : (s.sub sc).built = some k)
    (ha : (s.sub sc).accepted = true) (ho : (s.sub sc).oos = false) :
    (s.countBook sc).pon.recPending = s.pon.recPending ∧
    SMap.wf Sub.dflt (s.countBook sc).pon.subs = true ∧
    ((s.countBook sc).sub sc).led = (s.sub sc).led.grant k.bursts.length := by
  have hsub : ∀ x, ((s.setSub sc x).grantRows k.bursts (fun n => n + 1)).sub sc = x := fun x => by
    simp [State.sub, State.setSub, SMap.get_set h]
  simp only [State.countBook, hb, ha, Bool.not_true, Bool.false_eq_true, if_false, hsub, ho, Bool.false_and,
    State.grantRows_pon]
  exact ⟨rfl, SMap.wf_set h _ _, trivial⟩

/-- Counting the roadbooks of a list of sub-channels counts the one of a sub-channel that is listed once. -/
theorem State.sub_foldl_countBook {k : Book} {l : List Nat} (hl : l.Nodup) (hsc : sc ∈ l)
    (h : SMap.wf Sub.dflt s.pon.subs = true) (hb : (s.sub sc).built = some k) (ha : (s.sub sc).accepted = true)
    (ho : (s.sub sc).oos = false) :
    (l.foldl State.countBook s).pon.recPending = s.pon.recPending ∧
    ((l.foldl State.countBook s).sub sc).led = (s.sub sc).led.grant k.bursts.length := by
  obtain ⟨l₁, l₂, rfl⟩ := List.append_of_mem hsc
  obtain ⟨-, hl₂, hdis⟩ := List.nodup_append.1 hl
  have hother : ∀ l' : List Nat, sc ∉ l' → ∀ s : State, SMap.wf Sub.dflt s.pon.subs = true →
      State.KeepsSub sc s (l'.foldl State.countBook s) := fun l' hn _ hs =>
    .foldl l' (fun _ hs j hj => State.countBook_keepsSub hs (fun e => hn (e ▸ hj))) hs
  have hbefore := hother l₁ (fun hm => hdis sc hm sc (List.mem_cons_self ..) rfl) s h
  obtain ⟨hrec, hwf, hled⟩ := State.sub_countBook hbefore.wf (hbefore.sub ▸ hb) (hbefore.sub ▸ ha) (hbefore.sub ▸ ho)
  have hafter := hother l₂ (List.nodup_cons.1 hl₂).1 _ hwf
  rw [List.foldl_append, List.foldl_cons]
  exact ⟨hafter.recPending.trans (hrec.trans hbefore.recPending), by rw [hafter.sub, hled, hbefore.sub]⟩

/-- Making the pending record durable leaves the sub-channels (R63). -/
theorem State.commitRecord_pon (h : s.pon.recPending.isSome = true) :
    s.commitRecord.pon.recPending = none ∧ s.commitRecord.pon.subs = s.pon.subs := by
  obtain ⟨r, hr⟩ := Option.isSome_iff_exists.1 h
  simp only [State.commitRecord, hr]
  split <;> exact ⟨rfl, rfl⟩

/-- One of the two MRAM banks is in service (R249). -/
theorem State.anyBank_iff : (List.range 2).any (fun k => (s.health 8 k).st.alive) = true ↔
    (s.health 8 0).st.alive = true ∨ (s.health 8 1).st.alive = true := by
  simp [List.range_succ]

/-- A durable record counts the accepted roadbook of a sub-channel in service (R63, R65). -/
theorem State.recordDurable_counts {k : Book} (hm : (s.health 8 0).st.alive = true ∨ (s.health 8 1).st.alive = true)
    (hr : s.pon.recPending.isSome = true) (h : SMap.wf Sub.dflt s.pon.subs = true) (hb : (s.sub sc).built = some k)
    (ha : (s.sub sc).accepted = true) (ho : (s.sub sc).oos = false) :
    s.recordDurable.pon.recPending = none ∧
    (s.recordDurable.sub sc).led = (s.sub sc).led.grant k.bursts.length := by
  obtain ⟨hnone, hsubs⟩ := State.commitRecord_pon hr
  have hkept : s.commitRecord.sub sc = s.sub sc := by unfold State.sub; rw [hsubs]
  have hlisted : sc ∈ s.commitRecord.subKeys := by
    unfold State.subKeys
    rw [hsubs]
    refine SMap.mem_keys_of_get_ne (d := Sub.dflt sc) (fun e => ?_)
    have hdflt : s.sub sc = Sub.dflt sc := e
    rw [hdflt] at hb
    cases hb
  have hcond : ¬(s.pon.recPending.isNone || !(List.range 2).any (fun k => (s.health 8 k).st.alive)) = true := by
    rw [State.anyBank_iff.2 hm]
    simp [Option.isSome_iff_ne_none.1 hr]
  have hwf : SMap.wf Sub.dflt s.commitRecord.pon.subs = true := hsubs ▸ h
  have hcount := State.sub_foldl_countBook (SMap.keys_nodup hwf) hlisted hwf
    (hkept ▸ hb) (hkept ▸ ha) (hkept ▸ ho)
  rw [State.recordDurable, if_neg hcond]
  exact ⟨hcount.1.trans hnone, hkept ▸ hcount.2⟩

end

/-- With no MRAM bank in service no record becomes durable (R63). -/
theorem State.recordDurable_noBank {s : State} (h0 : (s.health 8 0).st.alive = false)
    (h1 : (s.health 8 1).st.alive = false) : s.recordDurable = s := by
  have hnone : (List.range 2).any (fun k => (s.health 8 k).st.alive) = false := by simp [List.range_succ, h0, h1]
  rw [State.recordDurable, if_pos (by simp [hnone])]

/-- A report entry as the sweep of interval `m` leaves it (R138). -/
def Report.swept (r : Report) (m : Nat) : Report :=
  if 8192 ≤ (m + 32768 - r.stamp % 32768) % 32768 then { r with valid := false, prevValid := false } else r

/-- REPORT_SWEEP does to each entry what R138 says; an entry that was never written has nothing to clear. -/
theorem State.reportSweep_get {s : State} (h : SMap.wf (fun _ => ({} : Report)) s.grant.reports = true) (k : Nat) :
    s.reportSweep.grant.reports.get {} k = (s.grant.reports.get {} k).swept s.clk.msc :=
  SMap.get_mapAll (e := fun _ => ({} : Report)) (f := fun _ r => r.swept s.clk.msc) (ite_self _) _ none h

/-- Settles O17: each row is read off its definition, and the durable record by what counting one roadbook leaves of
the other sub-channels. -/
theorem roadbookAcceptanceAndRecord : Obligations.RoadbookAcceptanceAndRecord := by
  refine ⟨?accepts, ?notDue, ?noBank, ?counts, ?sweep⟩
  case accepts =>
    intro s sc hrun hph hb ha
    show kept s (s.deliverBook sc) = _
    rw [State.deliverBook, if_pos (by simp [hrun, hph, hb, ha])]
    rfl
  case notDue =>
    intro s sc hph
    show kept s (s.deliverBook sc) = _
    rw [State.deliverBook, if_neg (by simp [hph]), kept_self]
  case noBank =>
    intro s h0 h1
    show kept s s.recordDurable = _
    rw [State.recordDurable_noBank h0 h1, kept_self]
  case counts =>
    intro s sc k hm hr h hb ha ho
    obtain ⟨hrec, hled⟩ := State.recordDurable_counts hm hr h hb ha ho
    exact ⟨_, rfl, hrec, congrArg Ledger.granted hled, congrArg Ledger.onRoad hled⟩
  case sweep =>
    intro s h
    exact ⟨_, rfl, State.reportSweep_get h⟩

end Sys2Proof.Machine

namespace Sys2Proof.Machine

/-! SUPPORT. Grant cores: a core read after a change of another part, and the cores that name a spare (R153, R154). -/

section
variable {s : State} {g : Nat}

@[simp] theorem State.core_raise (s : State) (n arg j : Nat) : (s.raise n arg).core j = s.core j := by
  simp [State.core]

/-- A core read after the state of a core was set. -/
theorem State.core_setCoreSt (h : SMap.wf Core.dflt s.grant.cores = true) (j g : Nat) (x : CoreSt) :
    (s.setCoreSt g x).core j = if j = g then { s.core g with st := x } else s.core j :=
  State.core_setCore h j g _

/-- Cores keep the canonical form when the state of one is set. -/
theorem State.setCoreSt_wf (h : SMap.wf Core.dflt s.grant.cores = true) (g : Nat) (x : CoreSt) :
    SMap.wf Core.dflt (s.setCoreSt g x).grant.cores = true := SMap.wf_set h g _

/-- Setting the state of a core leaves every core's detour. -/
theorem State.detour_setCoreSt (h : SMap.wf Core.dflt s.grant.cores = true) (j g : Nat) (x : CoreSt) :
    ((s.setCoreSt g x).core j).detour = (s.core j).detour := by
  rw [State.core_setCoreSt h]
  split
  · rename_i hj; rw [hj]
  · rfl

/-- The free spare that is found is a spare. -/
theorem State.freeCore_spare {k : Nat} (h : s.freeCore = some k) : (s.core k).st = .spare := by
  have hk := List.find?_some h
  simp only [Bool.and_eq_true, beq_iff_eq] at hk
  exact hk.1.1

/-- The lost cores whose detour names core `g` (R154). -/
def State.lostNaming (s : State) (g : Nat) : List Nat :=
  (List.range 104).filter (fun h => (s.core h).st == .lost && ((s.core h).detour.map (fun d => d.1)) == some g)

/-- No lost core waits for a core that no detour names. -/
theorem State.lostNaming_nil (h : ∀ j, ((s.core j).detour.map (fun d => d.1)) ≠ some g) : s.lostNaming g = [] := by
  refine List.filter_eq_nil_iff.2 (fun j _ => ?_)
  simp [h j]

/-- A core when it is lost (R154): its contexts stop, it becomes LOST, CORE_LOST is raised, and its planned detour is
given up. -/
def State.coreDown (s : State) (g : Nat) : State :=
  let t := ((s.stopCtxs g).setCoreSt g .lost).raise evCoreLost g
  { t with deferred := t.deferred.filter (fun p => match p.change with
    | .coreDetour h _ => h != g
    | _ => true) }

/-- A core read after one was lost. -/
theorem State.core_coreDown (h : SMap.wf Core.dflt s.grant.cores = true) (j : Nat) :
    (s.coreDown g).core j = if j = g then { s.core g with st := .lost } else s.core j :=
  (State.core_raise ..).trans (State.core_setCoreSt (s := s.stopCtxs g) h j g .lost)

theorem State.coreDown_wf (h : SMap.wf Core.dflt s.grant.cores = true) :
    SMap.wf Core.dflt (s.coreDown g).grant.cores = true := by
  have hlost := State.setCoreSt_wf (s := s.stopCtxs g) h g .lost
  simpa only [State.coreDown, State.raise_grant] using hlost

/-- The loss of a core leaves every detour. -/
theorem State.detour_coreDown (h : SMap.wf Core.dflt s.grant.cores = true) (j : Nat) :
    ((s.coreDown g).core j).detour = (s.core j).detour :=
  (congrArg Core.detour (State.core_raise ..)).trans (State.detour_setCoreSt (s := s.stopCtxs g) h j g .lost)

/-- CORE_LOST of a core with no detour of its own: the core goes down, a core with a group is replaced, and so is each
lost core whose spare it was. -/
theorem State.coreLost_noDetour (hg : g < 104) (hst : (s.core g).st ≠ .lost) (hd : (s.core g).detour = none) :
    s.coreLost g =
      let t := if (s.core g).group.isNone then s.coreDown g else (s.coreDown g).replaceLost g
      (t.lostNaming g).foldl State.replaceLost t := by
  have hcond : ¬(decide (104 ≤ g) || (s.core g).st == .lost) = true := by simp [hst]; omega
  rw [State.coreLost, if_neg hcond]
  simp only [hd]
  rfl

/-- CORE_LOST of a core of no group, where no detour is under way (R154). -/
theorem State.coreLost_noGroup (hg : g < 104) (hst : (s.core g).st ≠ .lost) (hgr : (s.core g).group = none)
    (hd : ∀ h, (s.core h).detour = none) (h : SMap.wf Core.dflt s.grant.cores = true) :
    s.coreLost g = s.coreDown g := by
  have hnil : (s.coreDown g).lostNaming g = [] :=
    State.lostNaming_nil (fun j => by simp [State.detour_coreDown h, hd])
  rw [State.coreLost_noDetour hg hst (hd g)]
  simp only [hgr, Option.isNone_none, if_true, hnil, List.foldl_nil]

/-- CORE_LOST of a core with a group, where no detour is under way and a spare is free: that spare is named and loaded
(R154). -/
theorem State.coreLost_spare {q k : Nat} (hg : g < 104) (hst : (s.core g).st ≠ .lost) (hgr : (s.core g).group = some q)
    (hd : ∀ h, (s.core h).detour = none) (h : SMap.wf Core.dflt s.grant.cores = true)
    (hk : (s.coreDown g).freeCore = some k) :
    s.coreLost g = ((s.coreDown g).setCore g
      { (s.coreDown g).core g with detour := some (k, (s.coreDown g).earliestAck) }).setCoreSt k .loading := by
  have hwf : SMap.wf Core.dflt (s.coreDown g).grant.cores = true := State.coreDown_wf h
  have hkg : k ≠ g := by
    rintro rfl
    have hspare := State.freeCore_spare hk
    rw [State.core_coreDown h, if_pos rfl] at hspare
    cases hspare
  have hrepl : (s.coreDown g).replaceLost g = ((s.coreDown g).setCore g
      { (s.coreDown g).core g with detour := some (k, (s.coreDown g).earliestAck) }).setCoreSt k .loading := by
    rw [State.replaceLost, hk]
  have hnil : ((s.coreDown g).replaceLost g).lostNaming g = [] := by
    refine State.lostNaming_nil (fun j => ?_)
    rw [hrepl, State.detour_setCoreSt (SMap.wf_set hwf g _), State.core_setCore hwf]
    split
    · simp [hkg]
    · simp [State.detour_coreDown h, hd]
  rw [State.coreLost_noDetour hg hst (hd g)]
  simp only [hgr, Option.isNone_some, Bool.false_eq_true, if_false, hnil, List.foldl_nil]
  exact hrepl

/-- A core already lost is not lost again. -/
theorem State.coreLost_lost (h : (s.core g).st = .lost) : s.coreLost g = s := by
  rw [State.coreLost, if_pos (by simp [h])]

/-- A loaded spare takes over the group of its lost core (R154, R401). -/
theorem State.spareLoaded_lost {k d : Nat} (hst : (s.core g).st = .lost) (hd : (s.core g).detour = some (k, d))
    (hk : (s.core k).st = .loading) :
    s.spareLoaded g = (s.takeOver g k s.earliest .lost).unsyncGroup ((s.core g).group.getD 96) := by
  simp [State.spareLoaded, hst, hd, hk]

/-- A core that is not lost has no spare to load. -/
theorem State.spareLoaded_notLost (h : (s.core g).st ≠ .lost) : s.spareLoaded g = s := by
  unfold State.spareLoaded
  split
  · contradiction
  · rfl

end

/-! SUPPORT. Fault counts of units (R414). -/

section
variable {s : State} {cls u m : Nat}

theorem State.unitFault_below (h : (s.health cls u).win < s.faultK cls) : s.unitFault cls u = s := by
  rw [State.unitFault, if_neg (by omega)]

/-- A unit in service whose count has reached its threshold is retired with the detour of its class (R414). -/
theorem State.unitFault_active (hc : cls ≤ 10) (hu : u < clsUnits cls) (hk : s.faultK cls ≤ (s.health cls u).win)
    (hst : (s.health cls u).st = .active) :
    s.unitFault cls u = (((s.setHealth cls u { s.health cls u with win := 0, openMsc := none }).add32
      (sprA (0xC + 0x10 * cls)) 1).raise evUnitFault (cls * 2 ^ 24 + u)).faultOut cls u := by
  have halive : ¬(!(s.health cls u).st.alive) = true := by simp [hst, UnitSt.alive]
  rw [State.unitFault, if_pos ⟨hc, hu, hk⟩, State.fault, if_neg halive]

/-- A window that has run its time with the count below the threshold is closed (R414). -/
theorem State.windowExpiry_over (hc : cls ≤ 10) (hu : u < clsUnits cls) (ho : (s.health cls u).openMsc = some m)
    (hm : m + s.faultW cls ≤ s.clk.msc) (hw : (s.health cls u).win < s.faultK cls) :
    s.windowExpiry cls u = s.setHealth cls u { s.health cls u with win := 0, openMsc := none } := by
  simp only [State.windowExpiry, if_pos (And.intro hc hu), ho, if_pos (And.intro hm hw)]

theorem State.windowExpiry_running (ho : (s.health cls u).openMsc = some m) (hm : s.clk.msc < m + s.faultW cls) :
    s.windowExpiry cls u = s := by
  have hnot : ¬(m + s.faultW cls ≤ s.clk.msc ∧ (s.health cls u).win < s.faultK cls) := by omega
  simp only [State.windowExpiry, ho, if_neg hnot, ite_self]

end

/-! SUPPORT. Retries and lane repairs of die-to-die modules (R25, R415). -/

section
variable {s : State} {die m r : Nat}

/-- A flit retry counts, and toward the fault threshold beyond 1,000 in a second (R415). -/
theorem State.flitRetry_inService (hd : die < 6) (hm : m < 4) (hl : (s.module die m).lost = false) :
    s.flitRetry die m =
      let t := (s.setModule die m { s.module die m with retries := (s.module die m).retries + 1 }).add64
        (sprA (0x110 + 8 * die)) 1
      if 1000 < (s.module die m).retries + 1 then t.countError 6 (4 * die + m) else t := by
  have hcond : ¬(6 ≤ die ∨ 4 ≤ m ∨ (s.module die m).lost = true) := by simp [hl]; omega
  rw [State.flitRetry, if_neg hcond]

theorem State.flitRetry_lost (hl : (s.module die m).lost = true) : s.flitRetry die m = s := by
  rw [State.flitRetry, if_pos (.inr (.inr hl))]

/-- The failure of one lane counts one error; it is repaired while a redundant lane of its direction is left, and the
module retrains or is lost when none is (R25). -/
theorem State.laneRepair_one (hd : die < 6) (hm : m < 4) (hl : (s.module die m).lost = false) (b : Bool) :
    s.laneRepair die m r 1 b =
      if (s.module die m).repaired r + 1 ≤ 4 then
        ((s.countError 6 (4 * die + m)).setModule die m ((s.module die m).repair r 1)).raise evD2dLaneRepair (4 * die + m)
      else (s.countError 6 (4 * die + m)).moduleDegrade die m b := by
  have hcond : ¬(6 ≤ die ∨ 4 ≤ m ∨ (s.module die m).lost = true) := by simp [hl]; omega
  rw [State.laneRepair, if_neg hcond]
  rfl

theorem State.laneRepair_lost (hl : (s.module die m).lost = true) (n : Nat) (b : Bool) :
    s.laneRepair die m r n b = s := by
  rw [State.laneRepair, if_pos (.inr (.inr hl))]

end

/-- Settles O34: one lemma per row and case, each taken to the answer of the row. -/
theorem faultsAndDetours : Obligations.FaultsAndDetours := by
  refine ⟨?coreGone, ?coreNoGroup, ?coreSpare, ?spareLoaded, ?spareNotLost, ?below, ?fault, ?windowOver, ?windowRuns,
    ?retry, ?retryLost, ?repair, ?noLaneLeft, ?repairLost⟩
  case coreGone => exact fun s g h => congrArg (kept s) (State.coreLost_lost h)
  case coreNoGroup => exact fun s g hg hst hgr hd h => congrArg (kept s) (State.coreLost_noGroup hg hst hgr hd h)
  case coreSpare =>
    intro s g q k hg hst hgr hd h t u hk
    exact congrArg (kept s) (State.coreLost_spare hg hst hgr hd h hk)
  case spareLoaded => exact fun s g k d hst hd hk => congrArg (kept s) (State.spareLoaded_lost hst hd hk)
  case spareNotLost => exact fun s g h => congrArg (kept s) (State.spareLoaded_notLost h)
  case below => exact fun s cls u h => congrArg (kept s) (State.unitFault_below h)
  case fault => exact fun s cls u hc hu hk hst => congrArg (kept s) (State.unitFault_active hc hu hk hst)
  case windowOver => exact fun s cls u m hc hu ho hm hw => congrArg (kept s) (State.windowExpiry_over hc hu ho hm hw)
  case windowRuns => exact fun s cls u m ho hm => congrArg (kept s) (State.windowExpiry_running ho hm)
  case retry => exact fun s die m hd hm hl => congrArg (kept s) (State.flitRetry_inService hd hm hl)
  case retryLost => exact fun s die m hl => congrArg (kept s) (State.flitRetry_lost hl)
  case repair =>
    intro s die m r b hd hm hl hr
    exact congrArg (kept s) ((State.laneRepair_one hd hm hl b).trans (if_pos hr))
  case noLaneLeft =>
    intro s die m r b hd hm hl hr
    have hfull : (s.module die m).repaired r = 4 := hr
    have hone := State.laneRepair_one (r := r) hd hm hl b
    rw [if_neg (by omega)] at hone
    exact congrArg (kept s) hone
  case repairLost => exact fun s die m r n b hl => congrArg (kept s) (State.laneRepair_lost hl n b)

end Sys2Proof.Machine

namespace Sys2Proof.Machine

/-! SUPPORT. The hub clock (R37, R38): each operation of the model that leaves it as it is.
Where several register writes stand in a row, `-implicitDefEqProofs` has simp hand the kernel the
lemmas it used; without it the kernel would compare the two states field by field. -/

@[simp] theorem State.clk_ite (c : Prop) [Decidable c] (s t : State) :
    (if c then s else t).clk = if c then s.clk else t.clk := apply_ite ..

@[simp] theorem State.clk_snd_ite {α : Type} (c : Prop) [Decidable c] (x y : α × State) :
    (if c then x else y).2.clk = if c then x.2.clk else y.2.clk := apply_ite (fun x : α × State => x.2.clk) ..

/-- The state of a pair that was taken apart. -/
theorem State.clk_of_eq {α : Type} {x : α × State} {a : α} {t : State} (h : x = (a, t)) : t.clk = x.2.clk := by rw [h]

/-- Steps that each leave the clock leave it all together. -/
@[simp] theorem State.foldl_clk {β : Type} {f : State → β → State} (h : ∀ s b, (f s b).clk = s.clk) (l : List β)
    (s : State) : (l.foldl f s).clk = s.clk := by
  induction l generalizing s with
  | nil => rfl
  | cons b l ih => exact (ih _).trans (h s b)

/-- The same for steps that pass a further value on beside the state. -/
theorem State.foldl_snd_clk {α β : Type} {f : α × State → β → α × State} (h : ∀ x b, (f x b).2.clk = x.2.clk)
    (l : List β) (x : α × State) : (l.foldl f x).2.clk = x.2.clk := by
  induction l generalizing x with
  | nil => rfl
  | cons b l ih => exact (ih _).trans (h x b)

theorem State.foldl_fst_clk {α β : Type} {f : State × α → β → State × α} (h : ∀ x b, (f x b).1.clk = x.1.clk)
    (l : List β) (x : State × α) : (l.foldl f x).1.clk = x.1.clk := by
  induction l generalizing x with
  | nil => rfl
  | cons b l ih => exact (ih _).trans (h x b)

/-- Both branches read the same clock. -/
theorem State.clk_ite_of {c : Prop} [Decidable c] {s t : State} {k : Clk} (hs : s.clk = k) (ht : t.clk = k) :
    (if c then s else t).clk = k := by rw [State.clk_ite, hs, ht, ite_self]

theorem State.clk_snd_ite_of {α : Type} {c : Prop} [Decidable c] {x y : α × State} {k : Clk} (hx : x.2.clk = k)
    (hy : y.2.clk = k) : (if c then x else y).2.clk = k := by rw [State.clk_snd_ite, hx, hy, ite_self]

section
variable (rp : Option ExecRec) (c : Desc) (s : State)

/-! SUPPORT. The clock over the operations of Machine/Ops.lean. -/

@[simp] theorem State.unlatch_clk (a : Nat) : (s.unlatch a).clk = s.clk := by simp [State.unlatch]
@[simp] theorem State.draw_clk : s.draw.2.clk = s.clk := by simp [State.draw]
@[simp] theorem State.random_clk : s.random.2.clk = s.clk := by simp [State.random]
@[simp] theorem State.notice_clk (v bit : Nat) : (s.notice v bit).clk = s.clk := by
  simp -implicitDefEqProofs [State.notice]

/-! SUPPORT. The clock over the operations of Machine/Cmd.lean. -/

@[simp] theorem State.setDom_clk (d : Nat) (x : Dom) : (s.setDom d x).clk = s.clk := by simp [State.setDom]
@[simp] theorem State.jrnStart_clk (c : Desc) : (s.jrnStart c).clk = s.clk := by
  unfold State.jrnStart
  split <;> simp
@[simp] theorem State.defer_clk (c : Desc) (e : Nat) (x : Change) : (s.defer c e x).clk = s.clk := by simp [State.defer]
@[simp] theorem State.tell_clk (words : List Nat) : (s.tell words).clk = s.clk := by simp [State.tell]
@[simp] theorem State.deferDev_clk (kind idx : Nat) (x : Change) : (s.deferDev kind idx x).2.clk = s.clk := by
  simp [State.deferDev]
@[simp] theorem bad_clk (st : Nat) (s : State) : (bad st s).2.clk = s.clk := by simp [bad]
@[simp] theorem ok_clk : (ok s).2.clk = s.clk := by simp [ok]
@[simp] theorem okR_clk (r0 r1 : Nat) (s : State) : (okR r0 r1 s).2.clk = s.clk := by simp [okR]
@[simp] theorem deferred_clk (e : Nat) (s : State) : (deferred e s).2.clk = s.clk := by simp [deferred]
@[simp] theorem State.seqDone_clk (r : Nat) (seq : W32) : (s.seqDone r seq).clk = s.clk := by simp [State.seqDone]
@[simp] theorem State.finish_clk (acc : Nat) (f : Fin) : (s.finish acc f).clk = s.clk := by
  unfold State.finish
  split <;> simp
@[simp] theorem CmdInfo.check_clk (i : CmdInfo) (c : Desc) (s : State) : (i.check c s).2.clk = s.clk := by
  unfold CmdInfo.check
  (repeat' split) <;> simp

/-- What holds of the clock before a command and after its body holds after its checks and its body. -/
theorem runChecked_clk_of {P : Clk → Prop} (i : CmdInfo) (b : Body) (rp : Option ExecRec) (c : Desc) (s : State)
    (hs : P s.clk) (hb : ∀ t, t.clk = s.clk → P (b rp c t).2.clk) : P (runChecked i b rp c s).2.clk := by
  unfold runChecked
  split
  · exact hs
  · split <;> rename_i hc <;> have ht := (State.clk_of_eq hc).trans (CmdInfo.check_clk ..)
    · exact (congrArg P ht).mpr hs
    · exact hb _ ht

/-- What holds of the clock before a command and after its body holds after the command has run (R258, R264). -/
theorem runCmd_clk_of {P : Clk → Prop} (i : CmdInfo) (b : Body) (c : Desc) (s : State) (hs : P s.clk)
    (hb : ∀ t, t.clk = s.clk → P (b none c t).2.clk) : P (runCmd i b c s).clk := by
  have hz := State.jrnStart_clk s c
  have hrun : P (runChecked i b none c (s.jrnStart c)).2.clk :=
    runChecked_clk_of _ _ _ _ _ (hz ▸ hs) (fun t ht => hb t (ht.trans hz))
  unfold runCmd
  split
  · exact hs
  split
  · exact hs
  split
  · exact hs
  split <;> rename_i hx
  · exact hs
  · exact (congrArg P (State.clk_of_eq hx)).mpr hrun
  · exact (congrArg P ((State.complete_clk ..).trans (State.clk_of_eq hx))).mpr hrun

@[simp] theorem runCmd_clk (i : CmdInfo) (b : Body) (c : Desc) (s : State) (h : ∀ t, (b none c t).2.clk = t.clk) :
    (runCmd i b c s).clk = s.clk :=
  runCmd_clk_of (P := fun k => k = s.clk) i b c s rfl (fun t ht => (h t).trans ht)

@[simp] theorem State.endUnknown_clk (r : Nat) : (s.endUnknown r).clk = s.clk := by simp [State.endUnknown]
@[simp] theorem State.outBuf_clk (c : Desc) (bytes : List Nat) : (s.outBuf c bytes).clk = s.clk := by
  simp [State.outBuf]

/-! SUPPORT. The clock over the operations of Machine/Rings.lean. -/

@[simp] theorem State.faultRing_clk (r cause : Nat) : (s.faultRing r cause).clk = s.clk := by simp [State.faultRing]
@[simp] theorem State.discardCpls_clk (r : Nat) : (s.discardCpls r).clk = s.clk := by simp [State.discardCpls]
@[simp] theorem State.writeTail_clk (r : Nat) (v : W32) : (s.writeTail r v).clk = s.clk := by simp [State.writeTail]
@[simp] theorem State.writeCplHead_clk (r : Nat) (v : W32) : (s.writeCplHead r v).clk = s.clk := by
  simp [State.writeCplHead]
@[simp] theorem State.ringEnable_clk (r : Nat) : (s.ringEnable r).clk = s.clk := by
  simp only [State.ringEnable]
  (repeat' split) <;> simp
@[simp] theorem State.ringDisable_clk (r : Nat) : (s.ringDisable r).clk = s.clk := by
  simp only [State.ringDisable]
  (repeat' split) <;> simp
@[simp] theorem State.ringStopDone_clk (r : Nat) : (s.ringStopDone r).clk = s.clk := by simp [State.ringStopDone]
@[simp] theorem State.copyInput_clk (c : Desc) : (s.copyInput c).2.clk = s.clk := by simp [State.copyInput]
@[simp] theorem State.acceptOne_clk (r : Nat) (d : Desc) : (s.acceptOne r d).clk = s.clk := by simp [State.acceptOne]
@[simp] theorem State.fullInterval_clk : s.fullInterval.clk = s.clk := by simp [State.fullInterval]
@[simp] theorem State.acceptGroup_clk (r : Nat) (ds : List Desc) (err : Bool) :
    (s.acceptGroup r ds err).clk = s.clk := by
  simp [State.acceptGroup]
@[simp] theorem State.postCpl_clk (r : Nat) (refused : Bool) : (s.postCpl r refused).clk = s.clk := by
  unfold State.postCpl
  split <;> simp
@[simp] theorem State.receiveCpl_clk (r : Nat) (wher : Nat) (buf len pool : Nat) :
    (s.receiveCpl r wher buf len pool).clk = s.clk := by
  simp [State.receiveCpl]
@[simp] theorem State.evqEnable_clk : s.evqEnable.clk = s.clk := by
  refine State.clk_ite_of rfl ((State.foldl_clk (fun s e => ?_) _ _).trans (by simp -implicitDefEqProofs))
  split <;> rename_i h <;> simp [State.clk_of_eq h]
@[simp] theorem State.vectorSignal_clk (fn v : Nat) : (s.vectorSignal fn v).clk = s.clk := by simp [State.vectorSignal]
@[simp] theorem State.vectorUnmask_clk (fn v : Nat) : (s.vectorUnmask fn v).clk = s.clk := by simp [State.vectorUnmask]
@[simp] theorem State.resetRing_clk (r : Nat) : (s.resetRing r).clk = s.clk := by
  simp only [State.resetRing]
  (repeat' split) <;> simp
@[simp] theorem State.flr_clk (v : Nat) : (s.flr v).clk = s.clk := by simp [State.flr]
@[simp] theorem State.linkDown_clk : s.linkDown.clk = s.clk := by simp -implicitDefEqProofs [State.linkDown]
@[simp] theorem State.relink_clk : s.relink.clk = s.clk := by simp [State.relink]

/-! SUPPORT. The clock over the operations of Machine/Units.lean. -/

@[simp] theorem State.setRowWord_clk (q b k w : Nat) (x : W32) : (s.setRowWord q b k w x).clk = s.clk := by
  simp [State.setRowWord]
@[simp] theorem State.zeroLane_clk (q b k : Nat) : (s.zeroLane q b k).clk = s.clk := by simp [State.zeroLane]
@[simp] theorem State.countError_clk (cls u : Nat) : (s.countError cls u).clk = s.clk := by simp [State.countError]
@[simp] theorem State.gcrCount_clk (g k : Nat) : (s.gcrCount g k).clk = s.clk := by simp [State.gcrCount]
@[simp] theorem State.d2dTake_clk (die r n : Nat) : (s.d2dTake die r n).2.clk = s.clk := by simp [State.d2dTake]

/-! SUPPORT. The clock over the operations of Machine/Buffers.lean. -/

@[simp] theorem State.setPool_clk (p : Nat) (x : Pool) : (s.setPool p x).clk = s.clk := by simp [State.setPool]
@[simp] theorem State.poolCnt_clk (p k n : Nat) : (s.poolCnt p k n).clk = s.clk := by simp [State.poolCnt]
@[simp] theorem State.bpmCnt_clk (k : Nat) : (s.bpmCnt k).clk = s.clk := by simp [State.bpmCnt]
@[simp] theorem State.takeFrom_clk (p client : Nat) : (s.takeFrom p client).2.clk = s.clk := by
  simp only [State.takeFrom]
  (repeat' split) <;> simp
@[simp] theorem State.takeAny_clk (client : Nat) (ps : List Nat) (spill : Bool) :
    (s.takeAny client ps spill).2.clk = s.clk := by
  induction ps generalizing s spill with
  | nil => rfl
  | cons p r ih =>
    unfold State.takeAny
    split <;> rename_i h <;> simp [ih, State.clk_of_eq h]
@[simp] theorem State.takeBuf_clk (client n : Nat) : (s.takeBuf client n).2.clk = s.clk := by simp [State.takeBuf]
@[simp] theorem State.freeViolation_clk (p kind : Nat) : (s.freeViolation p kind).clk = s.clk := by
  simp [State.freeViolation]
@[simp] theorem State.bufReturn_clk (p b own dom : Nat) : (s.bufReturn p b own dom).clk = s.clk := by
  simp [State.bufReturn]
@[simp] theorem State.dropFrame_clk (f : Frame) (dom : Nat) : (s.dropFrame f dom).clk = s.clk := by
  unfold State.dropFrame
  split <;> simp
@[simp] theorem State.loseFrames_clk (p : Frame → Bool) (k : Nat) : (s.loseFrames p k).clk = s.clk := by
  unfold State.loseFrames
  refine State.foldl_fst_clk (fun a f => ?_) _ _
  dsimp only
  split
  · rfl
  · split <;> simp
@[simp] theorem State.pcLost_clk (u : Nat) : (s.pcLost u).clk = s.clk := by
  simp only [State.pcLost]
  (repeat' split) <;> simp
@[simp] theorem State.pcOut_clk (u : Nat) : (s.pcOut u).clk = s.clk := by
  unfold State.pcOut
  (repeat' split) <;> simp
@[simp] theorem State.pcSpareOut_clk (v : Nat) : (s.pcSpareOut v).clk = s.clk := by
  simp only [State.pcSpareOut]
  (repeat' split) <;> simp
@[simp] theorem State.pcDetour_clk (u : Nat) : (s.pcDetour u).clk = s.clk := by
  unfold State.pcDetour
  (repeat' split) <;> simp
@[simp] theorem State.hbmError_clk (u : Nat) (r : HbmRead) : (s.hbmError u r).clk = s.clk := by
  simp only [State.hbmError]
  (repeat' split) <;> simp
@[simp] theorem State.rebuildPools_clk (lay : List (Nat × Nat)) : (s.rebuildPools lay).clk = s.clk := by
  simp [State.rebuildPools]
@[simp] theorem bodyRegisterWindow_clk : (bodyRegisterWindow rp c s).2.clk = s.clk := by
  simp only [bodyRegisterWindow]
  (repeat' split) <;> simp
@[simp] theorem bodyRemoveWindow_clk : (bodyRemoveWindow rp c s).2.clk = s.clk := by
  simp only [bodyRemoveWindow]
  (repeat' split) <;> simp
@[simp] theorem bodySetHostPool_clk : (bodySetHostPool rp c s).2.clk = s.clk := by simp [bodySetHostPool]
@[simp] theorem bodyPostBuffers_clk : (bodyPostBuffers rp c s).2.clk = s.clk := by
  simp only [bodyPostBuffers]
  (repeat' split) <;> simp
@[simp] theorem bodyReclaimBuffers_clk : (bodyReclaimBuffers rp c s).2.clk = s.clk := by simp [bodyReclaimBuffers]
@[simp] theorem bodySetPoolLayout_clk : (bodySetPoolLayout rp c s).2.clk = s.clk := by simp [bodySetPoolLayout]
@[simp] theorem State.growPool_clk (p g : Nat) : (s.growPool p g).clk = s.clk := by simp [State.growPool]
@[simp] theorem bodyGrowPool_clk : (bodyGrowPool rp c s).2.clk = s.clk := by simp [bodyGrowPool]
@[simp] theorem bodyReadPools_clk : (bodyReadPools rp c s).2.clk = s.clk := by simp [bodyReadPools]

/-! SUPPORT. The clock over the operations of Machine/Issue.lean. -/

@[simp] theorem State.markBatch_clk (q b : Nat) (x : BatchSt) : (s.markBatch q b x).clk = s.clk := by
  simp [State.markBatch]
@[simp] theorem State.takeBatch_clk (st : Site) : (s.takeBatch st).clk = s.clk := by
  simp only [State.takeBatch]
  (repeat' split) <;> simp
@[simp] theorem State.installBytes_clk (u : Nat) : (s.installBytes u).clk = s.clk := by simp [State.installBytes]
@[simp] theorem State.takeEntry_clk (g : Nat) : (s.takeEntry g).clk = s.clk := by
  simp only [State.takeEntry]
  (repeat' split) <;> simp
@[simp] theorem State.runEntries_clk (q : Nat) (l : List (Nat × EntryKind)) : (s.runEntries q l).clk = s.clk := by
  simp only [State.runEntries]
  (repeat' split) <;> simp
@[simp] theorem State.abandon_clk (st : Site) : (s.abandon st).clk = s.clk := by simp [State.abandon]
@[simp] theorem State.countUsed_clk (st : Site) : (s.countUsed st).clk = s.clk := by simp [State.countUsed]
@[simp] theorem State.nextWork_clk (st : Site) : (s.nextWork st).clk = s.clk := by simp [State.nextWork]
@[simp] theorem State.entryFailed_clk (st : Site) : (s.entryFailed st).clk = s.clk := by simp [State.entryFailed]
@[simp] theorem State.progExc_clk (st : Site) (w : W32) (code : Nat) : (s.progExc st w code).clk = s.clk := by
  simp [State.progExc]
@[simp] theorem State.issuedOne_clk (st : Site) : (s.issuedOne st).clk = s.clk := by simp [State.issuedOne]
@[simp] theorem State.instr_clk (st : Site) (w : W32) (f : Ctx → Eff) : (s.instr st w f).clk = s.clk := by
  unfold State.instr
  (repeat' split) <;> simp
@[simp] theorem State.upset.again_clk (st : Site) (n : Nat) (c : Ctx) (q : Nat) (s : State) :
    (upset.again st n c q s).clk = s.clk := by
  simp [upset.again]
@[simp] theorem State.upset_clk (st : Site) : (s.upset st).clk = s.clk := by
  unfold State.upset
  dsimp only
  (repeat' split) <;> simp

/-! SUPPORT. The clock over the operations of Machine/Recorder.lean. -/

@[simp] theorem State.sample_clk (kind src v : Nat) : (s.sample kind src v).clk = s.clk := by simp [State.sample]
@[simp] theorem State.recCommit_clk (k : Nat) : (s.recCommit k).clk = s.clk := by simp [State.recCommit]
@[simp] theorem State.lrWrite_clk (cause arg : Nat) : (s.lrWrite cause arg).clk = s.clk := by
  simp -implicitDefEqProofs [State.lrWrite]
@[simp] theorem bodyRecBind_clk : (bodyRecBind rp c s).2.clk = s.clk := by
  unfold bodyRecBind
  split <;> simp
@[simp] theorem bodyRecUnbind_clk : (bodyRecUnbind rp c s).2.clk = s.clk := by simp [bodyRecUnbind]
@[simp] theorem bodyRecRead_clk : (bodyRecRead rp c s).2.clk = s.clk := by simp [bodyRecRead]
@[simp] theorem State.issueNonce_clk : s.issueNonce.2.clk = s.clk := by simp [State.issueNonce]
@[simp] theorem bodyGetClearNonce_clk : (bodyGetClearNonce rp c s).2.clk = s.clk := by
  unfold bodyGetClearNonce
  split <;> simp
@[simp] theorem State.ledgerAppend_clk (t : Token96) : (s.ledgerAppend t).clk = s.clk := by simp [State.ledgerAppend]
@[simp] theorem State.clearRecords_clk (t : Token96) : (s.clearRecords t).clk = s.clk := by
  simp -implicitDefEqProofs [State.clearRecords]
@[simp] theorem State.clearWith_clk (bytes : List Nat) : (s.clearWith bytes).2.clk = s.clk := by simp [State.clearWith]
@[simp] theorem bodyClearRecords_clk : (bodyClearRecords rp c s).2.clk = s.clk := by
  unfold bodyClearRecords
  split <;> simp
@[simp] theorem bodyReadClearLedger_clk : (bodyReadClearLedger rp c s).2.clk = s.clk := by simp [bodyReadClearLedger]
@[simp] theorem bodySetClearKey_clk : (bodySetClearKey rp c s).2.clk = s.clk := by simp [bodySetClearKey]

/-! SUPPORT. The clock over the operations of Machine/Road.lean. -/

@[simp] theorem State.queuePloam_clk (sc t : Nat) (body : List Nat) (frame : Nat) (acc : Option Nat)
    (buf : Option (Nat × Nat × Nat)) :
    (s.queuePloam sc t body frame acc buf).clk = s.clk := by
  simp [State.queuePloam]
@[simp] theorem State.ploam_clk (sc t ty : Nat) (content : List Nat) (frame : Nat) :
    (s.ploam sc t ty content frame).clk = s.clk := by
  simp [State.ploam]
@[simp] theorem State.sendRangingTime_clk (sc t frame : Nat) : (s.sendRangingTime sc t frame).clk = s.clk := by
  simp [State.sendRangingTime]
@[simp] theorem State.queueOmci_clk (sc t : Nat) (body : List Nat) (acc : Nat)
    (buf : Option (Nat × Nat × Nat)) :
    (s.queueOmci sc t body acc buf).clk = s.clk := by
  simp [State.queueOmci]
@[simp] theorem State.cancelWhere_clk (sc : Nat) (p : Change → Bool) : (s.cancelWhere sc p).clk = s.clk := by
  simp -implicitDefEqProofs [State.cancelWhere]
@[simp] theorem State.cancelOff_clk (sc t : Nat) : (s.cancelOff sc t).clk = s.clk := by simp [State.cancelOff]
@[simp] theorem State.cancelProf_clk (sc t : Nat) : (s.cancelProf sc t).clk = s.clk := by simp [State.cancelProf]
@[simp] theorem State.setTreePair_clk (w : Nat) (p : Option TreePair) : (s.setTreePair w p).clk = s.clk := by
  simp [State.setTreePair]
@[simp] theorem State.treeSwitch_clk (c : Nat) : (s.treeSwitch c).clk = s.clk := by
  unfold State.treeSwitch
  split <;> simp
@[simp] theorem State.modBurst_clk (sc m i : Nat) (f : Burst → Burst) : (s.modBurst sc m i f).clk = s.clk := by
  simp [State.modBurst]
@[simp] theorem State.grantRows_clk (bursts : List Burst) (f : W32 → W32) : (s.grantRows bursts f).clk = s.clk := by
  refine State.foldl_clk (fun s b => State.foldl_clk (fun s a => ?_) _ s) _ s
  split <;> rfl
@[simp] theorem State.writeOutcome_clk (sc m i : Nat) (o : Outc) : (s.writeOutcome sc m i o).clk = s.clk := by
  unfold State.writeOutcome
  split
  · rfl
  split
  · rfl
  refine State.clk_ite_of rfl ((State.foldl_clk (fun s a => ?_) _ _).trans rfl)
  split <;> rfl
@[simp] theorem State.discardRoad_clk (sc : Nat) : (s.discardRoad sc).clk = s.clk := by simp [State.discardRoad]
@[simp] theorem State.discardBefore_clk (sc m : Nat) : (s.discardBefore sc m).clk = s.clk := by
  simp [State.discardBefore]
@[simp] theorem State.oosAlone_clk (sc : Nat) : (s.oosAlone sc).clk = s.clk := by simp [State.oosAlone]
@[simp] theorem State.outOfService_clk (sc : Nat) : (s.outOfService sc).clk = s.clk := by
  unfold State.outOfService
  split <;> simp
@[simp] theorem State.setUnitSt_clk (cls u : Nat) (x : UnitSt) : (s.setUnitSt cls u x).clk = s.clk := by
  simp [State.setUnitSt]
@[simp] theorem State.bindCh_clk (sc kind k : Nat) : (s.bindCh sc kind k).clk = s.clk := by simp [State.bindCh]
@[simp] theorem State.dropChPending_clk (sc kind : Nat) : (s.dropChPending sc kind).clk = s.clk := by
  simp [State.dropChPending]
@[simp] theorem State.renameSpare_clk (sc kind u : Nat) : (s.renameSpare sc kind u).clk = s.clk := by
  simp only [State.renameSpare]
  (repeat' split) <;> simp
@[simp] theorem State.chLossNow_clk (sc : Nat) : (s.chLossNow sc).clk = s.clk := by simp [State.chLossNow]
@[simp] theorem State.chUnitLost_clk (kind die u : Nat) : (s.chUnitLost kind die u).clk = s.clk := by
  simp only [State.chUnitLost]
  (repeat' split) <;> simp
@[simp] theorem State.nameDemote_clk (sc t reason e : Nat) : (s.nameDemote sc t reason e).clk = s.clk := by
  simp -implicitDefEqProofs [State.nameDemote]
@[simp] theorem State.demote_clk (sc t reason : Nat) : (s.demote sc t reason).clk = s.clk := by simp [State.demote]
@[simp] theorem State.preloadOutcome_clk (sc m : Nat) (b : Burst) (o : Outc) (rx : BurstRx) :
    (s.preloadOutcome sc m b o rx).clk = s.clk := by
  unfold State.preloadOutcome
  split <;> simp -implicitDefEqProofs
@[simp] theorem State.tellTerms_clk (s t : State) (sc : Nat) : (s.tellTerms t sc).clk = t.clk := by
  refine State.clk_ite_of rfl ((State.foldl_clk (fun u k => ?_) _ _).trans ?_) <;> simp
@[simp] theorem State.byLight_clk (sc : Nat) (f : State → State) (h : ∀ s, (f s).clk = s.clk) :
    (s.byLight sc f).clk = s.clk := by
  exact State.clk_ite_of rfl ((State.tellTerms_clk ..).trans (h s))
@[simp] theorem State.correct_clk (sc t : Nat) (d : Int) : (s.correct sc t d).clk = s.clk := by simp [State.correct]
@[simp] theorem State.deviceRerange_clk (sc t : Nat) : (s.deviceRerange sc t).clk = s.clk := by
  simp [State.deviceRerange]
@[simp] theorem State.driftOutcome.mistimed_clk (s : State) (sc m t : Nat) (d : Int) (x : Term) :
    (driftOutcome.mistimed s sc m t d x).clk = s.clk := by
  simp [driftOutcome.mistimed]
@[simp] theorem State.driftOutcome_clk (sc m t : Nat) (o : Outc) (d : Int) :
    (s.driftOutcome sc m t o d).clk = s.clk := by
  unfold State.driftOutcome
  dsimp only
  split <;> simp
@[simp] theorem State.writeReport_clk (u occ stamp : Nat) : (s.writeReport u occ stamp).clk = s.clk := by
  simp [State.writeReport]
@[simp] theorem State.burstReports_clk (sc m : Nat) (b : Burst) (rx : BurstRx) :
    (s.burstReports sc m b rx).clk = s.clk := by
  refine State.foldl_clk (fun s r => ?_) _ s
  split
  · rfl
  split <;> simp
@[simp] theorem State.burstCounts_clk (sc : Nat) (rx : BurstRx) : (s.burstCounts sc rx).clk = s.clk := by
  simp only [State.burstCounts]
  (repeat' split) <;> simp -implicitDefEqProofs
@[simp] theorem State.rxSkew_clk (sc : Nat) (d : Int) : (s.rxSkew sc d).clk = s.clk := by
  simp -implicitDefEqProofs [State.rxSkew]
@[simp] theorem State.firstBurst_clk (sc t : Nat) : (s.firstBurst sc t).clk = s.clk := by simp [State.firstBurst]
@[simp] theorem State.burstOutcome_clk (sc m i : Nat) (rx : BurstRx) : (s.burstOutcome sc m i rx).clk = s.clk := by
  unfold State.burstOutcome
  (repeat' split) <;> simp
@[simp] theorem State.burstReception_clk (sc m i : Nat) (rx : BurstRx) : (s.burstReception sc m i rx).clk = s.clk := by
  simp only [State.burstReception]
  (repeat' split) <;> simp
@[simp] theorem State.treeDrainEnd_clk (c : Nat) : (s.treeDrainEnd c).clk = s.clk := by
  unfold State.treeDrainEnd
  split <;> simp
@[simp] theorem State.subDrainEnd_clk (sc : Nat) : (s.subDrainEnd sc).clk = s.clk := by
  simp only [State.subDrainEnd]
  (repeat' split) <;> simp

/-! SUPPORT. The clock over the operations of Machine/CmdUnit.lean. -/

@[simp] theorem State.bindLane_clk (u q b k : Nat) : (s.bindLane u q b k).clk = s.clk := by simp [State.bindLane]
@[simp] theorem bodyInstallUnit_clk : (bodyInstallUnit rp c s).2.clk = s.clk := by
  simp only [bodyInstallUnit]
  (repeat' split) <;> simp
@[simp] theorem bodyRetireUnit_clk : (bodyRetireUnit rp c s).2.clk = s.clk := by
  simp only [bodyRetireUnit]
  (repeat' split) <;> simp
@[simp] theorem bodyModifyUnit_clk : (bodyModifyUnit rp c s).2.clk = s.clk := by
  unfold bodyModifyUnit
  split <;> simp
@[simp] theorem State.removeUnit_clk (u : Nat) : (s.removeUnit u).clk = s.clk := by simp [State.removeUnit]
@[simp] theorem State.unitDrainEnd_clk (u : Nat) : (s.unitDrainEnd u).clk = s.clk := by
  simp only [State.unitDrainEnd]
  (repeat' split) <;> simp
@[simp] theorem State.groupCount_clk (q k : Nat) : (s.groupCount q k).clk = s.clk := by
  unfold State.groupCount
  split <;> simp
@[simp] theorem State.writeHint_clk (u demand prio target : Nat) : (s.writeHint u demand prio target).clk = s.clk := by
  simp [State.writeHint]
@[simp] theorem State.takeHint_clk (u demand prio target : Nat) : (s.takeHint u demand prio target).2.clk = s.clk := by
  simp [State.takeHint]
@[simp] theorem bodyPostHint_clk : (bodyPostHint rp c s).2.clk = s.clk := by
  simp only [bodyPostHint]
  iterate 3 refine State.clk_snd_ite_of rfl ?_
  iterate 2 refine State.clk_snd_ite_of (by simp) ?_
  split <;> rename_i h <;> simp [State.clk_of_eq h]
@[simp] theorem bodySetHintVlan_clk : (bodySetHintVlan rp c s).2.clk = s.clk := by simp [bodySetHintVlan]
@[simp] theorem bodyReadUnitLedger_clk : (bodyReadUnitLedger rp c s).2.clk = s.clk := by simp [bodyReadUnitLedger]
@[simp] theorem State.setShadows_clk (qs : List Nat) (p : Prog) (h : Shadow) : (s.setShadows qs p h).clk = s.clk := by
  simp -implicitDefEqProofs [State.setShadows]
@[simp] theorem bodyLoadProgram_clk : (bodyLoadProgram rp c s).2.clk = s.clk := by simp [bodyLoadProgram]
@[simp] theorem State.verifyDone_clk (acc : Nat) : (s.verifyDone acc).clk = s.clk := by
  unfold State.verifyDone
  split
  · dsimp only
    split
    · simp
    · exact State.clk_ite_of (by simp) (by simp)
  · rfl
@[simp] theorem State.arm_clk (qs : List Nat) (e : Nat) : (s.arm qs e).clk = s.clk := by
  simp -implicitDefEqProofs [State.arm]
@[simp] theorem bodyActivateProgram_clk : (bodyActivateProgram rp c s).2.clk = s.clk := by
  unfold bodyActivateProgram
  split <;> simp
@[simp] theorem State.disarm_clk (qs : List Nat) : (s.disarm qs).clk = s.clk := by
  simp -implicitDefEqProofs [State.disarm]
@[simp] theorem bodyActivateProgramCancel_clk : (bodyActivateProgramCancel rp c s).2.clk = s.clk := by
  simp [bodyActivateProgramCancel]
@[simp] theorem State.swapPrograms_clk (qs : List Nat) (e : Nat) : (s.swapPrograms qs e).clk = s.clk := by
  simp -implicitDefEqProofs [State.swapPrograms]
@[simp] theorem State.tableWrite_clk (first : Nat) (data : List Nat) : (s.tableWrite first data).clk = s.clk := by
  simp [State.tableWrite]
@[simp] theorem State.tableBoth_clk (first : Nat) (data : List Nat) : (s.tableBoth first data).clk = s.clk := by
  simp [State.tableBoth]
@[simp] theorem State.tableRun_clk (fuel : Nat) (s : State) : (s.tableRun fuel).clk = s.clk := by
  induction fuel generalizing s with
  | zero => rfl
  | succ n ih =>
    unfold State.tableRun
    split
    · rfl
    · split <;> simp [ih]
@[simp] theorem bodyWriteTable_clk : (bodyWriteTable rp c s).2.clk = s.clk := by simp [bodyWriteTable]
@[simp] theorem State.tableCopyDone_clk : s.tableCopyDone.clk = s.clk := by simp [State.tableCopyDone]
@[simp] theorem bodyReadTable_clk : (bodyReadTable rp c s).2.clk = s.clk := by simp [bodyReadTable]
@[simp] theorem bodyReadCoreDiag_clk : (bodyReadCoreDiag rp c s).2.clk = s.clk := by simp [bodyReadCoreDiag]

/-! SUPPORT. The clock over the operations of Machine/Keys.lean. -/

@[simp] theorem State.zeroSlot_clk (k : Nat) : (s.zeroSlot k).clk = s.clk := by simp [State.zeroSlot]
@[simp] theorem State.setKex_clk (sc t : Nat) (x : KeyEx) : (s.setKex sc t x).clk = s.clk := by simp [State.setKex]
@[simp] theorem State.freeKeys_clk (sc t : Nat) : (s.freeKeys sc t).clk = s.clk := by simp [State.freeKeys]
@[simp] theorem State.ponCnt_clk (d k : Nat) : (s.ponCnt d k).clk = s.clk := by simp [State.ponCnt]
@[simp] theorem State.macCnt_clk (e k : Nat) : (s.macCnt e k).clk = s.clk := by simp [State.macCnt]
@[simp] theorem State.setSubCph_clk (sc : Nat) (x : SubCipher) : (s.setSubCph sc x).clk = s.clk := by
  simp [State.setSubCph]
@[simp] theorem State.reserve_clk (sc : Nat) : (s.reserve sc).clk = s.clk := by simp [State.reserve]
@[simp] theorem State.release_clk (sc : Nat) : (s.release sc).clk = s.clk := by simp [State.release]
@[simp] theorem State.shedCredits_clk (die fuel : Nat) : (s.shedCredits die fuel).clk = s.clk := by
  induction fuel generalizing s with
  | zero => rfl
  | succ n ih =>
    unfold State.shedCredits
    split
    · rfl
    · simp [ih]
@[simp] theorem State.cipherUnitOut_clk (cls u : Nat) (st : UnitSt) : (s.cipherUnitOut cls u st).clk = s.clk := by
  simp only [State.cipherUnitOut]
  (repeat' split) <;> simp
@[simp] theorem State.keyRequest_clk (sc t : Nat) : (s.keyRequest sc t).clk = s.clk := by simp [State.keyRequest]
@[simp] theorem State.kexStart_clk (sc t : Nat) : (s.kexStart sc t).clk = s.clk := by simp [State.kexStart]
@[simp] theorem State.kexFail_clk (sc t : Nat) : (s.kexFail sc t).clk = s.clk := by simp [State.kexFail]
@[simp] theorem State.kexMiss_clk (sc t : Nat) : (s.kexMiss sc t).clk = s.clk := by
  simp only [State.kexMiss]
  (repeat' split) <;> simp
@[simp] theorem State.takeKey_clk (sc t i w : Nat) (key : List Nat) : (s.takeKey sc t i w key).clk = s.clk := by
  simp [State.takeKey]
@[simp] theorem State.keyReport_clk (sc t : Nat) (key : List Nat) : (s.keyReport sc t key).clk = s.clk := by
  simp [State.keyReport]
@[simp] theorem State.forgetExh_clk (u : Nat) (p : Nat → Bool) : (s.forgetExh u p).clk = s.clk := by
  simp [State.forgetExh]
@[simp] theorem State.zeroSa_clk (k : Nat) : (s.zeroSa k).clk = s.clk := by simp [State.zeroSa]
@[simp] theorem State.saExhaust_clk (k : Nat) : (s.saExhaust k).clk = s.clk := by simp [State.saExhaust]
@[simp] theorem State.exhDrop_clk (k : Nat) : (s.exhDrop k).clk = s.clk := by simp [State.exhDrop]
@[simp] theorem State.saSend_clk (k : Nat) : (s.saSend k).2.clk = s.clk := by simp [State.saSend]
@[simp] theorem State.secSend_clk (u : Nat) : (s.secSend u).2.clk = s.clk := by
  simp only [State.secSend]
  (repeat' split) <;> simp
@[simp] theorem State.cipherUpset_clk (q : ChunkReq) (u : Nat) : (s.cipherUpset q u).clk = s.clk := by
  simp [State.cipherUpset]
@[simp] theorem State.setCut_clk (q : ChunkReq) (b : Bool) : (s.setCut q b).clk = s.clk := by simp [State.setCut]
@[simp] theorem State.chunkMiss_clk (q : ChunkReq) : (s.chunkMiss q).clk = s.clk := by simp [State.chunkMiss]
@[simp] theorem State.macTake_clk (q : ChunkReq) : (s.macTake q).2.clk = s.clk := by simp [State.macTake]
@[simp] theorem State.chunkServe_clk (q : ChunkReq) (key : List Nat) : (s.chunkServe q key).clk = s.clk := by
  simp only [State.chunkServe]
  (repeat' split) <;> simp
@[simp] theorem State.cipherChunk_clk (q : ChunkReq) : (s.cipherChunk q).clk = s.clk := by
  unfold State.cipherChunk
  split
  · rfl
  split <;> rename_i h
  · simp [State.clk_of_eq h]
  · split <;> simp [State.clk_of_eq h]
@[simp] theorem State.katTest_clk (cls u : Nat) (pass : Bool) : (s.katTest cls u pass).clk = s.clk := by
  simp [State.katTest]
@[simp] theorem bodySetCipher_clk : (bodySetCipher rp c s).2.clk = s.clk := by simp [bodySetCipher]
@[simp] theorem bodySetKeyPolicy_clk : (bodySetKeyPolicy rp c s).2.clk = s.clk := by simp [bodySetKeyPolicy]
@[simp] theorem bodyInstallPonKey_clk : (bodyInstallPonKey rp c s).2.clk = s.clk := by simp [bodyInstallPonKey]
@[simp] theorem bodySwitchPonKey_clk : (bodySwitchPonKey rp c s).2.clk = s.clk := by simp [bodySwitchPonKey]
@[simp] theorem bodyConfigSecy_clk : (bodyConfigSecy rp c s).2.clk = s.clk := by simp [bodyConfigSecy]
@[simp] theorem bodyInstallSa_clk : (bodyInstallSa rp c s).2.clk = s.clk := by simp [bodyInstallSa]
@[simp] theorem bodyEnableSa_clk : (bodyEnableSa rp c s).2.clk = s.clk := by
  simp only [bodyEnableSa]
  (repeat' split) <;> simp
@[simp] theorem bodyRemoveSa_clk : (bodyRemoveSa rp c s).2.clk = s.clk := by simp [bodyRemoveSa]
@[simp] theorem bodyReadSa_clk : (bodyReadSa rp c s).2.clk = s.clk := by simp [bodyReadSa]
@[simp] theorem bodyRekeyTerminal_clk : (bodyRekeyTerminal rp c s).2.clk = s.clk := by simp [bodyRekeyTerminal]

/-! SUPPORT. The clock over the operations of Machine/Activation.lean. -/

@[simp] theorem State.setRetd_clk (sc t : Nat) (x : Retained) : (s.setRetd sc t x).clk = s.clk := by
  simp [State.setRetd]
@[simp] theorem State.clearRtt_clk (sc t : Nat) : (s.clearRtt sc t).clk = s.clk := by simp [State.clearRtt]
@[simp] theorem State.closeWins_clk (sc t : Nat) : (s.closeWins sc t).clk = s.clk := by simp [State.closeWins]
@[simp] theorem State.leaveTerm_clk (sc t : Nat) (a : ActSt) : (s.leaveTerm sc t a).clk = s.clk := by
  simp [State.leaveTerm]
@[simp] theorem State.sendDeact_clk (sc t f : Nat) : (s.sendDeact sc t f).clk = s.clk := by simp [State.sendDeact]
@[simp] theorem State.sendDisable_clk (sc t f : Nat) (en : Bool) : (s.sendDisable sc t f en).clk = s.clk := by
  simp [State.sendDisable]
@[simp] theorem State.freeTerm_clk (sc t : Nat) : (s.freeTerm sc t).clk = s.clk := by simp [State.freeTerm]
@[simp] theorem State.discovered_clk (sc t ta : Nat) : (s.discovered sc t ta).clk = s.clk := by simp [State.discovered]
@[simp] theorem State.unknownSn_clk (sc sn : Nat) : (s.unknownSn sc sn).clk = s.clk := by simp [State.unknownSn]
@[simp] theorem State.snResponse_clk (sc : Nat) (r : SnRsp) : (s.snResponse sc r).clk = s.clk := by
  simp only [State.snResponse]
  (repeat' split) <;> simp
@[simp] theorem State.regResponse_clk (sc t : Nat) (r : RegRsp) : (s.regResponse sc t r).clk = s.clk := by
  simp only [State.regResponse]
  (repeat' split) <;> simp
@[simp] theorem State.ownRecord_clk (sc t : Nat) (r : RegRsp) : (s.ownRecord sc t r).clk = s.clk := by
  unfold State.ownRecord
  split <;> simp
@[simp] theorem State.refuse_clk (sc t : Nat) : (s.refuse sc t).clk = s.clk := by simp [State.refuse]
@[simp] theorem State.rangingProcess_clk (sc t : Nat) : (s.rangingProcess sc t).clk = s.clk := by
  simp only [State.rangingProcess]
  (repeat' split) <;> simp
@[simp] theorem State.windowClose_clk (sc t : Nat) : (s.windowClose sc t).clk = s.clk := by
  unfold State.windowClose
  split <;> simp
@[simp] theorem State.rtPeriodEnd_clk (sc t : Nat) : (s.rtPeriodEnd sc t).clk = s.clk := by
  simp only [State.rtPeriodEnd]
  (repeat' split) <;> simp
@[simp] theorem State.terminalLost_clk (sc t : Nat) : (s.terminalLost sc t).clk = s.clk := by simp [State.terminalLost]
@[simp] theorem State.receive_clk (d : Nat) (bind : Option (Nat × Nat)) (wher : Nat) (bytes : List Nat) :
    (s.receive d bind wher bytes).2.clk = s.clk := by
  simp only [State.receive]
  (repeat' split) <;> simp
@[simp] theorem State.deliver_clk (sc t kind : Nat) (bytes : List Nat) : (s.deliver sc t kind bytes).2.clk = s.clk := by
  simp only [State.deliver]
  split <;> rename_i h <;> simp [State.clk_of_eq h]
@[simp] theorem State.upPloam_clk (sc t : Nat) (msg : List Nat) : (s.upPloam sc t msg).clk = s.clk := by
  simp [State.upPloam]
@[simp] theorem State.upOmci_clk (sc t : Nat) (msg check : List Nat) : (s.upOmci sc t msg check).clk = s.clk := by
  unfold State.upOmci
  split
  · rfl
  split
  · split <;> rename_i h <;> simp [State.clk_of_eq h]
  · simp
@[simp] theorem State.shutTerm_clk (sc t e : Nat) (discard : Bool) (after : AfterDrain) :
    (s.shutTerm sc t e discard after).clk = s.clk := by
  simp [State.shutTerm]
@[simp] theorem State.startRerange_clk (sc t e : Nat) : (s.startRerange sc t e).clk = s.clk := by
  simp [State.startRerange]
@[simp] theorem State.afterShut_clk (sc t : Nat) : (s.afterShut sc t).clk = s.clk := by
  unfold State.afterShut
  split <;> simp
@[simp] theorem State.termMilestone_clk (sc t : Nat) : (s.termMilestone sc t).clk = s.clk := by
  simp [State.termMilestone]
@[simp] theorem State.termDrainEnd_clk (sc t : Nat) : (s.termDrainEnd sc t).clk = s.clk := by
  simp only [State.termDrainEnd]
  (repeat' split) <;> simp -implicitDefEqProofs
@[simp] theorem State.applyDemote_clk (sc t : Nat) : (s.applyDemote sc t).clk = s.clk := by simp [State.applyDemote]
@[simp] theorem State.applyProfile_clk (sc t p e : Nat) : (s.applyProfile sc t p e).clk = s.clk := by
  simp -implicitDefEqProofs [State.applyProfile]
@[simp] theorem State.modRogue_clk (sc : Nat) (f : Rogue → Rogue) : (s.modRogue sc f).clk = s.clk := by
  simp [State.modRogue]
@[simp] theorem State.nextCand_clk (sc fuel : Nat) : (s.nextCand sc fuel).clk = s.clk := by
  induction fuel generalizing s with
  | zero => rfl
  | succ n ih =>
    unfold State.nextCand
    dsimp only
    split
    · simp
    · split <;> simp [ih]
@[simp] theorem State.isolate_clk (sc : Nat) : (s.isolate sc).clk = s.clk := by simp [State.isolate]
@[simp] theorem State.reenable_clk (sc k : Nat) : (s.reenable sc k).clk = s.clk := by simp [State.reenable]
@[simp] theorem State.rogueLight_clk (sc a b : Nat) (delim : Bool) : (s.rogueLight sc a b delim).clk = s.clk := by
  simp [State.rogueLight]
@[simp] theorem State.observeEnd_clk (sc : Nat) : (s.observeEnd sc).clk = s.clk := by
  simp only [State.observeEnd]
  (repeat' split) <;> simp
@[simp] theorem State.recoveryEnd_clk (sc : Nat) : (s.recoveryEnd sc).clk = s.clk := by
  simp only [State.recoveryEnd]
  (repeat' split) <;> simp
@[simp] theorem State.subDone_clk (sc : Nat) : (s.subDone sc).clk = s.clk := by simp [State.subDone]

/-! SUPPORT. The clock over the operations of Machine/CmdPon.lean. -/

@[simp] theorem State.resetRegs_clk (lo hi : Nat) (p : RDom → Bool) : (s.resetRegs lo hi p).clk = s.clk := by
  simp [State.resetRegs]
@[simp] theorem State.chBind_clk (sc : Nat) : (s.chBind sc).clk = s.clk := by
  refine State.foldl_clk (fun s kind => ?_) _ s
  split
  · rfl
  · split <;> simp
@[simp] theorem State.alsoPending_clk (subs acts : List Nat) (e : Nat) : (s.alsoPending subs acts e).clk = s.clk := by
  simp -implicitDefEqProofs [State.alsoPending]
@[simp] theorem State.enableOne_clk (c : Desc) (e : Nat) (resumes : Bool) (sc : Nat) :
    (s.enableOne c e resumes sc).clk = s.clk := by
  simp [State.enableOne]
@[simp] theorem bodyEnable_clk : (bodyEnable rp c s).2.clk = s.clk := by
  simp only [bodyEnable]
  (repeat' split) <;> simp
@[simp] theorem bodyDisable_clk : (bodyDisable rp c s).2.clk = s.clk := by
  unfold bodyDisable
  split <;> simp
@[simp] theorem bodySetRoadLength_clk : (bodySetRoadLength rp c s).2.clk = s.clk := by simp [bodySetRoadLength]
@[simp] theorem State.sendProfiles_clk (sc : Nat) : (s.sendProfiles sc).clk = s.clk := by simp [State.sendProfiles]
@[simp] theorem bodySetSubchParams_clk : (bodySetSubchParams rp c s).2.clk = s.clk := by simp [bodySetSubchParams]
@[simp] theorem bodySetDiscovery_clk : (bodySetDiscovery rp c s).2.clk = s.clk := by simp [bodySetDiscovery]
@[simp] theorem State.resetSub_clk (sc : Nat) : (s.resetSub sc).clk = s.clk := by
  simp -implicitDefEqProofs [State.resetSub]
@[simp] theorem State.keepLost_clk (s t : State) (l : Nat) : (s.keepLost t l).clk = t.clk := by
  unfold State.keepLost
  split <;> rfl
@[simp] theorem State.resetTree_clk (c : Nat) : (s.resetTree c).clk = s.clk := by simp [State.resetTree]
@[simp] theorem bodyResetTree_clk : (bodyResetTree rp c s).2.clk = s.clk := by simp [bodyResetTree]
@[simp] theorem State.onTerm_clk (c : Desc) (f : Term → State → Res × State)
    (h : ∀ y s, (f y s).2.clk = s.clk) : (s.onTerm c f).2.clk = s.clk := by
  exact State.clk_snd_ite_of rfl (State.clk_snd_ite_of rfl (State.clk_snd_ite_of rfl (h _ _)))
@[simp] theorem bodyAddTerminal_clk : (bodyAddTerminal rp c s).2.clk = s.clk := by simp [bodyAddTerminal]
@[simp] theorem bodyRemoveTerminal_clk : (bodyRemoveTerminal rp c s).2.clk = s.clk := by simp [bodyRemoveTerminal]
@[simp] theorem bodyDeactivateTerminal_clk : (bodyDeactivateTerminal rp c s).2.clk = s.clk := by
  refine State.onTerm_clk _ _ _ (fun y s => ?_)
  (repeat' split) <;> simp
@[simp] theorem bodyDisableSerial_clk : (bodyDisableSerial rp c s).2.clk = s.clk := by
  refine State.onTerm_clk _ _ _ (fun y s => ?_)
  (repeat' split) <;> simp
@[simp] theorem bodyEnableSerial_clk : (bodyEnableSerial rp c s).2.clk = s.clk := by simp [bodyEnableSerial]
@[simp] theorem bodySetBurstProfile_clk : (bodySetBurstProfile rp c s).2.clk = s.clk := by
  refine State.onTerm_clk _ _ _ (fun y s => ?_)
  (repeat' split) <;> simp
@[simp] theorem bodySetRanging_clk : (bodySetRanging rp c s).2.clk = s.clk := by simp [bodySetRanging]
@[simp] theorem bodyRangeTerminal_clk : (bodyRangeTerminal rp c s).2.clk = s.clk := by
  refine State.onTerm_clk _ _ _ (fun y s => ?_)
  (repeat' split) <;> simp
@[simp] theorem bodyIsolateRogue_clk : (bodyIsolateRogue rp c s).2.clk = s.clk := by
  simp only [bodyIsolateRogue]
  iterate 3 refine State.clk_snd_ite_of rfl ?_
  refine State.clk_snd_ite_of ?_ (by simp)
  simp only [ok_clk, State.tellTerms_clk, State.modRogue_clk]
  split <;> simp
@[simp] theorem bodyReadUnknown_clk : (bodyReadUnknown rp c s).2.clk = s.clk := by simp [bodyReadUnknown]
@[simp] theorem bodyReadTerminal_clk : (bodyReadTerminal rp c s).2.clk = s.clk := by simp [bodyReadTerminal]
@[simp] theorem bodyReadSubchAct_clk : (bodyReadSubchAct rp c s).2.clk = s.clk := by simp [bodyReadSubchAct]
@[simp] theorem bodySendPloam_clk : (bodySendPloam rp c s).2.clk = s.clk := by
  simp only [bodySendPloam]
  iterate 4 refine State.clk_snd_ite_of rfl ?_
  split <;> rename_i h
  · simp [State.clk_of_eq h]
  · exact State.clk_snd_ite_of rfl (by simp [State.clk_of_eq h])
@[simp] theorem bodySendOmci_clk : (bodySendOmci rp c s).2.clk = s.clk := by
  refine State.onTerm_clk _ _ _ (fun y s => ?_)
  iterate 3 refine State.clk_snd_ite_of rfl ?_
  split <;> rename_i h <;> simp [State.clk_of_eq h]
@[simp] theorem bodyBindTerminalRx_clk : (bodyBindTerminalRx rp c s).2.clk = s.clk := by simp [bodyBindTerminalRx]

/-! SUPPORT. The clock over the operations of Machine/Traffic.lean. -/

@[simp] theorem State.tmgDrop_clk (k n : Nat) : (s.tmgDrop k n).clk = s.clk := by simp [State.tmgDrop]
@[simp] theorem State.setQueue_clk (up : Bool) (i : Nat) (x : Queue) : (s.setQueue up i x).clk = s.clk := by
  simp [State.setQueue]
@[simp] theorem State.setSched_clk (up : Bool) (i : Nat) (x : Sched) : (s.setSched up i x).clk = s.clk := by
  simp [State.setSched]
@[simp] theorem State.setNode_clk (up : Bool) (i : Nat) (x : Sched) : (s.setNode up i x).clk = s.clk := by
  simp [State.setNode]
@[simp] theorem State.setNodeCount_clk (up : Bool) (n : Nat) (x : Queue) : (s.setNodeCount up n x).clk = s.clk := by
  simp [State.setNodeCount]
@[simp] theorem State.countQ_clk (up : Bool) (i : Nat) (f : Queue → Queue) : (s.countQ up i f).clk = s.clk := by
  simp [State.countQ]
@[simp] theorem State.setPort_clk (pt : Nat) (x : Port) : (s.setPort pt x).clk = s.clk := by simp [State.setPort]
@[simp] theorem State.noteFit_clk (up : Bool) (i : Nat) : (s.noteFit up i).clk = s.clk := by simp [State.noteFit]
@[simp] theorem State.enqueue_clk (up : Bool) (i : Nat) (f : Frame) : (s.enqueue up i f).clk = s.clk := by
  simp [State.enqueue]
@[simp] theorem State.freeQueues_clk (up : Bool) (p : Nat → Bool) : (s.freeQueues up p).clk = s.clk := by
  simp [State.freeQueues]
@[simp] theorem State.dropOversize_clk (up : Bool) (i fuel : Nat) : (s.dropOversize up i fuel).clk = s.clk := by
  induction fuel generalizing s with
  | zero => rfl
  | succ n ih =>
    unfold State.dropOversize
    dsimp only
    split
    · rfl
    · split <;> simp [ih]
@[simp] theorem State.look_clk (pt : Nat) : (s.look pt).clk = s.clk := by simp [State.look]
@[simp] theorem State.sendDown_clk (i : Nat) (f : Frame) : (s.sendDown i f).clk = s.clk := by
  simp only [State.sendDown]
  split <;> rename_i h
  · exact (State.clk_of_eq h).trans (State.d2dTake_clk ..)
  · split <;> simp [State.clk_of_eq h]
@[simp] theorem State.sendUp_clk (i : Nat) (f : Frame) : (s.sendUp i f).clk = s.clk := by
  simp only [State.sendUp]
  split <;> rename_i h
  · simp [State.clk_of_eq h]
  · split <;> rename_i h' <;> simp [State.clk_of_eq h, State.clk_of_eq h']
@[simp] theorem State.dequeueFrom_clk (pt i : Nat) : (s.dequeueFrom pt i).clk = s.clk := by
  simp only [State.dequeueFrom]
  (repeat' split) <;> simp
@[simp] theorem State.frameDequeue_clk (pt : Nat) : (s.frameDequeue pt).clk = s.clk := by
  simp only [State.frameDequeue]
  (repeat' split) <;> simp
@[simp] theorem State.gateSwitch_clk (pt : Nat) : (s.gateSwitch pt).clk = s.clk := by
  simp only [State.gateSwitch]
  (repeat' split) <;> simp
@[simp] theorem State.sampleQueue_clk (up : Bool) (i : Nat) : (s.sampleQueue up i).clk = s.clk := by
  simp [State.sampleQueue]
@[simp] theorem State.queueSample_clk : s.queueSample.clk = s.clk := by simp [State.queueSample]
@[simp] theorem bodySetFlowSched_clk : (bodySetFlowSched rp c s).2.clk = s.clk := by simp [bodySetFlowSched]
@[simp] theorem bodySetNodeSched_clk : (bodySetNodeSched rp c s).2.clk = s.clk := by
  unfold bodySetNodeSched
  split <;> simp
@[simp] theorem bodySetPolicer_clk : (bodySetPolicer rp c s).2.clk = s.clk := by simp [bodySetPolicer]
@[simp] theorem bodySetPortSched_clk : (bodySetPortSched rp c s).2.clk = s.clk := by simp [bodySetPortSched]
@[simp] theorem bodySetGateList_clk : (bodySetGateList rp c s).2.clk = s.clk := by simp [bodySetGateList]
@[simp] theorem bodyReadQueue_clk : (bodyReadQueue rp c s).2.clk = s.clk := by simp [bodyReadQueue]

/-! SUPPORT. The clock over the operations of Machine/MacTable.lean. -/

@[simp] theorem State.pipeCnt_clk (p k : Nat) : (s.pipeCnt p k).clk = s.clk := by simp [State.pipeCnt]
@[simp] theorem State.fwdCnt_clk (k : Nat) : (s.fwdCnt k).clk = s.clk := by simp [State.fwdCnt]
@[simp] theorem State.sendNotice_clk (p : Nat) (k : MacKey) (cycle : Nat) : (s.sendNotice p k cycle).clk = s.clk := by
  simp [State.sendNotice]
@[simp] theorem State.rehashRequest_clk (p : Nat) : (s.rehashRequest p).clk = s.clk := by simp [State.rehashRequest]
@[simp] theorem State.moveEntry_clk (p i : Nat) (e : MacEnt) (uplink : Bool) (port : Nat) :
    (s.moveEntry p i e uplink port).clk = s.clk := by
  simp [State.moveEntry]
@[simp] theorem State.learnOne_clk (p : Nat) (r : LearnReq) : (s.learnOne p r).clk = s.clk := by
  simp only [State.learnOne]
  (repeat' split) <;> simp
@[simp] theorem State.queueLearn_clk (p : Nat) (r : LearnReq) : (s.queueLearn p r).clk = s.clk := by
  simp [State.queueLearn]
@[simp] theorem State.learnNext_clk (p : Nat) : (s.learnNext p).clk = s.clk := by
  simp only [State.learnNext]
  (repeat' split) <;> simp
@[simp] theorem State.learnAll_clk (p : Nat) : (s.learnAll p).clk = s.clk := by simp [State.learnAll]
@[simp] theorem State.learnNotice_clk (p : Nat) : (s.learnNotice p).clk = s.clk := by
  simp only [State.learnNotice]
  (repeat' split) <;> simp
@[simp] theorem State.stashReturn_clk (p : Nat) : (s.stashReturn p).clk = s.clk := by simp [State.stashReturn]
@[simp] theorem State.ageing_clk (p b : Nat) : (s.ageing p b).clk = s.clk := by
  refine State.clk_ite_of rfl ((State.foldl_clk (fun s i => ?_) _ _).trans (by simp))
  dsimp only
  split <;> simp
@[simp] theorem State.freezeExpiry_clk (p : Nat) (k : MacKey) : (s.freezeExpiry p k).clk = s.clk := by
  simp only [State.freezeExpiry]
  (repeat' split) <;> simp
@[simp] theorem State.walkExpire_clk (p : Nat) : (s.walkExpire p).clk = s.clk := by
  simp only [State.walkExpire]
  (repeat' split) <;> simp
@[simp] theorem State.flushDone_clk (p acc : Nat) : (s.flushDone p acc).clk = s.clk := by
  simp only [State.flushDone]
  (repeat' split) <;> simp
@[simp] theorem State.rehashDone_clk (p : Nat) : (s.rehashDone p).clk = s.clk := by
  simp only [State.rehashDone]
  (repeat' split) <;> simp
@[simp] theorem bodyAddEntry_clk : (bodyAddEntry rp c s).2.clk = s.clk := by
  simp only [bodyAddEntry]
  (repeat' split) <;> simp
@[simp] theorem bodyDeleteEntry_clk : (bodyDeleteEntry rp c s).2.clk = s.clk := by
  simp only [bodyDeleteEntry]
  (repeat' split) <;> simp
@[simp] theorem bodySearch_clk : (bodySearch rp c s).2.clk = s.clk := by
  simp only [bodySearch]
  (repeat' split) <;> simp
@[simp] theorem bodyNext_clk : (bodyNext rp c s).2.clk = s.clk := by simp [bodyNext]
@[simp] theorem bodyWalkEnd_clk : (bodyWalkEnd rp c s).2.clk = s.clk := by simp [bodyWalkEnd]
@[simp] theorem bodyFlushByPort_clk : (bodyFlushByPort rp c s).2.clk = s.clk := by
  simp -implicitDefEqProofs [bodyFlushByPort]
@[simp] theorem State.seedFor_clk (c : Desc) : (s.seedFor c).2.clk = s.clk := by
  unfold State.seedFor
  split <;> simp
@[simp] theorem bodyRehash_clk : (bodyRehash rp c s).2.clk = s.clk := by
  simp only [bodyRehash]
  (repeat' split) <;> simp
@[simp] theorem bodySetSteer_clk : (bodySetSteer rp c s).2.clk = s.clk := by simp [bodySetSteer]

/-! SUPPORT. The clock over the operations of Machine/Forward.lean. -/

@[simp] theorem State.newFlow_clk (i : Nat) (f : Flow) : (s.newFlow i f).clk = s.clk := by simp [State.newFlow]
@[simp] theorem bodyCreateFlow_clk : (bodyCreateFlow rp c s).2.clk = s.clk := by
  unfold bodyCreateFlow
  split <;> simp
@[simp] theorem bodyDestroyFlow_clk : (bodyDestroyFlow rp c s).2.clk = s.clk := by
  unfold bodyDestroyFlow
  split <;> simp
@[simp] theorem bodyModifyFlow_clk : (bodyModifyFlow rp c s).2.clk = s.clk := by simp [bodyModifyFlow]
@[simp] theorem bodyReadFlow_clk : (bodyReadFlow rp c s).2.clk = s.clk := by simp [bodyReadFlow]
@[simp] theorem State.leaveFlood_clk (i : Nat) : (s.leaveFlood i).clk = s.clk := by simp [State.leaveFlood]
@[simp] theorem bodyJoinFlood_clk : (bodyJoinFlood rp c s).2.clk = s.clk := by simp [bodyJoinFlood]
@[simp] theorem bodyLeaveFlood_clk : (bodyLeaveFlood rp c s).2.clk = s.clk := by simp [bodyLeaveFlood]
@[simp] theorem State.flowShut_clk (i e : Nat) (discard : Bool) : (s.flowShut i e discard).clk = s.clk := by
  simp [State.flowShut]
@[simp] theorem State.removeFlow_clk (i : Nat) : (s.removeFlow i).clk = s.clk := by simp [State.removeFlow]
@[simp] theorem State.flowDrainEnd_clk (i : Nat) : (s.flowDrainEnd i).clk = s.clk := by
  simp only [State.flowDrainEnd]
  (repeat' split) <;> simp
theorem State.clk_of_takeRef {s t : State} {n e : Nat} (h : s.takeRef n = some (e, t)) : t.clk = s.clk := by
  simp only [State.takeRef] at h
  split at h
  · cases h
  · cases h; rfl
@[simp] theorem State.store_clk (client dom len : Nat) (up : Bool) (copies : List (Nat × Frame)) :
    (s.store client dom len up copies).clk = s.clk := by
  simp only [State.store]
  split
  · simp
  split
  · simp
  rename_i ref s1 hr
  have hs1 : s1.clk = s.clk := by
    split at hr
    · obtain ⟨⟨e, t⟩, ht, he⟩ := Option.map_eq_some_iff.1 hr
      cases he
      exact State.clk_of_takeRef ht
    · cases hr; rfl
  split <;> rename_i h
  · split <;> simp [State.clk_of_eq h, hs1]
  · simp [State.clk_of_eq h, hs1]
@[simp] theorem State.pipeTake_clk (p r : Nat) : (s.pipeTake p r).2.clk = s.clk := by simp [State.pipeTake]
@[simp] theorem State.classify_clk (f : UpFrame) (e : Steer) : (s.classify f e).clk = s.clk := by
  simp only [State.classify]
  (repeat' split) <;> simp
@[simp] theorem State.uplCnt_clk (u k n : Nat) : (s.uplCnt u k n).clk = s.clk := by
  simp -implicitDefEqProofs [State.uplCnt]
@[simp] theorem State.secReceive_clk (u : Nat) (sec : Option SecTag) : (s.secReceive u sec).2.clk = s.clk := by
  unfold State.secReceive
  (repeat' split) <;> simp
@[simp] theorem State.fecCounts_clk (f : UpFrame) : (s.fecCounts f).clk = s.clk := by simp [State.fecCounts]
@[simp] theorem State.uplinkIngress_clk (f : UpFrame) : (s.uplinkIngress f).clk = s.clk := by
  simp only [State.uplinkIngress]
  split
  · rfl
  iterate 5 refine State.clk_ite_of (by simp) ?_
  split <;> rename_i h
  · simp [State.clk_of_eq h]
  refine State.clk_ite_of (by simp [State.clk_of_eq h]) ?_
  split <;> rename_i h'
  · simp [State.clk_of_eq h', State.clk_of_eq h]
  refine State.clk_ite_of (by simp [State.clk_of_eq h', State.clk_of_eq h]) ?_
  split <;> rename_i h'' <;> simp [State.clk_of_eq h'', State.clk_of_eq h', State.clk_of_eq h]
@[simp] theorem State.police_clk (i n : Nat) : (s.police i n).2.clk = s.clk := by simp [State.police]
@[simp] theorem State.keyMiss_clk (sc : Nat) : (s.keyMiss sc).clk = s.clk := by
  simp -implicitDefEqProofs [State.keyMiss]
@[simp] theorem State.bridge_clk (i : Nat) (f : DnFrame) (x : Flow) : (s.bridge i f x).clk = s.clk := by
  simp only [State.bridge]
  split <;> rename_i h
  · simp [State.clk_of_eq h]
  · repeat' split
    all_goals simp [State.clk_of_eq h]
@[simp] theorem State.upArrive_clk (i : Nat) (f : DnFrame) (x : Flow) : (s.upArrive i f x).clk = s.clk := by
  simp only [State.upArrive]
  split <;> rename_i h
  · simp [State.clk_of_eq h]
  · split <;> rename_i h'
    · simp [State.clk_of_eq h, State.clk_of_eq h']
    · repeat' split
      all_goals simp [State.clk_of_eq h, State.clk_of_eq h']
@[simp] theorem State.setFrag_clk (i n : Nat) : (s.setFrag i n).clk = s.clk := by simp [State.setFrag]
@[simp] theorem State.reassemble_clk (i : Nat) (f : DnFrame) (x : Flow) : (s.reassemble i f x).clk = s.clk := by
  simp [State.reassemble]
@[simp] theorem State.upstreamFrame_clk (f : DnFrame) : (s.upstreamFrame f).clk = s.clk := by
  unfold State.upstreamFrame
  (repeat' split) <;> simp
@[simp] theorem State.postHint_clk (dom u dem t : Nat) : (s.postHint dom u dem t).clk = s.clk := by
  simp [State.postHint]
@[simp] theorem State.hintFrame_clk (u vid : Nat) (l : List Nat) : (s.hintFrame u vid l).clk = s.clk := by
  unfold State.hintFrame
  (repeat' split) <;> simp

/-! SUPPORT. The clock over the operations of Machine/Domains.lean. -/

@[simp] theorem bodyOpenDomain_clk : (bodyOpenDomain rp c s).2.clk = s.clk := by
  simp only [bodyOpenDomain]
  (repeat' split) <;> simp
@[simp] theorem bodyTeardownDomain_clk : (bodyTeardownDomain rp c s).2.clk = s.clk := by
  unfold bodyTeardownDomain
  split <;> simp
@[simp] theorem State.cancelResume_clk (acc : Option Nat) : (s.cancelResume acc).clk = s.clk := by
  unfold State.cancelResume
  split <;> simp
@[simp] theorem State.shutUnit_clk (u e : Nat) (discard : Bool) : (s.shutUnit u e discard).clk = s.clk := by
  simp only [State.shutUnit]
  (repeat' split) <;> simp
@[simp] theorem State.shutFlow_clk (f e : Nat) (discard : Bool) : (s.shutFlow f e discard).clk = s.clk := by
  simp only [State.shutFlow]
  (repeat' split) <;> simp
@[simp] theorem State.applyTeardown_clk (d e : Nat) (discard : Bool) : (s.applyTeardown d e discard).clk = s.clk := by
  simp [State.applyTeardown]
@[simp] theorem State.flushDomain_clk (d : Nat) : (s.flushDomain d).clk = s.clk := by
  simp -implicitDefEqProofs [State.flushDomain]
@[simp] theorem State.domainMilestone_clk (d : Nat) : (s.domainMilestone d).clk = s.clk := by
  simp -implicitDefEqProofs [State.domainMilestone]
@[simp] theorem State.domainDrainEnd_clk (d : Nat) : (s.domainDrainEnd d).clk = s.clk := by
  simp -implicitDefEqProofs [State.domainDrainEnd]
@[simp] theorem State.unpairSettle_clk (w : Nat) : (s.unpairSettle w).clk = s.clk := by
  unfold State.unpairSettle
  split <;> simp

/-! SUPPORT. The clock over the operations of Machine/Time.lean. -/

@[simp] theorem State.timCnt_clk (k : Nat) : (s.timCnt k).clk = s.clk := by simp [State.timCnt]
@[simp] theorem State.offsetIn_clk (o : Int) : (s.offsetIn o).clk = s.clk := by simp [State.offsetIn]
@[simp] theorem State.holdover_clk : s.holdover.clk = s.clk := by simp [State.holdover]
@[simp] theorem State.holdoverTimeout_clk : s.holdoverTimeout.clk = s.clk := by simp [State.holdoverTimeout]
@[simp] theorem State.latchSec_clk : s.latchSec.clk = s.clk := by simp [State.latchSec]
@[simp] theorem State.rclkCheck_clk (k : Nat) : (s.rclkCheck k).clk = s.clk := by
  simp -implicitDefEqProofs [State.rclkCheck]
@[simp] theorem State.rclkCheckAll_clk : s.rclkCheckAll.clk = s.clk := by simp [State.rclkCheckAll]
@[simp] theorem State.rclkResume_clk (k : Nat) : (s.rclkResume k).clk = s.clk := by
  simp -implicitDefEqProofs [State.rclkResume]
@[simp] theorem bodySetPtpPort_clk : (bodySetPtpPort rp c s).2.clk = s.clk := by simp [bodySetPtpPort]
@[simp] theorem bodyBindPtpRx_clk : (bodyBindPtpRx rp c s).2.clk = s.clk := by simp [bodyBindPtpRx]
@[simp] theorem bodySendPtp_clk : (bodySendPtp rp c s).2.clk = s.clk := by
  unfold bodySendPtp
  split <;> simp
@[simp] theorem State.ptpSent_clk (u : Nat) (bytes : List Nat) : (s.ptpSent u bytes).2.clk = s.clk := by
  unfold State.ptpSent
  split <;> rename_i h
  · split at h
    · cases h
    · simp [State.clk_of_eq h]
  · split at h
    · cases h; simp
    · simp [State.clk_of_eq h]
@[simp] theorem State.ptpEgress_clk (acc ts : Nat) : (s.ptpEgress acc ts).clk = s.clk := by
  unfold State.ptpEgress
  split
  · rfl
  split
  · rfl
  dsimp only
  split
  · simp
  · split <;> rename_i h <;> simp [State.clk_of_eq h]
@[simp] theorem State.ptpTrap_clk (u : Nat) (f : PtpFrame) : (s.ptpTrap u f).clk = s.clk := by
  simp only [State.ptpTrap]
  refine State.clk_ite_of rfl ?_
  split <;> rename_i h <;> simp [State.clk_of_eq h]
@[simp] theorem bodyComputeTod_clk : (bodyComputeTod rp c s).2.clk = s.clk := by simp [bodyComputeTod]
@[simp] theorem State.ppsOut_clk : s.ppsOut.clk = s.clk := by simp [State.ppsOut]
@[simp] theorem State.ppsIn_clk : s.ppsIn.clk = s.clk := by simp [State.ppsIn]

/-! SUPPORT. The clock over the operations of Machine/Lanes.lean. -/

@[simp] theorem State.laneTo_clk (l x : Nat) : (s.laneTo l x).clk = s.clk := by simp [State.laneTo]
@[simp] theorem State.laneCnt_clk (l k : Nat) : (s.laneCnt l k).clk = s.clk := by simp [State.laneCnt]
@[simp] theorem State.syncOut_clk (l : Nat) : (s.syncOut l).clk = s.clk := by simp [State.syncOut]
@[simp] theorem State.syncIn_clk (l : Nat) : (s.syncIn l).clk = s.clk := by simp [State.syncIn]
@[simp] theorem State.measureSkew_clk (ls : List Nat) : (s.measureSkew ls).clk = s.clk := by simp [State.measureSkew]
@[simp] theorem State.portLinkEval_clk (u : Nat) : (s.portLinkEval u).clk = s.clk := by
  simp -implicitDefEqProofs [State.portLinkEval]
@[simp] theorem State.laneChanged_clk (l : Nat) : (s.laneChanged l).clk = s.clk := by
  unfold State.laneChanged
  split <;> simp
@[simp] theorem State.saveCoef_clk (l : Nat) : (s.saveCoef l).clk = s.clk := by simp [State.saveCoef]
@[simp] theorem State.idleLane_clk (l : Nat) : (s.idleLane l).clk = s.clk := by simp [State.idleLane]
@[simp] theorem State.settleLane_clk (l : Nat) : (s.settleLane l).clk = s.clk := by simp [State.settleLane]
@[simp] theorem State.chkCount_clk (l : Nat) : (s.chkCount l).clk = s.clk := by simp [State.chkCount]
@[simp] theorem State.endTest_clk (l : Nat) : (s.endTest l).clk = s.clk := by simp -implicitDefEqProofs [State.endTest]
@[simp] theorem State.testCtl_clk (l w : Nat) : (s.testCtl l w).clk = s.clk := by
  simp -implicitDefEqProofs [State.testCtl]
@[simp] theorem State.inject_clk (l w : Nat) : (s.inject l w).clk = s.clk := by simp [State.inject]
@[simp] theorem State.chkLock_clk (l : Nat) : (s.chkLock l).clk = s.clk := by simp -implicitDefEqProofs [State.chkLock]
@[simp] theorem State.chkLoss_clk (l : Nat) : (s.chkLoss l).clk = s.clk := by simp -implicitDefEqProofs [State.chkLoss]
@[simp] theorem State.laneExit_clk (l : Nat) : (s.laneExit l).clk = s.clk := by simp [State.laneExit]
@[simp] theorem State.laneSignal_clk (l : Nat) : (s.laneSignal l).clk = s.clk := by simp [State.laneSignal]
@[simp] theorem State.laneUp_clk (l : Nat) : (s.laneUp l).clk = s.clk := by simp [State.laneUp]
@[simp] theorem State.laneTrained_clk (l : Nat) (coef : W64) : (s.laneTrained l coef).clk = s.clk := by
  simp [State.laneTrained]
@[simp] theorem State.recordMargin_clk (l v h : Nat) : (s.recordMargin l v h).clk = s.clk := by
  simp -implicitDefEqProofs [State.recordMargin]
@[simp] theorem State.judgeMargin_clk (l v h : Nat) : (s.judgeMargin l v h).clk = s.clk := by simp [State.judgeMargin]
@[simp] theorem State.measure_clk (l v h : Nat) : (s.measure l v h).clk = s.clk := by
  simp -implicitDefEqProofs [State.measure]
@[simp] theorem State.laneDown_clk (l : Nat) : (s.laneDown l).clk = s.clk := by simp [State.laneDown]
@[simp] theorem State.commaAligned_clk (l : Nat) : (s.commaAligned l).clk = s.clk := by simp [State.commaAligned]
@[simp] theorem State.arbiterLost_clk : s.arbiterLost.clk = s.clk := by simp [State.arbiterLost]
@[simp] theorem State.laneLost_clk (l : Nat) : (s.laneLost l).clk = s.clk := by
  simp only [State.laneLost]
  (repeat' split) <;> simp
@[simp] theorem State.syncRestore_clk (l : Nat) : (s.syncRestore l).clk = s.clk := by simp [State.syncRestore]
@[simp] theorem State.removePort_clk (u : Nat) : (s.removePort u).clk = s.clk := by simp [State.removePort]
@[simp] theorem bodyConfigPort_clk : (bodyConfigPort rp c s).2.clk = s.clk := by
  simp -implicitDefEqProofs [bodyConfigPort]
@[simp] theorem State.portEnable_clk (u : Nat) : (s.portEnable u).clk = s.clk := by simp [State.portEnable]
@[simp] theorem bodyPortUp_clk : (bodyPortUp rp c s).2.clk = s.clk := by
  simp only [bodyPortUp]
  (repeat' split) <;> simp
@[simp] theorem bodyPortDown_clk : (bodyPortDown rp c s).2.clk = s.clk := by
  simp only [bodyPortDown]
  (repeat' split) <;> simp
@[simp] theorem State.completeOk_clk (acc : Option Nat) : (s.completeOk acc).clk = s.clk := by
  unfold State.completeOk
  split <;> simp
@[simp] theorem State.portDrainEnd_clk (u : Nat) : (s.portDrainEnd u).clk = s.clk := by
  simp only [State.portDrainEnd]
  (repeat' split) <;> simp

/-! SUPPORT. The clock over the operations of Machine/Faults.lean. -/

@[simp] theorem State.markUnsync_clk (key : Nat) : (s.markUnsync key).clk = s.clk := by simp [State.markUnsync]
@[simp] theorem State.unsyncGroup_clk (q : Nat) : (s.unsyncGroup q).clk = s.clk := by simp [State.unsyncGroup]
@[simp] theorem State.setCoreSt_clk (g : Nat) (x : CoreSt) : (s.setCoreSt g x).clk = s.clk := by simp [State.setCoreSt]
@[simp] theorem State.coreTreesOut_clk (g : Nat) : (s.coreTreesOut g).clk = s.clk := by
  simp only [State.coreTreesOut]
  (repeat' split) <;> simp
@[simp] theorem State.stopCtxs_clk (g : Nat) : (s.stopCtxs g).clk = s.clk := by simp [State.stopCtxs]
@[simp] theorem State.moveSlots_clk (g spare : Nat) : (s.moveSlots g spare).clk = s.clk := by
  simp -implicitDefEqProofs [State.moveSlots]
@[simp] theorem State.takeOver_clk (g spare e : Nat) (left : CoreSt) : (s.takeOver g spare e left).clk = s.clk := by
  simp [State.takeOver]
@[simp] theorem State.applyCoreDetour_clk (g spare e : Nat) : (s.applyCoreDetour g spare e).clk = s.clk := by
  simp [State.applyCoreDetour]
@[simp] theorem State.nameDetour_clk (g spare e : Nat) : (s.nameDetour g spare e).clk = s.clk := by
  simp [State.nameDetour]
@[simp] theorem State.coreFault_clk (g : Nat) : (s.coreFault g).clk = s.clk := by
  simp only [State.coreFault]
  (repeat' split) <;> simp
@[simp] theorem State.replaceLost_clk (g : Nat) : (s.replaceLost g).clk = s.clk := by
  unfold State.replaceLost
  split <;> simp
@[simp] theorem State.coreLost_clk (g : Nat) : (s.coreLost g).clk = s.clk := by
  simp only [State.coreLost]
  (repeat' split) <;> simp
@[simp] theorem State.spareLoaded_clk (g : Nat) : (s.spareLoaded g).clk = s.clk := by
  unfold State.spareLoaded
  split <;> simp
@[simp] theorem State.nameChDetour_clk (cls u k : Nat) : (s.nameChDetour cls u k).clk = s.clk := by
  simp [State.nameChDetour]
@[simp] theorem State.chFault_clk (cls u : Nat) : (s.chFault cls u).clk = s.clk := by
  simp only [State.chFault]
  (repeat' split) <;> simp
@[simp] theorem State.applyChDetour_clk (sc kind spare e : Nat) : (s.applyChDetour sc kind spare e).clk = s.clk := by
  simp [State.applyChDetour]
@[simp] theorem State.dieOut_clk (die : Nat) : (s.dieOut die).clk = s.clk := by simp [State.dieOut]
@[simp] theorem State.moduleLost_clk (die m : Nat) : (s.moduleLost die m).clk = s.clk := by simp [State.moduleLost]
@[simp] theorem State.moduleDegrade_clk (die m : Nat) (x32 : Bool) : (s.moduleDegrade die m x32).clk = s.clk := by
  simp [State.moduleDegrade]
@[simp] theorem State.flitRetry_clk (die m : Nat) : (s.flitRetry die m).clk = s.clk := by simp [State.flitRetry]
@[simp] theorem State.laneRepair_clk (die m r n : Nat) (x32 : Bool) : (s.laneRepair die m r n x32).clk = s.clk := by
  simp [State.laneRepair]
@[simp] theorem State.syncMgmt_clk : s.syncMgmt.clk = s.clk := by simp -implicitDefEqProofs [State.syncMgmt]
@[simp] theorem State.mgmtOut_clk (k : Nat) : (s.mgmtOut k).clk = s.clk := by
  simp only [State.mgmtOut]
  (repeat' split) <;> simp
@[simp] theorem State.pairOut_clk (cls u : Nat) : (s.pairOut cls u).clk = s.clk := by simp [State.pairOut]
@[simp] theorem State.banksInUse_clk : s.banksInUse.clk = s.clk := by simp [State.banksInUse]
@[simp] theorem State.faultOut_clk (cls u : Nat) : (s.faultOut cls u).clk = s.clk := by
  unfold State.faultOut
  split <;> simp
@[simp] theorem State.fault_clk (cls u : Nat) : (s.fault cls u).clk = s.clk := by simp [State.fault]
@[simp] theorem State.unitFault_clk (cls u : Nat) : (s.unitFault cls u).clk = s.clk := by simp [State.unitFault]
@[simp] theorem State.windowExpiry_clk (cls u : Nat) : (s.windowExpiry cls u).clk = s.clk := by
  simp only [State.windowExpiry]
  (repeat' split) <;> simp
@[simp] theorem State.tested_clk (cls u : Nat) (pass : Bool) : (s.tested cls u pass).clk = s.clk := by
  simp [State.tested]
@[simp] theorem State.rotation_clk (cls u : Nat) (pass : Bool) : (s.rotation cls u pass).clk = s.clk := by
  simp [State.rotation]
@[simp] theorem State.retireNamed_clk (u e : Nat) (cls : Nat) (x : Change) : (s.retireNamed u e cls x).clk = s.clk := by
  unfold State.retireNamed
  split <;> simp
@[simp] theorem bodyRetireHw_clk : (bodyRetireHw rp c s).2.clk = s.clk := by
  unfold bodyRetireHw
  split <;> simp
@[simp] theorem State.applyRetire_clk (cls u : Nat) : (s.applyRetire cls u).clk = s.clk := by
  simp only [State.applyRetire]
  (repeat' split) <;> simp
@[simp] theorem State.testResult_clk (rp : Option ExecRec) (okAt : ExecRec → Bool) :
    (s.testResult rp okAt).2.clk = s.clk := by
  unfold State.testResult
  split <;> simp
@[simp] theorem bodyReturnHw_clk : (bodyReturnHw rp c s).2.clk = s.clk := by simp [bodyReturnHw]
@[simp] theorem bodyRunSelfTest_clk : (bodyRunSelfTest rp c s).2.clk = s.clk := by simp [bodyRunSelfTest]
@[simp] theorem bodyReadHealth_clk : (bodyReadHealth rp c s).2.clk = s.clk := by simp [bodyReadHealth]
@[simp] theorem State.healthSel_clk (w : Nat) : (s.healthSel w).clk = s.clk := by
  simp -implicitDefEqProofs [State.healthSel]
@[simp] theorem State.healthDone_clk : s.healthDone.clk = s.clk := by simp -implicitDefEqProofs [State.healthDone]

/-! SUPPORT. The clock over the operations of Machine/Protect.lean. -/

@[simp] theorem State.pairCnt_clk (k n : Nat) : (s.pairCnt k n).clk = s.clk := by simp [State.pairCnt]
@[simp] theorem State.setPairSt_clk (st : PairSt) (r : Role) : (s.setPairSt st r).clk = s.clk := by
  simp [State.setPairSt]
@[simp] theorem State.setPairWait_clk (b : Bool) : (s.setPairWait b).clk = s.clk := by simp [State.setPairWait]
@[simp] theorem State.unsyncAll_clk : s.unsyncAll.clk = s.clk := by simp [State.unsyncAll]
@[simp] theorem State.settlePon_clk : s.settlePon.clk = s.clk := by simp [State.settlePon]
@[simp] theorem State.fence_clk : s.fence.clk = s.clk := by simp [State.fence]
@[simp] theorem State.stopRing_clk (r : Nat) : (s.stopRing r).clk = s.clk := by simp [State.stopRing]
@[simp] theorem State.restoreMirror_clk : s.restoreMirror.clk = s.clk := by
  simp -implicitDefEqProofs [State.restoreMirror]
@[simp] theorem State.takeover_clk : s.takeover.clk = s.clk := by simp [State.takeover]
@[simp] theorem State.nextEpoch_clk : s.nextEpoch.clk = s.clk := by simp [State.nextEpoch]
@[simp] theorem State.token_clk (k : TokenIn) : (s.token k).clk = s.clk := by simp -implicitDefEqProofs [State.token]
@[simp] theorem State.verdict_clk (k : Option TokenIn) : (s.verdict k).clk = s.clk := by
  unfold State.verdict
  split <;> simp
@[simp] theorem State.heartbeatSend_clk : s.heartbeatSend.clk = s.clk := by simp [State.heartbeatSend]
@[simp] theorem State.heartbeat_clk : s.heartbeat.clk = s.clk := by simp [State.heartbeat]
@[simp] theorem State.arbiterMissed_clk : s.arbiterMissed.clk = s.clk := by simp [State.arbiterMissed]
@[simp] theorem State.fenceTimeout_clk : s.fenceTimeout.clk = s.clk := by simp [State.fenceTimeout]
@[simp] theorem State.sendPartA_clk : s.sendPartA.clk = s.clk := by simp [State.sendPartA]
@[simp] theorem State.sendPartB_clk : s.sendPartB.clk = s.clk := by simp [State.sendPartB]
@[simp] theorem State.divergence_clk (sc : Nat) : (s.divergence sc).clk = s.clk := by
  simp -implicitDefEqProofs [State.divergence]
@[simp] theorem State.compareBooks_clk (digests : List W64) (theirs : List Nat) :
    (s.compareBooks digests theirs).2.clk = s.clk := by
  simp only [State.compareBooks]
  generalize List.range 384 = l
  refine State.foldl_snd_clk (fun r sc => ?_) l (true, s)
  exact State.clk_snd_ite_of (by simp) (State.clk_snd_ite_of rfl (by simp))
@[simp] theorem State.peerSeen_clk (peer : Nat) : (s.peerSeen peer).clk = s.clk := by simp [State.peerSeen]
@[simp] theorem State.noteUnsync_clk (keys : List Nat) : (s.noteUnsync keys).clk = s.clk := by simp [State.noteUnsync]
@[simp] theorem State.judgeTest_clk (q : Nat) (own peer : Bool) : (s.judgeTest q own peer).clk = s.clk := by
  simp [State.judgeTest]
@[simp] theorem State.judgeTests_clk (tests : List (Nat × Bool)) : (s.judgeTests tests).clk = s.clk := by
  refine (State.foldl_clk (fun s e => ?_) _ _).trans rfl
  split
  · split <;> simp
  · rfl
@[simp] theorem State.receiveRecord_clk (r : IntervalRec) : (s.receiveRecord r).clk = s.clk := by
  unfold State.receiveRecord
  split
  · rfl
  split
  · split
    · rfl
    · simp -implicitDefEqProofs
  · dsimp only
    split <;> simp
@[simp] theorem State.batchDigests_clk (q : Nat) (ds : List Nat) : (s.batchDigests q ds).clk = s.clk := by
  simp [State.batchDigests]
@[simp] theorem State.hbMissed_clk : s.hbMissed.clk = s.clk := by simp [State.hbMissed]
@[simp] theorem State.joinFail_clk : s.joinFail.clk = s.clk := by
  simp only [State.joinFail]
  (repeat' split) <;> simp
@[simp] theorem State.heartbeatLost_clk : s.heartbeatLost.clk = s.clk := by
  simp only [State.heartbeatLost]
  (repeat' split) <;> simp -implicitDefEqProofs
@[simp] theorem State.divergenceTest_clk (q : Nat) : (s.divergenceTest q).clk = s.clk := by
  simp only [State.divergenceTest]
  (repeat' split) <;> simp
@[simp] theorem State.rowCopy_clk (c : RowCopy) : (s.rowCopy c).clk = s.clk := by
  simp only [State.rowCopy]
  (repeat' split) <;> simp
@[simp] theorem State.replaceBook_clk (sc : Nat) (b : FwdBook) : (s.replaceBook sc b).clk = s.clk := by
  simp only [State.replaceBook]
  (repeat' split) <;> simp
@[simp] theorem State.forwardBook_clk (sc : Nat) (b : FwdBook) : (s.forwardBook sc b).clk = s.clk := by
  simp only [State.forwardBook]
  (repeat' split) <;> simp
@[simp] theorem State.putTerm_clk (sc t : Nat) (r : TermRec) : (s.putTerm sc t r).clk = s.clk := by simp [State.putTerm]
@[simp] theorem State.recorded_clk (kind idx : Nat) (x : Change) (w : DecAt) :
    (s.recorded kind idx x w).clk = s.clk := by
  simp [State.recorded]
@[simp] theorem State.decision_clk (d : Decision) : (s.decision d).clk = s.clk := by
  unfold State.decision
  (repeat' split) <;> simp
@[simp] theorem State.hintRecord_clk (h : HintRec) : (s.hintRecord h).clk = s.clk := by simp [State.hintRecord]
@[simp] theorem bodyPairConfig_clk : (bodyPairConfig rp c s).2.clk = s.clk := by
  simp -implicitDefEqProofs [bodyPairConfig]
@[simp] theorem bodyPairJoin_clk : (bodyPairJoin rp c s).2.clk = s.clk := by simp [bodyPairJoin]
@[simp] theorem State.pairJoined_clk (good : Bool) : (s.pairJoined good).clk = s.clk := by simp [State.pairJoined]
@[simp] theorem bodyPairLeave_clk : (bodyPairLeave rp c s).2.clk = s.clk := by
  simp only [bodyPairLeave]
  (repeat' split) <;> simp -implicitDefEqProofs
@[simp] theorem bodySwitchOver_clk : (bodySwitchOver rp c s).2.clk = s.clk := by
  unfold bodySwitchOver
  split <;> simp
@[simp] theorem bodyForceActive_clk : (bodyForceActive rp c s).2.clk = s.clk := by simp [bodyForceActive]
@[simp] theorem bodyTreePair_clk : (bodyTreePair rp c s).2.clk = s.clk := by simp [bodyTreePair]
@[simp] theorem bodyTreeUnpair_clk : (bodyTreeUnpair rp c s).2.clk = s.clk := by
  unfold bodyTreeUnpair
  split <;> simp
@[simp] theorem bodySwitchTree_clk : (bodySwitchTree rp c s).2.clk = s.clk := by
  simp only [bodySwitchTree]
  (repeat' split) <;> simp
@[simp] theorem State.applyTreeSwitch_clk (w : Nat) (toP : Bool) (e : Nat) :
    (s.applyTreeSwitch w toP e).clk = s.clk := by
  unfold State.applyTreeSwitch
  split <;> simp
@[simp] theorem bodyReadPair_clk : (bodyReadPair rp c s).2.clk = s.clk := by simp [bodyReadPair]

/-! SUPPORT. The clock over the operations of Machine/Reset.lean. -/

@[simp] theorem State.commitRecord_clk : s.commitRecord.clk = s.clk := by
  unfold State.commitRecord
  split <;> simp
@[simp] theorem State.settleCh_clk (sc kind spare : Nat) : (s.settleCh sc kind spare).clk = s.clk := by
  simp [State.settleCh]
@[simp] theorem State.dropRetained_clk : s.dropRetained.clk = s.clk := by simp [State.dropRetained]
@[simp] theorem State.loseMram_clk : s.loseMram.clk = s.clk := by simp [State.loseMram]
@[simp] theorem State.loseRetained_clk : s.loseRetained.clk = s.clk := by simp [State.loseRetained]
@[simp] theorem State.eraseAll_clk : s.eraseAll.clk = s.clk := by simp [State.eraseAll]

/-! SUPPORT. The clock over the operations of Machine/Mgmt.lean. -/

@[simp] theorem State.setMbx_clk (m : Nat) (x : Mbx) : (s.setMbx m x).clk = s.clk := by
  unfold State.setMbx
  split <;> simp
@[simp] theorem State.oobSend_clk : s.oobSend.clk = s.clk := by simp -implicitDefEqProofs [State.oobSend]
@[simp] theorem State.mbxAnswer_clk (m st : Nat) (body : List Nat) : (s.mbxAnswer m st body).clk = s.clk := by
  unfold State.mbxAnswer
  split <;> simp -implicitDefEqProofs
@[simp] theorem State.mbxServe_clk (m op : Nat) (f : State → State) (h : ∀ s, (f s).clk = s.clk) :
    (s.mbxServe m op f).clk = s.clk := by
  exact State.clk_ite_of rfl (State.clk_ite_of (by simp) (State.clk_ite_of (h s) rfl))
@[simp] theorem State.mbxSubmit_clk (m : Nat) : (s.mbxSubmit m).clk = s.clk := by simp [State.mbxSubmit]
@[simp] theorem State.mbxPlain_clk (m : Nat) (f : State → List Nat × State) (h : ∀ s, (f s).2.clk = s.clk) :
    (s.mbxPlain m f).clk = s.clk := by
  unfold State.mbxPlain
  split <;> simp [h]
@[simp] theorem State.mbxReadRecord_clk (m : Nat) : (s.mbxReadRecord m).clk = s.clk := by simp [State.mbxReadRecord]
@[simp] theorem State.mbxAttest_clk (m : Nat) : (s.mbxAttest m).clk = s.clk := by simp [State.mbxAttest]
@[simp] theorem State.mbxClear_clk (m : Nat) : (s.mbxClear m).clk = s.clk := by simp [State.mbxClear]
@[simp] theorem State.mbxClearLedger_clk (m : Nat) : (s.mbxClearLedger m).clk = s.clk := by simp [State.mbxClearLedger]
@[simp] theorem State.mbxModuleIo_clk (m : Nat) (ans : Option (List Nat)) : (s.mbxModuleIo m ans).clk = s.clk := by
  unfold State.mbxModuleIo
  (repeat' split) <;> simp
@[simp] theorem State.blockWrite_clk (cmd : Nat) (bytes : List Nat) (pecOk : Bool) :
    (s.blockWrite cmd bytes pecOk).clk = s.clk := by
  simp [State.blockWrite]
@[simp] theorem State.sendByte_clk (cmd : Nat) (pecOk : Bool) : (s.sendByte cmd pecOk).clk = s.clk := by
  simp [State.sendByte]
@[simp] theorem State.readByte_clk : s.readByte.clk = s.clk := by simp [State.readByte]
@[simp] theorem State.blockRead_clk : s.blockRead.clk = s.clk := by simp [State.blockRead]
@[simp] theorem State.alertAnswer_clk : s.alertAnswer.clk = s.clk := by simp [State.alertAnswer]
@[simp] theorem State.oobFrame_clk (f : OobIn) : (s.oobFrame f).clk = s.clk := by simp [State.oobFrame]
@[simp] theorem State.modDbg_clk (f : Debug → Debug) : (s.modDbg f).clk = s.clk := by simp [State.modDbg]
@[simp] theorem State.challenge_clk : s.challenge.clk = s.clk := by simp [State.challenge]
@[simp] theorem State.response_clk (sig : List Nat) : (s.response sig).clk = s.clk := by simp [State.response]
@[simp] theorem State.judgeHotspot_clk (h : Nat) (t : Int) : (s.judgeHotspot h t).clk = s.clk := by
  simp [State.judgeHotspot]
@[simp] theorem State.thermStatus_clk : s.thermStatus.clk = s.clk := by simp -implicitDefEqProofs [State.thermStatus]
@[simp] theorem State.voltConv_clk (n mv : Nat) : (s.voltConv n mv).clk = s.clk := by
  simp -implicitDefEqProofs [State.voltConv]
@[simp] theorem State.hbmTemp_clk (k t : Nat) : (s.hbmTemp k t).clk = s.clk := by simp [State.hbmTemp]

/-! SUPPORT. The clock over the operations of Machine/Changes.lean. -/

@[simp] theorem State.rangeAll_clk (sc e : Nat) : (s.rangeAll sc e).clk = s.clk := by simp [State.rangeAll]
@[simp] theorem State.applyEnable_clk (sc e : Nat) : (s.applyEnable sc e).clk = s.clk := by simp [State.applyEnable]
@[simp] theorem State.applyDisable_clk (sc e : Nat) (discard : Bool) : (s.applyDisable sc e discard).clk = s.clk := by
  simp [State.applyDisable]
@[simp] theorem State.applyInstall_clk (u : Nat) : (s.applyInstall u).clk = s.clk := by simp [State.applyInstall]
@[simp] theorem State.applyModify_clk (u mask : Nat) (words : List W32) : (s.applyModify u mask words).clk = s.clk := by
  simp [State.applyModify]
@[simp] theorem State.applyRetireUnit_clk (u e : Nat) (discard : Bool) :
    (s.applyRetireUnit u e discard).clk = s.clk := by
  simp [State.applyRetireUnit]
@[simp] theorem State.applyDeact_clk (sc t e : Nat) (discard dis : Bool) :
    (s.applyDeact sc t e discard dis).clk = s.clk := by
  simp [State.applyDeact]
@[simp] theorem State.applyChange_clk (p : Pend) : (s.applyChange p).clk = s.clk := by
  unfold State.applyChange
  split <;> simp

/-! SUPPORT. The clock over the operations of Machine/Waypoint.lean. -/

@[simp] theorem State.loadCfg_clk (w : WpCfg) : (s.loadCfg w).clk = s.clk := by simp [State.loadCfg]
@[simp] theorem State.loadLayout_clk (w : WpCfg) : (s.loadLayout w).clk = s.clk := by simp [State.loadLayout]
@[simp] theorem State.setWpMap_clk (m : SMap (Option Waypoint)) : (s.setWpMap m).clk = s.clk := by simp [State.setWpMap]
@[simp] theorem State.autoCapture_clk : s.autoCapture.clk = s.clk := by simp [State.autoCapture]
@[simp] theorem State.heldCapture_clk : s.heldCapture.clk = s.clk := by simp [State.heldCapture]
@[simp] theorem State.wpTrigger_clk : s.wpTrigger.clk = s.clk := by simp [State.wpTrigger]
@[simp] theorem State.wpCapture_clk : s.wpCapture.clk = s.clk := by simp [State.wpCapture]
@[simp] theorem State.wpCopy_clk : s.wpCopy.clk = s.clk := by simp [State.wpCopy]
@[simp] theorem State.capEnd_clk (st r0 r1 : Nat) : (s.capEnd st r0 r1).clk = s.clk := by
  simp only [State.capEnd]
  (repeat' split) <;> simp
@[simp] theorem State.wpDone_clk (good : Bool) (kib : Nat) : (s.wpDone good kib).clk = s.clk := by
  unfold State.wpDone
  split <;> simp
@[simp] theorem State.returnDoms_clk (w : WpCfg) (e : Nat) (discard : Bool) :
    (s.returnDoms w e discard).clk = s.clk := by
  refine State.foldl_clk (fun s d => ?_) _ s
  dsimp only
  split
  · simp
  · split <;> simp
@[simp] theorem State.returnSubs_clk (w : WpCfg) (e : Nat) (discard : Bool) :
    (s.returnSubs w e discard).clk = s.clk := by
  refine State.foldl_clk (fun s sc => ?_) _ s
  dsimp only
  split
  · simp
  · split <;> simp
  · simp
  · simp
@[simp] theorem State.returnTerms_clk (w : WpCfg) (e : Nat) (discard : Bool) :
    (s.returnTerms w e discard).clk = s.clk := by
  simp [State.returnTerms]
@[simp] theorem State.returnUnit_clk (u e : Nat) (y : AUnit) : (s.returnUnit u e y).clk = s.clk := by
  unfold State.returnUnit
  split <;> simp
@[simp] theorem State.returnEntries_clk (q e acc : Nat) (discard : Bool) (w : WpCfg) :
    (s.returnEntries q e acc discard w).clk = s.clk := by
  simp [State.returnEntries]
@[simp] theorem State.returnUnits_clk (w : WpCfg) (e : Nat) (discard : Bool) :
    (s.returnUnits w e discard).clk = s.clk := by
  simp [State.returnUnits]
@[simp] theorem State.returnFlows_clk (w : WpCfg) (e : Nat) (discard : Bool) :
    (s.returnFlows w e discard).clk = s.clk := by
  simp [State.returnFlows]
@[simp] theorem State.returnSched_clk (w : WpCfg) : (s.returnSched w).clk = s.clk := by simp [State.returnSched]
@[simp] theorem State.returnPipe_clk (p : Nat) (w : Pipe) : (s.returnPipe p w).clk = s.clk := by simp [State.returnPipe]
@[simp] theorem State.returnPrograms_clk (w : WpCfg) (e : Nat) : (s.returnPrograms w e).clk = s.clk := by
  simp -implicitDefEqProofs [State.returnPrograms]
@[simp] theorem State.returnSas_clk (w : WpCfg) : (s.returnSas w).clk = s.clk := by simp [State.returnSas]
@[simp] theorem State.returnRecs_clk (w : WpCfg) : (s.returnRecs w).clk = s.clk := by simp [State.returnRecs]
@[simp] theorem State.returnPorts_clk (w : WpCfg) : (s.returnPorts w).clk = s.clk := by simp [State.returnPorts]
@[simp] theorem State.returnRest_clk (w : WpCfg) : (s.returnRest w).clk = s.clk := by simp [State.returnRest]
@[simp] theorem State.applyReturn_clk (ver e : Nat) : (s.applyReturn ver e).clk = s.clk := by
  unfold State.applyReturn
  split <;> simp
@[simp] theorem bodyTakeWaypoint_clk : (bodyTakeWaypoint rp c s).2.clk = s.clk := by simp [bodyTakeWaypoint]
@[simp] theorem bodyReturnWaypoint_clk : (bodyReturnWaypoint rp c s).2.clk = s.clk := by
  simp only [bodyReturnWaypoint]
  (repeat' split) <;> simp
@[simp] theorem bodyPinWaypoint_clk : (bodyPinWaypoint rp c s).2.clk = s.clk := by
  simp only [bodyPinWaypoint]
  (repeat' split) <;> simp
@[simp] theorem bodyListWaypoints_clk : (bodyListWaypoints rp c s).2.clk = s.clk := by simp [bodyListWaypoints]
@[simp] theorem bodyReleaseHold_clk : (bodyReleaseHold rp c s).2.clk = s.clk := by
  unfold bodyReleaseHold
  (repeat' split) <;> simp
@[simp] theorem State.startErase_clk (t : Token96) : (s.startErase t).clk = s.clk := by simp [State.startErase]
@[simp] theorem bodyFactoryClean_clk : (bodyFactoryClean rp c s).2.clk = s.clk := by simp [bodyFactoryClean]

/-! SUPPORT. The clock over the operations of Machine/Update.lean. -/

@[simp] theorem State.updCnt_clk (k : Nat) : (s.updCnt k).clk = s.clk := by simp [State.updCnt]
@[simp] theorem State.clearBitmap_clk : s.clearBitmap.clk = s.clk := by simp -implicitDefEqProofs [State.clearBitmap]
@[simp] theorem State.updStart_clk (l : List Nat) : (s.updStart l).2.clk = s.clk := by
  simp -implicitDefEqProofs [State.updStart]
@[simp] theorem State.pieceWrite_clk (p : Nat) (data : List Nat) : (s.pieceWrite p data).clk = s.clk := by
  simp [State.pieceWrite]
@[simp] theorem State.piece_clk (p : Nat) (data chk : List Nat) : (s.piece p data chk).2.2.clk = s.clk := by
  simp only [State.piece]
  (repeat' split) <;> simp
@[simp] theorem State.updVerified_clk (acc : Nat) : (s.updVerified acc).clk = s.clk := by
  simp only [State.updVerified]
  split
  · rfl
  · exact State.clk_ite_of rfl (State.clk_ite_of (by simp) (by simp -implicitDefEqProofs))
@[simp] theorem State.startSwap_clk (trials : Nat) (acc : Option Nat) (at' : Option (Nat × Nat)) :
    (s.startSwap trials acc at').clk = s.clk := by
  simp [State.startSwap]
@[simp] theorem State.swapBlock_clk (i : Nat) : (s.swapBlock i).clk = s.clk := by
  simp only [State.swapBlock]
  (repeat' split) <;> simp
@[simp] theorem State.beginPause_clk : s.beginPause.clk = s.clk := by simp -implicitDefEqProofs [State.beginPause]
@[simp] theorem State.activationPause_clk : s.activationPause.clk = s.clk := by simp [State.activationPause]
@[simp] theorem State.activateTime_clk : s.activateTime.clk = s.clk := by
  simp only [State.activateTime]
  (repeat' split) <;> simp
@[simp] theorem State.trialBoot_clk : s.trialBoot.clk = s.clk := by simp -implicitDefEqProofs [State.trialBoot]
@[simp] theorem State.replayDone_clk (w : Option Waypoint) : (s.replayDone w).clk = s.clk := by simp [State.replayDone]
@[simp] theorem State.closeActivate_clk (st : Nat) : (s.closeActivate st).clk = s.clk := by
  simp only [State.closeActivate]
  (repeat' split) <;> simp
@[simp] theorem State.trialStart_clk (agree format : Bool) : (s.trialStart agree format).clk = s.clk := by
  simp [State.trialStart]
@[simp] theorem State.loaderRestart_clk : s.loaderRestart.clk = s.clk := by simp [State.loaderRestart]
@[simp] theorem State.revert_clk (cause : Nat) : (s.revert cause).clk = s.clk := by
  simp -implicitDefEqProofs [State.revert]
@[simp] theorem State.fallback_clk : s.fallback.clk = s.clk := by simp -implicitDefEqProofs [State.fallback]
@[simp] theorem State.revertBlock_clk (i : Nat) : (s.revertBlock i).clk = s.clk := by
  simp -implicitDefEqProofs [State.revertBlock]
@[simp] theorem State.confirm_clk : s.confirm.clk = s.clk := by simp -implicitDefEqProofs [State.confirm]
@[simp] theorem State.updAbort_clk : s.updAbort.clk = s.clk := by simp -implicitDefEqProofs [State.updAbort]
@[simp] theorem bodyUpdBegin_clk : (bodyUpdBegin rp c s).2.clk = s.clk := by simp [bodyUpdBegin]
@[simp] theorem bodyUpdPiece_clk : (bodyUpdPiece rp c s).2.clk = s.clk := by simp [bodyUpdPiece]
@[simp] theorem bodyUpdVerify_clk : (bodyUpdVerify rp c s).2.clk = s.clk := by simp [bodyUpdVerify]
@[simp] theorem bodyActivate_clk : (bodyActivate rp c s).2.clk = s.clk := by simp [bodyActivate]
@[simp] theorem bodyActivateAt_clk : (bodyActivateAt rp c s).2.clk = s.clk := by simp [bodyActivateAt]
@[simp] theorem bodyConfirm_clk : (bodyConfirm rp c s).2.clk = s.clk := by simp [bodyConfirm]
@[simp] theorem bodyUpdFallback_clk : (bodyUpdFallback rp c s).2.clk = s.clk := by simp [bodyUpdFallback]
@[simp] theorem bodyUpdAbort_clk : (bodyUpdAbort rp c s).2.clk = s.clk := by simp [bodyUpdAbort]
@[simp] theorem bodyUpdStatus_clk : (bodyUpdStatus rp c s).2.clk = s.clk := by simp [bodyUpdStatus]
@[simp] theorem State.updFrag_clk (m : Nat) : (s.updFrag m).clk = s.clk := by simp [State.updFrag]

/-! SUPPORT. The clock over the operations of Machine/Replay.lean. -/

@[simp] theorem State.closeSub_clk (sc : Nat) : (s.closeSub sc).clk = s.clk := by simp [State.closeSub]
@[simp] theorem State.drainUnit_clk (u : Nat) : (s.drainUnit u).clk = s.clk := by simp [State.drainUnit]
@[simp] theorem State.closeRoad_clk : s.closeRoad.clk = s.clk := by simp [State.closeRoad]
@[simp] theorem State.closeUnits_clk (all : Bool) : (s.closeUnits all).clk = s.clk := by simp [State.closeUnits]
@[simp] theorem State.owesRetire_clk (u : Nat) : (s.owesRetire u).clk = s.clk := by simp [State.owesRetire]
@[simp] theorem State.applyDue_clk (p : Pend) : (s.applyDue p).clk = s.clk := by
  unfold State.applyDue
  split <;> simp
@[simp] theorem State.applyDues_clk (fuel : Nat) (s : State) : (s.applyDues fuel).clk = s.clk := by
  induction fuel generalizing s with
  | zero => rfl
  | succ n ih =>
    unfold State.applyDues
    split <;> simp [ih]
@[simp] theorem State.replayed_clk (c : Desc) : (s.replayed c).clk = s.clk := by
  unfold State.replayed
  split <;> simp
@[simp] theorem State.replayOne_clk (fuel : Nat) (b : Body) (c : Desc) (r : ExecRec) (s : State)
    (h : ∀ s, (b (some r) c s).2.clk = s.clk) : (s.replayOne fuel b c r).clk = s.clk := by
  induction fuel generalizing s with
  | zero =>
    unfold State.replayOne
    dsimp only
    split <;> simp [h]
  | succ n ih =>
    unfold State.replayOne
    dsimp only
    split
    · simp [h]
    · split <;> simp [h, ih]
/-- SET_TIME that is applied again steps nothing (R265). -/
@[simp] theorem bodySetTime_replayed_clk (r : ExecRec) (c : Desc) (s : State) :
    (bodySetTime (some r) c s).2.clk = s.clk := rfl

/-- A command of the catalogue that is applied again leaves the clock (R265). -/
theorem famCmds_clk (c : Desc) : ∀ e ∈ famCmds c, ∀ r c s, (e.2 (some r) c s).2.clk = s.clk := by
  unfold famCmds
  split <;> simp [treeCmds, termCmds, unitCmds, flowCmds, fwdCmds, keyCmds, progCmds, wptCmds, updCmds, rcdCmds,
    timeCmds, pairCmds, domCmds, hwCmds]

theorem cmdOf_clk {c : Desc} {i : CmdInfo} {b : Body} (h : cmdOf c = some (i, b)) (r : ExecRec) (d : Desc) (s : State) :
    (b (some r) d s).2.clk = s.clk := by
  unfold cmdOf at h
  split at h
  · cases h; simp
  · exact famCmds_clk c _ (List.mem_of_find?_eq_some h) r d s

@[simp] theorem State.replayEntry_clk (j : Jrn) : (s.replayEntry j).clk = s.clk := by
  unfold State.replayEntry
  split
  · rename_i h
    split
    · rfl
    · exact State.replayOne_clk _ _ _ _ _ (fun s => cmdOf_clk h _ _ s)
  · rfl
@[simp] theorem State.mirrorRing_clk (r : Nat) (f : W32 × W32 → W32 × W32) : (s.mirrorRing r f).clk = s.clk := by
  simp [State.mirrorRing]
@[simp] theorem State.mirrorEntry_clk (c : Desc) : (s.mirrorEntry c).clk = s.clk := by
  unfold State.mirrorEntry
  split <;> simp
@[simp] theorem State.mirrorExec_clk (c : Desc) (x : MirrorExec) : (s.mirrorExec c x).clk = s.clk := by
  simp only [State.mirrorExec]
  refine State.clk_ite_of (by simp) ?_
  split
  · rename_i h
    simp [cmdOf_clk h]
  · simp
@[simp] theorem State.mirrored_clk (c : Desc) (x : Option MirrorExec) : (s.mirrored c x).clk = s.clk := by
  unfold State.mirrored
  (repeat' split) <;> simp

/-! SUPPORT. The clock over the operations of Machine/Power.lean. -/

@[simp] theorem State.halt_clk (cause : Nat) : (s.halt cause).clk = s.clk := by simp -implicitDefEqProofs [State.halt]
@[simp] theorem State.setCause_clk (c : Nat) (lost : Bool) : (s.setCause c lost).clk = s.clk := by simp [State.setCause]
@[simp] theorem State.eraseIfMarked_clk : s.eraseIfMarked.clk = s.clk := by simp [State.eraseIfMarked]
@[simp] theorem State.raiseRestart_clk (trip brown locked : Bool) : (s.raiseRestart trip brown locked).clk = s.clk := by
  simp [State.raiseRestart]
@[simp] theorem State.bootFrom_clk (cause : Nat) (cold hold : Bool) : (s.bootFrom cause cold hold).clk = s.clk := by
  simp -implicitDefEqProofs [State.bootFrom]
@[simp] theorem State.warningRelease_clk : s.warningRelease.clk = s.clk := by simp [State.warningRelease]
@[simp] theorem State.vaoSwitch_clk (toBkp : Bool) : (s.vaoSwitch toBkp).clk = s.clk := by
  simp -implicitDefEqProofs [State.vaoSwitch]
@[simp] theorem State.vaoSingle_clk (i : Nat) : (s.vaoSingle i).clk = s.clk := by simp [State.vaoSingle]
@[simp] theorem State.flashOwnN_clk (low : Bool) : (s.flashOwnN low).clk = s.clk := by
  simp -implicitDefEqProofs [State.flashOwnN]
@[simp] theorem State.otpErrors_clk (r : RomRes) : (s.otpErrors r).clk = s.clk := by
  unfold State.otpErrors
  (repeat' split) <;> simp
@[simp] theorem State.romStage_clk (r : RomRes) : (s.romStage r).clk = s.clk := by simp [State.romStage]
@[simp] theorem State.finishSwap_clk (fuel : Nat) : (s.finishSwap fuel).clk = s.clk := by
  induction fuel generalizing s with
  | zero => rfl
  | succ n ih =>
    unfold State.finishSwap
    split <;> simp [ih]
@[simp] theorem State.finishRevert_clk (fuel : Nat) : (s.finishRevert fuel).clk = s.clk := by
  induction fuel generalizing s with
  | zero => rfl
  | succ n ih =>
    unfold State.finishRevert
    split <;> simp [ih]
@[simp] theorem State.bootFallback_clk : s.bootFallback.clk = s.clk := by simp [State.bootFallback]
@[simp] theorem State.loaderUpdate_clk : s.loaderUpdate.clk = s.clk := by
  unfold State.loaderUpdate
  split <;> simp -implicitDefEqProofs
@[simp] theorem State.loaderStage_clk (r : LoaderRes) : (s.loaderStage r).clk = s.clk := by
  simp -implicitDefEqProofs [State.loaderStage]
@[simp] theorem State.settleDetours_clk : s.settleDetours.clk = s.clk := by
  refine (State.foldl_clk (fun s c => State.pcDetour_clk ..) _ _).trans ?_
  refine State.foldl_clk (fun s g => ?_) _ _
  split <;> simp
@[simp] theorem State.retestLost_clk (fails : List (Nat × Nat)) : (s.retestLost fails).clk = s.clk := by
  simp [State.retestLost]
@[simp] theorem State.postFail_clk (cls u : Nat) : (s.postFail cls u).clk = s.clk := by
  simp only [State.postFail]
  (repeat' split) <;> simp
@[simp] theorem State.dieFail_clk (die : Nat) : (s.dieFail die).clk = s.clk := by simp [State.dieFail]
@[simp] theorem State.mapGroups_clk : s.mapGroups.clk = s.clk := by
  refine State.foldl_clk (fun s g => ?_) _ s
  split
  · rfl
  split
  · rfl
  · split <;> simp
@[simp] theorem State.postStage_clk (r : PostRes) : (s.postStage r).clk = s.clk := by
  simp -implicitDefEqProofs [State.postStage]
@[simp] theorem State.formatCheck_clk : s.formatCheck.clk = s.clk := by simp [State.formatCheck]
@[simp] theorem State.loadTotals_clk : s.loadTotals.clk = s.clk := by
  unfold State.loadTotals
  split
  · rfl
  · exact State.foldl_clk (fun s e => State.modSub_clk ..) _ _
@[simp] theorem State.verifyGroup_clk (q : Nat) : (s.verifyGroup q).clk = s.clk := by simp [State.verifyGroup]
@[simp] theorem State.findReturns_clk : s.findReturns.clk = s.clk := by
  refine State.foldl_clk (fun s p => ?_) _ s
  split
  · split <;> rfl
  · rfl
@[simp] theorem State.restoreKeys_clk : s.restoreKeys.clk = s.clk := by
  simp only [State.restoreKeys, State.clk_ite]
  rw [State.foldl_clk (fun s d => ?_), ite_self]
  split <;> simp
@[simp] theorem State.closeLedger_clk : s.closeLedger.clk = s.clk := by simp [State.closeLedger]
@[simp] theorem State.restoreRogues_clk : s.restoreRogues.clk = s.clk := by
  simp -implicitDefEqProofs [State.restoreRogues]
@[simp] theorem State.restoreUnits_clk : s.restoreUnits.clk = s.clk := by simp [State.restoreUnits]
@[simp] theorem State.replayStage_clk : s.replayStage.clk = s.clk := by simp -implicitDefEqProofs [State.replayStage]
@[simp] theorem State.serveCheck_clk (sc : Nat) : (s.serveCheck sc).clk = s.clk := by simp [State.serveCheck]
@[simp] theorem State.startSub_clk (sc : Nat) : (s.startSub sc).clk = s.clk := by simp [State.startSub]
@[simp] theorem State.linksStage_clk : s.linksStage.clk = s.clk := by simp [State.linksStage]

/-! SUPPORT. The clock over the operations of Machine/Interval.lean. -/

@[simp] theorem State.raiseOverrun_clk (late : Bool) : (s.raiseOverrun late).clk = s.clk := by simp [State.raiseOverrun]
@[simp] theorem State.commitHints_clk : s.commitHints.clk = s.clk := by
  refine (State.foldl_clk (fun s h => ?_) s.grant.hintQ _).trans rfl
  exact State.clk_ite_of (by simp) rfl
@[simp] theorem State.deliverBook_clk (sc : Nat) : (s.deliverBook sc).clk = s.clk := by simp [State.deliverBook]
@[simp] theorem State.countBook_clk (sc : Nat) : (s.countBook sc).clk = s.clk := by
  simp only [State.countBook]
  (repeat' split) <;> simp
@[simp] theorem State.recordDurable_clk : s.recordDurable.clk = s.clk := by simp [State.recordDurable]
@[simp] theorem State.windowTeardowns_clk (q e : Nat) : (s.windowTeardowns q e).clk = s.clk := by
  refine State.foldl_clk (fun s p => ?_) _ s
  split
  · split
    · refine State.foldl_clk (fun s u => ?_) _ s
      rfl
    · rfl
  · rfl
@[simp] theorem State.windowReturns_clk (q e : Nat) : (s.windowReturns q e).clk = s.clk := by
  refine State.foldl_clk (fun s p => ?_) _ s
  split
  · split
    · split <;> simp
    · rfl
  · rfl
@[simp] theorem State.windowDetours_clk (q e : Nat) : (s.windowDetours q e).clk = s.clk := by
  refine State.foldl_clk (fun s p => ?_) _ s
  split
  · split <;> simp
  · rfl
@[simp] theorem State.maintWindow_clk (q : Nat) : (s.maintWindow q).clk = s.clk := by
  unfold State.maintWindow
  (repeat' split) <;> simp
@[simp] theorem State.reportSweep_clk : s.reportSweep.clk = s.clk := by simp [State.reportSweep]

/-! SUPPORT. The clock over the operations of Machine/PreMem.lean. -/

@[simp] theorem State.memOp_clk (st : Site) (f : FmtM) (op : Nat) (mk : Ctx → Except Nat Tag) :
    (s.memOp st f op mk).clk = s.clk := by
  simp [State.memOp]
@[simp] theorem State.memComplete_clk (g k t : Nat) : (s.memComplete g k t).clk = s.clk := by
  simp only [State.memComplete]
  (repeat' split) <;> simp
@[simp] theorem State.branch_clk (st : Site) (f : FmtB) (cond : Nat) : (s.branch st f cond).clk = s.clk := by
  simp [State.branch]
@[simp] theorem State.writeRows_clk (st : Site) : (s.writeRows st).clk = s.clk := by
  refine State.foldl_clk (fun s t => ?_) _ s
  split
  · refine State.foldl_clk (fun s k => ?_) _ _
    split <;> simp
  · rfl
@[simp] theorem State.releaseBatch_clk (st : Site) : (s.releaseBatch st).clk = s.clk := by
  refine (State.foldl_clk (fun s k => ?_) _ _).trans (by simp)
  split
  · rfl
  · dsimp only
    split <;> simp
@[simp] theorem State.haltPlan_clk (st : Site) : (s.haltPlan st).clk = s.clk := by simp [State.haltPlan]

/-! SUPPORT. The clock over the operations of Machine/Prepolet.lean. -/

@[simp] theorem State.scalarOp_clk (st : Site) (f : FmtO) (fn : Nat) (op : W64 → W64 → W64) :
    (s.scalarOp st f fn op).clk = s.clk := by
  simp [State.scalarOp]
@[simp] theorem State.scalarCmp_clk (st : Site) (f : FmtO) (k : Cond) : (s.scalarCmp st f k).clk = s.clk := by
  simp [State.scalarCmp]
@[simp] theorem State.scalarImm_clk (st : Site) (f : FmtI) (op : Nat) (ill : Bool) (g : W64 → W64) :
    (s.scalarImm st f op ill g).clk = s.clk := by
  simp [State.scalarImm]
@[simp] theorem State.vectorOp_clk (st : Site) (f : FmtO) (fn : Nat) (op : W32 → W32 → W32) :
    (s.vectorOp st f fn op).clk = s.clk := by
  simp [State.vectorOp]
@[simp] theorem State.vectorCmp_clk (st : Site) (f : FmtO) (k : Cond) : (s.vectorCmp st f k).clk = s.clk := by
  simp [State.vectorCmp]
@[simp] theorem State.vectorMerge_clk (st : Site) (f : FmtO) (op fn : Nat) (g : W32 → W32 → W32) :
    (s.vectorMerge st f op fn g).clk = s.clk := by
  simp [State.vectorMerge]
@[simp] theorem State.vectorImm_clk (st : Site) (f : FmtI) (op : Nat) (ill : Bool) (g : W32 → W32) :
    (s.vectorImm st f op ill g).clk = s.clk := by
  simp [State.vectorImm]
@[simp] theorem State.reduce_clk (st : Site) (f : FmtO) (fn : Nat) (ill : Bool)
    (g : List W32 → BitVec 8 → W64) :
    (s.reduce st f fn ill g).clk = s.clk := by
  simp [State.reduce]
@[simp] theorem State.predOp_clk (st : Site) (f : FmtO) (fn : Nat) (g : BitVec 8 → BitVec 8 → BitVec 8) :
    (s.predOp st f fn g).clk = s.clk := by
  simp [State.predOp]

/-! SUPPORT. The clock over the operations of Machine/Regs.lean. -/

@[simp] theorem State.msixWrite_clk (fn v k : Nat) (w : W32) : (s.msixWrite fn v k w).clk = s.clk := by
  unfold State.msixWrite
  split <;> simp
@[simp] theorem State.preRead_clk (ra : RegAt) : (s.preRead ra).clk = s.clk := by
  unfold State.preRead
  split <;> simp
@[simp] theorem State.postRead_clk (ra : RegAt) : (s.postRead ra).clk = s.clk := by
  unfold State.postRead
  (repeat' split) <;> simp
@[simp] theorem State.readAt_clk (a width : Nat) : (s.readAt a width).2.clk = s.clk := by
  unfold State.readAt
  (repeat' split) <;> simp
@[simp] theorem State.storeReg_clk (ra : RegAt) (w : W64) : (s.storeReg ra w).clk = s.clk := by simp [State.storeReg]
@[simp] theorem State.ledgerSel_clk (sc : Nat) : (s.ledgerSel sc).clk = s.clk := by simp [State.ledgerSel]
@[simp] theorem State.ledgerSnapshot_clk : s.ledgerSnapshot.clk = s.clk := by
  simp -implicitDefEqProofs [State.ledgerSnapshot]
@[simp] theorem State.setPlPort_clk (c : Nat) (x : PlPort) : (s.setPlPort c x).clk = s.clk := by simp [State.setPlPort]
@[simp] theorem State.plSel_clk (c w : Nat) : (s.plSel c w).clk = s.clk := by simp [State.plSel]
@[simp] theorem State.plReadDone_clk (c : Nat) : (s.plReadDone c).clk = s.clk := by simp [State.plReadDone]
@[simp] theorem State.rstCtl_clk (fn w : Nat) : (s.rstCtl fn w).clk = s.clk := by
  simp -implicitDefEqProofs [State.rstCtl]
@[simp] theorem State.mbxCtl_clk (ra : RegAt) (w : W64) : (s.mbxCtl ra w).clk = s.clk := by simp [State.mbxCtl]
@[simp] theorem State.writeRingCfg_clk (r w : Nat) : (s.writeRingCfg r w).clk = s.clk := by simp [State.writeRingCfg]
@[simp] theorem State.writeRing_clk (r off : Nat) (w : W64) : (s.writeRing r off w).clk = s.clk := by
  unfold State.writeRing
  split <;> simp
@[simp] theorem State.writeEvqCfg_clk (ra : RegAt) (w : W64) : (s.writeEvqCfg ra w).clk = s.clk := by
  simp -implicitDefEqProofs [State.writeEvqCfg]
@[simp] theorem State.writeReg_clk (fn : Nat) (ra : RegAt) (w : W64) : (s.writeReg fn ra w).clk = s.clk := by
  unfold State.writeReg
  split <;> simp -implicitDefEqProofs
@[simp] theorem State.writeAt_clk (fn a width : Nat) (d : W64) : (s.writeAt fn a width d).clk = s.clk := by
  unfold State.writeAt
  (repeat' split) <;> simp
@[simp] theorem State.badAccess_clk (a : Nat) : (s.badAccess a).clk = s.clk := by simp [State.badAccess]
@[simp] theorem State.setNumVfs_clk (n : Nat) : (s.setNumVfs n).clk = s.clk := by simp [State.setNumVfs]
@[simp] theorem State.ctlLock_clk (a : Nat) : (s.ctlLock a).clk = s.clk := by
  unfold State.ctlLock
  split <;> simp

end

/-! SUPPORT. The outcome of a command that leaves the clock. -/

/-- The next state of an outcome, if there is one, has clock `k`. -/
def ClkIs (x : Host.Outcome State Fault Refusal) (k : Clk) : Prop := ∀ t, x = .next t → t.clk = k

theorem clkIs_next {t : State} {k : Clk} (h : t.clk = k) : ClkIs (.next t) k := by
  rintro _ ⟨⟩
  exact h

theorem clkIs_kept {s t : State} {k : Clk} (h : t.clk = k) : ClkIs (kept s t) k := clkIs_next h

theorem clkIs_fault (f : Fault) (k : Clk) : ClkIs (.fault f) k := fun _ h => by cases h

theorem State.registerWrite_clkIs (s : State) (x : Access) (d : W64) : ClkIs (s.registerWrite x d) s.clk := by
  unfold State.registerWrite
  split
  · exact clkIs_kept (by simp)
  split
  · exact clkIs_fault _ _
  split
  · exact clkIs_next rfl
  · split <;> exact clkIs_kept (by simp)

theorem State.registerRead_clkIs (s : State) (x : Access) : ClkIs (s.registerRead x) s.clk := by
  unfold State.registerRead
  split
  · exact clkIs_fault _ _
  split
  · exact clkIs_next rfl
  split
  · exact clkIs_kept (by simp)
  split
  · split
    rename_i h
    exact clkIs_kept (by simp [State.clk_of_eq h])
  · exact clkIs_kept (by simp)

theorem execHalt_clkIs (st : Site) (f : FmtB) (s : State) : ClkIs (execHalt st f s) s.clk := by
  refine clkIs_kept ?_
  split
  · rfl
  · exact State.clk_ite_of rfl (State.clk_ite_of (by simp) (State.clk_ite_of (by simp) (by simp)))

theorem execRecorderMramCommit_clkIs (fail : Option Nat) (s : State) : ClkIs (execRecorderMramCommit fail s) s.clk := by
  refine clkIs_kept (State.clk_ite_of ?_ rfl)
  split <;> simp

theorem execDrainDone_clkIs (k : ObjKind) (n : Nat) (s : State) : ClkIs (execDrainDone k n s) s.clk := by
  refine clkIs_kept ?_
  cases k <;> simp

theorem execNonceExpiry_clkIs (s : State) : ClkIs (execNonceExpiry s) s.clk := by
  refine clkIs_kept ?_
  split
  · rfl
  · exact State.clk_ite_of rfl rfl

theorem execGrowPoolDone_clkIs (acc : Nat) (s : State) : ClkIs (execGrowPoolDone acc s) s.clk := by
  refine clkIs_kept ?_
  split <;> simp

theorem execWrongWidthAccess_clkIs (x : Access) (w : Bool) (s : State) : ClkIs (execWrongWidthAccess x w s) s.clk := by
  unfold execWrongWidthAccess
  split
  · exact clkIs_fault _ _
  split
  · exact clkIs_next rfl
  · split <;> exact clkIs_kept (by simp)

/-! SUPPORT. The hub cycle lies before the next phase point of the interval (R38, R40): what sets the clock. -/

/-- The hub cycle lies before the phase point that comes next. -/
def Clk.OnTime (k : Clk) : Prop := k.cycle < k.phase.nextPoint

theorem Phase.nextPoint_le (p : Phase) : p.nextPoint ≤ 250000 := by cases p <;> decide

/-- A device time lies in its interval (R37, R371). -/
theorem cycleOf_lt (t : Nat) : t % intervalUnits / tickUnits < 250000 :=
  Nat.div_lt_of_lt_mul (Nat.mul_comm tickUnits 250000 ▸ Nat.mod_lt _ (by decide))

section
variable {s : State}

theorem State.onTime_ite {c : Prop} [Decidable c] {t : State} (hs : s.clk.OnTime) (ht : t.clk.OnTime) :
    (if c then s else t).clk.OnTime := by split <;> assumption

theorem State.tick_onTime (h : s.clk.OnTime) : s.tick.clk.OnTime := by
  unfold State.tick
  split
  · exact h
  · rename_i hc
    simp only [Bool.and_eq_true, decide_eq_true_eq, not_and, not_le] at hc
    show (if s.clk.running then s.clk.cycle + 1 else s.clk.cycle) < s.clk.phase.nextPoint
    split
    · exact hc ‹_›
    · exact h

theorem State.startGenerator_onTime (h : s.clk.OnTime) : s.startGenerator.clk.OnTime := by
  unfold State.startGenerator
  split
  · exact h
  · exact cycleOf_lt _

theorem State.startWaitEnd_onTime (h : s.clk.OnTime) : s.startWaitEnd.clk.OnTime := by
  unfold State.startWaitEnd
  split
  · dsimp only
    split
    · exact State.startGenerator_onTime h
    · exact h
  · exact h

theorem State.startTime_onTime (h : s.clk.OnTime) : s.startTime.clk.OnTime := by
  unfold State.startTime
  split
  · rwa [State.raise_clk]
  split
  · exact State.startWaitEnd_onTime h
  · exact State.startGenerator_onTime h

theorem State.restoreStage_onTime (h : s.clk.OnTime) : s.restoreStage.clk.OnTime := by
  have hclk : s.restoreStage.clk = s.clk ∨ s.restoreStage.clk = s.startTime.clk := by
    unfold State.restoreStage
    split
    · exact .inl rfl
    · refine .inr ?_
      simp only [State.setStage_clk, State.setPairWait_clk, State.verifyGroup_clk, State.foldl_clk, implies_true]
      split <;> simp
  rcases hclk with hc | hc <;> rw [hc]
  · exact h
  · exact State.startTime_onTime h

theorem State.setTime_onTime (s : State) (t : Nat) : (s.setTime t).2.clk.OnTime := by
  simp only [State.setTime, State.raise_clk, State.timCnt_clk]
  exact cycleOf_lt _

theorem execSetTime_onTime (c : Desc) (h : s.clk.OnTime) : (runCmd infoSetTime bodySetTime c s).clk.OnTime := by
  refine runCmd_clk_of _ _ c s h (fun t ht => ?_)
  simp only [bodySetTime]
  split
  · exact ht ▸ h
  · exact State.setTime_onTime _ _

theorem Clk.onTime_reset : ({} : Clk).OnTime := by unfold Clk.OnTime; decide

theorem State.coreReset_clk (s : State) (cold : Bool) : (s.coreReset cold).clk = {} := rfl

theorem State.holdCore_clk (s : State) : s.holdCore.clk = {} :=
  (State.setFld_clk ..).trans (State.coreReset_clk s false)

theorem State.coldStart_clk (s : State) (p : Straps) : (s.coldStart p).clk = {} := by
  simp only [State.coldStart, State.bootFrom_clk, State.modPwr_clk, State.clk_ite, State.loseRetained_clk,
    State.coreReset_clk, ite_self]

theorem State.vaoLoss_clk (s : State) : s.vaoLoss.clk = {} := by
  unfold State.vaoLoss
  exact State.coldStart_clk _ _

theorem State.warmReset_onTime (cause : Nat) (hold : Bool) (h : s.clk.OnTime) :
    (s.warmReset cause hold).clk.OnTime := by
  simp only [State.warmReset]
  iterate 4
    split
    · exact h
  rw [State.bootFrom_clk, State.coreReset_clk]
  exact Clk.onTime_reset

theorem State.powerFail_onTime (brown : Bool) (h : s.clk.OnTime) : (s.powerFail brown).clk.OnTime := by
  unfold State.powerFail
  split
  · exact h
  · dsimp only
    rw [State.modPwr_clk]
    split
    · simpa using h
    · rw [State.holdCore_clk]
      exact Clk.onTime_reset

theorem State.thermTrip_clk (n : Nat) (t : Int) : (s.thermTrip n t).clk = {} :=
  (State.emit_clk ..).trans ((State.modSens_clk ..).trans (State.holdCore_clk _))

theorem State.thermConv_onTime (n : Nat) (t : Int) (h : s.clk.OnTime) : (s.thermConv n t).clk.OnTime := by
  have htrip : ∀ s : State, (s.thermTrip n t).clk.OnTime := fun s => (s.thermTrip_clk n t).symm ▸ Clk.onTime_reset
  refine State.onTime_ite h (State.onTime_ite (htrip _) (State.onTime_ite (htrip _) ?_))
  rw [State.thermStatus_clk, State.foldl_clk (fun s i => ?_)]
  · simpa using h
  · split <;> simp

/-! The phase points: each leaves the clock at its own hub cycle. -/

theorem State.milestone_onTime (h : s.clk.OnTime) : s.milestone.clk.OnTime := by
  unfold State.milestone
  split
  · exact h
  · exact (by decide : 0 < Phase.nextPoint .afterMilestone)

theorem State.snapshot_onTime (h : s.clk.OnTime) : s.snapshot.clk.OnTime := by
  have hpt : (s.advance 4000 .afterSnapshot).clk.OnTime := (by decide : 4000 < Phase.nextPoint .afterSnapshot)
  simp only [State.snapshot]
  split
  · exact h
  split
  · exact hpt
  split <;> exact hpt

theorem State.planDeadline_onTime (h : s.clk.OnTime) : s.planDeadline.clk.OnTime := by
  have hpt : (s.advance 196000 .afterDeadline).clk.OnTime := (by decide : 196000 < Phase.nextPoint .afterDeadline)
  simp only [State.planDeadline]
  split
  · exact h
  split <;> exact hpt

theorem State.commitPoint_onTime (h : s.clk.OnTime) : s.commitPoint.clk.OnTime := by
  have hpt : (s.advance 232000 .afterCommit).clk.OnTime := (by decide : 232000 < Phase.nextPoint .afterCommit)
  simp only [State.commitPoint]
  split
  · exact h
  split
  · exact (State.commitHints_clk _).symm ▸ hpt
  · exact hpt

theorem State.deliveryDeadline_onTime (h : s.clk.OnTime) : s.deliveryDeadline.clk.OnTime := by
  have hpt : (s.advance 242000 .afterDelivery).clk.OnTime := (by decide : 242000 < Phase.nextPoint .afterDelivery)
  unfold State.deliveryDeadline
  split
  · exact h
  · show (State.raiseOverrun _ _).clk.OnTime
    simpa using hpt

end

/-- An outcome whose next state is on time. -/
theorem onTime_of_kept {s t u : State} (h : u.clk.OnTime) (hx : kept s u = .next t) : t.clk.OnTime := by
  cases hx
  exact h

theorem onTime_of_clkIs {s t : State} {x : Host.Outcome State Fault Refusal} (h : s.clk.OnTime) (hc : ClkIs x s.clk)
    (hx : x = .next t) : t.clk.OnTime := (hc t hx).symm ▸ h

/-- Every command keeps the hub cycle before the next phase point: but for the phase points, SET_TIME, the start of the
generator and the resets, none of them sets the clock. -/
theorem exec_onTime {s t : State} (h : s.clk.OnTime) (i : Instr) (hx : exec i s = .next t) : t.clk.OnTime := by
  cases i
  case milestone => exact onTime_of_kept (State.milestone_onTime h) hx
  case snapshot => exact onTime_of_kept (State.snapshot_onTime h) hx
  case planDeadline => exact onTime_of_kept (State.planDeadline_onTime h) hx
  case commitPoint => exact onTime_of_kept (State.commitPoint_onTime h) hx
  case deliveryDeadline => exact onTime_of_kept (State.deliveryDeadline_onTime h) hx
  case setTime c => exact onTime_of_kept (execSetTime_onTime c h) hx
  case startWaitExpiry => exact onTime_of_kept (State.startWaitEnd_onTime h) hx
  case restore => exact onTime_of_kept (State.restoreStage_onTime h) hx
  case coldStart p => exact onTime_of_kept (s.coldStart_clk p ▸ Clk.onTime_reset) hx
  case vaoLoss => exact onTime_of_kept (s.vaoLoss_clk ▸ Clk.onTime_reset) hx
  case warmReset cause hold => exact onTime_of_kept (State.warmReset_onTime cause hold h) hx
  case powerFailWarning => exact onTime_of_kept (State.powerFail_onTime false h) hx
  case brownout => exact onTime_of_kept (State.powerFail_onTime true h) hx
  case thermalConversion n d => exact onTime_of_kept (State.thermConv_onTime n d h) hx
  case registerWrite x d => exact onTime_of_clkIs h (s.registerWrite_clkIs x d) hx
  case registerRead x => exact onTime_of_clkIs h (s.registerRead_clkIs x) hx
  case wrongWidthAccess x w => exact onTime_of_clkIs h (execWrongWidthAccess_clkIs x w s) hx
  case deny => exact onTime_of_clkIs h (clkIs_next rfl) hx
  case halt st f => exact onTime_of_clkIs h (execHalt_clkIs st f s) hx
  case recorderMramCommit fail => exact onTime_of_clkIs h (execRecorderMramCommit_clkIs fail s) hx
  case drainDone k n => exact onTime_of_clkIs h (execDrainDone_clkIs k n s) hx
  case nonceExpiry => exact onTime_of_clkIs h (execNonceExpiry_clkIs s) hx
  case growPoolDone acc => exact onTime_of_clkIs h (execGrowPoolDone_clkIs acc s) hx
  all_goals exact onTime_of_clkIs h (clkIs_kept (by simp)) hx

theorem step_nil {s : State} (h : s.pending = []) : step s = .next s.tick := by rw [step, h]

theorem step_cons {s : State} {c : Instr} {r : List Instr} (h : s.pending = c :: r) :
    step s = exec c { s with pending := r } := by rw [step, h]

/-- Settles O57: a step is a tick, or it runs a command, and each keeps the hub cycle before the next phase point. -/
theorem clockStaysBeforeItsNextPhasePoint : Obligations.ClockStaysBeforeItsNextPhasePoint := by
  intro s t hs hstep
  have ht : t.clk.OnTime := by
    rcases hq : s.pending with _ | ⟨c, r⟩
    · rw [step_nil hq] at hstep
      cases hstep
      exact State.tick_onTime hs
    · rw [step_cons hq] at hstep
      exact exec_onTime (s := { s with pending := r }) hs c hstep
  exact ⟨ht, ht.trans_le (Phase.nextPoint_le _)⟩

end Sys2Proof.Machine
namespace Sys2Proof.Machine

/-! SUPPORT. What a command that starts answers, by what its body answers (R258). -/

section
variable {i : CmdInfo} {b : Body} {c : Desc} {s t : State}

/-- A command whose body completes. -/
theorem runCmd_of_fin {f : Fin} (h : Starts i c s) (hb : b none c (s.jrnStart c) = (.fin f, t)) :
    runCmd i b c s = t.complete c.acc f := by rw [runCmd_starts h, hb]

/-- A command whose body leaves it open. -/
theorem runCmd_of_opened (h : Starts i c s) (hb : b none c (s.jrnStart c) = (.opened, t)) : runCmd i b c s = t := by
  rw [runCmd_starts h, hb]

end

/-! SUPPORT. The bodies of OPEN_DOMAIN and TEARDOWN_DOMAIN, case by case (R59, R261, R262). -/

section
variable {c : Desc} {z : State} {e : Nat}

theorem bodyOpenDomain_noVf (h : z.host.numVfs < c.n0) : bodyOpenDomain none c z = bad stState z := by
  simp [bodyOpenDomain, h]

theorem bodyOpenDomain_disabled (hv : c.n0 ≤ z.host.numVfs) (h : (z.domE c.n0).road = .disabled) :
    bodyOpenDomain none c z = ok (z.setDom c.n0 { road := .enabled, quota := quotaOf c }) := by
  simp [bodyOpenDomain, Nat.not_lt.2 hv, h]

theorem bodyOpenDomain_open (hv : c.n0 ≤ z.host.numVfs)
    (h : (z.domE c.n0).road = .enabled ∨ (z.domE c.n0).road = .resuming) :
    bodyOpenDomain none c z = bad stExists z := by
  rcases h with h | h <;> simp [bodyOpenDomain, Nat.not_lt.2 hv, h]

theorem bodyOpenDomain_draining (hv : c.n0 ≤ z.host.numVfs) (h : (z.domE c.n0).road = .draining)
    (he : z.resolveE none c = .ok e) :
    bodyOpenDomain none c z = (.opened, z.setDom c.n0 { z.domE c.n0 with
      road := .resuming, newQuota := some (quotaOf c), resumeAcc := some c.acc, resumeR := some e }) := by
  simp [bodyOpenDomain, Nat.not_lt.2 hv, h, he]

theorem bodyTeardownDomain_disabled (h : (z.domE c.n0).road = .disabled) :
    bodyTeardownDomain none c z = bad stNotFound z := by
  simp [bodyTeardownDomain, h]

theorem bodyTeardownDomain_tornDown (h : (z.domE c.n0).road = .draining ∨ (z.domE c.n0).road = .resuming) :
    bodyTeardownDomain none c z = bad stState z := by
  rcases h with h | h <;> simp [bodyTeardownDomain, h]

theorem bodyTeardownDomain_enabled (h : (z.domE c.n0).road = .enabled) (ht : (z.domE c.n0).teardownE = none)
    (he : z.resolveE none c = .ok e) (hp : z.pendRoom = true) :
    bodyTeardownDomain none c z = deferred e ((z.setDom c.n0 { z.domE c.n0 with teardownE := some e }).defer c e
      (.domainTeardown c.n0 (c.n1 == 1))) := by
  simp [bodyTeardownDomain, h, ht, he, hp]

end

/-- Settles O38: each clause is the command's body in that case, which completes or stays open. -/
theorem domainCommands : Obligations.DomainCommands := by
  refine ⟨?opens, ?exists', ?noVf, ?reopens, ?tearsDown, ?notFound, ?tornDown⟩
  case opens =>
    exact fun c s h hv hd => congrArg (kept s) (runCmd_of_fin h (bodyOpenDomain_disabled hv hd))
  case exists' =>
    exact fun c s h hv hd => congrArg (kept s) (runCmd_of_fin h (bodyOpenDomain_open hv hd))
  case noVf =>
    exact fun c s h hv => congrArg (kept s) (runCmd_of_fin h (bodyOpenDomain_noVf hv))
  case reopens =>
    exact fun c s h e hv hd he => congrArg (kept s) (runCmd_of_opened h (bodyOpenDomain_draining hv hd he))
  case tearsDown =>
    exact fun c s h e hd ht he hp => congrArg (kept s) (runCmd_of_fin h (bodyTeardownDomain_enabled hd ht he hp))
  case notFound =>
    exact fun c s h hd => congrArg (kept s) (runCmd_of_fin h (bodyTeardownDomain_disabled hd))
  case tornDown =>
    exact fun c s h hd => congrArg (kept s) (runCmd_of_fin h (bodyTeardownDomain_tornDown hd))

/-! SUPPORT. The tick (R37, R38, R40, R371). -/

section
variable {s : State}

/-- While the generator runs and the next phase point is not reached, one hub cycle passes. -/
theorem State.tick_running (hr : s.clk.running = true) (h : s.clk.cycle + 1 < s.clk.phase.nextPoint) :
    s.tick = { s with clk := { s.clk with cycle := s.clk.cycle + 1, hubc := s.clk.hubc + 1 }
                      time := { s.time with dev := s.time.dev + tickUnits } } := by
  rw [State.tick, if_neg (by simp [hr, h]), if_pos hr]

/-- Time waits for the row of a phase point. -/
theorem State.tick_atPoint (hr : s.clk.running = true) (h : s.clk.phase.nextPoint ≤ s.clk.cycle + 1) : s.tick = s := by
  rw [State.tick, if_pos (by simp [hr, h])]

/-- While the generator does not run, device time passes alone. -/
theorem State.tick_stopped (hr : s.clk.running = false) :
    s.tick = { s with clk := { s.clk with hubc := s.clk.hubc + 1 }
                      time := { s.time with dev := s.time.dev + tickUnits } } := by
  rw [State.tick, if_neg (by simp [hr]), if_neg (by simp [hr])]

end

/-- Settles O13: the step on a queue is the definition, and on an empty one the tick's three cases. -/
theorem stepRunsTheFrontCommand : Obligations.StepRunsTheFrontCommand := by
  refine ⟨fun c r s hq => step_cons hq, fun s hq => ?_⟩
  rw [step_nil hq]
  refine ⟨fun hr h => ?_, fun hr h => ?_, fun hr => ?_⟩
  · rw [State.tick_running hr h]
    exact ⟨_, rfl, rfl, rfl, rfl, rfl⟩
  · rw [State.tick_atPoint hr h]
  · rw [State.tick_stopped hr]
    exact ⟨_, rfl, rfl, rfl, rfl, rfl⟩

end Sys2Proof.Machine

namespace Sys2Proof.Machine

/-! SUPPORT. What the end of a drain leaves as it was (R55, R66). -/

section
variable (s : State)

@[simp] theorem State.raise_mgmt_pair (n arg : Nat) : (s.raise n arg).mgmt.pair = s.mgmt.pair := by
  obtain ⟨-, -, -, -, -, -, -, -, -, -, -, -, -, -, -, -, -, -, -, -, hm⟩ := s.raise_frame n arg
  have hp := congrArg MgmtSt.pair hm
  exact hp

@[simp] theorem State.treeDrainEnd_subs (c : Nat) : (s.treeDrainEnd c).pon.subs = s.pon.subs := by
  simp only [State.treeDrainEnd]
  split
  · rfl
  · split
    · rw [State.raise_pon]
    · rfl

@[simp] theorem State.treeDrainEnd_mgmt_pair (c : Nat) : (s.treeDrainEnd c).mgmt.pair = s.mgmt.pair := by
  simp only [State.treeDrainEnd]
  split
  · rfl
  · split
    · rw [State.raise_mgmt_pair]
    · rfl

@[simp] theorem State.release_mgmt (sc : Nat) : (s.release sc).mgmt = s.mgmt := rfl

/-- The records of the end of a drain leave the sub-channels. -/
@[simp] theorem State.treeDrainEnd_sub (c sc : Nat) : (s.treeDrainEnd c).sub sc = s.sub sc := by
  unfold State.sub; rw [State.treeDrainEnd_subs]

@[simp] theorem State.raise_sub (n arg sc : Nat) : (s.raise n arg).sub sc = s.sub sc := by
  unfold State.sub; rw [State.raise_pon]

variable {s}

/-- The tree of a sub-channel is no half of a pair: nothing is settled. -/
theorem State.unpairSettle_none {w : Nat} (h : s.mgmt.pair.trees.get none w = none) : s.unpairSettle w = s := by
  unfold State.unpairSettle; rw [h]

/-! The drain of a sub-channel. -/

theorem State.subDrainEnd_road {sc e : Nat} (he : (s.sub sc).drainE = some e) (hc : s.roadClear sc e = false) :
    s.subDrainEnd sc = s := by
  simp [State.subDrainEnd, he, hc]

theorem State.subDrainEnd_draining {sc e : Nat} (he : (s.sub sc).drainE = some e) (hc : s.roadClear sc e = true)
    (hr : (s.sub sc).road = .draining) :
    s.subDrainEnd sc = ((s.setSub sc { s.sub sc with road := .disabled, drainE := none, discard := false, oos := false }).raise
      evDrainDone (drainArg 1 sc)).treeDrainEnd (sc / 2) := by
  simp [State.subDrainEnd, he, hc, hr, RoadSt.busy]

theorem State.subDrainEnd_resuming {sc e : Nat} (he : (s.sub sc).drainE = some e) (hc : s.roadClear sc e = true)
    (hr : (s.sub sc).road = .resuming) :
    s.subDrainEnd sc = ((s.setSub sc { s.sub sc with drainE := none, discard := false }).raise
      evDrainDone (drainArg 1 sc)).treeDrainEnd (sc / 2) := by
  simp [State.subDrainEnd, he, hc, hr, RoadSt.busy]

theorem State.subDone_road {sc e : Nat} (he : (s.sub sc).drainE = some e) (hc : s.roadClear sc e = false) :
    s.subDone sc = s := by
  simp only [State.subDone, State.subDrainEnd_road he hc]
  cases h : (s.sub sc).road <;> rfl

theorem State.subDone_draining {sc e : Nat} (he : (s.sub sc).drainE = some e) (hc : s.roadClear sc e = true)
    (hw : SMap.wf Sub.dflt s.pon.subs = true) (hr : (s.sub sc).road = .draining) :
    s.subDone sc = (((s.setSub sc { s.sub sc with road := .disabled, drainE := none, discard := false, oos := false }).raise
      evDrainDone (drainArg 1 sc)).treeDrainEnd (sc / 2)).release sc := by
  have hroad : ((s.subDrainEnd sc).sub sc).road = .disabled := by
    rw [State.subDrainEnd_draining he hc hr, State.treeDrainEnd_sub, State.raise_sub, State.sub_setSub hw, if_pos rfl]
  rw [← State.subDrainEnd_draining he hc hr]
  simp [State.subDone, hr, hroad]

theorem State.subDone_resuming {sc e : Nat} (he : (s.sub sc).drainE = some e) (hc : s.roadClear sc e = true)
    (hr : (s.sub sc).road = .resuming) :
    s.subDone sc = ((s.setSub sc { s.sub sc with drainE := none, discard := false }).raise
      evDrainDone (drainArg 1 sc)).treeDrainEnd (sc / 2) := by
  rw [← State.subDrainEnd_resuming he hc hr]
  simp [State.subDone, hr]

/-! The drain of a terminal, of a unit and of a flow. -/

theorem State.termDrainEnd_road {sc t e : Nat} (he : (s.term sc t).drainE = some e) (hc : s.roadClear sc e = false) :
    s.termDrainEnd sc t = s := by
  simp [State.termDrainEnd, he, hc]

theorem State.termDrainEnd_draining {sc t e : Nat} (he : (s.term sc t).drainE = some e) (hc : s.roadClear sc e = true)
    (ha : (s.term sc t).act = .draining) (hr : (s.term sc t).road = .draining) :
    s.termDrainEnd sc t = (s.raise evDrainDone (drainArg 2 (512 * sc + t))).afterShut sc t := by
  simp [State.termDrainEnd, he, hc, hr, ha, RoadSt.busy]

theorem State.termDrainEnd_other {sc t e : Nat} (he : (s.term sc t).drainE = some e) (hc : s.roadClear sc e = true)
    (ha : (s.term sc t).act ≠ .draining) (hr : (s.term sc t).road = .resuming ∨ (s.term sc t).road = .draining) :
    s.termDrainEnd sc t = (s.raise evDrainDone (drainArg 2 (512 * sc + t))).modTerm sc t
      (fun y => { y with road := .disabled, drainE := none, discard := false }) := by
  rcases hr with hr | hr <;> simp [State.termDrainEnd, he, hc, hr, ha, RoadSt.busy]

theorem State.unitDrainEnd_road {u e : Nat} (he : (s.unit u).drainE = some e)
    (hc : s.roadClear (s.unit u).sc e = false) : s.unitDrainEnd u = s := by
  simp [State.unitDrainEnd, he, hc]

theorem State.unitDrainEnd_draining {u e : Nat} (he : (s.unit u).drainE = some e)
    (hc : s.roadClear (s.unit u).sc e = true) (hr : (s.unit u).road = .draining) :
    s.unitDrainEnd u = (s.removeUnit u).raise evDrainDone (drainArg 3 u) := by
  simp [State.unitDrainEnd, he, hc, hr, RoadSt.busy]

theorem State.unitDrainEnd_resuming {u e : Nat} (he : (s.unit u).drainE = some e)
    (hc : s.roadClear (s.unit u).sc e = true) (hr : (s.unit u).road = .resuming) :
    s.unitDrainEnd u = (s.setUnit u { s.unit u with drainE := none, discard := false }).raise evDrainDone (drainArg 3 u) := by
  simp [State.unitDrainEnd, he, hc, hr, RoadSt.busy]

theorem State.flowDrainEnd_road {i e : Nat} (he : (s.flow i).drainE = some e)
    (hc : s.roadClear (s.flow i).sc e = false) : s.flowDrainEnd i = s := by
  simp [State.flowDrainEnd, he, hc]

theorem State.flowDrainEnd_draining {i e : Nat} (he : (s.flow i).drainE = some e)
    (hc : s.roadClear (s.flow i).sc e = true) (hr : (s.flow i).road = .draining) :
    s.flowDrainEnd i = (s.removeFlow i).raise evDrainDone (drainArg 4 i) := by
  simp [State.flowDrainEnd, he, hc, hr, RoadSt.busy]

theorem State.flowDrainEnd_resuming {i e : Nat} (he : (s.flow i).drainE = some e)
    (hc : s.roadClear (s.flow i).sc e = true) (hr : (s.flow i).road = .resuming) :
    s.flowDrainEnd i = (s.setFlow i { s.flow i with drainE := none, discard := false }).raise evDrainDone (drainArg 4 i) := by
  simp [State.flowDrainEnd, he, hc, hr, RoadSt.busy]

end

/-! The drain of a domain. -/

theorem State.foldl_doms {β : Type} {f : State → β → State} (hf : ∀ s b, (f s b).doms = s.doms) (l : List β)
    (s : State) : (l.foldl f s).doms = s.doms := by
  induction l generalizing s with
  | nil => rfl
  | cons b l ih => exact (ih (f s b)).trans (hf s b)

section
variable (s : State)

@[simp] theorem State.zeroSa_doms (k : Nat) : (s.zeroSa k).doms = s.doms := by
  simp only [State.zeroSa, State.forgetExh, State.setSa_doms]
  split
  · exact State.setSecy_doms ..
  · rfl

@[simp] theorem State.flushDomain_doms (d : Nat) : (s.flushDomain d).doms = s.doms :=
  State.foldl_doms (fun _ _ => State.setPipe_doms ..) _ s

@[simp] theorem State.notice_doms (v bit : Nat) : (s.notice v bit).doms = s.doms := by
  simp only [State.notice, State.signal_doms, State.setBit_doms]

@[simp] theorem State.setDom_doms (d : Nat) (x : Dom) : (s.setDom d x).doms = s.doms.set {} d x := by
  simp only [State.setDom]
  split
  · rw [State.notice_doms]
  · rfl

end

section
variable {s : State} {d e : Nat}

theorem State.domainDrainEnd_road (he : (s.domE d).drainE = some e)
    (h : s.domainEmpty d = false ∨ s.come (some e) = false) : s.domainDrainEnd d = s := by
  rcases h with h | h <;> simp [State.domainDrainEnd, he, h]

/-- A domain whose drain ends is as it was before it was opened. -/
theorem State.domE_domainDrainEnd (hw : SMap.wf (fun _ => ({} : Dom)) s.doms = true) (he : (s.domE d).drainE = some e)
    (hd : s.domainEmpty d = true) (hc : s.come (some e) = true) (hr : (s.domE d).road = .draining) :
    (s.domainDrainEnd d).domE d = {} := by
  have hfold : ∀ l : List Nat, (l.foldl (fun s k => s.zeroSa k) s).doms = s.doms := fun l =>
    State.foldl_doms State.zeroSa_doms l s
  simp only [State.domainDrainEnd, he, hd, hc, hr, RoadSt.busy]
  unfold State.domE
  simp [hfold, SMap.get_set hw]

end

/-! The totals of R62. -/

/-- Every granted burst is counted in one outcome or is on the road (R62). -/
def Ledger.Balanced (l : Ledger) : Prop :=
  l.granted = l.arrived + l.empty + l.early + l.late + l.corrupt + l.collided + l.discarded + l.onRoad

theorem Ledger.Balanced.count {l : Ledger} (h : l.Balanced) (h1 : 1 ≤ l.onRoad) (o : Outc) : (l.count o).Balanced := by
  unfold Ledger.Balanced at *
  cases o <;> simp only [Ledger.count] <;> omega

theorem Ledger.Balanced.grant {l : Ledger} (h : l.Balanced) (n : Nat) : (l.grant n).Balanced := by
  unfold Ledger.Balanced at *
  simp only [Ledger.grant]
  omega

section
variable {s : State} {sc : Nat}

theorem State.sub_of_pon {s t : State} (h : t.pon = s.pon) (sc : Nat) : t.sub sc = s.sub sc := by
  unfold State.sub; rw [h]

/-- A sub-channel after a change of it. -/
theorem State.sub_modSub (h : SMap.wf Sub.dflt s.pon.subs = true) (f : Sub → Sub) :
    (s.modSub sc f).sub sc = f (s.sub sc) := by
  rw [State.modSub, State.sub_setSub h, if_pos rfl]

theorem State.modSub_subs_wf (h : SMap.wf Sub.dflt s.pon.subs = true) (j : Nat) (f : Sub → Sub) :
    SMap.wf Sub.dflt (s.modSub j f).pon.subs = true := SMap.wf_set h _ _

/-- A sub-channel after a change of one of its bursts. -/
theorem State.sub_modBurst (h : SMap.wf Sub.dflt s.pon.subs = true) (m i : Nat) (f : Burst → Burst) :
    (s.modBurst sc m i f).sub sc =
      { s.sub sc with books := (s.sub sc).books.map (fun k => if k.msc = m then k.modBurst i f else k) } :=
  State.sub_modSub h _

theorem State.modBurst_subs_wf (h : SMap.wf Sub.dflt s.pon.subs = true) (j m i : Nat) (f : Burst → Burst) :
    SMap.wf Sub.dflt (s.modBurst j m i f).pon.subs = true := State.modSub_subs_wf h ..

/-- An outcome is entered in the totals once, or not at all. -/
theorem State.writeOutcome_led (h : SMap.wf Sub.dflt s.pon.subs = true) (m i : Nat) (o : Outc) :
    ((s.writeOutcome sc m i o).sub sc).led = (s.sub sc).led ∨
    ((s.writeOutcome sc m i o).sub sc).led = (s.sub sc).led.count o := by
  rcases s.writeOutcome_pon sc m i o with hp | hp
  · exact .inl (by rw [State.sub_of_pon hp])
  · right
    rw [State.sub_of_pon hp, State.sub_modSub (State.modBurst_subs_wf h ..), State.sub_modBurst h]

theorem State.writeOutcome_balanced (h : SMap.wf Sub.dflt s.pon.subs = true) (hb : (s.sub sc).led.Balanced)
    (h1 : 1 ≤ (s.sub sc).led.onRoad) (m i : Nat) (o : Outc) : ((s.writeOutcome sc m i o).sub sc).led.Balanced := by
  rcases State.writeOutcome_led h m i o with hl | hl <;> rw [hl]
  · exact hb
  · exact hb.count h1 o

end

/-! DRAIN_DONE, by the kind of what drains. -/

section
variable {s : State} {e : Nat}

theorem exec_drainDone_subch {t : State} {sc : Nat} (h : s.subDone sc = t)
    (ht : t.mgmt.pair.trees.get none (sc / 2) = none) : exec (.drainDone .subch sc) s = kept s t := by
  subst h
  exact congrArg (kept s) (State.unpairSettle_none ht)

theorem exec_drainDone_term (sc : Nat) {t : Nat} (ht : t < 512) :
    exec (.drainDone .term (512 * sc + t)) s = kept s (s.termDrainEnd sc t) := by
  have hd : (512 * sc + t) / 512 = sc := by omega
  have hm : (512 * sc + t) % 512 = t := by omega
  show kept s (s.termDrainEnd ((512 * sc + t) / 512) ((512 * sc + t) % 512)) = _
  rw [hd, hm]

theorem exec_drainDone_unit (u : Nat) : exec (.drainDone .unit u) s = kept s (s.unitDrainEnd u) := rfl

theorem exec_drainDone_flow (f : Nat) : exec (.drainDone .flow f) s = kept s (s.flowDrainEnd f) := rfl

theorem exec_drainDone_domain (d : Nat) : exec (.drainDone .domain d) s = kept s (s.domainDrainEnd d) := rfl

end

/-- Settles O20: each drain end case by case, and the balance of R62 through each operation on the totals. -/
theorem drainsEndAndLedgerBalances : Obligations.DrainsEndAndLedgerBalances := by
  unfold Obligations.DrainsEndAndLedgerBalances
  refine ⟨⟨?subchWaits, ?subchEnds, ?term, ?unit, ?flow, ?domain⟩, ?count, ?grant, ?outcome⟩
  case subchWaits =>
    intro s sc e he hc ht
    rw [exec_drainDone_subch (State.subDone_road he hc) ht, kept_self]
  case subchEnds =>
    intro s sc e he hc ht hw
    refine ⟨fun hr => exec_drainDone_subch (State.subDone_draining he hc hw hr) ?_,
      fun hr => exec_drainDone_subch (State.subDone_resuming he hc hr) ?_⟩
    · rw [State.release_mgmt, State.treeDrainEnd_mgmt_pair, State.raise_mgmt_pair]
      exact ht
    · rw [State.treeDrainEnd_mgmt_pair, State.raise_mgmt_pair]
      exact ht
  case term =>
    intro s sc t e ht he
    rw [exec_drainDone_term sc ht]
    exact ⟨fun hc => by rw [State.termDrainEnd_road he hc, kept_self],
      fun hc ha hr => congrArg (kept s) (State.termDrainEnd_draining he hc ha hr),
      fun hc ha hr => congrArg (kept s) (State.termDrainEnd_other he hc ha hr)⟩
  case unit =>
    intro s u e he
    rw [exec_drainDone_unit]
    exact ⟨fun hc => by rw [State.unitDrainEnd_road he hc, kept_self],
      fun hc hr => congrArg (kept s) (State.unitDrainEnd_draining he hc hr),
      fun hc hr => congrArg (kept s) (State.unitDrainEnd_resuming he hc hr)⟩
  case flow =>
    intro s f e he
    rw [exec_drainDone_flow]
    exact ⟨fun hc => by rw [State.flowDrainEnd_road he hc, kept_self],
      fun hc hr => congrArg (kept s) (State.flowDrainEnd_draining he hc hr),
      fun hc hr => congrArg (kept s) (State.flowDrainEnd_resuming he hc hr)⟩
  case domain =>
    intro s d e he hw
    rw [exec_drainDone_domain]
    refine ⟨fun h => by rw [State.domainDrainEnd_road he h, kept_self], fun hd hc hr => ⟨_, rfl, ?_⟩⟩
    have hend : ({ s.domainDrainEnd d with pending := s.pending } : State).domE d = {} :=
      State.domE_domainDrainEnd hw he hd hc hr
    rw [hend]
    exact ⟨rfl, rfl⟩
  case count => exact fun l o hb h1 => Ledger.Balanced.count hb h1 o
  case grant => exact fun l n hb => Ledger.Balanced.grant hb n
  case outcome => exact fun s sc m i o hw hb h1 => State.writeOutcome_balanced hw hb h1 m i o

end Sys2Proof.Machine

namespace Sys2Proof.Machine

/-! SUPPORT. What the consequences of an outcome leave of the sub-channels (R79, R87 to R92, R108 to R113, R138). -/

section
variable (s : State)

@[simp] theorem State.setTerm_subs (sc t : Nat) (x : Term) : (s.setTerm sc t x).pon.subs = s.pon.subs := rfl
@[simp] theorem State.modTerm_subs (sc t : Nat) (f : Term → Term) : (s.modTerm sc t f).pon.subs = s.pon.subs := rfl
@[simp] theorem State.writeReport_pon (u occ stamp : Nat) : (s.writeReport u occ stamp).pon = s.pon := rfl

@[simp] theorem State.cancelWhere_pon (sc : Nat) (p : Change → Bool) : (s.cancelWhere sc p).pon = s.pon := by
  simp only [State.cancelWhere]
  split <;> rfl

@[simp] theorem State.tell_pon (w : List Nat) : (s.tell w).pon = s.pon := by
  simp only [State.tell]
  split <;> rfl

theorem State.tell_ite_pon (c : Prop) [Decidable c] (w : List Nat) : (if c then s.tell w else s).pon = s.pon := by
  split
  · exact State.tell_pon ..
  · rfl

@[simp] theorem State.deferDev_pon (kind idx : Nat) (x : Change) : (s.deferDev kind idx x).2.pon = s.pon := by
  simp only [State.deferDev, State.tell_pon]

@[simp] theorem State.nameDemote_subs (sc t reason e : Nat) : (s.nameDemote sc t reason e).pon.subs = s.pon.subs := by
  simp only [State.nameDemote, State.raiseOnce_pon]
  rfl

@[simp] theorem State.demote_subs (sc t reason : Nat) : (s.demote sc t reason).pon.subs = s.pon.subs := by
  simp only [State.demote, State.cancelOff]
  split
  · rfl
  · rw [State.nameDemote_subs, State.deferDev_pon, State.cancelWhere_pon]

@[simp] theorem State.preloadOutcome_subs (sc m : Nat) (b : Burst) (o : Outc) (rx : BurstRx) :
    (s.preloadOutcome sc m b o rx).pon.subs = s.pon.subs := by
  cases o with
  | empty | early | late | collided | discarded => rfl
  | arrived =>
    simp only [State.preloadOutcome, State.modTerm_subs]
    split
    · exact State.demote_subs ..
    · rfl
  | corrupt =>
    simp only [State.preloadOutcome]
    split
    · rfl
    split
    · exact State.demote_subs ..
    split
    · rw [State.raiseOnce_pon, State.add32_pon, State.modTerm_subs, State.modTerm_subs]
    · rfl

@[simp] theorem State.burstCounts_pon (sc : Nat) (rx : BurstRx) : (s.burstCounts sc rx).pon = s.pon := by
  have hfold := State.foldl_pon (f := fun s k => s.add64 (subA sc (0x18 + 8 * k)) (rx.fec.getD k 0))
    (fun s k => State.add64_pon ..) (List.range 4) s
  simp only [State.burstCounts]
  split <;> simp only [State.add32_pon, hfold]

@[simp] theorem State.burstReports_pon (sc m : Nat) (b : Burst) (rx : BurstRx) :
    (s.burstReports sc m b rx).pon = s.pon := by
  refine State.foldl_pon (fun s r => ?_) _ s
  split
  · rfl
  split
  · rfl
  split <;> rfl

@[simp] theorem State.rxSkew_pon (sc : Nat) (d : Int) : (s.rxSkew sc d).pon = s.pon := by
  simp only [State.rxSkew]
  split
  · rfl
  split
  · rw [State.raise_pon, State.setReg_pon]
  · rw [State.setReg_pon]

@[simp] theorem State.firstBurst_subs (sc t : Nat) : (s.firstBurst sc t).pon.subs = s.pon.subs := by
  simp only [State.firstBurst]
  split
  · rw [State.raise_pon, State.modTerm_subs]
  · rfl

@[simp] theorem State.deviceRerange_pon (sc t : Nat) : (s.deviceRerange sc t).pon = s.pon := by
  simp only [State.deviceRerange]
  split
  · rfl
  · exact State.deferDev_pon ..

@[simp] theorem State.tellTerms_pon (t : State) (sc : Nat) : (s.tellTerms t sc).pon = t.pon := by
  simp only [State.tellTerms]
  split
  · rfl
  · refine (State.foldl_pon (fun u k => State.tell_ite_pon u _ _) _ _).trans ?_
    split
    · rfl
    · exact State.tell_pon ..

end

/-- A step leaves the totals and the roadbooks of a sub-channel, and the sub-channels canonical. -/
structure State.KeepsRoad (sc : Nat) (s t : State) : Prop where
  wf : SMap.wf Sub.dflt t.pon.subs = true
  led : (t.sub sc).led = (s.sub sc).led
  books : (t.sub sc).books = (s.sub sc).books

section
variable {s t u : State} {sc : Nat}

theorem State.KeepsRoad.refl (h : SMap.wf Sub.dflt s.pon.subs = true) : State.KeepsRoad sc s s := ⟨h, rfl, rfl⟩

theorem State.KeepsRoad.trans (h : State.KeepsRoad sc s t) (k : State.KeepsRoad sc t u) : State.KeepsRoad sc s u :=
  ⟨k.wf, k.led.trans h.led, k.books.trans h.books⟩

theorem State.KeepsRoad.of_subs (h : SMap.wf Sub.dflt s.pon.subs = true) (hp : t.pon.subs = s.pon.subs) :
    State.KeepsRoad sc s t := by
  have hsub : t.sub sc = s.sub sc := by unfold State.sub; rw [hp]
  exact ⟨by rw [hp]; exact h, by rw [hsub], by rw [hsub]⟩

/-- A further step that leaves the sub-channels. -/
theorem State.KeepsRoad.trans_subs (h : State.KeepsRoad sc s t) (hp : u.pon.subs = t.pon.subs) :
    State.KeepsRoad sc s u := h.trans (.of_subs h.wf hp)

/-- A write of the sub-channel that leaves its totals and its roadbooks. -/
theorem State.KeepsRoad.setSub (h : SMap.wf Sub.dflt s.pon.subs = true) {x : Sub} (hl : x.led = (s.sub sc).led)
    (hb : x.books = (s.sub sc).books) : State.KeepsRoad sc s (s.setSub sc x) := by
  refine ⟨SMap.wf_set h _ _, ?_, ?_⟩ <;> rw [State.sub_setSub h, if_pos rfl]
  · exact hl
  · exact hb

theorem State.sendRangingTime_keepsRoad (h : SMap.wf Sub.dflt s.pon.subs = true) (t f : Nat) :
    State.KeepsRoad sc s (s.sendRangingTime sc t f) := by
  simp only [State.sendRangingTime, State.ploam]
  split
  · exact .setSub h rfl rfl
  · exact .refl h

/-- A correction of a terminal, sent or refused (R109 to R112). -/
theorem State.correct_keepsRoad (h : SMap.wf Sub.dflt s.pon.subs = true) (t : Nat) (d : Int) :
    State.KeepsRoad sc s (s.correct sc t d) := by
  simp only [State.correct]
  split
  · split
    · exact .refl h
    · exact .of_subs h (by rw [State.modTerm_subs, State.deferDev_pon])
  · have hset : State.KeepsRoad sc s (s.setTerm sc t { s.term sc t with
        eqd := (s.term sc t).eqd - d, driftF := 0, eqdUpdates := (s.term sc t).eqdUpdates + 1, rtFrame := some s.nextFrame, rtDelta := d,
        held := none }) := .of_subs h rfl
    exact hset.trans (State.sendRangingTime_keepsRoad hset.wf ..)

/-- An EARLY or a LATE burst (R110, R111). -/
theorem State.mistimed_keepsRoad (h : SMap.wf Sub.dflt s.pon.subs = true) (m t : Nat) (d : Int) (x : Term) :
    State.KeepsRoad sc s (State.driftOutcome.mistimed s sc m t d x) := by
  have hset : State.KeepsRoad sc s (s.setTerm sc t { x with mistimed := x.mistimed + 1, emptyRun := 0 }) := .of_subs h rfl
  simp only [State.driftOutcome.mistimed]
  have hmid : State.KeepsRoad sc s
      (if x.inPeriod m then (s.setTerm sc t { x with mistimed := x.mistimed + 1, emptyRun := 0 }).modTerm sc t
        (fun y => { y with held := some d })
      else if x.rtFrame.isSome then s.setTerm sc t { x with mistimed := x.mistimed + 1, emptyRun := 0 }
      else (s.setTerm sc t { x with mistimed := x.mistimed + 1, emptyRun := 0 }).correct sc t d) := by
    split
    · exact hset.trans_subs rfl
    split
    · exact hset
    · exact hset.trans (State.correct_keepsRoad hset.wf ..)
  split
  · exact hmid.trans_subs (by rw [State.modTerm_subs, State.deviceRerange_pon])
  · exact hmid

theorem State.driftOutcome_keepsRoad (h : SMap.wf Sub.dflt s.pon.subs = true) (m t : Nat) (o : Outc) (d : Int) :
    State.KeepsRoad sc s (s.driftOutcome sc m t o d) := by
  cases o with
  | arrived =>
    simp only [State.driftOutcome]
    have hset := State.KeepsRoad.of_subs (sc := sc) h (State.setTerm_subs s sc t { s.term sc t with
      driftF := (s.term sc t).driftF + roundDiv (16 * d - (s.term sc t).driftF) 16, mistimed := 0, emptyRun := 0 })
    split
    · exact hset.trans (State.correct_keepsRoad hset.wf ..)
    · exact hset
  | early => exact State.mistimed_keepsRoad h ..
  | late => exact State.mistimed_keepsRoad h ..
  | corrupt | collided | empty | discarded => exact .of_subs h rfl

theorem State.byLight_keepsRoad {f : State → State} (h : SMap.wf Sub.dflt s.pon.subs = true)
    (hf : State.KeepsRoad sc s (f s)) : State.KeepsRoad sc s (s.byLight sc f) := by
  simp only [State.byLight]
  split
  · exact .refl h
  · exact hf.trans_subs (by rw [State.tellTerms_pon])

/-- What the device decides from the light of a burst: the drift of its terminal, and its first burst. -/
theorem State.byLight_drift_keepsRoad (h : SMap.wf Sub.dflt s.pon.subs = true) (m t : Nat) (o : Outc) (d : Int) :
    State.KeepsRoad sc s (s.byLight sc (fun s =>
      let s := s.driftOutcome sc m t o d
      if o == .arrived then s.firstBurst sc t else s)) := by
  have hdrift := State.driftOutcome_keepsRoad (sc := sc) h m t o d
  refine State.byLight_keepsRoad h ?_
  dsimp only
  split
  · exact hdrift.trans_subs (State.firstBurst_subs ..)
  · exact hdrift

/-! BURST_OUTCOME. -/

/-- A burst that has an outcome takes no other. -/
theorem State.burstOutcome_again {m i : Nat} {rx : BurstRx} {k : Book} {b : Burst} {o : Outc}
    (hk : (s.sub sc).books.find? (fun k => k.msc == m) = some k) (hb : k.bursts[i]? = some b) (ho : b.outcome = some o) :
    s.burstOutcome sc m i rx = s := by
  simp [State.burstOutcome, hk, hb, ho]

/-- An outcome writes its burst and the totals; what follows from it leaves both. -/
theorem State.burstOutcome_keepsRoad {m i : Nat} {rx : BurstRx} {k : Book} {b : Burst}
    (hk : (s.sub sc).books.find? (fun k => k.msc == m) = some k) (hb : k.bursts[i]? = some b) (ho : b.outcome = none)
    (hm : m + (s.sub sc).len ≤ s.clk.msc + 1)
    (hw : SMap.wf Sub.dflt (s.writeOutcome sc m i (s.outcomeOf sc m b rx)).pon.subs = true) :
    State.KeepsRoad sc (s.writeOutcome sc m i (s.outcomeOf sc m b rx)) (s.burstOutcome sc m i rx) := by
  generalize hu : s.writeOutcome sc m i (s.outcomeOf sc m b rx) = u at hw
  simp only [State.burstOutcome, hk, hb, ho, Option.isSome_none, Bool.false_or, decide_eq_true_eq, Nat.not_lt.2 hm, if_false, hu]
  generalize s.outcomeOf sc m b rx = o
  have htail : State.KeepsRoad sc u
      ((if o == .arrived then ((u.burstCounts sc rx).burstReports sc m b rx).rxSkew sc rx.offset else u).preloadOutcome sc m b o rx) := by
    refine .of_subs hw ((State.preloadOutcome_subs ..).trans ?_)
    split
    · rw [State.rxSkew_pon, State.burstReports_pon, State.burstCounts_pon]
    · rfl
  have hlight := htail.trans (State.byLight_drift_keepsRoad htail.wf m b.term o rx.offset)
  cases b.kind with
  | serial | ranging => exact .refl hw
  | _ => exact hlight

end

/-! The burst of a roadbook, and its outcome. -/

theorem Book.modBurst_msc (k : Book) (i : Nat) (f : Burst → Burst) : (k.modBurst i f).msc = k.msc := rfl

/-- A burst after a change of it. -/
theorem Book.getElem?_modBurst {k : Book} {i : Nat} {b : Burst} (h : k.bursts[i]? = some b) (f : Burst → Burst) :
    (k.modBurst i f).bursts[i]? = some (f b) := by
  simp only [Book.modBurst, List.getElem?_mapIdx, h, Option.map_some, if_true]

/-- The roadbook of an interval after a change of one of its bursts. -/
theorem find?_map_modBurst {l : List Book} {m i : Nat} {k : Book} (h : l.find? (fun k => k.msc == m) = some k)
    (f : Burst → Burst) :
    (l.map (fun k => if k.msc = m then k.modBurst i f else k)).find? (fun k => k.msc == m) = some (k.modBurst i f) := by
  have hm : k.msc = m := by simpa using List.find?_some h
  have hp : ((fun k : Book => k.msc == m) ∘ fun k => if k.msc = m then k.modBurst i f else k) = fun k => k.msc == m := by
    funext k
    simp only [Function.comp]
    split <;> simp only [Book.modBurst_msc]
  rw [List.find?_map, hp, h, Option.map_some, if_pos hm]

/-- The first roadbook of an interval is the first counted one when it is counted. -/
theorem find?_counted {l : List Book} {m : Nat} {k : Book} (h : l.find? (fun k => k.msc == m) = some k)
    (hc : k.counted = true) : l.find? (fun k => k.msc == m && k.counted) = some k := by
  rw [List.find?_eq_some_iff_append] at h ⊢
  obtain ⟨hm, before, after, hl, hn⟩ := h
  exact ⟨by rw [hm, hc, Bool.and_self], before, after, hl, fun a ha => by
    have hna := hn a ha
    simp only [Bool.not_eq_true'] at hna
    simp only [hna, Bool.false_and, Bool.not_false]⟩

section
variable {s : State} {sc : Nat}

/-- A counted burst without an outcome takes it: it is entered in the burst and in the totals (R61, R62). -/
theorem State.writeOutcome_pon_of {m i : Nat} {k : Book} {b : Burst}
    (hk : (s.sub sc).books.find? (fun k => k.msc == m) = some k) (hc : k.counted = true) (hb : k.bursts[i]? = some b)
    (ho : b.outcome = none) (o : Outc) :
    (s.writeOutcome sc m i o).pon = ((s.modBurst sc m i (fun b => { b with outcome := some o, received := true })).modSub sc
      (fun x => { x with led := x.led.count o })).pon := by
  simp only [State.writeOutcome, find?_counted hk hc, hb, ho, Option.isSome_none, Bool.false_eq_true, if_false]
  refine (State.sample_pon ..).trans (State.foldl_pon (fun s a => ?_) _ _)
  split <;> rfl

/-- The sub-channel of a burst that takes an outcome. -/
theorem State.sub_writeOutcome {m i : Nat} {k : Book} {b : Burst} (h : SMap.wf Sub.dflt s.pon.subs = true)
    (hk : (s.sub sc).books.find? (fun k => k.msc == m) = some k) (hc : k.counted = true) (hb : k.bursts[i]? = some b)
    (ho : b.outcome = none) (o : Outc) :
    (s.writeOutcome sc m i o).sub sc = { s.sub sc with
      books := (s.sub sc).books.map (fun k => if k.msc = m then
        k.modBurst i (fun b => { b with outcome := some o, received := true }) else k)
      led := (s.sub sc).led.count o } := by
  rw [State.sub_of_pon (State.writeOutcome_pon_of hk hc hb ho o), State.sub_modSub (State.modBurst_subs_wf h ..), State.sub_modBurst h]

theorem State.writeOutcome_subs_wf (h : SMap.wf Sub.dflt s.pon.subs = true) (m i : Nat) (o : Outc) :
    SMap.wf Sub.dflt (s.writeOutcome sc m i o).pon.subs = true := by
  rcases s.writeOutcome_pon sc m i o with hp | hp <;> rw [hp]
  · exact h
  · exact State.modSub_subs_wf (State.modBurst_subs_wf h ..) ..

end

/-! The rows of R61 for a burst of data. -/

section
variable {s : State} {sc m : Nat} {b : Burst} {rx : BurstRx}

/-- Without a Ranging_Time on its way the phase tolerance alone decides. -/
theorem Term.offBy_of_rtFrame {y : Term} (h : y.rtFrame = none) (m : Nat) (tol d : Int) (out : Bool) :
    y.offBy m tol d out = out := by
  simp [Term.offBy, Term.inPeriod, h]

/-- The outcome of a burst of data, in the order of R61. -/
theorem State.outcomeOf_data (hoos : (s.sub sc).oos = false) (hk : b.kind = .data) (hd : s.burstDiscarded sc b = false)
    (hrt : (s.term sc b.term).rtFrame = none) :
    s.outcomeOf sc m b rx =
      if rx.overlap then .collided
      else if !s.lightOf sc rx then .empty
      else if rx.delim && decide (rx.offset < -((s.sub sc).phaseTol : Int)) then .early
      else if rx.delim && decide (((s.sub sc).phaseTol : Int) < rx.offset) then .late
      else if !rx.lock || !rx.delim || !rx.clean || rx.lost || s.hitByLoss sc m b then .corrupt
      else .arrived := by
  simp only [State.outcomeOf, hoos, hk, hd, Term.offBy_of_rtFrame hrt, Bool.false_and, Bool.false_eq_true, if_false]

end

/-- Settles O19: the outcome is entered before anything that follows from it, and nothing that follows touches the
roadbooks or the totals. -/
theorem oneOutcomeForEachBurst : Obligations.OneOutcomeForEachBurst := by
  unfold Obligations.OneOutcomeForEachBurst
  refine ⟨⟨?first, ?again, ?reception⟩, ?rows⟩
  case first =>
    intro s sc m i rx k b hw hk hc hb ho hm
    have hkeep := State.burstOutcome_keepsRoad (rx := rx) hk hb ho hm (State.writeOutcome_subs_wf hw ..)
    have hsub := State.sub_writeOutcome hw hk hc hb ho (s.outcomeOf sc m b rx)
    have hled := hkeep.led
    have hbooks := hkeep.books
    rw [hsub] at hled hbooks
    refine ⟨_, rfl, hled, k.modBurst i (fun b' => { b' with outcome := some (s.outcomeOf sc m b rx), received := true }), _, ?_,
      Book.getElem?_modBurst hb _, rfl⟩
    have hfind := find?_map_modBurst (i := i) hk (fun b' => { b' with outcome := some (s.outcomeOf sc m b rx), received := true })
    exact (congrArg _ hbooks).trans hfind
  case again =>
    intro s sc m i rx k b o hk hb ho
    exact (congrArg (kept s) (State.burstOutcome_again hk hb ho)).trans (kept_self s)
  case reception =>
    intro s sc m i rx k b hk hb hr hm t follows
    have hrec : s.burstReception sc m i rx = if follows = true then
        t.emit (.burstReset sc (s.brstWidth sc) (s.bit (chnA (sc / 2) 0x8) (16 + sc % 2))) else t := by
      simp only [State.burstReception, hk, hb, hr, Nat.not_lt.2 hm, decide_false, Bool.or_self, Bool.false_eq_true, if_false]
      rfl
    refine ⟨fun hf => congrArg (kept s) ?_, fun hf => congrArg (kept s) ?_⟩
    · rw [hrec, if_pos hf]
      rfl
    · rw [hrec, if_neg (by rw [hf]; decide)]
  case rows =>
    intro s sc m b rx hoos hk hd hrt tol
    have ht : ((s.sub sc).phaseTol : Int) = tol := rfl
    rw [State.outcomeOf_data hoos hk hd hrt, ht]
    clear_value tol
    refine ⟨?overlap, ?dark, ?early, ?late, ?corrupt, ?arrived⟩
    case overlap => exact fun h => if_pos h
    case dark => exact fun h hl => by simp [h, hl]
    case early => exact fun h hl hdl hlt => by simp [h, hl, hdl, hlt]
    case late => exact fun h hl hdl hle hlt => by simp [h, hl, hdl, not_lt.2 hle, hlt]
    case corrupt =>
      intro h hl hin hbad
      have hearly : (rx.delim && decide (rx.offset < -tol)) = false := by
        simpa using fun hdl => (hin hdl).1
      have hlate : (rx.delim && decide (tol < rx.offset)) = false := by
        simpa using fun hdl => (hin hdl).2
      have hcorrupt : (!rx.lock || !rx.delim || !rx.clean || rx.lost || s.hitByLoss sc m b) = true := by
        rcases hbad with e | e | e | e | e <;> simp [e]
      simp only [h, hl, hearly, hlate, hcorrupt, Bool.not_true, Bool.false_eq_true, if_true, if_false]
    case arrived =>
      exact fun h hl hdl hle hge hlock hclean hlost hhit => by
        simp [h, hl, hdl, not_lt.2 hle, not_lt.2 hge, hlock, hclean, hlost, hhit]

end Sys2Proof.Machine

namespace Sys2Proof.Machine

/-! SUPPORT. Registers that raising an event leaves (R267 to R269). -/

/-- A step leaves a register, and the register file canonical. -/
structure State.KeepsReg (a : Nat) (s t : State) : Prop where
  wf : SMap.wf regReset t.regs = true
  reg : t.reg a = s.reg a

section
variable {s t u : State} {a b : Nat}

theorem State.KeepsReg.refl (h : SMap.wf regReset s.regs = true) : State.KeepsReg a s s := ⟨h, rfl⟩

theorem State.KeepsReg.trans (h : State.KeepsReg a s t) (k : State.KeepsReg a t u) : State.KeepsReg a s u :=
  ⟨k.wf, k.reg.trans h.reg⟩

theorem State.KeepsReg.of_regs (h : SMap.wf regReset s.regs = true) (hr : t.regs = s.regs) : State.KeepsReg a s t :=
  ⟨by rw [hr]; exact h, by unfold State.reg; rw [hr]⟩

theorem State.KeepsReg.setReg (h : SMap.wf regReset s.regs = true) (hab : a ≠ b) (v : W64) :
    State.KeepsReg a s (s.setReg b v) := ⟨State.setReg_wf h b v, by rw [State.reg_setReg h, if_neg hab]⟩

/-- A counter of 32 bits after it counts. -/
theorem State.reg_add32 (h : SMap.wf regReset s.regs = true) (b n : Nat) :
    (s.add32 b n).reg b = BitVec.ofNat 64 (((s.reg b).toNat + n) % 2 ^ 32) := by
  rw [State.add32, State.reg_setReg h, if_pos rfl]

end

section
variable {s : State} {a n : Nat}

theorem State.evqWrite_keepsReg (h : SMap.wf regReset s.regs = true) (htail : a ≠ evcA 0x10) (hlost : a ≠ evcA 0x14)
    (e : EvRec) : State.KeepsReg a s (s.evqWrite e).2 := by
  simp only [State.evqWrite]
  split
  · exact (State.KeepsReg.setReg h htail _).trans (.of_regs (State.setReg_wf h ..) rfl)
  · exact .setReg h hlost _

/-- Raising a source writes its count, its bit, the tail of the queue and the count of the lost. -/
theorem State.raise_keepsReg (h : SMap.wf regReset s.regs = true) (hcount : a ≠ evcA (0x6000 + 4 * n))
    (hbit : a ≠ evcA (0x8000 + 4 * (n / 32))) (htail : a ≠ evcA 0x10) (hlost : a ≠ evcA 0x14) (arg : Nat) :
    State.KeepsReg a s (s.raise n arg) := by
  unfold State.raise
  split
  · exact .refl h
  have hadd : State.KeepsReg a s (s.add32 (evcA (0x6000 + 4 * n)) 1) := .setReg h hcount _
  have hset : State.KeepsReg a s ((s.add32 (evcA (0x6000 + 4 * n)) 1).setBit (evcA (0x8000 + 4 * (n / 32))) (n % 32) true) :=
    hadd.trans (.setReg hadd.wf hbit _)
  generalize (s.add32 (evcA (0x6000 + 4 * n)) 1).setBit (evcA (0x8000 + 4 * (n / 32))) (n % 32) true = t at hset
  have hrcd : State.KeepsReg a s { t with mgmt := { t.mgmt with rcd := { t.mgmt.rcd with
      raises := t.mgmt.rcd.raises.set 0 n (t.mgmt.rcd.raises.get 0 n + 1) } } } := hset.trans (.of_regs hset.wf rfl)
  dsimp only
  split
  · split
    · have hev := State.evqWrite_keepsReg hrcd.wf htail hlost ⟨n, arg % 2 ^ 32, t.clk.msc⟩
      split <;> rename_i v hv <;> rw [hv] at hev
      · exact hrcd.trans (hev.trans (.of_regs hev.wf (State.evSignal_regs ..)))
      · exact hrcd.trans hev
    · split
      · exact hrcd.trans (.of_regs hrcd.wf rfl)
      · exact hrcd.trans (.setReg hrcd.wf hlost _)
  · exact hrcd

theorem State.raiseOverrun_keepsReg (h : SMap.wf regReset s.regs = true) (late : Bool) :
    State.KeepsReg (mstA 0x28) s (s.raiseOverrun late) := by
  simp only [State.raiseOverrun]
  split
  · exact .refl h
  · exact State.raise_keepsReg h (by decide) (by decide) (by decide) (by decide) _

end

/-! SUPPORT. The totals of a ledger record (R63). -/

/-- A map filled from the entries of a canonical one: what `g` makes of each listed entry. -/
theorem SMap.get_foldl_set {α β : Type} [DecidableEq α] [DecidableEq β] {e : Nat → α} {d : β} (g : α → β)
    (l : SMap α) (b : Option Nat) (hl : SMap.wfFrom e b l = true) (m : SMap β) (hm : SMap.wf (fun _ => d) m = true)
    (k : Nat) (f : α) :
    SMap.get (l.foldl (fun (m : SMap β) x => m.set d x.1 (g x.2)) m) d k =
      if k ∈ l.map Prod.fst then g (SMap.get l f k) else SMap.get m d k := by
  induction l generalizing m b with
  | nil => simp
  | cons p r ih =>
    obtain ⟨i, w⟩ := p
    have hr : SMap.wfFrom e (some i) r = true := by
      simp only [SMap.wfFrom, Bool.and_eq_true] at hl
      exact hl.2
    have habove := (SMap.keys_rise r (some i) hr).2 i rfl
    have hset : SMap.wf (fun _ => d) (m.set d i (g w)) = true := SMap.wf_set hm i (g w)
    rw [List.foldl_cons, ih (some i) hr _ hset, SMap.get_set hm]
    by_cases hk : k ∈ r.map Prod.fst
    · have hik := habove k hk
      simp only [hk, if_true, List.map_cons, List.mem_cons, or_true]
      rw [SMap.get, if_neg (by omega), if_neg (by omega)]
    · by_cases hki : k = i
      · subst hki
        simp [hk, SMap.get]
      · simp [hk, hki]

/-- The totals of a ledger record: those of each sub-channel, its accepted roadbook granted. -/
def State.recordTotals (s : State) : SMap Ledger :=
  s.pon.subs.foldl (fun (m : SMap Ledger) e => m.set {} e.1 (e.2.led.grant e.2.acceptedBursts)) []

theorem State.get_recordTotals {s : State} (h : SMap.wf Sub.dflt s.pon.subs = true) (sc : Nat) :
    s.recordTotals.get {} sc = (s.sub sc).led.grant (s.sub sc).acceptedBursts := by
  have hget := SMap.get_foldl_set (d := ({} : Ledger)) (fun x : Sub => x.led.grant x.acceptedBursts) s.pon.subs none h []
    rfl sc (Sub.dflt sc)
  refine hget.trans ?_
  split
  · rfl
  · rename_i hk
    have hsub : s.sub sc = Sub.dflt sc := by
      by_contra hne
      exact hk (SMap.mem_keys_of_get_ne hne)
    rw [hsub]
    rfl

/-! SUPPORT. What the phase points leave of the clock (R37, R38, R40). -/

section
variable (s : State)

@[simp] theorem State.groupCount_time (q k : Nat) : (s.groupCount q k).time = s.time := by
  simp only [State.groupCount]
  split <;> rfl

@[simp] theorem State.writeHint_time (u demand prio target : Nat) : (s.writeHint u demand prio target).time = s.time := by
  simp only [State.writeHint]
  split
  · exact State.groupCount_time ..
  · rfl

theorem State.foldl_time {β : Type} {f : State → β → State} (hf : ∀ s b, (f s b).time = s.time) (l : List β)
    (s : State) : (l.foldl f s).time = s.time := by
  induction l generalizing s with
  | nil => rfl
  | cons b l ih => exact (ih (f s b)).trans (hf s b)

@[simp] theorem State.commitHints_time : s.commitHints.time = s.time := by
  refine (State.foldl_time (fun s h => ?_) s.grant.hintQ _).trans rfl
  split
  · exact State.writeHint_time ..
  · rfl

@[simp] theorem State.raiseOverrun_time (late : Bool) : (s.raiseOverrun late).time = s.time := by
  simp only [State.raiseOverrun]
  split
  · rfl
  · exact State.raise_time ..

end

/-- A state stands at hub cycle c of the interval of s, with phase p (R38, R40). -/
structure State.AtPoint (s : State) (c : Nat) (p : Phase) (t : State) : Prop where
  clk : t.clk = { s.clk with cycle := c, phase := p, hubc := s.clk.hubc + (c - s.clk.cycle) }
  dev : t.time.dev = (s.clk.msc * 250000 + c) * 32768 + s.time.dev % 32768

section
variable {s t u : State} {c : Nat} {p : Phase}

theorem State.advance_atPoint (s : State) (c : Nat) (p : Phase) : s.AtPoint c p (s.advance c p) := by
  refine ⟨rfl, ?_⟩
  show s.clk.msc * (250000 * 32768) + c * 32768 + s.time.dev % 32768 = _
  ring

/-- What happens at the point leaves it. -/
theorem State.AtPoint.timed (h : s.AtPoint c p t) (u : State) : s.AtPoint c p (u.timed t) := ⟨h.clk, h.dev⟩

theorem State.AtPoint.of_eq (h : s.AtPoint c p t) (hc : u.clk = t.clk) (ht : u.time = t.time) : s.AtPoint c p u :=
  ⟨by rw [hc]; exact h.clk, by rw [ht]; exact h.dev⟩

theorem State.snapshot_atPoint (hr : s.clk.running = true) (hp : s.clk.phase = .afterMilestone) :
    s.AtPoint 4000 .afterSnapshot s.snapshot := by
  have hpt := s.advance_atPoint 4000 .afterSnapshot
  rw [State.snapshot, if_neg (by simp [hr, hp])]
  dsimp only
  split
  · exact hpt
  split
  · exact hpt.timed _
  · exact hpt.timed _

theorem State.planDeadline_atPoint (hr : s.clk.running = true) (hp : s.clk.phase = .afterSnapshot) :
    s.AtPoint 196000 .afterDeadline s.planDeadline := by
  have hpt := s.advance_atPoint 196000 .afterDeadline
  rw [State.planDeadline, if_neg (by simp [hr, hp])]
  dsimp only
  split
  · exact hpt
  · exact hpt.timed _

theorem State.commitPoint_atPoint (hr : s.clk.running = true) (hp : s.clk.phase = .afterDeadline) :
    s.AtPoint 232000 .afterCommit s.commitPoint := by
  have hpt := s.advance_atPoint 232000 .afterCommit
  rw [State.commitPoint, if_neg (by simp [hr, hp])]
  dsimp only
  split
  · exact hpt.of_eq (State.commitHints_clk _) (State.commitHints_time _)
  · exact hpt.timed _

/-- Roadbooks that no framer accepted (R33, R41). -/
def State.lateBooks (s : State) : Nat := s.pon.subs.countWhere (fun _ x => x.built.isSome && !x.accepted)

/-- The state in which PLAN_OVERRUN has been raised at the delivery deadline. -/
def State.lateRaised (s : State) : State :=
  ((s.advance 242000 .afterDelivery).add32 (mstA 0x28) s.lateBooks).raiseOverrun (decide (s.lateBooks ≠ 0))

theorem State.lateRaised_clk (s : State) : s.lateRaised.clk = (s.advance 242000 .afterDelivery).clk :=
  (State.raiseOverrun_clk ..).trans (State.add32_clk ..)

theorem State.lateRaised_time (s : State) : s.lateRaised.time = (s.advance 242000 .afterDelivery).time :=
  (State.raiseOverrun_time ..).trans (State.add32_time ..)

/-- The delivery deadline counts the roadbooks that no framer accepted, and takes the record (R41, R63). -/
theorem State.deliveryDeadline_eq (hr : s.clk.running = true) (hp : s.clk.phase = .afterCommit) :
    s.deliveryDeadline = { s.lateRaised with
      pon := { s.lateRaised.pon with recPending := some ⟨s.clk.msc, true, s.recordTotals⟩ }
      grant := { s.lateRaised.grant with overrunN := 0 } } := by
  have hmsc : s.lateRaised.clk.msc = s.clk.msc := by
    rw [State.lateRaised_clk]
    rfl
  rw [State.deliveryDeadline, if_neg (by simp [hr, hp]), ← hmsc]
  rfl

theorem State.deliveryDeadline_atPoint (hr : s.clk.running = true) (hp : s.clk.phase = .afterCommit) :
    s.AtPoint 242000 .afterDelivery s.deliveryDeadline := by
  rw [State.deliveryDeadline_eq hr hp]
  exact (s.advance_atPoint 242000 .afterDelivery).of_eq (State.lateRaised_clk s) (State.lateRaised_time s)

theorem State.deliveryDeadline_recPending (hr : s.clk.running = true) (hp : s.clk.phase = .afterCommit) :
    s.deliveryDeadline.pon.recPending = some ⟨s.clk.msc, true, s.recordTotals⟩ := by
  rw [State.deliveryDeadline_eq hr hp]

/-- The counter of the roadbooks that no framer accepted, at the delivery deadline (R33). -/
theorem State.deliveryDeadline_reg (hr : s.clk.running = true) (hp : s.clk.phase = .afterCommit)
    (h : SMap.wf regReset s.regs = true) :
    s.deliveryDeadline.reg (mstA 0x28) = BitVec.ofNat 64 (((s.reg (mstA 0x28)).toNat + s.lateBooks) % 2 ^ 32) := by
  rw [State.deliveryDeadline_eq hr hp]
  have hcount := State.reg_add32 (s := s.advance 242000 .afterDelivery) h (mstA 0x28) s.lateBooks
  have hraise := State.raiseOverrun_keepsReg (s := (s.advance 242000 .afterDelivery).add32 (mstA 0x28) s.lateBooks)
    (State.setReg_wf h ..) (decide (s.lateBooks ≠ 0))
  exact hraise.reg.trans hcount

/-- Rows of the interval out of their order, or while the generator does not run (R40). -/
theorem State.milestone_off (h : s.clk.running = false ∨ s.clk.phase ≠ .afterDelivery) : s.milestone = s :=
  if_pos (by simpa [bne_iff_ne] using h)

theorem State.snapshot_off (h : s.clk.running = false ∨ s.clk.phase ≠ .afterMilestone) : s.snapshot = s :=
  if_pos (by simpa [bne_iff_ne] using h)

theorem State.planDeadline_off (h : s.clk.running = false ∨ s.clk.phase ≠ .afterSnapshot) : s.planDeadline = s :=
  if_pos (by simpa [bne_iff_ne] using h)

theorem State.commitPoint_off (h : s.clk.running = false ∨ s.clk.phase ≠ .afterDeadline) : s.commitPoint = s :=
  if_pos (by simpa [bne_iff_ne] using h)

theorem State.deliveryDeadline_off (h : s.clk.running = false ∨ s.clk.phase ≠ .afterCommit) : s.deliveryDeadline = s :=
  if_pos (by simpa [bne_iff_ne] using h)

/-- The milestone ends the interval whatever else it does (R37, R40). -/
theorem State.milestone_clk (hr : s.clk.running = true) (hp : s.clk.phase = .afterDelivery) :
    s.milestone.clk = s.sampleInterval.advanceMilestone.clk ∧
    s.milestone.time.dev = s.sampleInterval.advanceMilestone.time.dev := by
  rw [State.milestone, if_neg (by simp [hr, hp])]
  exact ⟨rfl, rfl⟩

end

/-- Settles O16: each row by its own equation; what else happens at a phase point is put back to the point by
`State.timed`, or leaves the clock. -/
theorem intervalPhasePoints : Obligations.IntervalPhasePoints := by
  unfold Obligations.IntervalPhasePoints
  refine ⟨fun s hr => ⟨?milestone, ?snapshot, ?deadline, ?commit, ?delivery⟩, ?order⟩
  case milestone =>
    intro hp
    obtain ⟨hclk, hdev⟩ := State.milestone_clk hr hp
    refine ⟨_, rfl, ?_, ?_, ?_, ?_, ?_⟩
    · exact congrArg Clk.msc hclk
    · exact congrArg Clk.cycle hclk
    · exact congrArg Clk.phase hclk
    · exact (congrArg Clk.running hclk).trans hr
    · exact hdev.trans (Nat.mul_assoc (s.clk.msc + 1) 250000 32768).symm
  case snapshot =>
    intro hp
    have h := State.snapshot_atPoint hr hp
    exact ⟨_, rfl, h.clk, h.dev⟩
  case deadline =>
    intro hp
    have h := State.planDeadline_atPoint hr hp
    exact ⟨_, rfl, h.clk, h.dev⟩
  case commit =>
    intro hp
    have h := State.commitPoint_atPoint hr hp
    exact ⟨_, rfl, h.clk, h.dev⟩
  case delivery =>
    intro hp hw hregs
    have h := State.deliveryDeadline_atPoint hr hp
    exact ⟨_, rfl, ⟨h.clk, h.dev⟩, State.deliveryDeadline_reg hr hp hregs, ⟨s.clk.msc, true, s.recordTotals⟩,
      State.deliveryDeadline_recPending hr hp, rfl, State.get_recordTotals hw⟩
  case order =>
    intro s i p hi h
    simp only [List.mem_cons, Prod.mk.injEq, List.not_mem_nil, or_false] at hi
    rcases hi with ⟨rfl, rfl⟩ | ⟨rfl, rfl⟩ | ⟨rfl, rfl⟩ | ⟨rfl, rfl⟩ | ⟨rfl, rfl⟩
    · exact congrArg (kept s) (State.milestone_off h)
    · exact congrArg (kept s) (State.snapshot_off h)
    · exact congrArg (kept s) (State.planDeadline_off h)
    · exact congrArg (kept s) (State.commitPoint_off h)
    · exact congrArg (kept s) (State.deliveryDeadline_off h)

end Sys2Proof.Machine

namespace Sys2Proof.Machine

/-! The counterexample to O21: a serving device whose map of sub-channels lists sub-channel 0 twice. The first entry is a
DISABLED sub-channel on a lost engine unit; binding the spare unit 0 to it makes it the entry that reset gives, so the
write takes it out of the map, and the DRAINING entry behind it is read from then on. -/

/-- ENABLE of sub-channel 0, with no milestone named. -/
def enableSub0 : Desc :=
  { ring := 0, acc := 9, opcode := 0x0101, flags := 0, domain := 0, seq := 0, keyClass := 0, keyIndex := 0, bufLen := 0,
    effect := 0, cookie := 0, buf := 0, p0 := 0, p1 := 0, p2 := 0, p3 := 0, p4 := 0, p5 := 0, inp := [], inpBad := false }

/-- The device serving at stage 6 with a management core and a running generator, its engine unit 0 spare and 1 lost, and
sub-channel 0 listed twice. -/
def twiceListed : State :=
  let s := ((State.reset.setReg 0xF0000 6).setReg (mgtA 0) 0x10).setHealth (chClass 0) 0 { st := .spare } |>.setHealth
    (chClass 0) 1 { st := .lost }
  { s with
    clk := { running := true, msc := 1000, cycle := 5000, phase := .afterSnapshot, hubc := 240005000 }
    pon := { s.pon with subs := [(0, { Sub.dflt 0 with engine := 1 }), (0, { Sub.dflt 0 with road := .draining })] } }

theorem twiceListed_not_wf : SMap.wf Sub.dflt twiceListed.pon.subs = false := by decide +kernel

theorem twiceListed_starts : Starts infoEnable enableSub0 twiceListed :=
  starts_fresh (by decide +kernel) (by decide +kernel) (by decide +kernel) (by decide +kernel) (by decide +kernel)
    (by decide +kernel)

/-- How many deferred changes an answer leaves. -/
def deferredCount : Answer → Nat
  | .next t => t.deferred.length
  | _ => 0

/-- The command takes the DRAINING entry for the sub-channel, and defers nothing. -/
theorem deferredCount_enable : deferredCount (exec (.enable enableSub0) twiceListed) = 0 := by decide +kernel

/-- Refutes O21: on `twiceListed` every condition of the first clause holds, which asks for no canonical map of
sub-channels, but ENABLE of the DISABLED sub-channel resumes the entry behind it and defers no change. -/
theorem not_subchannelCommands : ¬ Obligations.SubchannelCommands := by
  unfold Obligations.SubchannelCommands
  rintro ⟨henable, -⟩
  have h := henable enableSub0 twiceListed twiceListed_starts 1002 (by decide +kernel) (by decide +kernel)
    (by decide +kernel) (by decide +kernel) (by decide +kernel) (by decide +kernel) (by decide +kernel) (by decide +kernel)
    (by decide +kernel)
  have hcount := congrArg deferredCount h
  rw [deferredCount_enable] at hcount
  exact absurd hcount (by decide +kernel)

end Sys2Proof.Machine

namespace Sys2Proof.Machine

/-! SUPPORT. Commands of family 0x02 that set, read and send: what their bodies answer, case by case (R85, R103, R109,
R114, R115, R122, R123, R245). -/

section
variable {c : Desc} {z : State}

/-- The terminal that a command names passes the checks of R258: an object of the command's domain, on a tree that no
pair protects with, and not under test. -/
structure State.PassesTerm (z : State) (c : Desc) : Prop where
  object : (z.term c.psc c.pt).act ≠ .free
  dom : (z.term c.psc c.pt).dom = c.dom
  tree : z.isProtect (c.psc / 2) = false
  test : z.underTest c.psc c.pt = false

/-- The checks passed, the command's own effect follows. -/
theorem State.PassesTerm.onTerm (h : z.PassesTerm c) (f : Term → State → Res × State) :
    z.onTerm c f = f (z.term c.psc c.pt) z := by
  simp [State.onTerm, h.object, h.dom, h.tree, h.test]

/-- A terminal with a VALID, unfaulted record that is young enough and not being demoted leaves LONG at E. -/
theorem bodySetBurstProfile_deferred {e : Nat} (h : z.PassesTerm c) (hn : c.n1 ≠ 0)
    (hvalid : (z.term c.psc c.pt).pre.valid = true) (hfault : (z.term c.psc c.pt).pre.fault = false)
    (hpend : (z.term c.psc c.pt).pre.pend = false)
    (hage : z.preAge (z.term c.psc c.pt).pre ≤ z.preloadAge c.psc)
    (he : z.resolveE none c = .ok e) (hr : z.pendRoom = true) :
    bodySetBurstProfile none c z = deferred e (z.defer c e (.burstProfile c.psc c.pt c.n1)) := by
  simp [bodySetBurstProfile, h.onTerm, hn, hvalid, hfault, hpend, Nat.not_lt.2 hage, he, hr]

theorem bodySetBurstProfile_state (h : z.PassesTerm c) (hn : c.n1 ≠ 0)
    (hp : (z.term c.psc c.pt).pre.valid = false ∨ (z.term c.psc c.pt).pre.fault = true ∨
      (z.term c.psc c.pt).pre.pend = true ∨ z.preloadAge c.psc < z.preAge (z.term c.psc c.pt).pre) :
    bodySetBurstProfile none c z = bad stState z := by
  rw [bodySetBurstProfile, h.onTerm, if_pos]
  rcases hp with hp | hp | hp | hp <;> simp [hn, hp]

theorem bodySetRanging_ok (hd : c.dom = 0) (hp : z.isProtect (c.n0 / 2) = false)
    (ht : c.n1 % 2 ^ 16 ≤ (z.sub c.n0).phaseTol) :
    bodySetRanging none c z = ok (z.modSub c.n0 (fun x => { x with
      eqdThr := c.n1 % 2 ^ 16, lostLimit := if c.n1 / 2 ^ 16 = 0 then 8 else c.n1 / 2 ^ 16
      rogueAuto := decide (c.n2 = 1) })) := by
  rw [bodySetRanging, if_neg (by simp [hd]), if_neg (by simp [hp]), if_neg (Nat.not_lt.2 ht)]

theorem bodyIsolateRogue_starts (hd : c.dom = 0) (hp : z.isProtect (c.n0 / 2) = false) (hn : c.n1 = 0)
    (hr : (z.sub c.n0).rogue.running = false) :
    bodyIsolateRogue none c z = ok (z.tellTerms (z.isolate c.n0) c.n0) := by
  simp [bodyIsolateRogue, hd, hp, hn, hr]

theorem bodyIsolateRogue_running (hd : c.dom = 0) (hp : z.isProtect (c.n0 / 2) = false) (hn : c.n1 = 0)
    (hr : (z.sub c.n0).rogue.running = true) : bodyIsolateRogue none c z = bad stState z := by
  simp [bodyIsolateRogue, hd, hp, hn, hr]

theorem bodyIsolateRogue_abort (hd : c.dom = 0) (hp : z.isProtect (c.n0 / 2) = false) (hn : c.n1 = 1)
    (ht : (z.sub c.n0).rogue.test = none) :
    bodyIsolateRogue none c z = ok (z.tellTerms (z.modRogue c.n0 Rogue.endWalk) c.n0) := by
  simp [bodyIsolateRogue, hd, hp, hn, ht]

theorem bodyReadUnknown_okR (hd : c.dom = 0) :
    bodyReadUnknown none c z = okR (z.sub c.n0).disc.unknown.length 0
      ((z.outBuf c (padTo 512 ((z.sub c.n0).disc.unknown.map (leBytes 8)).flatten)).modSub c.n0 (fun x => { x with
        disc := { x.disc with unknown := [] } })) := by
  rw [bodyReadUnknown, if_neg (by simp [hd])]

theorem bodyReadTerminal_ok (h : z.PassesTerm c) :
    bodyReadTerminal none c z = ok (z.outBuf c (z.termBytes c.psc c.pt)) := h.onTerm _

theorem bodyReadSubchAct_ok (hd : c.dom = 0) :
    bodyReadSubchAct none c z = ok (z.outBuf c (leBytes 4 (z.sub c.n0).disc.unknownDropped ++
      leBytes 4 (z.sub c.n0).disc.snDup ++ leBytes 4 (z.sub c.n0).disc.omciRxDrop ++ leBytes 4 (z.sub c.n0).disc.skipped)) := by
  rw [bodyReadSubchAct, if_neg (by simp [hd])]

/-- A message for one terminal whose buffer is found: firmware's own types are refused, every other one is queued. -/
theorem bodySendPloam_one {p b : Nat} {t : State} (hn : c.n0 < 2 ^ 31) (ht : c.n0 / 2 ^ 16 % 2 ^ 15 = c.pt)
    (h : z.PassesTerm c) (hl : (z.sub c.psc).lit = true) (hb : z.takeBuf 16 48 = (some (p, b), t)) :
    bodySendPloam none c z = if plHandled (c.inp.getD 2 0) then bad stBadArg z
      else (.opened, t.queuePloam c.psc c.pt (c.inp.getD 2 0 :: c.inp.drop 4) t.nextFrame (some c.acc) (some (p, b, c.dom))) := by
  have hone : decide (2 ^ 31 ≤ c.n0) = false := decide_eq_false (Nat.not_le.2 hn)
  simp only [bodySendPloam, hone, ht, hb]
  simp [h.object, h.dom, h.tree, h.test, hl]

theorem bodySendOmci_queued {p b : Nat} {t : State} (h : z.PassesTerm c) (ha : (z.term c.psc c.pt).act = .operation)
    (hl : (z.sub c.psc).lit = true)
    (hq : ((z.sub c.psc).dsq.filter (fun m => m.kind == 1 && m.term == c.pt)).length < 16)
    (hb : z.takeBuf 16 (c.bufLen + 4) = (some (p, b), t)) :
    bodySendOmci none c z = (.opened, t.queueOmci c.psc c.pt c.inp c.acc (some (p, b, c.dom))) := by
  rw [bodySendOmci, h.onTerm, if_neg (by simp), if_neg (by simp [ha, hl]), if_neg (Nat.not_le.2 hq), hb, h.dom]

end

/-- Settles O23: each clause is the command's body in that case, which completes or stays open. -/
theorem terminalSettingCommands : Obligations.TerminalSettingCommands := by
  refine ⟨?profile, ?profileState, ?ranging, ?isolates, ?running, ?aborts, ?unknown, ?terminal, ?act, ?ploam, ?handled,
    ?omci, ?rx⟩
  case profile =>
    exact fun c s h e a ha hact hdom htree htest hn hvalid hfault hpend hage he hr =>
      congrArg (kept s) (runCmd_of_fin h (bodySetBurstProfile_deferred ⟨hact ▸ ha, hdom, htree, htest⟩ hn hvalid hfault
        hpend hage he hr))
  case profileState =>
    exact fun c s h a ha hact hdom htree htest hn hp =>
      congrArg (kept s) (runCmd_of_fin h (bodySetBurstProfile_state ⟨hact ▸ ha, hdom, htree, htest⟩ hn hp))
  case ranging =>
    exact fun c s h hd ht hp => congrArg (kept s) (runCmd_of_fin h (bodySetRanging_ok hd hp ht))
  case isolates =>
    exact fun c s h hd hp hn hr => congrArg (kept s) (runCmd_of_fin h (bodyIsolateRogue_starts hd hp hn hr))
  case running =>
    exact fun c s h hd hp hn hr => congrArg (kept s) (runCmd_of_fin h (bodyIsolateRogue_running hd hp hn hr))
  case aborts =>
    exact fun c s h hd hp hn ht => congrArg (kept s) (runCmd_of_fin h (bodyIsolateRogue_abort hd hp hn ht))
  case unknown =>
    exact fun c s h hd => congrArg (kept s) (runCmd_of_fin h (bodyReadUnknown_okR hd))
  case terminal =>
    exact fun c s h a ha hact hdom htree htest =>
      congrArg (kept s) (runCmd_of_fin h (bodyReadTerminal_ok ⟨hact ▸ ha, hdom, htree, htest⟩))
  case act =>
    exact fun c s h hd => congrArg (kept s) (runCmd_of_fin h (bodyReadSubchAct_ok hd))
  case ploam =>
    intro c s h z p b t hty hn ht hact hdom htree htest hl hb
    have hbody := bodySendPloam_one hn ht ⟨hact, hdom, htree, htest⟩ hl hb
    exact congrArg (kept s) (runCmd_of_opened h (hbody.trans (if_neg (ne_true_of_eq_false hty))))
  case handled =>
    intro c s h z p b t hty hn ht hact hdom htree htest hl hb
    have hbody := bodySendPloam_one hn ht ⟨hact, hdom, htree, htest⟩ hl hb
    exact congrArg (kept s) (runCmd_of_fin h (hbody.trans (if_pos hty)))
  case omci =>
    intro c s h z p b t hact hdom htree htest hl hq hb
    exact congrArg (kept s) (runCmd_of_opened h
      (bodySendOmci_queued ⟨ne_of_eq_of_ne hact (by decide), hdom, htree, htest⟩ hact hl hq hb))
  case rx =>
    exact fun c s h => congrArg (kept s) (runCmd_of_fin h rfl)

end Sys2Proof.Machine

namespace Sys2Proof.Machine

/-! SUPPORT. Upstream messages (R114, R116, R117) and the end of the recovery period (R118). -/

section
variable {s : State} {sc t : Nat} {msg mic : List Nat}

theorem State.upPloam_deliver (hty : upHandled (msg.getD 2 0) = false)
    (ha : (s.term sc t).act = .discovered ∨ (s.term sc t).act = .ranging ∨ (s.term sc t).act = .operation) :
    s.upPloam sc t msg = (s.deliver sc t 1 msg).2 := by
  rw [State.upPloam, if_neg (ne_true_of_eq_false hty), if_pos]
  rcases ha with ha | ha | ha <;> simp [ha]

theorem State.upOmci_pass (ha : (s.term sc t).act ≠ .free) (h : (s.term sc t).omciCheck 0 msg = mic) :
    s.upOmci sc t msg mic = match s.deliver sc t 0 msg with
      | (true, u) => u.modTerm sc t (fun y => { y with omciRx := y.omciRx + 1 })
      | (false, u) => u :=
  (if_neg (by simp [ha])).trans (if_pos (by simp [h]))

theorem State.upOmci_fail (ha : (s.term sc t).act ≠ .free) (h : (s.term sc t).omciCheck 0 msg ≠ mic) :
    s.upOmci sc t msg mic =
      (s.modTerm sc t (fun y => { y with omciMic := y.omciMic + 1 })).raiseOnce evOmciMicFail sc (stArg sc t) := by
  rw [State.upOmci, if_neg (by simp [ha]), if_neg (by simp [h])]

theorem State.recoveryEnd_reached {e : Nat} (h : (s.sub sc).disc.recovery = some e) (he : e ≤ s.clk.msc) :
    s.recoveryEnd sc = s.setSub sc { s.sub sc with disc := { (s.sub sc).disc with recovery := none } } := by
  simp [State.recoveryEnd, h, he]

end

/-! SUPPORT. Decisions from light (R398): they are taken off the STANDBY device, and no change tells nothing. -/

section
variable {s : State} {sc : Nat}

theorem State.byLight_of_not_standby (h : s.standby = false) (f : State → State) :
    s.byLight sc f = s.tellTerms (f s) sc := if_neg (by simp [h])

theorem State.tellTerms_self (s : State) (sc : Nat) : s.tellTerms s sc = s := by
  simp only [State.tellTerms, if_true]
  split
  · rfl
  · exact List.foldl_fixed' (fun k => by simp [termDiffers]) _

/-- A step that leaves the state is told to nobody. -/
theorem State.byLight_of_eq_self {f : State → State} (h : f s = s) : s.byLight sc f = s := by
  rw [State.byLight, h, State.tellTerms_self, ite_self]

end

/-! SUPPORT. Rogue light and the end of an observation (R121, R122). -/

section
variable {s : State} {sc : Nat}

theorem State.sub_modRogue (h : SMap.wf Sub.dflt s.pon.subs = true) (f : Rogue → Rogue) :
    (s.modRogue sc f).sub sc = { s.sub sc with rogue := f (s.sub sc).rogue } := State.sub_modSub h _

theorem State.modRogue_subs_wf (h : SMap.wf Sub.dflt s.pon.subs = true) (f : Rogue → Rogue) :
    SMap.wf Sub.dflt (s.modRogue sc f).pon.subs = true := State.modSub_subs_wf h ..

/-- The latest slot is read from the roadbooks, the rate and the length of the road. -/
theorem State.lastSlot_modRogue (h : SMap.wf Sub.dflt s.pon.subs = true) (f : Rogue → Rogue) (a : Nat) :
    (s.modRogue sc f).lastSlot sc a = s.lastSlot sc a := by
  simp only [State.lastSlot, State.arrives, State.len, State.sub_modRogue h]
  rfl

/-- The first light beyond 100 ns of an interval that is not the fourth of eight gives a point, and no more. -/
theorem State.rogueLight_counts (hwf : SMap.wf Sub.dflt s.pon.subs = true) {a b t : Nat} {delim : Bool}
    (hwas : (s.sub sc).rogue.light ≤ (1600 * (frameUnits (s.sub sc) * guBits sc : Nat) : Int))
    (hnow : (1600 * (frameUnits (s.sub sc) * guBits sc : Nat) : Int) < (s.sub sc).rogue.light + s.rogueLen sc a b delim)
    (ht : s.lastSlot sc a = some t) (hits : 1 + (((s.sub sc).rogue.hist.take 7).filter (fun b => b)).length < 4) :
    s.rogueLight sc a b delim =
      (s.modRogue sc (fun r => { r with light := (s.sub sc).rogue.light + s.rogueLen sc a b delim })).modRogue sc
        (fun r => { r with points := r.points.set 0 t (r.points.get 0 t + 1) }) := by
  simp only [State.rogueLight, State.lastSlot_modRogue hwf, ht]
  rw [if_pos ⟨hwas, hnow⟩, if_neg (fun h => absurd h.1 (Nat.not_le.2 hits))]

variable {k e : Nat}

theorem State.observeEnd_early (h : (s.sub sc).rogue.test = some (k, e)) (he : s.clk.msc < e + s.len sc + 9) :
    s.observeEnd sc = s := by
  simp [State.observeEnd, h, he]

/-- A DISABLED candidate with light before its stop and none after it is the rogue. -/
theorem State.observeEnd_isolates (h : (s.sub sc).rogue.test = some (k, e)) (he : e + s.len sc + 9 ≤ s.clk.msc)
    (hafter : (s.sub sc).rogue.seenAfter = false) (hbefore : (s.sub sc).rogue.seenBefore = true)
    (hact : (s.term sc k).act = .disabled) :
    s.observeEnd sc =
      let u := s.modTerm sc k (fun y => { y with rogueIso := true })
      ((u.setRetd sc k { u.retd sc k with rogue := true }).modRogue sc Rogue.endWalk).raise evRogueIsolated (stArg sc k) := by
  have hmod : s.modTerm sc k (fun y => { y with
      rogueIso := true, after := if y.act == .draining then .disabled else y.after
      act := if y.act == .draining then y.act else .disabled }) = s.modTerm sc k (fun y => { y with rogueIso := true }) := by
    simp [State.modTerm, hact]
  simp only [State.observeEnd, h, hafter, hbefore]
  rw [if_neg (Nat.not_lt.2 he), if_pos (by rfl), hmod]

end

/-! SUPPORT. The loss of a channel unit (R74, R75). -/

section
variable {s : State} {kind die u : Nat}

/-- A unit that serves no lane and that no detour names. -/
theorem State.chUnitLost_idle (hk : kind < 2) (hd : die < 4) (hu : u < 104)
    (hst : (s.health (chClass kind) (die * 104 + u)).st ≠ .lost) (hserves : s.chServes kind die u = none)
    (hnone : ∀ sc, (s.sub sc).chDetour = [] ∧ s.chPending sc kind ≠ some u) :
    s.chUnitLost kind die u = s.setUnitSt (chClass kind) (die * 104 + u) .lost := by
  have hsub (sc : Nat) : ((s.setUnitSt (chClass kind) (die * 104 + u) .lost).sub sc).chDetour = [] := (hnone sc).1
  have hpend (sc : Nat) : (s.setUnitSt (chClass kind) (die * 104 + u) .lost).chPending sc kind ≠ some u := (hnone sc).2
  rw [State.chUnitLost, if_neg (by omega), if_neg (by simp [hst])]
  simp only [hserves]
  rw [List.find?_eq_none.2 (by simp [Sub.names, hsub, hpend]), List.find?_eq_none.2 (by simp [hsub])]

/-- A unit that serves a sub-channel, with no detour of it planned: a free spare takes the sub-channel, or it goes out of
service. -/
theorem State.chUnitLost_serving {sc : Nat} (hk : kind < 2) (hd : die < 4) (hu : u < 104)
    (hst : (s.health (chClass kind) (die * 104 + u)).st ≠ .lost) (hserves : s.chServes kind die u = some sc) {t : State}
    (htdef : (s.setUnitSt (chClass kind) (die * 104 + u) .lost).chLossNow sc = t)
    (hdetour : (t.sub sc).chDetour.find? (fun d => d.1 == kind && d.2.1 == u) = none)
    (hpend : t.chPending sc kind = none) :
    (∀ k, t.freeChUnit kind die = some k → s.chUnitLost kind die u = t.bindCh sc kind k) ∧
      (t.freeChUnit kind die = none → s.chUnitLost kind die u = t.outOfService sc) := by
  rw [State.chUnitLost, if_neg (by omega), if_neg (by simp [hst])]
  simp only [hserves, htdef, hdetour, hpend]
  exact ⟨fun k hfree => by rw [hfree], fun hfree => by rw [hfree]⟩

end

/-- Settles O25: each clause is its row in that case. -/
theorem upstreamMessagesAndRecovery : Obligations.UpstreamMessagesAndRecovery := by
  refine ⟨?ploam, ?omci, ?recovery, ?light, ?isolated, ?early, ?idle, ?serving⟩
  case ploam =>
    intro s sc t msg hty ha hs
    exact congrArg (kept s) ((if_neg (by simp [hs])).trans (State.upPloam_deliver hty ha))
  case omci =>
    intro s sc t msg mic ha hs
    have hexec : exec (.upstreamOmci sc t msg mic) s = kept s (s.upOmci sc t msg mic) :=
      congrArg (kept s) (if_neg (by simp [hs]))
    exact ⟨fun h => hexec.trans (congrArg (kept s) (State.upOmci_pass ha h)),
      fun h => hexec.trans (congrArg (kept s) (State.upOmci_fail ha h))⟩
  case recovery =>
    exact fun s sc e h he => congrArg (kept s) (State.recoveryEnd_reached h he)
  case light =>
    intro s sc a b t delim hwf hroad hs lim hwas hnow ht hits
    have hrow := State.rogueLight_counts (delim := delim) hwf hwas hnow ht hits
    refine ⟨_, congrArg (kept s) ((if_neg (by simp [hroad])).trans (State.byLight_of_not_standby hs _)), ?_⟩
    have hpon : (s.tellTerms (s.rogueLight sc a b delim) sc).pon = (s.rogueLight sc a b delim).pon := State.tellTerms_pon ..
    refine (congrArg Sub.rogue (State.sub_of_pon hpon sc)).trans ?_
    rw [hrow, State.sub_modRogue (State.modRogue_subs_wf hwf _), State.sub_modRogue hwf]
  case isolated =>
    intro s sc k e h he hafter hbefore hact hs
    exact congrArg (kept s) ((State.byLight_of_not_standby hs _).trans
      (congrArg (s.tellTerms · sc) (State.observeEnd_isolates h he hafter hbefore hact)))
  case early =>
    exact fun s sc k e h he => congrArg (kept s) (State.byLight_of_eq_self (State.observeEnd_early h he))
  case idle =>
    exact fun s kind die u hk hd hu hst hserves hnone =>
      congrArg (kept s) (State.chUnitLost_idle hk hd hu hst hserves hnone)
  case serving =>
    intro s kind die u sc hk hd hu hst hserves t hdetour hpend
    obtain ⟨hspare, hnone⟩ := State.chUnitLost_serving hk hd hu hst hserves (t := t) rfl hdetour hpend
    exact ⟨fun k hfree => congrArg (kept s) (hspare k hfree), fun hfree => congrArg (kept s) (hnone hfree)⟩

end Sys2Proof.Machine

namespace Sys2Proof.Machine

/-! SUPPORT. Commands of family 0x02 that create, remove and shut down terminals: what their bodies answer, case by case
(R98 to R101, R123, R258). -/

section
variable {c : Desc} {z : State} {e : Nat}

/-- A terminal in a named state that is not FREE passes the checks of R258. -/
theorem State.PassesTerm.of_act {a : ActSt} (hact : (z.term c.psc c.pt).act = a) (ha : a ≠ .free)
    (hdom : (z.term c.psc c.pt).dom = c.dom) (htree : z.isProtect (c.psc / 2) = false)
    (htest : z.underTest c.psc c.pt = false) : z.PassesTerm c := ⟨ne_of_eq_of_ne hact ha, hdom, htree, htest⟩

/-- A terminal that is REGISTERED or DISABLED is an object. -/
theorem ActSt.ne_free_of_idle {a : ActSt} (h : a = .registered ∨ a = .disabled) : a ≠ .free := by
  rcases h with rfl | rfl <;> decide

theorem State.onTerm_free (h : (z.term c.psc c.pt).act = .free) (f : Term → State → Res × State) :
    z.onTerm c f = bad stNotFound z := by
  rw [State.onTerm, if_pos (by simp [h])]

theorem State.onTerm_otherDomain (h : (z.term c.psc c.pt).act ≠ .free) (hd : (z.term c.psc c.pt).dom ≠ c.dom)
    (f : Term → State → Res × State) : z.onTerm c f = bad stDomain z := by
  rw [State.onTerm, if_neg (by simp [h]), if_pos (by simp [hd])]

theorem bodyAddTerminal_ok (h : (z.term c.psc c.pt).act = .free) (htree : z.isProtect (c.psc / 2) = false)
    (htest : z.underTest c.psc c.pt = false)
    (hsn : (z.termsOf c.psc).any (fun t => (z.term c.psc t).serial == snOf c) = false) :
    bodyAddTerminal none c z = ok (z.setTerm c.psc c.pt
      { act := .registered, serial := snOf c, dom := c.dom, regId := if c.bufLen = 36 then some c.inp else none }) := by
  rw [bodyAddTerminal, if_neg (by simp [h]), if_neg (by simp [h, htree, htest]), if_neg (by simp [h, hsn])]

theorem bodyRemoveTerminal_ok (h : z.PassesTerm c)
    (ha : (z.term c.psc c.pt).act = .registered ∨ (z.term c.psc c.pt).act = .disabled)
    (hu : z.termUsed c.psc c.pt = false) : bodyRemoveTerminal none c z = ok (z.freeTerm c.psc c.pt) := by
  rw [bodyRemoveTerminal, h.onTerm, if_neg (by rcases ha with ha | ha <;> simp [ha, hu])]

theorem bodyRemoveTerminal_state (h : z.PassesTerm c) (hreg : (z.term c.psc c.pt).act ≠ .registered)
    (hdis : (z.term c.psc c.pt).act ≠ .disabled) : bodyRemoveTerminal none c z = bad stState z := by
  rw [bodyRemoveTerminal, h.onTerm, if_pos (by simp [hreg, hdis])]

theorem bodyDeactivateTerminal_deferred (h : z.PassesTerm c) (ha : (z.term c.psc c.pt).act = .operation)
    (hs : z.shutPending c.psc c.pt = false) (he : z.resolveE none c = .ok e) (hr : z.pendRoom = true) :
    bodyDeactivateTerminal none c z =
      deferred e (z.defer c e (.termDeact c.psc c.pt (decide (c.n1 = 1)) false)) := by
  rw [bodyDeactivateTerminal, h.onTerm, if_neg (by simp [ha]), if_neg (by simp [hs]), he]
  exact if_neg (by simp [hr])

theorem bodyDeactivateTerminal_ok (h : z.PassesTerm c)
    (ha : (z.term c.psc c.pt).act = .registered ∨ (z.term c.psc c.pt).act = .disabled) :
    bodyDeactivateTerminal none c z = ok z := by
  rw [bodyDeactivateTerminal, h.onTerm, if_pos (by rcases ha with ha | ha <;> simp [ha])]

theorem bodyDisableSerial_deferred (h : z.PassesTerm c) (ha : (z.term c.psc c.pt).act = .operation)
    (hs : z.shutPending c.psc c.pt = false) (he : z.resolveE none c = .ok e) (hr : z.pendRoom = true) :
    bodyDisableSerial none c z = deferred e (z.defer c e (.termDeact c.psc c.pt (decide (c.n1 = 1)) true)) := by
  rw [bodyDisableSerial, h.onTerm, if_neg (by simp [ha]), if_neg (by simp [hs]), he]
  exact if_neg (by simp [hr])

/-- A disable is lifted, also in the retained table. -/
theorem bodyEnableSerial_ok (h : z.PassesTerm c) (ha : (z.term c.psc c.pt).act = .disabled) :
    bodyEnableSerial none c z =
      let u := (z.sendDisable c.psc c.pt z.nextFrame true).setTerm c.psc c.pt
        { z.term c.psc c.pt with act := .registered, cmdDis := false, rogueIso := false }
      ok (u.setRetd c.psc c.pt { u.retd c.psc c.pt with rogue := false }) := by
  rw [bodyEnableSerial, h.onTerm, if_neg (by simp [ha])]

theorem bodyRangeTerminal_deferred (h : z.PassesTerm c) (ha : (z.term c.psc c.pt).act = .operation)
    (he : z.resolveE none c = .ok e) (hr : z.pendRoom = true) :
    bodyRangeTerminal none c z = deferred e (z.defer c e (.termRange c.psc c.pt)) := by
  rw [bodyRangeTerminal, h.onTerm, if_neg (by simp [ha]), he]
  exact if_neg (by simp [hr])

theorem bodyRangeTerminal_state (h : z.PassesTerm c) (ha : (z.term c.psc c.pt).act ≠ .operation) :
    bodyRangeTerminal none c z = bad stState z := by
  rw [bodyRangeTerminal, h.onTerm, if_pos (by simp [ha])]

end

/-- Settles O22: each clause is the command's body in that case, which completes. -/
theorem terminalObjectCommands : Obligations.TerminalObjectCommands := by
  refine ⟨?adds, ?removes, ?removeState, ?deactivates, ?deactivateIdle, ?disables, ?enables, ?ranges, ?rangeState, ?reads⟩
  case adds =>
    exact fun c s h hact htree htest hsn =>
      congrArg (kept s) (runCmd_of_fin h (bodyAddTerminal_ok hact htree htest hsn))
  case removes =>
    exact fun c s h a ha hact hdom htree htest hu =>
      congrArg (kept s) (runCmd_of_fin h (bodyRemoveTerminal_ok
        (.of_act hact (ActSt.ne_free_of_idle ha) hdom htree htest) (hact ▸ ha) hu))
  case removeState =>
    exact fun c s h a ha hreg hdis hact hdom htree htest =>
      congrArg (kept s) (runCmd_of_fin h (bodyRemoveTerminal_state
        (.of_act hact ha hdom htree htest) (hact ▸ hreg) (hact ▸ hdis)))
  case deactivates =>
    exact fun c s h e hact hdom htree htest hs he hr =>
      congrArg (kept s) (runCmd_of_fin h (bodyDeactivateTerminal_deferred
        (.of_act hact (by decide) hdom htree htest) hact hs he hr))
  case deactivateIdle =>
    exact fun c s h a ha hact hdom htree htest _ =>
      congrArg (kept s) (runCmd_of_fin h (bodyDeactivateTerminal_ok
        (.of_act hact (ActSt.ne_free_of_idle ha) hdom htree htest) (hact ▸ ha)))
  case disables =>
    exact fun c s h e hact hdom htree htest hs he hr =>
      congrArg (kept s) (runCmd_of_fin h (bodyDisableSerial_deferred
        (.of_act hact (by decide) hdom htree htest) hact hs he hr))
  case enables =>
    exact fun c s h hact hdom htree htest =>
      congrArg (kept s) (runCmd_of_fin h (bodyEnableSerial_ok (.of_act hact (by decide) hdom htree htest) hact))
  case ranges =>
    exact fun c s h e hact hdom htree htest he hr =>
      congrArg (kept s) (runCmd_of_fin h (bodyRangeTerminal_deferred
        (.of_act hact (by decide) hdom htree htest) hact he hr))
  case rangeState =>
    exact fun c s h a ha hop hact hdom htree htest =>
      congrArg (kept s) (runCmd_of_fin h (bodyRangeTerminal_state (.of_act hact ha hdom htree htest) (hact ▸ hop)))
  case reads =>
    exact fun c s h =>
      ⟨fun hact => congrArg (kept s) (runCmd_of_fin h (State.onTerm_free hact _)),
       fun hact hdom => congrArg (kept s) (runCmd_of_fin h (State.onTerm_otherDomain hact hdom _))⟩

end Sys2Proof.Machine

namespace Sys2Proof.Machine

/-! SUPPORT. Decisions from light (R398): a device that is not STANDBY takes them and tells them. -/

theorem State.byLight_of_eq {s u : State} {sc : Nat} {f : State → State} (hs : s.standby = false) (h : f s = u) :
    s.byLight sc f = s.tellTerms u sc := by rw [State.byLight_of_not_standby hs, h]

/-! SUPPORT. Discovery (R102): a serial-number response in an open quiet span, and one outside every span. -/

section
variable {s : State} {sc t : Nat} {w : Window}

/-- The response of a REGISTERED object that is heard alone inside an open quiet span. -/
theorem State.snResponse_registered {r : SnRsp}
    (hw : (s.sub sc).disc.windows.find? (fun w => w.term.isNone && decide (w.book ≤ s.clk.msc) && w.holds r.t) = some w)
    (hc : r.collided = false) (ht : (s.termsOf sc).find? (fun t => (s.term sc t).serial == r.serial) = some t)
    (ha : (s.term sc t).act = .registered) : s.snResponse sc r = s.discovered sc t (r.t - grantAt 512) := by
  simp [State.snResponse, hw, hc, ht, ha]

theorem State.snResponse_outside {r : SnRsp}
    (hw : (s.sub sc).disc.windows.find? (fun w => w.term.isNone && decide (w.book ≤ s.clk.msc) && w.holds r.t) = none) :
    s.snResponse sc r = s := by
  simp only [State.snResponse, hw]

/-! SUPPORT. Ranging (R106 to R108): the response in the open window, its processing, and a window without one. -/

section
variable {r : RegRsp}
  (hw : (s.sub sc).disc.windows.find?
    (fun w => w.term == some t && !w.closed && decide (w.book ≤ s.clk.msc) && w.holds r.t) = some w)
  (ha : (s.term sc t).act = .ranging)
include hw ha

theorem State.regResponse_ranging :
    s.regResponse sc t r = (s.closeWins sc t).modTerm sc t (fun y => { y with
      resp := some (r.t - grantAt t, r.regId, rangedPre r (w.book + r.t / 2000000)) }) := by
  simp [State.regResponse, hw, ha]

theorem State.ownRecord_ranging :
    s.ownRecord sc t r = s.modTerm sc t (fun y => { y with pre := rangedPre r (w.book + r.t / 2000000) }) := by
  simp [State.ownRecord, hw, ha]

end

section
variable {rtt : Nat} {id : List Nat} {pre : Preload}

/-- A round trip that fits the road of a terminal with no registration ID to match is taken over. -/
theorem State.rangingProcess_fits (hr : (s.term sc t).resp = some (rtt, id, pre)) (ha : (s.term sc t).act = .ranging)
    (hid : (s.term sc t).regId = none) (hfit : rtt ≤ ((s.sub sc).len - 1) * 2000000) :
    s.rangingProcess sc t =
      let u := s.setTerm sc t { s.term sc t with
        resp := none, rtt := rtt, eqd := eqdOf (s.sub sc) sc rtt, driftF := 0, operE := some (s.nextFrame + 1)
        pre := pre, prof := 0, profP := 0, misses := 0, first := false }
      (u.setRetd sc t { u.retd sc t with rtt := some rtt }).sendRangingTime sc t s.nextFrame := by
  simp only [State.rangingProcess, hr, hid]
  rw [if_neg (by simp [ha]), if_neg (Nat.not_lt.2 hfit), if_neg (by simp)]

theorem State.rangingProcess_tooLong (hr : (s.term sc t).resp = some (rtt, id, pre))
    (ha : (s.term sc t).act = .ranging) (hlong : ((s.sub sc).len - 1) * 2000000 < rtt) :
    s.rangingProcess sc t = (s.sendDeact sc t s.nextFrame).refuse sc t := by
  simp only [State.rangingProcess, hr]
  rw [if_neg (by simp [ha]), if_pos hlong]

end

section
variable (hw : (s.sub sc).disc.windows.find? (fun w => w.term == some t && !w.closed) = some w)
  (hpast : (w.start : Int) + w.len ≤ s.since w.book) (ha : (s.term sc t).act = .ranging)
include hw hpast ha

/-- The first window that passes without a response counts one error. -/
theorem State.windowClose_first (hm : (s.term sc t).misses = 0) :
    s.windowClose sc t =
      let u := s.closeWins sc t
      (u.countError 1 (scDie sc * 104 + (u.sub sc).engine)).modTerm sc t (fun y => { y with misses := 1 }) := by
  simp only [State.windowClose, hw]
  rw [if_neg (Int.not_lt.2 hpast), if_neg (by simp [ha]), if_pos hm]

/-- The second one ends the activation, where it is no re-range. -/
theorem State.windowClose_second (hm : (s.term sc t).misses ≠ 0) (hre : (s.term sc t).rerange = false) :
    s.windowClose sc t =
      let u := s.closeWins sc t
      ((u.sendDeact sc t u.nextFrame).leaveTerm sc t .registered).freeKeys sc t := by
  simp only [State.windowClose, hw]
  rw [if_neg (Int.not_lt.2 hpast), if_neg (by simp [ha]), if_neg hm, if_neg (by simp [hre])]

end

/-! SUPPORT. The period of a Ranging_Time (R111) and the loss of a terminal (R113). -/

theorem State.rtPeriodEnd_held {f : Nat} {d : Int} (hf : (s.term sc t).rtFrame = some f)
    (hend : f + s.len sc + 1 ≤ s.clk.msc) (hd : (s.term sc t).held = some d) :
    s.rtPeriodEnd sc t = (s.setTerm sc t { s.term sc t with rtFrame := none, held := none }).correct sc t d := by
  simp only [State.rtPeriodEnd, hf, hd]
  rw [if_pos (by simp [hend])]

theorem State.rtPeriodEnd_running {f : Nat} (hf : (s.term sc t).rtFrame = some f) (hm : s.clk.msc < f + s.len sc) :
    s.rtPeriodEnd sc t = s := by
  have hend : ¬f + s.len sc + 1 ≤ s.clk.msc := by omega
  simp only [State.rtPeriodEnd, hf]
  rw [if_neg (by simp [hend, hm])]

/-- A terminal in OPERATION whose run of EMPTY bursts has reached LOST_LIMIT, with no shut-down under way. -/
theorem State.terminalLost_reached (ha : (s.term sc t).act = .operation) (hroad : (s.term sc t).road = .enabled)
    (hdrain : (s.term sc t).drainE = none) (hrun : (s.sub sc).lostLimit ≤ (s.term sc t).emptyRun)
    (hnot : s.deferred.any (fun p => p.change == .termLoss sc t) = false) :
    s.terminalLost sc t =
      (((s.deferDev 2 (512 * sc + t) (.termLoss sc t)).2).modTerm sc t (fun y => { y with
        lostCount := y.lostCount + 1, after := .registered })).raise evTerminalLost (stArg sc t) := by
  rw [State.terminalLost, if_neg]
  simp [ha, hroad, hdrain, Nat.not_lt.2 hrun, hnot]

end

/-- Settles O24: each clause is its row in that case, told as a decision from light where it changes the state. -/
theorem activationMovesATerminal : Obligations.ActivationMovesATerminal := by
  refine ⟨?discovered, ?outside, ?registers, ?processes, ?firstMiss, ?secondMiss, ?held, ?running, ?lost⟩
  case discovered =>
    exact fun s sc t r w hw hc ht ha hs =>
      congrArg (kept s) (State.byLight_of_eq hs (State.snResponse_registered hw hc ht ha))
  case outside =>
    exact fun s sc r hw => congrArg (kept s) (State.byLight_of_eq_self (State.snResponse_outside hw))
  case registers =>
    intro s sc t r w hw ha
    refine ⟨fun hs => congrArg (kept s) ?_, fun hs => congrArg (kept s) ?_⟩
    · exact (if_neg (ne_true_of_eq_false hs)).trans (State.byLight_of_eq hs (State.regResponse_ranging hw ha))
    · exact (if_pos hs).trans (State.ownRecord_ranging hw ha)
  case processes =>
    intro s sc t rtt id pre hr ha hid hs
    exact ⟨fun hfit => congrArg (kept s) (State.byLight_of_eq hs (State.rangingProcess_fits hr ha hid hfit)),
      fun hlong => congrArg (kept s) (State.byLight_of_eq hs (State.rangingProcess_tooLong hr ha hlong))⟩
  case firstMiss =>
    exact fun s sc t w hw hpast ha hm hs =>
      congrArg (kept s) (State.byLight_of_eq hs (State.windowClose_first hw hpast ha hm))
  case secondMiss =>
    exact fun s sc t w hw hpast ha hm hre hs =>
      congrArg (kept s) (State.byLight_of_eq hs (State.windowClose_second hw hpast ha hm hre))
  case held =>
    exact fun s sc t f d hf hend hd hs =>
      congrArg (kept s) (State.byLight_of_eq hs (State.rtPeriodEnd_held hf hend hd))
  case running =>
    exact fun s sc t f hf hm => congrArg (kept s) (State.byLight_of_eq_self (State.rtPeriodEnd_running hf hm))
  case lost =>
    exact fun s sc t ha hroad hdrain hrun hnot hs =>
      congrArg (kept s) (State.byLight_of_eq hs (State.terminalLost_reached ha hroad hdrain hrun hnot))

end Sys2Proof.Machine

namespace Sys2Proof.Machine

/-! SUPPORT. Memory operations, WAIT and FENCE of a context that can issue (R134 to R136, R186 to R191). -/

section
variable {s : State} {st : Site} {c : Ctx}

/-- What a context that can issue is: the one at its site, and ready (R129). -/
theorem State.canIssue_some (h : s.canIssue st = some c) :
    st.core < 104 ∧ st.ctx < 4 ∧ s.ctx st = c ∧ c.run = .ready := by
  unfold State.canIssue at h
  split at h
  · cases h
  · rename_i hsite
    split at h
    · rename_i hrun
      cases h
      exact ⟨by omega, by omega, rfl, eq_of_beq hrun⟩
    · cases h

theorem Ctx.heldBy_false {w : W32} (h : c.stalled = none ∨ c.stalled = some w) : c.heldBy w = false := by
  rcases h with h | h <;> simp [Ctx.heldBy, h]

/-- An instruction whose word its context may hold goes on where its effect does. -/
theorem instr_go {w : W32} {f : Ctx → Eff} {d : Ctx} (h : IssuingWord s st c w) (hf : f c = .go d) :
    s.instr st w f = s.goesOn st d (c.pc + 1) := by
  obtain ⟨hissue, hheld, hstop⟩ := h
  have hin : ¬(s.progAt st).stop c.entry ≤ c.pc + 1 := by omega
  simp [State.instr, hissue, Ctx.heldBy_false hheld, hf, hin, State.goesOn]

/-- A context that holds no instruction may issue any word. -/
theorem Issuing.issuingWord {w : W32} (h : Issuing s st c) : IssuingWord s st c w := ⟨h.1, .inl h.2.1, h.2.2⟩

/-- Before a held instruction has issued, no other instruction of its context does (R165). -/
theorem instr_held {w v : W32} {f : Ctx → Eff} (h : s.canIssue st = some c) (hv : c.stalled = some v) (hne : v ≠ w) :
    s.instr st w f = s := by
  simp [State.instr, h, Ctx.heldBy, hv, hne]

/-- A context with a memory operation started under the next tag, which Sd then holds (R134). -/
def Ctx.startOp (c : Ctx) (k : Nat) (d : BitVec 5) (t : Tag) : Ctx :=
  ({ c with tags := c.tags ++ [t] } : Ctx).ws d (BitVec.ofNat 64 (64 * k + c.tags.length))

/-- Below its cap a memory operation starts under the next tag (R134, R135). -/
theorem State.memOp_starts {f : FmtM} {op : Nat} {mk : Ctx → Except Nat Tag} {t : Tag}
    (h : IssuingWord s st c (f.word op)) (hmk : mk c = .ok t) (hcap : s.inFlight st.core t.kind < t.kind.cap) :
    s.memOp st f op mk = s.goesOn st (c.startOp st.ctx f.d t) (c.pc + 1) :=
  instr_go h (by simp only [hmk, if_neg (Nat.not_le.2 hcap)]; rfl)

/-- At its cap the instruction is held in its context and counted (R135). -/
theorem State.memOp_stalls {f : FmtM} {op : Nat} {mk : Ctx → Except Nat Tag} {t : Tag}
    (h : Issuing s st c) (hmk : mk c = .ok t) (hcap : t.kind.cap ≤ s.inFlight st.core t.kind) :
    s.memOp st f op mk = (s.setCtx st { c with stalled := some (f.word op) }).gcrCount st.core 7 := by
  rw [State.memOp, instr_issuing _ _ h]
  simp only [hmk, if_pos hcap]

theorem Ctx.tagsFull_false (h : c.tags.length < 64) : c.tagsFull = false := decide_eq_false (Nat.not_le.2 h)

/-- The value 64k + i names local tag i of context k, where there is one (R134). -/
theorem Ctx.tagOf_some {k i : Nat} {t : Tag} {x : W64} (hx : x.toNat = 64 * k + i) (ht : c.tags[i]? = some t) :
    c.tagOf k x = some i := by
  obtain ⟨hi, -⟩ := List.getElem?_eq_some_iff.1 ht
  rw [Ctx.tagOf, if_pos (by omega), hx, Nat.add_sub_cancel_left]

theorem Ctx.tagOf_none {k : Nat} {x : W64} (hx : x.toNat < 64 * k ∨ 64 * k + c.tags.length ≤ x.toNat) :
    c.tagOf k x = none := by rw [Ctx.tagOf, if_neg (by omega)]

/-- A completed tag of a kind that is asked for is found (R184). -/
theorem Ctx.findTag_ok {k i : Nat} {t : Tag} {r : BitVec 5} {ok : MemKind → Bool} (hr : (c.rs r).toNat = 64 * k + i)
    (ht : c.tags[i]? = some t) (hk : ok t.kind = true) (hd : t.done = true) : c.findTag k r ok = .ok (i, t) := by
  simp [Ctx.findTag, Ctx.tagOf_some hr ht, ht, hk, hd]

/-- RPT and HNT of a bound row in range (R188). -/
theorem State.viewRow_ok {f : FmtM} {kind : MemKind} (hfull : c.tags.length < 64)
    (hrow : (c.rs f.base).toNat + f.off.toNat < 1408)
    (hbound : s.isBound (s.groupAt st) ((c.rs f.base).toNat + f.off.toNat) = true) :
    s.viewRow st f kind c = .ok ⟨kind, c.rp f.pr.toNat, (c.rs f.base).toNat + f.off.toNat, [], false, []⟩ := by
  have hin : ¬1407 < (c.rs f.base).toNat + f.off.toNat := by omega
  simp [State.viewRow, Ctx.tagsFull_false hfull, hin, hbound]

/-- A field below 16 names a V register (R164). -/
theorem vbad_false {r : BitVec 5} (h : r.toNat < 16) : vbad r = false := by
  rw [vbad, BitVec.getLsbD, Nat.testBit_lt_two_pow h]

/-- A context that is put under WAIT on a tag is ready again where the tag has completed (R190). -/
theorem Ctx.unblock_waitTag {i : Nat} {t : Tag} (hrun : c.run = .ready) (ht : c.tags[i]? = some t) :
    ({ c with run := .waitTag i } : Ctx).unblock = if t.done then c else { c with run := .waitTag i } := by
  simp only [Ctx.unblock, ht]
  split
  · rw [← hrun]
  · rfl

/-- A context that is put under FENCE is ready again where every tag has completed (R191). -/
theorem Ctx.unblock_fence (hrun : c.run = .ready) :
    ({ c with run := .fence } : Ctx).unblock = if c.tags.all (fun t => t.done) then c else { c with run := .fence } := by
  simp only [Ctx.unblock]
  split
  · rw [← hrun]
  · rfl

/-- An outstanding operation completes (R136). -/
theorem State.memComplete_outstanding {g k i : Nat} {t : Tag} (hg : g < 104) (hk : k < 4) (hi : i < 64)
    (ht : (s.ctx ⟨g, k⟩).tags[i]? = some t) (hd : t.done = false) :
    s.memComplete g k i = s.setCtx ⟨g, k⟩ ((s.ctx ⟨g, k⟩).setTag i
      { t with done := true, slot := s.fillSlot (s.groupAt ⟨g, k⟩) i (s.ctx ⟨g, k⟩) t }).unblock := by
  have hsite : ¬(104 ≤ g ∨ 4 ≤ k) := by omega
  simp [State.memComplete, hsite, Nat.not_le.2 hi, ht, hd]

end

/-- An instruction that goes on answers the state after it. -/
theorem kept_of_goesOn {s t : State} {st : Site} {c : Ctx} {pc : Nat} (h : t = s.goesOn st c pc) :
    kept s t = .next (s.goesOn st c pc) := h ▸ kept_goesOn s st c pc

/-- Settles O9: each instruction is its effect on a context that can issue, and the completion is its own equation. -/
theorem memoryOperationsWaitAndFence : Obligations.MemoryOperationsWaitAndFence := by
  refine ⟨⟨fun s st f c hfull => ?starts, ?stalls, ?held⟩, fun s st f c h hd hb hpr hfn => ?waits, ?completes⟩
  case starts =>
    have hroom := Ctx.tagsFull_false hfull
    refine ⟨fun h hcap hbase hoff => ?cld, fun i t h hcap hoff hr ht hk hd => ?cst, fun h hcap hrow hbound => ?rpt,
      fun h hcap hrow hbound => ?hnt, fun h hcap hbase hidx => ?tbl⟩
    case cld => exact kept_of_goesOn (State.memOp_starts h (by simp [hbase, hoff, hroom]) hcap)
    case cst =>
      have hfind := Ctx.findTag_ok (ok := fun k => k == .cld) hr ht (by simp [hk]) hd
      exact kept_of_goesOn (State.memOp_starts h (by simp [hoff, hfind, hroom]) hcap)
    case rpt => exact kept_of_goesOn (State.memOp_starts h (State.viewRow_ok hfull hrow hbound) hcap)
    case hnt => exact kept_of_goesOn (State.memOp_starts h (State.viewRow_ok hfull hrow hbound) hcap)
    case tbl =>
      have hin : (List.range 8).any (fun k => maskBit (c.rp f.pr.toNat) k && decide (65535 <
          ((List.range 8).map (fun k => (c.rv f.base.toNat k).toNat + f.off.toNat)).getD k 0)) = false := by
        refine List.any_eq_false.2 (fun k hk => ?_)
        have hk8 : k < 8 := List.mem_range.1 hk
        have hlane := hidx k hk8
        simp only [maskBit, List.getD_eq_getElem?_getD, List.getElem?_map, List.getElem?_range hk8, Option.map_some,
          Option.getD_some, Bool.and_eq_true, decide_eq_true_eq, not_and]
        exact fun hm => by have := hlane hm; omega
      exact kept_of_goesOn (State.memOp_starts h (by simp only [vbad_false hbase, hroom, hin]; rfl) hcap)
  case stalls =>
    intro s st f c h hfull hcap hbase hoff
    exact congrArg (kept s) (State.memOp_stalls (t := ⟨.cld, c.rp f.pr.toNat, c.batch, [], false, []⟩) h
      (by simp [hbase, hoff, Ctx.tagsFull_false hfull]) hcap)
  case held =>
    intro s st f c w h hw hne
    exact congrArg (kept s) (instr_held h hw hne)
  case waits =>
    obtain ⟨-, -, -, hrun⟩ := State.canIssue_some h.1
    refine ⟨fun hx => ?noTag, fun i t hx ht => ?tag, fun ha => ?fence⟩
    case noTag =>
      exact kept_of_goesOn (instr_go h.issuingWord (by simp [hd, hb, hpr, hfn, Ctx.tagOf_none hx]))
    case tag =>
      exact kept_of_goesOn (instr_go h.issuingWord
        (by simp [hd, hb, hpr, hfn, Ctx.tagOf_some hx ht, Ctx.unblock_waitTag hrun ht]))
    case fence =>
      exact kept_of_goesOn (instr_go h.issuingWord (by simp [hd, ha, hb, hpr, hfn, Ctx.unblock_fence hrun]))
  case completes =>
    intro s g k i t hg hk hi ht hd
    exact congrArg (kept s) (State.memComplete_outstanding hg hk hi ht hd)

end Sys2Proof.Machine

namespace Sys2Proof.Machine

/-! The counterexample to O12: an upset in an INSTALL entry of a core whose planning group is listed twice. The first
entry is the group that reset gives, so counting the cycles that the run has used writes it out of the map, and the group
behind it, with program slot 1 active, is read from then on. The model starts the entry again from the group as it was
before the count, the statement from the one after it. On canonical maps the two agree. -/

/-- An INSTALL entry that runs on core 0, whose planning group 0 is listed twice. -/
def groupListedTwice : State :=
  { State.reset with grant := { State.reset.grant with
      ctxs := [(0, { run := .ready, entry := .install })]
      groups := [(0, {}), (0, { active := 1 })] } }

theorem groupListedTwice_not_wf : SMap.wf (fun _ => ({} : Group)) groupListedTwice.grant.groups = false := by decide +kernel

/-- The program slot of context 0 of core 0 that an answer leaves. -/
def slotLeft : Answer → Nat
  | .next t => (t.ctx ⟨0, 0⟩).slot
  | _ => 0

/-- The entry is run once more in slot 0, by the group that the upset found. -/
theorem slotLeft_coreUpset : slotLeft (exec (.coreUpset ⟨0, 0⟩) groupListedTwice) = 0 := by decide +kernel

/-- Refutes O12: on `groupListedTwice` every condition of the clause on an entry that still fits holds, which asks for no
canonical map of planning groups, but the entry runs again in slot 0 where the clause says slot 1. -/
theorem not_haltAndIllegalEndTheBatch : ¬ Obligations.HaltAndIllegalEndTheBatch := by
  unfold Obligations.HaltAndIllegalEndTheBatch
  rintro ⟨⟨-, hupset, -⟩, -⟩
  obtain ⟨-, -, hagain, -⟩ := hupset groupListedTwice ⟨0, 0⟩ (by decide) (by decide) (by decide +kernel)
  have hslot := congrArg slotLeft (hagain (by decide +kernel) (by decide +kernel))
  rw [slotLeft_coreUpset] at hslot
  exact absurd hslot (by decide +kernel)

end Sys2Proof.Machine

namespace Sys2Proof.Machine

/-! SUPPORT. Commands of family 0x03: what their bodies answer, case by case (R126, R132, R140, R141, R203, R221, R222,
R246). -/

section
variable {c : Desc} {z : State} {e : Nat}

/-- INSTALL_UNIT of a unit that is not installed takes a free lane, books its entry, and completes with its place. -/
theorem bodyInstallUnit_deferred {b k : Nat} (hterm : (z.term (c.n2 % 2 ^ 16) (c.n2 / 2 ^ 16)).act ≠ .free)
    (hdom : (z.term (c.n2 % 2 ^ 16) (c.n2 / 2 ^ 16)).dom = c.dom) (hinst : (z.unit c.n0).inst = false)
    (halloc : z.grant.units.any (fun e => e.2.inst && e.1 != c.n0 && e.2.sc == c.n2 % 2 ^ 16 && e.2.alloc == c.n1) = false)
    (htree : z.isProtect (c.n2 % 2 ^ 16 / 2) = false) (htest : z.underTest (c.n2 % 2 ^ 16) (c.n2 / 2 ^ 16) = false)
    (he : z.resolveEntry none c (groupOf (c.n2 % 2 ^ 16 / 2)) .install 0 = .ok e) (hroom : z.pendRoom = true)
    (hquota : c.dom = 0 ∨ z.unitsOf c.dom < (z.domE c.dom).quota.units)
    (hplace : z.placeUnit (groupOf (c.n2 % 2 ^ 16 / 2)) = .ok (b, k)) :
    bodyInstallUnit none c z =
      let u := ((z.setUnit c.n0 { inst := true, alloc := c.n1, sc := c.n2 % 2 ^ 16, term := c.n2 / 2 ^ 16, dom := c.dom
                                  installE := some e, group := groupOf (c.n2 % 2 ^ 16 / 2), batch := b, lane := k
                                  params := wordsOf c.inp 12 }).bindLane c.n0 (groupOf (c.n2 % 2 ^ 16 / 2)) b k).defer c e
        (.unitInstall c.n0)
      (.fin { status := stDeferred, r0 := u.unitResult c.n0, msc := some e }, u) := by
  have hfull : (c.dom != 0 && decide ((z.domE c.dom).quota.units ≤ z.unitsOf c.dom)) = false := by
    rcases hquota with h | h
    · simp [h]
    · simp [Nat.not_le.2 h]
  simp [-Nat.reducePow, bodyInstallUnit, State.placeAt, hterm, hdom, hinst, halloc, htree, htest, he, hroom, hfull, hplace]

theorem bodyInstallUnit_exists (hterm : (z.term (c.n2 % 2 ^ 16) (c.n2 / 2 ^ 16)).act ≠ .free)
    (hdom : (z.term (c.n2 % 2 ^ 16) (c.n2 / 2 ^ 16)).dom = c.dom) (hinst : (z.unit c.n0).inst = true)
    (hudom : (z.unit c.n0).dom = c.dom) (hroad : (z.unit c.n0).road = .enabled) :
    bodyInstallUnit none c z = bad stExists z := by
  simp [-Nat.reducePow, bodyInstallUnit, hterm, hdom, hinst, hudom, hroad]

/-- RETIRE_UNIT of a unit in service is set to take effect at E, and its entry is still to be run. -/
theorem bodyRetireUnit_deferred (hinst : (z.unit c.n0).inst = true) (hdom : (z.unit c.n0).dom = c.dom)
    (hretire : (z.unit c.n0).retireE = none) (hroad : (z.unit c.n0).road = .enabled)
    (htree : z.isProtect ((z.unit c.n0).sc / 2) = false)
    (he : z.resolveEntry none c (z.unit c.n0).group .retire ((z.unit c.n0).installE.getD 0) = .ok e)
    (hroom : z.pendRoom = true) (hinstall : (z.unit c.n0).installE = none) :
    bodyRetireUnit none c z = deferred e ((z.setUnit c.n0 { z.unit c.n0 with
      retireE := some e, discard := decide (c.n1 = 1), entryRun := false }).defer c e (.unitRetire c.n0 (decide (c.n1 = 1)))) := by
  rw [hinstall, Option.getD_none] at he
  simp [bodyRetireUnit, hinst, hdom, hretire, hroad, htree, hinstall, he, hroom]

theorem bodyRetireUnit_notFound (hinst : (z.unit c.n0).inst = false) : bodyRetireUnit none c z = bad stNotFound z := by
  simp [bodyRetireUnit, hinst]

theorem bodyRetireUnit_retired (hinst : (z.unit c.n0).inst = true) (hdom : (z.unit c.n0).dom = c.dom)
    (hroad : (z.unit c.n0).road = .draining) : bodyRetireUnit none c z = bad stRetired z := by
  simp [bodyRetireUnit, hinst, hdom, hroad]

/-- MODIFY_UNIT of a unit that neither comes nor goes is set to take effect at E. -/
theorem bodyModifyUnit_deferred (hinst : (z.unit c.n0).inst = true) (hdom : (z.unit c.n0).dom = c.dom)
    (htree : z.isProtect ((z.unit c.n0).sc / 2) = false) (he : z.resolveE none c = .ok e)
    (hinstall : (z.unit c.n0).installE = none) (hretire : (z.unit c.n0).retireE = none)
    (hdrain : (z.unit c.n0).drainE = none) (hroom : z.pendRoom = true) :
    bodyModifyUnit none c z = deferred e (z.defer c e (.unitModify c.n0 c.n1 (wordsOf c.inp 12))) := by
  simp [bodyModifyUnit, hinst, hdom, htree, he, hinstall, hretire, hdrain, hroom, reached]

/-- Outside an ACTIVE role a posting away from the planning phase is written at once (R141). -/
theorem State.takeHint_written {u d p t : Nat} (hrole : z.mgmt.pair.role ≠ .active)
    (hphase : z.clk.cycle < 4000 ∨ 232000 ≤ z.clk.cycle) : z.takeHint u d p t = (true, z.writeHint u d p t) := by
  have hnow : (decide (4000 ≤ z.clk.cycle) && decide (z.clk.cycle < 232000)) = false := by
    rw [← Bool.decide_and]
    exact decide_eq_false (by omega)
  simp [State.takeHint, hrole, hnow]

/-- Between the snapshot and the commit point a posting is queued (R141). -/
theorem State.takeHint_queued {u d p t : Nat} (hrole : z.mgmt.pair.role ≠ .active) (hsnap : 4000 ≤ z.clk.cycle)
    (hcommit : z.clk.cycle < 232000) (hroom : z.grant.hintQ.length < 65536) :
    z.takeHint u d p t =
      (true, { z with grant := { z.grant with hintQ := z.grant.hintQ ++ [⟨u, (z.unit u).group, d, p, t⟩] } }) := by
  simp [State.takeHint, hrole, hsnap, hcommit, Nat.not_le.2 hroom]

theorem bodyPostHint_badArg (hinst : (z.unit c.n0).inst = true) (hdom : (z.unit c.n0).dom = c.dom)
    (hfar : z.clk.msc + 4096 < pair64 c.p2 c.p3) :
    bodyPostHint none c z = bad stBadArg (z.groupCount (z.unit c.n0).group 5) := by
  simp [bodyPostHint, hinst, hdom, hfar]

theorem bodyPostHint_horizon (hinst : (z.unit c.n0).inst = true) (hdom : (z.unit c.n0).dom = c.dom)
    (hnear : pair64 c.p2 c.p3 ≤ z.clk.msc + 4096) (hlate : pair64 c.p2 c.p3 < z.earliestAck) :
    bodyPostHint none c z = bad stHorizon (z.add32 (mstA 0x2C) 1) := by
  simp [bodyPostHint, hinst, hdom, Nat.not_lt.2 hnear, hlate]

/-- A posting in range for a unit of the domain is answered by whether it was taken. -/
theorem bodyPostHint_taken {t : State} (hinst : (z.unit c.n0).inst = true) (hdom : (z.unit c.n0).dom = c.dom)
    (hnear : pair64 c.p2 c.p3 ≤ z.clk.msc + 4096) (hdue : z.earliestAck ≤ pair64 c.p2 c.p3)
    (htake : z.takeHint c.n0 (c.n1 % 2 ^ 23) (c.n1 / 2 ^ 23) (pair64 c.p2 c.p3) = (true, t)) :
    bodyPostHint none c z = ok t := by
  simp [-Nat.reducePow, bodyPostHint, hinst, hdom, Nat.not_lt.2 hnear, Nat.not_lt.2 hdue, htake]

theorem bodySetHintVlan_added (hdom : c.dom = 0) (hadd : c.n1 / 2 ^ 8 = 0)
    (hroom : (z.grant.hintVlans.filter (fun e => !(e.1 == c.n0 % 2 ^ 16 && e.2.1 == c.n0 / 2 ^ 16))).length < 64) :
    bodySetHintVlan none c z = ok { z with grant := { z.grant with
      hintVlans := z.grant.hintVlans.filter (fun e => !(e.1 == c.n0 % 2 ^ 16 && e.2.1 == c.n0 / 2 ^ 16)) ++
        [(c.n0 % 2 ^ 16, c.n0 / 2 ^ 16, c.n1 % 64)] } } := by
  rw [bodySetHintVlan, if_neg (by simp [hdom]), if_neg (by rw [hadd]; decide), if_neg (Nat.not_le.2 hroom)]

theorem bodyReadUnitLedger_ok (hinst : (z.unit c.n0).inst = true) (hdom : (z.unit c.n0).dom = c.dom) :
    bodyReadUnitLedger none c z = ok (z.outBuf c (z.grant.rows.get {} c.n0).bytes) := by
  simp [bodyReadUnitLedger, hinst, hdom]

theorem bodyReadUnitLedger_notFound (hinst : (z.unit c.n0).inst = false) :
    bodyReadUnitLedger none c z = bad stNotFound z := by
  simp [bodyReadUnitLedger, hinst]

end

/-- Settles O26: each clause is the command's body in that case, which completes. -/
theorem allocationUnitCommands : Obligations.AllocationUnitCommands := by
  refine ⟨?installs, ?exists', ?retires, ?notFound, ?retired, ?modifies, ?badArg, ?horizon, ?writes, ?queues, ?vlan,
    ?ledger, ?noLedger⟩
  case installs =>
    rintro c s h z e b k u hterm hdom hinst halloc htree htest he hroom hquota hplace rfl
    exact congrArg (kept s) (runCmd_of_fin h (bodyInstallUnit_deferred hterm hdom hinst halloc htree htest he hroom
      hquota hplace))
  case exists' =>
    exact fun c s h hterm hdom hinst hudom hroad =>
      congrArg (kept s) (runCmd_of_fin h (bodyInstallUnit_exists hterm hdom hinst hudom hroad))
  case retires =>
    exact fun c s h e hinst hdom hretire hroad htree he hroom hinstall =>
      congrArg (kept s) (runCmd_of_fin h (bodyRetireUnit_deferred hinst hdom hretire hroad htree he hroom hinstall))
  case notFound =>
    exact fun c s h hinst => congrArg (kept s) (runCmd_of_fin h (bodyRetireUnit_notFound hinst))
  case retired =>
    exact fun c s h hinst hdom hroad => congrArg (kept s) (runCmd_of_fin h (bodyRetireUnit_retired hinst hdom hroad))
  case modifies =>
    exact fun c s h e hinst hdom htree he hinstall hretire hdrain hroom =>
      congrArg (kept s) (runCmd_of_fin h (bodyModifyUnit_deferred hinst hdom htree he hinstall hretire hdrain hroom))
  case badArg =>
    exact fun c s h hinst hdom hfar => congrArg (kept s) (runCmd_of_fin h (bodyPostHint_badArg hinst hdom hfar))
  case horizon =>
    exact fun c s h hinst hdom hnear hlate =>
      congrArg (kept s) (runCmd_of_fin h (bodyPostHint_horizon hinst hdom hnear hlate))
  case writes =>
    exact fun c s h hinst hdom hnear hdue hrole hphase => congrArg (kept s) (runCmd_of_fin h
      (bodyPostHint_taken hinst hdom hnear hdue (State.takeHint_written hrole hphase)))
  case queues =>
    exact fun c s h hinst hdom hnear hdue hrole hsnap hcommit hroom => congrArg (kept s) (runCmd_of_fin h
      (bodyPostHint_taken hinst hdom hnear hdue (State.takeHint_queued hrole hsnap hcommit hroom)))
  case vlan =>
    exact fun c s h hdom hadd hroom => congrArg (kept s) (runCmd_of_fin h (bodySetHintVlan_added hdom hadd hroom))
  case ledger =>
    exact fun c s h hinst hdom => congrArg (kept s) (runCmd_of_fin h (bodyReadUnitLedger_ok hinst hdom))
  case noLedger =>
    exact fun c s h hinst => congrArg (kept s) (runCmd_of_fin h (bodyReadUnitLedger_notFound hinst))

end Sys2Proof.Machine

namespace Sys2Proof.Machine

/-! SUPPORT. What an instruction of a context that can issue answers, by its fields (R158, R162, R164, R196). -/

section
variable {s : State} {st : Site} {c : Ctx}

/-- An effect that completes answers the state after it. -/
theorem Issuing.answers_go {w : W32} {f : Ctx → Eff} {d : Ctx} (h : Issuing s st c) (hf : f c = .go d) :
    kept s (s.instr st w f) = .next (s.goesOn st d (c.pc + 1)) :=
  kept_of_goesOn (instr_go h.issuingWord hf)

/-- Where `ok` is what legal fields are, an instruction with such fields goes on and any other is ILLEGAL. -/
theorem Issuing.answers_legal {w : W32} {ill : Ctx → Bool} {g : Ctx → Ctx} {ok : Prop} (h : Issuing s st c)
    (hok : ill c = false ↔ ok) :
    (ok → kept s (s.instr st w (fun c => legal (ill c) (g c))) = .next (s.goesOn st (g c) (c.pc + 1))) ∧
    (¬ok → kept s (s.instr st w (fun c => legal (ill c) (g c))) = kept s (s.progExc st w 1)) := by
  rw [instr_legal w ill g h]
  refine ⟨fun hlegal => ?_, fun hill => ?_⟩
  · rw [hok.2 hlegal]
    exact kept_goesOn ..
  · rw [Bool.eq_true_of_not_eq_false (mt hok.1 hill)]
    rfl

end

/-- In front of the other clauses, the two clauses of one instruction: its legal form, and every other form. -/
theorem two_clauses {legalForm otherForm rest : Prop} (h : legalForm ∧ otherForm) (r : rest) :
    legalForm ∧ otherForm ∧ rest := ⟨h.1, h.2, r⟩

/-- Below 32, bit 4 says whether the value is 16 or more. -/
theorem getLsbD_four {w : Nat} {x : BitVec w} (h : x.toNat < 32) : x.getLsbD 4 = decide (16 ≤ x.toNat) := by
  rw [BitVec.getLsbD, Nat.testBit_eq_decide_div_mod_eq]
  exact decide_eq_decide.2 (by omega)

/-- A 5-bit field names a V register where it is below 16 (R164). -/
theorem vbad_eq_false {r : BitVec 5} : vbad r = false ↔ r.toNat < 16 := by
  rw [vbad, getLsbD_four r.isLt, decide_eq_false_iff_not, Nat.not_le]

/-- A 5-bit field names a P register, or a lane, where it is below 8 (R164). -/
theorem pbad_eq_false {r : BitVec 5} : pbad r = false ↔ r.toNat < 8 := by
  rw [pbad, decide_eq_false_iff_not, Nat.not_le]

/-- The second source of a vector instruction is a V register, or with SCALAR any S register (R173). -/
theorem ybad_eq_false {f : FmtO} (h : f.fn.toNat < 32) : f.ybad = false ↔ (f.fn.toNat < 16 → f.b.toNat < 16) := by
  rw [FmtO.ybad, getLsbD_four h, getLsbD_four f.b.isLt]
  simp only [Bool.and_eq_false_iff, Bool.not_eq_false', decide_eq_true_eq, decide_eq_false_iff_not]
  omega

/-! Minimum and maximum, by the values (R168, R176). -/

theorem minu_toNat {w : Nat} (x y : BitVec w) : (if x.ult y then x else y) = if x.toNat < y.toNat then x else y := by
  simp only [BitVec.ult, decide_eq_true_eq]

theorem maxu_toNat {w : Nat} (x y : BitVec w) : (if x.ult y then y else x) = if x.toNat < y.toNat then y else x := by
  simp only [BitVec.ult, decide_eq_true_eq]

theorem mins_toInt {w : Nat} (x y : BitVec w) : (if x.slt y then x else y) = if x.toInt < y.toInt then x else y := by
  simp only [BitVec.slt, decide_eq_true_eq]

theorem maxs_toInt {w : Nat} (x y : BitVec w) : (if x.slt y then y else x) = if x.toInt < y.toInt then y else x := by
  simp only [BitVec.slt, decide_eq_true_eq]

/-! SUPPORT. Scalar operate instructions (R168). -/

/-- A scalar operate instruction with its own fn and pr zero writes its result, any other form is ILLEGAL (R168). -/
theorem Issuing.answers_scalarOp {s : State} {st : Site} {c : Ctx} {f : FmtO} {op : W64 → W64 → W64} {r : W64}
    (h : Issuing s st c) (fn : BitVec 8) (hr : op (c.rs f.a) (c.rs f.b) = r) :
    (f.pr = 0 → f.fn = fn →
      kept s (s.scalarOp st f fn.toNat op) = .next (s.goesOn st (c.ws f.d r) (c.pc + 1))) ∧
    (f.pr ≠ 0 ∨ f.fn ≠ fn → kept s (s.scalarOp st f fn.toNat op) = kept s (s.progExc st (f.word 0x00) 1)) := by
  subst hr
  rw [← and_imp, ← not_and_or]
  exact h.answers_legal (by simp [BitVec.toNat_inj, and_comm])

/-- Settles O1: each row is one scalar operate instruction with its own fn. -/
theorem scalarOperateResults : Obligations.ScalarOperateResults := by
  intro s st f c h a b ill after
  exact
    two_clauses (h.answers_scalarOp 0 rfl) <| two_clauses (h.answers_scalarOp 1 rfl) <|
    two_clauses (h.answers_scalarOp 2 rfl) <| two_clauses (h.answers_scalarOp 3 rfl) <|
    two_clauses (h.answers_scalarOp 4 rfl) <| two_clauses (h.answers_scalarOp 5 rfl) <|
    two_clauses (h.answers_scalarOp 6 rfl) <| two_clauses (h.answers_scalarOp 7 rfl) <|
    two_clauses (h.answers_scalarOp 8 rfl) <| two_clauses (h.answers_scalarOp 9 rfl) <|
    two_clauses (h.answers_scalarOp 10 rfl) <| two_clauses (h.answers_scalarOp 12 (minu_toNat a b)) <|
    two_clauses (h.answers_scalarOp 13 (maxu_toNat a b)) <| two_clauses (h.answers_scalarOp 14 (mins_toInt a b)) <|
    h.answers_scalarOp 15 (maxs_toInt a b)

end Sys2Proof.Machine

namespace Sys2Proof.Machine

/-! SUPPORT. The conditions of the compares, and the scalar compares (R169, R170). -/

section
variable {w : Nat} {x y : BitVec w}

theorem Cond.holds_eq : Cond.eq.holds x y = true ↔ x = y := beq_iff_eq
theorem Cond.holds_ne : Cond.ne.holds x y = true ↔ x ≠ y := bne_iff_ne
theorem Cond.holds_ltu : Cond.ltu.holds x y = true ↔ x.toNat < y.toNat := decide_eq_true_iff
theorem Cond.holds_leu : Cond.leu.holds x y = true ↔ x.toNat ≤ y.toNat := decide_eq_true_iff
theorem Cond.holds_lts : Cond.lts.holds x y = true ↔ x.toInt < y.toInt := decide_eq_true_iff
theorem Cond.holds_les : Cond.les.holds x y = true ↔ x.toInt ≤ y.toInt := decide_eq_true_iff

end

/-- The code of a condition is a value of fn (R169). -/
theorem Cond.toNat_code (k : Cond) : (BitVec.ofNat 8 k.code).toNat = k.code := by
  cases k <;> rfl

section
variable {s : State} {st : Site} {c : Ctx} {f : FmtO}

/-- A scalar compare with its own fn, pr zero and d naming a P register sets all of Pd or none, any other form is
ILLEGAL (R169). -/
theorem Issuing.answers_scalarCmp {p : Prop} [Decidable p] (h : Issuing s st c) (k : Cond)
    (hp : k.holds (c.rs f.a) (c.rs f.b) = true ↔ p) :
    (f.pr = 0 → f.d.toNat < 8 → f.fn = BitVec.ofNat 8 k.code → kept s (s.scalarCmp st f k) =
      .next (s.goesOn st (c.wp f.d.toNat (if p then 0xFF#8 else 0x00#8)) (c.pc + 1))) ∧
    (f.pr ≠ 0 ∨ 8 ≤ f.d.toNat ∨ f.fn ≠ BitVec.ofNat 8 k.code →
      kept s (s.scalarCmp st f k) = kept s (s.progExc st (f.word 0x01) 1)) := by
  have hset : allOrNone (k.holds (c.rs f.a) (c.rs f.b)) = if p then 0xFF#8 else 0x00#8 := if_congr hp rfl rfl
  have hfn : f.fn = BitVec.ofNat 8 k.code ↔ f.fn.toNat = k.code := by rw [← BitVec.toNat_inj, k.toNat_code]
  rw [← hset, ← and_imp, ← and_imp, ← Nat.not_lt, Ne, Ne, hfn, ← not_and_or, ← not_and_or, ← and_assoc]
  refine h.answers_legal ?_
  simp only [Bool.or_eq_false_iff, bne_eq_false_iff_eq, pbad_eq_false]
  tauto

/-- SPC reads one of the nine special values, any other form is ILLEGAL (R170). -/
theorem Issuing.answers_spc (h : Issuing s st c) :
    (f.pr = 0 → f.a = 0 → f.b = 0 → f.fn.toNat < 9 →
      execSpc st f s = .next (s.goesOn st (c.ws f.d (special c st.ctx f.fn.toNat)) (c.pc + 1))) ∧
    (f.pr ≠ 0 ∨ f.a ≠ 0 ∨ f.b ≠ 0 ∨ 9 ≤ f.fn.toNat → execSpc st f s = kept s (s.progExc st (f.word 0x02) 1)) := by
  simp only [← and_imp, ← Nat.not_lt, Ne, ← not_and_or]
  refine h.answers_legal ?_
  simp only [Bool.or_eq_false_iff, bne_eq_false_iff_eq, decide_eq_false_iff_not, Nat.not_le]
  tauto

end

/-- Settles O2: each compare sets Pd by what its condition says, and SPC is its own equation. -/
theorem scalarComparePredicate : Obligations.ScalarComparePredicate :=
  ⟨fun _ _ _ _ h =>
    two_clauses (h.answers_scalarCmp .eq Cond.holds_eq) <| two_clauses (h.answers_scalarCmp .ne Cond.holds_ne) <|
    two_clauses (h.answers_scalarCmp .ltu Cond.holds_ltu) <| two_clauses (h.answers_scalarCmp .leu Cond.holds_leu) <|
    two_clauses (h.answers_scalarCmp .lts Cond.holds_lts) <| h.answers_scalarCmp .les Cond.holds_les,
   fun _ _ _ _ h => h.answers_spc⟩

end Sys2Proof.Machine

namespace Sys2Proof.Machine

/-! SUPPORT. Scalar and vector immediates (R171, R172, R180). -/

section
variable {s : State} {st : Site} {c : Ctx} {f : FmtI} {op : Nat} {ill : Bool}

theorem Issuing.answers_scalarImm {g : W64 → W64} {r : W64} (h : Issuing s st c) (hill : ill = false)
    (hr : g (c.rs f.a) = r) :
    kept s (s.scalarImm st f op ill g) = .next (s.goesOn st (c.ws f.d r) (c.pc + 1)) :=
  h.answers_go (by rw [hill, hr]; rfl)

/-- KLD of an index within the constant store (R172). -/
theorem Issuing.answers_kld (h : Issuing s st c) (hin : (c.rs f.a + f.imm.setWidth 64).toNat < 2048) :
    execKld st f s = .next (s.goesOn st
      (c.ws f.d ((s.progAt st).const.get 0 (c.rs f.a + f.imm.setWidth 64).toNat)) (c.pc + 1)) :=
  h.answers_go (if_neg (Nat.not_le.2 hin))

/-- A vector immediate whose fields name V registers writes every lane (R180). -/
theorem Issuing.answers_vectorImm {g : W32 → W32} {r : Nat → W32} (h : Issuing s st c) (hd : f.d.toNat < 16)
    (ha : f.a.toNat < 16) (hill : ill = false) (hr : ∀ k, g (c.rv f.a.toNat k) = r k) :
    kept s (s.vectorImm st f op ill g) = .next (s.goesOn st (c.merge f.d.toNat 0xFF#8 r) (c.pc + 1)) :=
  h.answers_go (by simp only [hill, hr, vbad_false hd, vbad_false ha]; rfl)

/-- A shift by less than the full width is taken as it stands (R171, R180). -/
theorem shift_lt {i n : Nat} (h : i < n) : decide (n ≤ i) = false ∧ i % n = i :=
  ⟨decide_eq_false (Nat.not_le.2 h), Nat.mod_eq_of_lt h⟩

end

/-- Settles O3: each row is one immediate, whose shift or index is in range. -/
theorem immediateResults : Obligations.ImmediateResults := by
  refine ⟨fun s st f c h => ?scalar, fun s st f c h hd ha => ?vector⟩
  case scalar =>
    refine ⟨h.answers_scalarImm rfl rfl, h.answers_scalarImm rfl rfl, h.answers_scalarImm rfl rfl,
      h.answers_scalarImm rfl rfl, fun hlt => ?shli, fun hlt => ?shri, h.answers_scalarImm rfl rfl,
      h.answers_scalarImm rfl rfl, h.answers_scalarImm rfl rfl, h.answers_scalarImm rfl rfl, h.answers_kld⟩
    case shli => exact h.answers_scalarImm (shift_lt hlt).1 (congrArg (c.rs f.a <<< ·) (shift_lt hlt).2)
    case shri => exact h.answers_scalarImm (shift_lt hlt).1 (congrArg (c.rs f.a >>> ·) (shift_lt hlt).2)
  case vector =>
    refine ⟨h.answers_vectorImm hd ha rfl (fun _ => rfl), fun hzero => ?vli, fun hlt => ?vshli, fun hlt => ?vshri,
      h.answers_vectorImm hd ha rfl fun _ => rfl⟩
    case vli => exact h.answers_vectorImm hd ha (bne_eq_false_iff_eq.2 hzero) fun _ => rfl
    case vshli => exact h.answers_vectorImm hd ha (shift_lt hlt).1 fun k => congrArg (c.rv f.a.toNat k <<< ·) (shift_lt hlt).2
    case vshri => exact h.answers_vectorImm hd ha (shift_lt hlt).1 fun k => congrArg (c.rv f.a.toNat k >>> ·) (shift_lt hlt).2

end Sys2Proof.Machine

namespace Sys2Proof.Machine

/-! SUPPORT. Vector operate instructions and compares (R173 to R176). -/

/-- Bit k of a mask with one lane set (R158). -/
theorem getLsbD_one_shiftLeft {k : Nat} (hk : k < 8) (n : Nat) : (1#8 <<< n).getLsbD k = decide (k = n) := by
  rw [BitVec.getLsbD_shiftLeft, BitVec.getLsbD_one, decide_eq_true hk]
  simp only [Bool.true_and, Nat.zero_lt_succ, decide_true, ← decide_not, ← Bool.decide_and]
  exact decide_eq_decide.2 (by omega)

/-- Bit k of a mask that is given lane by lane. -/
theorem getLsbD_mask8 (p : Nat → Bool) {k : Nat} (hk : k < 8) : (mask8 p).getLsbD k = p k := by
  have hlanes : ∀ n, ((List.range n).foldl (fun m i => if p i then m ||| (1#8 <<< i) else m) 0#8).getLsbD k =
      (decide (k < n) && p k) := by
    intro n
    induction n with
    | zero => exact BitVec.getLsbD_zero
    | succ n ih =>
      rw [List.range_succ, List.foldl_append, List.foldl_cons, List.foldl_nil, apply_ite (BitVec.getLsbD · k),
        BitVec.getLsbD_or, getLsbD_one_shiftLeft hk, ih]
      grind
  rw [mask8, hlanes 8, decide_eq_true hk, Bool.true_and]

/-- The fields of a vector instruction with two sources are legal but for its selector (R164, R173). -/
def VectorOk (f : FmtO) : Prop :=
  f.d.toNat < 16 ∧ f.a.toNat < 16 ∧ (f.fn.toNat < 16 → f.b.toNat < 16) ∧ f.fn.toNat < 32

/-- Lane k of the second source of a vector instruction (R173). -/
def Ctx.source (c : Ctx) (f : FmtO) (k : Nat) : W32 :=
  if 16 ≤ f.fn.toNat then (c.rs f.b).setWidth 32 else c.rv f.b.toNat k

theorem Ctx.yop_eq_source (c : Ctx) {f : FmtO} (h : f.fn.toNat < 32) : c.yop f = c.source f := by
  funext k
  simp only [Ctx.yop, Ctx.source, getLsbD_four h, decide_eq_true_eq]

section
variable {s : State} {st : Site} {c : Ctx} {f : FmtO}

/-- A merging vector instruction with legal fields and its own selector writes the lanes in P[pr], any other form is
ILLEGAL (R173, R175, R176). -/
theorem Issuing.answers_vectorMerge {op : Nat} {g : W32 → W32 → W32} {r : Nat → W32} (h : Issuing s st c) (n : Nat)
    (hr : ∀ k, g (c.rv f.a.toNat k) (c.source f k) = r k) :
    (VectorOk f → f.fn.toNat % 16 = n → kept s (s.vectorMerge st f op n g) =
      .next (s.goesOn st (c.merge f.d.toNat (c.rp f.pr.toNat) r) (c.pc + 1))) ∧
    (¬VectorOk f ∨ f.fn.toNat % 16 ≠ n → kept s (s.vectorMerge st f op n g) = kept s (s.progExc st (f.word op) 1)) := by
  have hok : (f.fn.toNat % 16 != n || decide (32 ≤ f.fn.toNat) || vbad f.d || vbad f.a || f.ybad) = false ↔
      VectorOk f ∧ f.fn.toNat % 16 = n := by
    simp only [Bool.or_eq_false_iff, bne_eq_false_iff_eq, decide_eq_false_iff_not, Nat.not_le, vbad_eq_false]
    refine ⟨fun ⟨⟨⟨⟨hn, hfn⟩, hd⟩, ha⟩, hb⟩ => ⟨⟨hd, ha, (ybad_eq_false hfn).1 hb, hfn⟩, hn⟩,
      fun ⟨⟨hd, ha, hb, hfn⟩, hn⟩ => ⟨⟨⟨⟨hn, hfn⟩, hd⟩, ha⟩, (ybad_eq_false hfn).2 hb⟩⟩
  obtain ⟨hlegal, hill⟩ := h.answers_legal (w := f.word op) (ill := fun _ => _)
    (g := fun c => c.merge f.d.toNat (c.rp f.pr.toNat) fun k => g (c.rv f.a.toNat k) (c.yop f k)) hok
  refine ⟨fun hf hn => ?_, fun hnot => hill (not_and_or.2 hnot)⟩
  rw [c.yop_eq_source hf.2.2.2, funext hr] at hlegal
  exact hlegal ⟨hf, hn⟩

/-- A vector operate instruction is the merging one of opcode 0x10 (R173). -/
theorem Issuing.answers_vectorOp {g : W32 → W32 → W32} {r : Nat → W32} (h : Issuing s st c) (hok : VectorOk f) (n : Nat)
    (hr : ∀ k, g (c.rv f.a.toNat k) (c.source f k) = r k) (hn : f.fn.toNat % 16 = n) :
    kept s (s.vectorOp st f n g) = .next (s.goesOn st (c.merge f.d.toNat (c.rp f.pr.toNat) r) (c.pc + 1)) :=
  (h.answers_vectorMerge (op := 0x10) n hr).1 hok hn

/-- A vector compare with legal fields sets the bits of the lanes in P[pr] in which its condition holds (R174). -/
theorem Issuing.answers_vectorCmp {p : Nat → Prop} (h : Issuing s st c) (k : Cond) (hd : f.d.toNat < 8)
    (ha : f.a.toNat < 16) (hb : f.fn.toNat < 16 → f.b.toNat < 16) (hfn : f.fn.toNat < 32)
    (hp : ∀ i, k.holds (c.rv f.a.toNat i) (c.source f i) = true ↔ p i) (hn : f.fn.toNat % 16 = k.code) :
    ∃ m : BitVec 8, kept s (s.vectorCmp st f k) = .next (s.goesOn st (c.wp f.d.toNat m) (c.pc + 1)) ∧
      ∀ i < 8, m.getLsbD i = true ↔ (c.rp f.pr.toNat).getLsbD i = true ∧ p i := by
  have hlegal : (f.fn.toNat % 16 != k.code || decide (32 ≤ f.fn.toNat) || pbad f.d || vbad f.a || f.ybad) = false := by
    rw [bne_eq_false_iff_eq.2 hn, decide_eq_false (Nat.not_le.2 hfn), pbad_eq_false.2 hd, vbad_false ha,
      (ybad_eq_false hfn).2 hb]
    rfl
  refine ⟨_, h.answers_go (congrArg (legal · _) hlegal), fun i hi => ?_⟩
  rw [getLsbD_mask8 _ hi, c.yop_eq_source hfn, Bool.and_eq_true, hp i, maskBit]

/-- VMOV with legal fields (R173). -/
theorem Issuing.answers_vmov (h : Issuing s st c) (hfn : f.fn = 11) (hb : f.b = 0) (hd : f.d.toNat < 16)
    (ha : f.a.toNat < 16) :
    execVmov st f s =
      .next (s.goesOn st (c.merge f.d.toNat (c.rp f.pr.toNat) (fun k => c.rv f.a.toNat k)) (c.pc + 1)) :=
  h.answers_go (by simp only [hfn, hb, vbad_false hd, vbad_false ha]; rfl)

end

/-- Settles O4: a vector operate instruction merges under opcode 0x10, and a compare sets Pd lane by lane. -/
theorem vectorOperateAndCompareResults : Obligations.VectorOperateAndCompareResults := by
  refine ⟨⟨fun s st f c h hd ha hb hfn => ?operate, fun s st f c h => h.answers_vmov⟩,
    fun s st f c h hpos hd ha hb hfn => ?compare⟩
  case operate =>
    have hok : VectorOk f := ⟨hd, ha, hb, hfn⟩
    exact ⟨h.answers_vectorOp hok 0 fun _ => rfl, h.answers_vectorOp hok 1 fun _ => rfl, h.answers_vectorOp hok 2 fun _ => rfl,
      h.answers_vectorOp hok 3 fun _ => rfl, h.answers_vectorOp hok 4 fun _ => rfl, h.answers_vectorOp hok 5 fun _ => rfl,
      h.answers_vectorOp hok 6 fun _ => rfl, h.answers_vectorOp hok 7 fun _ => rfl, h.answers_vectorOp hok 8 fun _ => rfl,
      h.answers_vectorOp hok 9 fun _ => rfl, h.answers_vectorOp hok 10 fun _ => rfl⟩
  case compare =>
    exact ⟨h.answers_vectorCmp .eq hd ha hb hfn fun _ => Cond.holds_eq,
      h.answers_vectorCmp .ne hd ha hb hfn fun _ => Cond.holds_ne,
      h.answers_vectorCmp .ltu hd ha hb hfn fun _ => Cond.holds_ltu,
      h.answers_vectorCmp .leu hd ha hb hfn fun _ => Cond.holds_leu,
      h.answers_vectorCmp .lts hd ha hb hfn fun _ => Cond.holds_lts,
      h.answers_vectorCmp .les hd ha hb hfn fun _ => Cond.holds_les⟩

/-- Holding within the signed 32-bit range, as a maximum of a minimum (R175). -/
theorem sat32_eq (x : Int) : sat32 x = max (-2147483648) (min 2147483647 x) := by
  unfold sat32
  split
  · omega
  · split <;> omega

/-- Settles O5: each row is one merging vector instruction with its own selector. -/
theorem vectorSaturateAndMinMax : Obligations.VectorSaturateAndMinMax := by
  intro s st f c h ok ill y after
  exact
    two_clauses (h.answers_vectorMerge 0 fun _ => rfl) <| two_clauses (h.answers_vectorMerge 1 fun _ => rfl) <|
    two_clauses (h.answers_vectorMerge 2 fun _ => congrArg (BitVec.ofInt 32) (sat32_eq _)) <|
    two_clauses (h.answers_vectorMerge 3 fun _ => congrArg (BitVec.ofInt 32) (sat32_eq _)) <|
    two_clauses (h.answers_vectorMerge 0 fun _ => minu_toNat _ _) <|
    two_clauses (h.answers_vectorMerge 1 fun _ => mins_toInt _ _) <|
    two_clauses (h.answers_vectorMerge 0 fun _ => maxu_toNat _ _) <|
    h.answers_vectorMerge 1 fun _ => maxs_toInt _ _

end Sys2Proof.Machine

namespace Sys2Proof.Machine

/-! SUPPORT. Instructions that move lanes (R177, R178). -/

/-- Settles O6: each row is ILLEGAL just where one of its fields is not legal. -/
theorem vectorSelectAndMove : Obligations.VectorSelectAndMove := by
  intro s st f c h after ill
  refine two_clauses (h.answers_legal ?vsel) <| two_clauses (h.answers_legal ?vbcast) <|
    two_clauses (h.answers_legal ?vext) <| two_clauses (h.answers_legal ?vins) (h.answers_legal ?viota)
  all_goals simp only [Bool.or_eq_false_iff, bne_eq_false_iff_eq, vbad_eq_false, pbad_eq_false, and_assoc]

end Sys2Proof.Machine

namespace Sys2Proof.Machine

/-! SUPPORT. Writes to a map lane by lane, and staging slots (R183 to R185). -/

/-- Lanes 0 to n - 1 write, each under its own key: a lane with a value sets it, and a lane without one writes nothing. -/
def SMap.setLanes {α : Type} [DecidableEq α] (m : SMap α) (d : α) (key : Nat → Nat) (val : Nat → Option α) (n : Nat) :
    SMap α :=
  (List.range n).foldl (fun x k => match val k with
    | none => x
    | some v => x.set d (key k) v) m

/-- Key `j`, which no lane but `i` writes, holds the value of lane `i` after it, and is kept without one. -/
theorem SMap.get_setLanes {α : Type} [DecidableEq α] {m : SMap α} {d : α} {key : Nat → Nat} {val : Nat → Option α}
    {i j : Nat} (hkey : ∀ k, key k = j → k = i) (hm : SMap.wf (fun _ => d) m = true) (n : Nat) :
    SMap.wf (fun _ => d) (m.setLanes d key val n) = true ∧ (m.setLanes d key val n).get d j =
      if i < n ∧ key i = j then (val i).getD (m.get d j) else m.get d j := by
  induction n with
  | zero => exact ⟨hm, rfl⟩
  | succ n ih =>
    obtain ⟨ihwf, ihget⟩ := ih
    rw [SMap.setLanes, List.range_succ, List.foldl_append, List.foldl_cons, List.foldl_nil, ← SMap.setLanes]
    have hbefore : ¬(n < n ∧ key n = j) := fun hn => Nat.lt_irrefl n hn.1
    cases hval : val n with
    | none =>
      refine ⟨ihwf, ihget.trans ?_⟩
      by_cases hn : n = i
      · subst hn
        rw [if_neg hbefore, hval, Option.getD_none, ite_self]
      · exact if_congr (by omega) rfl rfl
    | some v =>
      refine ⟨SMap.wf_set ihwf _ v, ?_⟩
      rw [SMap.get_set ihwf, ihget]
      by_cases hn : n = i
      · subst hn
        rw [if_neg hbefore, hval, Option.getD_some]
        exact if_congr (by omega) rfl rfl
      · rw [if_neg fun hj => hn (hkey n hj.symm)]
        exact if_congr (by omega) rfl rfl

/-- A slot in which word `w` of the lanes in `m` has been written (R185). -/
def wordWritten (m : BitVec 8) (w : Nat) (v : Nat → W32) (slot : SMap W32) : SMap W32 :=
  slot.setLanes 0#32 (fun k => 16 * k + w) (fun k => if maskBit m k then some (v k) else none) 8

theorem get_wordWritten {m : BitVec 8} {w : Nat} {v : Nat → W32} {slot : SMap W32} (hw : w < 16)
    (hslot : SMap.wf (fun _ => 0#32) slot = true) (j : Nat) :
    (wordWritten m w v slot).get 0 j =
      if j % 16 = w ∧ j / 16 < 8 ∧ m.getLsbD (j / 16) = true then v (j / 16) else slot.get 0 j := by
  have hget := (SMap.get_setLanes (key := fun k => 16 * k + w) (i := j / 16) (j := j)
    (val := fun k => if maskBit m k then some (v k) else none) (fun k hk => by omega) hslot 8).2
  have hkey : 16 * (j / 16) + w = j ↔ j % 16 = w := by omega
  refine hget.trans ?_
  rw [maskBit]
  cases m.getLsbD (j / 16) with
  | true => exact if_congr (by rw [hkey, and_comm, and_iff_left rfl]) rfl rfl
  | false => rw [if_neg (c := j % 16 = w ∧ _) (fun hj => Bool.false_ne_true hj.2.2)]; exact ite_self _

/-- A slot written lane by lane as SST does. -/
theorem foldl_eq_wordWritten (m : BitVec 8) (w : Nat) (v : Nat → W32) (slot : SMap W32) :
    (List.range 8).foldl (fun x k => if maskBit m k then x.set 0#32 (16 * k + w) (v k) else x) slot =
      wordWritten m w v slot := by
  rw [wordWritten, SMap.setLanes]
  congr
  funext x k
  cases maskBit m k <;> rfl

section
variable {s : State} {st : Site} {c : Ctx} {f : FmtO} {i : Nat} {t : Tag}

/-- SLD of a word of a completed tag copies that word of the lanes in P[pr] to Vd (R184). -/
theorem Issuing.answers_sld (h : Issuing s st c) (hr : (c.rs f.a).toNat = 64 * st.ctx + i) (ht : c.tags[i]? = some t)
    (hk : t.kind ≠ .cst) (hdone : t.done = true) (hb : f.b = 0) (hd : f.d.toNat < 16) (hw : f.fn.toNat < t.kind.words) :
    execSld st f s = .next (s.goesOn st (c.slotToV f.d.toNat (c.rp f.pr.toNat) t f.fn.toNat) (c.pc + 1)) := by
  have hfind := Ctx.findTag_ok (ok := fun k => k != .cst) hr ht (bne_iff_ne.2 hk) hdone
  exact h.answers_go (by simp [hb, vbad_false hd, hfind, Nat.not_le.2 hw])

/-- SST on a completed CLD tag writes one word of the lanes in P[pr] in its slot (R185). -/
theorem Issuing.answers_sst (h : Issuing s st c) (hr : (c.rs f.a).toNat = 64 * st.ctx + i) (ht : c.tags[i]? = some t)
    (hk : t.kind = .cld) (hdone : t.done = true) (hd : f.d = 0) (hb : f.b.toNat < 16) (hw : f.fn.toNat < 16) :
    execSst st f s = .next (s.goesOn st (c.setTag i
      { t with slot := wordWritten (c.rp f.pr.toNat) f.fn.toNat (c.rv f.b.toNat) t.slot }) (c.pc + 1)) := by
  have hfind := Ctx.findTag_ok (ok := fun k => k == .cld) hr ht (beq_iff_eq.2 hk) hdone
  exact h.answers_go (by simp [hd, vbad_false hb, hfind, Nat.not_le.2 hw, foldl_eq_wordWritten])

end

/-- Settles O8: SLD and SST find the completed tag, and SST writes the slot lane by lane. -/
theorem stagingReadsAndWrites : Obligations.StagingReadsAndWrites := by
  refine ⟨fun _ _ _ _ h _ _ => h.answers_sld,
    fun s st f c h i t hr ht hk hdone hd hb hw hslot => ?_⟩
  exact ⟨_, h.answers_sst hr ht hk hdone hd hb hw, get_wordWritten hw hslot⟩

end Sys2Proof.Machine

namespace Sys2Proof.Machine

/-! SUPPORT. Pending grants (R143, R192). -/

/-- The pending grants after GEMIT with mask `m`, by the unit of each lane and what is emitted for a unit and lane. -/
def grantsPlaced (unit : Nat → Option Nat) (m : BitVec 8) (g : Nat → Nat → Option Grant) (pend : SMap (Option Grant)) :
    SMap (Option Grant) :=
  pend.setLanes none id (fun k => (unit k).bind fun u => if maskBit m k then some (g u k) else none) 8

theorem get_grantsPlaced {unit : Nat → Option Nat} {m : BitVec 8} {g : Nat → Nat → Option Grant}
    {pend : SMap (Option Grant)} (hpend : SMap.wf (fun _ => (none : Option Grant)) pend = true) {k : Nat} (hk : k < 8) :
    (grantsPlaced unit m g pend).get none k =
      match unit k with
      | none => pend.get none k
      | some u => if m.getLsbD k = true then g u k else pend.get none k := by
  rw [grantsPlaced, (SMap.get_setLanes (key := id) (fun _ hl => hl) hpend 8).2, if_pos ⟨hk, rfl⟩]
  cases unit k with
  | none => rfl
  | some u => exact apply_ite (fun x => Option.getD x (pend.get none k)) ..

/-- Grants placed lane by lane as GEMIT does. -/
theorem foldl_eq_grantsPlaced (unit : Nat → Option Nat) (m : BitVec 8) (g : Nat → Nat → Option Grant)
    (pend : SMap (Option Grant)) :
    (List.range 8).foldl (fun x k =>
      match unit k with
      | none => x
      | some u => if maskBit m k then x.set none k (g u k) else x) pend = grantsPlaced unit m g pend := by
  rw [grantsPlaced, SMap.setLanes]
  congr
  funext x k
  cases unit k with
  | none => rfl
  | some u => cases maskBit m k <;> rfl

/-- GEMIT in a plan batch (R192). -/
theorem Issuing.answers_gemit {s : State} {st : Site} {c : Ctx} {f : FmtO} (h : Issuing s st c) (hd : f.d = 0)
    (hfn : f.fn = 0) (ha : f.a.toNat < 16) (hb : f.b.toNat < 16) (hplan : c.entry = .plan) :
    execGemit st f s = .next (s.goesOn st { c with
      pend := grantsPlaced (s.laneUnit (s.groupAt st) c.batch) (c.rp f.pr.toNat)
        (fun u k => emitted (frameUnits (s.sub (s.unit u).sc)) (c.rv f.a.toNat k) (c.rv f.b.toNat k)) c.pend }
      (c.pc + 1)) :=
  h.answers_go (by
    simp only [hd, hfn, vbad_false ha, vbad_false hb, hplan, ← foldl_eq_grantsPlaced]
    rfl)

/-- Settles O10: GEMIT places its grants lane by lane, and reads the units before it writes any. -/
theorem grantEmission : Obligations.GrantEmission := by
  intro s st f c h hd hfn ha hb hplan hpend
  refine ⟨_, h.answers_gemit hd hfn ha hb hplan, fun k hk => (get_grantsPlaced hpend hk).trans ?_⟩
  cases s.laneUnit (s.groupAt st) c.batch k <;> rfl

end Sys2Proof.Machine

namespace Sys2Proof.Machine

/-! SUPPORT. Branches and loops (R193, R194). -/

section
variable {s : State} {st : Site} {c : Ctx} {f : FmtB}

/-- In a context that holds no instruction, going on at `pc` only moves the program counter. -/
theorem State.setCtx_pc_eq_goesOn {d : Ctx} (hfree : d.stalled = none) (pc : Nat) :
    (s.issuedOne st).setCtx st { d with pc := pc } = s.goesOn st d pc := by
  rw [State.goesOn, ← hfree]

/-- A jump inside the entry answers the state at its target (R193). -/
theorem Issuing.answers_jump {w : W32} {e : Ctx → Eff} {pc : Nat} (h : Issuing s st c) (he : e c = .jump pc)
    (hin : pc < (s.progAt st).stop c.entry) :
    kept s (s.instr st w e) = .next ((s.issuedOne st).setCtx st { c with pc := pc }) := by
  rw [instr_issuing w e h, he]
  simp only [if_neg (Nat.not_le.2 hin), State.setCtx_pc_eq_goesOn h.2.1]
  exact kept_goesOn ..

/-- A back edge answers the state at the first instruction of its loop (R194). -/
theorem Issuing.answers_back {w : W32} {e : Ctx → Eff} {d : Ctx} {pc : Nat} (h : Issuing s st c) (he : e c = .back d pc)
    (hfree : d.stalled = none) :
    kept s (s.instr st w e) = .next ((s.issuedOne st).setCtx st { d with pc := pc }) := by
  rw [instr_issuing w e h, he]
  simp only [State.setCtx_pc_eq_goesOn hfree]
  exact kept_goesOn ..

/-- An offset or a count of at least 1 is a legal field (R193, R194). -/
theorem beq_zero_of_pos {n : BitVec 19} (h : 1 ≤ n.toNat) : (n == 0) = false :=
  beq_eq_false_iff_ne.2 fun hz => by simp [hz] at h

/-- A branch with legal fields is taken just where its condition holds (R193). -/
theorem Issuing.answers_branch {k : Nat} {p : Prop} (h : Issuing s st c) (hn : 1 ≤ f.n.toNat) (hmax : f.n.toNat < 16384)
    (hin : c.pc + f.n.toNat < (s.progAt st).stop c.entry) (hcond : f.cond.toNat = k) (hpr : k = 0 → f.pr = 0)
    (hp : branchTaken k (c.rp f.pr.toNat) = true ↔ p) :
    (p → kept s (s.branch st f k) = .next ((s.issuedOne st).setCtx st { c with pc := c.pc + f.n.toNat })) ∧
    (¬p → kept s (s.branch st f k) = .next (s.goesOn st c (c.pc + 1))) := by
  have hlegal : (f.cond.toNat != k || (k == 0 && f.pr != 0) || f.n == 0 || decide (16383 < f.n.toNat)) = false := by
    simp only [Bool.or_eq_false_iff, bne_eq_false_iff_eq, Bool.and_eq_false_imp, beq_iff_eq, beq_zero_of_pos hn,
      decide_eq_false_iff_not]
    exact ⟨⟨⟨hcond, hpr⟩, trivial⟩, by omega⟩
  rw [← hp]
  exact ⟨fun ht => h.answers_jump (by simp only [hlegal, ht]; rfl) hin,
    fun ht => h.answers_go (by simp only [hlegal, ht]; rfl)⟩

/-- LOOP with legal fields and fewer than four open loops opens one (R194). -/
theorem Issuing.answers_loopI (h : Issuing s st c) (hcond : f.cond = 0) (hpr : f.pr = 0) (hn : 1 ≤ f.n.toNat)
    (hmax : f.n.toNat ≤ 4096) (hroom : c.loops.length < 4) :
    execLoopI st f s =
      .next (s.goesOn st { c with loops := ⟨c.pc + 1, f.n.toNat, 0⟩ :: c.loops } (c.pc + 1)) :=
  h.answers_go (by
    simp only [hcond, hpr, beq_zero_of_pos hn, decide_eq_false (Nat.not_lt.2 hmax), if_neg (Nat.not_le.2 hroom)]
    rfl)

section
variable {e : LoopEnt} {r : List LoopEnt}

/-- ENDL with iterations left takes the back edge (R194). -/
theorem Issuing.answers_endl_back (h : Issuing s st c) (hcond : f.cond = 0) (hpr : f.pr = 0) (hn : f.n = 0)
    (hloops : c.loops = e :: r) (hleft : 1 < e.left) :
    execEndl st f s = .next ((s.issuedOne st).setCtx st
      { c with loops := ⟨e.ret, e.left - 1, e.idx + 1⟩ :: r, pc := e.ret }) :=
  h.answers_back (d := { c with loops := ⟨e.ret, e.left - 1, e.idx + 1⟩ :: r })
    (by simp [hcond, hpr, hn, hloops, hleft]) h.2.1

/-- ENDL of the last iteration closes the innermost loop (R194). -/
theorem Issuing.answers_endl_close (h : Issuing s st c) (hcond : f.cond = 0) (hpr : f.pr = 0) (hn : f.n = 0)
    (hloops : c.loops = e :: r) (hleft : e.left ≤ 1) :
    execEndl st f s = .next (s.goesOn st { c with loops := r } (c.pc + 1)) :=
  h.answers_go (by simp [hcond, hpr, hn, hloops, Nat.not_lt.2 hleft])

end

end

/-- Settles O11: each branch by its own condition, and LOOP and ENDL by the loops that are open. -/
theorem branchesAndLoops : Obligations.BranchesAndLoops := by
  refine ⟨fun s st f c h hn hmax hin => ?branches, fun s st f c h hcond hpr hn hmax hroom => ?opens,
    fun s st f c h e r hcond hpr hn hloops => ?ends⟩
  case branches =>
    have hcode {k : BitVec 4} (hk : f.cond = k) : f.cond.toNat = k.toNat := congrArg BitVec.toNat hk
    refine ⟨fun hk hpr => ?always, fun hk => ?any, fun hk => ?none, fun hk => ?all, fun hk => ?nall⟩
    case always => exact h.answers_branch hn hmax hin (hcode hk) (fun _ => hpr) (iff_of_true rfl trivial)
    case any => exact h.answers_branch hn hmax hin (hcode hk) nofun bne_iff_ne
    case none => exact h.answers_branch hn hmax hin (hcode hk) nofun beq_iff_eq
    case all => exact h.answers_branch hn hmax hin (hcode hk) nofun beq_iff_eq
    case nall => exact h.answers_branch hn hmax hin (hcode hk) nofun bne_iff_ne
  case opens => exact h.answers_loopI hcond hpr hn hmax hroom
  case ends =>
    exact ⟨h.answers_endl_back hcond hpr hn hloops, h.answers_endl_close hcond hpr hn hloops⟩

end Sys2Proof.Machine

namespace Sys2Proof.Machine

/-! SUPPORT. What a command answers: a next state that keeps the queue, or, for a register access alone, the fault of an
access that no function claims (R224, R225). -/

/-- Every command but a register access answers a next state that keeps the queue: each meaning is written so. -/
theorem exec_eq_kept {i : Instr} (h : isAccess i = false) (s : State) : ∃ t, exec i s = kept s t := by
  cases i
  case registerWrite | registerRead | wrongWidthAccess => cases h
  all_goals exact ⟨_, rfl⟩

theorem safeOutcome_next (t : State) : SafeOutcome (.next t) := trivial

theorem safeOutcome_noSuchFunction : SafeOutcome (.fault .noSuchFunction) := rfl

/-- A write faults just where no function claims its address; a write to NumVFs needs none. -/
theorem State.registerWrite_safe (s : State) (x : Access) (d : W64) : SafeOutcome (s.registerWrite x d) := by
  unfold State.registerWrite
  split
  · exact safeOutcome_next _
  split
  · exact safeOutcome_noSuchFunction
  split
  · exact safeOutcome_next _
  split <;> exact safeOutcome_next _

theorem State.registerRead_safe (s : State) (x : Access) : SafeOutcome (s.registerRead x) := by
  unfold State.registerRead
  split
  · exact safeOutcome_noSuchFunction
  split
  · exact safeOutcome_next _
  split
  · exact safeOutcome_next _
  split <;> exact safeOutcome_next _

theorem execWrongWidthAccess_safe (x : Access) (wr : Bool) (s : State) : SafeOutcome (execWrongWidthAccess x wr s) := by
  unfold execWrongWidthAccess
  split
  · exact safeOutcome_noSuchFunction
  split
  · exact safeOutcome_next _
  split <;> exact safeOutcome_next _

/-- A command is a register access, of one of the three forms, or its answer keeps the queue. -/
theorem exec_safe (i : Instr) (s : State) : SafeOutcome (exec i s) := by
  by_cases h : isAccess i = false
  · obtain ⟨t, ht⟩ := exec_eq_kept h s
    exact ht ▸ safeOutcome_next _
  · cases i
    case registerWrite x d => exact s.registerWrite_safe x d
    case registerRead x => exact s.registerRead_safe x
    case wrongWidthAccess x wr => exact execWrongWidthAccess_safe x wr s
    all_goals exact absurd rfl h

/-- Settles O14: a command that is no register access answers what it keeps, and an access is safe in each of its three
forms. -/
theorem everyCommandIsCarriedOut : Obligations.EveryCommandIsCarriedOut := by
  refine fun i s => ⟨exec_safe i s, fun h => ?_⟩
  obtain ⟨t, ht⟩ := exec_eq_kept h s
  exact ⟨_, ht⟩

end Sys2Proof.Machine

namespace Sys2Proof.Machine

/-! SUPPORT. What running a host command leaves as it was where its body leaves it: all but registers, host interface and
what has been sent (R238, R258, R264). -/

section
variable {i : CmdInfo} {b : Body} {rp : Option ExecRec} {c : Desc} {s : State}

theorem State.jrnStart_rest (s : State) (c : Desc) : s.SameRest (s.jrnStart c) := by
  unfold State.jrnStart
  split <;> exact s.same_rest s.regs _ s.out

/-- The checks of R258 count a failed buffer check and change nothing else. -/
theorem CmdInfo.check_rest (i : CmdInfo) (c : Desc) (s : State) : s.SameRest (i.check c s).2 := by
  have hcount : s.SameRest (s.add64 (bpmA 0x128) 1) := s.same_rest _ s.host s.out
  unfold CmdInfo.check
  iterate 4
    split
    · exact .refl s
  split
  case h_1 => exact .refl s
  case h_2 =>
    split
    · exact hcount
    split <;> exact .refl s
  case h_3 =>
    split
    · exact .refl s
    split <;> exact .refl s
  case h_4 =>
    split
    · exact .refl s
    · exact hcount

theorem runChecked_rest (hb : ∀ t : State, t.SameRest (b rp c t).2) : s.SameRest (runChecked i b rp c s).2 := by
  have hcheck := i.check_rest c s
  unfold runChecked
  split
  · exact .refl s
  split <;> rename_i hx <;> rw [hx] at hcheck
  · exact hcheck
  · exact hcheck.trans (hb _)

theorem runCmd_rest (hb : ∀ t : State, t.SameRest (b none c t).2) : s.SameRest (runCmd i b c s) := by
  have hrun : s.SameRest (runChecked i b none c (s.jrnStart c)).2 := (s.jrnStart_rest c).trans (runChecked_rest hb)
  unfold runCmd
  iterate 3
    split
    · exact .refl s
  split <;> rename_i hx <;> rw [hx] at hrun
  · exact .refl s
  · exact hrun
  · exact hrun.trans (State.complete_rest _ _ _)

end

/-! SUPPORT. Queries (R246): each completes with a status and no effect, or with its output buffer written. -/

/-- The answer of a query's body: a status alone, or OK with the output buffer written. -/
def QueryAnswer (c : Desc) (s : State) (x : Res × State) : Prop :=
  (∃ st, x = bad st s) ∨ ∃ bytes, x = ok (s.outBuf c bytes)

section
variable {c : Desc} {s : State} {x y : Res × State}

theorem QueryAnswer.bad {st : Nat} : QueryAnswer c s (bad st s) := .inl ⟨st, rfl⟩

theorem QueryAnswer.out {bytes : List Nat} : QueryAnswer c s (ok (s.outBuf c bytes)) := .inr ⟨bytes, rfl⟩

theorem QueryAnswer.ite {p : Prop} [Decidable p] (hx : QueryAnswer c s x) (hy : QueryAnswer c s y) :
    QueryAnswer c s (if p then x else y) := by split <;> assumption

theorem QueryAnswer.rest (h : QueryAnswer c s x) : s.SameRest x.2 := by
  rcases h with ⟨st, rfl⟩ | ⟨bytes, rfl⟩
  · exact .refl s
  · exact s.same_rest s.regs s.host _

theorem bodySearch_query (c : Desc) (s : State) : QueryAnswer c s (bodySearch none c s) := by
  unfold bodySearch
  dsimp only
  split
  · exact .bad
  · exact .ite .bad .out

/-- Each query runs as a host command whose body answers as queries do. -/
theorem exec_pureQuery {i : Instr} (h : isPureQuery i = true) (s : State) :
    ∃ (info : CmdInfo) (b : Body) (c : Desc), exec i s = kept s (runCmd info b c s) ∧
      ∀ t, QueryAnswer c t (b none c t) := by
  cases i
  case readTerminal c => exact ⟨_, _, c, rfl, fun _ => .ite .bad (.ite .bad (.ite .bad .out))⟩
  case readSubchAct c => exact ⟨_, _, c, rfl, fun _ => .ite .bad .out⟩
  case readUnitLedger c => exact ⟨_, _, c, rfl, fun _ => .ite .bad (.ite .bad .out)⟩
  case readFlow c => exact ⟨_, _, c, rfl, fun _ => .ite .bad (.ite .bad .out)⟩
  case searchEntry c => exact ⟨_, _, c, rfl, bodySearch_query c⟩
  case readSa c => exact ⟨_, _, c, rfl, fun _ => .ite .bad (.ite .bad .out)⟩
  case readTable c => exact ⟨_, _, c, rfl, fun _ => .out⟩
  case listWaypoints c => exact ⟨_, _, c, rfl, fun _ => .out⟩
  case updStatus c => exact ⟨_, _, c, rfl, fun _ => .out⟩
  case recRead c => exact ⟨_, _, c, rfl, fun _ => .ite .bad .out⟩
  case readClearLedger c => exact ⟨_, _, c, rfl, fun _ => .ite .bad .out⟩
  case readPair c => exact ⟨_, _, c, rfl, fun _ => .out⟩
  case readPools c => exact ⟨_, _, c, rfl, fun _ => .out⟩
  case readHealth c => exact ⟨_, _, c, rfl, fun _ => .out⟩
  case computeTod c => exact ⟨_, _, c, rfl, fun _ => .ite .bad .out⟩
  all_goals cases h

end

/-- Settles O60: a query's body writes at most its output buffer, and the run around it journals, checks and completes. -/
theorem queriesChangeNoObject : Obligations.QueriesChangeNoObject := by
  intro i s t hi hx
  obtain ⟨info, b, c, hrun, hb⟩ := exec_pureQuery hi s
  cases hrun.symm.trans hx
  obtain ⟨hclk, -, -, hdoms, hdeferred, hpon, hgrant, hdata, hbuf, hcph, htime, hmgmt, -, -⟩ :=
    runCmd_rest (i := info) (s := s) fun t => (hb t).rest
  exact ⟨hclk, htime, hpon, hgrant, hdoms, hdeferred, hdata, hbuf, hcph, congrArg (·.pair) hmgmt, congrArg (·.units) hmgmt,
    congrArg (·.wps) hmgmt, congrArg (·.upd) hmgmt, rfl⟩

end Sys2Proof.Machine

namespace Sys2Proof.Machine

/-! SUPPORT. Completing a command (R240, R254, R264): the record, the completion, and what ends after it. -/

section
variable {s : State} {n r st : Nat} {f : Fin} {j k : Jrn}

/-- A journal entry with the execution record of a command that ended so at milestone `m`. -/
def Jrn.ended (j : Jrn) (f : Fin) (m : Nat) : Jrn := { j with started := false, exec := some ⟨f.status, m, f.r0, f.r1⟩ }

/-- The first half of `State.finish`: the execution record is in the journal, an INTERNAL end is counted, and the standby
is told. -/
def State.recordEnd (s : State) (n : Nat) (f : Fin) : State :=
  let m := f.msc.getD s.clk.msc
  let s := s.jrnMod n (fun j => j.ended f m)
  let s := if f.status = stInternal then s.add32 (cmdA 0x1C) 1 else s
  if s.bit (cmdA 0x0) 3 then s.emit (.link 2 [n, f.status, m, f.r0, f.r1]) else s

theorem State.recordEnd_host : (s.recordEnd n f).host = (s.jrnMod n (fun j => j.ended f (f.msc.getD s.clk.msc))).host := by
  unfold State.recordEnd
  dsimp only
  split <;> split <;> rfl

/-- Without an INTERNAL end and with no standby, only the journal takes the record. -/
theorem State.recordEnd_plain (hst : f.status ≠ stInternal) (hbit : s.bit (cmdA 0x0) 3 = false) :
    s.recordEnd n f = s.jrnMod n (fun j => j.ended f (f.msc.getD s.clk.msc)) := by
  have hbit' : (s.jrnMod n (fun j => j.ended f (f.msc.getD s.clk.msc))).bit (cmdA 0x0) 3 = false := hbit
  simp only [State.recordEnd, if_neg hst, hbit', Bool.false_eq_true, if_false]

/-- The completion of an ended command. -/
def State.cplOf (s : State) (j : Jrn) (n : Nat) (f : Fin) : Cpl :=
  ⟨j.desc.ring, j.desc.opcode, f.status, j.desc.seq, j.desc.cookie, f.msc.getD s.clk.msc, f.r0, f.r1, j.desc.quiet,
    (s.ring j.desc.ring).st == .restored || j.replayed, false, n⟩

theorem State.finish_of_none (h : s.jrnFind n = none) : s.finish n f = s := by rw [State.finish, h]

theorem State.finish_of_ended (h : s.jrnFind n = some j) (hj : j.exec.isSome = true) : s.finish n f = s := by
  simp only [State.finish, h, if_pos hj]

@[simp] theorem State.recordEnd_ring : (s.recordEnd n f).ring r = s.ring r := by
  rw [State.ring, State.recordEnd_host]
  rfl

/-- A ring that discards has the entry marked posted and done at once; every other ring is handed the completion. -/
theorem State.finish_eq (h : s.jrnFind n = some j) (hj : j.exec = none) : s.finish n f =
    if (s.ring j.desc.ring).discard then
      (((s.recordEnd n f).jrnMod n (fun j => { j with posted := true })).seqDone j.desc.ring j.desc.seq).jrnTrim
    else { s.recordEnd n f with
      host := { (s.recordEnd n f).host with cpls := (s.recordEnd n f).host.cpls ++ [s.cplOf j n f] } } := by
  have hring := State.recordEnd_ring (s := s) (n := n) (f := f) (r := j.desc.ring)
  rw [← hring, State.cplOf, ← hring]
  simp only [State.finish, h, hj]
  rfl

/-! SUPPORT. The journal of a command that ended (R264). -/

/-- Trimming the journal only takes entries away. -/
theorem State.mem_of_mem_jrnTrim (h : k ∈ s.jrnTrim.host.jrn) : k ∈ s.host.jrn := by
  unfold State.jrnTrim at h
  split at h
  · exact h
  · exact (List.dropWhile_sublist _).mem h

/-- An entry of another command, as the journal of `s` holds it, or one of command `n` with its record. -/
def State.EndedFrom (s : State) (n st : Nat) (k : Jrn) : Prop :=
  if k.desc.acc = n then ∃ e, k.exec = some e ∧ e.status = st else k ∈ s.host.jrn

theorem State.endedFrom_recordEnd (hk : k ∈ (s.recordEnd n f).host.jrn) : s.EndedFrom n f.status k := by
  rw [State.recordEnd_host] at hk
  obtain ⟨i, hi, rfl⟩ := List.mem_map.1 hk
  by_cases hn : i.desc.acc = n
  · rw [if_pos hn]
    exact (if_pos hn).mpr ⟨_, rfl, rfl⟩
  · rw [if_neg hn]
    exact (if_neg hn).mpr hi

theorem State.endedFrom_finish (h : s.jrnFind n = some j) (hj : j.exec = none) (hk : k ∈ (s.finish n f).host.jrn) :
    s.EndedFrom n f.status k := by
  rw [State.finish_eq h hj] at hk
  split at hk
  · obtain ⟨i, hi, rfl⟩ := List.mem_map.1 (State.mem_of_mem_jrnTrim hk)
    have hended := State.endedFrom_recordEnd hi
    by_cases hn : i.desc.acc = n
    · rw [if_pos hn]
      exact (if_pos hn).mpr ((if_pos hn).mp hended)
    · rwa [if_neg hn]
  · exact State.endedFrom_recordEnd hk

/-- The end of command `n` leaves every entry of another command, or takes it away. -/
theorem State.mem_of_mem_finish (hk : k ∈ (s.finish n f).host.jrn) (hn : k.desc.acc ≠ n) : k ∈ s.host.jrn := by
  rcases h : s.jrnFind n with _ | j
  · rwa [State.finish_of_none h] at hk
  rcases hj : j.exec with _ | e
  · exact (if_neg hn).mp (State.endedFrom_finish h hj hk)
  · rwa [State.finish_of_ended h (hj ▸ rfl)] at hk

/-- Every entry of command `n` holds an execution record with this status. -/
def State.Recorded (s : State) (n st : Nat) : Prop :=
  ∀ k ∈ s.host.jrn, k.desc.acc = n → ∃ e, k.exec = some e ∧ e.status = st

theorem State.Recorded.executed (h : s.Recorded n st) (hn : s.jrnFind n ≠ none) : s.executed n st := by
  obtain ⟨k, hk⟩ := Option.ne_none_iff_exists'.1 hn
  obtain ⟨e, he, hst⟩ := h k (List.mem_of_find?_eq_some hk) (by simpa using List.find?_some hk)
  exact ⟨k, e, hk, he, hst⟩

theorem State.finish_recorded (h : s.jrnFind n = some j) (hj : j.exec = none) : (s.finish n f).Recorded n f.status :=
  fun _ hk hn => (if_pos hn).mp (State.endedFrom_finish h hj hk)

theorem State.Recorded.finish_eq (h : s.Recorded n st) (g : Fin) : s.finish n g = s := by
  rcases hn : s.jrnFind n with _ | j
  · exact State.finish_of_none hn
  · obtain ⟨k, e, hk, he, -⟩ := h.executed (hn ▸ Option.some_ne_none j)
    exact State.finish_of_ended hk (he ▸ rfl)

/-- The end of another command leaves the records of command `n`, and what has its record does not end again. -/
theorem State.Recorded.finish (h : s.Recorded n st) (m : Nat) (g : Fin) : (s.finish m g).Recorded n st := by
  by_cases hm : m = n
  · subst hm
    rwa [h.finish_eq]
  · exact fun k hk hn => h k (State.mem_of_mem_finish hk fun he => hm (he.symm.trans hn)) hn

theorem State.Recorded.endUnknown (h : s.Recorded n st) (r : Nat) : (s.endUnknown r).Recorded n st := by
  unfold State.endUnknown
  generalize List.filter _ _ = l
  induction l generalizing s with
  | nil => exact h
  | cons j l ih =>
    rw [List.foldl_cons]
    split
    · exact ih h
    · exact ih (h.finish _ _)

/-! SUPPORT. No command with an unknown opcode waits to be ended (R238, R254, R255). -/

/-- No other command than `n` on ring `r` with an unknown opcode waits for its end. -/
def State.NoUnknown (s : State) (r n : Nat) : Prop :=
  ∀ k ∈ s.host.jrn, k.desc.ring = r → k.exec = none → knownOp k.desc.opcode = true ∨ k.desc.acc = n

/-- Only command `n` could be ended, and ending it changes nothing. -/
theorem State.NoUnknown.endUnknown_eq (h : s.NoUnknown r n) (hn : ∀ g, s.finish n g = s) : s.endUnknown r = s := by
  have hstep : ∀ k ∈ s.host.jrn.filter (fun k => k.desc.ring == r && k.exec.isNone && !knownOp k.desc.opcode),
      k.desc.acc = n := by
    intro k hk
    simp only [List.mem_filter, Bool.and_eq_true, beq_iff_eq, Option.isNone_iff_eq_none, Bool.not_eq_true'] at hk
    obtain ⟨hmem, ⟨hring, hexec⟩, hop⟩ := hk
    exact (h k hmem hring hexec).resolve_left (by simp [hop])
  unfold State.endUnknown
  generalize List.filter _ _ = l at hstep
  induction l with
  | nil => rfl
  | cons k l ih =>
    rw [List.foldl_cons, hstep k List.mem_cons_self, hn, ite_self]
    exact ih fun i hi => hstep i (List.mem_cons_of_mem _ hi)

theorem State.NoUnknown.finish (h : s.NoUnknown r n) : (s.finish n f).NoUnknown r n := by
  intro k hk hring hexec
  by_cases hn : k.desc.acc = n
  · exact .inr hn
  · exact h k (State.mem_of_mem_finish hk hn) hring hexec

/-! SUPPORT. A completion, case by case. -/

theorem State.complete_of_none (h : s.jrnFind n = none) : s.complete n f = s := by rw [State.complete, h]

theorem State.complete_of_some (h : s.jrnFind n = some j) :
    s.complete n f = (s.finish n f).endUnknown j.desc.ring := by rw [State.complete, h]

theorem State.complete_executed (h : s.jrnFind n = some j) (hj : j.exec = none)
    (hn : (s.complete n f).jrnFind n ≠ none) : (s.complete n f).executed n f.status := by
  refine State.Recorded.executed ?_ hn
  rw [State.complete_of_some h]
  exact (State.finish_recorded h hj).endUnknown _

/-- Where no unknown command waits, a completion is the end of its own command alone. -/
theorem State.complete_eq_finish (h : s.jrnFind n = some j) (hj : j.exec = none) (hu : s.NoUnknown j.desc.ring n) :
    s.complete n f = s.finish n f := by
  rw [State.complete_of_some h]
  exact hu.finish.endUnknown_eq (State.finish_recorded h hj).finish_eq

theorem State.complete_queues (h : s.jrnFind n = some j) (hj : j.exec = none) (hst : f.status ≠ stInternal)
    (hbit : s.bit (cmdA 0x0) 3 = false) (hd : (s.ring j.desc.ring).discard = false) (hu : s.NoUnknown j.desc.ring n) :
    s.complete n f = { s with host := { s.host with
      jrn := (s.jrnMod n (fun j => j.ended f (f.msc.getD s.clk.msc))).host.jrn
      cpls := s.host.cpls ++ [s.cplOf j n f] } } := by
  rw [State.complete_eq_finish h hj hu, State.finish_eq h hj, hd, State.recordEnd_plain hst hbit]
  rfl

theorem State.complete_of_ended {e : ExecRec} (h : s.jrnFind n = some j) (hj : j.exec = some e)
    (hu : s.NoUnknown j.desc.ring n) : s.complete n f = s := by
  have hend : ∀ g, s.finish n g = s := fun g => State.finish_of_ended h (hj ▸ rfl)
  rw [State.complete_of_some h, hend]
  exact hu.endUnknown_eq hend

end

/-- Settles O59: the record survives every later end, and where no unknown command waits the completion is the end of its own
command alone. -/
theorem completionWritesRecordAndEntry : Obligations.CompletionWritesRecordAndEntry := by
  refine ⟨?record, ?entry, ?again, ?absent⟩
  case record => exact fun s n f j h hj hn => State.complete_executed h hj hn
  case entry =>
    intro s n f j h hj hst hbit hd hu
    rw [State.complete_queues h hj hst hbit hd hu]
    exact ⟨s.cplOf j n f, rfl, rfl, rfl, rfl, rfl, rfl, rfl, rfl, rfl⟩
  case again => exact fun s n f j e h hj hu => State.complete_of_ended h hj hu
  case absent => exact fun s n f h => State.complete_of_none h

end Sys2Proof.Machine

namespace Sys2Proof.Machine

/-! SUPPORT. Commands 0x10 to 0x15 of family 0x04: what their bodies answer, case by case (R291, R294, R298, R299). -/

section
variable {c : Desc} {z : State}

theorem bodySetFlowSched_ok (hinst : (z.flow c.n0).inst = true) (hdom : (z.flow c.n0).dom = c.dom) :
    bodySetFlowSched none c z =
      ok (z.setSched false c.n0 ((z.sched false c.n0).change z.ns (readSched c.inp))) := by
  simp [bodySetFlowSched, hinst, hdom]

theorem bodySetFlowSched_notFound (hinst : (z.flow c.n0).inst = false) :
    bodySetFlowSched none c z = bad stNotFound z := by
  simp [bodySetFlowSched, hinst]

theorem bodySetNodeSched_terminal (hkind : qKind c = 1) (hobj : z.qObj 1 (qIdx c) = (true, c.dom)) :
    bodySetNodeSched none c z =
      ok (z.setNode false (qIdx c) ((z.node false (qIdx c)).change z.ns (readSched c.inp))) := by
  simp [bodySetNodeSched, hkind, hobj]

theorem bodySetNodeSched_domainNode (hkind : qKind c = 2) (hobj : z.qObj 2 (qIdx c) = (true, c.dom)) :
    bodySetNodeSched none c z =
      ok (z.setNode true (qIdx c) ((z.node true (qIdx c)).change z.ns (readSched c.inp))) := by
  simp [bodySetNodeSched, hkind, hobj]

theorem bodySetNodeSched_classQueue (hkind : qKind c = 3) (hobj : z.qObj 3 (qIdx c) = (true, c.dom)) :
    bodySetNodeSched none c z =
      ok (z.setSched true (qIdx c) ((z.sched true (qIdx c)).change z.ns (readSched c.inp))) := by
  simp [bodySetNodeSched, hkind, hobj]

theorem bodySetNodeSched_notFound {d : Nat} (hobj : z.qObj (qKind c) (qIdx c) = (false, d)) :
    bodySetNodeSched none c z = bad stNotFound z := by
  simp [bodySetNodeSched, hobj]

/-- SET_POLICER that enables a disabled policer fills both buckets (R294). -/
theorem bodySetPolicer_filled {i : Nat} (hi : i = c.n0 % 2 ^ 20) (hinst : (z.flow i).inst = true)
    (hdom : (z.flow i).dom = c.dom) (hen : 2 ^ 31 ≤ c.n0) (hoff : (z.data.polS.get {} i).enabled = false) :
    bodySetPolicer none c z = ok (z.modData (fun d => { d with polS := d.polS.set {} i { z.data.polS.get {} i with
      enabled := true, tc := Bucket.full c.n1 c.n3 z.ns, tp := Bucket.full c.n2 c.n4 z.ns } })) := by
  subst hi
  simp only [bodySetPolicer, hinst, hdom, hen, hoff, Bool.not_true, Bool.not_false, Bool.and_true, bne_self_eq_false,
    decide_true, Bool.false_eq_true, if_true, if_false]

/-- SET_POLICER on a policer that is enabled clamps both buckets to their new bursts (R294). -/
theorem bodySetPolicer_clamped {i : Nat} {p : Policer} (hi : i = c.n0 % 2 ^ 20) (hp : p = z.data.polS.get {} i)
    (hinst : (z.flow i).inst = true) (hdom : (z.flow i).dom = c.dom) (hen : 2 ^ 31 ≤ c.n0) (hon : p.enabled = true) :
    bodySetPolicer none c z = ok (z.modData (fun d => { d with polS := d.polS.set {} i { p with
      enabled := true, tc := p.tc.change true z.ns c.n1 c.n3, tp := p.tp.change false z.ns c.n2 c.n4 } })) := by
  subst hi hp
  simp only [bodySetPolicer, hinst, hdom, hen, hon, Bool.not_true, Bool.and_false, bne_self_eq_false, decide_true,
    Bool.false_eq_true, if_false]

theorem bodySetPortSched_ok (hdom : c.dom = 0) :
    bodySetPortSched none c z = ok (z.setPort c.n0 { z.port c.n0 with adj := some (BitVec.ofNat 8 c.n1).toInt }) := by
  simp [bodySetPortSched, hdom]

theorem bodySetPortSched_domain (hdom : c.dom ≠ 0) : bodySetPortSched none c z = bad stDomain z := by
  simp [bodySetPortSched, hdom]

/-- SET_GATE_LIST on a port without a pending switch stays open until its switch time (R291). -/
theorem bodySetGateList_opened (hdom : c.dom = 0) (hpend : (z.port c.n0).pend = none) :
    bodySetGateList none c z = (.opened, z.setPort c.n0 { z.port c.n0 with
      pend := some (switchTime (readGates c.inp) ((z.time.dev + 65535) / 65536 + 250000), readGates c.inp)
      pendAcc := c.acc }) := by
  simp [bodySetGateList, hdom, hpend]

theorem bodySetGateList_state {p : Nat × Option GateList} (hdom : c.dom = 0) (hpend : (z.port c.n0).pend = some p) :
    bodySetGateList none c z = bad stState z := by
  simp [bodySetGateList, hdom, hpend]

theorem bodyReadQueue_query (hclear : c.n1 = 0) (hobj : z.qObj (qKind c) (qIdx c) = (true, c.dom)) :
    bodyReadQueue none c z = ok (z.outBuf c (z.queueBytes (qKind c) (qIdx c))) := by
  simp [bodyReadQueue, hclear, hobj]

/-- READ_QUEUE with CLEAR_MAX of a flow queue writes its record first, and then clears that queue's maxima (R298). -/
theorem bodyReadQueue_clears {w : State} (hclear : c.n1 = 1) (hobj : z.qObj 0 (qIdx c) = (true, c.dom))
    (hkind : qKind c = 0) (hw : w = z.outBuf c (z.queueBytes 0 (qIdx c))) :
    bodyReadQueue none c z = ok (w.setQueue false (qIdx c) { w.queue false (qIdx c) with
      maxDepth := 0, maxDelay := 0, maxDelayMsc := 0 }) := by
  subst hw
  simp [bodyReadQueue, hclear, hobj, hkind, State.qQueues]

end

/-! SUPPORT. A port's dequeue, its gate switch and the sampler, case by case (R282, R291, R296). -/

section
variable {s : State} {pt : Nat}

theorem State.frameDequeue_selected {i : Nat} (hsel : (s.look pt).select pt = some i) :
    s.frameDequeue pt = (s.look pt).dequeueFrom pt i := by
  simp [State.frameDequeue, hsel]

theorem State.frameDequeue_unselected (hsel : (s.look pt).select pt = none) : s.frameDequeue pt = s.look pt := by
  simp [State.frameDequeue, hsel]

theorem execFrameDequeue_port (hpt : pt < 384 ∨ (512 ≤ pt ∧ pt < 640)) (hrole : s.standby = false) :
    execFrameDequeue pt s = kept s (s.frameDequeue pt) := by
  simp [execFrameDequeue, hpt, hrole]

theorem execGateEntryExpiry_port (hpt : pt < 384 ∨ (512 ≤ pt ∧ pt < 640)) :
    execGateEntryExpiry pt s = kept s (s.look pt) := by
  rw [execGateEntryExpiry, if_pos hpt]

theorem execGateEntryExpiry_noPort (hpt : 640 ≤ pt) : execGateEntryExpiry pt s = .next s := by
  rw [execGateEntryExpiry, if_neg (by omega), kept_self]

/-- A pending gate list whose time has come is in force, and completes its command at T_s (R291). -/
theorem State.gateSwitch_due {ts : Nat} {l : Option GateList} (hpend : (s.port pt).pend = some (ts, l))
    (hdue : ts ≤ s.devNs) :
    s.gateSwitch pt = ((s.setPort pt { s.port pt with list := l, pend := none, pendAcc := 0, lastSwitch := ts }).complete
      (s.port pt).pendAcc { status := stOk, msc := some (ts / 125000) }).raise evGateListActive (portArg pt) := by
  simp [State.gateSwitch, hpend, Nat.not_lt.2 hdue]

theorem State.gateSwitch_early {ts : Nat} {l : Option GateList} (hpend : (s.port pt).pend = some (ts, l))
    (hearly : s.devNs < ts) : s.gateSwitch pt = s := by
  simp [State.gateSwitch, hpend, hearly]

/-- Flow queue `16384 (msc mod 64) + f` is sampled at hub cycle `4000 + 12 f` (R296). -/
theorem State.queueSample_flow {f : Nat} (hon : s.data.samplerOn = true) (hrun : s.clk.running = true) (hf : f < 16384)
    (hcycle : s.clk.cycle = 4000 + 12 * f) (hinst : (s.flow (16384 * (s.clk.msc % 64) + f)).inst = true) :
    s.queueSample = s.sampleQueue false (16384 * (s.clk.msc % 64) + f) := by
  have hoff : 4000 + 12 * f - 4000 = 12 * f := by omega
  simp [State.queueSample, hon, hrun, hcycle, hoff, hf, hinst]

/-- Class queue `1024 (msc mod 64) + q` is sampled at hub cycle `4006 + 12 q` (R296). -/
theorem State.queueSample_class {q : Nat} (hon : s.data.samplerOn = true) (hrun : s.clk.running = true) (hq : q < 1024)
    (hcycle : s.clk.cycle = 4006 + 12 * q) (hthere : s.classThere (1024 * (s.clk.msc % 64) + q) = true) :
    s.queueSample = s.sampleQueue true (1024 * (s.clk.msc % 64) + q) := by
  have hlate : ¬ 4006 + 12 * q < 4000 := by omega
  have hmod : (4006 + 12 * q - 4000) % 12 = 6 := by omega
  have hdiv : (4006 + 12 * q - 4000) / 12 = q := by omega
  simp [State.queueSample, hon, hrun, hcycle, hlate, hmod, hdiv, hq, hthere]

/-- No sample falls while the sampler is off, before hub cycle 4000, or between two sampling cycles (R296). -/
theorem State.queueSample_idle (h : s.data.samplerOn = false ∨ s.clk.cycle < 4000 ∨ (s.clk.cycle - 4000) % 6 ≠ 0) :
    s.queueSample = s := by
  rcases h with hoff | hearly | hbetween
  · simp [State.queueSample, hoff]
  · simp [State.queueSample, hearly]
  · have hflow : (s.clk.cycle - 4000) % 12 ≠ 0 := by omega
    have hclass : (s.clk.cycle - 4000) % 12 ≠ 6 := by omega
    simp [State.queueSample, hflow, hclass]

end

/-- Settles O37: each command is its body in that case, and each record of the data path its own equation. -/
theorem schedulingCommandsAndDequeue : Obligations.SchedulingCommandsAndDequeue := by
  refine ⟨?flowSched, ?noFlow, ?terminal, ?domainNode, ?classQueue, ?noNode, ?fills, ?clamps, ?adj, ?adjDomain, ?opens,
    ?pending, ?reads, ?clears, ?dequeues, ?nothing, ?expires, ?noPort, ?switches, ?early, ?sampleFlow, ?sampleClass, ?idle⟩
  case flowSched =>
    exact fun c s h hinst hdom => congrArg (kept s) (runCmd_of_fin h (bodySetFlowSched_ok hinst hdom))
  case noFlow => exact fun c s h hinst => congrArg (kept s) (runCmd_of_fin h (bodySetFlowSched_notFound hinst))
  case terminal =>
    exact fun c s h hkind hobj => congrArg (kept s) (runCmd_of_fin h (bodySetNodeSched_terminal hkind hobj))
  case domainNode =>
    exact fun c s h hkind hobj => congrArg (kept s) (runCmd_of_fin h (bodySetNodeSched_domainNode hkind hobj))
  case classQueue =>
    exact fun c s h hkind hobj => congrArg (kept s) (runCmd_of_fin h (bodySetNodeSched_classQueue hkind hobj))
  case noNode => exact fun c s h d hobj => congrArg (kept s) (runCmd_of_fin h (bodySetNodeSched_notFound hobj))
  case fills =>
    exact fun c s h i hi hinst hdom hen hoff =>
      congrArg (kept s) (runCmd_of_fin h (bodySetPolicer_filled hi hinst hdom hen hoff))
  case clamps =>
    exact fun c s h i p hi hp hinst hdom hen hon =>
      congrArg (kept s) (runCmd_of_fin h (bodySetPolicer_clamped hi hp hinst hdom hen hon))
  case adj => exact fun c s h hdom => congrArg (kept s) (runCmd_of_fin h (bodySetPortSched_ok hdom))
  case adjDomain => exact fun c s h hdom => congrArg (kept s) (runCmd_of_fin h (bodySetPortSched_domain hdom))
  case opens =>
    exact fun c s h hdom hpend => congrArg (kept s) (runCmd_of_opened h (bodySetGateList_opened hdom hpend))
  case pending =>
    exact fun c s h p hdom hpend => congrArg (kept s) (runCmd_of_fin h (bodySetGateList_state hdom hpend))
  case reads =>
    exact fun c s h hclear hobj => congrArg (kept s) (runCmd_of_fin h (bodyReadQueue_query hclear hobj))
  case clears =>
    exact fun c s h w hclear hobj hkind hw =>
      congrArg (kept s) (runCmd_of_fin h (bodyReadQueue_clears hclear hobj hkind hw))
  case dequeues =>
    exact fun s pt i hpt hsel hrole =>
      (execFrameDequeue_port hpt hrole).trans (congrArg (kept s) (State.frameDequeue_selected hsel))
  case nothing =>
    exact fun s pt hpt hsel hrole =>
      (execFrameDequeue_port hpt hrole).trans (congrArg (kept s) (State.frameDequeue_unselected hsel))
  case expires => exact fun s pt hpt => execGateEntryExpiry_port hpt
  case noPort => exact fun s pt hpt => execGateEntryExpiry_noPort hpt
  case switches => exact fun s pt ts l hpend hdue => congrArg (kept s) (State.gateSwitch_due hpend hdue)
  case early => exact fun s pt ts l hpend hearly => congrArg (kept s) (State.gateSwitch_early hpend hearly)
  case sampleFlow =>
    exact fun s f hon hrun hf hcycle hinst =>
      congrArg (kept s) (State.queueSample_flow hon hrun hf hcycle hinst)
  case sampleClass =>
    exact fun s q hon hrun hq hcycle hthere =>
      congrArg (kept s) (State.queueSample_class hon hrun hq hcycle hthere)
  case idle => exact fun s h => congrArg (kept s) (State.queueSample_idle h)

end Sys2Proof.Machine

namespace Sys2Proof.Machine

/-! SUPPORT. Commands 0x01 to 0x06 of family 0x04: what their bodies answer, case by case (R306, R307, R309, R325). -/

/-- The checks of CREATE_FLOW that come before those of the flow itself (R258, R261, R306). -/
structure State.FlowFits (z : State) (c : Desc) (b : FlowBlk) : Prop where
  act : (z.term b.sc b.term).act ≠ .free
  dom : (z.term b.sc b.term).dom = c.dom
  tree : z.isProtect (b.sc / 2) = false
  test : z.underTest b.sc b.term = false
  quota : c.dom = 0 ∨ z.flowsOf c.dom < (z.domE c.dom).quota.flows

section
variable {c : Desc} {z : State} {e : Nat}

theorem bodyCreateFlow_ok {b : FlowBlk} (hb : b = readFlowBlk c.inp) (h : z.FlowFits c b)
    (hinst : (z.flow c.n0).inst = false) (hport : (z.uport b.uPort).cfg ≠ none) (hxgem : z.xgemFlow b.sc b.xgem = none)
    (hkey : z.keyFlow (pipeOfSub b.sc) (b.flow c.dom).key = none) :
    bodyCreateFlow none c z = ok (z.newFlow c.n0 (b.flow c.dom)) := by
  subst hb
  obtain ⟨hact, hdom, htree, htest, hquota⟩ := h
  simp only [bodyCreateFlow, hinst, hxgem, hkey]
  rw [if_neg (by simp [hact]), if_neg (by simp [hdom]), if_neg (by simp [htree, htest]), if_neg (by simp; omega),
    if_neg (by simp), if_neg (by simp), if_neg (by simp [hport]), if_neg (by simp)]

theorem bodyCreateFlow_exists {b : FlowBlk} (hb : b = readFlowBlk c.inp) (h : z.FlowFits c b)
    (hinst : (z.flow c.n0).inst = true) (hroad : (z.flow c.n0).road = .enabled) :
    bodyCreateFlow none c z = bad stExists z := by
  subst hb
  obtain ⟨hact, hdom, htree, htest, hquota⟩ := h
  simp only [bodyCreateFlow, hinst, hroad]
  rw [if_neg (by simp [hact]), if_neg (by simp [hdom]), if_neg (by simp [htree, htest]), if_neg (by simp; omega),
    if_pos (by simp)]

theorem bodyDestroyFlow_deferred (hinst : (z.flow c.n0).inst = true) (hdom : (z.flow c.n0).dom = c.dom)
    (hopen : (z.flow c.n0).destroyE = none) (hroad : (z.flow c.n0).road = .enabled)
    (he : z.resolveE none c = .ok e) (hroom : z.pendRoom = true) :
    bodyDestroyFlow none c z =
      deferred e ((z.setFlow c.n0 { z.flow c.n0 with destroyE := some e, discard := c.n1 == 1 }).defer c e
        (.flowDestroy c.n0 (c.n1 == 1))) := by
  simp [bodyDestroyFlow, hinst, hdom, hopen, hroad, he, hroom]

/-- MODIFY_FLOW takes a block that keeps the flow's identity, and changes what such a block may (R307). -/
theorem bodyModifyFlow_ok {x : Flow} {b : FlowBlk} (hinst : (z.flow c.n0).inst = true)
    (hdom : (z.flow c.n0).dom = c.dom) (hx : x = z.flow c.n0) (hb : b = readFlowBlk c.inp)
    (hsame : (b.sc, b.term, b.xgem, b.kind, b.encrypt, b.outerVid, b.innerVid, b.innerNone) =
      (x.sc, x.term, x.xgem, x.kind, x.encrypt, x.outerVid, x.innerVid, x.innerNone))
    (hport : (z.uport b.uPort).cfg ≠ none) :
    bodyModifyFlow none c z = ok (z.setFlow c.n0 { x with
      dsTag := b.dsTag, usTag := b.usTag, usVid := b.usVid, uPort := b.uPort, macLimit := b.macLimit }) := by
  subst hx hb
  simp only [Prod.mk.injEq] at hsame
  simp [bodyModifyFlow, hinst, hdom, hsame, hport]

theorem bodyModifyFlow_badArg (hinst : (z.flow c.n0).inst = true) (hdom : (z.flow c.n0).dom = c.dom)
    (hsc : (readFlowBlk c.inp).sc ≠ (z.flow c.n0).sc) : bodyModifyFlow none c z = bad stBadArg z := by
  simp [bodyModifyFlow, hinst, hdom, hsc]

theorem bodyReadFlow_ok (hinst : (z.flow c.n0).inst = true) (hdom : (z.flow c.n0).dom = c.dom) :
    bodyReadFlow none c z = ok (z.outBuf c (z.flow c.n0).bytes) := by
  simp [bodyReadFlow, hinst, hdom]

theorem bodyReadFlow_notFound (hinst : (z.flow c.n0).inst = false) : bodyReadFlow none c z = bad stNotFound z := by
  simp [bodyReadFlow, hinst]

theorem bodyReadFlow_domain (hinst : (z.flow c.n0).inst = true) (hdom : (z.flow c.n0).dom ≠ c.dom) :
    bodyReadFlow none c z = bad stDomain z := by
  simp [bodyReadFlow, hinst, hdom]

/-- JOIN_FLOOD puts a flow at the end of the list of its domain and VID, within the limits of R309. -/
theorem bodyJoinFlood_joins {f : Flow} {x : Pipe} (hinst : (z.flow c.n0).inst = true)
    (hdom : (z.flow c.n0).dom = c.dom) (hroad : (z.flow c.n0).road = .enabled) (hf : f = z.flow c.n0)
    (hx : x = z.pipe (pipeOfSub f.sc)) (hnew : (x.flood (floodKey f.dom f.outerVid)).contains c.n0 = false)
    (hlen : (x.flood (floodKey f.dom f.outerVid)).length < 65535)
    (hlists : x.flood (floodKey f.dom f.outerVid) ≠ [] ∨ x.floods.length < 4096)
    (hall : x.floods.foldl (fun n e => n + e.2.length) 0 < 131072) :
    bodyJoinFlood none c z = ok (z.setPipe (pipeOfSub f.sc)
      (x.setFlood (floodKey f.dom f.outerVid) (x.flood (floodKey f.dom f.outerVid) ++ [c.n0]))) := by
  subst hf hx
  simp only [bodyJoinFlood]
  rw [if_neg (by simp [hinst]), if_neg (by simp [hdom]), if_neg (by simp [hroad]), if_neg (ne_true_of_eq_false hnew),
    if_neg (by simpa [hlen, hall] using hlists.neg_resolve_left)]

theorem bodyLeaveFlood_leaves (hinst : (z.flow c.n0).inst = true) (hdom : (z.flow c.n0).dom = c.dom)
    (hin : ((z.pipe (pipeOfSub (z.flow c.n0).sc)).flood
      (floodKey (z.flow c.n0).dom (z.flow c.n0).outerVid)).contains c.n0 = true) :
    bodyLeaveFlood none c z = ok (z.leaveFlood c.n0) := by
  simp only [bodyLeaveFlood]
  rw [if_neg (by simp [hinst]), if_neg (by simp [hdom]), if_pos hin]

theorem bodyLeaveFlood_notFound (hinst : (z.flow c.n0).inst = true) (hdom : (z.flow c.n0).dom = c.dom)
    (hout : ((z.pipe (pipeOfSub (z.flow c.n0).sc)).flood
      (floodKey (z.flow c.n0).dom (z.flow c.n0).outerVid)).contains c.n0 = false) :
    bodyLeaveFlood none c z = bad stNotFound z := by
  simp only [bodyLeaveFlood]
  rw [if_neg (by simp [hinst]), if_neg (by simp [hdom]), if_neg (ne_true_of_eq_false hout)]

end

/-- Settles O29: each clause is the command's body in that case, which completes. -/
theorem flowCommands : Obligations.FlowCommands := by
  refine ⟨?creates, ?exists', ?destroys, ?modifies, ?otherFlow, ?reads, ?noFlow, ?otherDomain, ?joins, ?leaves, ?notIn⟩
  case creates =>
    exact fun c s h b hb hact hdom htree htest hquota hinst hport hxgem hkey => congrArg (kept s) (runCmd_of_fin h
      (bodyCreateFlow_ok hb ⟨hact, hdom, htree, htest, hquota⟩ hinst hport hxgem hkey))
  case exists' =>
    exact fun c s h b hb hact hdom htree htest hquota hinst hroad => congrArg (kept s) (runCmd_of_fin h
      (bodyCreateFlow_exists hb ⟨hact, hdom, htree, htest, hquota⟩ hinst hroad))
  case destroys =>
    exact fun c s h e hinst hdom hopen hroad he hroom => congrArg (kept s) (runCmd_of_fin h
      (bodyDestroyFlow_deferred hinst hdom hopen hroad he hroom))
  case modifies =>
    exact fun c s h x b hinst hdom hx hb hsame hport => congrArg (kept s) (runCmd_of_fin h
      (bodyModifyFlow_ok hinst hdom hx hb hsame hport))
  case otherFlow =>
    exact fun c s h hinst hdom hsc => congrArg (kept s) (runCmd_of_fin h (bodyModifyFlow_badArg hinst hdom hsc))
  case reads => exact fun c s h hinst hdom => congrArg (kept s) (runCmd_of_fin h (bodyReadFlow_ok hinst hdom))
  case noFlow => exact fun c s h hinst => congrArg (kept s) (runCmd_of_fin h (bodyReadFlow_notFound hinst))
  case otherDomain =>
    exact fun c s h hinst hdom => congrArg (kept s) (runCmd_of_fin h (bodyReadFlow_domain hinst hdom))
  case joins =>
    exact fun c s h f x hinst hdom hroad hf hx hnew hlen hlists hall => congrArg (kept s) (runCmd_of_fin h
      (bodyJoinFlood_joins hinst hdom hroad hf hx hnew hlen hlists hall))
  case leaves =>
    exact fun c s h hinst hdom hin => congrArg (kept s) (runCmd_of_fin h (bodyLeaveFlood_leaves hinst hdom hin))
  case notIn =>
    exact fun c s h hinst hdom hout => congrArg (kept s) (runCmd_of_fin h (bodyLeaveFlood_notFound hinst hdom hout))

end Sys2Proof.Machine

namespace Sys2Proof.Machine

/-! SUPPORT. Commands of family 0x05: what their bodies answer, case by case (R305, R313, R320 to R324). -/

section
variable {c : Desc} {z : State}

/-- Domain 0 acts on every domain, and another one on its own (R320). -/
theorem Desc.otherDomain_eq_false {d : Nat} (h : c.dom = 0 ∨ d = c.dom) : (c.dom != 0 && d != c.dom) = false := by
  rcases h with h | h <;> simp [h]

theorem bodySetSteer_ok (hdom : c.dom = 0) :
    bodySetSteer none c z = ok (z.modData (fun d => { d with
      steer := d.steer.set {} (4096 * (c.n0 % 128) + c.n0 / 2 ^ 16)
        ⟨c.n1 % 2 == 1, c.n1 / 2 % 8, c.n1 / 16 % 2, c.n1 / 2 ^ 8⟩ })) := by
  simp [bodySetSteer, hdom]

/-- ADD_ENTRY of a key that is in the table overwrites its entry, after every waiting learn (R313, R320). -/
theorem bodyAddEntry_overwrites {e : MacEnt} {w : State} {i : Nat} (he : e = z.readEntry c.inp) (hup : e.uplink = true)
    (hdom : c.dom = 0 ∨ e.dom = c.dom) (hw : w = z.learnAll c.n0) (hfind : (w.pipe c.n0).find (keyOf e) = some i) :
    bodyAddEntry none c z =
      ok ((w.setPipe c.n0 ((w.pipe c.n0).put i (some e))).sendNotice c.n0 (keyOf e) w.clk.hubc) := by
  subst he hw
  simp only [bodyAddEntry, hup, hfind, Bool.not_true, Bool.false_and, Bool.or_false, Desc.otherDomain_eq_false hdom,
    Bool.false_eq_true, if_false]

/-- ADD_ENTRY of a new key inserts it where the quota and the table have room (R261, R314, R320). -/
theorem bodyAddEntry_inserts {e : MacEnt} {w : State} {y : Pipe} (he : e = z.readEntry c.inp) (hup : e.uplink = true)
    (hdom : c.dom = 0 ∨ e.dom = c.dom) (hw : w = z.learnAll c.n0) (hfind : (w.pipe c.n0).find (keyOf e) = none)
    (hquota : w.entryQuota e.dom = false) (hins : (w.pipe c.n0).insert e = some y) :
    bodyAddEntry none c z = ok ((w.setPipe c.n0 y).sendNotice c.n0 (keyOf e) w.clk.hubc) := by
  subst he hw
  simp only [bodyAddEntry, hup, hfind, hquota, hins, Bool.not_true, Bool.false_and, Bool.or_false,
    Desc.otherDomain_eq_false hdom, Bool.false_eq_true, if_false]

theorem bodyDeleteEntry_deletes {w : State} {i : Nat} (hw : w = z.learnAll c.n0)
    (hfind : (w.pipe c.n0).find (keyArg c) = some i) (hdom : c.dom = 0 ∨ (keyArg c).dom = c.dom) :
    bodyDeleteEntry none c z = ok (w.setPipe c.n0 ((w.pipe c.n0).put i none)) := by
  subst hw
  simp only [bodyDeleteEntry, hfind, Desc.otherDomain_eq_false hdom, Bool.false_eq_true, if_false]

theorem bodyDeleteEntry_notFound (hfind : ((z.learnAll c.n0).pipe c.n0).find (keyArg c) = none) :
    bodyDeleteEntry none c z = bad stNotFound (z.learnAll c.n0) := by
  simp only [bodyDeleteEntry, hfind]

theorem bodySearch_ok {e : MacEnt} (hfind : ((z.pipe c.n0).find (keyArg c)).bind (z.pipe c.n0).at = some e)
    (hdom : c.dom = 0 ∨ e.dom = c.dom) : bodySearch none c z = ok (z.outBuf c e.bytes) := by
  simp only [bodySearch, hfind, Desc.otherDomain_eq_false hdom, Bool.false_eq_true, if_false]

theorem bodySearch_notFound (hfind : ((z.pipe c.n0).find (keyArg c)).bind (z.pipe c.n0).at = none) :
    bodySearch none c z = bad stNotFound z := by
  simp only [bodySearch, hfind]

/-- NEXT outside a stable walk whose buffer holds every entry from the cursor on: it writes them all, and its cursor is at
the end (R322). -/
theorem bodyNext_writesAll {w : State} {all : List (Nat × MacEnt)} (hp : c.n0 < 8) (hw : w = z.walkExpire c.n0)
    (hall : all = (w.pipe c.n0).entries.filter
      (fun e => decide (cursorPos c.n1 ≤ e.1) && (c.dom == 0 || e.2.dom == c.dom)))
    (hmax : all.length ≤ 1024) (hbuf : 32 * all.length ≤ c.bufLen) :
    bodyNext none c z =
      okR 0xFFFFFFFF all.length (w.outBuf c (all.foldl (fun l e => l ++ e.2.bytes) [])) := by
  have hstable : decide (2 ^ 8 ≤ c.n0) = false := decide_eq_false (by omega)
  have htake : all.take (min 1024 (c.bufLen / 32)) = all := List.take_of_length_le (by omega)
  subst hw
  simp only [bodyNext, Nat.mod_eq_of_lt hp, hstable, ← hall, htake, Bool.false_and, Bool.false_eq_true, decide_true,
    if_true, if_false]

/-- FLUSH_BY_PORT of an uplink port queues the flush in every pipeline of its mask, after their waiting learns, and stays
open (R313, R323). -/
theorem bodyFlushByPort_opened {ps : List Nat} {w : State} {fl : Flush} (hup : 2 ^ 31 ≤ c.n0)
    (hps : ps = (List.range 8).filter (fun p => (if c.n1 % 256 = 0 then 255 else c.n1 % 256) / 2 ^ p % 2 == 1))
    (hw : w = ps.foldl (fun (s : State) (p : Nat) => s.learnAll p) z)
    (hfl : fl = ⟨c.acc, c.dom, true, c.n0 % 2 ^ 20, decide (2 ^ 8 ≤ c.n1), z.data.flushNo + 1, 0⟩) :
    bodyFlushByPort none c z = (.opened,
      ps.foldl (fun (s : State) (p : Nat) => s.setPipe p { s.pipe p with flushes := (s.pipe p).flushes ++ [fl] })
        (w.modData (fun d => { d with flushNo := d.flushNo + 1 }))) := by
  subst hps hw hfl
  simp only [bodyFlushByPort, decide_eq_true hup, Bool.not_true, Bool.false_and, Bool.false_eq_true, if_false,
    Option.isSome_none]

/-- The seed that a REHASH names (R324). -/
theorem State.seedFor_named (h : c.n1 ≠ 0) : z.seedFor c = (c.p1, z) := by
  simp only [State.seedFor, if_neg h]

theorem bodyRehash_opened (hdom : c.dom = 0) (hidle : (z.pipe c.n0).rehash = none) (hseed : c.n1 ≠ 0) :
    bodyRehash none c z = (.opened, z.setPipe c.n0 { z.pipe c.n0 with rehash := some (c.acc, c.p1) }) := by
  simp [bodyRehash, hdom, hidle, State.seedFor_named hseed]

theorem bodyRehash_state (hdom : c.dom = 0) (hbusy : (z.pipe c.n0).rehash.isSome = true) :
    bodyRehash none c z = bad stState z := by
  simp [bodyRehash, hdom, hbusy]

end

/-- Settles O30: each clause is the command's body in that case, which completes or stays open. -/
theorem forwardingTableCommands : Obligations.ForwardingTableCommands := by
  refine ⟨?steers, ?overwrites, ?inserts, ?deletes, ?noEntry, ?searches, ?noMatch, ?next, ?walkEnd, ?flushes, ?rehashes,
    ?rebuilding⟩
  case steers => exact fun c s h hdom => congrArg (kept s) (runCmd_of_fin h (bodySetSteer_ok hdom))
  case overwrites =>
    exact fun c s h e w i he hup hdom hw hfind => congrArg (kept s) (runCmd_of_fin h
      (bodyAddEntry_overwrites he hup hdom hw hfind))
  case inserts =>
    exact fun c s h e w y he hup hdom hw hfind hquota hins => congrArg (kept s) (runCmd_of_fin h
      (bodyAddEntry_inserts he hup hdom hw hfind hquota hins))
  case deletes =>
    exact fun c s h w i hw hfind hdom => congrArg (kept s) (runCmd_of_fin h (bodyDeleteEntry_deletes hw hfind hdom))
  case noEntry => exact fun c s h hfind => congrArg (kept s) (runCmd_of_fin h (bodyDeleteEntry_notFound hfind))
  case searches => exact fun c s h e hfind hdom => congrArg (kept s) (runCmd_of_fin h (bodySearch_ok hfind hdom))
  case noMatch => exact fun c s h hfind => congrArg (kept s) (runCmd_of_fin h (bodySearch_notFound hfind))
  case next =>
    exact fun c s h w all hp hw hall hmax hbuf => congrArg (kept s) (runCmd_of_fin h
      (bodyNext_writesAll hp hw hall hmax hbuf))
  case walkEnd => exact fun c s h => congrArg (kept s) (runCmd_of_fin h rfl)
  case flushes =>
    exact fun c s h ps w fl hup hps hw hfl => congrArg (kept s) (runCmd_of_opened h
      (bodyFlushByPort_opened hup hps hw hfl))
  case rehashes =>
    exact fun c s h hdom hidle hseed => congrArg (kept s) (runCmd_of_opened h (bodyRehash_opened hdom hidle hseed))
  case rebuilding =>
    exact fun c s h hdom hbusy => congrArg (kept s) (runCmd_of_fin h (bodyRehash_state hdom hbusy))

end Sys2Proof.Machine

namespace Sys2Proof.Machine

/-! SUPPORT. A pipeline and its slots, read after a write (R311). -/

section
variable {s : State} {p : Nat} {x : Pipe}

theorem State.pipe_setPipe (h : SMap.wf (fun _ => ({} : Pipe)) s.data.pipes = true) : (s.setPipe p x).pipe p = x :=
  (SMap.get_set h ..).trans (if_pos rfl)

theorem State.setPipe_wf (h : SMap.wf (fun _ => ({} : Pipe)) s.data.pipes = true) :
    SMap.wf (fun _ => ({} : Pipe)) (s.setPipe p x).data.pipes = true := SMap.wf_set h p x

theorem Pipe.at_put_other {i j : Nat} {e : Option MacEnt} (h : SMap.wf (fun _ => (none : Option MacEnt)) x.table = true)
    (hi : i < 262144) (hj : j < 262144) (hne : j ≠ i) : (x.put i e).at j = x.at j := by
  simp only [Pipe.put, Pipe.at, if_pos hi, if_pos hj]
  exact SMap.get_set_other h none none e hne

end

/-! SUPPORT. The learn engine and its notices, case by case (R313, R316). -/

section
variable {s : State} {p i : Nat}

theorem State.learnNext_cons {r : LearnReq} {l : List LearnReq} (h : (s.pipe p).learnQ = r :: l) :
    s.learnNext p = (s.setPipe p { s.pipe p with learnQ := l }).learnOne p r := by
  simp only [State.learnNext, h]

theorem State.learnAll_of_empty (h : (s.pipe p).learnQ = []) : s.learnAll p = s := by
  rw [State.learnAll, h, List.foldl_nil]

/-- A learn that names the port an entry has refreshes the entry (R313, R317). -/
theorem State.learnOne_refreshes {r : LearnReq} {e : MacEnt} (hfind : (s.pipe p).find ⟨r.dom, r.vid, r.mac⟩ = some i)
    (hat : (s.pipe p).at i = some e) (hup : e.uplink = r.uplink) (hport : e.port = r.port) :
    s.learnOne p r =
      s.setPipe p ((s.pipe p).put i (some { e with hit := true, learnSec := s.sec32, epoch := s.data.flushNo })) := by
  simp [State.learnOne, hfind, hat, hup, hport]

/-- A notice that is younger than a dynamic entry's learn removes the entry (R316). -/
theorem State.learnNotice_removes {n : Notice} {e : MacEnt}
    (hnotice : s.data.notices.find? (fun n => n.pipe == p) = some n)
    (hfind : (s.pipe p).find ⟨n.dom, n.vid, n.mac⟩ = some i) (hat : (s.pipe p).at i = some e) (hdyn : e.stat = false)
    (hold : e.learnCycle < n.cycle) :
    s.learnNotice p =
      ((s.modData (fun d => { d with notices := d.notices.erase n })).setPipe p ((s.pipe p).put i none)).pipeCnt p 9 := by
  have hpipe : (s.modData (fun d => { d with notices := d.notices.erase n })).pipe p = s.pipe p := rfl
  simp [State.learnNotice, hnotice, hpipe, hfind, hat, hdyn, hold]

end

/-! SUPPORT. The stash, thawing and walks, case by case (R315, R318, R322). -/

section
variable {s : State} {p : Nat}

theorem State.stashReturn_walking (h : (s.pipe p).walk.isSome = true) : s.stashReturn p = s := by
  rw [State.stashReturn, if_pos h]

section
variable {i : Nat} {m : MacEnt}

theorem State.stashReturn_places {z : Pipe} (hwalk : (s.pipe p).walk = none) (hstash : (s.pipe p).stash = [(i, some m)])
    (hplace : ((s.pipe p).put (262144 + i) none).place m = some z) : s.stashReturn p = s.setPipe p z := by
  simp [State.stashReturn, hwalk, hstash, hplace]

theorem State.stashReturn_full (hwalk : (s.pipe p).walk = none) (hstash : (s.pipe p).stash = [(i, some m)])
    (hplace : ((s.pipe p).put (262144 + i) none).place m = none) : s.stashReturn p = s.setPipe p (s.pipe p) := by
  simp [State.stashReturn, hwalk, hstash, hplace]

end

theorem State.freezeExpiry_thaws {k : MacKey} {i : Nat} {e : MacEnt} (hfind : (s.pipe p).find k = some i)
    (hat : (s.pipe p).at i = some e) (hfrozen : e.frozen = true)
    (hpassed : (s.ms32 + 2 ^ 32 - e.freezeMs) % 2 ^ 32 < 2 ^ 31) :
    s.freezeExpiry p k =
      s.setPipe p ((s.pipe p).put i (some { e with frozen := false, moves := 0, freezeMs := 0 })) := by
  simp only [State.freezeExpiry, hfind, hat, hfrozen, decide_eq_true hpassed, Bool.and_self, if_true]

theorem State.walkExpire_closed (h : (s.pipe p).walk = none) : s.walkExpire p = s := by
  simp only [State.walkExpire, h]

theorem State.walkExpire_closes {t : Nat} (h : (s.pipe p).walk = some t) (hpassed : t + 20000000 ≤ s.clk.hubc) :
    s.walkExpire p = s.setPipe p { s.pipe p with walk := none } := by
  simp only [State.walkExpire, h, if_pos hpassed]

end

/-! SUPPORT. The ageing sweep over the slots of a bucket (R319). -/

/-- The sweep's visit to one slot: a dynamic entry that has HIT loses it, and one that has not is removed and counted. -/
def State.ageSlot (s : State) (p i : Nat) : State :=
  match (s.pipe p).at i with
  | none => s
  | some e =>
    if e.stat then s
    else if e.hit then s.setPipe p ((s.pipe p).put i (some { e with hit := false }))
    else (s.setPipe p ((s.pipe p).put i none)).pipeCnt p 11

section
variable {s : State} {p b i : Nat}

theorem State.ageing_off (h : (s.reg (fwdA 4)).toNat = 0) : s.ageing p b = s := by
  rw [State.ageing, if_pos (by simp [h])]

theorem State.ageing_early (h : s.sweepDue p b = false) : s.ageing p b = s := by
  rw [State.ageing, if_pos (by simp [h])]

/-- A due visit to a bucket, with no learn waiting, is noted and then made slot by slot. -/
theorem State.ageing_bucket (hon : (s.reg (fwdA 4)).toNat ≠ 0) (hb : b < 65536) (hdue : s.sweepDue p b = true)
    (hq : (s.pipe p).learnQ = []) :
    s.ageing p b = (slotsOf b).foldl (fun t j => t.ageSlot p j)
      (s.setPipe p { s.pipe p with swept := (s.pipe p).swept.set none b (some s.ns) }) := by
  rw [State.ageing, if_neg (by simp [hon, hdue]), State.learnAll_of_empty hq]
  simp only [if_pos hb]
  rfl

theorem State.ageSlot_empty (h : (s.pipe p).at i = none) : s.ageSlot p i = s := by
  simp only [State.ageSlot, h]

/-- Empty slots leave a visit as it is. -/
theorem State.foldl_ageSlot_empty {l : List Nat} (h : ∀ j ∈ l, (s.pipe p).at j = none) :
    l.foldl (fun t j => t.ageSlot p j) s = s := by
  induction l with
  | nil => rfl
  | cons j l ih =>
    rw [List.foldl_cons, State.ageSlot_empty (h j List.mem_cons_self)]
    exact ih fun k hk => h k (List.mem_cons_of_mem _ hk)

theorem State.ageSlot_clears {e : MacEnt} (hat : (s.pipe p).at i = some e) (hdyn : e.stat = false) (hhit : e.hit = true) :
    s.ageSlot p i = s.setPipe p ((s.pipe p).put i (some { e with hit := false })) := by
  simp [State.ageSlot, hat, hdyn, hhit]

theorem State.ageSlot_removes {e : MacEnt} (hat : (s.pipe p).at i = some e) (hdyn : e.stat = false)
    (hhit : e.hit = false) : s.ageSlot p i = (s.setPipe p ((s.pipe p).put i none)).pipeCnt p 11 := by
  simp [State.ageSlot, hat, hdyn, hhit]

/-- The visit to one slot leaves the entries of the other slots of the table. -/
theorem State.ageSlot_at_other {j : Nat} (hpipes : SMap.wf (fun _ => ({} : Pipe)) s.data.pipes = true)
    (htable : SMap.wf (fun _ => (none : Option MacEnt)) (s.pipe p).table = true)
    (hi : i < 262144) (hj : j < 262144) (hne : j ≠ i) : ((s.ageSlot p i).pipe p).at j = (s.pipe p).at j := by
  have hput (e : Option MacEnt) : ((s.setPipe p ((s.pipe p).put i e)).pipe p).at j = (s.pipe p).at j := by
    rw [State.pipe_setPipe hpipes, Pipe.at_put_other htable hi hj hne]
  unfold State.ageSlot
  split
  · rfl
  split
  · rfl
  split
  · exact hput _
  · exact hput none

theorem slotsOf_nodup (b : Nat) : (slotsOf b).Nodup := by
  simp [slotsOf]

theorem lt_of_mem_slotsOf (hb : b < 65536) : ∀ i ∈ slotsOf b, i < 262144 := by
  simp only [slotsOf, List.mem_cons, List.not_mem_nil, or_false]
  omega

/-- Where one slot of a list holds an entry, the visit to the list is the visit to that slot. -/
theorem State.foldl_ageSlot_single {l : List Nat} (hnodup : l.Nodup) (hlt : ∀ j ∈ l, j < 262144) (hi : i ∈ l)
    (hpipes : SMap.wf (fun _ => ({} : Pipe)) s.data.pipes = true)
    (htable : SMap.wf (fun _ => (none : Option MacEnt)) (s.pipe p).table = true)
    (hempty : ∀ j ∈ l, j ≠ i → (s.pipe p).at j = none) :
    l.foldl (fun t j => t.ageSlot p j) s = s.ageSlot p i := by
  obtain ⟨before, after, rfl⟩ := List.append_of_mem hi
  have hfresh : i ∉ before ++ after := (List.nodup_cons.1 (List.nodup_middle.1 hnodup)).1
  have hne : ∀ j ∈ before ++ after, j ≠ i := fun j hj hji => hfresh (hji ▸ hj)
  have hmem : before ++ after ⊆ before ++ i :: after := ((List.sublist_cons_self i after).append_left before).subset
  have hnone : ∀ j ∈ before ++ after, (s.pipe p).at j = none := fun j hj => hempty j (hmem hj) (hne j hj)
  have hnone' : ∀ j ∈ after, ((s.ageSlot p i).pipe p).at j = none := fun j hj => by
    have hj' := List.mem_append_right before hj
    rw [State.ageSlot_at_other hpipes htable (hlt i hi) (hlt j (hmem hj')) (hne j hj'), hnone j hj']
  rw [List.foldl_append, State.foldl_ageSlot_empty fun j hj => hnone j (List.mem_append_left _ hj), List.foldl_cons,
    State.foldl_ageSlot_empty hnone']

end

/-! SUPPORT. The end of a flush and of a rebuild (R323, R324). -/

section
variable {s : State} {p acc : Nat}

/-- The last pipeline of a flush removes what the flush takes and completes the command (R323). -/
theorem State.flushDone_last {f : Flush} {u : State} (hq : (s.pipe p).learnQ = [])
    (hfind : (s.pipe p).flushes.find? (fun f => f.acc == acc) = some f)
    (hu : u = s.setPipe p { ((s.pipe p).keepIf (fun e => !f.takes e)) with
      flushes := (s.pipe p).flushes.filter (fun g => g.acc != acc) })
    (hlast : (List.range 8).find? (fun q => (u.pipe q).flushes.any (fun g => g.acc == acc)) = none) :
    s.flushDone p acc = u.complete acc { status := stOk, r0 :=
      f.removed + ((s.pipe p).entries.filter (fun e => f.takes e.2)).length } := by
  subst hu
  simp only [State.flushDone, State.learnAll_of_empty hq, hfind, hlast]

/-- A rebuild that places every entry switches the table (R324). -/
theorem State.rehashDone_switches {seed : W32} {y : Pipe} (hwalk : (s.pipe p).walk = none)
    (hopen : (s.pipe p).rehash = some (acc, seed)) (hbuild : (s.pipe p).rebuild seed = (y, 0)) :
    s.rehashDone p = ((s.setPipe p y).raise evRehashDone p).complete acc { status := stOk } := by
  simp [State.rehashDone, State.walkExpire_closed hwalk, hopen, hbuild, hwalk]

end

/-- Settles O31: each clause is its row in that case. -/
theorem tablesLearnAgeAndFlush : Obligations.TablesLearnAgeAndFlush := by
  refine ⟨?learns, ?refreshes, ?notices, ?walking, ?returns, ?off, ?early, ?ages, ?thaws, ?closes, ?flushed, ?rebuilt⟩
  case learns => exact fun s p r l h => congrArg (kept s) (State.learnNext_cons h)
  case refreshes => exact fun s p i r e hfind hat hup hport => State.learnOne_refreshes hfind hat hup hport
  case notices =>
    exact fun s p i n e hnotice hfind hat hdyn hold => congrArg (kept s)
      (State.learnNotice_removes hnotice hfind hat hdyn hold)
  case walking => exact fun s p h => congrArg (kept s) (State.stashReturn_walking h)
  case returns =>
    exact fun s p i m hwalk hstash =>
      ⟨fun z hplace => congrArg (kept s) (State.stashReturn_places hwalk hstash hplace),
       fun hplace => congrArg (kept s) (State.stashReturn_full hwalk hstash hplace)⟩
  case off => exact fun s p b h => congrArg (kept s) (State.ageing_off h)
  case early => exact fun s p b h => congrArg (kept s) (State.ageing_early h)
  case ages =>
    intro s p b i e hon hb hi hdue hq hat hempty hdyn hpipes htable u
    have hup : u.pipe p = { s.pipe p with swept := (s.pipe p).swept.set none b (some s.ns) } := State.pipe_setPipe hpipes
    have hslot (j : Nat) : (u.pipe p).at j = (s.pipe p).at j := by rw [hup]; rfl
    have hone : (slotsOf b).foldl (fun t j => t.ageSlot p j) u = u.ageSlot p i :=
      State.foldl_ageSlot_single (slotsOf_nodup b) (lt_of_mem_slotsOf hb) hi (State.setPipe_wf hpipes)
        (by rw [hup]; exact htable) fun j hj hne => (hslot j).trans (hempty j hj hne)
    have hvisit : s.ageing p b = u.ageSlot p i := (State.ageing_bucket hon hb hdue hq).trans hone
    exact ⟨fun hhit => congrArg (kept s) (hvisit.trans (State.ageSlot_clears ((hslot i).trans hat) hdyn hhit)),
      fun hhit => congrArg (kept s) (hvisit.trans (State.ageSlot_removes ((hslot i).trans hat) hdyn hhit))⟩
  case thaws =>
    exact fun s p mac vid dom i e hfind hat hfrozen hpassed => congrArg (kept s)
      (State.freezeExpiry_thaws hfind hat hfrozen hpassed)
  case closes => exact fun s p t h hpassed => congrArg (kept s) (State.walkExpire_closes h hpassed)
  case flushed =>
    intro s p acc f hq hfind u hlast
    exact congrArg (kept s) (State.flushDone_last hq hfind rfl hlast)
  case rebuilt =>
    exact fun s p acc seed y hwalk hopen hbuild => congrArg (kept s) (State.rehashDone_switches hwalk hopen hbuild)

end Sys2Proof.Machine

namespace Sys2Proof.Machine

/-! SUPPORT. A frame on an uplink port, check by check (R304, R305, R308, R502). -/

section
variable {s : State} {f : UpFrame}

/-- The state in which a frame's arrival on a running port is counted (R502, R507). -/
def State.uplinkCounted (s : State) (f : UpFrame) : State := ((s.fecCounts f).uplCnt f.u 0 1).uplCnt f.u 1 f.len

/-- The steering entry of a frame: its port and VID (R304). -/
def State.steerOf (s : State) (f : UpFrame) : Steer := s.data.steer.get {} (4096 * f.u + f.vid.getD 0 % 4096)

/-- A frame that has reached its die goes to the pipeline of its steering entry (R304). -/
def State.steerFrame (s : State) (f : UpFrame) (e : Steer) : State :=
  if !e.valid then s.fwdCnt 0
  else
    match s.pipeTake e.pipe 0 with
    | (false, s) => s
    | (true, s) => s.classify f e

theorem State.uplinkIngress_noPort (h : (s.uport f.u).cfg = none) : s.uplinkIngress f = s := by
  simp only [State.uplinkIngress, h]

section
variable {w l m : Nat} (hcfg : (s.uport f.u).cfg = some (w, l, m)) (hup : s.portUp f.u = true)
include hcfg hup

theorem State.uplinkIngress_badFcs (hfcs : f.fcsOk = false) : s.uplinkIngress f = (s.uplinkCounted f).uplCnt f.u 2 1 := by
  simp [State.uplinkIngress, State.uplinkCounted, hcfg, hup, hfcs]

variable (hfcs : f.fcsOk = true)
include hfcs

theorem State.uplinkIngress_long (hlen : m < f.len) : s.uplinkIngress f = (s.uplinkCounted f).uplCnt f.u 3 1 := by
  simp [State.uplinkIngress, State.uplinkCounted, hcfg, hup, hfcs, hlen]

variable (hmax : f.len ≤ m)
include hmax

theorem State.uplinkIngress_short (hlen : f.len < 64) : s.uplinkIngress f = (s.uplinkCounted f).uplCnt f.u 4 1 := by
  simp [State.uplinkIngress, State.uplinkCounted, hcfg, hup, hfcs, Nat.not_lt.2 hmax, hlen]

variable (hmin : 64 ≤ f.len)
include hmin

theorem State.uplinkIngress_control (hctrl : f.ctrl = true) :
    s.uplinkIngress f = (s.uplinkCounted f).uplCnt f.u 5 1 := by
  simp [State.uplinkIngress, State.uplinkCounted, hcfg, hup, hfcs, Nat.not_lt.2 hmax, Nat.not_lt.2 hmin, hctrl]

/-- A data frame that MACsec lets pass, that is no frame of the port's own and that its die takes is steered. -/
theorem State.uplinkIngress_steers {v y : State} (hctrl : f.ctrl = false) (hpause : f.etype ≠ 0x8808)
    (hhint : f.etype ≠ 0x88B5) (hsec : (s.uplinkCounted f).secReceive f.u f.sec = (true, v))
    (htrap : v.trapped f.u f.timing = false) (hrole : v.standby = false)
    (hdie : v.d2dTake (4 + f.u / 64) 0 f.len = (true, y)) : s.uplinkIngress f = y.steerFrame f (v.steerOf f) := by
  rw [State.uplinkCounted] at hsec
  simp only [State.uplinkIngress, hcfg]
  rw [if_neg (by simp [hup]), if_neg (by simp [hfcs]), if_neg (by omega), if_neg (by omega),
    if_neg (by simp [hctrl, hpause]), hsec]
  dsimp only
  rw [if_neg (by simp [hhint, htrap, hrole]), hdie]
  rfl

end

section
variable {e : Steer} {z : State}

theorem State.steerFrame_noSteer (h : e.valid = false) : s.steerFrame f e = s.fwdCnt 0 := by
  simp [State.steerFrame, h]

theorem State.steerFrame_over (hvalid : e.valid = true) (htake : s.pipeTake e.pipe 0 = (false, z)) :
    s.steerFrame f e = z := by
  simp [State.steerFrame, hvalid, htake]

theorem State.steerFrame_classifies (hvalid : e.valid = true) (htake : s.pipeTake e.pipe 0 = (true, z)) :
    s.steerFrame f e = z.classify f e := by
  simp [State.steerFrame, hvalid, htake]

/-- A 1:1 frame whose key names no flow counts in NO_FLOW of its pipeline (R308). -/
theorem State.classify_noFlow (hmode : e.mode = 0) (hlen : f.len ≤ 9728)
    (hkey : s.keyFlow e.pipe (e.dom, f.vid.getD 0, f.inner) = none) : s.classify f e = s.pipeCnt e.pipe 1 := by
  simp [State.classify, hmode, Nat.not_lt.2 hlen, hkey]

/-- A 1:1 frame whose key names a flow is stored for that flow alone (R308). -/
theorem State.classify_oneToOne {i : Nat} (hmode : e.mode = 0) (hlen : f.len ≤ 9728)
    (hkey : s.keyFlow e.pipe (e.dom, f.vid.getD 0, f.inner) = some i) :
    s.classify f e = s.store (2 * e.pipe) e.dom f.len false [s.downCopy f i] := by
  simp [State.classify, hmode, Nat.not_lt.2 hlen, hkey]

end
end

/-! SUPPORT. A frame from a flow, check by check (R57, R69, R79, R310, R359). -/

section
variable {s : State} {f : DnFrame}

theorem execUpstreamFrame_of_not_standby (h : s.standby = false) :
    execUpstreamFrame f s = kept s (s.upstreamFrame f) := by
  rw [execUpstreamFrame, if_neg (ne_true_of_eq_false h)]

theorem execUpstreamFrame_of_eq_self (h : s.upstreamFrame f = s) : execUpstreamFrame f s = .next s := by
  rw [execUpstreamFrame, h, ite_self, kept_self]

theorem State.upstreamFrame_noFlow (h : s.xgemFlow f.sc f.xgem = none) : s.upstreamFrame f = s := by
  simp only [State.upstreamFrame, h]

section
variable {i : Nat} (hflow : s.xgemFlow f.sc f.xgem = some i)
include hflow

/-- A frame whose burst did not arrive is lost with the fragments before it (R79, R82). -/
theorem State.upstreamFrame_noBurst (h : s.carrier f = none) : s.upstreamFrame f = s.setFrag i 0 := by
  simp only [State.upstreamFrame, hflow, h]

variable {b : Burst} {a : Alloc} {x : Flow} (hburst : s.carrier f = some (b, a)) (hx : x = (s.flow i).under f.m)
include hburst hx

theorem State.upstreamFrame_discarded (h : s.upDiscarded b a x = true) : s.upstreamFrame f = s.setFrag i 0 := by
  subst hx
  simp only [State.upstreamFrame, hflow, hburst, if_pos h]

variable (hkeep : s.upDiscarded b a x = false)
include hkeep

/-- A frame in clear on an encrypted flow is counted and dropped (R359). -/
theorem State.upstreamFrame_inClear (hkey : f.key = 0) (henc : x.encrypt = true) :
    s.upstreamFrame f = (s.setFrag i 0).ponCnt (scDie x.sc) 4 := by
  subst hx
  simp [State.upstreamFrame, hflow, hburst, hkeep, State.upKey, hkey, henc]

/-- A frame whose key can be used joins the earlier fragments of its flow (R69, R70). -/
theorem State.upstreamFrame_reassembles (hkey : s.upKey x f.key = true) (henc : x.encrypt = true → f.key ≠ 0) :
    s.upstreamFrame f = s.reassemble i f x := by
  subst hx
  simp only [State.upstreamFrame, hflow, hburst]
  rw [if_neg (ne_true_of_eq_false hkeep), if_neg (by simp [hkey]), if_neg (by simpa using henc)]

end

section
variable {i : Nat} {x : Flow}

theorem State.reassemble_waits (h : f.last = false) :
    s.reassemble i f x = s.setFrag i (s.data.frags.get 0 i + f.len) := by
  simp [State.reassemble, h]

theorem State.reassemble_completes (h : f.last = true) :
    s.reassemble i f x = (s.setFrag i 0).upArrive i { f with len := s.data.frags.get 0 i + f.len } x := by
  simp [State.reassemble, h]

/-- A frame of a bridged kind that its die and its pipeline take is bridged (R26, R304, R310). -/
theorem State.upArrive_bridges {v w : State} (hkind : x.kind ≠ 2) (hlen : f.len ≤ 9728)
    (hdie : s.d2dTake (scDie x.sc) 0 f.len = (true, v)) (hpipe : v.pipeTake (pipeOfSub x.sc) 1 = (true, w)) :
    s.upArrive i f x = w.bridge i f x := by
  simp only [State.upArrive, hdie, hpipe, if_neg hkind, if_neg (Nat.not_lt.2 hlen)]

end
end

/-! SUPPORT. Hint frames, case by case (R222). -/

section
variable {s : State} {u vid : Nat} {l : List Nat}

theorem execHintFrame_of_not_standby (h : s.standby = false) :
    execHintFrame u vid l s = kept s (s.hintFrame u vid l) := by
  rw [execHintFrame, if_neg (ne_true_of_eq_false h)]

theorem execHintFrame_of_eq_self (h : s.hintFrame u vid l = s) : execHintFrame u vid l s = .next s := by
  rw [execHintFrame, h, ite_self, kept_self]

theorem State.hintFrame_notBound (h : s.hintVlan u vid = none) : s.hintFrame u vid l = s := by
  simp only [State.hintFrame, h, ite_self]

section
variable {d : Nat} (hup : s.portUp u = true) (hbound : s.hintVlan u vid = some d)
include hup hbound

theorem State.hintFrame_malformed (h : hintFrameOk l = false) : s.hintFrame u vid l = s.fwdCnt 1 := by
  simp [State.hintFrame, hup, hbound, h]

theorem State.hintFrame_posts (h : hintFrameOk l = true) :
    s.hintFrame u vid l = (List.range (leAt l 1 1)).foldl (fun s r =>
      s.postHint d (leAt l (8 + 16 * r) 4) (leAt l (12 + 16 * r) 4) (leAt l (16 + 16 * r) 8)) s := by
  simp [State.hintFrame, hup, hbound, h]

end
end

/-- Settles O32: each clause is its row, with the frame at the check that decides it. -/
theorem framesAreSteeredAndBridged : Obligations.FramesAreSteeredAndBridged := by
  refine ⟨?noPort, ?port, ?noFlow, ?noBurst, ?burst, ?notBound, ?malformed, ?posts⟩
  case noPort => exact fun s f h => congrArg (kept s) (State.uplinkIngress_noPort h)
  case port =>
    intro s f w l m hcfg hup t
    refine ⟨fun hfcs => congrArg (kept s) (State.uplinkIngress_badFcs hcfg hup hfcs),
      fun hfcs hlen => congrArg (kept s) (State.uplinkIngress_long hcfg hup hfcs hlen),
      fun hfcs hmax hlen => congrArg (kept s) (State.uplinkIngress_short hcfg hup hfcs hmax hlen),
      fun hfcs hmax hmin hctrl => congrArg (kept s) (State.uplinkIngress_control hcfg hup hfcs hmax hmin hctrl), ?_⟩
    intro v y hfcs hmax hmin hctrl hpause hhint hsec htrap hrole hdie e
    have hsteer : s.uplinkIngress f = y.steerFrame f e :=
      State.uplinkIngress_steers hcfg hup hfcs hmax hmin hctrl hpause hhint hsec htrap hrole hdie
    refine ⟨?noSteer, ?beyondRate, ?noKey, ?stored⟩
    case noSteer => exact fun hvalid => congrArg (kept s) (hsteer.trans (State.steerFrame_noSteer hvalid))
    case beyondRate => exact fun z hvalid htake => congrArg (kept s) (hsteer.trans (State.steerFrame_over hvalid htake))
    case noKey =>
      exact fun z hvalid hmode hlen htake hkey => congrArg (kept s) (hsteer.trans
        ((State.steerFrame_classifies hvalid htake).trans (State.classify_noFlow hmode hlen hkey)))
    case stored =>
      exact fun z i hvalid hmode hlen htake hkey => congrArg (kept s) (hsteer.trans
        ((State.steerFrame_classifies hvalid htake).trans (State.classify_oneToOne hmode hlen hkey)))
  case noFlow => exact fun s f h => execUpstreamFrame_of_eq_self (State.upstreamFrame_noFlow h)
  case noBurst =>
    exact fun s f i hflow h hrole =>
      (execUpstreamFrame_of_not_standby hrole).trans (congrArg (kept s) (State.upstreamFrame_noBurst hflow h))
  case burst =>
    intro s f i b a hflow hburst hrole x
    have hexec : exec (.upstreamFrame f) s = kept s (s.upstreamFrame f) := execUpstreamFrame_of_not_standby hrole
    refine ⟨?discarded, ?inClear, ?whole⟩
    case discarded =>
      exact fun h => hexec.trans (congrArg (kept s) (State.upstreamFrame_discarded hflow hburst rfl h))
    case inClear =>
      exact fun hkeep hkey henc =>
        hexec.trans (congrArg (kept s) (State.upstreamFrame_inClear hflow hburst rfl hkeep hkey henc))
    case whole =>
      intro hkeep hkey henc
      have hjoins : s.upstreamFrame f = s.reassemble i f x :=
        State.upstreamFrame_reassembles hflow hburst rfl hkeep hkey henc
      refine ⟨fun hlast => hexec.trans (congrArg (kept s) (hjoins.trans (State.reassemble_waits hlast))), ?_⟩
      rintro n v w hlast rfl hkind hlen hdie hpipe
      exact hexec.trans (congrArg (kept s) (hjoins.trans ((State.reassemble_completes hlast).trans
        (State.upArrive_bridges hkind hlen hdie hpipe))))
  case notBound => exact fun s u vid l h => execHintFrame_of_eq_self (State.hintFrame_notBound h)
  case malformed =>
    exact fun s u vid d l hup hbound h hrole =>
      (execHintFrame_of_not_standby hrole).trans (congrArg (kept s) (State.hintFrame_malformed hup hbound h))
  case posts =>
    exact fun s u vid d l hup hbound h hrole =>
      (execHintFrame_of_not_standby hrole).trans (congrArg (kept s) (State.hintFrame_posts hup hbound h))

end Sys2Proof.Machine

namespace Sys2Proof.Machine

/-! SUPPORT. Who won the last take of a pool (R333), over takes, fills and a refill (R332). -/

section
variable {s : State} {p k m : Nat} {x y : Pool}

theorem State.pool_setPool (h : SMap.wf Pool.dflt s.buf.pools = true) : (s.setPool p x).pool p = x :=
  (SMap.get_set h ..).trans (if_pos rfl)

theorem Pool.take_won {b : Nat} (h : x.take m = some (b, y)) : y.won = x.won := by
  unfold Pool.take at h
  split at h
  · cases h
  · split at h
    · cases h
    · cases h
      rfl

/-- Filling a cache names no winner: that is left to the client that fills it. -/
theorem Pool.fill_won (x : Pool) (m k n : Nat) : (x.fill m k n).won = x.won := by
  induction n generalizing x with
  | zero => rfl
  | succ n ih =>
    rw [Pool.fill]
    split
    · rfl
    · next b y htake =>
      have htaken : y.won = x.won := Pool.take_won htake
      exact (ih _).trans htaken

/-- A refill that takes from the free lists makes its client the winner of the last take. -/
theorem exec_cacheRefill_takes (hp : p < 4) (hk : k < 17) (hlow : ((s.pool p).caches.get [] k).length < s.cacheRefill)
    (hfill : y = (s.pool p).fill s.buf.nlists k (s.cacheDepth - ((s.pool p).caches.get [] k).length))
    (htakes : y.free < (s.pool p).free) :
    exec (.cacheRefill p k) s = kept s (s.setPool p (y.wonBy k s.clk.hubc)) := by
  subst hfill
  change execCacheRefill p k s = _
  rw [execCacheRefill, if_neg (by omega), if_neg (Nat.not_le.2 hlow), if_pos htakes]

/-- The winner of the last take of a pool that an answer leaves. -/
def wonLeft (p : Nat) : Answer → Option (Nat × Nat)
  | .next t => (t.pool p).won
  | _ => none

theorem wonLeft_kept_setPool (h : SMap.wf Pool.dflt s.buf.pools = true) : wonLeft p (kept s (s.setPool p x)) = x.won :=
  congrArg Pool.won (State.pool_setPool h)

end

/-! The counterexample to O39: after reset no client has won a take and every cache is empty. The refill of client 0's
cache of pool 0 takes 64 buffers. The model notes client 0 as the winner, from whom the arbiter of R333 goes on; the
statement gives the filled pool alone, in which nobody has won. -/

/-- Pool 0 after reset, with the cache of client 0 filled. -/
def filledAtReset : Pool :=
  (State.reset.pool 0).fill State.reset.buf.nlists 0
    (State.reset.cacheDepth - ((State.reset.pool 0).caches.get [] 0).length)

theorem filledAtReset_won : filledAtReset.won = none := Pool.fill_won ..

theorem filledAtReset_takes : filledAtReset.free < (State.reset.pool 0).free := by decide +kernel

theorem reset_cacheLow : ((State.reset.pool 0).caches.get [] 0).length < State.reset.cacheRefill := by decide +kernel

/-- Refutes O39: at reset every condition of the clause on a cache below its threshold holds, but the refill also notes its
client as the winner of the last take, which the clause leaves as it was. -/
theorem not_bufferPoolsAndWindows : ¬ Obligations.BufferPoolsAndWindows := by
  unfold Obligations.BufferPoolsAndWindows
  rintro ⟨-, -, -, -, -, -, -, -, -, -, -, -, -, -, -, -, -, -, -, -, hrefill, -⟩
  have hpools : SMap.wf Pool.dflt State.reset.buf.pools = true := rfl
  have hstated : exec (.cacheRefill 0 0) State.reset = kept State.reset (State.reset.setPool 0 filledAtReset) :=
    hrefill State.reset 0 0 (by decide) (by decide) reset_cacheLow
  have hmodel := exec_cacheRefill_takes (by decide) (by decide) reset_cacheLow rfl filledAtReset_takes
  have hwon := congrArg (wonLeft 0) (hmodel.symm.trans hstated)
  rw [wonLeft_kept_setPool hpools, wonLeft_kept_setPool hpools, filledAtReset_won] at hwon
  exact absurd hwon (Option.some_ne_none _)

end Sys2Proof.Machine

namespace Sys2Proof.Machine

/-! SUPPORT. Commands of family 0x06: what their bodies answer, case by case (R353, R357 to R359, R362 to R364, R367). -/

section
variable {c : Desc} {z : State}

/-! PON ciphers and keys: domain 0 alone sets them. -/

section
variable (hdom : c.dom = 0)
include hdom

theorem bodySetCipher_state (hroad : (z.sub c.n0).road ≠ .disabled) : bodySetCipher none c z = bad stState z := by
  simp [bodySetCipher, hdom, hroad]

theorem bodyInstallPonKey_reused (h : reused (z.keySlot (131072 * (c.n0 % 4) + c.n0 / 4)).prints c.inp = true) :
    bodyInstallPonKey none c z = bad stKeyReuse z := by
  simp [bodyInstallPonKey, hdom, h]

theorem bodyInstallPonKey_ok {k : Nat} (hk : k = 131072 * (c.n0 % 4) + c.n0 / 4)
    (h : reused (z.keySlot k).prints c.inp = false) :
    bodyInstallPonKey none c z = ok (z.setKeySlot k ((z.keySlot k).write c.inp)) := by
  subst hk
  simp [bodyInstallPonKey, hdom, h]

section
variable (htree : z.isProtect (c.n0 / 2) = false)
include htree

theorem bodySetCipher_ok (hroad : (z.sub c.n0).road = .disabled) :
    bodySetCipher none c z = ok (z.setSubCph c.n0 { z.subCph c.n0 with sm4 := decide (c.n1 = 1) }) := by
  simp [bodySetCipher, hdom, htree, hroad]

theorem bodySetKeyPolicy_ok :
    bodySetKeyPolicy none c z = ok (z.setSubCph c.n0 { z.subCph c.n0 with rekeyS := c.n1 }) := by
  simp [bodySetKeyPolicy, hdom, htree]

theorem bodySwitchPonKey_empty (h : (z.keySlot (bcastSlot c.n0 c.n1)).key = none) :
    bodySwitchPonKey none c z = bad stState z := by
  simp [bodySwitchPonKey, hdom, htree, h]

theorem bodySwitchPonKey_opened {k : List Nat} (h : (z.keySlot (bcastSlot c.n0 c.n1)).key = some k) :
    bodySwitchPonKey none c z = (.opened, z.setSubCph c.n0 { z.subCph c.n0 with
      switch := (z.subCph c.n0).switch ++ [(z.clk.msc + 16, c.n1, c.acc)] }) := by
  simp [bodySwitchPonKey, hdom, htree, h]

end

theorem bodyConfigSecy_state (h : z.portSecured c.n0 = true) : bodyConfigSecy none c z = bad stState z := by
  simp [bodyConfigSecy, hdom, h]

theorem bodyConfigSecy_ok (h : z.portSecured c.n0 = false) :
    bodyConfigSecy none c z = ok (z.setSecy c.n0 { z.secy c.n0 with
      configured := true, owner := c.n1 % 64, offset := c.n1 / 64 % 4, validate := c.n1 / 256 % 4
      sciInc := c.n1 / 1024 % 2 == 1, window := c.n2 }) := by
  simp [bodyConfigSecy, hdom, h]

end

/-- The record of an INSTALL_SA of domain 0 is legal and describes `x`, for a slot `k` that no other domain holds
(R258, R362). -/
structure State.InstallsSa (z : State) (c : Desc) (k : Nat) (x : Sa) : Prop where
  word : leAt c.inp 0 2 < 1024
  slot : leAt c.inp 2 2 < 2048
  zero : leAt c.inp 0x1C 4 = 0
  zeroEnd : leAt c.inp 0x48 8 = 0
  key : k = saKey (leAt c.inp 0 2 % 128 / 64) (leAt c.inp 2 2)
  block : x = readSaBlock c.inp c.dom (z.sa k).prints
  number : x.rx = true ∨ x.pn ≠ 0
  dom : c.dom = 0
  held : (z.sa k).inst = true → (z.sa k).dom = 0

/-- After those checks, the key and the room for the SA decide (R361, R364). -/
theorem State.InstallsSa.body {k : Nat} {x : Sa} (h : z.InstallsSa c k x) :
    bodyInstallSa none c z =
      if reused (z.sa k).prints x.key then bad stKeyReuse z
      else if x.rx && decide (63 ≤ (z.rxScs (leAt c.inp 0 2 % 128) x.sci).length) then bad stNoRoom z
      else if !x.rx && z.otherSa k x (fun y => y.sci != x.sci) then bad stNoRoom z
      else if z.otherSa k x (fun y => y.sci == x.sci && y.an == x.an) then bad stExists z
      else ok (z.setSa k x) := by
  obtain ⟨hword, hslot, hzero, hend, rfl, rfl, hpn, hdom, hheld⟩ := h
  unfold bodyInstallSa
  extract_lets w slot u k old new
  have hlegal : ¬(1024 ≤ w || 2048 ≤ slot || leAt c.inp 0x1C 4 != 0 || leAt c.inp 0x48 8 != 0 ||
      (!new.rx && new.pn == 0)) = true := by
    have hnew : new.rx = true ∨ new.pn ≠ 0 := hpn
    have hw : ¬1024 ≤ w := Nat.not_le.2 hword
    have hs : ¬2048 ≤ slot := Nat.not_le.2 hslot
    rcases hnew with hnew | hnew <;> simp [hw, hs, hzero, hend, hnew]
  have hown : ¬((c.dom != 0 && (z.secy u).owner != c.dom) || (old.inst && old.dom != c.dom)) = true := by
    simpa [hdom] using hheld
  have hquota : ¬(c.dom != 0 && !old.inst && decide ((z.domE c.dom).quota.sas ≤ z.sasOf c.dom)) = true := by simp [hdom]
  rw [if_neg hlegal, if_neg hown, if_neg hquota]
  rfl

theorem bodyInstallSa_reused {k : Nat} {x : Sa} (h : z.InstallsSa c k x) (hkey : reused (z.sa k).prints x.key = true) :
    bodyInstallSa none c z = bad stKeyReuse z := by
  rw [h.body, if_pos hkey]

/-- A new key for a transmit SA of the only transmit channel of its port, which has no other SA of that number. -/
theorem bodyInstallSa_ok {k : Nat} {x : Sa} (h : z.InstallsSa c k x) (htx : x.rx = false)
    (hkey : reused (z.sa k).prints x.key = false) (hsc : z.otherSa k x (fun y => y.sci != x.sci) = false)
    (han : z.otherSa k x (fun y => y.sci == x.sci && y.an == x.an) = false) :
    bodyInstallSa none c z = ok (z.setSa k x) := by
  simp [h.body, htx, hkey, hsc, han]

/-! The SA that a command names. -/

theorem bodyEnableSa_notFound (h : (z.sa (saOf c)).inst = false) : bodyEnableSa none c z = bad stNotFound z := by
  simp [bodyEnableSa, h]

section
variable (hinst : (z.sa (saOf c)).inst = true)
include hinst

theorem bodyRemoveSa_domain (hdom : (z.sa (saOf c)).dom ≠ c.dom) : bodyRemoveSa none c z = bad stDomain z := by
  simp [bodyRemoveSa, hinst, hdom]

variable (hdom : (z.sa (saOf c)).dom = c.dom)
include hdom

theorem bodyEnableSa_counter (htx : (z.sa (saOf c)).rx = false)
    (h : (z.sa (saOf c)).st = saExhausted ∨ pnMax < (z.sa (saOf c)).pn) :
    bodyEnableSa none c z = bad stCounter z := by
  have hspent : (!(z.sa (saOf c)).rx &&
      ((z.sa (saOf c)).st == saExhausted || decide (pnMax < (z.sa (saOf c)).pn))) = true := by
    rcases h with h | h <;> simp [htx, h]
  rw [bodyEnableSa, if_neg (by simp [hinst]), if_neg (by simp [hdom]), if_pos hspent]

/-- The SA `j` that transmits on the port stops, and the port forgets that one was exhausted (R362, R363). -/
theorem bodyEnableSa_replaces {j : Nat} {w : State} (htx : (z.sa (saOf c)).rx = false)
    (hst : (z.sa (saOf c)).st ≠ saExhausted) (hpn : (z.sa (saOf c)).pn ≤ pnMax)
    (hj : z.txSa (z.sa (saOf c)).port = some j) (hne : j ≠ saOf c)
    (hw : w = (z.setSa j { z.sa j with st := saStopped }).forgetExh (z.sa (saOf c)).port (fun _ => true)) :
    bodyEnableSa none c z = ok (w.setSa (saOf c) { w.sa (saOf c) with st := saEnabled }) := by
  subst hw
  have hleft : ¬((z.sa (saOf c)).st == saExhausted || decide (pnMax < (z.sa (saOf c)).pn)) = true := by
    simp [hst, Nat.not_lt.2 hpn]
  simp only [bodyEnableSa, htx, hj, Bool.not_false, Bool.true_and, Bool.false_eq_true, if_false]
  rw [if_neg (by simp [hinst]), if_neg (by simp [hdom]), if_neg hleft, if_neg hne]

theorem bodyEnableSa_receive (hrx : (z.sa (saOf c)).rx = true) :
    bodyEnableSa none c z = ok (z.setSa (saOf c) { z.sa (saOf c) with st := saEnabled }) := by
  simp [bodyEnableSa, hinst, hdom, hrx]

theorem bodyRemoveSa_ok : bodyRemoveSa none c z = ok (z.zeroSa (saOf c)) := by
  simp [bodyRemoveSa, hinst, hdom]

theorem bodyReadSa_ok : bodyReadSa none c z = ok (z.outBuf c (z.sa (saOf c)).bytes) := by
  simp [bodyReadSa, hinst, hdom]

end

/-! The terminal that REKEY_TERMINAL names. -/

theorem bodyRekeyTerminal_notFound (h : (z.term (c.n0 % 2 ^ 16) (c.n0 / 2 ^ 16)).act = .free) :
    bodyRekeyTerminal none c z = bad stNotFound z := by
  simp [-Nat.reducePow, bodyRekeyTerminal, h]

theorem bodyRekeyTerminal_ok (h : (z.term (c.n0 % 2 ^ 16) (c.n0 / 2 ^ 16)).act = .operation)
    (hdom : (z.term (c.n0 % 2 ^ 16) (c.n0 / 2 ^ 16)).dom = c.dom) (htree : z.isProtect (c.n0 % 2 ^ 16 / 2) = false)
    (htest : z.underTest (c.n0 % 2 ^ 16) (c.n0 / 2 ^ 16) = false) :
    bodyRekeyTerminal none c z = ok (z.kexStart (c.n0 % 2 ^ 16) (c.n0 / 2 ^ 16)) := by
  simp [-Nat.reducePow, bodyRekeyTerminal, h, hdom, htree, htest]

end

/-- Settles O35: each clause is the command's body in that case, which completes or stays open. -/
theorem keyAndCipherCommands : Obligations.KeyAndCipherCommands := by
  refine ⟨?cipher, ?cipherState, ?policy, ?ponReused, ?ponKey, ?switchEmpty, ?switches, ?secured, ?secy, ?saReused, ?sa,
    ?noSa, ?spent, ?replaces, ?receives, ?removes, ?removeDomain, ?reads, ?rekeys, ?noTerm⟩
  case cipher =>
    exact fun c s h hdom htree hroad => congrArg (kept s) (runCmd_of_fin h (bodySetCipher_ok hdom htree hroad))
  case cipherState =>
    exact fun c s h hdom hroad => congrArg (kept s) (runCmd_of_fin h (bodySetCipher_state hdom hroad))
  case policy =>
    exact fun c s h hdom htree => congrArg (kept s) (runCmd_of_fin h (bodySetKeyPolicy_ok hdom htree))
  case ponReused =>
    exact fun c s h k hdom hk hkey => congrArg (kept s) (runCmd_of_fin h (bodyInstallPonKey_reused hdom (hk ▸ hkey)))
  case ponKey =>
    exact fun c s h k hdom hk hkey => congrArg (kept s) (runCmd_of_fin h (bodyInstallPonKey_ok hdom hk hkey))
  case switchEmpty =>
    exact fun c s h hdom htree hkey => congrArg (kept s) (runCmd_of_fin h (bodySwitchPonKey_empty hdom htree hkey))
  case switches =>
    exact fun c s h k hdom htree hkey => congrArg (kept s) (runCmd_of_opened h (bodySwitchPonKey_opened hdom htree hkey))
  case secured =>
    exact fun c s h hdom hport => congrArg (kept s) (runCmd_of_fin h (bodyConfigSecy_state hdom hport))
  case secy => exact fun c s h hdom hport => congrArg (kept s) (runCmd_of_fin h (bodyConfigSecy_ok hdom hport))
  case saReused =>
    exact fun c s h k x hword hslot hzero hend hk hx hpn hdom hheld hkey => congrArg (kept s) (runCmd_of_fin h
      (bodyInstallSa_reused ⟨hword, hslot, hzero, hend, hk, hx, hpn, hdom, hheld⟩ hkey))
  case sa =>
    exact fun c s h k x hword hslot hzero hend hk hx htx hpn hdom hheld hkey hsc han => congrArg (kept s) (runCmd_of_fin h
      (bodyInstallSa_ok ⟨hword, hslot, hzero, hend, hk, hx, .inr hpn, hdom, hheld⟩ htx hkey hsc han))
  case noSa => exact fun c s h hinst => congrArg (kept s) (runCmd_of_fin h (bodyEnableSa_notFound hinst))
  case spent =>
    exact fun c s h hinst hdom htx hspent => congrArg (kept s) (runCmd_of_fin h
      (bodyEnableSa_counter hinst hdom htx hspent))
  case replaces =>
    exact fun c s h j w hinst hdom htx hst hpn hj hne hw => congrArg (kept s) (runCmd_of_fin h
      (bodyEnableSa_replaces hinst hdom htx hst hpn hj hne hw))
  case receives =>
    exact fun c s h hinst hdom hrx => congrArg (kept s) (runCmd_of_fin h (bodyEnableSa_receive hinst hdom hrx))
  case removes => exact fun c s h hinst hdom => congrArg (kept s) (runCmd_of_fin h (bodyRemoveSa_ok hinst hdom))
  case removeDomain =>
    exact fun c s h hinst hdom => congrArg (kept s) (runCmd_of_fin h (bodyRemoveSa_domain hinst hdom))
  case reads => exact fun c s h hinst hdom => congrArg (kept s) (runCmd_of_fin h (bodyReadSa_ok hinst hdom))
  case rekeys =>
    exact fun c s h hact hdom htree htest => congrArg (kept s) (runCmd_of_fin h
      (bodyRekeyTerminal_ok hact hdom htree htest))
  case noTerm => exact fun c s h hact => congrArg (kept s) (runCmd_of_fin h (bodyRekeyTerminal_notFound hact))

end Sys2Proof.Machine

namespace Sys2Proof.Machine

/-! SUPPORT. The key exchange of a terminal, case by case (R358, R364, R366). -/

section
variable {s : State} {sc t n : Nat} {k : List Nat}

theorem State.keyReport_closed (h : (s.kex sc t).openMiss = none) : s.keyReport sc t k = s := by
  simp [State.keyReport, h]

section
variable (hopen : (s.kex sc t).openMiss = some n) (hact : (s.term sc t).act = .operation)
include hopen hact

theorem State.keyReport_full (h : (s.kex sc t).full = true) : s.keyReport sc t k = s := by
  simp [State.keyReport, hopen, hact, h]

theorem State.keyReport_reused (hfull : (s.kex sc t).full = false)
    (h : reused (s.keySlot (uniSlot sc t (s.kex sc t).other)).prints k = true) :
    s.keyReport sc t k = s.kexMiss sc t := by
  simp [State.keyReport, hopen, hact, hfull, h]

/-- A key of a terminal of domain 0 is taken, and the terminal and the other device of the pair are told. -/
theorem State.keyReport_takes (hfull : (s.kex sc t).full = false) (hdom : (s.term sc t).dom = 0)
    (h : reused (s.keySlot (uniSlot sc t (s.kex sc t).other)).prints k = false) :
    s.keyReport sc t k = ((s.takeKey sc t (s.kex sc t).other (s.clk.msc + 16) k).ploam sc t plKeyControl
      [1, (s.kex sc t).other] s.nextFrame).tell
        ([1, sc, t, (s.kex sc t).other, s.clk.msc + 16] ++ Config.wrap k) := by
  simp [State.keyReport, hopen, hact, hfull, hdom, h]

theorem execKeyRequestTimeout_missed (h : (s.kex sc t).started + 800 ≤ s.clk.msc) :
    execKeyRequestTimeout sc t s = kept s (s.kexMiss sc t) := by
  simp [execKeyRequestTimeout, hopen, hact, Nat.not_lt.2 h]

end

theorem State.kexMiss_repeats (hopen : (s.kex sc t).openMiss = some n) (hn : n < 2) :
    s.kexMiss sc t =
      (s.setKex sc t { s.kex sc t with openMiss := some (n + 1), started := s.clk.msc }).keyRequest sc t := by
  simp only [State.kexMiss, hopen, if_pos (show n + 1 < 3 by omega)]

theorem State.kexMiss_fails (hopen : (s.kex sc t).openMiss = some 2) : s.kexMiss sc t = s.kexFail sc t := by
  simp only [State.kexMiss, hopen, if_neg (show ¬2 + 1 < 3 by decide)]

theorem State.kexStart_starts (hact : (s.term sc t).act = .operation) (hclosed : (s.kex sc t).openMiss = none)
    (hrole : s.standby = false) :
    s.kexStart sc t = (s.setKex sc t { s.kex sc t with
      openMiss := some 0, started := s.clk.msc
      stag := if (s.kex sc t).started = 0 then Config.rekeyStagger (512 * sc + t) else 0 }).keyRequest sc t := by
  simp only [State.kexStart]
  rw [if_neg (by simp [hact, hclosed, hrole])]

theorem execRekeyTimer_early
    (h : s.clk.msc + (s.kex sc t).stag % (8000 * (s.subCph sc).rekeyS) <
      (s.kex sc t).started + 8000 * (s.subCph sc).rekeyS) :
    execRekeyTimer sc t s = .next s :=
  (congrArg (kept s) (if_neg (Nat.not_le.2 h))).trans (kept_self s)

theorem execRekeyTimer_due
    (h : (s.kex sc t).started + 8000 * (s.subCph sc).rekeyS ≤
      s.clk.msc + (s.kex sc t).stag % (8000 * (s.subCph sc).rekeyS)) :
    execRekeyTimer sc t s = kept s (s.kexStart sc t) :=
  congrArg (kept s) (if_pos h)

end

/-! SUPPORT. What the counts of the cipher units leave as it was: the cipher state, slots and keys among it. -/

section
variable (s : State)

@[simp] theorem State.ponCnt_cph (d k : Nat) : (s.ponCnt d k).cph = s.cph := rfl

@[simp] theorem State.macCnt_cph (e k : Nat) : (s.macCnt e k).cph = s.cph := rfl

@[simp] theorem State.countError_cph (cls u : Nat) : (s.countError cls u).cph = s.cph := rfl

@[simp] theorem State.cipherUpset_cph (q : ChunkReq) (u : Nat) : (s.cipherUpset q u).cph = s.cph := by
  cases hq : q.trunk <;> simp [State.cipherUpset, hq]

end

/-! SUPPORT. A chunk on a tree die, case by case (R350, R355, R357, R360). -/

section
variable {s : State} {q : ChunkReq} {key : List Nat}

theorem State.cipherChunk_cut (hblock : q.block ≠ 0) (hcut : s.cph.cut.get false (chunkId q) = true) :
    s.cipherChunk q = s := by
  simp [State.cipherChunk, hblock, hcut]

/-- A request of which its die can be given the chunk, and whose frame has not been dropped. -/
structure State.TakesChunk (s : State) (q : ChunkReq) : Prop where
  fits : s.chunkOk q = true
  whole : q.block = 0 ∨ s.cph.cut.get false (chunkId q) = false

theorem State.TakesChunk.passes (h : s.TakesChunk q) :
    ¬(!s.chunkOk q || q.block != 0 && s.cph.cut.get false (chunkId q)) = true := by
  obtain ⟨hfits, hblock | hcut⟩ := h
  · simp [hfits, hblock]
  · simp [hfits, hcut]

/-- A trunk die drops the frame of a chunk that its units cannot compute in the interval (R349, R356). -/
theorem State.cipherChunk_overload (h : s.TakesChunk q) (htrunk : q.trunk = true)
    (hload : 200000 * s.cphUnits 4 q.die UnitSt.inService < 15 * (s.cph.macLoad.get 0 q.die + chunkCost q)) :
    s.cipherChunk q = (s.setCut q true).macCnt q.die 2 := by
  have htake : s.macTake q = (false, s) := by simp [State.macTake, htrunk, hload]
  rw [State.cipherChunk, if_neg h.passes, htake]

section
variable (htree : q.trunk = false)
include htree

theorem State.macTake_tree : s.macTake q = (true, s) := by simp [State.macTake, htree]

theorem State.chunkKey_tree : s.chunkKey q = (s.keySlot (131072 * q.die + q.slot)).key := by
  simp [State.chunkKey, htree]

theorem State.chunkMiss_tree :
    s.chunkMiss q = if q.up then (s.setCut q true).add32 (subA (slotSub q.die q.slot) 0x38) 1
      else (s.setCut q true).ponCnt q.die 3 := by
  simp [State.chunkMiss, htree]

theorem State.cipherChunk_noKey (h : s.TakesChunk q) (hkey : (s.keySlot (131072 * q.die + q.slot)).key = none) :
    s.cipherChunk q = s.chunkMiss q := by
  rw [State.cipherChunk, if_neg h.passes, State.macTake_tree htree]
  simp only [State.chunkKey_tree htree, hkey]

theorem State.cipherChunk_serves (h : s.TakesChunk q)
    (hkey : (s.keySlot (131072 * q.die + q.slot)).key = some key) :
    s.cipherChunk q = (if q.block = 0 then (s.ponCnt q.die 0).setCut q false else s).chunkServe q key := by
  rw [State.cipherChunk, if_neg h.passes, State.macTake_tree htree]
  simp only [State.chunkKey_tree htree, hkey, htree, Bool.false_eq_true, if_false]

/-- The first chunk of a frame counts its request, and its block counter starts at 0. -/
theorem State.cipherChunk_first (h : s.TakesChunk q) (hkey : (s.keySlot (131072 * q.die + q.slot)).key = some key)
    (hblock : q.block = 0) (hretry : q.retry = none) :
    s.cipherChunk q = ((s.ponCnt q.die 0).setCut q false).emit (.chunk q.die q.slot
      (cipherBytes (b2n (s.subCph (slotSub q.die q.slot)).sm4) key (s.frameCtr q) 0 0 q.bytes)) := by
  have hout : ((s.ponCnt q.die 0).setCut q false).chunkOut q key = .chunk q.die q.slot
      (cipherBytes (b2n (s.subCph (slotSub q.die q.slot)).sm4) key (s.frameCtr q) 0 0 q.bytes) := by
    simp only [State.chunkOut, htree, hblock, Bool.false_eq_true, if_false]
    rfl
  rw [State.cipherChunk_serves htree h hkey, if_pos hblock, State.chunkServe, hretry]
  exact congrArg (State.emit _) hout

/-- A chunk that a second unit fails too is dropped with its frame: its slot still holds the key after the first upset. -/
theorem State.cipherChunk_failsTwice {u : Nat} (h : s.TakesChunk q)
    (hkey : (s.keySlot (131072 * q.die + q.slot)).key = some key) (hblock : q.block ≠ 0)
    (hretry : q.retry = some (u, true)) :
    s.cipherChunk q = (((s.cipherUpset q q.unit).cipherUpset q u).setCut q true).ponCnt q.die 2 := by
  have hkeeps : (s.cipherUpset q q.unit).chunkKey q = some key := by
    rw [State.chunkKey_tree htree, State.keySlot, State.cipherUpset_cph]
    exact hkey
  rw [State.cipherChunk_serves htree h hkey, if_neg hblock]
  simp only [State.chunkServe, hretry, hkeeps, htree, Bool.false_eq_true, if_false, if_true]

end

end

/-! SUPPORT. The known-answer test of a unit of a tree die (R355). -/

section
variable {s : State} {u : Nat}

theorem State.katTest_retired (h : (s.health 3 u).st = .retired) (b : Bool) : s.katTest 3 u b = s := by
  rw [State.katTest, if_pos (by simp [h, UnitSt.inService])]

/-- The test of a spare whose period is over records its milestone and result; a failed one is an error of the unit. -/
theorem State.katTest_due (hu : u < 1408) (hst : (s.health 3 u).st = .spare)
    (hdue : (s.health 3 u).testMsc = 0 ∨ (s.health 3 u).testMsc + s.katPeriod ≤ s.clk.msc) (b : Bool) :
    s.katTest 3 u b =
      let t := s.setHealth 3 u { s.health 3 u with testMsc := s.clk.msc, testPass := b }
      if b then t else t.countError 3 u := by
  have hbuilt : ¬clsUnits 3 ≤ u := Nat.not_le.2 hu
  have hrun : ¬((3 != 3 && 3 != 4) || decide (clsUnits 3 ≤ u) ||
      !((s.health 3 u).st == .spare || (s.health 3 u).st.inService) ||
      ((s.health 3 u).testMsc != 0 && decide (s.clk.msc < (s.health 3 u).testMsc + s.katPeriod))) = true := by
    rcases hdue with hdue | hdue
    · simp [hbuilt, hst, hdue]
    · simp [hbuilt, hst, Nat.not_lt.2 hdue]
  rw [State.katTest, if_neg hrun]

end

/-- Settles O36: each clause is its row in that case. -/
theorem keyExchangeAndChunks : Obligations.KeyExchangeAndChunks := by
  refine ⟨?closed, ?full, ?reused, ?takes, ?early, ?due, ?repeats, ?fails, ?noKey, ?cut, ?first, ?failsTwice, ?overload,
    ?retired, ?tested⟩
  case closed => exact fun s sc t k h => congrArg (kept s) (State.keyReport_closed h)
  case full => exact fun s sc t n k hopen hact h => congrArg (kept s) (State.keyReport_full hopen hact h)
  case reused =>
    exact fun s sc t n k hopen hact hfull h => congrArg (kept s) (State.keyReport_reused hopen hact hfull h)
  case takes =>
    exact fun s sc t n k hopen hact hfull hdom h =>
      congrArg (kept s) (State.keyReport_takes hopen hact hfull hdom h)
  case early => exact fun s sc t => execRekeyTimer_early
  case due =>
    exact fun s sc t h hact hclosed hrole =>
      (execRekeyTimer_due h).trans (congrArg (kept s) (State.kexStart_starts hact hclosed hrole))
  case repeats =>
    exact fun s sc t n hopen hact h hn =>
      (execKeyRequestTimeout_missed hopen hact h).trans (congrArg (kept s) (State.kexMiss_repeats hopen hn))
  case fails =>
    exact fun s sc t hopen hact h =>
      (execKeyRequestTimeout_missed hopen hact h).trans (congrArg (kept s) (State.kexMiss_fails hopen))
  case noKey =>
    exact fun s q hfits htree hwhole hkey => congrArg (kept s)
      ((State.cipherChunk_noKey htree ⟨hfits, hwhole⟩ hkey).trans (State.chunkMiss_tree htree))
  case cut => exact fun s q hblock hcut => congrArg (kept s) (State.cipherChunk_cut hblock hcut)
  case first =>
    exact fun s q k hfits htree hkey hblock hretry => congrArg (kept s)
      (State.cipherChunk_first htree ⟨hfits, .inl hblock⟩ hkey hblock hretry)
  case failsTwice =>
    exact fun s q k u hfits htree hkey hblock hcut hretry => congrArg (kept s)
      (State.cipherChunk_failsTwice htree ⟨hfits, .inr hcut⟩ hkey hblock hretry)
  case overload =>
    exact fun s q hfits htrunk hwhole hload => congrArg (kept s)
      (State.cipherChunk_overload ⟨hfits, hwhole⟩ htrunk hload)
  case retired => exact fun s u b h => congrArg (kept s) (State.katTest_retired h b)
  case tested =>
    exact fun s u hu hst hdue =>
      ⟨congrArg (kept s) (State.katTest_due hu hst hdue true), congrArg (kept s) (State.katTest_due hu hst hdue false)⟩

end Sys2Proof.Machine

namespace Sys2Proof.Machine

/-! SUPPORT. What a step leaves of the queue: every meaning answers through `kept`, or leaves the state as it is. -/

/-- Where the answer is a next state, its queue is `q`. -/
def QueueIs (x : Answer) (q : List Instr) : Prop := ∀ t, x = .next t → t.pending = q

theorem queueIs_kept (s t : State) : QueueIs (kept s t) s.pending := fun _ h => by cases h; rfl

theorem queueIs_next (s : State) : QueueIs (.next s) s.pending := fun _ h => by cases h; rfl

theorem queueIs_fault (f : Fault) (q : List Instr) : QueueIs (.fault f) q := fun _ h => by cases h

theorem State.registerWrite_queueIs (s : State) (x : Access) (d : W64) : QueueIs (s.registerWrite x d) s.pending := by
  unfold State.registerWrite
  split
  · exact queueIs_kept _ _
  split
  · exact queueIs_fault _ _
  split
  · exact queueIs_next _
  split <;> exact queueIs_kept _ _

theorem State.registerRead_queueIs (s : State) (x : Access) : QueueIs (s.registerRead x) s.pending := by
  unfold State.registerRead
  split
  · exact queueIs_fault _ _
  split
  · exact queueIs_next _
  split
  · exact queueIs_kept _ _
  split <;> exact queueIs_kept _ _

theorem execWrongWidthAccess_queueIs (x : Access) (wr : Bool) (s : State) :
    QueueIs (execWrongWidthAccess x wr s) s.pending := by
  unfold execWrongWidthAccess
  split
  · exact queueIs_fault _ _
  split
  · exact queueIs_next _
  split <;> exact queueIs_kept _ _

/-- A command that goes on leaves the queue it is run with. -/
theorem exec_queueIs (i : Instr) (s : State) : QueueIs (exec i s) s.pending := by
  by_cases h : isAccess i = false
  · obtain ⟨t, ht⟩ := exec_eq_kept h s
    exact ht ▸ queueIs_kept s t
  · cases i
    case registerWrite x d => exact s.registerWrite_queueIs x d
    case registerRead x => exact s.registerRead_queueIs x
    case wrongWidthAccess x wr => exact execWrongWidthAccess_queueIs x wr s
    all_goals exact absurd rfl h

@[simp] theorem State.tick_pending (s : State) : s.tick.pending = s.pending := by
  unfold State.tick
  split <;> rfl

/-- A step that goes on takes the front command off the queue. -/
theorem step_pending {s t : State} (h : step s = .next t) : t.pending = s.pending.tail := by
  rcases hq : s.pending with _ | ⟨c, r⟩
  · rw [step_nil hq] at h
    cases h
    rw [State.tick_pending, hq, List.tail_nil]
  · rw [step_cons hq] at h
    exact exec_queueIs c _ t h

/-- A step whose front command is no register access goes on, with the rest of the queue. -/
theorem step_goesOn {s : State} {c : Instr} {r : List Instr} (hq : s.pending = c :: r) (hc : isAccess c = false) :
    ∃ t, step s = .next t ∧ t.pending = r := by
  obtain ⟨u, hu⟩ := exec_eq_kept hc { s with pending := r }
  exact ⟨{ u with pending := r }, (step_cons hq).trans hu, rfl⟩

/-- A run whose first step goes on is the run from the next state. -/
theorem run_succ_of_step {M : Host.Core} {s t : M.State} (n : Nat) (h : M.step s = .next t) :
    M.run (n + 1) s = M.run n t := by
  rw [Host.Core.run, h]

/-- A queue without register accesses is served to its end, in as many steps as it holds commands. -/
theorem run_serves_queue (q : List Instr) (hq : ∀ i ∈ q, isAccess i = false) (s : State) (hs : s.pending = q) :
    ∃ t, Host.Core.run Sys2Proof.core q.length s = .next t ∧ t.pending = [] := by
  induction q generalizing s with
  | nil => exact ⟨s, rfl, hs⟩
  | cons c r ih =>
    obtain ⟨u, hu, hr⟩ := step_goesOn hs (hq c List.mem_cons_self)
    obtain ⟨t, ht, hend⟩ := ih (fun i hi => hq i (List.mem_cons_of_mem c hi)) u hr
    exact ⟨t, (run_succ_of_step (M := Sys2Proof.core) r.length hu).trans ht, hend⟩

/-- Settles O56: a step takes the front command off the queue, and one that is no register access always goes on. -/
theorem everyQueueIsServedInOrder : Obligations.EveryQueueIsServedInOrder := by
  refine ⟨fun s t => step_pending, fun s t hwf hstep i hi => ?_, fun s h => run_serves_queue s.pending h s rfl⟩
  rw [step_pending hstep] at hi
  exact hwf i (List.mem_of_mem_tail hi)

end Sys2Proof.Machine

namespace Sys2Proof.Machine

/-! SUPPORT. The domains of the state after reset: none but domain 0 exists (R9). -/

theorem State.reset_domRoad {d : Nat} (h : 1 ≤ d) : State.reset.domRoad d = .disabled := by
  rw [State.domRoad, if_neg (Nat.ne_zero_of_lt h), if_pos (show State.reset.host.numVfs < d from h)]

/-- Settles O15: the registers read their reset values, and the other parts of the state are empty. -/
theorem resetLeavesTheStatedValues : Obligations.ResetLeavesTheStatedValues := by
  have hstage : State.reset.stage = 0 := by decide
  have hcause : State.reset.fld (pwrA 0x4) 3 0 = 1 := by decide
  have hid : State.reset.reg 0x0 = 0x019201A1#64 := by decide
  have hqueue : State.reset.QueueWf := fun _ hi => absurd hi List.not_mem_nil
  have hphase : State.reset.clk.cycle < State.reset.clk.phase.nextPoint := Clk.onTime_reset
  exact ⟨⟨hstage, rfl, rfl, rfl, rfl, rfl, hcause, rfl, fun _ => rfl, fun _ => State.reset_domRoad, hid⟩, hqueue, rfl, rfl,
    hphase⟩

end Sys2Proof.Machine

namespace Sys2Proof.Machine

/-! SUPPORT. Commands of family 0x0E: what their bodies answer, case by case (R417, R418, R421). -/

section
variable {c : Desc} {z : State}

theorem bodyRetireHw_retired (h : (z.health (hwCls c) (hwUnit c)).st = .retired) :
    bodyRetireHw none c z = bad stRetired z := by
  simp [bodyRetireHw, h]

/-- The last unit in service of a class without which the device cannot be managed stays in service. -/
theorem bodyRetireHw_last (hcls : hwCls c = 7 ∨ hwCls c = 8 ∨ hwCls c = 9)
    (h : (z.health (hwCls c) (hwUnit c)).st = .active) (hspare : z.hasSpare (hwCls c) = false) :
    bodyRetireHw none c z = bad stState z := by
  simp [bodyRetireHw, h, UnitSt.alive, hcls, hspare]

/-- A unit of classes 0 to 2 is retired at a snapshot, with the change that suits it. -/
theorem bodyRetireHw_defers {e : Nat} (hcls : hwCls c ≤ 2)
    (h : (z.health (hwCls c) (hwUnit c)).st = .active ∨ (z.health (hwCls c) (hwUnit c)).st = .spare)
    (he : z.resolveE none c = .ok e) (hroom : z.pendRoom = true) :
    bodyRetireHw none c z = deferred e ((z.defer c e (z.retireChange (hwCls c) (hwUnit c))).retireNamed (hwUnit c) e
      (hwCls c) (z.retireChange (hwCls c) (hwUnit c))) := by
  have hother : ¬(hwCls c = 7 ∨ hwCls c = 8 ∨ hwCls c = 9) := by omega
  rcases h with h | h <;> simp [bodyRetireHw, h, UnitSt.alive, hother, hcls, he, hroom]

section
variable (hcls : 2 < hwCls c) (hother : hwCls c < 7 ∨ hwCls c = 10) (he : c.effect = 0)
include hcls hother he

theorem bodyRetireHw_active (h : (z.health (hwCls c) (hwUnit c)).st = .active) :
    bodyRetireHw none c z = ok (z.faultOut (hwCls c) (hwUnit c)) := by
  have hnamed : ¬(hwCls c = 7 ∨ hwCls c = 8 ∨ hwCls c = 9) := by omega
  simp [bodyRetireHw, h, UnitSt.alive, hnamed, Nat.not_le.2 hcls, he]

theorem bodyRetireHw_spare (h : (z.health (hwCls c) (hwUnit c)).st = .spare) :
    bodyRetireHw none c z = ok (if hwCls c = 5 then z.pcSpareOut (hwUnit c) else
      z.setUnitSt (hwCls c) (hwUnit c) .retired) := by
  obtain ⟨h7, h8, h9⟩ : hwCls c ≠ 7 ∧ hwCls c ≠ 8 ∧ hwCls c ≠ 9 := by omega
  simp [bodyRetireHw, h, UnitSt.alive, h7, h8, h9, Nat.not_le.2 hcls, he]

end

theorem bodyReturnHw_state (h : (z.health (hwCls c) (hwUnit c)).st ≠ .retired) :
    bodyReturnHw none c z = bad stState z := by
  simp [bodyReturnHw, h]

theorem State.testResult_draw {v : W64} {w : State} (hdraw : z.draw = (v, w)) (f : ExecRec → Bool) :
    z.testResult none f = (v.toNat % 2 == 1, w) := by
  rw [State.testResult, hdraw]

/-- The unit is tested before it returns, and the test decides. -/
theorem bodyReturnHw_tested {v : W64} {w t : State} (hcls : 0 < hwCls c) (hmgmt : hwCls c ≠ 7)
    (h : (z.health (hwCls c) (hwUnit c)).st = .retired) (hdraw : z.draw = (v, w))
    (ht : t = w.setHealth (hwCls c) (hwUnit c) { w.health (hwCls c) (hwUnit c) with
      testMsc := w.clk.msc, testPass := v.toNat % 2 == 1 }) :
    bodyReturnHw none c z = if v.toNat % 2 = 1 then ok (t.setUnitSt (hwCls c) (hwUnit c) .spare)
      else bad stRetired (t.countError (hwCls c) (hwUnit c)) := by
  subst ht
  simp [bodyReturnHw, h, State.testResult_draw hdraw, Nat.ne_of_gt hcls, hmgmt]

theorem bodyRunSelfTest_state (h : (z.health (hwCls c) (hwUnit c)).st = .active) :
    bodyRunSelfTest none c z = bad stState z := by
  simp [bodyRunSelfTest, h]

theorem bodyRunSelfTest_ok {v : W64} {w : State} (h : (z.health (hwCls c) (hwUnit c)).st = .spare)
    (hdraw : z.draw = (v, w)) :
    bodyRunSelfTest none c z = okR (v.toNat % 2) 0 (w.tested (hwCls c) (hwUnit c) (v.toNat % 2 == 1)) := by
  have hbit : b2n (v.toNat % 2 == 1) = v.toNat % 2 := by
    rcases Nat.mod_two_eq_zero_or_one v.toNat with h | h <;> simp [h, b2n]
  simp [bodyRunSelfTest, h, State.testResult_draw hdraw, hbit]

end

/-! SUPPORT. The rotation of self-tests and the health port (R418, R424). -/

section
variable {s : State}

theorem State.rotation_spare {cls u : Nat} (hcls : cls ≤ 10) (hu : u < clsUnits cls)
    (h : (s.health cls u).st = .spare) (pass : Bool) : s.rotation cls u pass = s.tested cls u pass := by
  rw [State.rotation, if_pos ⟨hcls, hu, .inl h⟩]

/-- A unit in service of a class that is not tested in service. -/
theorem State.rotation_inService {cls : Nat} (hcls : cls < 8) {u : Nat} (h : (s.health cls u).st ≠ .spare) (pass : Bool) :
    s.rotation cls u pass = s := by
  rw [State.rotation, if_neg (by simp [h, Nat.not_le.2 hcls])]

theorem execHealthSel_writable (h : s.writable = true) (w : W32) :
    execHealthSel w s = kept s ((s.unlatch (sprA 0x200)).healthSel w.toNat) := by
  rw [execHealthSel, if_pos h]

theorem State.healthDone_idle (h : s.bit (sprA 0x200) 31 = false) : s.healthDone = s := by
  rw [State.healthDone, if_neg (by simp [h])]

theorem State.healthDone_busy (h : s.bit (sprA 0x200) 31 = true) :
    s.healthDone = (s.setReg (sprA 0x208) (s.healthWord (s.fld (sprA 0x200) 27 24) (s.fld (sprA 0x200) 11 0))).setBit
      (sprA 0x200) 31 false := by
  rw [State.healthDone, if_pos h]

end

/-- Settles O33: each command is its body in that case, and each row its own equation. -/
theorem hardwareCommandsAndSelfTests : Obligations.HardwareCommandsAndSelfTests := by
  refine ⟨?retired, ?last, ?defers, ?active, ?spare, ?noReturn, ?returns, ?inService, ?tests, ?reads, ?rotates, ?rests,
    ?sel, ?busy, ?idle⟩
  case retired => exact fun c s h hst => congrArg (kept s) (runCmd_of_fin h (bodyRetireHw_retired hst))
  case last =>
    exact fun c s h hcls hst hspare => congrArg (kept s) (runCmd_of_fin h (bodyRetireHw_last hcls hst hspare))
  case defers =>
    exact fun c s h e hcls hst he hroom => congrArg (kept s) (runCmd_of_fin h (bodyRetireHw_defers hcls hst he hroom))
  case active =>
    exact fun c s h hcls hother he hst => congrArg (kept s) (runCmd_of_fin h (bodyRetireHw_active hcls hother he hst))
  case spare =>
    exact fun c s h hcls hother he hst => congrArg (kept s) (runCmd_of_fin h (bodyRetireHw_spare hcls hother he hst))
  case noReturn => exact fun c s h hst => congrArg (kept s) (runCmd_of_fin h (bodyReturnHw_state hst))
  case returns =>
    intro c s h z v w hcls hmgmt hst hdraw t
    have hbody := bodyReturnHw_tested hcls hmgmt hst hdraw (t := t) rfl
    split_ifs with hpass
    · exact congrArg (kept s) (runCmd_of_fin h (hbody.trans (if_pos hpass)))
    · exact congrArg (kept s) (runCmd_of_fin h (hbody.trans (if_neg hpass)))
  case inService => exact fun c s h hst => congrArg (kept s) (runCmd_of_fin h (bodyRunSelfTest_state hst))
  case tests =>
    exact fun c s h v w hst hdraw => congrArg (kept s) (runCmd_of_fin h (bodyRunSelfTest_ok hst hdraw))
  case reads => exact fun c s h => congrArg (kept s) (runCmd_of_fin h rfl)
  case rotates =>
    exact fun s cls u pass hcls hu hst => congrArg (kept s) (State.rotation_spare hcls hu hst pass)
  case rests => exact fun s cls u pass hcls hst => congrArg (kept s) (State.rotation_inService hcls hst pass)
  case sel => exact fun s w hs => execHealthSel_writable hs w
  case busy => exact fun s h => congrArg (kept s) (State.healthDone_busy h)
  case idle => exact fun s h => congrArg (kept s) (State.healthDone_idle h)

end Sys2Proof.Machine

namespace Sys2Proof.Machine

/-! SUPPORT. What dropping a latched half leaves (R14): all but the latches. -/

section
variable (s : State) (a : Nat)

@[simp] theorem State.unlatch_regs : (s.unlatch a).regs = s.regs := by
  simp only [State.unlatch]
  split <;> rfl

@[simp] theorem State.unlatch_mgmt : (s.unlatch a).mgmt = s.mgmt := by
  simp only [State.unlatch]
  split <;> rfl

/-- Of the time state, only the latched seconds can change. -/
theorem State.unlatch_time : ∃ l, (s.unlatch a).time = { s.time with secLatch := l } := by
  simp only [State.unlatch]
  split
  · exact ⟨_, rfl⟩
  · exact ⟨_, rfl⟩

@[simp] theorem State.unlatch_reg (b : Nat) : (s.unlatch a).reg b = s.reg b := by simp [State.reg]

@[simp] theorem State.unlatch_fld (b hi lo : Nat) : (s.unlatch a).fld b hi lo = s.fld b hi lo := by simp [State.fld]

@[simp] theorem State.unlatch_stage : (s.unlatch a).stage = s.stage := by simp [State.stage]

end

/-! SUPPORT. Commands of family 0x0B: what their bodies answer, case by case (R379, R382 to R384). -/

section
variable {c : Desc} {z : State}

theorem bodySetTime_state (h : z.stepAllowed = false) : bodySetTime none c z = bad stState z := by
  simp [bodySetTime, h]

theorem bodySetTime_ok {t : Nat} (h : z.stepAllowed = true)
    (ht : t = (c.n0 + 2 ^ 32 * c.n1) * secUnits + c.n2 * 65536 + c.n3) :
    bodySetTime none c z = (.fin { status := stOk, msc := some (z.setTime t).1 }, (z.setTime t).2) := by
  subst ht
  simp only [bodySetTime, h, Bool.not_true, Bool.false_eq_true, if_false]

theorem bodySetPtpPort_badArg (h : z.ptpPortOk c.n0 = false) : bodySetPtpPort none c z = bad stBadArg z := by
  simp [bodySetPtpPort, h]

theorem bodySetPtpPort_ok (h : z.ptpPortOk c.n0 = true) :
    bodySetPtpPort none c z = ok (z.modTime (fun x => { x with
      ptpPorts := x.ptpPorts.set {} c.n0 ⟨c.n1 % 2 == 1, c.n1 / 2 == 1⟩ })) := by
  simp [bodySetPtpPort, h]

theorem bodySendPtp_badArg (h : z.ptpPortOk c.n0 = false) : bodySendPtp none c z = bad stBadArg z := by
  simp [bodySendPtp, h]

theorem bodySendPtp_down (h : z.ptpPortOk c.n0 = true) (hup : z.ptpUp c.n0 = false) :
    bodySendPtp none c z = bad stState z := by
  simp [bodySendPtp, h, hup]

theorem bodySendPtp_opened (h : z.ptpPortOk c.n0 = true) (hup : z.ptpUp c.n0 = true) :
    bodySendPtp none c z = (.opened, z.modTime (fun x => { x with
      ptpTx := x.ptpTx ++ [(c.acc, c.n0, c.n1 == 1, c.n2, c.inp)] })) := by
  simp [bodySendPtp, h, hup]

theorem bodyComputeTod_badArg
    (h : c.n1 + 2 ^ 32 * c.n2 < z.clk.msc + 2 ∨ z.clk.msc + 2 ^ 24 < c.n1 + 2 ^ 32 * c.n2) :
    bodyComputeTod none c z = bad stBadArg z := by
  rw [bodyComputeTod, if_pos h]

theorem bodyComputeTod_ok {n : Nat} (hn : n = c.n1 + 2 ^ 32 * c.n2) (hlo : z.clk.msc + 2 ≤ n)
    (hhi : n ≤ z.clk.msc + 2 ^ 24) : bodyComputeTod none c z = ok (z.outBuf c (z.todBytes c.n0 n)) := by
  subst hn
  rw [bodyComputeTod, if_neg (by omega)]

end

/-! SUPPORT. The step of SET_TIME (R379). -/

section
variable (s : State) (t : Nat)

@[simp] theorem State.rebaseRecovery_time (m : Nat) : (s.rebaseRecovery m).time = s.time := by
  unfold State.rebaseRecovery
  split <;> rfl

@[simp] theorem State.rebaseRecovery_clk (m : Nat) : (s.rebaseRecovery m).clk = s.clk := by
  unfold State.rebaseRecovery
  split <;> rfl

theorem State.setTime_time : (s.setTime t).2.time = { s.time with
    dev := t, valid := true, kept := false, servo := .acquiring, good := 0, lastApplied := s.clk.hubc
    startWait := false } := by
  simp [State.setTime, State.timCnt, State.abandonInterval]

theorem State.setTime_clk : (s.setTime t).2.clk = { s.clk with
    running := true, msc := t / intervalUnits, cycle := t % intervalUnits / tickUnits, phase := .afterDelivery } := by
  simp [State.setTime, State.timCnt, State.abandonInterval]

theorem State.setTime_hints : (s.setTime t).2.grant.hints = [] := by
  simp [State.setTime, State.timCnt, State.abandonInterval]

end
/-! SUPPORT. Frames of PTP ports (R382, R383). -/

theorem State.modTime_time (s : State) (f : TimeSt → TimeSt) : (s.modTime f).time = f s.time := rfl

/-- The record of a frame that left at `t` (R383). -/
def sentAt (t : Nat) : Fin := { status := stOk, r0 := nsOf t, r1 := fracOf t * 2 ^ 16 + secOf t % 2 ^ 16 }

section
variable {s : State} {acc ts u o : Nat} {one : Bool} {l : List Nat}

theorem State.ptpEgress_none (h : s.time.ptpTx.find? (fun e => e.1 == acc) = none) : s.ptpEgress acc ts = s := by
  rw [State.ptpEgress, h]

section
variable (hfind : s.time.ptpTx.find? (fun e => e.1 == acc) = some (acc, u, one, o, l))
  (hfirst : s.time.ptpTx.find? (fun e => e.2.1 == u) = some (acc, u, one, o, l))
include hfind hfirst

theorem State.ptpEgress_down (hup : s.ptpUp u = false) :
    s.ptpEgress acc ts =
      (s.modTime (fun x => { x with ptpTx := x.ptpTx.filter (fun e => e.1 != acc) })).complete acc { status := stState } := by
  have hdown : (s.modTime (fun x => { x with ptpTx := x.ptpTx.filter (fun e => e.1 != acc) })).ptpUp u = false := hup
  simp only [State.ptpEgress, hfind, hfirst, Option.map_some, bne_self_eq_false, Bool.false_eq_true, if_false, hdown,
    Bool.not_false, if_true]

/-- The frame at the front of its port's queue leaves, unless MACsec drops it. -/
theorem State.ptpEgress_up (hup : s.ptpUp u = true) {b : Bool} {v : State}
    (hsent : (s.modTime (fun x => { x with ptpTx := x.ptpTx.filter (fun e => e.1 != acc) })).ptpSent u
      (if one then oneStep l o (s.time.dev + ts % tickUnits) else l) = (b, v)) :
    s.ptpEgress acc ts = v.complete acc (if b then sentAt (s.time.dev + ts % tickUnits) else { status := stState }) := by
  have hthere : (s.modTime (fun x => { x with ptpTx := x.ptpTx.filter (fun e => e.1 != acc) })).ptpUp u = true := hup
  simp only [State.ptpEgress, hfind, hfirst, Option.map_some, bne_self_eq_false, Bool.false_eq_true, if_false, hthere,
    Bool.not_true]
  rw [State.modTime_time, hsent]
  cases b <;> rfl

end

end

section
variable {s : State} {u : Nat} {f : PtpFrame}

/-- The port asks for a frame of this kind. -/
def State.ptpTraps (s : State) (u : Nat) (f : PtpFrame) : Bool :=
  if f.esmc then (s.time.ptpPorts.get {} u).esmc else (s.time.ptpPorts.get {} u).trap

theorem State.ptpTrap_unasked (h : s.ptpTraps u f = false) : s.ptpTrap u f = s := by
  have hskip : (!s.ptpPortOk u || !s.ptpUp u || !s.ptpTraps u f) = true := by simp [h]
  unfold State.ptpTrap
  exact if_pos hskip

/-- The 16 bytes that stand before a trapped frame (R382). -/
def State.trapHead (s : State) (u : Nat) (f : PtpFrame) : List Nat :=
  let t := s.time.dev + f.ts % tickUnits
  leBytes 6 (secOf t) ++ leBytes 2 (fracOf t) ++ leBytes 4 (nsOf t) ++ [u, b2n f.esmc, 0, 0]

section
variable (hok : s.ptpPortOk u = true) (hup : s.ptpUp u = true) (h : s.ptpTraps u f = true)
include hok hup h

/-- A frame that the port asks for goes to the bound ring, or is counted. -/
theorem State.ptpTrap_asked {b : Bool} {v : State}
    (hv : s.receive 0 s.time.ptpRx (2 * 2 ^ 18 + u) (s.trapHead u f ++ f.bytes) = (b, v)) :
    s.ptpTrap u f = if b then v else v.timCnt 2 := by
  have hgo : ¬(!s.ptpPortOk u || !s.ptpUp u || !s.ptpTraps u f) = true := by simp [hok, hup, h]
  unfold State.ptpTrap
  refine (if_neg hgo).trans ?_
  simp only [State.trapHead] at hv
  simp only [hv]
  cases b <;> rfl

theorem State.ptpTrap_unbound (hrx : s.time.ptpRx = none) : s.ptpTrap u f = s.timCnt 2 :=
  State.ptpTrap_asked hok hup h (b := false) (by rw [hrx, State.receive])

end

theorem leBytes_length (n x : Nat) : (leBytes n x).length = n := by
  induction n generalizing x with
  | zero => rfl
  | succ n ih => rw [leBytes, List.length_cons, ih]

theorem State.trapHead_length (s : State) (u : Nat) (f : PtpFrame) : (s.trapHead u f).length = 16 := by
  simp [State.trapHead, leBytes_length]

/-- A message for a posted buffer that holds it, with a ring that runs and has room. -/
theorem State.receive_delivers {d r k wher a : Nat} {l bytes : List Nat}
    (hposts : ((s.domE d).hpool k).posts = a :: l) (hfits : bytes.length ≤ ((s.domE d).hpool k).size)
    (hroom : s.recvRoom r = true) (hdom : s.domRoad d = .enabled) :
    s.receive d (some (r, k)) wher bytes = (true,
      ((s.setDom d ((s.domE d).setHpool k { (s.domE d).hpool k with posts := l })).emit (.hostWrite a bytes)).receiveCpl r
        wher a bytes.length k) := by
  simp [State.receive, hposts, Nat.not_lt.2 hfits, hroom, hdom]

end

/-! SUPPORT. The servo (R375 to R377), the start of the generator (R373) and the pins (R387, R388). -/

section
variable {s : State}

/-- The time state after a command that answers `u`. -/
theorem time_of_kept {i : Instr} {u : State} {x : TimeSt} (h : exec i s = kept s u) (hx : u.time = x) :
    ∃ t, exec i s = .next t ∧ t.time = x := ⟨_, h, hx⟩

theorem execTimeNsfRead_serves (hlo : 3 ≤ s.stage) (hhi : s.stage ≠ 7) :
    execTimeNsfRead s = kept s ((s.unlatch (timA 0)).latchSec.emit (.readData 0 (timA 0) s.timeNsf)) := by
  have hserves : ¬(decide (s.stage < 3) || s.stage == 7) = true := by simp [Nat.not_lt.2 hlo, hhi]
  exact congrArg (kept s) (if_neg hserves)

theorem exec_offsetIn_writable (h : s.stage = 6) (w : W64) :
    exec (.offsetIn w) s = kept s ((s.unlatch (timA 0x18)).offsetIn w.toInt) :=
  congrArg (kept s) (if_pos (by simp [State.writable, h]))

/-- Where the offset is written, the next state has the time state that it leaves. -/
theorem exec_offsetIn_time (h : s.stage = 6) {w : W64} {x : TimeSt}
    (hx : ((s.unlatch (timA 0x18)).offsetIn w.toInt).time = x) :
    ∃ t, exec (.offsetIn w) s = .next t ∧ t.time = x := time_of_kept (exec_offsetIn_writable h w) hx

theorem execOffsetIn_unwritable (h : s.stage ≠ 6) (w : W64) : execOffsetIn w s = kept s (s.unlatch (timA 0x18)) :=
  congrArg (kept s) (if_neg (by simp [State.writable, h]))

/-- An offset beyond JUMP_LIMIT is noted as refused and moves nothing else of the servo. -/
theorem State.offsetIn_refused {o : Int} (h : (s.jumpLimit : Int) * 65536 < o.natAbs) :
    ∃ r, (s.offsetIn o).time = { s.time with lastRefused := r } := by
  rw [State.offsetIn, if_pos h]
  extract_lets t due
  cases due
  · exact ⟨_, rfl⟩
  · rw [if_pos rfl]
    exact ⟨_, State.raise_time ..⟩

/-- The integral term after an applied offset (R375, R377). -/
def State.integAfter (s : State) (o : Int) : Int :=
  clampF ((if s.time.servo = .holdover then s.time.freqHold else s.time.integ) - (s.fld (timA 0x20) 15 0 : Int) * o)

/-- The state and the count of the servo after an applied offset (R376, R389). -/
def State.servoAfter (s : State) (o : Int) : Servo × Nat :=
  if s.holdDue then (.acquiring, 0) else servoNext s.time (decide (o.natAbs ≤ s.lockThr * 65536)) s.lockCount

@[simp] theorem State.sample_time (kind src v : Nat) : (s.sample kind src v).time = s.time := rfl

/-- An offset within JUMP_LIMIT is applied. -/
theorem State.offsetIn_applied {o : Int} (h : (o.natAbs : Int) ≤ (s.jumpLimit : Int) * 65536) :
    ∃ hold ever, (s.offsetIn o).time = { s.time with
      integ := s.integAfter o, target := clampF (s.integAfter o - 16 * (s.fld (timA 0x20) 31 16 : Int) * o)
      servo := (s.servoAfter o).1, good := (s.servoAfter o).2, lastApplied := s.clk.hubc, freqHold := hold
      everLocked := ever, lastOffset := o.tdiv 65536 } := by
  rw [State.offsetIn, if_neg (Int.not_lt.2 h)]
  extract_lets kp ki integ0 integ small
  split
  rename_i st good hst
  have hafter : s.servoAfter o = (st, good) := hst
  rw [hafter, apply_ite State.time, State.raise_time, ite_self, State.sample_time]
  exact ⟨_, _, rfl⟩

theorem State.unlatch_integAfter (a : Nat) (o : Int) : (s.unlatch a).integAfter o = s.integAfter o := by
  obtain ⟨l, hl⟩ := s.unlatch_time a
  simp [State.integAfter, hl]

theorem State.holdDue_iff : s.holdDue = true ↔
    (s.time.servo = .acquiring ∨ s.time.servo = .locked) ∧ s.time.lastApplied + s.holdTimeout * 2000000 ≤ s.clk.hubc := by
  simp [State.holdDue]

theorem State.unlatch_holdDue (a : Nat) : (s.unlatch a).holdDue = s.holdDue := by
  obtain ⟨l, hl⟩ := s.unlatch_time a
  rw [Bool.eq_iff_iff, State.holdDue_iff, State.holdDue_iff, hl, State.unlatch_clk, State.holdTimeout, State.holdTimeout,
    State.unlatch_fld]

theorem State.unlatch_servoAfter (a : Nat) (o : Int) : (s.unlatch a).servoAfter o = s.servoAfter o := by
  obtain ⟨l, hl⟩ := s.unlatch_time a
  have hnext : ∀ small count, servoNext (s.unlatch a).time small count = servoNext s.time small count := fun _ _ => by
    rw [hl]
    rfl
  have hthr : (s.unlatch a).lockThr = s.lockThr := by rw [State.lockThr, State.lockThr, State.unlatch_fld]
  have hcount : (s.unlatch a).lockCount = s.lockCount := by rw [State.lockCount, State.lockCount, State.unlatch_fld]
  rw [State.servoAfter, State.servoAfter, State.unlatch_holdDue, hnext, hthr, hcount]

/-- The offset that ends FREERUN or HOLDOVER starts the acquisition. -/
theorem State.servoAfter_starts (h : s.time.servo = .freerun ∨ s.time.servo = .holdover) (o : Int) :
    (s.servoAfter o).1 = .acquiring := by
  unfold State.servoAfter servoNext
  rcases h with h | h <;> simp [h]

theorem State.servoAfter_late (h : s.holdDue = true) (o : Int) : (s.servoAfter o).1 = .acquiring := by
  rw [State.servoAfter, if_pos h]

/-- A locked servo stays so just while the offsets are small. -/
theorem State.servoAfter_locked (h : s.time.servo = .locked) (hdue : s.holdDue = false) (o : Int) :
    (s.servoAfter o).1 = .locked ↔ o.natAbs ≤ s.lockThr * 65536 := by
  rw [State.servoAfter, if_neg (by simp [hdue])]
  by_cases hsmall : o.natAbs ≤ s.lockThr * 65536 <;> simp [servoNext, h, hsmall]

/-- The timeout does nothing while the servo holds already, has none to hold, or was served in time. -/
theorem State.holdoverTimeout_off (h : s.time.servo = .freerun ∨ s.time.servo = .holdover ∨
    s.clk.hubc < s.time.lastApplied + s.holdTimeout * 2000000) : s.holdoverTimeout = s := by
  refine if_neg fun hdue => ?_
  obtain ⟨hservo, hlate⟩ := State.holdDue_iff.1 hdue
  rcases h with h | h | h
  · simp [h] at hservo
  · simp [h] at hservo
  · exact absurd hlate (Nat.not_le.2 h)

theorem State.startWaitEnd_starts (h : s.time.startWait = true) (hdue : s.fld (timA 0x2C) 15 0 * 2000000 ≤ s.clk.hubc)
    (hlo : 3 ≤ s.stage) (hhi : s.stage < 7) :
    s.startWaitEnd = (s.modTime (fun x => { x with startWait := false })).startGenerator := by
  have hstage : 3 ≤ (s.modTime (fun x => { x with startWait := false })).stage ∧
      (s.modTime (fun x => { x with startWait := false })).stage < 7 := ⟨hlo, hhi⟩
  rw [State.startWaitEnd, if_pos (by simp [h, hdue])]
  exact if_pos hstage

theorem State.startWaitEnd_noWait (h : s.time.startWait = false) : s.startWaitEnd = s := by
  rw [State.startWaitEnd, if_neg (by simp [h])]

theorem State.ppsOut_pulses (hvalid : s.time.valid = true) (hon : s.bit (timA 0x58) 0 = true)
    (hsec : s.time.dev % secUnits < tickUnits) : s.ppsOut = s.emit (.pin pinPpsOut 1) := by
  rw [State.ppsOut, if_pos (by simp only [hvalid, hon, hsec, decide_true, Bool.and_self])]

theorem State.ppsOut_off (h : s.bit (timA 0x58) 0 = false) : s.ppsOut = s := by
  rw [State.ppsOut, if_neg (by simp only [h, Bool.and_false, Bool.false_and, Bool.false_eq_true, not_false_eq_true])]

theorem State.rclkResume_resumes {k : Nat} (hk : k < 2) (hsq : s.bit (timA (0x70 + 4 * k)) 29 = true)
    (hok : s.rclkOk k = true)
    (hlock : (s.mgmt.lanes.get {} (s.fld (timA (0x70 + 4 * k)) 9 0)).upAt + 20000000 ≤ s.clk.hubc) :
    s.rclkResume k = s.setBit (timA (0x70 + 4 * k)) 29 false := by
  rw [State.rclkResume, if_neg (Nat.not_le.2 hk)]
  exact if_pos (by simp only [hsq, hok, hlock, decide_true, Bool.and_self])

theorem State.rclkResume_notOk {k : Nat} (h : s.rclkOk k = false) : s.rclkResume k = s := by
  unfold State.rclkResume
  split
  · rfl
  · exact if_neg (by simp only [h, Bool.and_false, Bool.false_and, Bool.false_eq_true, not_false_eq_true])

end

/-- Settles O43: each command is its body in that case, and each row its own equation. -/
theorem timeServoAndPtp : Obligations.TimeServoAndPtp := by
  refine ⟨?noStep, ?steps, ?stepped, ?noPort, ?sets, ?binds, ?sendsNoPort, ?sendsDown, ?sends, ?todRange, ?tod, ?egress,
    ?noEgress, ?untrapped, ?unbound, ?traps, ?latches, ?refused, ?applied, ?unwritable, ?holds, ?noHold, ?starts, ?noWait,
    ?pps, ?noPps, ?stamps, ?noStamp, ?resumes, ?squelched⟩
  case noStep => exact fun c s h hstep => congrArg (kept s) (runCmd_of_fin h (bodySetTime_state hstep))
  case steps => exact fun c s h t hstep ht => congrArg (kept s) (runCmd_of_fin h (bodySetTime_ok hstep ht))
  case stepped =>
    refine fun s t => ⟨rfl, ?_⟩
    simp only [State.setTime_time, State.setTime_clk, State.setTime_hints, and_self]
  case noPort => exact fun c s h hport => congrArg (kept s) (runCmd_of_fin h (bodySetPtpPort_badArg hport))
  case sets => exact fun c s h hport => congrArg (kept s) (runCmd_of_fin h (bodySetPtpPort_ok hport))
  case binds => exact fun c s h => congrArg (kept s) (runCmd_of_fin h rfl)
  case sendsNoPort => exact fun c s h hport => congrArg (kept s) (runCmd_of_fin h (bodySendPtp_badArg hport))
  case sendsDown => exact fun c s h hport hup => congrArg (kept s) (runCmd_of_fin h (bodySendPtp_down hport hup))
  case sends => exact fun c s h hport hup => congrArg (kept s) (runCmd_of_opened h (bodySendPtp_opened hport hup))
  case todRange => exact fun c s h hn => congrArg (kept s) (runCmd_of_fin h (bodyComputeTod_badArg hn))
  case tod =>
    intro c s h z n t hn hlo hhi ht
    subst ht
    exact congrArg (kept s) (runCmd_of_fin h (bodyComputeTod_ok hn hlo hhi))
  case egress =>
    intro s acc ts u o one l hfind hfirst z t
    refine ⟨fun hup => ?_, fun hup => ?_⟩
    · exact congrArg (kept s) (State.ptpEgress_down hfind hfirst hup)
    · refine congrArg (kept s) ?_
      rcases hsent : z.ptpSent u (if one then oneStep l o t else l) with ⟨_ | _, v⟩
      · have hend := State.ptpEgress_up hfind hfirst hup hsent
        exact hend
      · have hend := State.ptpEgress_up hfind hfirst hup hsent
        exact hend
  case noEgress => exact fun s acc ts h => congrArg (kept s) (State.ptpEgress_none h)
  case untrapped => exact fun s u f h => congrArg (kept s) (State.ptpTrap_unasked h)
  case unbound => exact fun s u f hok hup hrx h => congrArg (kept s) (State.ptpTrap_unbound hok hup h hrx)
  case traps =>
    intro s u r k a f l hok hup hrx h hdom hposts hfits hroom n b t
    have hlen : (s.trapHead u f ++ f.bytes).length = 16 + f.bytes.length := by
      rw [List.length_append, State.trapHead_length]
    have hgot := State.receive_delivers (wher := 2 * 2 ^ 18 + u) hposts (hlen ▸ hfits) hroom hdom
    rw [hlen, ← hrx] at hgot
    exact congrArg (kept s) (State.ptpTrap_asked hok hup h hgot)
  case latches => exact fun s hlo hhi => execTimeNsfRead_serves hlo hhi
  case refused =>
    intro s w hstage hjump
    obtain ⟨l, hl⟩ := s.unlatch_time (timA 0x18)
    obtain ⟨r, hr⟩ := State.offsetIn_refused (s := s.unlatch (timA 0x18)) (o := w.toInt)
      (by simpa [State.jumpLimit] using hjump)
    obtain ⟨t, hexec, htime⟩ := exec_offsetIn_time hstage hr
    exact ⟨t, hexec, by simp only [htime, hl, and_self]⟩
  case applied =>
    intro s w hstage hjump
    obtain ⟨l, hl⟩ := s.unlatch_time (timA 0x18)
    obtain ⟨hold, ever, ht⟩ := State.offsetIn_applied (s := s.unlatch (timA 0x18)) (o := w.toInt)
      (by simpa [State.jumpLimit] using hjump)
    rw [State.unlatch_integAfter, State.unlatch_servoAfter, State.unlatch_fld, State.unlatch_clk] at ht
    obtain ⟨t, hexec, htime⟩ := exec_offsetIn_time hstage ht
    refine ⟨t, hexec, ?_⟩
    simp only [htime, hl]
    refine ⟨trivial, trivial, trivial, rfl, trivial, fun hservo => State.servoAfter_starts hservo _, fun hservo hin => ?_,
      fun hservo hlate => State.servoAfter_late (State.holdDue_iff.2 ⟨.inr hservo, hlate⟩) _⟩
    refine State.servoAfter_locked hservo (Bool.eq_false_iff.2 fun hdue => ?_) _
    exact absurd (State.holdDue_iff.1 hdue).2 (Nat.not_le.2 hin)
  case unwritable => exact fun s w h => execOffsetIn_unwritable h w
  case holds => exact fun s hservo hlate => congrArg (kept s) (if_pos (State.holdDue_iff.2 ⟨hservo, hlate⟩))
  case noHold => exact fun s h => congrArg (kept s) (State.holdoverTimeout_off h)
  case starts => exact fun s h hdue hlo hhi => congrArg (kept s) (State.startWaitEnd_starts h hdue hlo hhi)
  case noWait => exact fun s h => congrArg (kept s) (State.startWaitEnd_noWait h)
  case pps => exact fun s hvalid hon hsec => congrArg (kept s) (State.ppsOut_pulses hvalid hon hsec)
  case noPps => exact fun s h => congrArg (kept s) (State.ppsOut_off h)
  case stamps => exact fun s h => congrArg (kept s) (if_pos h)
  case noStamp => exact fun s h => congrArg (kept s) (if_neg (by simp [h]))
  case resumes =>
    exact fun s k hk hsq hok hlock => congrArg (kept s) (State.rclkResume_resumes hk hsq hok hlock)
  case squelched => exact fun s k h => congrArg (kept s) (State.rclkResume_notOk h)

end Sys2Proof.Machine

namespace Sys2Proof.Machine

/-! SUPPORT. Commands of family 0x0C: what their bodies answer, case by case (R395, R407, R410, R412, R413, R420). -/

section
variable {c : Desc} {z : State}

theorem bodyPairConfig_state (hpair : z.mgmt.pair.st ≠ .unpaired) (halone : z.mgmt.pair.st ≠ .alone) :
    bodyPairConfig none c z = bad stState z := by
  simp [bodyPairConfig, hpair, halone]

/-- PAIR_CONFIG leaves `u` with what it writes: the registers and the arbiter's key (R420). -/
theorem bodyPairConfig_ok {u : State} (h : z.mgmt.pair.st = .unpaired ∨ z.mgmt.pair.st = .alone)
    (hu : u = ((z.setReg (prtA 0) (BitVec.ofNat 64 (c.n0 * 2 ^ 16 + c.n1 / 2 ^ 16 % 2 * 2 ^ 9 + c.n1 / 2 ^ 17 * 2 ^ 10 +
      c.n1 % 256))).setReg (prtA 0xC) (BitVec.ofNat 64 c.n2)).modPair
        (fun p => { p with arbKey := c.inp, arbMiss := c.n1 / 256 % 256 })) :
    bodyPairConfig none c z = ok ((((u.endTest 512).endTest 513).endTest 514).setPairSt .alone
      (if z.mgmt.pair.role = .fenced then .fenced else .active)) := by
  rw [hu]
  have hfree : ¬(!(z.mgmt.pair.st == .unpaired || z.mgmt.pair.st == .alone)) = true := by
    rcases h with h | h <;> simp [h]
  exact if_neg hfree

theorem bodyPairJoin_state (h : z.mgmt.pair.st ≠ .alone ∨ z.mgmt.pair.role ≠ .active ∨ z.treesOff = false ∨
    z.mgmt.pair.lanes = 0#2) : bodyPairJoin none c z = bad stState z := by
  have hbad : (z.mgmt.pair.st != .alone || z.mgmt.pair.role != .active || !z.treesOff || z.mgmt.pair.lanes == 0#2) = true := by
    rcases h with h | h | h | h <;> simp [h]
  exact if_pos hbad

theorem bodyPairJoin_opened (hst : z.mgmt.pair.st = .alone) (hrole : z.mgmt.pair.role = .active)
    (htrees : z.treesOff = true) (hlanes : z.mgmt.pair.lanes ≠ 0#2) :
    bodyPairJoin none c z = (.opened, ((z.modPair (fun p => { p with
      joinAcc := some c.acc, agree := 0, missed := 0, hbMsc := z.clk.msc })).unsyncAll).setPairSt .joining .standby) := by
  have hgood : ¬(z.mgmt.pair.st != .alone || z.mgmt.pair.role != .active || !z.treesOff ||
      z.mgmt.pair.lanes == 0#2) = true := by simp [hst, hrole, htrees, hlanes]
  exact if_neg hgood

/-! A device that leaves its pair, from a state `t` with its batches discarded where it is asked to (R410). -/

section
variable {t u : State} (hjoin : z.mgmt.pair.joinAcc = none)
  (hu : u = ((t.modPair (fun p => { p with
    joinAcc := none, base := none, unsync := [], copies := [], kat := [], verdict := none, arbOk := false
    peerHb := false, swapE := none, missed := 0, lanes := 0#2 })).setPairSt .unpaired .none).setPairWait false)
include hjoin hu

theorem bodyPairLeave_keeps (ht : t = z) (h : c.n0 = 0) :
    bodyPairLeave none c z = ok (((u.settlePon).settleLane 512).settleLane 513) := by
  rw [hu, ht]
  simp only [bodyPairLeave, hjoin, h, Nat.zero_ne_one, and_false, if_false]

theorem bodyPairLeave_discards (ht : t = (List.range 384).foldl (fun s sc => s.discardRoad sc) z)
    (hrole : z.mgmt.pair.role = .standby) (h : c.n0 = 1) :
    bodyPairLeave none c z = ok (((u.settlePon).settleLane 512).settleLane 513) := by
  rw [hu, ht]
  simp only [bodyPairLeave, hjoin, hrole, h, and_self, if_true]

end

theorem bodySwitchOver_state (h : z.mgmt.pair.st ≠ .paired ∨ z.mgmt.pair.role ≠ .active) :
    bodySwitchOver none c z = bad stState z := by
  have hbad : ((none : Option ExecRec).isNone && !(z.mgmt.pair.st == .paired && z.mgmt.pair.role == .active)) = true := by
    rcases h with h | h <;> simp [h]
  exact if_pos hbad

theorem bodySwitchOver_defers {e : Nat} (hst : z.mgmt.pair.st = .paired) (hrole : z.mgmt.pair.role = .active)
    (he : z.resolveE none c = .ok e) (hroom : z.pendRoom = true) :
    bodySwitchOver none c z = deferred e (z.defer c e .switchOver) := by
  simp [bodySwitchOver, hst, hrole, he, hroom]

theorem bodyForceActive_state
    (h : z.mgmt.pair.role ≠ .standby ∨ z.mgmt.pair.st ≠ .broken ∨ z.mgmt.pair.downAt = none) :
    bodyForceActive none c z = bad stState z := by
  rcases h with h | h | h <;> simp [bodyForceActive, h]

section
variable {h : Nat} (hdown : z.mgmt.pair.downAt = some h)
include hdown

/-- The sync lanes have not been down for long enough. -/
theorem bodyForceActive_early (hearly : z.clk.hubc < h + (z.fenceMs + 2) * 2000000) :
    bodyForceActive none c z = bad stState z := by
  simp only [bodyForceActive, hdown, decide_eq_true_eq, Nat.not_le.2 hearly, and_false, if_false, Option.isSome_none,
    Bool.false_eq_true]

theorem bodyForceActive_ok (hrole : z.mgmt.pair.role = .standby) (hst : z.mgmt.pair.st = .broken)
    (hlate : h + (z.fenceMs + 2) * 2000000 ≤ z.clk.hubc) : bodyForceActive none c z = ok z.nextEpoch.takeover := by
  simp only [bodyForceActive, hdown, hrole, hst, decide_eq_true_eq, hlate, and_self, if_true, Option.isSome_none,
    Bool.false_eq_true, if_false]

end

/-- A tree that is in a pair, or whose sub-channels are in use or to be, or that is not empty, is not taken. -/
theorem bodyTreePair_state (h : (z.pairOf (c.n0 % 256)).isSome = true ∨ (z.pairOf (c.n0 / 256)).isSome = true ∨
    (z.sub (2 * (c.n0 / 256))).road ≠ .disabled ∨ z.treeEmpty (c.n0 / 256) = false) :
    bodyTreePair none c z = bad stState z := by
  have hbad : ((z.pairOf (c.n0 % 256)).isSome || (z.pairOf (c.n0 / 256)).isSome ||
      [2 * (c.n0 / 256), 2 * (c.n0 / 256) + 1].any (fun sc => (z.sub sc).road != .disabled || (z.sub sc).isPending) ||
      !z.treeEmpty (c.n0 / 256)) = true := by
    rcases h with h | h | h | h <;> simp [h]
  exact if_pos hbad

/-- Working tree and protecting tree of a TREE_PAIR may be paired (R395). -/
structure State.PairsTrees (z : State) (c : Desc) (w p : Nat) : Prop where
  working : w = c.n0 % 256
  protecting : p = c.n0 / 256
  workingFree : z.pairOf w = none
  protectingFree : z.pairOf p = none
  idle : ∀ k ∈ [2 * p, 2 * p + 1], (z.sub k).road = .disabled ∧ (z.sub k).isPending = false
  empty : z.treeEmpty p = true

/-- After those checks, the engines and the credits of the protecting tree decide. -/
theorem State.PairsTrees.body {w p : Nat} (h : z.PairsTrees c w p) :
    bodyTreePair none c z =
      if [2 * p, 2 * p + 1].any (fun sc => !z.chRoom sc) ||
          decide (z.budget (p / 48) < z.reserved (p / 48) + (z.creditNeedOf (2 * w) + z.creditNeedOf (2 * w + 1))) then
        bad stNoRoom z
      else
        let u := (z.chBind (2 * p)).chBind (2 * p + 1)
        ok (((u.setSubCph (2 * p) { u.subCph (2 * p) with credits := u.creditNeedOf (2 * w) }).setSubCph (2 * p + 1)
          { u.subCph (2 * p + 1) with credits := u.creditNeedOf (2 * w + 1) }).setTreePair w (some { p := p })) := by
  obtain ⟨rfl, rfl, hw, hp, hidle, hempty⟩ := h
  have hfree : ¬((z.pairOf (c.n0 % 256)).isSome || (z.pairOf (c.n0 / 256)).isSome ||
      [2 * (c.n0 / 256), 2 * (c.n0 / 256) + 1].any (fun sc => (z.sub sc).road != .disabled || (z.sub sc).isPending) ||
      !z.treeEmpty (c.n0 / 256)) = true := by
    obtain ⟨h0, h0p⟩ := hidle _ List.mem_cons_self
    obtain ⟨h1, h1p⟩ := hidle _ (List.mem_cons_of_mem _ List.mem_cons_self)
    simp [hw, hp, h0, h0p, h1, h1p, hempty]
  simp only [bodyTreePair, List.foldl_cons, List.foldl_nil]
  rw [if_neg hfree]

theorem bodyTreePair_noRoom {w p : Nat} (h : z.PairsTrees c w p) (hroom : z.budget (p / 48) <
    z.reserved (p / 48) + (z.creditNeedOf (2 * w) + z.creditNeedOf (2 * w + 1))) :
    bodyTreePair none c z = bad stNoRoom z := by
  rw [h.body, if_pos (by simp only [hroom, decide_true, Bool.or_true])]

theorem bodyTreePair_ok {w p : Nat} (h : z.PairsTrees c w p) {u : State}
    (hch : ∀ k ∈ [2 * p, 2 * p + 1], z.chRoom k = true)
    (hroom : z.reserved (p / 48) + (z.creditNeedOf (2 * w) + z.creditNeedOf (2 * w + 1)) ≤ z.budget (p / 48))
    (hu : u = (z.chBind (2 * p)).chBind (2 * p + 1)) :
    bodyTreePair none c z = ok (((u.setSubCph (2 * p)
      { u.subCph (2 * p) with credits := u.creditNeedOf (2 * w) }).setSubCph (2 * p + 1)
      { u.subCph (2 * p + 1) with credits := u.creditNeedOf (2 * w + 1) }).setTreePair w (some { p := p })) := by
  rw [hu]
  have h0 := hch _ List.mem_cons_self
  have h1 := hch _ (List.mem_cons_of_mem _ List.mem_cons_self)
  rw [h.body, if_neg (by simp [h0, h1, hroom])]

/-! The pair of trees that a command names. -/

theorem bodyTreeUnpair_notFound (h : z.mgmt.pair.trees.get none c.n0 = none) :
    bodyTreeUnpair none c z = bad stNotFound z := by
  rw [bodyTreeUnpair, h]

theorem bodyTreeUnpair_state {p : TreePair} (h : z.mgmt.pair.trees.get none c.n0 = some p) (hon : p.onProtect = true) :
    bodyTreeUnpair none c z = bad stState z := by
  simp only [bodyTreeUnpair, h, hon, if_true]

theorem bodyTreeUnpair_ok {p : TreePair} (h : z.mgmt.pair.trees.get none c.n0 = some p) (hon : p.onProtect = false) :
    bodyTreeUnpair none c z = ok ((z.setTreePair c.n0 (some { p with unpair := true })).unpairSettle c.n0) := by
  simp only [bodyTreeUnpair, h, hon, Bool.false_eq_true, if_false]

theorem bodySwitchTree_notFound (h : z.mgmt.pair.trees.get none (c.n0 % 256) = none) :
    bodySwitchTree none c z = bad stNotFound z := by
  simp only [bodySwitchTree, h]

section
variable {p : TreePair} (h : z.mgmt.pair.trees.get none (c.n0 % 256) = some p)
include h

/-- Back to the working tree, whose fault persists. -/
theorem bodySwitchTree_state (hw : c.n0 / 256 = 0) (hcause : z.switchCause (c.n0 % 256) = true) :
    bodySwitchTree none c z = bad stState z := by
  simp [bodySwitchTree, h, hw, hcause]

theorem bodySwitchTree_defers {e : Nat} (hw : c.n0 / 256 = 1 ∨ z.switchCause (c.n0 % 256) = false)
    (he : z.resolveE none c = .ok e) (hroom : z.pendRoom = true) :
    bodySwitchTree none c z = deferred e (z.defer c e (.treeSwitch (c.n0 % 256) (decide (c.n0 / 256 = 1)))) := by
  rcases hw with hw | hw <;> simp [bodySwitchTree, h, hw, he, hroom]

end

end

/-! SUPPORT. The end of a join (R407). -/

section
variable {s : State}

/-- After a change of the pair state, or none, the pair is as named. -/
theorem State.setPairSt_pair (st : PairSt) (r : Role) :
    (s.setPairSt st r).mgmt.pair = { s.mgmt.pair with st := st, role := r } := by
  unfold State.setPairSt
  split
  case isTrue h =>
    obtain ⟨rfl, rfl⟩ := h
    rfl
  case isFalse => exact State.raise_mgmt_pair ..

theorem State.pairJoined_notJoining (h : s.mgmt.pair.st ≠ .joining) (b : Bool) : s.pairJoined b = s := by
  rw [State.pairJoined, if_pos (by simp [h])]

section
variable (hst : s.mgmt.pair.st = .joining)
include hst

theorem State.pairJoined_false : s.pairJoined false = s.joinFail := by
  simp [State.pairJoined, hst]

section
variable (hrole : s.mgmt.pair.role = .standby)
include hrole

theorem State.pairJoined_standby (hsync : s.mgmt.pair.unsyncCount = 0) (hagree : 16 ≤ s.mgmt.pair.agree) :
    s.pairJoined true =
      ((s.modPair (fun p => { p with joinAcc := none })).setPairSt .paired .standby).completeOk s.mgmt.pair.joinAcc := by
  simp [State.pairJoined, hst, hrole, hsync, Nat.not_lt.2 hagree]

theorem State.pairJoined_notYet (h : s.mgmt.pair.unsyncCount ≠ 0 ∨ s.mgmt.pair.agree < 16) :
    s.pairJoined true = s := by
  rcases h with h | h <;> simp [State.pairJoined, hst, hrole, h]

end

theorem State.pairJoined_active (hrole : s.mgmt.pair.role = .active) (hsync : s.mgmt.pair.peerUnsync = [])
    (hagree : 16 ≤ s.mgmt.pair.agree) :
    s.pairJoined true = (((s.modPair (fun p => { p with joinAcc := none })).setPairSt .paired .active).setPairWait
      true).completeOk s.mgmt.pair.joinAcc := by
  simp [State.pairJoined, hst, hrole, hsync, Nat.not_lt.2 hagree]

end

/-- A device that joined again by itself is BROKEN as before. -/
theorem State.joinFail_rejoin (hrole : s.mgmt.pair.role = .standby) (hacc : s.mgmt.pair.joinAcc = none) :
    s.joinFail = (s.modPair (fun p => { p with agree := 0 })).setPairSt .broken .standby :=
  if_pos ⟨hrole, hacc⟩

/-- A PAIR_JOIN ends with STATE. -/
theorem State.joinFail_command {a : Nat} (hacc : s.mgmt.pair.joinAcc = some a) :
    s.joinFail = (((s.modPair (fun p => { p with joinAcc := none, agree := 0, base := none, unsync := [], copies := []
      })).setPairSt .alone .active).setPairWait false).complete a { status := stState } := by
  simp only [State.joinFail, hacc, reduceCtorEq, and_false, if_false]

/-- The pair after a command that answers `u`. -/
theorem pair_of_kept {i : Instr} {u : State} (h : exec i s = kept s u) :
    ∃ t, exec i s = .next t ∧ t.mgmt.pair = u.mgmt.pair := ⟨_, h, rfl⟩

end

/-- Settles O44: each command is its body in that case, and the end of a join its own equations. -/
theorem pairAndTreePairCommands : Obligations.PairAndTreePairCommands := by
  refine ⟨?configState, ?configs, ?joinState, ?joins, ?leaves, ?leavesDiscarding, ?overState, ?switches, ?forceState,
    ?forceEarly, ?forces, ?treeState, ?treeNoRoom, ?treePairs, ?unpairNotFound, ?unpairState, ?unpairs, ?switchNotFound,
    ?switchState, ?switchesTree, ?reads, ?joinedStandby, ?joinedActive, ?rejoinFails, ?notYet, ?joinFails, ?notJoining⟩
  case configState =>
    exact fun c s h hpair halone => congrArg (kept s) (runCmd_of_fin h (bodyPairConfig_state hpair halone))
  case configs =>
    exact fun c s h u hst hu => congrArg (kept s) (runCmd_of_fin h (bodyPairConfig_ok hst hu))
  case joinState => exact fun c s h hbad => congrArg (kept s) (runCmd_of_fin h (bodyPairJoin_state hbad))
  case joins =>
    exact fun c s h hst hrole htrees hlanes => congrArg (kept s) (runCmd_of_opened h
      (bodyPairJoin_opened hst hrole htrees hlanes))
  case leaves =>
    exact fun c s h u hjoin hn hu => congrArg (kept s) (runCmd_of_fin h (bodyPairLeave_keeps hjoin hu rfl hn))
  case leavesDiscarding =>
    exact fun c s h t u hjoin hrole hn ht hu => congrArg (kept s) (runCmd_of_fin h
      (bodyPairLeave_discards hjoin hu ht hrole hn))
  case overState => exact fun c s h hbad => congrArg (kept s) (runCmd_of_fin h (bodySwitchOver_state hbad))
  case switches =>
    exact fun c s h e hst hrole he hroom => congrArg (kept s) (runCmd_of_fin h
      (bodySwitchOver_defers hst hrole he hroom))
  case forceState => exact fun c s h hbad => congrArg (kept s) (runCmd_of_fin h (bodyForceActive_state hbad))
  case forceEarly =>
    exact fun c s h k hdown hearly => congrArg (kept s) (runCmd_of_fin h (bodyForceActive_early hdown hearly))
  case forces =>
    exact fun c s h k hrole hst hdown hlate => congrArg (kept s) (runCmd_of_fin h
      (bodyForceActive_ok hdown hrole hst hlate))
  case treeState => exact fun c s h hbad => congrArg (kept s) (runCmd_of_fin h (bodyTreePair_state hbad))
  case treeNoRoom =>
    exact fun c s h w p hw hp hwf hpf hidle hempty hroom => congrArg (kept s) (runCmd_of_fin h
      (bodyTreePair_noRoom ⟨hw, hp, hwf, hpf, hidle, hempty⟩ hroom))
  case treePairs =>
    exact fun c s h w p u hw hp hwf hpf hidle hempty hroom hu => congrArg (kept s) (runCmd_of_fin h
      (bodyTreePair_ok ⟨hw, hp, hwf, hpf, fun k hk => ⟨(hidle k hk).1, (hidle k hk).2.1⟩, hempty⟩
        (fun k hk => (hidle k hk).2.2) hroom hu))
  case unpairNotFound => exact fun c s h hp => congrArg (kept s) (runCmd_of_fin h (bodyTreeUnpair_notFound hp))
  case unpairState =>
    exact fun c s h p hp hon => congrArg (kept s) (runCmd_of_fin h (bodyTreeUnpair_state hp hon))
  case unpairs => exact fun c s h p hp hon => congrArg (kept s) (runCmd_of_fin h (bodyTreeUnpair_ok hp hon))
  case switchNotFound => exact fun c s h hp => congrArg (kept s) (runCmd_of_fin h (bodySwitchTree_notFound hp))
  case switchState =>
    exact fun c s h p hp hw hcause => congrArg (kept s) (runCmd_of_fin h (bodySwitchTree_state hp hw hcause))
  case switchesTree =>
    exact fun c s h p e hp hw he hroom => congrArg (kept s) (runCmd_of_fin h (bodySwitchTree_defers hp hw he hroom))
  case reads => exact fun c s h => congrArg (kept s) (runCmd_of_fin h rfl)
  case joinedStandby =>
    exact fun s hst hrole hsync hagree => congrArg (kept s) (State.pairJoined_standby hst hrole hsync hagree)
  case joinedActive =>
    exact fun s hst hrole hsync hagree => congrArg (kept s) (State.pairJoined_active hst hrole hsync hagree)
  case rejoinFails =>
    intro s hst hrole hacc
    have hfail : exec (.pairJoined false) s = kept s _ :=
      congrArg (kept s) ((State.pairJoined_false hst).trans (State.joinFail_rejoin hrole hacc))
    obtain ⟨t, ht, hpair⟩ := pair_of_kept hfail
    rw [State.setPairSt_pair] at hpair
    exact ⟨t, ht, by rw [hpair], by rw [hpair]⟩
  case notYet => exact fun s hst hrole h => congrArg (kept s) (State.pairJoined_notYet hst hrole h)
  case joinFails =>
    exact fun s a hst hacc => congrArg (kept s) ((State.pairJoined_false hst).trans (State.joinFail_command hacc))
  case notJoining => exact fun s b h => congrArg (kept s) (State.pairJoined_notJoining h b)

end Sys2Proof.Machine

namespace Sys2Proof.Machine

/-! SUPPORT. What leaves the pair as it is (R393 to R413): the link of a port, the recovered clocks and the lanes of the
PON, which follow their owners. -/

section
variable {s : State}

/-- Steps that each keep a part of the state keep it all together. -/
theorem foldl_keeps {σ α β : Type} {π : σ → α} {f : σ → β → σ} (l : List β) (hf : ∀ s, ∀ b ∈ l, π (f s b) = π s) (s : σ) :
    π (l.foldl f s) = π s := by
  induction l generalizing s with
  | nil => rfl
  | cons b l ih =>
    exact (ih (fun s c hc => hf s c (List.mem_cons_of_mem _ hc)) _).trans (hf s b List.mem_cons_self)

@[simp] theorem State.rclkCheck_pair (k : Nat) : (s.rclkCheck k).mgmt.pair = s.mgmt.pair := by
  simp only [State.rclkCheck]
  split
  · rfl
  · rw [State.raise_mgmt_pair, State.timCnt, State.add32_mgmt, State.setBit_mgmt]

@[simp] theorem State.rclkCheckAll_pair : s.rclkCheckAll.mgmt.pair = s.mgmt.pair := by
  rw [State.rclkCheckAll, State.rclkCheck_pair, State.rclkCheck_pair]

@[simp] theorem State.measureSkew_pair (ls : List Nat) : (s.measureSkew ls).mgmt.pair = s.mgmt.pair :=
  foldl_keeps (π := fun s => s.mgmt.pair) (f := fun s l => s.draw.2.setFld (lneA l 0x28) 15 0 s.draw.1.toNat) ls
    (fun _ _ _ => rfl) s

@[simp] theorem State.portLinkEval_pair (u : Nat) : (s.portLinkEval u).mgmt.pair = s.mgmt.pair := by
  simp only [State.portLinkEval]
  split
  · rfl
  split
  · rw [State.measureSkew_pair, State.raise_mgmt_pair]
    rfl
  · rw [State.rclkCheckAll_pair, State.add64_mgmt, State.raise_mgmt_pair]
    rfl

@[simp] theorem State.laneChanged_pair (l : Nat) : (s.laneChanged l).mgmt.pair = s.mgmt.pair := by
  simp only [State.laneChanged, State.rclkCheckAll_pair]
  split
  · rfl
  · exact State.portLinkEval_pair _

/-- A lane other than the sync lanes leaves the pair as it is when it goes idle. -/
theorem State.idleLane_pair {l : Nat} (hl : l ≠ 512 ∧ l ≠ 513) : (s.idleLane l).mgmt.pair = s.mgmt.pair := by
  simp only [State.idleLane, not_or.2 hl, if_false]
  split
  · rw [State.laneChanged_pair]
    split <;> rfl
  · rfl

theorem State.settleLane_pair {l : Nat} (hl : l ≠ 512 ∧ l ≠ 513) : (s.settleLane l).mgmt.pair = s.mgmt.pair := by
  unfold State.settleLane
  split
  · rfl
  · exact State.idleLane_pair hl

@[simp] theorem State.settlePon_pair : s.settlePon.mgmt.pair = s.mgmt.pair := by
  refine foldl_keeps (π := fun s => s.mgmt.pair) _ (fun s l hl => State.settleLane_pair ?_) s
  have hlt : l < 384 := List.mem_range.1 hl
  omega

/-- Fencing changes the role alone (R410). -/
theorem State.fence_pair : s.fence.mgmt.pair = { s.mgmt.pair with role := .fenced } := by
  unfold State.fence
  split
  case isTrue h => rw [← h]
  case isFalse => rw [State.settlePon_pair, State.raise_mgmt_pair, State.setPairSt_pair]

@[simp] theorem State.stopRing_mgmt (r : Nat) : (s.stopRing r).mgmt = s.mgmt := by
  have hstop : ∀ t : State, (t.ringStopDone r).mgmt = t.mgmt := fun t => by
    simp only [State.ringStopDone]
    split
    · split <;> rfl
    · rfl
  rw [State.stopRing, hstop]
  simp only [State.ringDisable]
  split <;> rfl

@[simp] theorem State.restoreMirror_mgmt : s.restoreMirror.mgmt = s.mgmt := by
  simp only [State.restoreMirror]
  rw [foldl_keeps (π := State.mgmt), foldl_keeps (π := State.mgmt)]
  · intro t r _
    split
    · rfl
    · exact State.stopRing_mgmt r
  · exact fun _ _ _ => rfl

theorem State.takeover_pair : s.takeover.mgmt.pair = { s.mgmt.pair with
    st := .alone, role := .active, takeover := some (s.clk.msc + 2), base := none, unsync := [], copies := []
    excluded := [] } := by
  unfold State.takeover
  rw [State.setPairWait, State.setBit_mgmt, State.restoreMirror_mgmt, State.raise_mgmt_pair, State.pairCnt, State.add32_mgmt,
    State.setPairSt_pair]
  rfl

end

/-! SUPPORT. A register above those that an event writes (R267, R268) reads as before, whatever else is listed. -/

/-- Writes at a key below `j` leave what `j` holds, in any list. -/
theorem SMap.get_set_below {α : Type} [DecidableEq α] (m : SMap α) (d d' : α) {j k : Nat} (v : α) (hk : k < j) :
    (SMap.set m d k v).get d' j = SMap.get m d' j := by
  have hne : ¬k = j := Nat.ne_of_lt hk
  have hnot : ¬j < k := Nat.lt_asymm hk
  unfold SMap.set
  split
  · induction m with
    | nil => rfl
    | cons p r ih =>
      obtain ⟨i, w⟩ := p
      simp only [SMap.del]
      split_ifs with hi hlt
      · subst hi
        rw [SMap.get, if_neg hne, if_neg hnot]
      · rfl
      · rw [SMap.get, SMap.get, ih]
  · induction m with
    | nil => simp only [SMap.put, SMap.get, if_neg hne, if_neg hnot]
    | cons p r ih =>
      obtain ⟨i, w⟩ := p
      simp only [SMap.put]
      split_ifs with hi hlt
      · subst hi
        simp only [SMap.get, if_neg hne, if_neg hnot]
      · rw [SMap.get, if_neg hne, if_neg hnot]
      · rw [SMap.get, SMap.get, ih]

section
variable {s : State} {a b n : Nat}

theorem State.reg_setReg_below (h : b < a) (v : W64) : (s.setReg b v).reg a = s.reg a :=
  SMap.get_set_below _ _ _ v h

theorem State.reg_of_regs {t : State} (h : t.regs = s.regs) : t.reg a = s.reg a := by rw [State.reg, State.reg, h]

theorem State.evqWrite_reg_above (h : evcA 0x14 < a) (e : EvRec) : (s.evqWrite e).2.reg a = s.reg a := by
  have htail : evcA 0x10 < a := Nat.lt_of_le_of_lt (by decide) h
  simp only [State.evqWrite]
  split
  · exact State.reg_setReg_below htail _
  · exact State.reg_setReg_below h _

/-- Raising a source writes registers of the event block alone. -/
theorem State.raise_reg_above (hcount : evcA (0x6000 + 4 * n) < a) (hbit : evcA (0x8000 + 4 * (n / 32)) < a)
    (arg : Nat) : (s.raise n arg).reg a = s.reg a := by
  have hlost : evcA 0x14 < a := Nat.lt_of_le_of_lt (Nat.add_le_add_left (by omega) _) hcount
  unfold State.raise
  split
  · rfl
  have hset : ((s.add32 (evcA (0x6000 + 4 * n)) 1).setBit (evcA (0x8000 + 4 * (n / 32))) (n % 32) true).reg a = s.reg a :=
    (State.reg_setReg_below hbit _).trans (State.reg_setReg_below hcount _)
  generalize (s.add32 (evcA (0x6000 + 4 * n)) 1).setBit (evcA (0x8000 + 4 * (n / 32))) (n % 32) true = t at hset
  dsimp only
  split
  · split
    · have hev := fun u : State => State.evqWrite_reg_above (s := u) hlost ⟨n, arg % 2 ^ 32, t.clk.msc⟩
      split <;> rename_i v hv
      · have hw := hev { t with mgmt := { t.mgmt with rcd := { t.mgmt.rcd with
          raises := t.mgmt.rcd.raises.set 0 n (t.mgmt.rcd.raises.get 0 n + 1) } } }
        rw [hv] at hw
        exact (State.reg_of_regs (State.evSignal_regs ..)).trans (hw.trans hset)
      · have hw := hev { t with mgmt := { t.mgmt with rcd := { t.mgmt.rcd with
          raises := t.mgmt.rcd.raises.set 0 n (t.mgmt.rcd.raises.get 0 n + 1) } } }
        rw [hv] at hw
        exact hw.trans hset
    · split
      · exact hset
      · exact (State.reg_setReg_below hlost _).trans hset
  · exact hset

theorem State.setPairSt_reg_above (h : prtA 0 ≤ a) (st : PairSt) (r : Role) :
    (s.setPairSt st r).reg a = s.reg a := by
  unfold State.setPairSt
  split
  · rfl
  · exact State.raise_reg_above (Nat.lt_of_lt_of_le (by decide) h) (Nat.lt_of_lt_of_le (by decide) h) _

end

end Sys2Proof.Machine

namespace Sys2Proof.Machine

/-! SUPPORT. The witness link, tokens and fencing (R397, R408 to R411). -/

section
variable {s : State} {k : TokenIn}

theorem State.heartbeatSend_sends (hup : s.witnessUp = true) (hrun : s.clk.running = true) (hmsc : s.clk.msc % 8 = 0) :
    s.heartbeatSend = s.emit (.link linkWitness [1, s.mgmt.pair.role.code, s.epoch, s.clk.msc]) := by
  rw [State.heartbeatSend, if_pos (by simp [hup, hrun, hmsc])]

theorem State.heartbeatSend_silent (h : s.witnessUp = false ∨ s.clk.msc % 8 ≠ 0) : s.heartbeatSend = s := by
  rw [State.heartbeatSend, if_neg (by rcases h with h | h <;> simp [h])]

theorem State.heartbeat_seen (h : s.witnessUp = true) :
    s.heartbeat = s.modPair (fun p => { p with arbOk := true, arbMsc := s.clk.msc }) := by
  rw [State.heartbeat, if_pos h]

theorem State.heartbeat_unseen (h : s.witnessUp = false) : s.heartbeat = s := by
  rw [State.heartbeat, if_neg (by simp [h])]

theorem State.arbiterMissed_lost (hok : s.mgmt.pair.arbOk = true)
    (hlate : s.mgmt.pair.arbMsc + 8 * s.mgmt.pair.arbMiss ≤ s.clk.msc) :
    s.arbiterMissed = (s.modPair (fun p => { p with arbOk := false })).raise evArbiterLost 0 := by
  rw [State.arbiterMissed, if_pos hlate, State.arbiterLost, if_pos hok]

theorem State.arbiterMissed_other
    (h : s.mgmt.pair.arbOk = false ∨ s.clk.msc < s.mgmt.pair.arbMsc + 8 * s.mgmt.pair.arbMiss) : s.arbiterMissed = s := by
  unfold State.arbiterMissed
  split
  case isTrue hlate =>
    have hno : s.mgmt.pair.arbOk = false := h.resolve_right (Nat.not_lt.2 hlate)
    rw [State.arbiterLost, if_neg (by simp [hno])]
  case isFalse => rfl

/-- A token is valid only for this pair, with a higher epoch and the arbiter's signature. -/
theorem State.tokenOk_false (h : s.mgmt.pair.st = .unpaired ∨ k.pairId ≠ s.fld (prtA 0) 31 16 ∨ k.epoch ≤ s.epoch ∨
    Config.sm2Check s.mgmt.pair.arbKey (tokenBody k) k.sig = false) : s.tokenOk k = false := by
  rcases h with h | h | h | h
  · simp [State.tokenOk, h]
  · simp [State.tokenOk, h]
  · simp [State.tokenOk, Nat.not_lt.2 h]
  · simp [State.tokenOk, h]

theorem State.token_refused (h : s.tokenOk k = false) : s.token k = (s.pairCnt 6 1).raise evTokenRefused 0 := by
  rw [State.token, if_pos (by simp [h])]

/-- A token that is refused is refused in a VERDICT too. -/
theorem State.verdict_refused (h : s.tokenOk k = false) : s.verdict (some k) =
    ((s.modPair (fun p => { p with verdict := none })).pairCnt 6 1).raise evTokenRefused 0 :=
  State.token_refused (s := s.modPair (fun p => { p with verdict := none })) h

section
variable (h : s.tokenOk k = true)
include h

/-- A valid token stores its epoch, and the device it names and the role decide what follows. -/
theorem State.token_valid : s.token k =
    let t := s.setReg (prtA 0x8) (BitVec.ofNat 64 k.epoch)
    if k.serial = Config.serial then if s.mgmt.pair.role = .standby then t.takeover else t
    else if s.mgmt.pair.role = .active then t.fence else t := by
  rw [State.token, if_neg (by simp [h])]
  rfl

theorem State.token_fences (hserial : k.serial ≠ Config.serial) (hrole : s.mgmt.pair.role = .active) :
    s.token k = (s.setReg (prtA 0x8) (BitVec.ofNat 64 k.epoch)).fence := by
  simp only [State.token_valid h, if_neg hserial, if_pos hrole]

theorem State.token_takesOver (hserial : k.serial = Config.serial) (hrole : s.mgmt.pair.role = .standby) :
    s.token k = (s.setReg (prtA 0x8) (BitVec.ofNat 64 k.epoch)).takeover := by
  simp only [State.token_valid h, if_pos hserial, if_pos hrole]

theorem State.token_confirms (hother : k.serial = Config.serial ∧ s.mgmt.pair.role = .active ∨
    k.serial ≠ Config.serial ∧ s.mgmt.pair.role = .standby) :
    s.token k = s.setReg (prtA 0x8) (BitVec.ofNat 64 k.epoch) := by
  rcases hother with ⟨hserial, hrole⟩ | ⟨hserial, hrole⟩
  · simp [State.token_valid h, hserial, hrole]
  · simp [State.token_valid h, hserial, hrole]

end

/-- An ACTIVE device that has heard neither its peer nor the arbiter for FENCE_MS is fenced. -/
theorem State.fenceTimeout_fences (hrole : s.mgmt.pair.role = .active) (hst : s.mgmt.pair.st ≠ .unpaired)
    (hms : s.fenceMs ≠ 0) (hlate : max s.mgmt.pair.hbMsc s.mgmt.pair.arbMsc + 8 * s.fenceMs ≤ s.clk.msc) :
    s.fenceTimeout = s.fence := if_pos ⟨hrole, hst, hms, hlate⟩

theorem State.fenceTimeout_off (h : s.mgmt.pair.role ≠ .active ∨ s.fenceMs = 0 ∨
    s.clk.msc < max s.mgmt.pair.hbMsc s.mgmt.pair.arbMsc + 8 * s.fenceMs) : s.fenceTimeout = s := by
  refine if_neg fun ⟨hrole, _, hms, hlate⟩ => ?_
  rcases h with h | h | h
  · exact h hrole
  · exact hms h
  · exact Nat.not_lt.2 hlate h

end

/-! SUPPORT. Interval records (R400 to R404, R409). -/

section
variable {s : State}

theorem State.sendPartA_sends (hon : s.syncOn = true) (hrun : s.clk.running = true) :
    s.sendPartA = s.emit (.link linkInterval ([0, s.clk.msc] ++
      (List.range 96).map (fun q => (s.partADigest q (s.clk.msc - 1)).toNat))) := by
  rw [State.sendPartA, if_pos (by simp [hon, hrun])]

/-- What a Part B lists after the digests: the batches carried forward, the results of known-answer tests that have not
gone out, and the batches that are UNSYNC (R400, R404). -/
def State.partBTail (s : State) : List Nat :=
  let tests := (s.mgmt.pair.katOwn.filter (fun e => !e.2.2)).map (fun e => 2 * e.1 + b2n e.2.1)
  s.carriedKeys.length :: s.carriedKeys ++ tests.length :: tests ++ s.unsyncKeys

/-- Part B counts the heartbeats sent, and marks the results that it carries. -/
theorem State.sendPartB_sends (hon : s.syncOn = true) (hrun : s.clk.running = true) (hphase : s.clk.phase = .afterCommit) :
    s.sendPartB = (s.modPair (fun p => { p with
        hbSeq := p.hbSeq + 1, katOwn := p.katOwn.map (fun e => (e.1, e.2.1, true)) })).emit
      (.link linkInterval ([1, s.mgmt.pair.hbSeq, s.clk.msc, s.mgmt.pair.role.code] ++
        (List.range 384).map (fun sc => (s.sub sc).digest.toNat) ++ s.partBTail)) := by
  have hdue : (s.syncOn && s.clk.running && s.clk.phase == .afterCommit) = true := by simp [hon, hrun, hphase]
  refine (if_pos hdue).trans ?_
  simp only [State.partBTail, List.append_assoc, List.cons_append, List.nil_append]
  rfl

/-- While the sync link does not run, nothing is exchanged. -/
theorem State.records_off (h : s.syncOn = false) :
    s.sendPartA = s ∧ s.sendPartB = s ∧ ∀ r, s.receiveRecord r = s := by
  refine ⟨?_, ?_, fun r => ?_⟩
  · rw [State.sendPartA, if_neg (by simp [h])]
  · rw [State.sendPartB, if_neg (by simp [h])]
  · unfold State.receiveRecord
    exact if_pos (by simp [h])

/-- The STANDBY device asks for the batches of at most 8 groups that differ, and the others become UNSYNC. -/
theorem State.receiveRecord_partA {ds : List W64} {bad : List Nat} (hon : s.syncOn = true)
    (hrole : s.mgmt.pair.role = .standby)
    (hbad : bad = (List.range 96).filter (fun q => ds.getD q 0 != s.partADigest q (s.clk.msc - 1))) :
    s.receiveRecord (.partA s.clk.msc ds) = (bad.drop 8).foldl (fun s q => s.unsyncGroup q)
      ((bad.take 8).foldl (fun s q => s.emit (.link linkDigest [q]))
        (s.modPair (fun p => { p with asked := bad.take 8 }))) := by
  have hours : ¬(s.mgmt.pair.role != .standby || s.clk.msc != s.clk.msc) = true := by simp [hrole]
  unfold State.receiveRecord
  rw [if_neg (by simp [hon]), hbad]
  exact if_neg hours

/-! What a received Part B leaves: the PON side, the heartbeat's fields and the role, as `beat` lists them. -/

/-- The PON side, and what a heartbeat sets of the pair. -/
def State.beat (s : State) : PonSt × Nat × Nat × Bool × Role :=
  (s.pon, s.mgmt.pair.hbMsc, s.mgmt.pair.missed, s.mgmt.pair.peerHb, s.mgmt.pair.role)

theorem State.raise_beat (n arg : Nat) : (s.raise n arg).beat = s.beat := by
  simp only [State.beat, State.raise_pon, State.raise_mgmt_pair]

theorem State.emit_beat (o : Out) : (s.emit o).beat = s.beat := by
  simp only [State.beat, State.emit_pon, State.emit_mgmt]

theorem State.setReg_beat (a : Nat) (v : W64) : (s.setReg a v).beat = s.beat := by
  simp only [State.beat, State.setReg_pon, State.setReg_mgmt]

theorem State.pairCnt_beat (k n : Nat) : (s.pairCnt k n).beat = s.beat := by
  simp only [State.beat, State.pairCnt, State.add32_pon, State.add32_mgmt]

/-- A change of the pair that leaves the heartbeat and the role. -/
theorem State.modPair_beat {f : Pair → Pair} (hf : ∀ p, (f p).hbMsc = p.hbMsc ∧ (f p).missed = p.missed ∧
    (f p).peerHb = p.peerHb ∧ (f p).role = p.role) : (s.modPair f).beat = s.beat := by
  obtain ⟨hmsc, hmissed, hpeer, hrole⟩ := hf s.mgmt.pair
  simp only [State.beat, State.modPair, hmsc, hmissed, hpeer, hrole]

theorem State.markUnsync_beat (key : Nat) : (s.markUnsync key).beat = s.beat := by
  unfold State.markUnsync
  split
  · rfl
  · exact State.modPair_beat fun _ => ⟨rfl, rfl, rfl, rfl⟩

theorem State.unsyncGroup_beat (q : Nat) : (s.unsyncGroup q).beat = s.beat := by
  unfold State.unsyncGroup
  split
  · exact foldl_keeps _ (fun _ _ _ => State.markUnsync_beat _) _
  · rfl

theorem State.divergence_beat (sc : Nat) : (s.divergence sc).beat = s.beat := by
  rw [State.divergence, State.modPair_beat, State.raise_beat, State.pairCnt_beat]
  exact fun _ => ⟨rfl, rfl, rfl, rfl⟩

theorem State.noteUnsync_beat (keys : List Nat) : (s.noteUnsync keys).beat = s.beat :=
  State.modPair_beat fun _ => ⟨rfl, rfl, rfl, rfl⟩

theorem State.compareBooks_beat (ds : List W64) (theirs : List Nat) : (s.compareBooks ds theirs).2.beat = s.beat := by
  simp only [State.compareBooks]
  refine foldl_keeps (π := fun r : Bool × State => r.2.beat) _ (fun r sc _ => ?_) (true, s)
  obtain ⟨agree, t⟩ := r
  dsimp only
  split
  · exact (State.modPair_beat fun _ => ⟨rfl, rfl, rfl, rfl⟩).trans (State.pairCnt_beat _ _)
  split
  · rfl
  · exact State.divergence_beat _

theorem State.judgeTest_beat (q : Nat) (own peer : Bool) : (s.judgeTest q own peer).beat = s.beat := by
  unfold State.judgeTest
  split
  · rw [State.unsyncGroup_beat, State.emit_beat]
    exact State.modPair_beat fun _ => ⟨rfl, rfl, rfl, rfl⟩
  · rw [apply_ite State.beat, State.unsyncGroup_beat, ite_self]

theorem State.judgeTests_beat (tests : List (Nat × Bool)) : (s.judgeTests tests).beat = s.beat := by
  refine (foldl_keeps (π := State.beat) _ (fun t e _ => ?_) _).trans (State.modPair_beat fun _ => ⟨rfl, rfl, rfl, rfl⟩)
  split
  · split
    · exact (State.judgeTest_beat _ _ _).trans (State.modPair_beat fun _ => ⟨rfl, rfl, rfl, rfl⟩)
    · rfl
  · rfl

theorem State.peerSeen_paired (h : s.mgmt.pair.st = .paired) (peer : Nat) : s.peerSeen peer = s := by
  simp [State.peerSeen, h]

/-- Of a PAIRED device, a Part B renews the heartbeat and keeps the role and the PON side. -/
theorem State.receiveRecord_partB_beat (hon : s.syncOn = true) (hst : s.mgmt.pair.st = .paired) (m n role : Nat)
    (ds : List W64) (cs us : List Nat) (ks : List (Nat × Bool)) :
    (s.receiveRecord (.partB m n role ds cs us ks)).beat = (s.pon, m, 0, true, s.mgmt.pair.role) := by
  have hseen : (s.modPair (fun p => { p with hbMsc := m, missed := 0, peerHb := true })).beat =
    (s.pon, m, 0, true, s.mgmt.pair.role) := rfl
  simp only [State.receiveRecord, hon, State.peerSeen_paired hst, Bool.not_true, Bool.false_eq_true, if_false]
  rw [← hseen]
  generalize s.modPair _ = t
  have hnoted : (if t.mgmt.pair.role = .active then t.noteUnsync us else t).beat = t.beat := by
    rw [apply_ite State.beat, State.noteUnsync_beat, ite_self]
  generalize (if t.mgmt.pair.role = .active then t.noteUnsync us else t) = u at hnoted ⊢
  rw [← hnoted]
  split
  · rfl
  · rw [State.judgeTests_beat, foldl_keeps (π := State.beat) _ (fun _ _ _ => State.markUnsync_beat _), State.modPair_beat,
      State.compareBooks_beat, apply_ite State.beat, State.setReg_beat, ite_self]
    exact fun _ => ⟨rfl, rfl, rfl, rfl⟩

theorem State.hbMissed_counts (hst : s.mgmt.pair.st = .paired ∨ s.mgmt.pair.st = .joining) (hcycle : 240000 ≤ s.clk.cycle)
    (hmsc : s.mgmt.pair.hbMsc < s.clk.msc) (hmiss : s.mgmt.pair.missMsc ≠ some s.clk.msc) :
    s.hbMissed = (s.modPair (fun p => { p with
      missed := p.missed + 1, missMsc := some s.clk.msc, peerHb := false })).pairCnt 5 1 :=
  if_pos ⟨hst, hcycle, hmsc, hmiss⟩

theorem State.hbMissed_off (h : s.clk.msc ≤ s.mgmt.pair.hbMsc ∨ s.mgmt.pair.missMsc = some s.clk.msc ∨
    s.clk.cycle < 240000) : s.hbMissed = s := by
  refine if_neg fun ⟨_, hcycle, hmsc, hmiss⟩ => ?_
  rcases h with h | h | h
  · exact Nat.not_lt.2 h hmsc
  · exact hmiss h
  · exact Nat.not_lt.2 hcycle h

end

end Sys2Proof.Machine

namespace Sys2Proof.Machine

/-! SUPPORT. The loss of the heartbeat (R409). -/

section
variable {s : State}

theorem State.heartbeatLost_off (hmissed : s.mgmt.pair.missed < max 1 s.hbMiss) (hlanes : s.mgmt.pair.lanes ≠ 0#2) :
    s.heartbeatLost = s := by
  have hheard : (!(decide (max 1 s.hbMiss ≤ s.mgmt.pair.missed) || s.mgmt.pair.lanes == 0#2)) = true := by
    simp only [Nat.not_le.2 hmissed, decide_false, Bool.false_or, Bool.not_eq_true', beq_eq_false_iff_ne, ne_eq, hlanes,
      not_false_eq_true]
  exact if_pos hheard

/-- The pair and what has been sent after a command that answers `u`. -/
theorem pair_out_of_kept {i : Instr} {u : State} (h : exec i s = kept s u) :
    ∃ t, exec i s = .next t ∧ t.mgmt.pair = u.mgmt.pair ∧ t.out = u.out := ⟨_, h, rfl, rfl⟩

theorem beat_of_kept {i : Instr} {u : State} (h : exec i s = kept s u) :
    ∃ t, exec i s = .next t ∧ t.beat = u.beat := ⟨_, h, rfl⟩

/-- The pair is BROKEN, with the role as before. -/
def State.heartbeatBroken (s : State) : State :=
  ((s.modPair (fun p => { p with peerHb := false })).setPairSt .broken s.mgmt.pair.role).raise evHeartbeatLost 0

theorem State.heartbeatBroken_pair :
    s.heartbeatBroken.mgmt.pair = { s.mgmt.pair with peerHb := false, st := .broken } := by
  rw [State.heartbeatBroken, State.raise_mgmt_pair, State.setPairSt_pair]
  rfl

theorem State.heartbeatBroken_reg {a : Nat} (h : prtA 0 ≤ a) : s.heartbeatBroken.reg a = s.reg a := by
  rw [State.heartbeatBroken, State.raise_reg_above, State.setPairSt_reg_above h]
  · rfl
  · exact Nat.lt_of_lt_of_le (by decide) h
  · exact Nat.lt_of_lt_of_le (by decide) h

section
variable (hst : s.mgmt.pair.st = .paired) (hlost : max 1 s.hbMiss ≤ s.mgmt.pair.missed ∨ s.mgmt.pair.lanes = 0#2)
include hst hlost

/-- Without a heartbeat a PAIRED device is BROKEN, and tells the arbiter where it has one. -/
theorem State.heartbeatLost_paired : s.heartbeatLost =
    if s.mgmt.pair.arbOk then
      if s.mgmt.pair.role = .active then s.heartbeatBroken.emit (.link linkWitness [3])
      else s.heartbeatBroken.emit (.link linkWitness [2, s.heartbeatBroken.epoch, (s.heartbeatBroken.reg (prtA 0x18)).toNat])
    else s.heartbeatBroken := by
  have hnone : ¬(!(decide (max 1 s.hbMiss ≤ s.mgmt.pair.missed) || s.mgmt.pair.lanes == 0#2)) = true := by
    rcases hlost with h | h
    · simp only [h, decide_true, Bool.true_or, Bool.not_true, Bool.false_eq_true, not_false_eq_true]
    · simp only [h, beq_self_eq_true, Bool.or_true, Bool.not_true, Bool.false_eq_true, not_false_eq_true]
  refine (if_neg hnone).trans ?_
  rw [hst]
  rfl

/-- With an arbiter: the ACTIVE device reports, and the STANDBY one asks for a token (R409). -/
theorem exec_heartbeatLost_arbiter (hok : s.mgmt.pair.arbOk = true) :
    ∃ t, exec .heartbeatLost s = .next t ∧ t.mgmt.pair.st = .broken ∧ t.mgmt.pair.role = s.mgmt.pair.role ∧
      (s.mgmt.pair.role = .active → Out.link linkWitness [3] ∈ t.out) ∧
      (s.mgmt.pair.role = .standby → Out.link linkWitness [2, s.epoch, (s.reg (prtA 0x18)).toNat] ∈ t.out) := by
  have hmem : ∀ (t : State) (o : Out), o ∈ (t.emit o).out := fun t o => List.mem_append_right _ List.mem_cons_self
  have hlostBy := State.heartbeatLost_paired hst hlost
  rw [if_pos hok] at hlostBy
  have hepoch : s.heartbeatBroken.epoch = s.epoch := by
    rw [State.epoch, State.epoch, State.fld, State.fld, State.heartbeatBroken_reg (by decide)]
  have hexec : exec .heartbeatLost s = kept s s.heartbeatLost := rfl
  by_cases hrole : s.mgmt.pair.role = .active
  · rw [if_pos hrole] at hlostBy
    rw [hlostBy] at hexec
    obtain ⟨t, ht, hpair, hout⟩ := pair_out_of_kept hexec
    rw [State.emit_mgmt, State.heartbeatBroken_pair] at hpair
    exact ⟨t, ht, by rw [hpair], by rw [hpair], fun _ => hout ▸ hmem _ _, fun h => by simp [h] at hrole⟩
  · rw [if_neg hrole, hepoch, State.heartbeatBroken_reg (by decide)] at hlostBy
    rw [hlostBy] at hexec
    obtain ⟨t, ht, hpair, hout⟩ := pair_out_of_kept hexec
    rw [State.emit_mgmt, State.heartbeatBroken_pair] at hpair
    exact ⟨t, ht, by rw [hpair], by rw [hpair], fun h => absurd h hrole, fun _ => hout ▸ hmem _ _⟩

end

end

/-! SUPPORT. Digests, row copies and forwarded roadbooks (R401 to R403). -/

section
variable {s : State}

theorem State.tells_of_standby (h : s.mgmt.pair.role = .standby) : s.tells = false := by
  simp [State.tells, h]

theorem State.batchDigests_serves (h : s.tells = true) (hfew : s.mgmt.pair.served < 8) (q : Nat) (ds : List Nat) :
    s.batchDigests q ds = (s.modPair (fun p => { p with served := p.served + 1 })).emit
      (.link linkDigest (q :: (List.range 1408).map (fun b => s.batchDigest q b (s.clk.msc - 1)))) := by
  rw [State.batchDigests, if_pos h, if_neg (Nat.not_le.2 hfew)]

theorem State.batchDigests_full (h : s.tells = true) (hfull : 8 ≤ s.mgmt.pair.served) (q : Nat) (ds : List Nat) :
    s.batchDigests q ds = s := by
  rw [State.batchDigests, if_pos h, if_pos hfull]

section
variable {q : Nat} (hrole : s.mgmt.pair.role = .standby)
include hrole

/-- The STANDBY device compares the digests of a group that it asked for. -/
theorem State.batchDigests_compares (hasked : s.mgmt.pair.asked.contains q = true) (ds : List Nat) :
    s.batchDigests q ds = (List.range 1408).foldl (fun s b =>
        if ds.getD b 0 = s.batchDigest q b (s.clk.msc - 1) then s else s.markUnsync (1408 * q + b))
      (s.modPair (fun p => { p with asked := p.asked.filter (· != q) })) := by
  rw [State.batchDigests, if_neg (ne_true_of_eq_false (State.tells_of_standby hrole)), if_pos hasked]

theorem State.batchDigests_unasked (hasked : s.mgmt.pair.asked.contains q = false) (ds : List Nat) :
    s.batchDigests q ds = s := by
  rw [State.batchDigests, if_neg (ne_true_of_eq_false (State.tells_of_standby hrole)), if_neg (ne_true_of_eq_false hasked)]

end

section
variable {c : RowCopy} (hst : s.mgmt.pair.st = .paired ∨ s.mgmt.pair.st = .joining)
include hst

theorem State.rowCopy_paired : s.rowCopy c =
    match s.mgmt.pair.role with
    | .standby => (s.modPair (fun p => { p with copies := p.copies ++ [c] })).pairCnt 2 1
    | .active =>
      if s.copyDue c.key then
        let u := s.modPair (fun p => { p with copyImg := some (p.copyImg.getD (s.grant.reports, s.grant.hints)) })
        ((u.modPair (fun p => { p with copied := p.copied ++ [c.key], peerUnsync := p.peerUnsync.set 0 c.key 0 })).pairCnt
          2 1).emit (.link linkRow (c.key :: u.copyWords c.key))
      else s
    | _ => s := by
  have hpair : ¬(!(s.mgmt.pair.st == .paired || s.mgmt.pair.st == .joining)) = true := by
    rcases hst with h | h <;> simp [h]
  refine (if_neg hpair).trans ?_
  cases s.mgmt.pair.role <;> rfl

theorem State.rowCopy_keeps (hrole : s.mgmt.pair.role = .standby) :
    s.rowCopy c = (s.modPair (fun p => { p with copies := p.copies ++ [c] })).pairCnt 2 1 := by
  rw [State.rowCopy_paired hst, hrole]

theorem State.rowCopy_notDue (hrole : s.mgmt.pair.role = .active) (hdue : s.copyDue c.key = false) : s.rowCopy c = s := by
  rw [State.rowCopy_paired hst, hrole]
  exact if_neg (ne_true_of_eq_false hdue)

theorem State.rowCopy_sends {u : State} (hrole : s.mgmt.pair.role = .active) (hdue : s.copyDue c.key = true)
    (hu : u = s.modPair (fun p => { p with copyImg := some (p.copyImg.getD (s.grant.reports, s.grant.hints)) })) :
    s.rowCopy c = ((u.modPair (fun p => { p with
      copied := p.copied ++ [c.key], peerUnsync := p.peerUnsync.set 0 c.key 0 })).pairCnt 2 1).emit
        (.link linkRow (c.key :: u.copyWords c.key)) := by
  rw [State.rowCopy_paired hst, hrole, hu]
  exact if_pos hdue

end

section
variable {sc : Nat} {b : FwdBook}

theorem State.forwardBook_off (h : s.mgmt.pair.excluded.contains (sc, b.msc) = false ∨
    s.forwardLimit ≤ s.mgmt.pair.forwarded.length) : s.forwardBook sc b = s := by
  have hoff : ¬(s.mgmt.pair.excluded.contains (sc, b.msc) && decide (s.mgmt.pair.forwarded.length < s.forwardLimit)) =
      true := by
    rcases h with h | h
    · simp only [h, Bool.false_and, Bool.false_eq_true, not_false_eq_true]
    · simp only [Nat.not_lt.2 h, decide_false, Bool.and_false, Bool.false_eq_true, not_false_eq_true]
  exact if_neg hoff

section
variable {u : State} (hex : s.mgmt.pair.excluded.contains (sc, b.msc) = true)
  (hroom : s.mgmt.pair.forwarded.length < s.forwardLimit)
  (hu : u = (s.modPair (fun p => { p with
    excluded := p.excluded.filter (· != (sc, b.msc)), forwarded := p.forwarded ++ [(sc, b.msc)] })).pairCnt 3 1)
include hex hroom hu

/-- An excluded roadbook within the limit: the ACTIVE device sends it, the STANDBY device takes it. -/
theorem State.forwardBook_on : s.forwardBook sc b =
    match s.mgmt.pair.role with
    | .active => u.emit (.link linkBook ([sc, b.msc] ++
        ((((u.sub sc).books.find? (fun k => k.msc == b.msc)).map (fun k => (k.bursts.map Burst.words).flatten)).getD [])))
    | .standby => u.replaceBook sc b
    | _ => u := by
  have hon : (s.mgmt.pair.excluded.contains (sc, b.msc) && decide (s.mgmt.pair.forwarded.length < s.forwardLimit)) =
      true := by simp only [hex, hroom, decide_true, Bool.and_self]
  rw [hu]
  refine (if_pos hon).trans ?_
  cases s.mgmt.pair.role <;> rfl

theorem State.forwardBook_sends (hrole : s.mgmt.pair.role = .active) {k : Book}
    (hk : (u.sub sc).books.find? (fun k => k.msc == b.msc) = some k) :
    s.forwardBook sc b = u.emit (.link linkBook ([sc, b.msc] ++ (k.bursts.map Burst.words).flatten)) := by
  rw [State.forwardBook_on hex hroom hu, hrole]
  simp only [hk, Option.map_some, Option.getD_some]

theorem State.forwardBook_takes (hrole : s.mgmt.pair.role = .standby) : s.forwardBook sc b = u.replaceBook sc b := by
  rw [State.forwardBook_on hex hroom hu, hrole]

end

end

end

/-! SUPPORT. Decision and hint records (R398): a STANDBY device applies them and decides nothing itself. -/

section
variable {s : State}

theorem State.term_setTerm_same (h : SMap.wf (fun _ => ({} : Term)) s.pon.terms = true) (sc t : Nat) (x : Term) :
    (s.setTerm sc t x).term sc t = x := (SMap.get_set h _ _ _ _).trans (if_pos rfl)

/-- A terminal that the ACTIVE device has put into operation is taken over as its record says. -/
theorem State.putTerm_operation {sc t : Nat} {r : TermRec} (h : SMap.wf (fun _ => ({} : Term)) s.pon.terms = true)
    (hact : r.act = 4) :
    ((s.putTerm sc t r).term sc t).act = .operation ∧ ((s.putTerm sc t r).term sc t).eqd = r.eqd ∧
      ((s.putTerm sc t r).term sc t).driftF = r.driftF ∧ ((s.putTerm sc t r).term sc t).serial = r.serial := by
  have hcode : actOf r.act = .operation := by rw [hact]; rfl
  have hstays : ¬((ActSt.operation = .registered ∨ ActSt.operation = .disabled) ∧
      (s.term sc t).act ≠ .operation ∧ (s.term sc t).act ≠ .free) := by simp
  simp only [State.putTerm, hcode, if_neg hstays]
  generalize hz : (if r.misses ≠ 0 ∨ r.operE.isSome = true then s.closeWins sc t else s) = z
  have hterms : z.pon.terms = s.pon.terms := by
    rw [← hz]
    split <;> rfl
  have hread : ∀ (y : State) (x : Retained), (y.setRetd sc t x).term sc t = y.term sc t := fun _ _ => rfl
  rw [hread, State.modTerm, State.term_setTerm_same (hterms ▸ h)]
  exact ⟨rfl, rfl, rfl, rfl⟩

theorem State.decision_other (h : s.mgmt.pair.role ≠ .standby) (d : Decision) : s.decision d = s := by
  unfold State.decision
  exact if_pos (by simp [h])

theorem State.hintRecord_other (h : s.mgmt.pair.role ≠ .standby) (r : HintRec) : s.hintRecord r = s := by
  rw [State.hintRecord, if_pos (by simp [h])]

section
variable (hrole : s.mgmt.pair.role = .standby)
include hrole

theorem State.decision_term (sc t : Nat) (r : TermRec) : s.decision (.term sc t r) = s.putTerm sc t r := by
  simp [State.decision, hrole]

theorem State.decision_key {i : Nat} (hi : i = 1 ∨ i = 2) (sc t w : Nat) (l : List Nat) :
    s.decision (.key sc t i w l) = s.takeKey sc t i w (padTo 16 (Config.unwrap [] l)) := by
  simp [State.decision, hrole, hi]

theorem State.decision_loss (sc t : Nat) (w : DecAt) :
    s.decision (.loss sc t w) = s.recorded 2 (512 * sc + t) (.termLoss sc t) w := by
  simp [State.decision, hrole]

theorem State.standby_of_role : s.standby = true := by simp [State.standby, hrole]

theorem State.byLight_standby (sc : Nat) (f : State → State) : s.byLight sc f = s :=
  if_pos (State.standby_of_role hrole)

/-- What a STANDBY device takes itself changes nothing. -/
theorem kept_ite_standby (t : State) : kept s (if s.standby then s else t) = .next s := by
  rw [if_pos (State.standby_of_role hrole), kept_self]

/-- A hint of the ACTIVE device for a unit of its domain, in time, is posted as recorded. -/
theorem State.hintRecord_posts {h : HintRec} (hinst : (s.unit h.unit).inst = true) (hdom : (s.unit h.unit).dom = h.dom)
    (hlate : h.target ≤ s.clk.msc + 4096) (hearly : s.earliest ≤ h.target) :
    s.hintRecord h = (s.takeHint h.unit ((h.demand + h.prio % 8 * 2 ^ 23) % 2 ^ 23)
      ((h.demand + h.prio % 8 * 2 ^ 23) / 2 ^ 23) h.target).2 := by
  have hack : s.earliestAck = s.earliest := by simp [State.earliestAck, hrole]
  have hother : ¬(!(s.mgmt.pair.role == .standby)) = true := by simp [hrole]
  have hfits : ¬((s.unit h.unit).dom != h.dom || decide (s.clk.msc + 4096 < h.target)) = true := by
    simp [hdom, Nat.not_lt.2 hlate]
  rw [State.hintRecord, bne, if_neg hother]
  simp only [State.postHint]
  rw [if_neg (by simp [hinst]), if_neg hfits, hack, if_neg (Nat.not_lt.2 hearly)]

end

end

/-- Settles O45: each clause is its row in that case. -/
theorem lockstepFencingAndTakeover : Obligations.LockstepFencingAndTakeover := by
  refine ⟨?sends, ?silent, ?heard, ?unheard, ?arbiterLost, ?arbiterKept, ?refused, ?fences, ?takesOver, ?confirms,
    ?takeover, ?deny, ?verdict, ?fenceN, ?timeout, ?noTimeout, ?partA, ?partB, ?off, ?takesA, ?takesB, ?misses, ?noMiss,
    ?broken, ?reported, ?beating, ?digests, ?compares, ?unasked, ?copies, ?forwards, ?noForward, ?other, ?term, ?key, ?loss,
    ?decidesNothing, ?hint⟩
  case sends => exact fun s hup hrun hmsc => congrArg (kept s) (State.heartbeatSend_sends hup hrun hmsc)
  case silent => exact fun s h => congrArg (kept s) (State.heartbeatSend_silent h)
  case heard => exact fun s h => congrArg (kept s) (State.heartbeat_seen h)
  case unheard => exact fun s h => congrArg (kept s) (State.heartbeat_unseen h)
  case arbiterLost => exact fun s hok hlate => congrArg (kept s) (State.arbiterMissed_lost hok hlate)
  case arbiterKept => exact fun s h => congrArg (kept s) (State.arbiterMissed_other h)
  case refused =>
    exact fun s k h => ⟨congrArg (kept s) (State.token_refused (State.tokenOk_false h)),
      congrArg (kept s) (State.verdict_refused (State.tokenOk_false h))⟩
  case fences => exact fun s k h hserial hrole => congrArg (kept s) (State.token_fences h hserial hrole)
  case takesOver => exact fun s k h hserial hrole => congrArg (kept s) (State.token_takesOver h hserial hrole)
  case confirms => exact fun s k h hother => congrArg (kept s) (State.token_confirms h hother)
  case takeover =>
    intro s
    rw [State.takeover_pair]
    exact ⟨rfl, rfl, rfl⟩
  case deny => exact fun s => rfl
  case verdict => exact fun s => rfl
  case fenceN =>
    intro s
    obtain ⟨t, ht, hpair⟩ := pair_of_kept (rfl : exec .fenceN s = kept s s.fence)
    rw [State.fence_pair] at hpair
    exact ⟨t, ht, by rw [hpair], by rw [hpair]⟩
  case timeout =>
    intro s hrole hst hms hlate
    have hexec : exec .fenceTimeout s = kept s s.fence :=
      congrArg (kept s) (State.fenceTimeout_fences hrole hst hms hlate)
    obtain ⟨t, ht, hpair⟩ := pair_of_kept hexec
    rw [State.fence_pair] at hpair
    exact ⟨t, ht, by rw [hpair]⟩
  case noTimeout => exact fun s h => congrArg (kept s) (State.fenceTimeout_off h)
  case partA => exact fun s hon hrun => congrArg (kept s) (State.sendPartA_sends hon hrun)
  case partB =>
    intro s hon hrun hphase
    have hexec : exec .intervalRecordB s = kept s _ := congrArg (kept s) (State.sendPartB_sends hon hrun hphase)
    obtain ⟨t, ht, hpair, hout⟩ := pair_out_of_kept hexec
    exact ⟨t, s.partBTail, ht, by rw [hpair, State.emit_mgmt]; rfl, hout⟩
  case off =>
    intro s r h
    obtain ⟨hA, hB, hR⟩ := State.records_off h
    exact ⟨congrArg (kept s) hA, congrArg (kept s) hB, congrArg (kept s) (hR r)⟩
  case takesA => exact fun s ds hon hrole => congrArg (kept s) (State.receiveRecord_partA hon hrole rfl)
  case takesB =>
    intro s m n role ds cs us ks hon hst
    obtain ⟨t, ht, hbeat⟩ := beat_of_kept
      (rfl : exec (.intervalRecordReceive (.partB m n role ds cs us ks)) s = kept s _)
    rw [State.receiveRecord_partB_beat hon hst] at hbeat
    simp only [State.beat, Prod.mk.injEq] at hbeat
    obtain ⟨hpon, hmsc, hmissed, hpeer, hrole⟩ := hbeat
    exact ⟨t, ht, hmsc, hmissed, hpeer, hrole, hpon⟩
  case misses =>
    exact fun s hst hcycle hmsc hmiss => congrArg (kept s) (State.hbMissed_counts hst hcycle hmsc hmiss)
  case noMiss => exact fun s h => congrArg (kept s) (State.hbMissed_off h)
  case broken =>
    intro s hst hok hlost
    have hbroken := (State.heartbeatLost_paired hst hlost).trans (if_neg (ne_true_of_eq_false hok))
    exact congrArg (kept s) hbroken
  case reported => exact fun s hst hok hlost => exec_heartbeatLost_arbiter hst hlost hok
  case beating => exact fun s hmissed hlanes => congrArg (kept s) (State.heartbeatLost_off hmissed hlanes)
  case digests =>
    exact fun s q ds h => ⟨fun hfew => congrArg (kept s) (State.batchDigests_serves h hfew q ds),
      fun hfull => congrArg (kept s) (State.batchDigests_full h hfull q ds)⟩
  case compares =>
    exact fun s q ds hrole hasked => congrArg (kept s) (State.batchDigests_compares hrole hasked ds)
  case unasked => exact fun s q ds hrole hasked => congrArg (kept s) (State.batchDigests_unasked hrole hasked ds)
  case copies =>
    exact fun s c hst => ⟨fun hrole => congrArg (kept s) (State.rowCopy_keeps hst hrole),
      fun hrole hdue => congrArg (kept s) (State.rowCopy_notDue hst hrole hdue),
      fun hrole hdue => congrArg (kept s) (State.rowCopy_sends hst hrole hdue rfl)⟩
  case forwards =>
    exact fun s sc b hex hroom => ⟨fun k hrole hk => congrArg (kept s) (State.forwardBook_sends hex hroom rfl hrole hk),
      fun hrole => congrArg (kept s) (State.forwardBook_takes hex hroom rfl hrole)⟩
  case noForward => exact fun s sc b h => congrArg (kept s) (State.forwardBook_off h)
  case other =>
    exact fun s d h hrole => ⟨congrArg (kept s) (State.decision_other hrole d),
      congrArg (kept s) (State.hintRecord_other hrole h)⟩
  case term =>
    intro s sc t r hrole hterms hact
    have hexec : exec (.decisionRecord (.term sc t r)) s = kept s _ := congrArg (kept s) (State.decision_term hrole sc t r)
    exact ⟨_, hexec, State.putTerm_operation hterms hact⟩
  case key => exact fun s sc t i w l hrole hi => congrArg (kept s) (State.decision_key hrole hi sc t w l)
  case loss => exact fun s sc t w hrole => congrArg (kept s) (State.decision_loss hrole sc t w)
  case decidesNothing =>
    intro s sc t u vid pt r f l m w d hrole
    have hlight := fun g => congrArg (kept s) (State.byLight_standby hrole sc g)
    refine ⟨hlight _, hlight _, hlight _, hlight _, hlight _, kept_ite_standby hrole _, kept_ite_standby hrole _, ?_,
      hlight _, kept_ite_standby hrole _, kept_ite_standby hrole _, ?_⟩
    · have hrogue : (if (s.sub sc).road == .disabled then s else s.byLight sc (fun s => s.rogueLight sc w.a w.b d)) = s := by
        rw [State.byLight_standby hrole, ite_self]
      exact congrArg (kept s) hrogue
    · have hport : (if pt < 384 ∨ (512 ≤ pt ∧ pt < 640) then (if s.standby then s else s.frameDequeue pt) else s) = s := by
        rw [if_pos (State.standby_of_role hrole), ite_self]
      exact congrArg (kept s) hport
  case hint =>
    exact fun s h hrole hinst hdom hlate hearly => congrArg (kept s)
      (State.hintRecord_posts hrole hinst hdom hlate hearly)

end Sys2Proof.Machine

namespace Sys2Proof.Machine

/-! SUPPORT. The mailboxes (R426, R427, R430). -/

/-- A well-formed request of this opcode waits in mailbox `m`, which is served. -/
structure State.Serves (s : State) (m op : Nat) : Prop where
  built : m < 3
  busy : (s.mbx m).busy = true
  fw : s.fwServes = true
  on : s.mbxOn m = true
  wellFormed : mbxReqOk (s.mbx m).req = true
  opcode : leAt (s.mbx m).req 0 2 = op

section
variable {s : State} {m op : Nat}

/-- A mailbox that is served, with a request in it. -/
theorem mbxServe_waits (hm : m < 3) (hbusy : (s.mbx m).busy = true) (hfw : s.fwServes = true) (hon : s.mbxOn m = true) :
    ¬(decide (3 ≤ m) || !(s.mbx m).busy || !s.fwServes || !s.mbxOn m) = true := by
  simp [Nat.not_le.2 hm, hbusy, hfw, hon]

theorem State.Serves.mbxServe (h : s.Serves m op) (f : State → State) : s.mbxServe m op f = f s := by
  obtain ⟨hm, hbusy, hfw, hon, hok, hop⟩ := h
  simp only [State.mbxServe, if_neg (mbxServe_waits hm hbusy hfw hon), hok, Bool.not_true, Bool.false_eq_true, if_false,
    if_pos hop]

/-- Nothing waits, the firmware is paused, or the mailbox is disabled. -/
theorem State.mbxServe_idle (h : (s.mbx m).busy = false ∨ s.fwServes = false ∨ s.mbxOn m = false) (op : Nat)
    (f : State → State) : s.mbxServe m op f = s := by
  have hidle : (decide (3 ≤ m) || !(s.mbx m).busy || !s.fwServes || !s.mbxOn m) = true := by
    rcases h with h | h | h <;> simp [h]
  exact if_pos hidle

theorem State.mbxServe_malformed (hm : m < 3) (hbusy : (s.mbx m).busy = true) (hfw : s.fwServes = true)
    (hon : s.mbxOn m = true) (hbad : mbxReqOk (s.mbx m).req = false) (op : Nat) (f : State → State) :
    s.mbxServe m op f = s.mbxAnswer m stBadArg [] := by
  simp only [State.mbxServe, if_neg (mbxServe_waits hm hbusy hfw hon), hbad, Bool.not_false, if_true]

/-- Where serving changes nothing, nothing changes, whatever waits. -/
theorem State.mbxServe_self {f : State → State} (hok : mbxReqOk (s.mbx m).req = true) (hf : f s = s) (op : Nat) :
    s.mbxServe m op f = s := by
  simp only [State.mbxServe, hok, hf, Bool.not_true, Bool.false_eq_true, if_false, ite_self]

theorem State.mbxPlain_empty (h : s.mbxBody m = []) (f : State → List Nat × State) :
    s.mbxPlain m f = (f s).2.mbxAnswer m stOk (f s).1 := by
  rw [State.mbxPlain, if_pos (by rw [h]; rfl)]

/-- The nonce that a random number makes, and how long it lasts (R442). -/
theorem State.issueNonce_of_random {w : W64} {t : State} (h : s.random = (w, t)) :
    s.issueNonce = (w.toNat, t.modRec (fun r => { r with nonce := some (w.toNat, t.clk.msc + 480000) })) := by
  rw [State.issueNonce, h]

theorem State.mbxReadRecord_ok {first n : Nat} (hlen : (s.mbxBody m).length = 4) (hfirst : first = leAt (s.mbxBody m) 0 2)
    (hn : n = leAt (s.mbxBody m) 2 2) (hlo : 1 ≤ n) (hhi : n ≤ 16) (hend : first + n ≤ 4096) :
    s.mbxReadRecord m = s.mbxAnswer m stOk (((List.range n).map (fun i => s.recBytes (first + i))).flatten) := by
  subst hfirst hn
  exact if_pos ⟨hlen, hlo, hhi, hend⟩

theorem State.mbxReadRecord_badCount (h : leAt (s.mbxBody m) 2 2 = 0 ∨ 16 < leAt (s.mbxBody m) 2 2) :
    s.mbxReadRecord m = s.mbxAnswer m stBadArg [] := by
  refine if_neg fun ⟨_, hlo, hhi, _⟩ => ?_
  omega

theorem State.mbxAttest_ok (h : (s.mbxBody m).length = 32) : s.mbxAttest m = s.mbxAnswer m stOk
    (s.reportBody (s.mbxBody m) ++ padTo 64 (Config.sm2Sign (s.reportBody (s.mbxBody m)))) := if_pos h

theorem State.mbxClear_ok (h : (s.mbxBody m).length = 96) :
    s.mbxClear m = (s.clearWith (s.mbxBody m)).2.mbxAnswer m (s.clearWith (s.mbxBody m)).1 [] := if_pos h

theorem State.mbxClearLedger_ok {i n : Nat} (hlen : (s.mbxBody m).length = 8) (hi : i = leAt (s.mbxBody m) 0 4)
    (hn : n = leAt (s.mbxBody m) 4 2) (hlo : 1 ≤ n) (hhi : n ≤ 64) (hzero : leAt (s.mbxBody m) 6 2 = 0)
    (hthere : i < s.mgmt.rcd.ledger.length) : s.mbxClearLedger m = s.mbxAnswer m stOk (s.ledgerBytes i n) := by
  subst hi hn
  exact (if_pos ⟨hlen, hlo, hhi, hzero⟩).trans (if_neg (Nat.not_le.2 hthere))

/-! Requests to the modules. -/

section
variable (hok : moduleIoOk (s.mbxBody m) = true)
include hok

theorem State.mbxModuleIo_waits (hfirst : s.mbxFirst m = false) (o : Option (List Nat)) : s.mbxModuleIo m o = s := by
  simp only [State.mbxModuleIo, hok, hfirst, Bool.not_true, Bool.not_false, Bool.false_eq_true, if_false, if_true]

/-- The target is asked, and its answer is the response; one that does not acknowledge is not found. -/
theorem State.mbxModuleIo_asks (hfirst : s.mbxFirst m = true) (o : Option (List Nat)) :
    s.mbxModuleIo m o =
      let t := s.emit (.side (sideModule + leAt (s.mbxBody m) 0 1) (sliceB (s.mbxBody m) 1 3 ++ (s.mbxBody m).drop 8))
      match o with
      | none => t.mbxAnswer m stNotFound []
      | some d => t.mbxAnswer m stOk (if leAt (s.mbxBody m) 3 1 = 0 then padTo (leAt (s.mbxBody m) 4 2) d else []) := by
  cases o with
  | none => simp only [State.mbxModuleIo, hok, hfirst, Bool.not_true, Bool.false_eq_true, if_false]
  | some d => simp only [State.mbxModuleIo, hok, hfirst, Bool.not_true, Bool.false_eq_true, if_false]

theorem State.mbxModuleIo_reads (hfirst : s.mbxFirst m = true) (hread : leAt (s.mbxBody m) 3 1 = 0) (d : List Nat) :
    s.mbxModuleIo m (some d) =
      (s.emit (.side (sideModule + leAt (s.mbxBody m) 0 1) (sliceB (s.mbxBody m) 1 3 ++ (s.mbxBody m).drop 8))).mbxAnswer m
        stOk (padTo (leAt (s.mbxBody m) 4 2) d) := by
  simp only [State.mbxModuleIo_asks hok hfirst, if_pos hread]

end

end

/-! SUPPORT. The SMBus target port, the Alert Response Address and the out-of-band port (R428, R429). -/

section
variable {s : State}

theorem State.blockWrite_badPec (c : Nat) (l : List Nat) : s.blockWrite c l false = s := rfl

theorem State.sendByte_badPec (c : Nat) : s.sendByte c false = s := rfl

theorem State.blockWrite_off (h : s.smbEn = false) (c : Nat) (l : List Nat) (b : Bool) : s.blockWrite c l b = s := by
  rw [State.blockWrite, if_pos (by simp [h])]

theorem State.sendByte_off (h : s.smbEn = false) (c : Nat) (b : Bool) : s.sendByte c b = s := by
  rw [State.sendByte, if_pos (by simp [h])]

section
variable (hen : s.smbEn = true)
include hen

section
variable (hfree : (s.mbx 1).busy = false)
include hfree

/-- The first block starts the request anew, and the next ones continue it. -/
theorem State.blockWrite_builds {l : List Nat} (hlen : l.length ≤ 255) :
    s.blockWrite 0x10 l true = s.setMbx 1 { s.mbx 1 with req := l } ∧
      s.blockWrite 0x11 l true = s.setMbx 1 { s.mbx 1 with req := (s.mbx 1).req ++ l } := by
  have hgo : ¬(!true || !s.smbEn || (s.mbx 1).busy || decide (255 < l.length)) = true := by
    simp [hen, hfree, Nat.not_lt.2 hlen]
  constructor
  · exact if_neg hgo
  · exact if_neg hgo

theorem State.sendByte_submits : s.sendByte 0x12 true = s.mbxSubmit 1 := by
  have hgo : ¬(!true || !s.smbEn || (s.mbx 1).busy || 0x12 != 0x12) = true := by simp [hen, hfree]
  exact if_neg hgo

end

theorem State.readByte_on : s.readByte = s.emit (.side sideSmb [b2n (s.mbx 1).busy]) := if_pos hen

theorem State.blockRead_on : s.blockRead = (s.setMbx 1 { s.mbx 1 with
    pos := (s.mbx 1).pos + (sliceB (s.mbx 1).rsp (s.mbx 1).pos 255).length }).emit
      (.side sideSmb (sliceB (s.mbx 1).rsp (s.mbx 1).pos 255)) := if_pos hen

end

theorem State.oobFrame_other {f : OobIn} (h : s.oobEn = false ∨ f.toUs = false ∨ f.etype ≠ 0x88B6) : s.oobFrame f = s := by
  have hskip : (!s.oobEn || !f.toUs || f.etype != 0x88B6 || f.off != 0 || f.frags != 0 || (s.mbx 2).busy) = true := by
    rcases h with h | h | h <;> simp [h]
  exact if_pos hskip

/-- A request for this device in one fragment: with the previous TAG it is answered again, else submitted. -/
theorem State.oobFrame_takes {f : OobIn} (hen : s.oobEn = true) (hto : f.toUs = true) (hty : f.etype = 0x88B6)
    (hoff : f.off = 0) (hfrags : f.frags = 0) (hfree : (s.mbx 2).busy = false) :
    s.oobFrame f = if (s.mbx 2).lastTag = some (leAt f.bytes 4 4) then (s.setMbx 2 { s.mbx 2 with sender := f.src }).oobSend
      else (s.setMbx 2 { s.mbx 2 with req := f.bytes, sender := f.src }).mbxSubmit 2 := by
  have hgo : ¬(!s.oobEn || !f.toUs || f.etype != 0x88B6 || f.off != 0 || f.frags != 0 || (s.mbx 2).busy) = true := by
    simp [hen, hto, hty, hoff, hfrags, hfree]
  exact if_neg hgo

/-! SUPPORT. The JTAG port (R450). -/

/-- The challenge of five random numbers. -/
def challengeOf (a b c d e : W64) : List Nat :=
  leBytes 8 Config.serial ++ leBytes 8 a.toNat ++ leBytes 8 b.toNat ++ leBytes 8 c.toNat ++ leBytes 8 d.toNat ++
    leBytes 8 e.toNat

theorem challengeOf_length (a b c d e : W64) : (challengeOf a b c d e).length = 48 := by
  simp only [challengeOf, List.length_append, leBytes_length]

theorem take_challengeOf (a b c d e : W64) : (challengeOf a b c d e).take 8 = leBytes 8 Config.serial := by
  simp only [challengeOf, List.append_assoc]
  exact List.take_left' (leBytes_length _ _)

/-- An unlocked port gives a challenge of its serial number and 40 random bytes, and keeps it. -/
theorem exec_dbgChallenge (h : s.mgmt.dbg.locked = false) :
    ∃ t a b c d e, exec .dbgChallenge s = .next t ∧
      t.mgmt.dbg = { s.mgmt.dbg with challenge := some (challengeOf a b c d e) } := by
  have hopen : ¬s.mgmt.dbg.locked = true := ne_true_of_eq_false h
  exact ⟨_, _, _, _, _, _, congrArg (kept s) (if_neg hopen), rfl⟩

theorem State.challenge_locked (h : s.mgmt.dbg.locked = true) : s.challenge = s := if_pos h

theorem State.response_locked (h : s.mgmt.dbg.locked = true) (l : List Nat) : s.response l = s := if_pos h

section
variable {g : List Nat} (hopen : s.mgmt.dbg.locked = false)
include hopen

theorem State.response_unlocks {l : List Nat} (hl : s.mgmt.dbg.challenge = some l)
    (hsig : Config.sm2Check (Config.otpKeyHash 0) l g = true) :
    s.response g = (s.modDbg (fun x => { x with challenge := none, unlocked := true })).raise evDebugUnlocked 0 := by
  simp only [State.response, hopen, hl, hsig, Bool.false_eq_true, if_false, if_true]
  rfl

/-- A response without a challenge fails, and the third failure locks the port. -/
theorem State.response_fails {t : State} (hl : s.mgmt.dbg.challenge = none)
    (ht : t = s.modDbg (fun x => { x with challenge := none, fails := x.fails + 1, locked := decide (3 ≤ x.fails + 1) })) :
    s.response g = if 3 ≤ s.mgmt.dbg.fails + 1 then t.raise evDebugLockout 0 else t := by
  have hlocked : t.mgmt.dbg.locked = decide (3 ≤ s.mgmt.dbg.fails + 1) := by rw [ht]; rfl
  have hresp : s.response g = if t.mgmt.dbg.locked then t.raise evDebugLockout 0 else t := by
    simp only [State.response, hopen, hl, Bool.false_eq_true, if_false]
    rw [ht]
    rfl
  rw [hresp, hlocked]
  simp only [decide_eq_true_eq]

end

end

/-- Settles O46: each clause is its row in that case. -/
theorem mailboxRequestsAndSideInterfaces : Obligations.MailboxRequestsAndSideInterfaces := by
  refine ⟨?sensors, ?record, ?badCount, ?cert, ?attest, ?nonce, ?clears, ?lastResort, ?ledger, ?moduleReads, ?noModule,
    ?moduleWaits, ?idle, ?malformed, ?badPec, ?builds, ?submits, ?readByte, ?blockRead, ?smbOff, ?alert, ?noAlert, ?oobOther,
    ?oobTakes, ?challenge, ?locked, ?unlocks, ?fails⟩
  case sensors =>
    exact fun s m hm hbusy hfw hon hok hop hbody => congrArg (kept s)
      ((State.Serves.mbxServe ⟨hm, hbusy, hfw, hon, hok, hop⟩ _).trans (State.mbxPlain_empty hbody _))
  case record =>
    exact fun s m first n hm hbusy hfw hon hok hop hlen hfirst hn hlo hhi hend => congrArg (kept s)
      ((State.Serves.mbxServe ⟨hm, hbusy, hfw, hon, hok, hop⟩ _).trans
        (State.mbxReadRecord_ok hlen hfirst hn hlo hhi hend))
  case badCount =>
    exact fun s m hm hbusy hfw hon hok hop hbad => congrArg (kept s)
      ((State.Serves.mbxServe ⟨hm, hbusy, hfw, hon, hok, hop⟩ _).trans (State.mbxReadRecord_badCount hbad))
  case cert =>
    exact fun s m hm hbusy hfw hon hok hop hbody => congrArg (kept s)
      ((State.Serves.mbxServe ⟨hm, hbusy, hfw, hon, hok, hop⟩ _).trans (State.mbxPlain_empty hbody _))
  case attest =>
    exact fun s m hm hbusy hfw hon hok hop hlen => congrArg (kept s)
      ((State.Serves.mbxServe ⟨hm, hbusy, hfw, hon, hok, hop⟩ _).trans (State.mbxAttest_ok hlen))
  case nonce =>
    intro s m w t hm hbusy hfw hon hok hop hbody hrandom
    refine congrArg (kept s) ((State.Serves.mbxServe ⟨hm, hbusy, hfw, hon, hok, hop⟩ _).trans
      ((State.mbxPlain_empty hbody _).trans ?_))
    simp only [State.issueNonce_of_random hrandom, State.modRec_clk]
  case clears =>
    exact fun s m hm hbusy hfw hon hok hop hlen => congrArg (kept s)
      ((State.Serves.mbxServe ⟨hm, hbusy, hfw, hon, hok, hop⟩ _).trans (State.mbxClear_ok hlen))
  case lastResort =>
    exact fun s m hm hbusy hfw hon hok hop hbody => congrArg (kept s)
      ((State.Serves.mbxServe ⟨hm, hbusy, hfw, hon, hok, hop⟩ _).trans (State.mbxPlain_empty hbody _))
  case ledger =>
    exact fun s m i n hm hbusy hfw hon hok hop hlen hi hn hlo hhi hzero hthere => congrArg (kept s)
      ((State.Serves.mbxServe ⟨hm, hbusy, hfw, hon, hok, hop⟩ _).trans
        (State.mbxClearLedger_ok hlen hi hn hlo hhi hzero hthere))
  case moduleReads =>
    intro s m b d hm hbusy hfw hon hok hop hb hio hfirst hread
    subst hb
    exact congrArg (kept s) ((State.Serves.mbxServe ⟨hm, hbusy, hfw, hon, hok, hop⟩ _).trans
      (State.mbxModuleIo_reads hio hfirst hread d))
  case noModule =>
    intro s m b hm hbusy hfw hon hok hop hb hio hfirst
    subst hb
    exact congrArg (kept s) ((State.Serves.mbxServe ⟨hm, hbusy, hfw, hon, hok, hop⟩ _).trans
      (State.mbxModuleIo_asks hio hfirst none))
  case moduleWaits =>
    exact fun s m o hok hop hio hfirst => congrArg (kept s)
      (State.mbxServe_self hok (State.mbxModuleIo_waits hio hfirst o) 9)
  case idle =>
    intro s m o h
    have hidle := fun op f => congrArg (kept s) (State.mbxServe_idle h op f)
    simp only [List.mem_cons, List.not_mem_nil, or_false, forall_eq_or_imp, forall_eq]
    exact ⟨hidle _ _, hidle _ _, hidle _ _, hidle _ _, hidle _ _, hidle _ _, hidle _ _, hidle _ _, hidle _ _, hidle _ _⟩
  case malformed =>
    intro s m o hm hbusy hfw hon hbad
    have hans := fun op f => congrArg (kept s) (State.mbxServe_malformed hm hbusy hfw hon hbad op f)
    simp only [List.mem_cons, List.not_mem_nil, or_false, forall_eq_or_imp, forall_eq]
    exact ⟨hans _ _, hans _ _, hans _ _, hans _ _, hans _ _, hans _ _, hans _ _, hans _ _, hans _ _⟩
  case badPec => exact fun s c l => ⟨congrArg (kept s) (State.blockWrite_badPec c l), congrArg (kept s) (State.sendByte_badPec c)⟩
  case builds =>
    intro s l hen hfree hlen
    obtain ⟨hfirst, hnext⟩ := State.blockWrite_builds hen hfree hlen
    exact ⟨congrArg (kept s) hfirst, congrArg (kept s) hnext⟩
  case submits => exact fun s hen hfree => congrArg (kept s) (State.sendByte_submits hen hfree)
  case readByte => exact fun s hen => congrArg (kept s) (State.readByte_on hen)
  case blockRead => exact fun s hen => congrArg (kept s) (State.blockRead_on hen)
  case smbOff =>
    exact fun s c l b h => ⟨congrArg (kept s) (State.blockWrite_off h c l b), congrArg (kept s) (State.sendByte_off h c b),
      congrArg (kept s) (if_neg (ne_true_of_eq_false h)), congrArg (kept s) (if_neg (ne_true_of_eq_false h))⟩
  case alert => exact fun s h => congrArg (kept s) (if_pos h)
  case noAlert => exact fun s h => congrArg (kept s) (if_neg (ne_true_of_eq_false h))
  case oobOther => exact fun s f h => congrArg (kept s) (State.oobFrame_other h)
  case oobTakes =>
    exact fun s f hen hto hty hoff hfrags hfree => congrArg (kept s)
      (State.oobFrame_takes hen hto hty hoff hfrags hfree)
  case challenge =>
    intro s h
    obtain ⟨t, a, b, c, d, e, ht, hdbg⟩ := exec_dbgChallenge h
    exact ⟨t, challengeOf a b c d e, ht, hdbg, challengeOf_length a b c d e, take_challengeOf a b c d e⟩
  case locked =>
    exact fun s l h => ⟨congrArg (kept s) (State.challenge_locked h), congrArg (kept s) (State.response_locked h l)⟩
  case unlocks => exact fun s l g hopen hl hsig => congrArg (kept s) (State.response_unlocks hopen hl hsig)
  case fails => exact fun s g hopen hl => congrArg (kept s) (State.response_fails hopen hl rfl)

end Sys2Proof.Machine

namespace Sys2Proof.Machine

/-! SUPPORT. The commands of the event recorder, case by case (R441 to R445, R452). -/

section
variable {c : Desc} {s : State} {d n : Nat}

theorem bodyRecBind_noSource (h : s.srcDomain (c.n1 % 16) c.n2 = none) : bodyRecBind none c s = bad stNotFound s := by
  simp only [bodyRecBind, h]

theorem bodyRecBind_domain (hd : s.srcDomain (c.n1 % 16) c.n2 = some d) (hdom : c.dom ≠ 0)
    (h : c.n0 < 1024 ∨ d ≠ c.dom) : bodyRecBind none c s = bad stDomain s := by
  have hforeign : ((c.dom != 0 && decide (c.n0 < 1024)) || (c.dom != 0 && d != c.dom)) = true := by
    rcases h with h | h <;> simp [hdom, h]
  simp only [bodyRecBind, hd, if_pos hforeign]

theorem bodyRecBind_inUse (hd : s.srcDomain (c.n1 % 16) c.n2 = some d) (hdom : c.dom = 0)
    (h : (s.recd c.n0).bound = true ∨ (s.recd c.n0).h.count ≠ 0) : bodyRecBind none c s = bad stState s := by
  have hused : ((none : Option Report).isNone && ((s.recd c.n0).bound || (s.recd c.n0).h.count != 0)) = true := by
    rcases h with h | h <;> simp [h]
  simp only [bodyRecBind, hd, hdom, bne_self_eq_false, Bool.false_and, Bool.or_false, Bool.false_eq_true, if_false]
  exact if_pos hused

/-- Domain 0, or the domain of the source, in its own records and with fewer than 64 of them bound, binds a free record. -/
theorem bodyRecBind_binds (hd : s.srcDomain (c.n1 % 16) c.n2 = some d)
    (hdom : c.dom = 0 ∨ 1024 ≤ c.n0 ∧ d = c.dom ∧ s.mgmt.rcd.recs.countWhere (fun _ y => y.bound && y.dom == c.dom) < 64)
    (hfree : (s.recd c.n0).bound = false) (hempty : (s.recd c.n0).h.count = 0) :
    bodyRecBind none c s = ok (s.modRec (fun r =>
      { r with
        recs := r.recs.set {} c.n0
          { s.recd c.n0 with
            bound := true, unbind := false, kind := c.n1 % 16, log := c.n1 / 16 % 2 == 1, source := c.n2, base := c.n3,
            width := c.n4, dom := d } })) := by
  have hown : ¬((c.dom != 0 && decide (c.n0 < 1024)) || (c.dom != 0 && d != c.dom)) = true := by
    rcases hdom with h | ⟨hlo, hd, -⟩
    · simp [h]
    · simp [hd, Nat.not_lt.2 hlo]
  have hroom : ¬(c.dom != 0 && decide (64 ≤ s.mgmt.rcd.recs.countWhere (fun _ y => y.bound && y.dom == c.dom))) = true := by
    rcases hdom with h | ⟨-, -, hfew⟩
    · simp [h]
    · simp [Nat.not_le.2 hfew]
  have hunused : ¬((none : Option Report).isNone && ((s.recd c.n0).bound || (s.recd c.n0).h.count != 0)) = true := by
    simp [hfree, hempty]
  simp only [bodyRecBind, hd, if_neg hown, if_neg hroom]
  exact if_neg hunused

theorem bodyRecUnbind_domain (hdom : c.dom ≠ 0) (h : (s.recd c.n0).dom ≠ c.dom) :
    bodyRecUnbind none c s = bad stDomain s := if_pos (by simp [hdom, h])

theorem bodyRecUnbind_marks (hdom : c.dom = 0 ∨ (s.recd c.n0).dom = c.dom) (hbound : (s.recd c.n0).bound = true) :
    bodyRecUnbind none c s =
      ok (s.modRec (fun r => { r with recs := r.recs.set {} c.n0 { s.recd c.n0 with unbind := true } })) := by
  have hown : ¬(c.dom != 0 && (s.recd c.n0).dom != c.dom) = true := by rcases hdom with h | h <;> simp [h]
  exact (if_neg hown).trans (if_pos hbound)

theorem bodyRecRead_ok (hdom : c.dom = 0) :
    bodyRecRead none c s = ok (s.outBuf c (((List.range c.n1).map (fun i => s.recBytes (c.n0 + i))).flatten)) :=
  if_neg (by simp [hdom])

theorem bodyRecRead_domain {i : Nat} (hdom : c.dom ≠ 0) (hi : i < c.n1) (h : (s.recd (c.n0 + i)).dom ≠ c.dom) :
    bodyRecRead none c s = bad stDomain s := by
  have hforeign : (List.range c.n1).any (fun i => (s.recd (c.n0 + i)).dom != c.dom) = true :=
    List.any_eq_true.2 ⟨i, List.mem_range.2 hi, bne_iff_ne.2 h⟩
  exact if_pos (by simp only [hforeign, Bool.and_true, bne_iff_ne, ne_eq, hdom, not_false_iff])

theorem bodyGetClearNonce_ok {w : W64} {t : State} (h : s.random = (w, t)) :
    bodyGetClearNonce none c s =
      ok ((t.modRec (fun r => { r with nonce := some (w.toNat, t.clk.msc + 480000) })).outBuf c
        (leBytes 8 w.toNat ++ leBytes 8 (t.clk.msc + 480000))) := by
  simp only [bodyGetClearNonce, State.issueNonce_of_random h, State.modRec_clk]

/-! The token's check comes first and consumes the nonce, whatever its result (R443). -/

theorem bodyClearRecords_refused (h : s.tokenStatus (readToken c.inp) = n) (hn : n ≠ stOk) :
    bodyClearRecords none c s = bad n (s.modRec (fun r => { r with nonce := none })) := by
  simp only [bodyClearRecords, State.clearWith, h, if_pos (bne_iff_ne.2 hn)]

theorem bodyClearRecords_full (h : s.tokenStatus (readToken c.inp) = stOk)
    (hfull : clearLedgerMax ≤ s.mgmt.rcd.ledger.length) :
    bodyClearRecords none c s = bad stNoRoom (s.modRec (fun r => { r with nonce := none })) := by
  have hfull : clearLedgerMax ≤ (s.modRec (fun r => { r with nonce := none })).mgmt.rcd.ledger.length := hfull
  simp only [bodyClearRecords, State.clearWith, h, bne_self_eq_false, Bool.false_eq_true, if_false, if_pos hfull]

theorem bodyClearRecords_passes (h : s.tokenStatus (readToken c.inp) = stOk)
    (hroom : s.mgmt.rcd.ledger.length < clearLedgerMax) :
    bodyClearRecords none c s = ok (((((s.modRec (fun r => { r with nonce := none })).clearRecords
      (readToken c.inp)).ledgerAppend (readToken c.inp)).raise evRecordsCleared s.mgmt.rcd.ledger.length)) := by
  have hroom : ¬clearLedgerMax ≤ (s.modRec (fun r => { r with nonce := none })).mgmt.rcd.ledger.length :=
    Nat.not_le.2 hroom
  simp only [bodyClearRecords, State.clearWith, h, bne_self_eq_false, Bool.false_eq_true, if_false, if_neg hroom]
  rfl

theorem bodySetClearKey_domain (h : c.dom ≠ 0) : bodySetClearKey none c s = bad stDomain s := if_pos (bne_iff_ne.2 h)

theorem bodySetClearKey_again (hdom : c.dom = 0) (h : s.mgmt.rcd.clearKey.isSome = true) :
    bodySetClearKey none c s = bad stState s := (if_neg (by simp [hdom])).trans (if_pos h)

theorem bodySetClearKey_ok (hdom : c.dom = 0) (h : s.mgmt.rcd.clearKey = none) :
    bodySetClearKey none c s = ok (s.modRec (fun r => { r with clearKey := some c.inp })) :=
  (if_neg (by simp [hdom])).trans (if_neg (by simp [h]))

end

/-! SUPPORT. Samples, commits and the recorder's memory (R437, R438, R440, R446). -/

section
variable {s : State} {k : Nat}

/-- The counts and the extremes with one more sample (R437). -/
def Hist.extend (a : Hist) (v msc : Nat) : Hist :=
  { a with
    count := (a.count + 1) % 2 ^ 64, min := Min.min a.min v, max := Max.max a.max v,
    minMsc := if v < a.min then msc else a.minMsc, maxMsc := if a.max < v then msc else a.maxMsc }

theorem Hist.take_eq (a : Hist) (x : Rec) (v msc : Nat) : a.take x v msc =
    if 31 < binOf x v then { a.extend v msc with overflow := (a.overflow + 1) % 2 ^ 32 }
    else if a.bins.get 0 (binOf x v) != 0xFFFFFFFF then
      { a.extend v msc with bins := a.bins.set 0 (binOf x v) (a.bins.get 0 (binOf x v) + 1) }
    else { a.extend v msc with binSat := true } := by
  have hextend : (let b := { a with count := (a.count + 1) % 2 ^ 64 }
      let b := if v < b.min then { b with min := v, minMsc := msc } else b
      if b.max < v then { b with max := v, maxMsc := msc } else b) = a.extend v msc := by
    unfold Hist.extend
    by_cases hmin : v < a.min <;> by_cases hmax : a.max < v <;> simp [hmin, hmax] <;> omega
  simp only [Hist.take, hextend]
  rfl

/-- What a sample leaves of the counts, the extremes and the bins (R437). -/
theorem histTake_spec (a : Hist) (x : Rec) (v m : Nat) :
    (a.take x v m).count = (a.count + 1) % 2 ^ 64 ∧ (a.take x v m).min = min a.min v ∧
    (a.take x v m).max = max a.max v ∧ (a.take x v m).minMsc = (if v < a.min then m else a.minMsc) ∧
    (31 < binOf x v → (a.take x v m).bins = a.bins) ∧
    (binOf x v ≤ 31 → (a.take x v m).overflow = a.overflow ∧ (a.bins.get 0 (binOf x v) ≠ 0xFFFFFFFF →
      (a.take x v m).bins = a.bins.set 0 (binOf x v) (a.bins.get 0 (binOf x v) + 1))) := by
  rw [Hist.take_eq]
  by_cases hbin : 31 < binOf x v
  · rw [if_pos hbin]
    exact ⟨rfl, rfl, rfl, rfl, fun _ => rfl, fun h => absurd hbin (Nat.not_lt.2 h)⟩
  · rw [if_neg hbin]
    by_cases hfull : a.bins.get 0 (binOf x v) = 0xFFFFFFFF
    · rw [if_neg (by simp [hfull])]
      exact ⟨rfl, rfl, rfl, rfl, fun h => absurd h hbin, fun _ => ⟨rfl, fun h => absurd hfull h⟩⟩
    · rw [if_pos (bne_iff_ne.2 hfull)]
      exact ⟨rfl, rfl, rfl, rfl, fun h => absurd h hbin, fun _ => ⟨rfl, fun _ => rfl⟩⟩

/-- A commit within an interval of commits (R438). -/
theorem execRecorderCommit_commits (hrun : s.clk.running = true) (hmsc : s.clk.msc % 8 = 0) (hk : k < 4095) :
    execRecorderCommit k s = kept s (s.recCommit k) := by
  have hdue : (s.clk.running && decide (s.clk.msc % 8 = 0) && decide (k < 4096)) = true := by
    simp [hrun, hmsc, Nat.lt_succ_of_lt hk]
  exact congrArg (kept s) ((if_pos hdue).trans (if_neg (Nat.ne_of_lt hk)))

theorem execRecorderCommit_idle (h : s.clk.msc % 8 ≠ 0 ∨ 4096 ≤ k) : execRecorderCommit k s = .next s := by
  have hidle : ¬(s.clk.running && decide (s.clk.msc % 8 = 0) && decide (k < 4096)) = true := by
    rcases h with h | h
    · simp [h]
    · simp [Nat.not_lt.2 h]
  exact congrArg (kept s) (if_neg hidle)

/-- What a commit of record `k` writes while a bank is left (R438). -/
def RecSt.committed (r : RecSt) (k : Nat) : Rec :=
  let x := r.recs.get {} k
  { x with
    gen := (x.gen + 2) % 2 ^ 32, h := x.h.merge (r.accs.get {} k), bound := x.bound && !x.unbind, unbind := false }

theorem State.recCommit_recs (hbank : s.mgmt.rcd.degraded = false) :
    (s.recCommit k).mgmt.rcd.recs = s.mgmt.rcd.recs.set {} k (s.mgmt.rcd.committed k) := by
  simp only [State.recCommit, State.modRec, hbank, Bool.false_eq_true, if_false, RecSt.committed]

theorem State.recCommit_get (hwf : SMap.wf (fun _ => ({} : Rec)) s.mgmt.rcd.recs = true)
    (hbank : s.mgmt.rcd.degraded = false) (j : Nat) :
    (s.recCommit k).mgmt.rcd.recs.get {} j = if k = j then s.mgmt.rcd.committed k else s.mgmt.rcd.recs.get {} j := by
  rw [State.recCommit_recs hbank, SMap.get_set hwf]
  simp only [eq_comm]

/-! A bank that fails: with the other one left its failure is recorded, and else the recorder is degraded (R446). -/

theorem execRecMemFail_oneLeft (h0 : s.mgmt.rcd.bank0 = true) (h1 : s.mgmt.rcd.bank1 = true) :
    execRecMemFail 0 s =
      kept s (((s.modRec (fun r => { r with bank0 := false })).lrWrite 0x01 0).raise evRecMemFail 0) ∧
    execRecMemFail 1 s =
      kept s (((s.modRec (fun r => { r with bank1 := false })).lrWrite 0x01 1).raise evRecMemFail 0) := by
  have hfirst : (s.modRec (fun r => { r with bank0 := false })).mgmt.rcd.degraded = false := by
    simp only [RecSt.degraded, State.modRec, h1, Bool.not_true, Bool.and_false]
  have hsecond : (s.modRec (fun r => { r with bank1 := false })).mgmt.rcd.degraded = false := by
    simp only [RecSt.degraded, State.modRec, h0, Bool.not_true, Bool.false_and]
  exact ⟨congrArg (kept s) ((if_neg (by simp [h0])).trans (if_neg (by rw [Bool.not_eq_true]; exact hfirst))),
    congrArg (kept s) ((if_neg (by simp [h1])).trans (if_neg (by rw [Bool.not_eq_true]; exact hsecond)))⟩

theorem execRecMemFail_last (h0 : s.mgmt.rcd.bank0 = true) (h1 : s.mgmt.rcd.bank1 = false) :
    execRecMemFail 0 s = kept s
      ((((s.modRec (fun r => { r with bank0 := false })).modRec RecSt.dropBins).lrWrite 0x02 0).raise evRecDegraded 0) := by
  have hboth : (s.modRec (fun r => { r with bank0 := false })).mgmt.rcd.degraded = true := by
    simp only [RecSt.degraded, State.modRec, h1, Bool.not_false, Bool.and_true]
  exact congrArg (kept s) ((if_neg (by simp [h0])).trans (if_pos hboth))

theorem execRecMemFail_again (h1 : s.mgmt.rcd.bank1 = false) : execRecMemFail 1 s = .next s :=
  congrArg (kept s) (if_pos (by simp [h1]))

theorem execRecorderMramCommit_idle (h : s.clk.msc % 8000 ≠ 0) (o : Option Nat) :
    execRecorderMramCommit o s = .next s := by
  have hidle : ¬(s.clk.running && decide (s.clk.msc % 8000 = 0)) = true := by simp [h]
  exact congrArg (kept s) (if_neg hidle)

theorem mramCommit_due (hrun : s.clk.running = true) (h : s.clk.msc % 8000 = 0) :
    (s.clk.running && decide (s.clk.msc % 8000 = 0)) = true := by simp [hrun, h]

theorem State.nonceExpiry_expired {n e : Nat} (h : s.mgmt.rcd.nonce = some (n, e)) (he : e ≤ s.clk.msc) :
    execNonceExpiry s = kept s (s.modRec (fun r => { r with nonce := none })) := by
  simp only [execNonceExpiry, h, if_pos he]

theorem State.nonceExpiry_lasts {n e : Nat} (h : s.mgmt.rcd.nonce = some (n, e)) (he : s.clk.msc < e) :
    execNonceExpiry s = .next s := by
  simp only [execNonceExpiry, h, if_neg (Nat.not_le.2 he), kept_self]

end

/-- Settles O48: each command's body has the named effect, and each record is its function on the case's condition. -/
theorem recorderBindsSamplesAndClears : Obligations.RecorderBindsSamplesAndClears := by
  refine ⟨?noSource, ?bindDomain, ?inUse, ?binds, ?unbindDomain, ?unbinds, ?reads, ?readDomain, ?nonce, ?refused, ?passes,
    ?full, ?ledgerEnd, ?ledger, ?keyDomain, ?keyAgain, ?key, ?expired, ?lasts, fun a x v m => histTake_spec a x v m, ?commits,
    ?commit, ?noCommit, ?mram, ?noMram, ?oneBank, ?bothBanks⟩
  case noSource => exact fun c s h hd => congrArg (kept s) (runCmd_of_fin h (bodyRecBind_noSource hd))
  case bindDomain => exact fun c s h d hd h0 h1 => congrArg (kept s) (runCmd_of_fin h (bodyRecBind_domain hd h0 h1))
  case inUse => exact fun c s h d hd h0 h1 => congrArg (kept s) (runCmd_of_fin h (bodyRecBind_inUse hd h0 h1))
  case binds => exact fun c s h d hd h0 h1 h2 => congrArg (kept s) (runCmd_of_fin h (bodyRecBind_binds hd h0 h1 h2))
  case unbindDomain => exact fun c s h h0 h1 => congrArg (kept s) (runCmd_of_fin h (bodyRecUnbind_domain h0 h1))
  case unbinds => exact fun c s h h0 h1 => congrArg (kept s) (runCmd_of_fin h (bodyRecUnbind_marks h0 h1))
  case reads => exact fun c s h h0 => congrArg (kept s) (runCmd_of_fin h (bodyRecRead_ok h0))
  case readDomain => exact fun c s h i h0 hi h1 => congrArg (kept s) (runCmd_of_fin h (bodyRecRead_domain h0 hi h1))
  case nonce => exact fun c s h w t hr => congrArg (kept s) (runCmd_of_fin h (bodyGetClearNonce_ok hr))
  case refused => exact fun c s h n hn h0 => congrArg (kept s) (runCmd_of_fin h (bodyClearRecords_refused hn h0))
  case passes => exact fun c s h h0 h1 => congrArg (kept s) (runCmd_of_fin h (bodyClearRecords_passes h0 h1))
  case full => exact fun c s h h0 h1 => congrArg (kept s) (runCmd_of_fin h (bodyClearRecords_full h0 h1))
  case ledgerEnd => exact fun c s h h0 => congrArg (kept s) (runCmd_of_fin h (if_pos h0))
  case ledger => exact fun c s h h0 => congrArg (kept s) (runCmd_of_fin h (if_neg (Nat.not_le.2 h0)))
  case keyDomain => exact fun c s h h0 => congrArg (kept s) (runCmd_of_fin h (bodySetClearKey_domain h0))
  case keyAgain => exact fun c s h h0 h1 => congrArg (kept s) (runCmd_of_fin h (bodySetClearKey_again h0 h1))
  case key => exact fun c s h h0 h1 => congrArg (kept s) (runCmd_of_fin h (bodySetClearKey_ok h0 h1))
  case expired => exact fun s n e h he => State.nonceExpiry_expired h he
  case lasts => exact fun s n e h he => State.nonceExpiry_lasts h he
  case commits => exact fun s k hrun hmsc hk => execRecorderCommit_commits hrun hmsc hk
  case commit =>
    intro s k hwf hbank
    have hat := State.recCommit_get (k := k) hwf hbank
    have hself := (hat k).trans (if_pos rfl)
    exact ⟨congrArg Rec.gen hself, congrArg Rec.h hself, (congrArg Rec.source hself :),
      fun j hj => (hat j).trans (if_neg hj.symm)⟩
  case noCommit => exact fun s k h => execRecorderCommit_idle h
  case mram =>
    exact fun s hrun hmsc => ⟨congrArg (kept s) (if_pos (mramCommit_due hrun hmsc)),
      fun b => congrArg (kept s) (if_pos (mramCommit_due hrun hmsc))⟩
  case noMram => exact fun s o h => execRecorderMramCommit_idle h o
  case oneBank => exact fun s h0 h1 => execRecMemFail_oneLeft h0 h1
  case bothBanks => exact fun s h0 h1 => ⟨execRecMemFail_last h0 h1, execRecMemFail_again h1⟩

end Sys2Proof.Machine

namespace Sys2Proof.Machine

/-! SUPPORT. The activation of an image: its commands, the swap and the pause (R474 to R476). -/

section
variable {c : Desc} {s : State}

theorem bodyActivate_inTrial (h : s.mgmt.upd.st = .trial) : bodyActivate none c s = ok s := if_pos (by simp [h])

theorem not_inTrial (h : s.mgmt.upd.st ≠ .trial) :
    ¬((none : Option Report).isSome || s.mgmt.upd.st == .trial) = true := by simp [h]

theorem bodyActivate_refused {n : Nat} (h : s.mgmt.upd.st ≠ .trial) (hst : s.swapStatus = n) (hn : n ≠ stOk) :
    bodyActivate none c s = bad n s := by
  subst hst
  exact (if_neg (not_inTrial h)).trans (if_pos (bne_iff_ne.2 hn))

theorem bodyActivate_starts (h : s.mgmt.upd.st ≠ .trial) (hst : s.swapStatus = stOk) :
    bodyActivate none c s = (.opened, s.startSwap c.n0 (some c.acc) none) :=
  (if_neg (not_inTrial h)).trans (if_neg (by simp [hst]))

theorem bodyActivateAt_badTime {t : Nat} (h : s.mgmt.upd.st ≠ .trial) (ht : t = devAt (pair64 c.p0 c.p1) c.n2)
    (hfar : t < s.time.dev + devAt 1 0 ∨ s.time.dev + devAt 86400 0 < t) : bodyActivateAt none c s = bad stBadArg s := by
  subst ht
  exact (if_neg (not_inTrial h)).trans (if_pos (by simpa only [Bool.or_eq_true, decide_eq_true_eq] using hfar))

/-- A time from one second to 24 hours ahead is taken (R476). -/
theorem activateAt_timeOk {t dev : Nat} (hlo : dev + devAt 1 0 ≤ t) (hhi : t ≤ dev + devAt 86400 0) :
    ¬(decide (t < dev + devAt 1 0) || decide (dev + devAt 86400 0 < t)) = true := by
  simp only [Bool.or_eq_true, decide_eq_true_eq, not_or]
  exact ⟨Nat.not_lt.2 hlo, Nat.not_lt.2 hhi⟩

section
variable {t : Nat} (h : s.mgmt.upd.st ≠ .trial) (ht : t = devAt (pair64 c.p0 c.p1) c.n2)
  (hlo : s.time.dev + devAt 1 0 ≤ t) (hhi : t ≤ s.time.dev + devAt 86400 0)
include h ht hlo hhi

theorem bodyActivateAt_inService (hserves : s.pon.subs.any (fun e => e.2.road != .disabled) = true) :
    bodyActivateAt none c s = bad stState s := by
  subst ht
  exact ((if_neg (not_inTrial h)).trans (if_neg (activateAt_timeOk hlo hhi))).trans (if_pos hserves)

theorem bodyActivateAt_starts (hidle : s.pon.subs.any (fun e => e.2.road != .disabled) = false)
    (hst : s.swapStatus = stOk) : bodyActivateAt none c s =
      (.opened, s.startSwap c.n3 (some c.acc) (some (pair64 c.p0 c.p1, c.n2))) := by
  subst ht
  exact ((if_neg (not_inTrial h)).trans (if_neg (activateAt_timeOk hlo hhi))).trans
    ((if_neg (by simp [hidle])).trans (if_neg (by simp [hst])))

end

/-- Without a verified image, working flash and a pair at rest no swap begins (R474). -/
theorem State.swapStatus_state (h : s.mgmt.upd.man = none ∨ s.mgmt.upd.st ≠ .verified ∨ s.flashOk = false ∨
    s.mgmt.pair.st = .joining ∨ s.mgmt.pair.st = .broken) : s.swapStatus = stState := by
  cases hman : s.mgmt.upd.man with
  | none => simp only [State.swapStatus, hman]
  | some m =>
    simp only [State.swapStatus, hman]
    refine if_pos ?_
    rcases h with h | h | h | h | h
    · exact absurd (h.symm.trans hman) nofun
    all_goals simp [h]

theorem State.swapBlock_swaps {m : Manifest} {i : Nat} (hman : s.mgmt.upd.man = some m) (hst : s.mgmt.upd.st = .swapping)
    (hmore : s.mgmt.upd.swapped = false) (hi : i = s.mgmt.upd.blk) (hflash : s.flashOk = true) :
    s.swapBlock i = (s.setReg (updA 0x1C) (BitVec.ofNat 64 (i % 512))).modUpd (fun u =>
      { u with
        staging := u.staging.set [] i (u.image.get [] i)
        image := u.image.set [] i ((if s.flashUp 0 then u.down0 else u.down1).get [] i), blk := i + 1
        swapped := decide (m.pieces ≤ i + 1) }) := by
  have hgo : ¬(s.mgmt.upd.st != .swapping || s.mgmt.upd.swapped || i != s.mgmt.upd.blk || !s.flashOk) = true := by
    simp [hst, hmore, hi, hflash]
  simp only [State.swapBlock, hman, if_neg hgo]
  rfl

theorem State.swapBlock_idle {i : Nat} (h : s.mgmt.upd.st ≠ .swapping ∨ i ≠ s.mgmt.upd.blk) : s.swapBlock i = s := by
  have hidle : (s.mgmt.upd.st != .swapping || s.mgmt.upd.swapped || i != s.mgmt.upd.blk || !s.flashOk) = true := by
    rcases h with h | h <;> simp [h]
  cases hman : s.mgmt.upd.man with
  | none => simp only [State.swapBlock, hman]
  | some m => simp only [State.swapBlock, hman, if_pos hidle]

/-- The capture keeps the pause from beginning. -/
def CapSt.busy : CapSt → Bool
  | .idle => false
  | .armed => false
  | _ => true

theorem State.beginPause_eq : s.beginPause =
    if s.mgmt.upd.st != .swapping || !s.mgmt.upd.swapped || s.paused || s.mgmt.cap.busy || !s.windowsPast then s
    else ((s.setBit (mgtA 0x0) 0 true).setFld (updA 0x0) 18 16 s.mgmt.upd.trials).modUpd (fun u =>
      { u with bootDue := true, started := false }) := by
  unfold State.beginPause CapSt.busy
  rfl

theorem State.beginPause_idle (h : s.mgmt.upd.swapped = false ∨ s.windowsPast = false ∨ s.mgmt.cap = .waiting) :
    s.beginPause = s := by
  rw [State.beginPause_eq]
  rcases h with h | h | h
  · simp [h]
  · simp [h]
  · simp [h, CapSt.busy]

theorem State.activationPause_begins (hst : s.mgmt.upd.st = .swapping) (hswapped : s.mgmt.upd.swapped = true)
    (hat : s.mgmt.upd.openAt = none) (hpaused : s.paused = false) (hcap : s.mgmt.cap = .idle)
    (hwin : s.windowsPast = true) : s.activationPause =
      ((s.setBit (mgtA 0x0) 0 true).setFld (updA 0x0) 18 16 s.mgmt.upd.trials).modUpd (fun u =>
        { u with bootDue := true, started := false }) := by
  refine (if_neg (by simp [hat])).trans ?_
  rw [State.beginPause_eq, if_neg (by simp [hst, hswapped, hpaused, hcap, CapSt.busy, hwin])]

theorem State.activationPause_idle (h : s.mgmt.upd.swapped = false ∨ s.windowsPast = false ∨ s.mgmt.cap = .waiting) :
    s.activationPause = s := by
  simp only [State.activationPause, State.beginPause_idle h, ite_self]

theorem State.activateTime_due {sec ns : Nat} (hat : s.mgmt.upd.openAt = some (sec, ns))
    (hst : s.mgmt.upd.st = .swapping) (hpaused : s.paused = false) (hlate : s.mgmt.upd.late = false)
    (hdue : devAt sec ns ≤ s.time.dev) : s.activateTime =
      if s.mgmt.upd.swapped then s.beginPause else s.modUpd (fun u => { u with late := true }) := by
  have hgo : ¬(s.mgmt.upd.st != .swapping || s.paused || s.mgmt.upd.late || decide (s.time.dev < devAt sec ns)) = true := by
    simp [hst, hpaused, hlate, hdue]
  simp only [State.activateTime, hat, if_neg hgo]

theorem State.activateTime_early {sec ns : Nat} (hat : s.mgmt.upd.openAt = some (sec, ns))
    (h : s.time.dev < devAt sec ns) : s.activateTime = s := by
  have hearly : (s.mgmt.upd.st != .swapping || s.paused || s.mgmt.upd.late || decide (s.time.dev < devAt sec ns)) = true := by
    simp [h]
  simp only [State.activateTime, hat, if_pos hearly]

end

/-! SUPPORT. The trial, its fallback and the blocks that go back (R477, R478). -/

section
variable {s : State}

/-- The image started is in the swap or in its trial. -/
theorem trialStart_runs (hstart : s.mgmt.upd.started = true) (hst : s.mgmt.upd.st = .swapping ∨ s.mgmt.upd.st = .trial) :
    ¬(!s.mgmt.upd.started || !(s.mgmt.upd.st == .swapping || s.mgmt.upd.st == .trial)) = true := by
  rcases hst with h | h <;> simp [hstart, h]

theorem State.trialStart_format (hstart : s.mgmt.upd.started = true)
    (hst : s.mgmt.upd.st = .swapping ∨ s.mgmt.upd.st = .trial) (b : Bool) :
    s.trialStart b true = s.modUpd (fun u => { u with started := false, cause := 3 }) :=
  if_neg (trialStart_runs hstart hst)

theorem State.trialStart_differs (hstart : s.mgmt.upd.started = true)
    (hst : s.mgmt.upd.st = .swapping ∨ s.mgmt.upd.st = .trial) :
    s.trialStart false false = s.modUpd (fun u => { u with started := false, cause := 6 }) :=
  if_neg (trialStart_runs hstart hst)

theorem State.trialStart_idle (h : s.mgmt.upd.started = false) (a f : Bool) : s.trialStart a f = s :=
  if_pos (by simp [h])

/-- The new image in trial; in its first one every waypoint is converted (R477, R479). -/
def State.toTrial (s : State) (first : Bool) : State :=
  let t := s.modUpd (fun u => { u with started := false, st := .trial })
  if first then { t with mgmt := { t.mgmt with conv := convertAll t.mgmt.wps t.runWpf } } else t

/-- The end of a trial's start: the pause ends, the trial is reported, and the activation completes. -/
def State.inTrial (u : State) : State :=
  let v := if u.paused then (u.setBit (mgtA 0x0) 0 false).replayDone u.wpLast else u
  ((v.raise evUpdateTrial (v.fld (updA 0x0) 18 16)).closeActivate stOk).heldCapture

theorem State.trialStart_agrees (hstart : s.mgmt.upd.started = true)
    (hst : s.mgmt.upd.st = .swapping ∨ s.mgmt.upd.st = .trial) :
    s.trialStart true false = (s.toTrial (s.mgmt.upd.st == .swapping)).inTrial :=
  if_neg (trialStart_runs hstart hst)

section
variable (hstart : s.mgmt.upd.started = true) (hst : s.mgmt.upd.st = .swapping)
include hstart hst

theorem State.trialStart_first : s.trialStart true false = (s.toTrial true).inTrial := by
  rw [State.trialStart_agrees hstart (.inl hst), hst, beq_self_eq_true]

theorem State.trialStart_running (hpaused : s.paused = false) : s.trialStart true false =
    (((s.toTrial true).raise evUpdateTrial ((s.toTrial true).fld (updA 0x0) 18 16)).closeActivate stOk).heldCapture := by
  have hgoes : ¬(s.toTrial true).paused = true := by rw [Bool.not_eq_true]; exact hpaused
  rw [State.trialStart_first hstart hst, State.inTrial, if_neg hgoes]

theorem State.trialStart_paused (hpaused : s.paused = true) {v : State}
    (hv : v = ((s.toTrial true).setBit (mgtA 0x0) 0 false).replayDone (s.toTrial true).wpLast) : s.trialStart true false =
    ((v.raise evUpdateTrial (v.fld (updA 0x0) 18 16)).closeActivate stOk).heldCapture := by
  have hpauses : (s.toTrial true).paused = true := hpaused
  rw [State.trialStart_first hstart hst, State.inTrial, if_pos hpauses, ← hv]

end

/-- A loader's restart leaves the update as it was, but that the image is to be booted again. -/
theorem State.loaderRestart_upd (h : s.mgmt.upd.started = true) :
    s.loaderRestart.mgmt.upd = { s.mgmt.upd with started := false, bootDue := true } := by
  simp only [State.loaderRestart, if_pos h, State.modUpd, State.setFld_mgmt]

theorem State.fallback_reverts (hcause : s.mgmt.upd.cause ≠ 0)
    (hst : s.mgmt.upd.st = .swapping ∨ s.mgmt.upd.st = .trial) {n : Nat} (hn : n = s.mgmt.upd.cause) : s.fallback =
      ((((((s.revert n).setBit (mgtA 0x0) 0 false).replayDone (s.revert n).wpLast).raise evUpdateFallback n).closeActivate
        (if n = 3 then stFormat else stInternal)).heldCapture) := by
  subst hn
  have hgo : ¬(decide (s.mgmt.upd.cause = 0) || !(s.mgmt.upd.st == .swapping || s.mgmt.upd.st == .trial)) = true := by
    rcases hst with h | h <;> simp [hcause, h]
  exact if_neg hgo

theorem State.modUpd_upd (f : Upd → Upd) : (s.modUpd f).mgmt.upd = f s.mgmt.upd := rfl
theorem State.modUpd_wps (f : Upd → Upd) : (s.modUpd f).mgmt.wps = s.mgmt.wps := rfl

theorem State.revert_spec (n : Nat) : (s.revert n).mgmt.upd.st = .reverting ∧
    (s.revert n).mgmt.upd.run = s.mgmt.upd.old ∧ (s.revert n).mgmt.wps = s.mgmt.wps := by
  rw [State.revert, State.modUpd_upd, State.modUpd_wps]
  refine ⟨rfl, ?_, ?_⟩ <;> rw [State.setFld_mgmt, State.setFld_mgmt]

/-- The marker and the copy of one block that goes back (R478). -/
def State.blockBack (s : State) (i : Nat) : State :=
  (s.setReg (updA 0x1C) (BitVec.ofNat 64 (2 ^ 31 + i % 512))).modUpd (fun u =>
    { u with image := u.image.set [] i (u.staging.get [] i), blk := i })

/-- After the last block back the update is over and its conversions are discarded. -/
def State.updOver (s : State) : State :=
  let s := s.clearBitmap.modUpd (fun u => { u with st := .idle, old := none })
  { s with mgmt := { s.mgmt with conv := [] } }

theorem State.revertBlock_back {i : Nat} (hst : s.mgmt.upd.st = .reverting) (hblk : s.mgmt.upd.blk = i + 1)
    (hflash : s.flashOk = true) :
    s.revertBlock i = if i = 0 then (s.blockBack i).updOver else s.blockBack i := by
  have hgo : ¬(s.mgmt.upd.st != .reverting || s.mgmt.upd.blk != i + 1 || !s.flashOk) = true := by simp [hst, hblk, hflash]
  exact if_neg hgo

theorem State.revertBlock_idle {i : Nat} (h : s.mgmt.upd.st ≠ .reverting ∨ s.mgmt.upd.blk ≠ i + 1) :
    s.revertBlock i = s := by
  have hidle : (s.mgmt.upd.st != .reverting || s.mgmt.upd.blk != i + 1 || !s.flashOk) = true := by
    rcases h with h | h <;> simp [h]
  exact if_pos hidle

theorem State.clearBitmap_mgmt : s.clearBitmap.mgmt = s.mgmt :=
  foldl_keeps (π := State.mgmt) _ (fun _ _ _ => State.setReg_mgmt _ _ _) s

theorem State.updOver_mgmt : s.updOver.mgmt =
    { s.mgmt with upd := { s.mgmt.upd with st := .idle, old := none }, conv := [] } := by
  simp only [State.updOver, State.modUpd, State.clearBitmap_mgmt]

theorem State.blockBack_wps {i : Nat} : (s.blockBack i).mgmt.wps = s.mgmt.wps := by
  simp only [State.blockBack, State.modUpd, State.setReg_mgmt]

/-- What management holds of the update and of the waypoints after a record that answers `u`. -/
theorem update_of_kept {i : Instr} {u : State} (h : exec i s = kept s u) :
    ∃ t, exec i s = .next t ∧ t.mgmt.upd = u.mgmt.upd ∧ t.mgmt.conv = u.mgmt.conv ∧ t.mgmt.wps = u.mgmt.wps :=
  ⟨_, h, rfl, rfl, rfl⟩

end

/-- Settles O50: each command and record is its function on the case's condition. -/
theorem activationTrialAndFallback : Obligations.ActivationTrialAndFallback := by
  refine ⟨?inTrial, ?refused, ?activates, ?badTime, ?inService, ?activatesAt, fun s h => State.swapStatus_state h, ?swaps,
    ?noSwap, ?pauses, ?noPause, ?timeComes, ?timeEarly, ?bootDecides, ?boots, ?noBoot, ?trialFails, ?trialRuns,
    ?trialResumes, ?noTrial, ?restarts, ?fallsBack, ?noFallback, ?reverts, ?blockBack, ?lastBlock, ?noBlock⟩
  case inTrial => exact fun c s h h0 => congrArg (kept s) (runCmd_of_fin h (bodyActivate_inTrial h0))
  case refused => exact fun c s h n h0 h1 h2 => congrArg (kept s) (runCmd_of_fin h (bodyActivate_refused h0 h1 h2))
  case activates => exact fun c s h h0 h1 => congrArg (kept s) (runCmd_of_opened h (bodyActivate_starts h0 h1))
  case badTime => exact fun c s h t h0 ht h1 => congrArg (kept s) (runCmd_of_fin h (bodyActivateAt_badTime h0 ht h1))
  case inService =>
    exact fun c s h t h0 ht h1 h2 h3 => congrArg (kept s) (runCmd_of_fin h (bodyActivateAt_inService h0 ht h1 h2 h3))
  case activatesAt =>
    exact fun c s h t h0 ht h1 h2 h3 h4 =>
      congrArg (kept s) (runCmd_of_opened h (bodyActivateAt_starts h0 ht h1 h2 h3 h4))
  case swaps =>
    exact fun s m i hman hst hmore hi hflash => congrArg (kept s) (State.swapBlock_swaps hman hst hmore hi hflash)
  case noSwap => exact fun s i h => congrArg (kept s) (State.swapBlock_idle h)
  case pauses =>
    exact fun s h0 h1 h2 h3 h4 h5 => congrArg (kept s) (State.activationPause_begins h0 h1 h2 h3 h4 h5)
  case noPause => exact fun s h => congrArg (kept s) (State.activationPause_idle h)
  case timeComes => exact fun s sec ns h0 h1 h2 h3 h4 => congrArg (kept s) (State.activateTime_due h0 h1 h2 h3 h4)
  case timeEarly => exact fun s sec ns h0 h1 => congrArg (kept s) (State.activateTime_early h0 h1)
  case bootDecides => exact fun s h0 h1 => congrArg (kept s) ((if_pos h0).trans (if_pos h1))
  case boots => exact fun s h0 h1 => congrArg (kept s) ((if_pos h0).trans (if_neg h1))
  case noBoot => exact fun s h0 => congrArg (kept s) (if_neg (by simp [h0]))
  case trialFails =>
    exact fun s b h0 h1 => ⟨congrArg (kept s) (State.trialStart_format h0 h1 b),
      congrArg (kept s) (State.trialStart_differs h0 h1)⟩
  case trialRuns => exact fun s h0 h1 h2 => congrArg (kept s) (State.trialStart_running h0 h1 h2)
  case trialResumes => exact fun s h0 h1 h2 => congrArg (kept s) (State.trialStart_paused h0 h1 h2 rfl)
  case noTrial =>
    exact fun s a f h => ⟨congrArg (kept s) (State.trialStart_idle h a f), congrArg (kept s) (if_neg (by simp [h]))⟩
  case restarts =>
    intro s h
    obtain ⟨t, ht, hupd, -, -⟩ := update_of_kept (i := .loaderRestart) (u := s.loaderRestart) rfl
    rw [State.loaderRestart_upd h] at hupd
    exact ⟨t, ht, by rw [hupd], by rw [hupd], by rw [hupd]⟩
  case fallsBack => exact fun s h0 h1 => congrArg (kept s) (State.fallback_reverts h0 h1 rfl)
  case noFallback => exact fun s h => congrArg (kept s) (if_pos (by simp [h]))
  case reverts => exact fun s n => State.revert_spec n
  case blockBack =>
    exact fun s i h0 h1 h2 => congrArg (kept s) ((State.revertBlock_back h0 h1 h2).trans (if_neg (Nat.succ_ne_zero i)))
  case lastBlock =>
    intro s h0 h1 h2
    obtain ⟨t, ht, hupd, hconv, hwps⟩ := update_of_kept (i := .revertBlock 0) (u := (s.blockBack 0).updOver)
      (congrArg (kept s) ((State.revertBlock_back h0 h1 h2).trans (if_pos rfl)))
    rw [State.updOver_mgmt] at hupd hconv hwps
    exact ⟨t, ht, by rw [hupd], hconv, hwps.trans State.blockBack_wps⟩
  case noBlock => exact fun s i h => congrArg (kept s) (State.revertBlock_idle h)

end Sys2Proof.Machine

namespace Sys2Proof.Machine

/-! SUPPORT. A capture: its trigger, its start at a snapshot and the copy (R462, R463). -/

section
variable {s : State}

/-- Enough commands or journal since the latest waypoint (R463). -/
theorem State.wpTrigger_due (h : 262144 ≤ s.mgmt.jrnSince ∨ 131072 ≤ s.mgmt.blkSince) : s.wpTrigger = s.autoCapture :=
  if_pos (by simpa only [Bool.or_eq_true, decide_eq_true_eq] using h)

theorem State.wpTrigger_early (hjrn : s.mgmt.jrnSince < 262144) (hblk : s.mgmt.blkSince < 131072) : s.wpTrigger = s :=
  if_neg (by
    simp only [Bool.or_eq_true, decide_eq_true_eq, not_or]
    exact ⟨Nat.not_le.2 hjrn, Nat.not_le.2 hblk⟩)

theorem State.autoCapture_arms (hcap : s.mgmt.cap = .idle) (hpaused : s.paused = false) : s.autoCapture =
    { s with mgmt := { s.mgmt with cap := .armed, capAuto := true, capPin := false, capAcc := none, capHeld := false } } :=
  if_pos (by simp [hcap, hpaused])

theorem State.autoCapture_holds (h : s.mgmt.cap ≠ .idle ∨ s.paused = true) :
    s.autoCapture = { s with mgmt := { s.mgmt with capHeld := true } } :=
  if_neg (by rcases h with h | h <;> simp [h])

theorem State.wpCapture_waits (hcap : s.mgmt.cap = .armed) (hphase : s.clk.phase = .afterSnapshot) :
    s.wpCapture = { s with mgmt := { s.mgmt with cap := .waiting } } := if_pos (by simp [hcap, hphase])

theorem State.wpCapture_idle (h : s.mgmt.cap ≠ .armed ∨ s.clk.phase ≠ .afterSnapshot) : s.wpCapture = s :=
  if_neg (by rcases h with h | h <;> simp [h])

/-- The highest acceptance number that a copy holds (R462). -/
def State.copiedTo (s : State) : Nat :=
  let a0 := match s.wpLast with
    | some w => w.a
    | none => 0
  s.host.jrn.foldl (fun m j => if j.exec.isSome then max m j.desc.acc else m) a0

/-- The commands up to that number that the copy does not hold. -/
def State.copiedLate (s : State) : List Nat :=
  (s.host.jrn.filter (fun j => j.exec.isNone && decide (j.desc.acc ≤ s.copiedTo))).map (fun j => j.desc.acc)

theorem State.wpCopy_copies (hcap : s.mgmt.cap = .waiting) (hwaits : s.capWaits = false) {t : State}
    (ht : t = s.setWpMap (s.wpMap.set none (wpVictim s.wpMap) none)) : s.wpCopy =
      { t with mgmt := { t.mgmt with cap := .writing s.copiedTo s.clk.msc s.copiedLate, capCfg := s.capture } } := by
  subst ht
  have hgo : ¬(s.mgmt.cap != .waiting || s.capWaits) = true := by simp [hcap, hwaits]
  refine (if_neg hgo).trans ?_
  rw [← State.setWpMap_clk s]
  rfl

theorem State.wpCopy_idle (h : s.mgmt.cap ≠ .waiting ∨ s.capWaits = true) : s.wpCopy = s :=
  if_pos (by rcases h with h | h <;> simp [h])

end

/-! SUPPORT. The end of a waypoint's write (R460, R462 to R464). -/

section
variable {s : State} {a msc k : Nat} {l : List Nat}

/-- What management holds beside the recorder. -/
def State.noRec (s : State) : MgmtSt := { s.mgmt with rcd := {} }

theorem State.raise_noRec (n arg : Nat) : (s.raise n arg).noRec = s.noRec := by
  obtain ⟨-, -, -, -, -, -, -, -, -, -, -, -, -, -, -, -, -, -, -, -, hm⟩ := s.raise_frame n arg
  exact congrArg (fun m : MgmtSt => { m with rcd := {} }) hm

/-- What management holds of the waypoints is beside the recorder. -/
theorem State.waypoints_of_noRec {u : State} (h : u.noRec = s.noRec) :
    u.mgmt.wps = s.mgmt.wps ∧ u.mgmt.conv = s.mgmt.conv ∧ u.mgmt.wpLatest = s.mgmt.wpLatest ∧
    u.mgmt.wpVer = s.mgmt.wpVer ∧ u.mgmt.jrnSince = s.mgmt.jrnSince ∧ u.mgmt.blkSince = s.mgmt.blkSince ∧
    u.mgmt.capAcc = s.mgmt.capAcc ∧ u.mgmt.capHeld = s.mgmt.capHeld :=
  ⟨(congrArg MgmtSt.wps h :), (congrArg MgmtSt.conv h :), (congrArg MgmtSt.wpLatest h :), (congrArg MgmtSt.wpVer h :),
    (congrArg MgmtSt.jrnSince h :), (congrArg MgmtSt.blkSince h :), (congrArg MgmtSt.capAcc h :), (congrArg MgmtSt.capHeld h :)⟩

theorem State.noRec_of_mgmt {u : State} (h : u.mgmt = s.mgmt) : u.noRec = s.noRec := by rw [State.noRec, h, State.noRec]

/-- A capture of no command, with no trigger held, just ends. -/
theorem State.capEnd_plain (hacc : s.mgmt.capAcc = none) (hheld : s.mgmt.capHeld = false) (st r0 r1 : Nat) :
    s.capEnd st r0 r1 = { s with mgmt :=
      { s.mgmt with cap := .idle, capAcc := none, capPin := false, capAuto := false, capCfg := {} } } := by
  simp only [State.capEnd, hacc, State.heldCapture, hheld, Bool.false_eq_true, if_false]

/-- The waypoint that a write makes (R462). -/
def State.newWaypoint (s : State) (a msc k : Nat) (l : List Nat) : Waypoint :=
  { ver := s.mgmt.wpVer + 1, wpf := s.runWpf, a := a, msc := msc, size := k
    pinned := s.mgmt.capPin && decide (wpPinned s.wpMap < 4), auto := s.mgmt.capAuto, late := l, cfg := s.mgmt.capCfg }

/-- A waypoint in its slot, with the counts of the journal at zero (R463, R464). -/
def State.wpStored (s : State) (w : Waypoint) : State :=
  let t := s.setWpMap (s.wpMap.set none (wpVictim s.wpMap) (some w))
  let t := { t with mgmt := { t.mgmt with
    wpVer := w.ver, wpLatest := if s.mgmt.upd.st == UpdSt.trial then t.mgmt.wpLatest else wpVictim s.wpMap
    jrnSince := 0, blkSince := 0 } }
  { t with host := { t.host with jrnExtra := 1 } }

theorem State.wpStored_mgmt (htrial : s.mgmt.upd.st ≠ .trial) (w : Waypoint) : (s.wpStored w).mgmt =
    { s.mgmt with
      wps := s.mgmt.wps.set none (wpVictim s.mgmt.wps) (some w), wpVer := w.ver, wpLatest := wpVictim s.mgmt.wps
      jrnSince := 0, blkSince := 0 } := by
  have hno : ¬(s.mgmt.upd.st == .trial) = true := by simp [htrial]
  simp only [State.wpStored, State.setWpMap, State.wpMap, if_neg hno]

/-- The waypoint that is stored is reported, and its command completes with its version. -/
def State.wpReported (s : State) (ver : Nat) : State :=
  ((s.add32 (wptA (if s.mgmt.capAuto then 0xA0 else 0xA4)) 1).jrnTrim).raise evWaypointDone (ver % 2 ^ 32)

theorem State.wpReported_noRec (ver : Nat) : (s.wpReported ver).noRec = s.noRec := by
  rw [State.wpReported, State.raise_noRec]
  exact State.noRec_of_mgmt (by rw [State.jrnTrim_mgmt, State.add32_mgmt])

theorem State.wpDone_good (hcap : s.mgmt.cap = .writing a msc l) (hflash : s.flashOk = true) (hk : k ≤ 114688) :
    s.wpDone true k = ((s.wpStored (s.newWaypoint a msc k l)).wpReported (s.mgmt.wpVer + 1)).capEnd stOk
      ((s.mgmt.wpVer + 1) % 2 ^ 32) ((s.mgmt.wpVer + 1) / 2 ^ 32) := by
  have hgood : ¬(!true || !s.flashOk || decide (114688 < k)) = true := by simp [hflash, hk]
  simp only [State.wpDone, hcap]
  exact if_neg hgood

theorem State.wpDone_bad (hcap : s.mgmt.cap = .writing a msc l) :
    s.wpDone false k = ((s.add32 (wptA 0xA8) 1).raise evWaypointFail 0).capEnd stInternal 0 0 := by
  simp only [State.wpDone, hcap, Bool.not_false, Bool.true_or, if_true]

/-- Neither the count nor the report of a write that failed changes a slot or the journal. -/
theorem State.wpFailed_noRec : ((s.add32 (wptA 0xA8) 1).raise evWaypointFail 0).noRec = s.noRec := by
  rw [State.raise_noRec]
  exact State.noRec_of_mgmt (State.add32_mgmt s _ _)

theorem State.wpDone_idle (h : s.mgmt.cap = .idle ∨ s.mgmt.cap = .armed ∨ s.mgmt.cap = .waiting) (b : Bool) :
    s.wpDone b k = s := by
  rcases h with h | h | h <;> simp only [State.wpDone, h]

/-- A record that answers `u` leaves what `u` holds in management and of the journal. -/
theorem mgmt_of_kept {i : Instr} {u : State} (h : exec i s = kept s u) :
    ∃ t, exec i s = .next t ∧ t.mgmt = u.mgmt ∧ t.host.jrn = u.host.jrn := ⟨_, h, rfl, rfl⟩

end

/-! SUPPORT. The commands of family 0x08, case by case (R464, R465, R467, R468). -/

section
variable {c : Desc} {s : State} {k e : Nat} {w : Waypoint}

theorem bodyTakeWaypoint_state (h : s.mgmt.cap ≠ .idle ∨ s.flashOk = false) :
    bodyTakeWaypoint none c s = bad stState s :=
  (if_neg (by simp)).trans (if_pos (by rcases h with h | h <;> simp [h]))

section
variable (hcap : s.mgmt.cap = .idle) (hflash : s.flashOk = true)
include hcap hflash

theorem takeWaypoint_may : ¬(s.mgmt.cap != .idle || !s.flashOk) = true := by simp [hcap, hflash]

theorem bodyTakeWaypoint_noRoom (hpin : c.n0 = 1) (hfull : 4 ≤ wpPinned s.wpMap) :
    bodyTakeWaypoint none c s = bad stNoRoom s :=
  ((if_neg (by simp)).trans (if_neg (takeWaypoint_may hcap hflash))).trans (if_pos (by simp [hpin, hfull]))

theorem bodyTakeWaypoint_arms (h : c.n0 = 0 ∨ c.n0 = 1 ∧ wpPinned s.wpMap < 4) : bodyTakeWaypoint none c s =
    (.opened, { s with mgmt :=
      { s.mgmt with cap := .armed, capAuto := false, capPin := c.n0 == 1, capAcc := some c.acc } }) := by
  have hroom : ¬(decide (c.n0 = 1) && decide (4 ≤ wpPinned s.wpMap)) = true := by
    rcases h with h | ⟨-, h⟩
    · simp [h]
    · simp [Nat.not_le.2 h]
  exact ((if_neg (by simp)).trans (if_neg (takeWaypoint_may hcap hflash))).trans (if_neg hroom)

end

theorem bodyReturnWaypoint_notFound (h : wpFind s.wpMap (pair64 c.p0 c.p1) = none) :
    bodyReturnWaypoint none c s = bad stNotFound s := by
  simp only [bodyReturnWaypoint, h]

theorem bodyReturnWaypoint_busy (h : wpFind s.wpMap (pair64 c.p0 c.p1) = some (k, w)) (hbusy : s.mgmt.returns ≠ []) :
    bodyReturnWaypoint none c s = bad stState s := by
  simp only [bodyReturnWaypoint, h]
  exact if_pos (by simp [hbusy])

section
variable (h : wpFind s.wpMap (pair64 c.p0 c.p1) = some (k, w)) (hfree : s.mgmt.returns = [])
  (he : s.resolveE none c = .ok e) (hroom : s.pendRoom = true)
include h hfree he hroom

theorem bodyReturnWaypoint_format (hf : w.wpf < s.runWpfMin ∨ s.runWpf < w.wpf) :
    bodyReturnWaypoint none c s = bad stFormat s := by
  have hf : (decide (w.wpf < s.runWpfMin) || decide (s.runWpf < w.wpf)) = true := by
    simpa only [Bool.or_eq_true, decide_eq_true_eq] using hf
  simp only [bodyReturnWaypoint, h, hfree, he, hroom, List.isEmpty_nil, Bool.not_true, Bool.false_eq_true, if_false, hf,
    if_true]

theorem bodyReturnWaypoint_defers (hlo : s.runWpfMin ≤ w.wpf) (hhi : w.wpf ≤ s.runWpf) :
    bodyReturnWaypoint none c s = deferred e
      ((({ s with mgmt := { s.mgmt with returns := [(pair64 c.p0 c.p1, c.n2 == 1, w.cfg)] } } : State).add32
        (wptA 0xAC) 1).defer c e (.waypointReturn (pair64 c.p0 c.p1) (c.n2 == 1))) := by
  have hok : ¬(decide (w.wpf < s.runWpfMin) || decide (s.runWpf < w.wpf)) = true := by
    simp [Nat.not_lt.2 hlo, Nat.not_lt.2 hhi]
  simp only [bodyReturnWaypoint, h, hfree, he, hroom, List.isEmpty_nil, Bool.not_true, Bool.false_eq_true, if_false,
    if_neg hok]

end

theorem bodyPinWaypoint_notFound (h : wpFind s.wpMap (pair64 c.p0 c.p1) = none) :
    bodyPinWaypoint none c s = bad stNotFound s := by
  simp only [bodyPinWaypoint, h]

theorem bodyPinWaypoint_noRoom (h : wpFind s.wpMap (pair64 c.p0 c.p1) = some (k, w)) (hpin : c.n2 = 1)
    (hnew : w.pinned = false) (hfull : 4 ≤ wpPinned s.wpMap) : bodyPinWaypoint none c s = bad stNoRoom s := by
  simp only [bodyPinWaypoint, h]
  exact if_pos (by simp [hpin, hnew, hfull])

theorem bodyPinWaypoint_ok (h : wpFind s.wpMap (pair64 c.p0 c.p1) = some (k, w))
    (hmay : c.n2 = 0 ∨ w.pinned = true ∨ wpPinned s.wpMap < 4) : bodyPinWaypoint none c s =
      ok (s.setWpMap (s.wpMap.set none k (some { w with pinned := c.n2 == 1 }))) := by
  have hroom : ¬(decide (c.n2 = 1) && !w.pinned && decide (4 ≤ wpPinned s.wpMap)) = true := by
    rcases hmay with h | h | h
    · simp [h]
    · simp [h]
    · simp [Nat.not_le.2 h]
  simp only [bodyPinWaypoint, h]
  exact if_neg hroom

/-- The 32 bytes of a slot in LIST_WAYPOINTS (R483). -/
def State.slotBytes (s : State) (k : Nat) : List Nat :=
  match s.wp k with
  | none => List.replicate 32 0
  | some w =>
    leBytes 8 w.ver ++ leBytes 2 w.wpf ++ leBytes 8 w.a ++ leBytes 8 w.msc ++ leBytes 4 w.size ++
      leBytes 2 (1 + 2 * b2n w.pinned + 4 * b2n w.auto + 8 * b2n (s.mgmt.conv.get none k).isSome)

theorem State.slotBytes_length : (s.slotBytes k).length = 32 := by
  unfold State.slotBytes
  split
  · exact List.length_replicate
  · simp only [List.length_append, leBytes_length]

theorem State.slotBytes_free (h : s.wp k = none) : s.slotBytes k = List.replicate 32 0 := by
  rw [State.slotBytes, h]

theorem bodyListWaypoints_ok :
    bodyListWaypoints none c s = ok (s.outBuf c ((List.range 8).map s.slotBytes).flatten) := rfl

theorem slotBytes_flatten_length : (((List.range 8).map s.slotBytes).flatten).length = 256 := by
  simp [List.length_flatten, Function.comp_def, State.slotBytes_length]

theorem slotBytes_flatten_free (h : ∀ k < 8, s.wp k = none) :
    ((List.range 8).map s.slotBytes).flatten = List.replicate 256 0 := by
  have hslots : (List.range 8).map s.slotBytes = (List.range 8).map (fun _ => List.replicate 32 0) :=
    List.map_congr_left fun k hk => State.slotBytes_free (h k (List.mem_range.1 hk))
  rw [hslots, List.map_const', List.flatten_replicate_replicate, List.length_range]

theorem bodyReleaseHold_state (h : s.mgmt.pwr.held = false) : bodyReleaseHold none c s = bad stState s :=
  (if_neg (by simp)).trans (if_pos (by simp [h]))

theorem bodyReleaseHold_defers (h : s.mgmt.pwr.held = true) (he : s.resolveE none c = .ok e) (hroom : s.pendRoom = true) :
    bodyReleaseHold none c s = deferred e (s.defer c e .releaseHold) := by
  refine ((if_neg (by simp)).trans (if_neg (by simp [h]))).trans ?_
  simp only [he, hroom, Bool.not_true, Bool.false_eq_true, if_false]

theorem bodyFactoryClean_refused {n : Nat} (h : s.cleanStatus (readToken c.inp) = n) (hn : n ≠ stOk) :
    bodyFactoryClean none c s = bad n (s.modRec (fun r => { r with nonce := none })) := by
  subst h
  exact (if_neg (by simp)).trans (if_pos (bne_iff_ne.2 hn))

/-- A clean whose token passes: its states decide (R468). -/
theorem bodyFactoryClean_passes (h : s.cleanStatus (readToken c.inp) = stOk) : bodyFactoryClean none c s =
    if !(s.mgmt.pair.st == .unpaired || s.mgmt.pair.st == .alone) || !s.treesOff || !s.mgmt.upd.st.cleanable then
      bad stState (s.modRec (fun r => { r with nonce := none }))
    else ok ((s.modRec (fun r => { r with nonce := none })).startErase (readToken c.inp)) :=
  (if_neg (by simp)).trans (if_neg (by simp [h]))

theorem bodyFactoryClean_state (h : s.cleanStatus (readToken c.inp) = stOk)
    (hst : s.mgmt.pair.st = .joining ∨ s.mgmt.pair.st = .paired ∨ s.mgmt.pair.st = .broken ∨ s.treesOff = false ∨
      s.mgmt.upd.st.cleanable = false) :
    bodyFactoryClean none c s = bad stState (s.modRec (fun r => { r with nonce := none })) := by
  rw [bodyFactoryClean_passes h]
  exact if_pos (by rcases hst with h | h | h | h | h <;> simp [h])

theorem bodyFactoryClean_ok (h : s.cleanStatus (readToken c.inp) = stOk)
    (hst : s.mgmt.pair.st = .unpaired ∨ s.mgmt.pair.st = .alone) (hoff : s.treesOff = true)
    (hclean : s.mgmt.upd.st.cleanable = true) :
    bodyFactoryClean none c s = ok ((s.modRec (fun r => { r with nonce := none })).startErase (readToken c.inp)) := by
  rw [bodyFactoryClean_passes h]
  exact if_neg (by rcases hst with h | h <;> simp [h, hoff, hclean])

theorem State.ringDisable_mgmt (r : Nat) : (s.ringDisable r).mgmt = s.mgmt := by
  simp only [State.ringDisable]
  split <;> rfl

theorem State.clearLastResort_mgmt (l : List Nat) (u : State) :
    (l.foldl (fun s i => s.setBit (mgtA (0x8000 + 16 * i)) 0 false) u).mgmt = u.mgmt :=
  foldl_keeps (π := State.mgmt) l (fun u _ _ => State.setBit_mgmt u _ _ _) u

theorem State.clearRecords_ledger (t : Token96) : (s.clearRecords t).mgmt.rcd.ledger = s.mgmt.rcd.ledger := by
  simp only [State.clearRecords]
  split
  · rw [State.clearLastResort_mgmt]
    rfl
  · rfl

theorem State.startErase_erases (t : Token96) : (s.startErase t).mgmt.pwr.erase = true ∧
    (s.startErase t).mgmt.rcd.ledger.length = s.mgmt.rcd.ledger.length + 1 := by
  refine ⟨rfl, ?_⟩
  have hrings : ((s.usedRings 0).foldl (fun s r => s.ringDisable r) s).mgmt = s.mgmt :=
    foldl_keeps (π := State.mgmt) _ (fun u r _ => State.ringDisable_mgmt r) s
  simp only [State.startErase, State.ledgerAppend, State.modRec, List.length_append, List.length_singleton,
    State.clearRecords_ledger, hrings]

end

/-- Settles O51: each command's body has the named effect, and each record is its function on the case's condition. -/
theorem waypointsTakenReturnedAndCleaned : Obligations.WaypointsTakenReturnedAndCleaned := by
  refine ⟨?arms, ?holds, ?early, ?waits, ?noCapture, ?copies, ?noCopy, ?good, ?fails, ?noWrite, ?takeState, ?takeNoRoom,
    ?takes, ?returnNotFound, ?returnBusy, ?returnFormat, ?returns, ?pinNotFound, ?pinNoRoom, ?pins, ?noneListed, ?lists,
    ?notHeld, ?releases, ?cleanRefused, ?cleanState, ?cleans, fun s t => State.startErase_erases t⟩
  case arms =>
    exact fun s h hcap hpaused => congrArg (kept s) ((State.wpTrigger_due h).trans (State.autoCapture_arms hcap hpaused))
  case holds => exact fun s h h0 => congrArg (kept s) ((State.wpTrigger_due h).trans (State.autoCapture_holds h0))
  case early => exact fun s hjrn hblk => congrArg (kept s) (State.wpTrigger_early hjrn hblk)
  case waits => exact fun s hcap hphase => congrArg (kept s) (State.wpCapture_waits hcap hphase)
  case noCapture => exact fun s h => congrArg (kept s) (State.wpCapture_idle h)
  case copies => exact fun s hcap hwaits => congrArg (kept s) (State.wpCopy_copies hcap hwaits rfl)
  case noCopy => exact fun s h => congrArg (kept s) (State.wpCopy_idle h)
  case good =>
    intro s a msc k l hcap htrial hflash hk hacc hheld
    have hstored := State.wpStored_mgmt htrial (s.newWaypoint a msc k l)
    obtain ⟨hwps, -, hlatest, hver, hjrn, hblk, hacc', hheld'⟩ :=
      State.waypoints_of_noRec (State.wpReported_noRec (s := s.wpStored (s.newWaypoint a msc k l)) (s.mgmt.wpVer + 1))
    rw [hstored] at hwps hlatest hver hjrn hblk hacc' hheld'
    obtain ⟨t, ht, hm, -⟩ := mgmt_of_kept (i := .waypointDone true k) (s := s) (congrArg (kept s)
      ((State.wpDone_good hcap hflash hk).trans (State.capEnd_plain (hacc'.trans hacc) (hheld'.trans hheld) _ _ _)))
    rw [← congrArg MgmtSt.wps hm] at hwps
    exact ⟨t, s.newWaypoint a msc k l, ht, hwps, (congrArg MgmtSt.wpLatest hm).trans hlatest, rfl, rfl, rfl, rfl, rfl, rfl,
      (congrArg MgmtSt.wpVer hm).trans hver, (congrArg MgmtSt.jrnSince hm).trans hjrn,
      (congrArg MgmtSt.blkSince hm).trans hblk, congrArg MgmtSt.cap hm⟩
  case fails =>
    intro s a msc k l hcap hacc hheld
    obtain ⟨hwps, hconv, hlatest, -, hjrn, -, hacc', hheld'⟩ := State.waypoints_of_noRec (State.wpFailed_noRec (s := s))
    obtain ⟨t, ht, hm, hhost⟩ := mgmt_of_kept (i := .waypointDone false k) (s := s) (congrArg (kept s)
      ((State.wpDone_bad hcap).trans (State.capEnd_plain (hacc'.trans hacc) (hheld'.trans hheld) _ _ _)))
    exact ⟨t, ht, (congrArg MgmtSt.wps hm).trans hwps, (congrArg MgmtSt.conv hm).trans hconv,
      (congrArg MgmtSt.wpLatest hm).trans hlatest, (congrArg MgmtSt.jrnSince hm).trans hjrn,
      hhost.trans (State.raise_host_jrn _ _ _), congrArg MgmtSt.cap hm⟩
  case noWrite => exact fun s b k h => congrArg (kept s) (State.wpDone_idle h b)
  case takeState => exact fun c s h h0 => congrArg (kept s) (runCmd_of_fin h (bodyTakeWaypoint_state h0))
  case takeNoRoom =>
    exact fun c s h h0 h1 h2 h3 => congrArg (kept s) (runCmd_of_fin h (bodyTakeWaypoint_noRoom h0 h1 h2 h3))
  case takes => exact fun c s h h0 h1 h2 => congrArg (kept s) (runCmd_of_opened h (bodyTakeWaypoint_arms h0 h1 h2))
  case returnNotFound => exact fun c s h h0 => congrArg (kept s) (runCmd_of_fin h (bodyReturnWaypoint_notFound h0))
  case returnBusy => exact fun c s h k w h0 h1 => congrArg (kept s) (runCmd_of_fin h (bodyReturnWaypoint_busy h0 h1))
  case returnFormat =>
    exact fun c s h k w e h0 h1 h2 h3 h4 =>
      congrArg (kept s) (runCmd_of_fin h (bodyReturnWaypoint_format h0 h1 h2 h3 h4))
  case returns =>
    exact fun c s h k w e h0 h1 h2 h3 h4 h5 =>
      congrArg (kept s) (runCmd_of_fin h (bodyReturnWaypoint_defers h0 h1 h2 h3 h4 h5))
  case pinNotFound => exact fun c s h h0 => congrArg (kept s) (runCmd_of_fin h (bodyPinWaypoint_notFound h0))
  case pinNoRoom =>
    exact fun c s h k w h0 h1 h2 h3 => congrArg (kept s) (runCmd_of_fin h (bodyPinWaypoint_noRoom h0 h1 h2 h3))
  case pins => exact fun c s h k w h0 h1 => congrArg (kept s) (runCmd_of_fin h (bodyPinWaypoint_ok h0 h1))
  case noneListed =>
    intro c s h z hfree
    rw [← slotBytes_flatten_free hfree]
    exact congrArg (kept s) (runCmd_of_fin h bodyListWaypoints_ok)
  case lists =>
    exact fun c s h => ⟨_, _, congrArg (kept s) (runCmd_of_fin h bodyListWaypoints_ok), slotBytes_flatten_length, rfl⟩
  case notHeld => exact fun c s h h0 => congrArg (kept s) (runCmd_of_fin h (bodyReleaseHold_state h0))
  case releases => exact fun c s h e h0 h1 h2 => congrArg (kept s) (runCmd_of_fin h (bodyReleaseHold_defers h0 h1 h2))
  case cleanRefused => exact fun c s h n h0 h1 => congrArg (kept s) (runCmd_of_fin h (bodyFactoryClean_refused h0 h1))
  case cleanState => exact fun c s h h0 h1 => congrArg (kept s) (runCmd_of_fin h (bodyFactoryClean_state h0 h1))
  case cleans => exact fun c s h h0 h1 h2 h3 => congrArg (kept s) (runCmd_of_fin h (bodyFactoryClean_ok h0 h1 h2 h3))

end Sys2Proof.Machine

namespace Sys2Proof.Machine

/-! SUPPORT. A lane out of idle, and its training (R492, R493). -/

section
variable {s : State} {l : Nat}

theorem State.laneExit_leaves (hl : l < 516) (hst : s.laneSt l = lnIdle) (hwant : s.laneWanted l = true) :
    s.laneExit l = if continuous l then (s.laneCnt l 5).setLaneSt l lnWaking
      else ((s.laneCnt l 5).setLaneSt l lnUp).modLane l (fun x => { x with upAt := s.clk.hubc }) :=
  if_pos (by simp [hl, hst, hwant])

theorem State.laneExit_stays (h : s.laneSt l ≠ lnIdle ∨ s.laneWanted l = false) : s.laneExit l = s :=
  if_neg (by rcases h with h | h <;> simp [h])

theorem State.laneSignal_wakes (hl : l < 516) (hst : s.laneSt l = lnWaking) (hnew : (s.lane l).fromExit = false) :
    s.laneSignal l = if s.reg (lneA l 0x20) = 0 then s.setLaneSt l lnTraining
      else ((s.setReg (lneA l 0x18) (s.reg (lneA l 0x20))).setBit (lneA l 4) 3 true).modLane l
        (fun x => { x with fromExit := true }) :=
  if_pos (by simp [hl, hst, hnew])

theorem State.laneSignal_idle (h : s.laneSt l ≠ lnWaking) : s.laneSignal l = s := if_neg (by simp [h])

theorem State.laneTrained_up (hl : l < 516) (hst : s.laneSt l = lnTraining) (hcont : continuous l = true) (c : W64) :
    s.laneTrained l c = ((s.setReg (lneA l 0x18) c).setReg (lneA l 0x20) c).laneUp l := by
  have hgo : (decide (l < 516) && s.laneSt l == lnTraining) = true := by simp [hl, hst]
  rw [State.laneTrained, if_pos hgo, if_pos hcont]

theorem State.laneTrained_idle (h : s.laneSt l ≠ lnTraining) (c : W64) : s.laneTrained l c = s := if_neg (by simp [h])

/-- The low three bits of a 64-bit register that were written read as written. -/
theorem bitsOf_withBits_state (x v : Nat) : bitsOf (BitVec.ofNat 64 (withBits x 2 0 v)).toNat 2 0 = v % 8 := by
  simp only [bitsOf, withBits, BitVec.toNat_ofNat]
  omega

theorem State.laneSt_setLaneSt (hwf : SMap.wf regReset s.regs = true) (x : Nat) : (s.setLaneSt l x).laneSt l = x % 8 := by
  rw [State.laneSt, State.fld, State.setLaneSt, State.setFld, State.reg_setReg hwf, if_pos rfl, bitsOf_withBits_state]

theorem State.laneSt_modLane (f : Lane → Lane) (k : Nat) : (s.modLane l f).laneSt k = s.laneSt k := rfl

/-- A PON lane that comes up is UP (R490). -/
theorem State.laneUp_laneSt (hwf : SMap.wf regReset s.regs = true) (hl : l < 384) : (s.laneUp l).laneSt l = lnUp := by
  have hburst : ¬continuous l = true := by simp [continuous, Nat.not_le.2 hl]
  simp only [State.laneUp, if_neg hburst]
  exact (State.laneSt_modLane _ l).trans (State.laneSt_setLaneSt hwf lnUp)

end

/-! SUPPORT. Margin measurements (R493, R495). -/

section
variable {s : State} {l v h : Nat}

theorem State.measure_waking (hcont : continuous l = true) (hst : s.laneSt l = lnWaking)
    (hexit : (s.lane l).fromExit = true) {t : State} (ht : t = s.recordMargin l v h) :
    s.measure l v h = if t.vThr l ≤ v ∧ t.hThr l ≤ h then t.laneUp l
      else ((((t.setLaneSt l lnTraining).modLane l (fun x => { x with fromExit := false })).setBit (lneA l 4) 3
        false).laneCnt l 0).raise evLaneRetrain l := by
  subst ht
  exact (if_neg (by simp [hcont])).trans (if_pos ⟨hst, hexit⟩)

theorem State.measure_up (hcont : continuous l = true) (hst : s.laneSt l = lnUp) {w : W64} {t : State}
    (hdraw : s.draw = (w, t)) :
    s.measure l v h = (((t.setReg (lneA l 0x18) w).saveCoef l).recordMargin l v h).judgeMargin l v h := by
  have hnot : ¬(s.laneSt l = lnWaking ∧ (s.lane l).fromExit = true) := fun hw => absurd (hst.symm.trans hw.1) (by decide)
  refine (if_neg (by simp [hcont])).trans ((if_neg hnot).trans ((if_pos hst).trans ?_))
  rw [hdraw]

/-- Only a lane that is waking or UP is measured. -/
theorem State.measure_neither (hw : s.laneSt l ≠ lnWaking) (hu : s.laneSt l ≠ lnUp) : s.measure l v h = s := by
  cases hcont : continuous l with
  | false => exact if_pos (by simp [hcont])
  | true =>
    exact (if_neg (by simp [hcont])).trans ((if_neg (fun hst => hw hst.1)).trans (if_neg hu))

theorem State.measure_idle (hidle : continuous l = false ∨ s.laneSt l = lnTraining ∨ s.laneSt l = lnIdle ∨
    s.laneSt l = lnLost) : s.measure l v h = s := by
  rcases hidle with hcont | hst | hst | hst
  · exact if_pos (by simp [hcont])
  all_goals exact State.measure_neither (by rw [hst]; decide) (by rw [hst]; decide)

/-- One more measurement, or none, toward the alarm and toward its end (R495). -/
def Lane.judged (x : Lane) (low good : Bool) : Lane :=
  { x with low := if low then x.low + 1 else 0, good := if good then x.good + 1 else 0 }

/-- The judgement of a lane on which no alarm stands. -/
theorem State.judgeMargin_quiet (hbit : s.bit (lneA l 4) 5 = false) {y : Lane}
    (hy : y = (s.lane l).judged (decide (v < s.vThr l ∨ h < s.hThr l))
      (decide (s.vThr l + 2 ≤ v ∧ s.hThr l + 4 ≤ h))) :
    s.judgeMargin l v h = if s.marginCount l ≤ y.low then
      (((s.modLane l (fun _ => y)).setBit (lneA l 4) 5 true).laneCnt l 1).raiseOnce evLaneMargin l l
      else s.modLane l (fun _ => y) := by
  subst hy
  exact if_neg (by simp [hbit])

theorem State.judgeMargin_alarms (hbit : s.bit (lneA l 4) 5 = false) (hlow : v < s.vThr l ∨ h < s.hThr l)
    (hn : s.marginCount l ≤ (s.lane l).low + 1) : ∃ g, s.judgeMargin l v h =
      (((s.modLane l (fun x => { x with low := x.low + 1, good := g })).setBit (lneA l 4) 5 true).laneCnt l 1).raiseOnce
        evLaneMargin l l := by
  have hq := State.judgeMargin_quiet (s := s) (l := l) (v := v) (h := h) hbit rfl
  rw [decide_eq_true hlow] at hq
  exact ⟨_, hq.trans (if_pos hn)⟩

theorem State.judgeMargin_passes (hbit : s.bit (lneA l 4) 5 = false) (hv : s.vThr l ≤ v) (hh : s.hThr l ≤ h) :
    ∃ g, s.judgeMargin l v h = s.modLane l (fun x => { x with low := 0, good := g }) := by
  have hq := State.judgeMargin_quiet (s := s) (l := l) (v := v) (h := h) hbit rfl
  rw [decide_eq_false (not_or.2 ⟨Nat.not_lt.2 hv, Nat.not_lt.2 hh⟩)] at hq
  have hn : ¬s.marginCount l ≤ 0 := Nat.not_le.2 (Nat.lt_of_lt_of_le Nat.zero_lt_one (Nat.le_max_left _ _))
  exact ⟨_, hq.trans (if_neg hn)⟩

end

/-! SUPPORT. Lanes that lose alignment, lock or their module (R490, R491, R496, R497). -/

section
variable {s : State} {l : Nat}

theorem laneDown_runs (hl : l < 516) (hst : s.laneSt l = lnUp) : ¬(!(decide (l < 516) && s.laneSt l == lnUp)) = true := by
  simp [hl, hst]

theorem State.laneDown_unaligned (hl : l = 514 ∨ l = 515) (hst : s.laneSt l = lnUp) (hbit : s.bit (lneA l 4) 4 = true) :
    s.laneDown l = ((s.setBit (lneA l 4) 4 false).add32 (lneA l (0x30 + 4 * 3)) 4).raiseOnce evLaneDown l l :=
  (if_neg (laneDown_runs (by omega) hst)).trans (if_pos ⟨by omega, hbit⟩)

theorem State.laneDown_unlocked (hl : l < 512) (hst : s.laneSt l = lnUp) : s.laneDown l =
    ((((s.laneTo l lnTraining).modLane l (fun x => { x with low := 0, good := 0 })).laneCnt l 2).raiseOnce evLaneDown l
      l).laneChanged l := by
  refine (if_neg (laneDown_runs (by omega) hst)).trans ((if_neg (fun h => by omega)).trans ?_)
  exact congrArg (fun u : State => u.laneChanged l) (if_neg (by omega))

theorem State.laneDown_idle (h : s.laneSt l ≠ lnUp) : s.laneDown l = s := if_pos (by simp [h])

/-- A lane as it is lost: its test has ended, and it is neither locked nor aligned. -/
def State.goneLane (s : State) (l : Nat) : State :=
  ((s.endTest l).laneTo l lnLost).modLane l (fun x => { x with low := 0, good := 0, fromExit := false })

theorem State.laneLost_pon (hl : l < 384) (hst : s.laneSt l ≠ lnLost) :
    s.laneLost l = ((s.goneLane l).raise evLaneLost l).outOfService l := by
  have hgo : ¬(!decide (l < 516) || s.laneSt l == lnLost) = true := by simp [hst, Nat.lt_of_lt_of_le hl]
  exact (if_neg hgo).trans (if_pos hl)

theorem State.laneLost_witness (hst : s.laneSt 514 ≠ lnLost) :
    s.laneLost 514 = ((s.goneLane 514).raise evLaneLost 514).arbiterLost := by
  have hgo : ¬(!decide (514 < 516) || s.laneSt 514 == lnLost) = true := by simp [hst]
  exact (if_neg hgo).trans (by
    rw [if_neg (by decide), if_neg (by decide), if_neg (by decide), if_pos rfl]
    rfl)

theorem State.laneLost_idle (h : 516 ≤ l ∨ s.laneSt l = lnLost) : s.laneLost l = s :=
  if_pos (by rcases h with h | h <;> simp [h])

theorem State.chkCount_mgmt : (s.chkCount l).mgmt = s.mgmt := by
  simp only [State.chkCount]
  split <;> split <;> rfl

theorem State.laneTo_mgmt (x : Nat) : (s.laneTo l x).mgmt = s.mgmt := rfl

theorem State.modLane_pair (f : Lane → Lane) : (s.modLane l f).mgmt.pair = s.mgmt.pair := rfl

theorem State.endTest_pair : (s.endTest l).mgmt.pair = s.mgmt.pair := by
  simp only [State.endTest]
  split
  · rw [State.modLane_pair, State.laneTo_mgmt, State.setBit_mgmt, State.setReg_mgmt, State.chkCount_mgmt]
  · rfl

theorem State.goneLane_pair : (s.goneLane l).mgmt.pair = s.mgmt.pair := by
  rw [State.goneLane, State.modLane_pair, State.laneTo_mgmt, State.endTest_pair]

/-- Nothing but ARB_OK changes in the pair when the arbiter is lost (R397). -/
theorem State.arbiterLost_pair : s.arbiterLost.mgmt.pair = { s.mgmt.pair with arbOk := false } := by
  unfold State.arbiterLost
  split
  · rw [State.raise_mgmt_pair]
    rfl
  next hgone =>
    rw [← Bool.eq_false_iff.2 hgone]

theorem State.commaAligned_aligns (hl : l = 514 ∨ l = 515) (hst : s.laneSt l = lnUp) :
    s.commaAligned l = s.setBit (lneA l 4) 4 true := if_pos ⟨hl, hst⟩

theorem State.commaAligned_idle (h : l < 514 ∨ s.laneSt l ≠ lnUp) : s.commaAligned l = s :=
  if_neg (fun ⟨hl, hst⟩ => by
    rcases h with h | h
    · omega
    · exact h hst)

theorem State.syncIn_pair (hst : s.mgmt.pair.st ≠ .unpaired) :
    (s.syncIn l).mgmt.pair = { s.mgmt.pair with lanes := s.mgmt.pair.lanes ||| syncBit l, downAt := none } := by
  rw [State.syncIn, if_neg hst]
  rfl

theorem State.syncRestore_joins (hl : l = 512 ∨ l = 513) (hup : s.laneSt l = lnUp) :
    s.syncRestore l = (s.syncIn l).measureSkew [512, 513] := if_pos ⟨hl, hup⟩

theorem State.syncRestore_idle (h : l < 512 ∨ s.laneSt l ≠ lnUp) : s.syncRestore l = s :=
  if_neg (fun ⟨hl, hst⟩ => by
    rcases h with h | h
    · omega
    · exact h hst)

end

/-- Settles O52: each record is its function of the lane's state on the case's condition. -/
theorem lanesLeaveIdleTrainAndFail : Obligations.LanesLeaveIdleTrainAndFail := by
  refine ⟨?leaves, ?stays, ?wakes, ?noSignal, ?trained, fun s l hwf hl => State.laneUp_laneSt hwf hl, ?noTraining,
    ?measuresWaking, ?measuresUp, fun s l v h h0 h1 h2 => State.judgeMargin_alarms h0 h1 h2,
    fun s l v h h0 h1 h2 => State.judgeMargin_passes h0 h1 h2, ?noMeasure, ?unaligned, ?unlocked, ?notDown, ?lostPon,
    ?lostWitness, ?notLost, ?aligned, ?notAligned, ?restores, ?noRestore⟩
  case leaves => exact fun s l hl hst hwant => congrArg (kept s) (State.laneExit_leaves hl hst hwant)
  case stays => exact fun s l h => congrArg (kept s) (State.laneExit_stays h)
  case wakes => exact fun s l hl hst hnew => congrArg (kept s) (State.laneSignal_wakes hl hst hnew)
  case noSignal => exact fun s l h => congrArg (kept s) (State.laneSignal_idle h)
  case trained => exact fun s l c hl hst hcont => congrArg (kept s) (State.laneTrained_up hl hst hcont c)
  case noTraining => exact fun s l c h => congrArg (kept s) (State.laneTrained_idle h c)
  case measuresWaking =>
    intro s l v h hcont hst hexit t
    have hm := State.measure_waking (v := v) (h := h) hcont hst hexit (t := t) rfl
    exact ⟨fun hv hh => congrArg (kept s) (hm.trans (if_pos ⟨hv, hh⟩)),
      fun hlow => congrArg (kept s) (hm.trans (if_neg (fun ⟨hv, hh⟩ => by omega)))⟩
  case measuresUp => exact fun s l v h w t hcont hst hdraw => congrArg (kept s) (State.measure_up hcont hst hdraw)
  case noMeasure => exact fun s l v h hidle => congrArg (kept s) (State.measure_idle hidle)
  case unaligned => exact fun s l hl hst hbit => congrArg (kept s) (State.laneDown_unaligned hl hst hbit)
  case unlocked => exact fun s l hl hst => congrArg (kept s) (State.laneDown_unlocked hl hst)
  case notDown => exact fun s l h => congrArg (kept s) (State.laneDown_idle h)
  case lostPon => exact fun s l hl hst => congrArg (kept s) (State.laneLost_pon hl hst)
  case lostWitness =>
    intro s hst
    obtain ⟨t, ht, hpair⟩ := pair_of_kept (i := .laneLost 514) (congrArg (kept s) (State.laneLost_witness hst))
    rw [State.arbiterLost_pair, State.raise_mgmt_pair, State.goneLane_pair] at hpair
    exact ⟨t, ht, by rw [hpair], by rw [hpair]⟩
  case notLost => exact fun s l h => congrArg (kept s) (State.laneLost_idle h)
  case aligned => exact fun s l hl hst => congrArg (kept s) (State.commaAligned_aligns hl hst)
  case notAligned => exact fun s l h => congrArg (kept s) (State.commaAligned_idle h)
  case restores =>
    intro s l hl hup hst
    obtain ⟨t, ht, hpair⟩ := pair_of_kept (i := .syncLaneRestore l) (congrArg (kept s) (State.syncRestore_joins hl hup))
    rw [State.measureSkew_pair, State.syncIn_pair hst] at hpair
    exact ⟨t, ht, by rw [hpair], by rw [hpair]⟩
  case noRestore => exact fun s l h => congrArg (kept s) (State.syncRestore_idle h)

end Sys2Proof.Machine

namespace Sys2Proof.Machine

/-! SUPPORT. Uplink ports: CONFIG_PORT, PORT_UP, PORT_DOWN and the end of a drain (R502 to R505). -/

section
variable {c : Desc} {s : State} {u w : Nat}

section
variable (hu : u = c.n0 % 128) (hw : w = 2 ^ (c.n0 / 256 % 4))
include hu hw

theorem bodyConfigPort_inService (h : (s.portsAt u w).any (fun k => (s.uport k).road != .disabled) = true) :
    bodyConfigPort none c s = bad stState s := by
  subst hu hw
  exact if_pos h

theorem bodyConfigPort_removesNone (h : s.portsAt u w = []) (hrem : c.n0 / 2 ^ 15 = 1) :
    bodyConfigPort none c s = ok s := by
  subst hu hw
  simp only [bodyConfigPort, h, List.any_nil, Bool.false_eq_true, if_false, if_pos hrem, List.filter_nil, List.foldl_nil]

theorem bodyConfigPort_sets (h : s.portsAt u w = []) (hset : c.n0 / 2 ^ 15 ≠ 1) : bodyConfigPort none c s =
    ok ((portLanes u w).foldl (fun s l => s.setBit (lneA l 0x8) 6 (c.n0 / 4096 % 2 == 1))
      (s.setUport u { s.uport u with cfg := some (w, c.n0 / 4096 % 2, if c.n1 = 0 then 9728 else c.n1) })) := by
  subst hu hw
  simp only [bodyConfigPort, h, List.any_nil, Bool.false_eq_true, if_false, if_neg hset, List.filter_nil, List.foldl_nil]

theorem bodyConfigPort_removes (h : s.portsAt u w = [u]) (hoff : (s.uport u).road = .disabled)
    (hrem : c.n0 / 2 ^ 15 = 1) : bodyConfigPort none c s = ok (s.removePort u) := by
  have hfree : ¬(s.portsAt u w).any (fun k => (s.uport k).road != .disabled) = true := by simp [h, hoff]
  have honly : (s.portsAt u w).filter (· == u) = [u] := by simp [h]
  subst hu hw
  refine (if_neg hfree).trans ((if_pos hrem).trans ?_)
  rw [honly, List.foldl_cons, List.foldl_nil]

end

section
variable {k : Nat × Nat × Nat}

theorem bodyPortUp_notFound (h : (s.uport c.n0).cfg = none) : bodyPortUp none c s = bad stNotFound s :=
  if_pos (by simp [h])

theorem bodyPortDown_notFound (h : (s.uport c.n0).cfg = none) : bodyPortDown none c s = bad stNotFound s :=
  if_pos (by simp [h])

section
variable (hcfg : (s.uport c.n0).cfg = some k)
include hcfg

theorem portConfigured : ¬(s.uport c.n0).cfg.isNone = true := by simp [hcfg]

theorem bodyPortUp_enabled (h : (s.uport c.n0).road = .enabled) : bodyPortUp none c s = ok s := by
  refine (if_neg (portConfigured hcfg)).trans ?_
  rw [h]

theorem bodyPortUp_disabled (h : (s.uport c.n0).road = .disabled) : bodyPortUp none c s =
    ok ((portLanes c.n0 k.1).foldl (fun s l => s.endTest l) (s.setUport c.n0 { s.uport c.n0 with road := .enabled })) := by
  refine (if_neg (portConfigured hcfg)).trans ?_
  simp only [h, State.portEnable, hcfg, Option.map_some, Option.getD_some]

theorem bodyPortUp_draining (h : (s.uport c.n0).road = .draining) : bodyPortUp none c s =
    (.opened, s.setUport c.n0 { s.uport c.n0 with road := .resuming, upAcc := some c.acc }) := by
  refine (if_neg (portConfigured hcfg)).trans ?_
  simp only [h, Option.isSome_none, Bool.false_eq_true, if_false]

theorem bodyPortDown_disabled (h : (s.uport c.n0).road = .disabled) : bodyPortDown none c s = ok s := by
  refine (if_neg (portConfigured hcfg)).trans ?_
  rw [h]

theorem bodyPortDown_resuming (h : (s.uport c.n0).road = .resuming) : bodyPortDown none c s = bad stState s := by
  refine (if_neg (portConfigured hcfg)).trans ?_
  rw [h]

theorem bodyPortDown_enabled (h : (s.uport c.n0).road = .enabled) : bodyPortDown none c s =
    (.opened, ((s.setUport c.n0 { s.uport c.n0 with road := .draining, downAcc := some c.acc }).freeQueues true
      (fun i => i / 512 == c.n0)).rclkCheckAll) := by
  refine (if_neg (portConfigured hcfg)).trans ?_
  simp only [h, Option.isSome_none, Bool.false_eq_true, if_false]

end

end

theorem State.portDrainEnd_resuming (h : (s.uport u).road = .resuming) : s.portDrainEnd u =
    ((s.setUport u { s.uport u with road := .enabled, downAcc := none, upAcc := none }).completeOk
      (s.uport u).downAcc).completeOk (s.uport u).upAcc := by
  simp only [State.portDrainEnd, h]

theorem State.portDrainEnd_draining {f m : Nat} (h : (s.uport u).road = .draining)
    (hcfg : (s.uport u).cfg = some (w, f, m)) : s.portDrainEnd u =
    (((portLanes u w).foldl (fun s l => s.settleLane l)
      (s.setUport u { s.uport u with road := .disabled, downAcc := none, upAcc := none })).portLinkEval u).completeOk
      (s.uport u).downAcc := by
  simp only [State.portDrainEnd, h, hcfg, Option.map_some, Option.getD_some]

theorem State.portDrainEnd_idle (h : (s.uport u).road = .enabled ∨ (s.uport u).road = .disabled) :
    s.portDrainEnd u = s := by
  rcases h with h | h <;> simp only [State.portDrainEnd, h]

end

/-! SUPPORT. The test of a lane, the injection and the checker (R498 to R501). -/

section
variable {s : State} {l : Nat}

section
variable (a : Nat)

theorem State.unlatch_pon : (s.unlatch a).pon = s.pon := by
  simp only [State.unlatch]
  split <;> rfl

theorem State.unlatch_bit (b i : Nat) : (s.unlatch a).bit b i = s.bit b i := by simp [State.bit]

theorem State.unlatch_laneSt : (s.unlatch a).laneSt l = s.laneSt l := by rw [State.laneSt, State.unlatch_fld, State.laneSt]

theorem State.unlatch_testable : (s.unlatch a).testable l = s.testable l := by
  unfold State.testable State.sub State.portOfLane State.uport
  rw [State.unlatch_pon, State.unlatch_mgmt, State.unlatch_bit, State.unlatch_bit]

end

theorem State.writable_of_stage (h : s.stage = 6) : s.writable = true := by rw [State.writable, h]; rfl

theorem State.not_writable (h : s.stage ≠ 6) : ¬s.writable = true := by simp [State.writable, h]

theorem State.testCtl_ends (hl : l < 516) : s.testCtl l 0 = (s.endTest l).setReg (lneA l 0x50) 0 :=
  (if_neg (Nat.not_le.2 hl)).trans (if_pos rfl)

section
variable {w : Nat} (hl : l < 516) (hw : w % 256 / 16 * 16 + w % 8 ≠ 0)
include hl hw

theorem State.testCtl_refused (h : s.testable l = false ∨ s.laneSt l = lnLost) :
    s.testCtl l w = s.setBit (lneA l 0x50) 8 true :=
  (if_neg (Nat.not_le.2 hl)).trans ((if_neg hw).trans (if_pos (by rcases h with h | h <;> simp [h])))

theorem State.testCtl_tests (htest : s.testable l = true) (hst : s.laneSt l ≠ lnLost) (hval : testValue l w ≠ 0) :
    s.testCtl l w = ((((s.idleLane l).chkCount l).setReg (lneA l 0x50) (BitVec.ofNat 64 (testValue l w))).setBit
      (lneA l 0x58) 16 false).laneTo l lnTest := by
  refine (if_neg (Nat.not_le.2 hl)).trans ((if_neg hw).trans ((if_neg (by simp [htest, hst])).trans ?_))
  exact congrArg (State.laneTo _ l) (if_neg hval)

end

theorem State.inject_sets (hl : l < 516) (hgen : s.bit (lneA l 0x50) 6 = true) (w : Nat) : s.inject l w =
    s.modLane l (fun x => { x with inject := w % 2 ^ 16, spacing := max 1 (w / 2 ^ 16 % 256) }) :=
  if_neg (by simp [Nat.not_le.2 hl, hgen])

theorem State.inject_ignored (hgen : s.bit (lneA l 0x50) 6 = false) (w : Nat) : s.inject l w = s :=
  if_pos (by simp [hgen])

theorem State.chkLock_locks (hl : l < 516) (hst : s.laneSt l = lnTest) (hchk : s.bit (lneA l 0x50) 7 = true) :
    s.chkLock l = s.setBit (lneA l 0x58) 16 true := if_pos (by simp [hl, hst, hchk])

theorem State.chkLock_idle (h : s.laneSt l ≠ lnTest ∨ s.bit (lneA l 0x50) 7 = false) : s.chkLock l = s :=
  if_neg (by rcases h with h | h <;> simp [h])

theorem State.chkLoss_counts (hl : l < 516) (hlock : s.bit (lneA l 0x58) 16 = true) :
    s.chkLoss l = ((s.chkCount l).setBit (lneA l 0x58) 16 false).addHeld (lneA l 0x58) 15 0 1 :=
  if_pos (by simp [hl, hlock])

theorem State.chkLoss_idle (h : s.bit (lneA l 0x58) 16 = false) : s.chkLoss l = s := if_neg (by simp [h])

end

/-- Settles O53: each command's body has the named effect, and each record is its function on the case's condition. -/
theorem uplinkPortsAndLaneTests : Obligations.UplinkPortsAndLaneTests := by
  refine ⟨?inService, ?removesNone, ?configures, ?removes, ?upNotFound, ?upEnabled, ?upDisabled, ?upDraining,
    ?downNotFound, ?downDisabled, ?downResuming, ?downEnabled, ?resumed, ?drained, ?noDrain, ?testEnds, ?testRefused,
    ?tests, ?notOperational, ?injects, ?noGenerator, ?locks, ?noLock, ?loses, ?noLoss⟩
  case inService => exact fun c s h u w hu hw h0 => congrArg (kept s) (runCmd_of_fin h (bodyConfigPort_inService hu hw h0))
  case removesNone =>
    exact fun c s h u w hu hw h0 h1 => congrArg (kept s) (runCmd_of_fin h (bodyConfigPort_removesNone hu hw h0 h1))
  case configures =>
    exact fun c s h u w hu hw h0 h1 => congrArg (kept s) (runCmd_of_fin h (bodyConfigPort_sets hu hw h0 h1))
  case removes =>
    exact fun c s h u w hu hw h0 h1 h2 => congrArg (kept s) (runCmd_of_fin h (bodyConfigPort_removes hu hw h0 h1 h2))
  case upNotFound => exact fun c s h h0 => congrArg (kept s) (runCmd_of_fin h (bodyPortUp_notFound h0))
  case upEnabled => exact fun c s h k h0 h1 => congrArg (kept s) (runCmd_of_fin h (bodyPortUp_enabled h0 h1))
  case upDisabled => exact fun c s h k h0 h1 => congrArg (kept s) (runCmd_of_fin h (bodyPortUp_disabled h0 h1))
  case upDraining => exact fun c s h k h0 h1 => congrArg (kept s) (runCmd_of_opened h (bodyPortUp_draining h0 h1))
  case downNotFound => exact fun c s h h0 => congrArg (kept s) (runCmd_of_fin h (bodyPortDown_notFound h0))
  case downDisabled => exact fun c s h k h0 h1 => congrArg (kept s) (runCmd_of_fin h (bodyPortDown_disabled h0 h1))
  case downResuming => exact fun c s h k h0 h1 => congrArg (kept s) (runCmd_of_fin h (bodyPortDown_resuming h0 h1))
  case downEnabled => exact fun c s h k h0 h1 => congrArg (kept s) (runCmd_of_opened h (bodyPortDown_enabled h0 h1))
  case resumed => exact fun s u h => congrArg (kept s) (State.portDrainEnd_resuming h)
  case drained => exact fun s u w f m h hcfg => congrArg (kept s) (State.portDrainEnd_draining h hcfg)
  case noDrain => exact fun s u h => congrArg (kept s) (State.portDrainEnd_idle h)
  case testEnds =>
    exact fun s l hstage hl => congrArg (kept s) ((if_pos (State.writable_of_stage hstage)).trans (State.testCtl_ends hl))
  case testRefused =>
    intro s l w hstage hl hw h
    rw [← State.unlatch_testable (lneA l 0x50), ← State.unlatch_laneSt (lneA l 0x50)] at h
    exact congrArg (kept s) ((if_pos (State.writable_of_stage hstage)).trans (State.testCtl_refused hl hw h))
  case tests =>
    intro s l w hstage hl hw htest hst hval
    rw [← State.unlatch_testable (lneA l 0x50)] at htest
    rw [← State.unlatch_laneSt (lneA l 0x50)] at hst
    exact congrArg (kept s)
      ((if_pos (State.writable_of_stage hstage)).trans (State.testCtl_tests hl hw htest hst hval))
  case notOperational =>
    exact fun s l w hstage => ⟨congrArg (kept s) (if_neg (State.not_writable hstage)),
      congrArg (kept s) (if_neg (State.not_writable hstage))⟩
  case injects =>
    intro s l w hstage hl hgen
    rw [← State.unlatch_bit (lneA l 0x54)] at hgen
    exact congrArg (kept s) ((if_pos (State.writable_of_stage hstage)).trans (State.inject_sets hl hgen _))
  case noGenerator =>
    intro s l w hgen
    rw [← State.unlatch_bit (lneA l 0x54)] at hgen
    exact congrArg (kept s) (by rw [State.inject_ignored hgen, ite_self])
  case locks => exact fun s l hl hst hchk => congrArg (kept s) (State.chkLock_locks hl hst hchk)
  case noLock => exact fun s l h => congrArg (kept s) (State.chkLock_idle h)
  case loses => exact fun s l hl hlock => congrArg (kept s) (State.chkLoss_counts hl hlock)
  case noLoss => exact fun s l h => congrArg (kept s) (State.chkLoss_idle h)

end Sys2Proof.Machine
